-- ==== Sys2Proof/Word.lean ====
section
/-! DEFINITION. The plain data the commands and the state are written with: bytes, the slot count, stamps,
sparse tables, and the records that describe what the boundary supplies (a module, a management frame header,
measured eyes). No operation stands here but the plainest. -/

namespace Sys2Proof

/-- One byte. -/
abbrev Byte := BitVec 8

/-- A sparse table: (key, value) pairs, keys strictly rising. What an unlisted key reads as is said where it is read. -/
abbrev Tbl (α : Type) := List (Nat × α)

/-- The slot count (R9): frame number (48 bits), slot 0-191, core cycle 0-39. -/
structure Count where
  frame : Nat
  slot : Nat
  cycle : Nat
  deriving DecidableEq, Repr

/-- A stamp (R15): the slot count at registration, then the port ID. -/
structure Stamp where
  frame : Nat
  slot : Nat
  cycle : Nat
  port : Nat
  deriving DecidableEq, Repr

/-- The SPD times of a module, in ps (R137, R138), and the refresh management thresholds of its devices (R150). -/
structure SpdTimes where
  /-- the CAS latencies the module supports, nCK. -/
  cls : List Nat
  tAA : Nat
  tRcd : Nat
  tRp : Nat
  tRas : Nat
  tRc : Nat
  tWr : Nat
  tRrdL : Nat
  tFaw : Nat
  tCcdL : Nat
  tCcdLWr : Nat
  tWtrS : Nat
  tWtrL : Nat
  tRfc1 : Nat
  tRfcSb : Nat
  tRefSbRd : Nat
  tRfmSb : Nat
  tAlert : Nat
  raaimt : Nat
  raammt : Nat
  deriving DecidableEq, Repr

/-- What discovery reads of the module in a bay (R133, R138, R363, R365, R376). -/
structure ModuleInfo where
  /-- 1 RDIMM, 2 MRDIMM. -/
  kind : Nat
  /-- device width in bits, and devices per subchannel. -/
  width : Nat
  devices : Nat
  /-- 0 16 Gb, 1 32 Gb, 2 64 Gb. -/
  density : Nat
  /-- ranks per module, 1, 2 or 4. -/
  ranks : Nat
  /-- the highest data rate of its SPD, MT/s. -/
  rate : Nat
  /-- CRC-32C of the SPD manufacturer, part and serial fields (R376). -/
  serial : Nat
  /-- a save controller answered at discovery (R365). -/
  energyBacked : Bool
  /-- SaveStatus register (R365). -/
  saveStatus : BitVec 8
  /-- the SPD answered, its checksum passed and no field is missing (R138). -/
  spdOk : Bool
  /-- MOD_PG rose within PmicOnTimeout. -/
  powerGood : Bool
  spd : SpdTimes
  deriving DecidableEq, Repr

/-- The request header fields of a management frame (R413), the opcode being the command itself. -/
structure ReqHdr where
  tag : BitVec 8
  index : BitVec 16
  sub : BitVec 8
  flags : BitVec 8
  length : BitVec 16
  offset : BitVec 32
  reserved : BitVec 32
  deriving DecidableEq, Repr

/-- How a request frame fails before it is an access (R410, R412, R415): kind 0, its CRC; kind 1, ended early; kind 2, too
long. Its opcode as received is echoed. -/
structure FrameFault where
  kind   : Fin 3
  opcode : BitVec 8
  deriving DecidableEq, Repr

/-- One Vref of an eye sweep: its code and, bit by bit, the widest passing delay interval (R307). -/
structure EyeRow where
  vref : Nat
  bits : List (Int × Int)
  deriving DecidableEq, Repr

/-- What a training sweep measures (R306-R309): the step that found no passing setting (0: none), the eyes of
step 5 by byte lane and of step 7 by device, the other trims as the 1 040 bytes of R329, the verification. -/
structure SweepResult where
  failStep : Nat
  readEyes : List (List EyeRow)
  writeEyes : List (List EyeRow)
  trims : List (BitVec 8)
  verified : Bool
  quality : List (Nat × Nat × Nat)
  /-- ReadWriteGap and RankSwitchGap found, ps. -/
  gaps : Nat × Nat
  deriving DecidableEq, Repr

/-- What a cross scan of a byte lane records (R316): per bit L, R, T, B, and the strobe edge of each of the two
devices of the lane relative to the gate opening. -/
structure LaneScan where
  edges : List (Int × Int × Int × Int)
  strobe : List Int
  residual : List Nat
  deriving DecidableEq, Repr

/-- What a helper operation brings back (R313, R314). -/
structure HelperResult where
  /-- the devices answered. -/
  responded : Bool
  /-- mode-register bytes, 10 × subchannel + device. -/
  mrData : List (BitVec 8)
  /-- (entry, count) of ErrorCounts. -/
  errors : List (Nat × Nat)
  /-- capture records, 64 bytes each. -/
  captures : List (List (BitVec 8))
  deriving DecidableEq, Repr

end Sys2Proof
end

