-- ==== Sys2Proof/Syntax.lean ====
section
/-! DEFINITION. The commands of the block: one constructor per row of spec/opcode_table.json, with the operands the
boundary supplies. The rows give no bits; the operands are this model's (log 6). Units are bounded by their
types: request ports, channels, Crossings, bays, districts, mirror ports. -/

namespace Sys2Proof

/-- One command. Constructors stand in the order of the table; LAWS.json names each one's row. -/
inductive Instr where
  | cadenceFrameReceived (word : BitVec 192)
  | cadenceAcquireTimeout
  | cadenceClockLoss
  | slotBoundary (phase : Int)
  | frameBoundary (tj : Int)
  | lastFrameCheckpoint
  | classChangeEffect (port : Fin 112)
  | packetReceived (port : Fin 96) (units : List (BitVec 544))
  | requestAdmission (port : Fin 112)
  | read (port : Fin 96) (tag : BitVec 8) (addr : BitVec 46) (len : BitVec 3) (lock : Bool)
  | readRaw (port : Fin 96) (tag : BitVec 8) (addr : BitVec 46) (len : BitVec 3) (lock : Bool)
  | write (port : Fin 96) (tag : BitVec 8) (addr : BitVec 46) (twin lock : Bool) (data : List (BitVec 512))
  | writeMasked (port : Fin 96) (tag : BitVec 8) (addr : BitVec 46) (mask : BitVec 64) (twin lock : Bool) (data : BitVec 512)
  | cas8 (port : Fin 96) (tag : BitVec 8) (addr : BitVec 46) (compare swap : BitVec 64) (twin : Bool)
  | cas16 (port : Fin 96) (tag : BitVec 8) (addr : BitVec 46) (compare swap : BitVec 128) (twin : Bool)
  | fadd8 (port : Fin 96) (tag : BitVec 8) (addr : BitVec 46) (addend : BitVec 64) (twin : Bool)
  | swap8 (port : Fin 96) (tag : BitVec 8) (addr : BitVec 46) (value : BitVec 64) (twin : Bool)
  | fenceTwin (port : Fin 96) (tag : BitVec 8)
  | lockMemberTimeout (port : Fin 96)
  | tagDeadline (port : Fin 112)
  | twinDurableDeadline (port : Fin 112) (tag : BitVec 8)
  | responseEgress (port : Fin 112)
  | lateResponseDrop (port : Fin 112) (tag : BitVec 8)
  | egressCredit (port : Fin 96)
  | queuePointerMismatch (queue : Fin 5) (unit : Fin 96) (which : Fin 5)
  | outputArbitration (x : Fin 64) (out : Fin 7)
  | linkCrcFail (x : Fin 64) (input : Fin 4)
  | linkRetry (x : Fin 64) (input : Fin 4) (pass : Bool)
  | slotTableSwap
  | calendarSwap
  | creditQueueResize (x : Fin 64) (queue : Fin 8)
  | creditChangeTimeout (vnet : Fin 4)
  | formatComplete (d : Fin 4)
  | positionGrant (c : Fin 16)
  | entryGuarded (c : Fin 16)
  | gateWindowClose (c : Fin 16)
  | refreshPlacement (c : Fin 16) (bank : Fin 4) (set : Fin 2) (mr4 : Option Int) (twice : Bool)
  | rfmForced (c : Fin 16) (sub : Fin 2) (rankSlot : Fin 8) (bank : Fin 32)
  | refreshDoubleExit (c : Fin 16)
  | sensorReadingTimeout (c : Fin 16)
  | rowIdleTimeout (c : Fin 16) (sub : Fin 2) (rankSlot : Fin 8) (bank : Fin 32)
  | alertEpisodeStart (c : Fin 16) (sub : Fin 2)
  | alertReleased (c : Fin 16) (sub : Fin 2)
  | alertStuckTimeout (c : Fin 16) (sub : Fin 2)
  | alertEpisodeEnd (c : Fin 16) (sub : Fin 2)
  | powerStateExit (c : Fin 16)
  | powerExitComplete (c : Fin 16)
  | sramUncorrectable (store : Fin 11) (unit : Fin 112) (line : Nat) (both : Bool)
  | sliceArrival (c : Fin 16) (port : Fin 112) (tag : BitVec 8)
  | horizonAdvance (c : Fin 16)
  | fillComplete (c : Fin 16) (line : Nat)
  | writebackComplete (c : Fin 16) (line : Nat)
  | dirtyAgeExpiry (c : Fin 16) (line : Nat)
  | ledgerDirtyAge (c : Fin 16) (line : Nat)
  | claimResource (link : Fin 2) (tag : BitVec 8) (sub : BitVec 8)
  | releaseClaim (link : Fin 2) (tag : BitVec 8) (sub : BitVec 8)
  | keyRecord (words : List (BitVec 32))
  | keyIntakeTimeout
  | keyAdopt (link : Fin 2) (tag : BitVec 8)
  | migrationBurst (d : Fin 4) (page : Nat)
  | deviceErrorLeak (c : Fin 16)
  | erasedDeviceWrite (link : Fin 2) (tag : BitVec 8) (c : Fin 16) (entry : Fin 16) (value : BitVec 8)
  | scrubRun (c : Fin 16)
  | freezeRequest (link : Fin 2) (tag : BitVec 8) (c : Fin 16)
  | resume (link : Fin 2) (tag : BitVec 8) (c : Fin 16)
  | retrainResume (link : Fin 2) (tag : BitVec 8) (c : Fin 16)
  | retireRank (link : Fin 2) (tag : BitVec 8) (c : Fin 16)
  | remoteAnswerTimeout (seq : Nat)
  | repairBurst (entry : Fin 256)
  | frameCloseTimeout (stream : Fin 16)
  | heartbeat (stream : Fin 16)
  | data (port : Fin 16) (bytes : List (BitVec 8))
  | ack (port : Fin 16) (bytes : List (BitVec 8))
  | remoteRequest (port : Fin 16) (bytes : List (BitVec 8))
  | remoteResponse (port : Fin 16) (bytes : List (BitVec 8))
  | hello (port : Fin 16) (bytes : List (BitVec 8))
  | nakDelay (stream : Fin 16)
  | ackInterval
  | helloInterval
  | replayTimeout
  | remoteRequestResend (seq : Nat)
  | remoteServiceExpiry (seq : Nat)
  | pathSilentTimeout (port : Fin 16)
  | breakTimeout (d : Fin 4)
  | pairingTimeout (d : Fin 4)
  | twinSilent (d : Fin 4)
  | applyHorizonAdvance (d : Fin 4)
  | promote (link : Fin 2) (tag : BitVec 8) (d : Fin 4)
  | demote (link : Fin 2) (tag : BitVec 8) (d : Fin 4)
  | demoteComplete (d : Fin 4)
  | mirrorBreak (link : Fin 2) (tag : BitVec 8) (d : Fin 4)
  | fullPush (link : Fin 2) (tag : BitVec 8) (d : Fin 4)
  | resyncPushBurst (d : Fin 4)
  | resyncPullBurst (d : Fin 4)
  | rebuildBurst (c : Fin 16)
  | hardwareSweep (c : Fin 16) (r : SweepResult)
  | trainingComplete (c : Fin 16) (verified : Bool)
  | rank0Fallback (c : Fin 16) (r : SweepResult)
  | trainingDone (link : Fin 2) (tag : BitVec 8) (c : Fin 16) (verified : Bool)
  | firmwareTrainTimeout (c : Fin 16)
  | trainRequest (link : Fin 2) (tag : BitVec 8) (c : Fin 16)
  | mrr (link : Fin 2) (tag : BitVec 8) (c : Fin 16)
  | mrw (link : Fin 2) (tag : BitVec 8) (c : Fin 16) (owned : Bool)
  | mpc (link : Fin 2) (tag : BitVec 8) (c : Fin 16) (owned : Bool)
  | controlWordWrite (link : Fin 2) (tag : BitVec 8) (c : Fin 16) (owned : Bool)
  | readSweep (link : Fin 2) (tag : BitVec 8) (c : Fin 16)
  | writeReadSweep (link : Fin 2) (tag : BitVec 8) (c : Fin 16)
  | writePattern (link : Fin 2) (tag : BitVec 8) (c : Fin 16)
  | levelingSweep (link : Fin 2) (tag : BitVec 8) (c : Fin 16)
  | enableSweep (link : Fin 2) (tag : BitVec 8) (c : Fin 16)
  | helperOpComplete (c : Fin 16) (r : HelperResult)
  | crossScanComplete (c : Fin 16) (lane : Fin 10) (scan : LaneScan)
  | calibrationSwap (c : Fin 16)
  | tempBaselineAdjust (c : Fin 16)
  | calRunRequest (link : Fin 2) (tag : BitVec 8) (c : Fin 16)
  | measurementRunEnd (c : Fin 16)
  | writeTrack (c : Fin 16) (rankSlot : Fin 8) (runtime : Nat) (counts : List Nat)
  | writeRetrain (c : Fin 16) (centres : List Int)
  | refCalibration (c : Fin 16) (targets : List Int)
  | eyeScanRequest (link : Fin 2) (tag : BitVec 8) (c : Fin 16) (value : BitVec 8)
  | senseExcursion (input : Fin 6) (mv : Nat)
  | senseQualified (input : Fin 6) (mv : Nat)
  | rampTimeout
  | railDischarged (rail : Fin 3)
  | dischargeTimeout (rail : Fin 3)
  | supplyRetry (link : Fin 2) (tag : BitVec 8)
  | vddpLowCutoff
  | collapse
  | holdHardStop (mv : Nat)
  | drainComplete
  | rootCommitComplete
  | squallSelfRefreshDone (vinIn : Bool)
  | thawQualify
  | thawComplete
  | saveComplete (bays : BitVec 32)
  | saveCompleteTimeout
  | bayChainScan (bits : BitVec 192)
  | buttonPress (b : Fin 32)
  | insertion (b : Fin 32)
  | discoveryComplete (b : Fin 32) (m : ModuleInfo)
  | pmicOnTimeout (b : Fin 32)
  | pmicOffTimeout (b : Fin 32)
  | startRemoval (link : Fin 2) (tag : BitVec 8) (b : Fin 32)
  | allowRemoval (link : Fin 2) (tag : BitVec 8) (b : Fin 32)
  | ledTest (link : Fin 2) (tag : BitVec 8) (b : Fin 32)
  | ledTestExpiry (b : Fin 32)
  | sidebandTempPoll (b : Fin 32) (reading : Option Int)
  | restoreComplete (b : Fin 32) (status : BitVec 8)
  | restoreTimeout (b : Fin 32)
  | eventPendingClear (link : Fin 2) (tag : BitVec 8) (n : Fin 512)
  | ibiSent
  | eventQueueRead (link : Fin 2) (tag : BitVec 8)
  | eventQueueMark (link : Fin 2) (tag : BitVec 8)
  | eventQueueRewind (link : Fin 2) (tag : BitVec 8)
  | eventQueueRelease (link : Fin 2) (tag : BitVec 8)
  | eventLogClear (link : Fin 2) (tag : BitVec 8)
  | snapshotArm (link : Fin 2) (tag : BitVec 8) (frame : BitVec 64)
  | sampleRelease (link : Fin 2) (tag : BitVec 8) (index : BitVec 16)
  | entdaa (addr : BitVec 7) (twinPid : Bool)
  | rstdaa
  | setnewda (addr : BitVec 7)
  | enec (bits : BitVec 8)
  | disec (bits : BitVec 8)
  | getpid
  | getbcr
  | getdcr
  | getstatus
  | setmwl (len : BitVec 16)
  | setmrl (len : BitVec 16)
  | getmwl
  | getmrl
  | getcaps
  | enthdr0
  | i3cPrivateRead
  | windowDoorbell (value : BitVec 32)
  | objectRead (link : Fin 2) (hdr : ReqHdr)
  | objectWrite (link : Fin 2) (hdr : ReqHdr) (bytes : List (BitVec 8))
  | readBlock (link : Fin 2) (hdr : ReqHdr)
  | writeBlock (link : Fin 2) (hdr : ReqHdr) (bytes : List (BitVec 8))
  | commit (link : Fin 2) (hdr : ReqHdr) (bytes : List (BitVec 8))
  | abort (link : Fin 2) (hdr : ReqHdr)
  | store (link : Fin 2) (hdr : ReqHdr)
  | restore (link : Fin 2) (hdr : ReqHdr) (bytes : List (BitVec 8))
  | stagingIdleTimeout
  | linkRightsConfig (link : Fin 2) (tag : BitVec 8) (value : BitVec 16)
  | profileLock (link : Fin 2) (tag : BitVec 8) (port : Fin 112)
  | enterConfig (link : Fin 2) (tag : BitVec 8)
  | leaveConfig (link : Fin 2) (tag : BitVec 8)
  | blockReset (link : Fin 2) (tag : BitVec 8)
  | testReset (link : Option (Fin 2)) (tag : BitVec 8)
  | enterTest (link : Fin 2) (tag : BitVec 8)
  | memGo (link : Fin 2) (tag : BitVec 8)
  | translateAddress (link : Fin 2) (tag : BitVec 8) (addr : BitVec 64)
  | powerOnReset (straps : BitVec 4)
  | refclkPllLock
  | mramRead
  | moduleDiscoveryDone (mods : List (Option ModuleInfo))
  | trainingStageEnd
  | metadataCheck
  | mirrorStartEnd
  | bypass
  | samplePreload
  | extest (drivesDram : Bool)
  | ddrConnectivity (link : Fin 2) (tag : BitVec 8)
  | sramBist (link : Fin 2) (tag : BitVec 8)
  | mramReadCheck (link : Fin 2) (tag : BitVec 8)
  | mramBist (link : Fin 2) (tag : BitVec 8)
  | mirrorLoopInternal (link : Fin 2) (tag : BitVec 8)
  | mirrorLoopExternal (link : Fin 2) (tag : BitVec 8)
  | testComplete (findings : List (BitVec 8))
  | injectEcc (link : Fin 2) (tag : BitVec 8)
  | injectMac (link : Fin 2) (tag : BitVec 8)
  | injectPointer (link : Fin 2) (tag : BitVec 8)
  | injectCrossingLink (link : Fin 2) (tag : BitVec 8)
  | injectMirrorFrame (link : Fin 2) (tag : BitVec 8)
  | injectDisarm (link : Fin 2) (tag : BitVec 8)
  | slotCountCorrected (a b c : Count)
  | ingressOverrun (port : Fin 96)
  | sramCorrected (store : Fin 11)
  | eyeScanComplete (c : Fin 16) (lane : Fin 10) (map : List (BitVec 8))
  | refusedPressBlinkEnd (b : Fin 32)
  | hdrExit
  | frameCrcError (link : Fin 2) (fault : FrameFault) (hdr : ReqHdr)
  | badOpcode (link : Fin 2) (opcode : BitVec 8) (hdr : ReqHdr)
  | windowBufferWrite (offset : BitVec 12) (bytes : List (BitVec 8))
  | reservedKindFrame (port : Fin 16) (bytes : List (BitVec 8))
  deriving DecidableEq, Repr

end Sys2Proof
end

