-- ==== Sys2Proof/Machine/Table.lean ====
section
/-! DEFINITION. Sparse tables and byte stores in canonical form: keys strictly rising, and no entry equal to what an
unlisted key reads as; little-endian numbers over bytes; small list helpers. -/

namespace Sys2Proof.Machine

/-- The entry at a key. -/
def tfind {α : Type} : Tbl α → Nat → Option α
  | [], _ => none
  | (k', v) :: t, k => if k = k' then some v else tfind t k

/-- What a key reads as, d where it is unlisted. -/
def tget {α : Type} (t : Tbl α) (k : Nat) (d : α) : α := (tfind t k).getD d

/-- Insert or replace, keeping the keys rising. -/
def tins {α : Type} : Tbl α → Nat → α → Tbl α
  | [], k, v => [(k, v)]
  | (k', v') :: t, k, v =>
    if k < k' then (k, v) :: (k', v') :: t
    else if k = k' then (k, v) :: t
    else (k', v') :: tins t k v

/-- Remove a key. -/
def tdel {α : Type} (t : Tbl α) (k : Nat) : Tbl α := t.filter (fun e => e.1 != k)

/-- Write a key; writing what an unlisted key reads as removes the entry. -/
def tput {α : Type} [DecidableEq α] (t : Tbl α) (k : Nat) (v d : α) : Tbl α :=
  if v = d then tdel t k else tins t k v

/-- Keys strictly rising. -/
def tsorted {α : Type} : Tbl α → Bool
  | [] => true
  | [_] => true
  | a :: b :: t => decide (a.1 < b.1) && tsorted (b :: t)

/-- The canonical form of a byte store: addresses rising, no listed zero (an unlisted byte reads 0, log 3). -/
def Memory.wf (m : List Host.Cell) : Bool := tsorted m && m.all (fun e => e.2 != 0)

/-- One byte of a byte store. -/
def ld (m : List Host.Cell) (a : Nat) : Byte := tget m a 0

/-- Write one byte. -/
def sb (m : List Host.Cell) (a : Nat) (b : Byte) : List Host.Cell := tput m a b 0

/-- n bytes from a. -/
def ldN (m : List Host.Cell) (a : Nat) : Nat → List Byte
  | 0 => []
  | n + 1 => ld m a :: ldN m (a + 1) n

/-- Write bytes from a on. -/
def sbN (m : List Host.Cell) (a : Nat) : List Byte → List Host.Cell
  | [] => m
  | b :: bs => sbN (sb m a b) (a + 1) bs

/-- The number whose bytes, least significant first, these are. -/
def leNat : List Byte → Nat
  | [] => 0
  | b :: bs => b.toNat + 256 * leNat bs

/-- The n low bytes of a number, least significant first. -/
def natLe : Nat → Nat → List Byte
  | 0, _ => []
  | n + 1, v => BitVec.ofNat 8 v :: natLe n (v / 256)

/-- A little-endian number of n bytes at a. -/
def ldNat (m : List Host.Cell) (a n : Nat) : Nat := leNat (ldN m a n)

/-- Write v as n bytes at a. -/
def sbNat (m : List Host.Cell) (a n v : Nat) : List Host.Cell := sbN m a (natLe n v)

/-- Bits [hi:lo] of a number. -/
def bits (v hi lo : Nat) : Nat := (v / 2 ^ lo) % 2 ^ (hi + 1 - lo)

/-- Bit i of a number. -/
def bit (v i : Nat) : Bool := v.testBit i

/-- Set or clear bit i of a number. -/
def setBit (v i : Nat) (b : Bool) : Nat :=
  if bit v i = b then v else if b then v + 2 ^ i else v - 2 ^ i

/-- Round up division. -/
def cdiv (a b : Nat) : Nat := (a + b - 1) / b

/-- Bytes of a bit vector, byte i holding bits [8i+7:8i]. -/
def bvBytes {w : Nat} (v : BitVec w) : List Byte := natLe ((w + 7) / 8) v.toNat

/-- The bit vector whose bytes these are. -/
def bytesBv (w : Nat) (bs : List Byte) : BitVec w := BitVec.ofNat w (leNat bs)

/-- Pad or cut a byte list to n bytes. -/
def fit (n : Nat) (bs : List Byte) : List Byte := (bs ++ List.replicate (n - bs.length) 0).take n

/-- Replace the bytes of a list from offset o on. -/
def patch (bs : List Byte) (o : Nat) (new : List Byte) : List Byte :=
  bs.take o ++ new ++ bs.drop (o + new.length)

/-- Number of one bits among the n low bits. -/
def popN : Nat → Nat → Nat
  | 0, _ => 0
  | n + 1, v => (if bit v n then 1 else 0) + popN n v

/-- The lowest bit set among the bits i, i+1, … (n of them). -/
def lowBit : Nat → Nat → Nat → Option Nat
  | 0, _, _ => none
  | n + 1, i, v => if bit v i then some i else lowBit n (i + 1) v

/-- Fold over 0 … n-1 in rising order. -/
def forN {α : Type} (n : Nat) (a : α) (f : Nat → α → α) : α := (List.range n).foldl (fun x i => f i x) a

/-- Insert in a list sorted by a key, after the equals. -/
def sortedInsert {α : Type} (le : α → α → Bool) (x : α) : List α → List α
  | [] => [x]
  | y :: ys => if le y x then y :: sortedInsert le x ys else x :: y :: ys

/-- Insertion sort, stable. -/
def isort {α : Type} (le : α → α → Bool) (l : List α) : List α := l.foldl (fun acc x => sortedInsert le x acc) []

/-- The first element that is least under `lt`. -/
def leastBy {α : Type} (lt : α → α → Bool) : List α → Option α
  | [] => none
  | x :: xs => some (xs.foldl (fun b y => if lt y b then y else b) x)

/-- A two's complement number of w bits. -/
def toSigned (w v : Nat) : Int := if v % 2 ^ w < 2 ^ (w - 1) then (v % 2 ^ w : Nat) else (v % 2 ^ w : Nat) - (2 ^ w : Nat)

/-- The w low bits of an integer. -/
def ofSigned (w : Nat) (i : Int) : Nat := (i % (2 ^ w : Nat)).toNat

end Sys2Proof.Machine
end

