-- ==== Sys2Proof/Machine/Crypto.lean ====
section
/-! DEFINITION. The arithmetic the spec names: CRC-32C (R41), CRC-16/CCITT (R8, R413), AES-256 and GCM (R198,
R268), the 64-bit hash field (R199) and the Reed-Solomon code of a codeword (R228). Bytes are BitVec 8; the inner
loops work on natural numbers. -/

namespace Sys2Proof.Machine

/-- One bit of the reflected CRC-32C register (R41). -/
def crc32cBit (c : Nat) : Nat := if c % 2 = 1 then (c / 2) ^^^ 0x82F63B78 else c / 2

/-- One byte into the reflected register. -/
def crc32cByte (c b : Nat) : Nat := (fun x => crc32cBit (crc32cBit (crc32cBit (crc32cBit
  (crc32cBit (crc32cBit (crc32cBit (crc32cBit x)))))))) (c ^^^ b)

/-- CRC-32C of bytes (R41). -/
def crc32c (bs : List Byte) : Nat := (bs.foldl (fun c b => crc32cByte c b.toNat) 0xFFFFFFFF) ^^^ 0xFFFFFFFF

/-- One bit of the CRC-16 register, polynomial 0x1021. -/
def crc16Bit (c : Nat) : Nat := if 0x8000 ≤ c then ((2 * c) ^^^ 0x11021) % 0x10000 else 2 * c

/-- CRC-16/CCITT of bytes, initial value 0xFFFF (R8, R413). -/
def crc16 (bs : List Byte) : Nat :=
  bs.foldl (fun c b => crc16Bit (crc16Bit (crc16Bit (crc16Bit
    (crc16Bit (crc16Bit (crc16Bit (crc16Bit (c ^^^ (b.toNat * 256)))))))))) 0xFFFF

/-- The AES substitution box, entry i in bits [8i+7:8i]. -/
def aesSboxBits : Nat := 0x16bb54b00f2d99416842e6bf0d89a18cdf2855cee9871e9b948ed9691198f8e19e1dc186b95735610ef6034866b53e708a8bbd4b1f74dde8c6b4a61c2e2578ba08ae7a65eaf4566ca94ed58d6d37c8e779e4959162acd3c25c2406490a3a32e0db0b5ede14b8ee4688902a22dc4f816073195d643d7ea7c41744975fec130ccdd2f3ff1021dab6bcf5389d928f40a351a89f3c507f02f94585334d43fbaaefd0cf584c4a39becb6a5bb1fc20ed00d153842fe329b3d63b52a05a6e1b1a2c830975b227ebe28012079a059618c323c7041531d871f1e5a534ccf73f362693fdb7c072a49cafa2d4adf04759fa7dc982ca76abd7fe2b670130c56f6bf27b777c63

def aesSub (b : Nat) : Nat := (aesSboxBits >>> (8 * b)) % 256

/-- Multiplication by x in the AES field. -/
def aesX (b : Nat) : Nat := if 128 ≤ b then ((2 * b) ^^^ 0x11B) % 256 else 2 * b

/-- Byte i of a block held as a list of 16. -/
def nth0 (l : List Nat) (i : Nat) : Nat := l.getD i 0

/-- Exclusive or, byte by byte. -/
def xorB (a b : List Nat) : List Nat := List.zipWith (fun x y => x ^^^ y) a b

/-- The next words of the AES-256 key schedule: `ws` newest first, i the index of the word to make. -/
def aesKeyWords : Nat → Nat → Nat → List (List Nat) → List (List Nat)
  | 0, _, _, ws => ws
  | n + 1, i, rc, ws =>
    let prev := ws.headD []
    let back := ws.getD 7 []
    let t :=
      if i % 8 = 0 then
        match prev with
        | [a, b, c, d] => [aesSub b ^^^ rc, aesSub c, aesSub d, aesSub a]
        | l => l
      else if i % 8 = 4 then prev.map aesSub else prev
    aesKeyWords n (i + 1) (if i % 8 = 0 then aesX rc else rc) (xorB back t :: ws)

/-- Cut a list into pieces of n, at most k of them. -/
def pieces {α : Type} (n : Nat) : Nat → List α → List (List α)
  | 0, _ => []
  | k + 1, l => if l.isEmpty then [] else l.take n :: pieces n k (l.drop n)

/-- The 15 round keys of a 32-byte key. -/
def aesKeys (key : List Nat) : List (List Nat) :=
  pieces 16 15 ((aesKeyWords 52 8 1 (pieces 4 8 key).reverse).reverse.flatten)

def aesShift (s : List Nat) : List Nat := (List.range 16).map (fun i => nth0 s ((i + 4 * (i % 4)) % 16))

/-- One column of the mixing. -/
def aesMixCol (s : List Nat) : List Nat :=
  match s with
  | [a, b, c, d] =>
    [aesX a ^^^ (aesX b ^^^ b) ^^^ c ^^^ d, a ^^^ aesX b ^^^ (aesX c ^^^ c) ^^^ d,
     a ^^^ b ^^^ aesX c ^^^ (aesX d ^^^ d), (aesX a ^^^ a) ^^^ b ^^^ c ^^^ aesX d]
  | l => l

def aesMix (s : List Nat) : List Nat := ((pieces 4 4 s).map aesMixCol).flatten

/-- AES-256 of a 16-byte block. -/
def aes256 (key block : List Nat) : List Nat :=
  match aesKeys key with
  | [] => block
  | k0 :: ks =>
    let s0 := xorB block k0
    let mids := ks.dropLast
    let s1 := mids.foldl (fun s k => xorB (aesMix (aesShift (s.map aesSub))) k) s0
    xorB (aesShift (s1.map aesSub)) (ks.getLastD [])

/-- Bytes of a number, most significant first. -/
def beBytes (n v : Nat) : List Nat := ((natLe n v).reverse).map BitVec.toNat

/-- The number of bytes most significant first. -/
def beNat (l : List Nat) : Nat := l.foldl (fun a b => 256 * a + b) 0

/-- One step of the GHASH multiplication, V and Z as numbers with the first bit of the block uppermost. -/
def ghashStep (x : Nat) (zv : Nat × Nat) (i : Nat) : Nat × Nat :=
  let z := if x.testBit (127 - i) then zv.1 ^^^ zv.2 else zv.1
  (z, if zv.2 % 2 = 1 then (zv.2 / 2) ^^^ (0xE1 * 2 ^ 120) else zv.2 / 2)

def ghashMul (x y : Nat) : Nat := ((List.range 128).foldl (ghashStep x) (0, y)).1

/-- GHASH of byte blocks under H. -/
def ghash (h : Nat) (blocks : List (List Nat)) : Nat :=
  blocks.foldl (fun y b => ghashMul (y ^^^ beNat ((b ++ List.replicate 16 0).take 16)) h) 0

/-- AES-256-GCM with a 12-byte IV: ciphertext and tag input are given by `gcmCrypt` and `gcmTag`. Block i of the key
stream. -/
def gcmStream (key iv : List Nat) (i : Nat) : List Nat := aes256 key (iv ++ beBytes 4 (i + 2))

/-- Encrypt or decrypt (R268). -/
def gcmCrypt (key iv text : List Nat) : List Nat :=
  let bs := pieces 16 (text.length / 16 + 1) text
  ((List.range bs.length).map (fun i => xorB (bs.getD i []) (gcmStream key iv i))).flatten

/-- The 16-byte tag of a ciphertext and its additional data (R268). -/
def gcmTag (key iv aad ct : List Nat) : List Nat :=
  let h := beNat (aes256 key (List.replicate 16 0))
  let s := ghash h (pieces 16 (aad.length / 16 + 1) aad ++ pieces 16 (ct.length / 16 + 1) ct ++
    [beBytes 8 (8 * aad.length) ++ beBytes 8 (8 * ct.length)])
  xorB (beBytes 16 s) (aes256 key (iv ++ [0, 0, 0, 1]))

/-- Multiplication in GF(2^64), polynomial x^64 + x^4 + x^3 + x + 1 (R199). -/
def gf64Mul (a b : Nat) : Nat :=
  (List.range 64).foldl (fun acc i =>
    let d := 2 * acc
    let d := if d.testBit 64 then (d ^^^ 0x1B) % 2 ^ 64 else d
    if b.testBit (63 - i) then d ^^^ a else d) 0

/-- Multiplication in GF(2^8), polynomial 0x11D (R228). -/
def gf8Mul (a b : Nat) : Nat :=
  (List.range 8).foldl (fun acc i =>
    let d := 2 * acc
    let d := if d.testBit 8 then d ^^^ 0x11D else d
    if b.testBit (7 - i) then d ^^^ a else d) 0

/-- α^k, α = 0x02 (R228). -/
def gf8Pow (k : Nat) : Nat := (List.range k).foldl (fun a _ => gf8Mul a 2) 1

/-- The inverse of a ≠ 0: a^254. -/
def gf8Inv (a : Nat) : Nat := (List.range 253).foldl (fun x _ => gf8Mul x a) a

/-- The discrete logarithm of a, if it is one of α^0 … α^9. -/
def gf8Log10 (a : Nat) : Option Nat := (List.range 10).find? (fun k => gf8Pow k == a)

end Sys2Proof.Machine
end

