-- ==== Sys2Proof/Config.lean ====
section
/-! DEFINITION. What the spec fixes for every part, what one part's fuses and straps fix, and the free values: every
constant without a body is a value the spec leaves open, and nothing in Lean can tell what it is. -/

namespace Sys2Proof

/-- Fuses and straps of one part (R192, R435, R444): the spec gives each a place and no value (log 5). -/
opaque Config.deviceSecret : BitVec 256
opaque Config.serialLow : Nat
opaque Config.serialHigh : Nat
opaque Config.siliconStep : Nat
opaque Config.productionFuse : Bool
opaque Config.secretFused : Bool
opaque Config.strapB : Bool

/-- What a module holds at a line nothing of this model has written (log 4). -/
opaque Config.dramPowerUp : Nat → Nat → BitVec 640
/-- A number the spec leaves open, fresh at each value of the counter `freeCtr` (log 1). -/
opaque Config.freeNat : Nat → Nat
/-- A 64-bit value the spec leaves open, fresh at each value of the counter (log 1). -/
opaque Config.freeWord : Nat → BitVec 64
/-- A bit the spec leaves open (log 1). -/
opaque Config.freeBit : Nat → Bool

/-- The DCK between the last beat of a read and the first of a write on one data bus that the DDR5 command spacing gives
for the preambles and postambles in force (R140), which the spec does not state (log 31). -/
opaque Config.readWriteDck : Nat

/-- The payload of a loopback frame: its blocks above the first, and its bytes by port, frame and place; the spec names an
LFSR without its polynomial, its seed or the frame's length (R465; log 78). -/
opaque Config.loopBlocks : Nat
opaque Config.loopByte : Nat → Nat → Nat → Byte

/-- ConfigHash of a channel with two modules, of their ModuleSerial values (R326): the SPD fields it covers are not part of
this model (log 38). -/
opaque Config.hashPair : Nat → Nat → BitVec 32

/-- Slots in a frame, core cycles in a slot (R7, R10). -/
def Config.slotsPerFrame : Nat := 192
def Config.cyclesPerSlot : Nat := 40

end Sys2Proof
end

