-- ==== Sys2Proof/Machine/Objects.lean ====
section
/-! DEFINITION. The object dictionary (R417, R418, R419, R428, R433, R435): one row for each line of the spec's object
tables, in the pages of the index map; the defaults the tables give; what a write may carry. -/

namespace Sys2Proof.Machine

/-- The values an object's table accepts. -/
inductive Rng where
  | any
  | span (lo hi : Nat)
  | mask (m : Nat)
  | oneOf (l : List Nat)
  | even (lo hi : Nat)
  | zeroOr (lo hi : Nat)
  deriving DecidableEq, Repr

/-- A row of an object table. `ty` is the code of R417, `acc` 0 RO, 1 RW, 2 WO, 3 RWC (R435), `fl` bit 0 frame-staged,
bit 1 persistent, bit 2 link-specific, bit 3 a counter (R395), `lvl` the level a write needs (255 none). -/
structure ObjRow where
  name : String
  lo : Nat
  hi : Nat
  ty : Nat
  acc : Nat
  fl : Nat
  lvl : Nat
  dflt : Nat
  size : Nat
  rng : Rng
  deriving DecidableEq, Repr

def ObjRow.staged (r : ObjRow) : Bool := r.fl % 2 == 1
def ObjRow.persistent (r : ObjRow) : Bool := bit r.fl 1
def ObjRow.linkOwn (r : ObjRow) : Bool := bit r.fl 2
def ObjRow.counts (r : ObjRow) : Bool := bit r.fl 3
def ObjRow.record (r : ObjRow) : Bool := r.ty == 15

/-- A value of a non-RECORD type is within its type (R417): BOOL 0 or 1, FRAME below 2^48, any other within its size. -/
def ObjRow.typeOk (r : ObjRow) (v : Nat) : Bool :=
  if r.ty = 7 then decide (v ≤ 1) else if r.ty = 13 then decide (v < 2 ^ 48) else decide (v < 2 ^ (8 * r.size))

/-- A value is within the object's own range. -/
def Rng.has (g : Rng) (v : Nat) : Bool :=
  match g with
  | .any => true
  | .span a b => decide (a ≤ v) && decide (v ≤ b)
  | .mask m => v &&& m == v
  | .oneOf l => l.contains v
  | .even a b => decide (a ≤ v) && decide (v ≤ b) && v % 2 == 0
  | .zeroOr a b => v == 0 || (decide (a ≤ v) && decide (v ≤ b))

/-- Objects of page 0x1000. -/
def page1000 : List ObjRow :=
 [
  ⟨"ProvisionedId", 0x01, 0x01, 4, 0, 0, 255, 0, 8, .any⟩,
  ⟨"ManufacturerCode", 0x02, 0x02, 2, 0, 0, 255, 966, 2, .any⟩,
  ⟨"PartCode", 0x03, 0x03, 2, 0, 0, 255, 53270, 2, .any⟩,
  ⟨"SiliconStep", 0x04, 0x04, 1, 0, 0, 255, 0, 1, .any⟩,
  ⟨"SerialNumber", 0x05, 0x05, 4, 0, 0, 255, 0, 8, .any⟩,
  ⟨"Instance", 0x06, 0x06, 1, 0, 0, 255, 0, 1, .any⟩,
  ⟨"DictionaryVersion", 0x07, 0x07, 2, 0, 0, 255, 1, 2, .any⟩,
  ⟨"ObjectCount", 0x08, 0x08, 2, 0, 0, 255, 0, 2, .any⟩,
  ⟨"UserTag", 0x09, 0x09, 3, 1, 2, 1, 0, 4, .any⟩,
  ⟨"DirectoryTable", 0x10, 0x10, 15, 0, 0, 255, 0, 0, .any⟩]

/-- Objects of page 0x1100. -/
def page1100 : List ObjRow :=
 [
  ⟨"DynamicAddress", 0x01, 0x01, 1, 0, 0, 255, 0, 1, .any⟩,
  ⟨"IbiEnabled", 0x02, 0x02, 7, 0, 0, 255, 0, 1, .any⟩,
  ⟨"MaxWriteLength", 0x03, 0x03, 2, 0, 0, 255, 1042, 2, .any⟩,
  ⟨"MaxReadLength", 0x04, 0x04, 2, 0, 0, 255, 1042, 2, .any⟩,
  ⟨"WindowRights", 0x05, 0x05, 8, 0, 0, 255, 2, 1, .any⟩,
  ⟨"I3cRights", 0x06, 0x06, 8, 0, 0, 255, 2, 1, .any⟩,
  ⟨"LinkRightsConfig", 0x07, 0x07, 10, 2, 0, 1, 0, 2, .mask 0x303⟩,
  ⟨"LinkRightsLocked", 0x08, 0x08, 7, 0, 0, 255, 0, 1, .any⟩,
  ⟨"FramesReceived", 0x10, 0x11, 4, 0, 8, 255, 0, 8, .any⟩,
  ⟨"FrameCrcErrors", 0x12, 0x13, 4, 0, 8, 255, 0, 8, .any⟩,
  ⟨"FramesRefused", 0x14, 0x15, 4, 0, 8, 255, 0, 8, .any⟩,
  ⟨"ResponsesDiscarded", 0x16, 0x17, 4, 0, 8, 255, 0, 8, .any⟩,
  ⟨"WindowOverruns", 0x18, 0x18, 4, 0, 8, 255, 0, 8, .any⟩]

/-- Objects of page 0x1200. -/
def page1200 : List ObjRow :=
 [
  ⟨"BlockState", 0x01, 0x01, 8, 0, 0, 255, 0, 1, .any⟩,
  ⟨"BlockCommand", 0x02, 0x02, 8, 2, 0, 2, 0, 1, .span 1 5⟩,
  ⟨"StagingOwner", 0x03, 0x03, 8, 0, 0, 255, 0, 1, .any⟩,
  ⟨"StagedObjects", 0x04, 0x04, 2, 0, 0, 255, 0, 2, .any⟩,
  ⟨"CommitPending", 0x05, 0x05, 7, 0, 0, 255, 0, 1, .any⟩,
  ⟨"CommitTargetFrame", 0x06, 0x06, 13, 0, 0, 255, 0, 8, .any⟩,
  ⟨"LastCommitFrame", 0x07, 0x07, 13, 0, 0, 255, 0, 8, .any⟩,
  ⟨"LastCommitOutcome", 0x08, 0x08, 8, 0, 0, 255, 0, 1, .any⟩,
  ⟨"CommitCount", 0x09, 0x09, 4, 0, 8, 255, 0, 8, .any⟩,
  ⟨"StagingIdleTimeout", 0x0A, 0x0A, 3, 1, 2, 1, 1000, 4, .span 10 60000⟩,
  ⟨"StagingTimeouts", 0x0B, 0x0B, 4, 0, 8, 255, 0, 8, .any⟩,
  ⟨"StoreResult", 0x10, 0x10, 8, 0, 0, 255, 0, 1, .any⟩,
  ⟨"StoredSequence", 0x11, 0x11, 3, 0, 0, 255, 0, 4, .any⟩,
  ⟨"StoredEntries", 0x12, 0x12, 2, 0, 0, 255, 0, 2, .any⟩,
  ⟨"StoredConfigResult", 0x13, 0x13, 8, 0, 0, 255, 0, 1, .any⟩,
  ⟨"StartStage", 0x20, 0x20, 8, 0, 0, 255, 0, 1, .any⟩,
  ⟨"LastResetKind", 0x21, 0x21, 8, 0, 0, 255, 0, 1, .any⟩,
  ⟨"StageTimes", 0x22, 0x22, 15, 0, 0, 255, 0, 36, .any⟩,
  ⟨"ConfigHold", 0x23, 0x23, 7, 1, 2, 1, 0, 1, .span 0 1⟩,
  ⟨"TwinPairWait", 0x24, 0x24, 3, 1, 2, 1, 100, 4, .span 0 10000⟩,
  ⟨"AutoForm", 0x25, 0x25, 7, 1, 2, 1, 1, 1, .span 0 1⟩,
  ⟨"StartResult", 0x26, 0x26, 10, 0, 0, 255, 0, 2, .any⟩]

/-- Objects of page 0x1220. -/
def page1220 : List ObjRow :=
 [
  ⟨"MemCommand", 0x01, 0x01, 8, 1, 0, 1, 1, 1, .oneOf [1, 2, 16]⟩,
  ⟨"MemAddress", 0x02, 0x02, 4, 1, 0, 1, 0, 8, .mask 0x3FFFFFFFFFFF⟩,
  ⟨"MemLines", 0x03, 0x03, 1, 1, 0, 1, 1, 1, .span 1 4⟩,
  ⟨"MemGo", 0x04, 0x04, 7, 2, 0, 1, 0, 1, .span 0 1⟩,
  ⟨"MemStatus", 0x05, 0x05, 8, 0, 0, 255, 0, 1, .any⟩,
  ⟨"MemResponseStatus", 0x06, 0x06, 1, 0, 0, 255, 0, 1, .any⟩,
  ⟨"MemStamp", 0x07, 0x07, 12, 0, 0, 255, 0, 9, .any⟩,
  ⟨"MemData", 0x08, 0x08, 15, 1, 0, 1, 0, 256, .any⟩]

/-- Objects of page 0x1230. -/
def page1230 : List ObjRow :=
 [
  ⟨"TranslateAddress", 0x01, 0x01, 4, 2, 0, 0, 0, 8, .mask 0x3FFFFFFFFFFF⟩,
  ⟨"TranslateResult", 0x02, 0x02, 8, 0, 0, 255, 0, 1, .any⟩,
  ⟨"TranslatedDomain", 0x03, 0x03, 14, 0, 0, 255, 0, 8, .any⟩,
  ⟨"TranslatedChannel", 0x04, 0x04, 1, 0, 0, 255, 0, 1, .any⟩,
  ⟨"TranslatedLine", 0x05, 0x05, 4, 0, 0, 255, 0, 8, .any⟩,
  ⟨"TranslatedBay", 0x06, 0x06, 1, 0, 0, 255, 0, 1, .any⟩]

/-- Objects of page 0x1300. -/
def page1300 : List ObjRow :=
 [
  ⟨"CadenceState", 0x01, 0x01, 8, 0, 0, 255, 0, 1, .any⟩,
  ⟨"CurrentFrame", 0x02, 0x02, 13, 0, 0, 255, 0, 8, .any⟩,
  ⟨"CurrentStamp", 0x03, 0x03, 12, 0, 0, 255, 0, 9, .any⟩,
  ⟨"SkippedFrames", 0x04, 0x04, 4, 0, 8, 255, 0, 8, .any⟩,
  ⟨"SlewRemaining", 0x05, 0x05, 4, 0, 0, 255, 0, 8, .any⟩,
  ⟨"CadenceSlewLimit", 0x06, 0x06, 2, 1, 2, 1, 4096, 2, .span 0 65535⟩,
  ⟨"CadenceLossCount", 0x07, 0x07, 3, 0, 8, 255, 0, 4, .any⟩,
  ⟨"SlotCountCorrections", 0x08, 0x08, 3, 0, 8, 255, 0, 4, .any⟩,
  ⟨"HoldoverFrames", 0x09, 0x09, 4, 0, 8, 255, 0, 8, .any⟩,
  ⟨"CadenceFrameErrors", 0x0A, 0x0A, 3, 0, 8, 255, 0, 4, .any⟩]

/-- Objects of page 0x2000. -/
def page2000 : List ObjRow :=
 [
  ⟨"GFixedAllowance", 0x01, 0x01, 2, 0, 0, 255, 280, 2, .any⟩,
  ⟨"GWriteAckBound", 0x02, 0x02, 2, 0, 0, 255, 120, 2, .any⟩,
  ⟨"TwinRttBound", 0x03, 0x03, 3, 1, 1, 1, 5000, 4, .span 1000 50000⟩,
  ⟨"GShareMax", 0x04, 0x04, 1, 1, 1, 1, 50, 1, .span 0 75⟩,
  ⟨"ForecastCommitResult", 0x05, 0x05, 8, 0, 0, 255, 0, 1, .any⟩,
  ⟨"ForecastRejectReason", 0x06, 0x06, 10, 0, 0, 255, 0, 2, .any⟩,
  ⟨"SlotTableCommitPending", 0x07, 0x07, 7, 0, 0, 255, 0, 1, .any⟩]

/-- Objects of page 0x2040. -/
def page2040 : List ObjRow :=
 [
  ⟨"BAvailability", 0x01, 0x01, 2, 0, 0, 255, 0, 2, .any⟩,
  ⟨"UAvailability", 0x02, 0x02, 2, 0, 0, 255, 0, 2, .any⟩,
  ⟨"BBacklog", 0x03, 0x03, 3, 0, 0, 255, 0, 4, .any⟩,
  ⟨"ActiveBWeight", 0x04, 0x04, 3, 0, 0, 255, 0, 4, .any⟩,
  ⟨"LocksAllowed", 0x05, 0x05, 7, 1, 1, 1, 1, 1, .span 0 1⟩]

/-- Objects of page 0x2100. -/
def page2100 : List ObjRow :=
 [
  ⟨"DistrictState", 0x01, 0x01, 8, 0, 0, 255, 0, 1, .any⟩,
  ⟨"DistrictWidth", 0x02, 0x02, 8, 3, 1, 2, 4, 1, .oneOf [0, 4, 8, 16]⟩,
  ⟨"FirstChannel", 0x03, 0x03, 1, 3, 1, 2, 0, 1, .any⟩,
  ⟨"DistrictBase", 0x04, 0x04, 4, 3, 1, 2, 0, 8, .mask 0x3FFFC0000000⟩,
  ⟨"MappingOrder", 0x05, 0x05, 8, 3, 1, 2, 1, 1, .span 0 3⟩,
  ⟨"ProtectionMode", 0x06, 0x06, 8, 3, 1, 2, 0, 1, .span 0 2⟩,
  ⟨"FormatOnForm", 0x07, 0x07, 7, 3, 1, 2, 1, 1, .span 0 1⟩,
  ⟨"DistrictSpan", 0x08, 0x08, 4, 0, 0, 255, 0, 8, .any⟩,
  ⟨"DataLimit", 0x09, 0x09, 4, 0, 0, 255, 0, 8, .any⟩,
  ⟨"CounterRegionBase", 0x0A, 0x0A, 4, 0, 0, 255, 0, 8, .any⟩,
  ⟨"MacRegionBase", 0x0B, 0x0B, 4, 0, 0, 255, 0, 8, .any⟩,
  ⟨"TreeTopLevel", 0x0C, 0x0C, 1, 0, 0, 255, 0, 1, .any⟩,
  ⟨"FormatProgress", 0x0D, 0x0D, 3, 0, 0, 255, 0, 4, .any⟩,
  ⟨"MismatchCause", 0x0E, 0x0E, 10, 0, 0, 255, 0, 2, .any⟩,
  ⟨"LevelBase", 0x10, 0x15, 4, 0, 0, 255, 0, 8, .any⟩,
  ⟨"LevelCopySize", 0x20, 0x25, 4, 0, 0, 255, 0, 8, .any⟩,
  ⟨"LevelNodes", 0x30, 0x35, 4, 0, 0, 255, 0, 8, .any⟩]

/-- Objects of page 0x21F0. -/
def page21F0 : List ObjRow :=
 [
  ⟨"ReformEnable", 0x01, 0x01, 9, 2, 0, 2, 0, 1, .mask 0xF⟩,
  ⟨"DistrictRejectReason", 0x02, 0x02, 10, 0, 0, 255, 0, 2, .any⟩]

/-- Objects of page 0x2200. -/
def page2200 : List ObjRow :=
 [
  ⟨"PortClass", 0x01, 0x01, 8, 1, 1, 1, 2, 1, .span 0 2⟩,
  ⟨"BBound", 0x02, 0x02, 3, 1, 1, 1, 4000, 4, .span 1000 64000⟩,
  ⟨"UBound", 0x03, 0x03, 3, 1, 1, 1, 0, 4, .span 1000 64000⟩,
  ⟨"Weight", 0x04, 0x04, 2, 1, 1, 1, 16, 2, .span 1 65535⟩,
  ⟨"UrgencyBase", 0x05, 0x05, 1, 1, 1, 1, 64, 1, .any⟩,
  ⟨"UrgencySlope", 0x06, 0x06, 1, 1, 1, 1, 2, 1, .span 0 15⟩,
  ⟨"ShaperRate", 0x07, 0x07, 2, 1, 1, 1, 0, 2, .any⟩,
  ⟨"ShaperDepth", 0x08, 0x08, 2, 1, 1, 1, 64, 2, .span 1 4096⟩,
  ⟨"Privileged", 0x09, 0x09, 7, 1, 1, 1, 0, 1, .span 0 1⟩,
  ⟨"GWriteQuota", 0x0B, 0x0B, 2, 1, 1, 1, 64, 2, .span 1 1024⟩,
  ⟨"Outstanding", 0x0C, 0x0C, 2, 0, 0, 255, 0, 2, .any⟩,
  ⟨"TimeoutCount", 0x0D, 0x0D, 3, 0, 8, 255, 0, 4, .any⟩,
  ⟨"LateDropCount", 0x0E, 0x0E, 3, 0, 8, 255, 0, 4, .any⟩,
  ⟨"ClassChangePending", 0x0F, 0x0F, 7, 0, 0, 255, 0, 1, .any⟩,
  ⟨"GUnreservedCount", 0x10, 0x10, 3, 0, 8, 255, 0, 4, .any⟩,
  ⟨"PortEventCause", 0x11, 0x11, 10, 1, 0, 1, 0, 2, .mask 0x1FB⟩,
  ⟨"HeaderCheckErrors", 0x12, 0x12, 3, 0, 8, 255, 0, 4, .any⟩,
  ⟨"DataCheckErrors", 0x13, 0x13, 3, 0, 8, 255, 0, 4, .any⟩,
  ⟨"QueueResets", 0x14, 0x14, 3, 0, 8, 255, 0, 4, .any⟩,
  ⟨"TagCollisionCount", 0x15, 0x15, 3, 0, 8, 255, 0, 4, .any⟩,
  ⟨"EgressStallCount", 0x16, 0x16, 3, 0, 8, 255, 0, 4, .any⟩,
  ⟨"LockBreakCount", 0x17, 0x17, 3, 0, 8, 255, 0, 4, .any⟩,
  ⟨"GBound1", 0x20, 0x2F, 3, 0, 0, 255, 0, 4, .any⟩,
  ⟨"GBound4", 0x30, 0x3F, 3, 0, 0, 255, 0, 4, .any⟩,
  ⟨"PortCounterSelect", 0x40, 0x43, 2, 1, 1, 1, 0, 2, .any⟩,
  ⟨"SampleExponent", 0x44, 0x44, 1, 1, 1, 1, 0, 1, .zeroOr 4 20⟩,
  ⟨"PortCounter", 0x48, 0x4B, 4, 1, 8, 1, 0, 8, .oneOf [0]⟩]

/-- Objects of page 0x2300. -/
def page2300 : List ObjRow :=
 [
  ⟨"ProfileLock", 0x01, 0x01, 7, 1, 0, 2, 0, 1, .span 0 1⟩,
  ⟨"OwnerId", 0x02, 0x02, 1, 1, 1, 2, 0, 1, .any⟩,
  ⟨"DebugPort", 0x03, 0x03, 7, 1, 1, 2, 0, 1, .span 0 1⟩,
  ⟨"WindowBase", 0x10, 0x1F, 4, 1, 1, 2, 0, 8, .mask 0x3FFFFFFFF000⟩,
  ⟨"WindowLimit", 0x20, 0x2F, 4, 1, 1, 2, 0, 8, .mask 0x7FFFFFFFF000⟩,
  ⟨"WindowRights", 0x30, 0x3F, 10, 1, 1, 2, 0, 2, .mask 0xF⟩,
  ⟨"WindowOwner", 0x40, 0x4F, 1, 1, 1, 2, 0, 1, .any⟩]

/-- Objects of page 0x2F00. -/
def page2F00 : List ObjRow :=
 [
  ⟨"CaptureStoreHolder", 0x01, 0x01, 8, 1, 0, 1, 0, 1, .any⟩,
  ⟨"PatternStoreHolder", 0x02, 0x02, 8, 1, 0, 1, 0, 1, .any⟩,
  ⟨"SidebandHolder", 0x03, 0x06, 8, 1, 0, 1, 0, 1, .any⟩,
  ⟨"GateHolder", 0x10, 0x1F, 8, 1, 0, 1, 0, 1, .any⟩,
  ⟨"SamplerPathHolder", 0x20, 0xBF, 8, 1, 0, 1, 0, 1, .any⟩,
  ⟨"ClaimRefusals", 0xC0, 0xC0, 3, 0, 8, 255, 0, 4, .any⟩]

/-- Objects of page 0x3000. -/
def page3000 : List ObjRow :=
 [
  ⟨"ChannelState", 0x01, 0x01, 8, 0, 0, 255, 0, 1, .any⟩,
  ⟨"ChannelDistrict", 0x02, 0x02, 1, 0, 0, 255, 255, 1, .any⟩,
  ⟨"ChannelStateStamp", 0x03, 0x03, 12, 0, 0, 255, 0, 9, .any⟩]

/-- Objects of page 0x3001. -/
def page3001 : List ObjRow :=
 [
  ⟨"CorrectedErrors", 0x01, 0x01, 4, 0, 8, 255, 0, 8, .any⟩,
  ⟨"UncorrectableErrors", 0x02, 0x02, 4, 0, 8, 255, 0, 8, .any⟩,
  ⟨"PoisonReads", 0x03, 0x03, 4, 0, 8, 255, 0, 8, .any⟩,
  ⟨"ErasureCorrections", 0x04, 0x04, 4, 0, 8, 255, 0, 8, .any⟩,
  ⟨"RewritesIssued", 0x05, 0x05, 4, 0, 8, 255, 0, 8, .any⟩,
  ⟨"RewritesDropped", 0x06, 0x06, 4, 0, 8, 255, 0, 8, .any⟩,
  ⟨"DeviceErrorThreshold", 0x07, 0x07, 2, 1, 2, 1, 32, 2, .span 4 4095⟩,
  ⟨"DeviceErrorLeak", 0x08, 0x08, 3, 1, 2, 1, 65536, 4, .span 256 16777216⟩,
  ⟨"ErasedDevice", 0x10, 0x1F, 8, 1, 0, 1, 255, 1, .oneOf [0, 1, 2, 3, 4, 5, 6, 7, 8, 9, 255]⟩,
  ⟨"DeviceErrorCounts", 0x20, 0x20, 15, 0, 0, 255, 0, 320, .any⟩]

/-- Objects of page 0x3002. -/
def page3002 : List ObjRow :=
 [
  ⟨"ScrubPeriodHours", 0x01, 0x01, 2, 1, 3, 1, 24, 2, .span 0 720⟩,
  ⟨"ScrubRunInterval", 0x02, 0x02, 3, 0, 0, 255, 0, 4, .any⟩,
  ⟨"ScrubCursor", 0x03, 0x03, 4, 0, 0, 255, 0, 8, .any⟩,
  ⟨"ScrubRounds", 0x04, 0x04, 4, 0, 8, 255, 0, 8, .any⟩,
  ⟨"ScrubCorrected", 0x05, 0x05, 4, 0, 8, 255, 0, 8, .any⟩,
  ⟨"ScrubUncorrectable", 0x06, 0x06, 4, 0, 8, 255, 0, 8, .any⟩,
  ⟨"ScrubPoisonLines", 0x07, 0x07, 4, 0, 8, 255, 0, 8, .any⟩]

/-- Objects of page 0x3010. -/
def page3010 : List ObjRow :=
 [
  ⟨"TargetDataRate", 0x01, 0x01, 2, 3, 1, 2, 0, 2, .any⟩,
  ⟨"DataRate", 0x02, 0x02, 2, 0, 0, 255, 0, 2, .any⟩,
  ⟨"ModuleKind", 0x03, 0x03, 8, 0, 0, 255, 0, 1, .any⟩,
  ⟨"ClockPeriod", 0x04, 0x04, 3, 0, 0, 255, 0, 4, .any⟩,
  ⟨"CasLatency", 0x05, 0x05, 1, 3, 1, 2, 0, 1, .even 20 128⟩,
  ⟨"CasWriteLatency", 0x06, 0x06, 1, 0, 0, 255, 0, 1, .any⟩,
  ⟨"TRcd", 0x07, 0x07, 3, 3, 1, 2, 0, 4, .span 8000 40000⟩,
  ⟨"TRp", 0x08, 0x08, 3, 3, 1, 2, 0, 4, .span 8000 40000⟩,
  ⟨"TRas", 0x09, 0x09, 3, 3, 1, 2, 0, 4, .span 24000 80000⟩,
  ⟨"TRc", 0x0A, 0x0A, 3, 3, 1, 2, 0, 4, .span 32000 120000⟩,
  ⟨"TWr", 0x0B, 0x0B, 3, 3, 1, 2, 0, 4, .span 20000 60000⟩,
  ⟨"TRtp", 0x0C, 0x0C, 3, 3, 1, 2, 0, 4, .any⟩,
  ⟨"TRrdS", 0x0D, 0x0D, 3, 3, 1, 2, 0, 4, .any⟩,
  ⟨"TRrdL", 0x0E, 0x0E, 3, 3, 1, 2, 0, 4, .any⟩,
  ⟨"TFaw", 0x0F, 0x0F, 3, 3, 1, 2, 0, 4, .any⟩,
  ⟨"TCcdS", 0x10, 0x10, 3, 3, 1, 2, 0, 4, .any⟩,
  ⟨"TCcdL", 0x11, 0x11, 3, 3, 1, 2, 0, 4, .any⟩,
  ⟨"TCcdLWr", 0x12, 0x12, 3, 3, 1, 2, 0, 4, .any⟩,
  ⟨"TWtrS", 0x13, 0x13, 3, 3, 1, 2, 0, 4, .any⟩,
  ⟨"TWtrL", 0x14, 0x14, 3, 3, 1, 2, 0, 4, .any⟩,
  ⟨"TRfc1", 0x15, 0x15, 3, 3, 1, 2, 0, 4, .any⟩,
  ⟨"TRfcSb", 0x16, 0x16, 3, 3, 1, 2, 0, 4, .span 0 250000⟩,
  ⟨"TRefSbRd", 0x17, 0x17, 3, 3, 1, 2, 0, 4, .any⟩,
  ⟨"TRfmSb", 0x18, 0x18, 3, 3, 1, 2, 0, 4, .span 0 250000⟩,
  ⟨"TRefi", 0x19, 0x19, 3, 0, 0, 255, 3900000, 4, .any⟩,
  ⟨"TXp", 0x1A, 0x1A, 3, 3, 1, 2, 0, 4, .any⟩,
  ⟨"TXs", 0x1B, 0x1B, 3, 3, 1, 2, 0, 4, .any⟩,
  ⟨"TZqCal", 0x1C, 0x1C, 3, 3, 1, 2, 0, 4, .any⟩,
  ⟨"TZqLat", 0x1D, 0x1D, 3, 3, 1, 2, 0, 4, .any⟩,
  ⟨"TMrr", 0x1E, 0x1E, 3, 3, 1, 2, 0, 4, .any⟩,
  ⟨"TMrw", 0x1F, 0x1F, 3, 3, 1, 2, 0, 4, .any⟩,
  ⟨"ReadWriteGap", 0x20, 0x20, 3, 3, 1, 2, 0, 4, .span 0 5000⟩,
  ⟨"RankSwitchGap", 0x21, 0x21, 3, 3, 1, 2, 0, 4, .span 0 5000⟩,
  ⟨"AlertLatencyMax", 0x22, 0x22, 3, 3, 1, 2, 0, 4, .any⟩,
  ⟨"TimingMarginOverride", 0x23, 0x23, 7, 3, 1, 3, 0, 1, .span 0 1⟩,
  ⟨"DecisionLead", 0x24, 0x24, 2, 0, 0, 255, 0, 2, .any⟩]

/-- Objects of page 0x3011. -/
def page3011 : List ObjRow :=
 [
  ⟨"RefreshSlot", 0x01, 0x01, 1, 1, 3, 1, 0, 1, .span 0 191⟩,
  ⟨"RefreshPlacementSlots", 0x02, 0x02, 1, 0, 0, 255, 0, 1, .any⟩,
  ⟨"RefreshDoubled", 0x03, 0x03, 7, 0, 0, 255, 0, 1, .any⟩,
  ⟨"RefreshRateOverride", 0x04, 0x04, 8, 1, 1, 1, 0, 1, .span 0 1⟩,
  ⟨"HighTempEnter", 0x05, 0x05, 1, 1, 0, 1, 85, 1, .span 60 95⟩,
  ⟨"HighTempExit", 0x06, 0x06, 1, 1, 0, 1, 80, 1, .span 50 94⟩,
  ⟨"ModuleTempMax", 0x07, 0x07, 5, 0, 0, 255, 0, 2, .any⟩,
  ⟨"RefreshLate", 0x08, 0x08, 4, 0, 8, 255, 0, 8, .any⟩,
  ⟨"RfmIssued", 0x09, 0x09, 4, 0, 8, 255, 0, 8, .any⟩,
  ⟨"RfmForced", 0x0A, 0x0A, 4, 0, 8, 255, 0, 8, .any⟩]

/-- Objects of page 0x3012. -/
def page3012 : List ObjRow :=
 [
  ⟨"PagePolicy", 0x01, 0x01, 8, 1, 1, 1, 0, 1, .span 0 1⟩,
  ⟨"RowIdleTimeout", 0x02, 0x02, 2, 1, 1, 1, 16, 2, .span 1 1023⟩,
  ⟨"WriteHighMark", 0x03, 0x03, 1, 1, 1, 1, 32, 1, .span 4 128⟩,
  ⟨"WriteLowMark", 0x04, 0x04, 1, 1, 1, 1, 8, 1, .span 0 127⟩,
  ⟨"WriteBurstMax", 0x05, 0x05, 1, 1, 1, 1, 64, 1, .span 8 255⟩,
  ⟨"WriteModeEntries", 0x06, 0x06, 4, 0, 8, 255, 0, 8, .any⟩,
  ⟨"RowHits", 0x07, 0x07, 4, 0, 8, 255, 0, 8, .any⟩,
  ⟨"RowMisses", 0x08, 0x08, 4, 0, 8, 255, 0, 8, .any⟩,
  ⟨"RowConflicts", 0x09, 0x09, 4, 0, 8, 255, 0, 8, .any⟩]

/-- Objects of page 0x3013. -/
def page3013 : List ObjRow :=
 [
  ⟨"ChannelPowerState", 0x01, 0x01, 8, 0, 0, 255, 0, 1, .any⟩,
  ⟨"PowerStateEnable", 0x02, 0x02, 10, 1, 1, 1, 7, 2, .mask 0x7⟩,
  ⟨"GActiveFrames", 0x03, 0x03, 2, 1, 1, 1, 64, 2, .span 1 65535⟩,
  ⟨"PdExitLatency", 0x04, 0x04, 3, 0, 0, 255, 0, 4, .any⟩,
  ⟨"SrExitLatency", 0x05, 0x05, 3, 0, 0, 255, 0, 4, .any⟩,
  ⟨"DsrExitLatency", 0x06, 0x06, 3, 0, 0, 255, 0, 4, .any⟩,
  ⟨"StateResidency", 0x07, 0x09, 4, 0, 8, 255, 0, 8, .any⟩,
  ⟨"WakeCount", 0x0A, 0x0A, 4, 0, 8, 255, 0, 8, .any⟩,
  ⟨"LateWakes", 0x0B, 0x0B, 4, 0, 8, 255, 0, 8, .any⟩]

/-- Objects of page 0x3014. -/
def page3014 : List ObjRow :=
 [
  ⟨"AlertEpisodes", 0x01, 0x01, 4, 0, 8, 255, 0, 8, .any⟩,
  ⟨"AlertRetries", 0x02, 0x02, 4, 0, 8, 255, 0, 8, .any⟩,
  ⟨"LastAlertStamp", 0x03, 0x03, 12, 0, 0, 255, 0, 9, .any⟩,
  ⟨"AlertStuckTimeout", 0x04, 0x04, 3, 1, 0, 1, 1000, 4, .span 100 10000⟩,
  ⟨"CaRetryLimit", 0x05, 0x05, 1, 0, 0, 255, 3, 1, .any⟩,
  ⟨"AlertEpisodes", 0x11, 0x11, 4, 0, 8, 255, 0, 8, .any⟩,
  ⟨"AlertRetries", 0x12, 0x12, 4, 0, 8, 255, 0, 8, .any⟩,
  ⟨"LastAlertStamp", 0x13, 0x13, 12, 0, 0, 255, 0, 9, .any⟩]

/-- Objects of page 0x3020. -/
def page3020 : List ObjRow :=
 [
  ⟨"CalendarCommitPending", 0x01, 0x01, 7, 0, 0, 255, 0, 1, .any⟩,
  ⟨"PositionsPerSlot", 0x02, 0x02, 1, 0, 0, 255, 0, 1, .any⟩,
  ⟨"GateStartSlot", 0x03, 0x03, 1, 1, 3, 1, 0, 1, .span 0 191⟩,
  ⟨"GateSlots", 0x04, 0x04, 1, 1, 3, 1, 8, 1, .span 1 96⟩,
  ⟨"RebuildGateSlots", 0x05, 0x05, 1, 1, 3, 1, 128, 1, .span 1 192⟩,
  ⟨"UOpenLimit", 0x06, 0x06, 2, 1, 1, 1, 0, 2, .span 0 1536⟩,
  ⟨"BPortEntryLimit", 0x07, 0x07, 2, 1, 1, 1, 64, 2, .span 4 512⟩,
  ⟨"LookaheadDepth", 0x08, 0x08, 1, 0, 0, 255, 8, 1, .any⟩,
  ⟨"ArbiterMode", 0x09, 0x09, 8, 0, 0, 255, 1, 1, .any⟩,
  ⟨"ArbiterModeOverride", 0x0A, 0x0A, 8, 1, 1, 1, 0, 1, .span 0 2⟩,
  ⟨"VirtualTime", 0x0B, 0x0B, 4, 0, 0, 255, 0, 8, .any⟩,
  ⟨"OpenAllowanceLeft", 0x0C, 0x0C, 2, 0, 0, 255, 0, 2, .any⟩,
  ⟨"ShadowCalendar", 0x10, 0x10, 15, 1, 1, 1, 0, 2048, .any⟩,
  ⟨"ActiveCalendar", 0x11, 0x11, 15, 0, 0, 255, 0, 2048, .any⟩]

/-- Objects of page 0x3021. -/
def page3021 : List ObjRow :=
 [
  ⟨"ContextState", 0x10, 0x13, 8, 0, 0, 255, 0, 1, .any⟩,
  ⟨"ContextProgress", 0x20, 0x23, 4, 0, 0, 255, 0, 8, .any⟩,
  ⟨"ContextTotal", 0x30, 0x33, 4, 0, 0, 255, 0, 8, .any⟩,
  ⟨"ContextPreemptions", 0x40, 0x43, 3, 0, 8, 255, 0, 4, .any⟩]

/-- Objects of page 0x3022. -/
def page3022 : List ObjRow :=
 [
  ⟨"GrantCount", 0x10, 0x7F, 4, 0, 8, 255, 0, 8, .any⟩]

/-- Objects of page 0x3023. -/
def page3023 : List ObjRow :=
 [
  ⟨"WaitTotal", 0x10, 0x7F, 4, 0, 8, 255, 0, 8, .any⟩]

/-- Objects of page 0x3024. -/
def page3024 : List ObjRow :=
 [
  ⟨"LongestWait", 0x10, 0x7F, 4, 1, 8, 1, 0, 8, .oneOf [0]⟩]

/-- Objects of page 0x3025. -/
def page3025 : List ObjRow :=
 [
  ⟨"LockCount", 0x01, 0x01, 4, 0, 8, 255, 0, 8, .any⟩,
  ⟨"LockGuardDeferrals", 0x02, 0x02, 4, 0, 8, 255, 0, 8, .any⟩,
  ⟨"LockOverruns", 0x03, 0x03, 4, 0, 8, 255, 0, 8, .any⟩,
  ⟨"GateBurstDeferrals", 0x04, 0x04, 4, 0, 8, 255, 0, 8, .any⟩,
  ⟨"QueueFullCycles", 0x05, 0x05, 4, 0, 8, 255, 0, 8, .any⟩,
  ⟨"GuardGrants", 0x06, 0x06, 4, 0, 8, 255, 0, 8, .any⟩,
  ⟨"OverdueGReads", 0x07, 0x07, 4, 0, 8, 255, 0, 8, .any⟩]

/-- Objects of page 0x3040. -/
def page3040 : List ObjRow :=
 [
  ⟨"CalibrationState", 0x01, 0x01, 8, 0, 0, 255, 0, 1, .any⟩,
  ⟨"TrainingMode", 0x02, 0x02, 8, 1, 2, 1, 0, 1, .span 0 1⟩,
  ⟨"TrainingKind", 0x03, 0x03, 8, 0, 0, 255, 0, 1, .any⟩,
  ⟨"TrainingResult", 0x04, 0x04, 8, 0, 0, 255, 0, 1, .any⟩,
  ⟨"TrainingFailStep", 0x05, 0x05, 1, 0, 0, 255, 0, 1, .any⟩,
  ⟨"TrainRequest", 0x06, 0x06, 7, 2, 0, 1, 0, 1, .span 0 1⟩,
  ⟨"TrainingDone", 0x07, 0x07, 7, 2, 0, 1, 0, 1, .span 0 1⟩,
  ⟨"FirmwareTrainTimeout", 0x08, 0x08, 3, 1, 2, 1, 2000, 4, .span 100 60000⟩,
  ⟨"CalTemperature", 0x09, 0x09, 5, 0, 0, 255, 0, 2, .any⟩,
  ⟨"LastRunTemp", 0x0A, 0x0A, 5, 0, 0, 255, 0, 2, .any⟩,
  ⟨"CalTempDelta", 0x0B, 0x0B, 1, 1, 2, 1, 6, 1, .span 1 30⟩,
  ⟨"MinEyeWidth", 0x0C, 0x0C, 1, 1, 2, 1, 32, 1, .span 8 96⟩,
  ⟨"MinEyeHeight", 0x0D, 0x0D, 2, 1, 2, 1, 300, 2, .span 50 2000⟩,
  ⟨"CalMinShift", 0x0E, 0x0E, 1, 1, 0, 1, 2, 1, .span 1 16⟩,
  ⟨"CalMaxShift", 0x0F, 0x0F, 1, 1, 0, 1, 16, 1, .span 2 64⟩,
  ⟨"CalScanStep", 0x10, 0x10, 1, 1, 0, 1, 2, 1, .span 1 8⟩,
  ⟨"CalObservationUi", 0x11, 0x11, 1, 1, 0, 1, 16, 1, .span 12 24⟩,
  ⟨"CalSwapSlot", 0x12, 0x12, 1, 1, 3, 1, 0, 1, .span 0 23⟩,
  ⟨"SwapsDone", 0x13, 0x13, 4, 0, 8, 255, 0, 8, .any⟩,
  ⟨"SwapsDeferred", 0x14, 0x14, 4, 0, 8, 255, 0, 8, .any⟩,
  ⟨"WriteTrackFrames", 0x15, 0x15, 2, 1, 0, 1, 16, 2, .span 4 4096⟩,
  ⟨"WriteOscDriftLimit", 0x16, 0x16, 1, 1, 0, 1, 8, 1, .span 2 32⟩,
  ⟨"WriteRetrainFrames", 0x17, 0x17, 3, 1, 0, 1, 1048576, 4, .any⟩,
  ⟨"WriteRetrains", 0x18, 0x18, 4, 0, 8, 255, 0, 8, .any⟩,
  ⟨"RefCalInterval", 0x19, 0x19, 3, 1, 0, 1, 65536, 4, .span 1024 16777216⟩,
  ⟨"CalRunRequest", 0x1A, 0x1A, 7, 2, 0, 1, 0, 1, .span 0 1⟩,
  ⟨"CalEventCause", 0x1B, 0x1B, 10, 1, 0, 1, 0, 2, .mask 0xFF⟩,
  ⟨"EyeScanRequest", 0x1C, 0x1C, 1, 2, 0, 1, 0, 1, .span 1 10⟩,
  ⟨"ActiveTrims", 0x20, 0x20, 15, 0, 0, 255, 0, 1040, .any⟩,
  ⟨"ShadowTrims", 0x21, 0x21, 15, 1, 0, 1, 0, 1040, .any⟩,
  ⟨"StoredTrimSet", 0x22, 0x22, 15, 0, 0, 255, 0, 2048, .any⟩,
  ⟨"Quality", 0x23, 0x23, 15, 0, 0, 255, 0, 640, .any⟩,
  ⟨"EyeScanMap", 0x24, 0x24, 15, 0, 0, 255, 0, 3977, .any⟩]

/-- Objects of page 0x3060. -/
def page3060 : List ObjRow :=
 [
  ⟨"ChannelCounterSelect", 0x01, 0x08, 2, 1, 1, 1, 0, 2, .any⟩,
  ⟨"ChannelCounter", 0x11, 0x18, 4, 1, 8, 1, 0, 8, .oneOf [0]⟩]

/-- Objects of page 0x3061. -/
def page3061 : List ObjRow :=
 [
  ⟨"TopDownCount", 0x01, 0x08, 4, 1, 8, 1, 0, 8, .oneOf [0]⟩]

/-- Objects of page 0x3080. -/
def page3080 : List ObjRow :=
 [
  ⟨"FreezeCause", 0x01, 0x01, 8, 0, 0, 255, 0, 1, .any⟩,
  ⟨"FreezeStamp", 0x02, 0x02, 12, 0, 0, 255, 0, 9, .any⟩,
  ⟨"FreezeLine", 0x03, 0x03, 4, 0, 0, 255, 0, 8, .any⟩,
  ⟨"FreezeTarget", 0x04, 0x04, 1, 0, 0, 255, 0, 1, .any⟩,
  ⟨"FreezeBank", 0x05, 0x05, 1, 0, 0, 255, 0, 1, .any⟩,
  ⟨"FreezeRow", 0x06, 0x06, 3, 0, 0, 255, 0, 4, .any⟩,
  ⟨"FreezeSyndromes", 0x07, 0x07, 15, 0, 0, 255, 0, 16, .any⟩,
  ⟨"DumpState", 0x08, 0x08, 8, 0, 0, 255, 0, 1, .any⟩,
  ⟨"DumpFirstRecord", 0x09, 0x09, 2, 0, 0, 255, 0, 2, .any⟩,
  ⟨"DumpRecords", 0x0A, 0x0A, 2, 0, 0, 255, 0, 2, .any⟩,
  ⟨"PinnedBytes", 0x0B, 0x0B, 3, 0, 0, 255, 0, 4, .any⟩,
  ⟨"RemoteReads", 0x0C, 0x0C, 4, 0, 8, 255, 0, 8, .any⟩,
  ⟨"FrozenAnswers", 0x0D, 0x0D, 4, 0, 8, 255, 0, 8, .any⟩,
  ⟨"ThawAction", 0x10, 0x10, 8, 2, 0, 1, 0, 1, .span 1 3⟩,
  ⟨"ThawRank", 0x11, 0x11, 1, 1, 0, 1, 0, 1, .span 0 7⟩,
  ⟨"ThawResult", 0x12, 0x12, 8, 0, 0, 255, 0, 1, .any⟩,
  ⟨"FreezeOnData", 0x13, 0x13, 7, 1, 2, 1, 1, 1, .span 0 1⟩,
  ⟨"FrozenPinQuota", 0x14, 0x14, 3, 1, 2, 1, 1048576, 4, .span 65536 16777216⟩,
  ⟨"FreezeRequest", 0x15, 0x15, 7, 2, 0, 1, 0, 1, .span 0 1⟩]

/-- Objects of page 0x4000. -/
def page4000 : List ObjRow :=
 [
  ⟨"CrossingEventCause", 0x01, 0x01, 10, 1, 0, 1, 0, 2, .mask 0x7⟩,
  ⟨"LinkReplayCount", 0x02, 0x05, 3, 0, 8, 255, 0, 4, .any⟩,
  ⟨"LinkState", 0x06, 0x06, 10, 0, 0, 255, 0, 2, .any⟩,
  ⟨"CreditSplit", 0x07, 0x07, 4, 1, 1, 1, 578721382704613384, 8, .any⟩,
  ⟨"ShadowSlotTable", 0x10, 0x16, 15, 1, 1, 1, 0, 256, .any⟩,
  ⟨"ActiveSlotTable", 0x20, 0x26, 15, 0, 0, 255, 0, 256, .any⟩,
  ⟨"CrossingCounterSelect", 0x30, 0x31, 2, 1, 1, 1, 0, 2, .any⟩,
  ⟨"CrossingCounter", 0x38, 0x39, 4, 1, 8, 1, 0, 8, .oneOf [0]⟩]

/-- Objects of page 0x5000. -/
def page5000 : List ObjRow :=
 [
  ⟨"KeySource", 0x01, 0x01, 8, 0, 0, 255, 0, 1, .any⟩,
  ⟨"KeyGeneration", 0x02, 0x02, 2, 0, 0, 255, 0, 2, .any⟩,
  ⟨"KeyCheckValue", 0x03, 0x03, 3, 0, 0, 255, 0, 4, .any⟩,
  ⟨"SuccessorCheckValue", 0x04, 0x04, 3, 0, 0, 255, 0, 4, .any⟩,
  ⟨"KeyIntakeResult", 0x05, 0x05, 8, 0, 0, 255, 0, 1, .any⟩,
  ⟨"KeyIntakeTimeout", 0x06, 0x06, 3, 1, 2, 1, 10, 4, .span 1 1000⟩,
  ⟨"ProductionFuse", 0x07, 0x07, 7, 0, 0, 255, 0, 1, .any⟩,
  ⟨"DeviceSecretFused", 0x08, 0x08, 7, 0, 0, 255, 0, 1, .any⟩,
  ⟨"KeyAdopt", 0x09, 0x09, 7, 2, 0, 2, 0, 1, .span 0 1⟩,
  ⟨"RollActive", 0x0A, 0x0A, 7, 0, 0, 255, 0, 1, .any⟩,
  ⟨"RollDistrict", 0x0B, 0x0B, 1, 0, 0, 255, 0, 1, .any⟩,
  ⟨"RollPagesSwept", 0x10, 0x13, 4, 0, 0, 255, 0, 8, .any⟩,
  ⟨"MigrationsStarted", 0x20, 0x23, 4, 0, 8, 255, 0, 8, .any⟩,
  ⟨"PagesSealed", 0x30, 0x33, 3, 0, 8, 255, 0, 4, .any⟩,
  ⟨"SealedListEntries", 0x40, 0x40, 2, 0, 0, 255, 0, 2, .any⟩,
  ⟨"SealedDistricts", 0x41, 0x41, 9, 0, 0, 255, 0, 1, .any⟩,
  ⟨"FormationEpoch", 0x50, 0x53, 2, 0, 0, 255, 0, 2, .any⟩,
  ⟨"YardStallCycles", 0x60, 0x6F, 4, 0, 8, 255, 0, 8, .any⟩]

/-- Objects of page 0x5100. -/
def page5100 : List ObjRow :=
 [
  ⟨"PlazaDirtyHigh", 0x01, 0x01, 1, 1, 1, 1, 16, 1, .span 4 19⟩,
  ⟨"DirtyAgeFrames", 0x02, 0x02, 2, 1, 1, 1, 16, 2, .span 1 4096⟩,
  ⟨"LedgerDirtyAgeFrames", 0x03, 0x03, 2, 1, 1, 1, 64, 2, .span 1 4096⟩,
  ⟨"PlazaDirtyLines", 0x10, 0x1F, 3, 0, 0, 255, 0, 4, .any⟩,
  ⟨"PlazaPinnedLines", 0x20, 0x2F, 3, 0, 0, 255, 0, 4, .any⟩,
  ⟨"PlazaTwinPendingLines", 0x30, 0x3F, 3, 0, 0, 255, 0, 4, .any⟩]

/-- Objects of page 0x5101. -/
def page5101 : List ObjRow :=
 [
  ⟨"LedgerDirtyLines", 0x10, 0x1F, 3, 0, 0, 255, 0, 4, .any⟩,
  ⟨"LedgerPinnedBytes", 0x20, 0x2F, 3, 0, 0, 255, 0, 4, .any⟩]

/-- Objects of page 0x5102. -/
def page5102 : List ObjRow :=
 [
  ⟨"SramCorrected", 0x01, 0x0B, 3, 0, 8, 255, 0, 4, .any⟩,
  ⟨"SramUncorrectable", 0x11, 0x1B, 3, 0, 8, 255, 0, 4, .any⟩,
  ⟨"StoreResets", 0x21, 0x25, 3, 0, 8, 255, 0, 4, .any⟩,
  ⟨"EventsLost", 0x30, 0x30, 3, 0, 8, 255, 0, 4, .any⟩,
  ⟨"ReplayUnderrun", 0x31, 0x31, 7, 1, 0, 1, 0, 1, .oneOf [0]⟩,
  ⟨"EventQueueUnderrun", 0x32, 0x32, 7, 1, 0, 1, 0, 1, .oneOf [0]⟩]

/-- Objects of page 0x5103. -/
def page5103 : List ObjRow :=
 [
  ⟨"LedgerMetaReads", 0x10, 0x1F, 4, 0, 8, 255, 0, 8, .any⟩,
  ⟨"LedgerGMetaReads", 0x20, 0x2F, 4, 0, 8, 255, 0, 8, .any⟩]

/-- Objects of page 0x5104. -/
def page5104 : List ObjRow :=
 [
  ⟨"RepairEntriesUsed", 0x01, 0x01, 2, 0, 0, 255, 0, 2, .any⟩,
  ⟨"RepairTable", 0x02, 0x02, 15, 0, 0, 255, 0, 4096, .any⟩,
  ⟨"LinesUnverified", 0x03, 0x03, 4, 0, 8, 255, 0, 8, .any⟩,
  ⟨"LinesRepairedRemote", 0x04, 0x04, 4, 0, 8, 255, 0, 8, .any⟩,
  ⟨"LinesPoisoned", 0x05, 0x05, 4, 0, 8, 255, 0, 8, .any⟩,
  ⟨"TreeVoteCorrections", 0x06, 0x06, 4, 0, 8, 255, 0, 8, .any⟩,
  ⟨"MajorCeiling", 0x10, 0x13, 4, 0, 0, 255, 0, 8, .any⟩]

/-- Objects of page 0x6000. -/
def page6000 : List ObjRow :=
 [
  ⟨"PeerId", 0x01, 0x01, 4, 0, 0, 255, 0, 8, .any⟩,
  ⟨"SessionEpoch", 0x02, 0x02, 2, 0, 0, 255, 0, 2, .any⟩,
  ⟨"PeerSessionEpoch", 0x03, 0x03, 2, 0, 0, 255, 0, 2, .any⟩,
  ⟨"PortState", 0x04, 0x04, 10, 0, 0, 255, 0, 2, .any⟩,
  ⟨"ReplayTimeout", 0x05, 0x05, 3, 1, 2, 1, 20000, 4, .span 1000 1000000⟩,
  ⟨"BreakTimeout", 0x06, 0x06, 3, 1, 2, 1, 100000, 4, .zeroOr 10000 100000000⟩,
  ⟨"TwinSilentFrames", 0x07, 0x07, 3, 1, 2, 1, 0, 4, .any⟩,
  ⟨"HeartbeatSlots", 0x08, 0x08, 1, 1, 1, 1, 4, 1, .span 1 192⟩,
  ⟨"FrameCloseCycles", 0x09, 0x09, 1, 1, 1, 1, 16, 1, .span 1 255⟩,
  ⟨"AckInterval", 0x0A, 0x0A, 2, 1, 0, 1, 100, 2, .span 20 1000⟩,
  ⟨"NakDelay", 0x0B, 0x0B, 2, 1, 0, 1, 1000, 2, .span 100 20000⟩,
  ⟨"HelloInterval", 0x0C, 0x0C, 2, 1, 0, 1, 1000, 2, .span 200 50000⟩,
  ⟨"PathSilentTimeout", 0x0D, 0x0D, 3, 1, 0, 1, 10000, 4, .span 1000 1000000⟩,
  ⟨"RecoveryRateMax", 0x0E, 0x0E, 2, 1, 1, 1, 256, 2, .span 8 512⟩,
  ⟨"ReplayStoreUsed", 0x0F, 0x0F, 3, 0, 0, 255, 0, 4, .any⟩,
  ⟨"TwinPeerId", 0x10, 0x10, 4, 3, 3, 2, 0, 8, .any⟩,
  ⟨"MirrorCounters", 0x20, 0x28, 4, 0, 8, 255, 0, 8, .any⟩]

/-- Objects of page 0x6010. -/
def page6010 : List ObjRow :=
 [
  ⟨"MirrorRole", 0x01, 0x01, 8, 3, 3, 2, 0, 1, .span 0 2⟩,
  ⟨"TwinDistrict", 0x02, 0x02, 1, 3, 3, 2, 0, 1, .span 0 3⟩,
  ⟨"MirrorState", 0x03, 0x03, 8, 0, 0, 255, 0, 1, .any⟩,
  ⟨"MirrorReason", 0x04, 0x04, 8, 0, 0, 255, 0, 1, .any⟩,
  ⟨"LeadEpoch", 0x05, 0x05, 3, 0, 0, 255, 0, 4, .any⟩,
  ⟨"MirrorCommand", 0x06, 0x06, 8, 2, 0, 1, 0, 1, .span 1 4⟩,
  ⟨"ResyncKind", 0x07, 0x07, 8, 0, 0, 255, 0, 1, .any⟩,
  ⟨"ResyncProgress", 0x08, 0x08, 4, 0, 0, 255, 0, 8, .any⟩,
  ⟨"ResyncTotal", 0x09, 0x09, 4, 0, 0, 255, 0, 8, .any⟩,
  ⟨"ApplyHorizon", 0x0A, 0x0A, 12, 0, 0, 255, 0, 9, .any⟩,
  ⟨"LocalOnlyAcks", 0x0B, 0x0B, 4, 0, 8, 255, 0, 8, .any⟩,
  ⟨"RemoteServed", 0x0C, 0x0C, 4, 0, 8, 255, 0, 8, .any⟩,
  ⟨"BreakCount", 0x0D, 0x0D, 3, 0, 8, 255, 0, 4, .any⟩]

/-- Objects of page 0x6040. -/
def page6040 : List ObjRow :=
 [
  ⟨"TxNextSequence", 0x01, 0x01, 4, 0, 0, 255, 0, 8, .any⟩,
  ⟨"TxAcked", 0x02, 0x02, 4, 0, 0, 255, 0, 8, .any⟩,
  ⟨"RxExpected", 0x03, 0x03, 4, 0, 0, 255, 0, 8, .any⟩,
  ⟨"RxAcked", 0x04, 0x04, 4, 0, 0, 255, 0, 8, .any⟩]

/-- Objects of page 0x6060. -/
def page6060 : List ObjRow :=
 [
  ⟨"RebuildCursor", 0x01, 0x01, 4, 0, 0, 255, 0, 8, .any⟩,
  ⟨"RebuildTotal", 0x02, 0x02, 4, 0, 0, 255, 0, 8, .any⟩,
  ⟨"RebuildLinesRemote", 0x03, 0x03, 4, 0, 8, 255, 0, 8, .any⟩,
  ⟨"RebuildLinesPoisoned", 0x04, 0x04, 4, 0, 8, 255, 0, 8, .any⟩]

/-- Objects of page 0x7000. -/
def page7000 : List ObjRow :=
 [
  ⟨"SupplyState", 0x01, 0x01, 8, 0, 0, 255, 0, 1, .any⟩,
  ⟨"ChatterLimit", 0x02, 0x02, 1, 1, 2, 1, 16, 1, .span 1 255⟩,
  ⟨"RampTimeout", 0x03, 0x03, 2, 1, 2, 1, 50, 2, .span 1 1000⟩,
  ⟨"SupplyCommand", 0x04, 0x04, 8, 2, 0, 1, 0, 1, .oneOf [1]⟩,
  ⟨"RailStuckMask", 0x05, 0x05, 9, 0, 0, 255, 0, 1, .any⟩,
  ⟨"JunctionTemp", 0x06, 0x06, 5, 0, 0, 255, 0, 2, .any⟩,
  ⟨"ChainState", 0x10, 0x10, 8, 0, 0, 255, 0, 1, .any⟩,
  ⟨"ChainScanErrors", 0x11, 0x11, 3, 0, 8, 255, 0, 4, .any⟩,
  ⟨"ButtonDebounce", 0x12, 0x12, 1, 0, 0, 255, 20, 1, .any⟩,
  ⟨"PresenceDebounce", 0x13, 0x13, 2, 1, 2, 1, 100, 2, .span 20 2000⟩,
  ⟨"PmicOnTimeout", 0x14, 0x14, 2, 1, 2, 1, 50, 2, .span 5 1000⟩,
  ⟨"PmicOffTimeout", 0x15, 0x15, 2, 1, 2, 1, 50, 2, .span 5 1000⟩,
  ⟨"RestoreTimeout", 0x16, 0x16, 3, 1, 2, 1, 30000, 4, .span 1000 600000⟩]

/-- Objects of page 0x7001. -/
def page7001 : List ObjRow :=
 [
  ⟨"LowThreshold", 0x01, 0x01, 2, 1, 2, 1, 0, 2, .any⟩,
  ⟨"HighThreshold", 0x02, 0x02, 2, 1, 2, 1, 0, 2, .any⟩,
  ⟨"GlitchFilter", 0x03, 0x03, 1, 1, 2, 1, 0, 1, .span 0 255⟩,
  ⟨"QualifyTime", 0x04, 0x04, 2, 1, 2, 1, 20, 2, .span 1 1000⟩,
  ⟨"DischargeTimeout", 0x05, 0x05, 2, 1, 0, 1, 20, 2, .span 1 1000⟩,
  ⟨"PinVoltage", 0x06, 0x06, 2, 0, 0, 255, 0, 2, .any⟩,
  ⟨"InWindow", 0x07, 0x07, 7, 0, 0, 255, 0, 1, .any⟩,
  ⟨"ChatterCount", 0x08, 0x08, 1, 0, 0, 255, 0, 1, .any⟩,
  ⟨"OutOfWindowCount", 0x09, 0x09, 3, 0, 8, 255, 0, 4, .any⟩,
  ⟨"DividerRatio", 0x0A, 0x0A, 3, 1, 2, 1, 1310720, 4, .any⟩]

/-- Objects of page 0x7010. -/
def page7010 : List ObjRow :=
 [
  ⟨"SquallState", 0x01, 0x01, 8, 0, 0, 255, 0, 1, .any⟩,
  ⟨"SquallCause", 0x02, 0x02, 8, 0, 0, 255, 0, 1, .any⟩,
  ⟨"SquallEnable", 0x03, 0x03, 7, 1, 2, 1, 1, 1, .span 0 1⟩,
  ⟨"HoldCapacitance", 0x04, 0x04, 3, 1, 2, 1, 0, 4, .any⟩,
  ⟨"HoldEfficiency", 0x05, 0x05, 1, 1, 2, 1, 85, 1, .span 50 100⟩,
  ⟨"HoldFloorVoltage", 0x06, 0x06, 3, 1, 2, 1, 0, 4, .any⟩,
  ⟨"EnergyAtCutoff", 0x07, 0x07, 3, 0, 0, 255, 0, 4, .any⟩,
  ⟨"ReserveEnergy", 0x08, 0x08, 3, 0, 0, 255, 0, 4, .any⟩,
  ⟨"EnergySpent", 0x09, 0x09, 3, 0, 0, 255, 0, 4, .any⟩,
  ⟨"ReservePinVoltage", 0x0A, 0x0A, 2, 0, 0, 255, 0, 2, .any⟩,
  ⟨"DrainResult", 0x0B, 0x0B, 10, 0, 0, 255, 0, 2, .any⟩,
  ⟨"LinesDrained", 0x0C, 0x0C, 3, 0, 0, 255, 0, 4, .any⟩,
  ⟨"LinesLeft", 0x0D, 0x0D, 3, 0, 0, 255, 0, 4, .any⟩,
  ⟨"StaleEntries", 0x0E, 0x0E, 2, 0, 0, 255, 0, 2, .any⟩,
  ⟨"ThawQualify", 0x0F, 0x0F, 2, 1, 2, 1, 10, 2, .span 1 1000⟩,
  ⟨"SaveCompleteTimeout", 0x10, 0x10, 3, 1, 2, 1, 10000, 4, .span 100 600000⟩]

/-- Objects of page 0x7011. -/
def page7011 : List ObjRow :=
 [
  ⟨"LineReadEnergy", 0x01, 0x01, 3, 1, 3, 1, 1200, 4, .any⟩,
  ⟨"WriteBackEnergy", 0x02, 0x02, 3, 1, 3, 1, 1350, 4, .any⟩,
  ⟨"OpenWriteBackEnergy", 0x03, 0x03, 3, 1, 3, 1, 1000, 4, .any⟩,
  ⟨"MetaWriteEnergy", 0x04, 0x04, 3, 1, 3, 1, 1200, 4, .any⟩,
  ⟨"MramWordEnergy", 0x05, 0x05, 3, 1, 3, 1, 1000, 4, .any⟩,
  ⟨"SelfRefreshEntryEnergy", 0x06, 0x06, 3, 1, 3, 1, 400000, 4, .any⟩,
  ⟨"ChannelIdlePower", 0x07, 0x07, 3, 1, 3, 1, 750, 4, .any⟩,
  ⟨"CoreStaticPower", 0x08, 0x08, 3, 1, 3, 1, 6000, 4, .any⟩,
  ⟨"RefreshSetEnergy", 0x09, 0x09, 3, 1, 3, 1, 600000, 4, .any⟩,
  ⟨"CapLineEnergy", 0x0A, 0x0A, 3, 1, 3, 1, 1350, 4, .any⟩]

/-- Objects of page 0x7020. -/
def page7020 : List ObjRow :=
 [
  ⟨"SaveLineEnable", 0x01, 0x01, 11, 1, 2, 1, 0, 4, .any⟩,
  ⟨"SaveAsserted", 0x02, 0x02, 11, 0, 0, 255, 0, 4, .any⟩]

/-- Objects of page 0x7030. -/
def page7030 : List ObjRow :=
 [
  ⟨"PowerCap", 0x01, 0x01, 2, 1, 1, 1, 60000, 2, .span 10000 60000⟩,
  ⟨"PowerFloor", 0x02, 0x02, 3, 0, 0, 255, 0, 4, .any⟩,
  ⟨"EffectiveCap", 0x03, 0x03, 3, 0, 0, 255, 60000, 4, .any⟩,
  ⟨"ThermalStepNow", 0x04, 0x04, 8, 0, 0, 255, 0, 1, .any⟩,
  ⟨"ThermalStepTemp", 0x05, 0x08, 1, 1, 1, 1, 0, 1, .any⟩,
  ⟨"CapLimitedFrames", 0x09, 0x09, 4, 0, 8, 255, 0, 8, .any⟩,
  ⟨"FrameBudgetLeft", 0x0A, 0x0A, 3, 0, 0, 255, 0, 4, .any⟩]

/-- Objects of page 0x7040. -/
def page7040 : List ObjRow :=
 [
  ⟨"FailureLog", 0x01, 0x01, 15, 0, 0, 255, 0, 1024, .any⟩]

/-- Objects of page 0x7100. -/
def page7100 : List ObjRow :=
 [
  ⟨"BayState", 0x01, 0x01, 8, 0, 0, 255, 0, 1, .any⟩,
  ⟨"BayInputs", 0x02, 0x02, 9, 0, 0, 255, 0, 1, .any⟩,
  ⟨"LedState", 0x03, 0x03, 8, 0, 0, 255, 0, 1, .any⟩,
  ⟨"BayCommand", 0x04, 0x04, 8, 2, 0, 1, 0, 1, .span 1 3⟩,
  ⟨"BayFaultCause", 0x05, 0x05, 8, 0, 0, 255, 0, 1, .any⟩,
  ⟨"ModuleSerial", 0x06, 0x06, 3, 0, 0, 255, 0, 4, .any⟩,
  ⟨"ModuleGeometry", 0x07, 0x07, 10, 0, 0, 255, 0, 2, .any⟩,
  ⟨"SaveStatus", 0x08, 0x08, 9, 0, 0, 255, 0, 1, .any⟩,
  ⟨"NeedsRebuild", 0x09, 0x09, 7, 0, 0, 255, 0, 1, .any⟩,
  ⟨"RemovalCount", 0x0A, 0x0A, 3, 0, 8, 255, 0, 4, .any⟩]

/-- Objects of page 0x8000. -/
def page8000 : List ObjRow :=
 [
  ⟨"EventEnable", 0x01, 0x01, 7, 1, 2, 1, 1, 1, .span 0 1⟩,
  ⟨"EventSeverity", 0x02, 0x02, 8, 1, 2, 1, 0, 1, .span 0 3⟩,
  ⟨"EventRoute", 0x03, 0x03, 9, 1, 2, 1, 5, 1, .mask 0xF⟩,
  ⟨"EventCount", 0x04, 0x04, 2, 1, 8, 1, 0, 2, .oneOf [0]⟩,
  ⟨"EventPending", 0x05, 0x05, 7, 1, 0, 1, 0, 1, .oneOf [0]⟩,
  ⟨"LastRaiseStamp", 0x06, 0x06, 12, 0, 0, 255, 0, 9, .any⟩]

/-- Objects of page 0x9000. -/
def page9000 : List ObjRow :=
 [
  ⟨"EvtNState", 0x01, 0x01, 7, 0, 0, 255, 0, 1, .any⟩,
  ⟨"PendingSummary", 0x02, 0x02, 15, 1, 0, 1, 0, 64, .any⟩,
  ⟨"EventQueueRead", 0x03, 0x03, 15, 0, 0, 255, 0, 16, .any⟩,
  ⟨"EventQueueControl", 0x04, 0x04, 8, 2, 0, 1, 0, 1, .span 1 3⟩,
  ⟨"EventQueueCount", 0x05, 0x05, 2, 0, 0, 255, 0, 2, .any⟩,
  ⟨"EventLog", 0x06, 0x06, 15, 0, 0, 255, 0, 2048, .any⟩,
  ⟨"EventLogClear", 0x07, 0x07, 7, 2, 0, 2, 0, 1, .span 0 1⟩,
  ⟨"CounterRejectReason", 0x0C, 0x0C, 10, 0, 0, 255, 0, 2, .any⟩]

/-- Objects of page 0x9010. -/
def page9010 : List ObjRow :=
 [
  ⟨"SnapshotAtFrame", 0x01, 0x01, 13, 1, 0, 1, 0, 8, .mask 0xFFFFFFFFFFFF⟩,
  ⟨"SnapshotState", 0x02, 0x02, 8, 0, 0, 255, 0, 1, .any⟩,
  ⟨"SnapshotTakenFrame", 0x03, 0x03, 13, 0, 0, 255, 0, 8, .any⟩,
  ⟨"SnapshotSequence", 0x04, 0x04, 3, 0, 0, 255, 0, 4, .any⟩,
  ⟨"SnapshotSkipped", 0x05, 0x05, 7, 0, 0, 255, 0, 1, .any⟩,
  ⟨"ShadowSelect", 0x06, 0x06, 7, 1, 4, 0, 0, 1, .span 0 1⟩]

/-- Objects of page 0x9020. -/
def page9020 : List ObjRow :=
 [
  ⟨"SamplingEnable", 0x01, 0x01, 7, 1, 0, 1, 0, 1, .span 0 1⟩,
  ⟨"SamplingState", 0x02, 0x02, 8, 0, 0, 255, 0, 1, .any⟩,
  ⟨"SampleWriteIndex", 0x03, 0x03, 2, 0, 0, 255, 0, 2, .any⟩,
  ⟨"SampleReleaseIndex", 0x04, 0x04, 2, 1, 0, 1, 0, 2, .any⟩,
  ⟨"SamplesTaken", 0x05, 0x05, 4, 0, 8, 255, 0, 8, .any⟩,
  ⟨"SamplesDropped", 0x06, 0x06, 4, 0, 8, 255, 0, 8, .any⟩,
  ⟨"SampleRecords", 0x07, 0x07, 15, 0, 0, 255, 0, 262144, .any⟩]

/-- Objects of page 0xA000. -/
def pageA000 : List ObjRow :=
 [
  ⟨"HelperOp", 0x01, 0x01, 8, 2, 0, 1, 0, 1, .span 1 9⟩,
  ⟨"HelperStatus", 0x02, 0x02, 8, 0, 0, 255, 0, 1, .any⟩,
  ⟨"Subchannels", 0x03, 0x03, 9, 1, 0, 1, 3, 1, .mask 0x3⟩,
  ⟨"RankSlot", 0x04, 0x04, 1, 1, 0, 1, 0, 1, .span 0 7⟩,
  ⟨"DeviceMask", 0x05, 0x05, 10, 1, 0, 1, 1023, 2, .mask 0x3FF⟩,
  ⟨"BankGroup", 0x06, 0x06, 1, 1, 0, 1, 0, 1, .span 0 7⟩,
  ⟨"Bank", 0x07, 0x07, 1, 1, 0, 1, 0, 1, .span 0 3⟩,
  ⟨"ColumnLine", 0x08, 0x08, 1, 1, 0, 1, 0, 1, .span 0 127⟩,
  ⟨"MrAddress", 0x09, 0x09, 1, 1, 0, 1, 0, 1, .any⟩,
  ⟨"MrData", 0x0A, 0x0A, 15, 1, 0, 1, 0, 20, .any⟩,
  ⟨"PatternFirst", 0x0B, 0x0B, 2, 1, 0, 1, 0, 2, .span 0 4095⟩,
  ⟨"PatternLines", 0x0C, 0x0C, 2, 1, 0, 1, 1, 2, .span 1 128⟩,
  ⟨"SweepTrim", 0x0D, 0x0D, 8, 1, 0, 1, 0, 1, .span 0 7⟩,
  ⟨"SweepStart", 0x0E, 0x0E, 5, 1, 0, 1, 0, 2, .any⟩,
  ⟨"SweepStep", 0x0F, 0x0F, 5, 1, 0, 1, 1, 2, .any⟩,
  ⟨"SweepSteps", 0x10, 0x10, 1, 1, 0, 1, 1, 1, .span 1 64⟩,
  ⟨"BurstsPerStep", 0x11, 0x11, 2, 1, 0, 1, 64, 2, .span 1 4096⟩,
  ⟨"CaptureLimit", 0x12, 0x12, 2, 1, 0, 1, 0, 2, .span 0 4096⟩,
  ⟨"ErrorCounts", 0x13, 0x13, 15, 0, 0, 255, 0, 10240, .any⟩,
  ⟨"CaptureCount", 0x14, 0x14, 2, 0, 0, 255, 0, 2, .any⟩]

/-- Objects of page 0xA0F0. -/
def pageA0F0 : List ObjRow :=
 [
  ⟨"PatternStoreData", 0x01, 0x01, 15, 1, 0, 1, 0, 262144, .any⟩,
  ⟨"TrainingCapture", 0x02, 0x02, 15, 0, 0, 255, 0, 262144, .any⟩]

/-- Objects of page 0xB000. -/
def pageB000 : List ObjRow :=
 [
  ⟨"TestSelect", 0x01, 0x01, 8, 1, 0, 3, 0, 1, .span 1 6⟩,
  ⟨"TestGo", 0x02, 0x02, 7, 2, 0, 3, 0, 1, .span 0 1⟩,
  ⟨"TestStatus", 0x03, 0x03, 8, 0, 0, 255, 0, 1, .any⟩,
  ⟨"TestChannelMask", 0x04, 0x04, 10, 1, 0, 3, 65535, 2, .any⟩,
  ⟨"TestPortMask", 0x05, 0x05, 10, 1, 0, 3, 65535, 2, .any⟩,
  ⟨"LoopFrames", 0x06, 0x06, 3, 1, 0, 3, 65536, 4, .span 1 4294967295⟩,
  ⟨"TestResult", 0x07, 0x07, 15, 0, 0, 255, 0, 256, .any⟩,
  ⟨"ScanExtestBlocked", 0x08, 0x08, 7, 1, 0, 3, 0, 1, .oneOf [0]⟩]

/-- Objects of page 0xB001. -/
def pageB001 : List ObjRow :=
 [
  ⟨"InjectKind", 0x01, 0x01, 8, 1, 0, 3, 0, 1, .span 0 5⟩,
  ⟨"InjectAddress", 0x02, 0x02, 4, 1, 0, 3, 0, 8, .mask 0x3FFFFFFFFFC0⟩,
  ⟨"InjectQueue", 0x03, 0x03, 8, 1, 0, 3, 0, 1, .any⟩,
  ⟨"InjectUnit", 0x04, 0x04, 2, 1, 0, 3, 0, 2, .any⟩,
  ⟨"InjectPatternLine", 0x05, 0x05, 2, 1, 0, 3, 0, 2, .span 0 4094⟩,
  ⟨"InjectCount", 0x06, 0x06, 2, 1, 0, 3, 1, 2, .span 1 65535⟩,
  ⟨"InjectGo", 0x07, 0x07, 7, 2, 0, 3, 0, 1, .span 0 1⟩,
  ⟨"InjectStatus", 0x08, 0x08, 8, 0, 0, 255, 0, 1, .any⟩,
  ⟨"InjectionsMade", 0x09, 0x09, 3, 0, 8, 255, 0, 4, .any⟩]

/-- The table page and the unit of an index (R433): (page, unit). -/
def pageOf (idx : Nat) : Nat × Nat :=
  if idx < 0x2000 then (idx, 0)
  else if idx < 0x2040 then (idx, 0)
  else if idx < 0x2050 then (0x2040, idx - 0x2040)
  else if idx < 0x2100 then (idx, 0)
  else if idx < 0x2104 then (0x2100, idx - 0x2100)
  else if idx < 0x2200 then (idx, 0)
  else if idx < 0x2270 then (0x2200, idx - 0x2200)
  else if idx < 0x2300 then (0, 0)
  else if idx < 0x2370 then (0x2300, idx - 0x2300)
  else if idx < 0x3000 then (idx, 0)
  else if idx < 0x4000 then (0x3000 + idx % 256, (idx - 0x3000) / 256)
  else if idx < 0x4040 then (0x4000, idx - 0x4000)
  else if idx < 0x6010 then (idx, 0)
  else if idx < 0x6014 then (0x6010, idx - 0x6010)
  else if idx < 0x6040 then (0, 0)
  else if idx < 0x6050 then (0x6040, idx - 0x6040)
  else if idx < 0x6060 then (0, 0)
  else if idx < 0x6070 then (0x6060, idx - 0x6060)
  else if idx < 0x7001 then (idx, 0)
  else if idx < 0x7007 then (0x7001, idx - 0x7001)
  else if idx < 0x7100 then (idx, 0)
  else if idx < 0x7120 then (0x7100, idx - 0x7100)
  else if idx < 0x8000 then (0, 0)
  else if idx < 0x8200 then (0x8000, idx - 0x8000)
  else if idx < 0xA000 then (idx, 0)
  else if idx < 0xA010 then (0xA000, idx - 0xA000)
  else (idx, 0)

/-- The rows of a page. -/
def pageRows (page : Nat) : List ObjRow :=
  if page = 0x1000 then page1000 else
  if page = 0x1100 then page1100 else
  if page = 0x1200 then page1200 else
  if page = 0x1220 then page1220 else
  if page = 0x1230 then page1230 else
  if page = 0x1300 then page1300 else
  if page = 0x2000 then page2000 else
  if page = 0x2040 then page2040 else
  if page = 0x2100 then page2100 else
  if page = 0x21F0 then page21F0 else
  if page = 0x2200 then page2200 else
  if page = 0x2300 then page2300 else
  if page = 0x2F00 then page2F00 else
  if page = 0x3000 then page3000 else
  if page = 0x3001 then page3001 else
  if page = 0x3002 then page3002 else
  if page = 0x3010 then page3010 else
  if page = 0x3011 then page3011 else
  if page = 0x3012 then page3012 else
  if page = 0x3013 then page3013 else
  if page = 0x3014 then page3014 else
  if page = 0x3020 then page3020 else
  if page = 0x3021 then page3021 else
  if page = 0x3022 then page3022 else
  if page = 0x3023 then page3023 else
  if page = 0x3024 then page3024 else
  if page = 0x3025 then page3025 else
  if page = 0x3040 then page3040 else
  if page = 0x3060 then page3060 else
  if page = 0x3061 then page3061 else
  if page = 0x3080 then page3080 else
  if page = 0x4000 then page4000 else
  if page = 0x5000 then page5000 else
  if page = 0x5100 then page5100 else
  if page = 0x5101 then page5101 else
  if page = 0x5102 then page5102 else
  if page = 0x5103 then page5103 else
  if page = 0x5104 then page5104 else
  if page = 0x6000 then page6000 else
  if page = 0x6010 then page6010 else
  if page = 0x6040 then page6040 else
  if page = 0x6060 then page6060 else
  if page = 0x7000 then page7000 else
  if page = 0x7001 then page7001 else
  if page = 0x7010 then page7010 else
  if page = 0x7011 then page7011 else
  if page = 0x7020 then page7020 else
  if page = 0x7030 then page7030 else
  if page = 0x7040 then page7040 else
  if page = 0x7100 then page7100 else
  if page = 0x8000 then page8000 else
  if page = 0x9000 then page9000 else
  if page = 0x9010 then page9010 else
  if page = 0x9020 then page9020 else
  if page = 0xA000 then pageA000 else
  if page = 0xA0F0 then pageA0F0 else
  if page = 0xB000 then pageB000 else
  if page = 0xB001 then pageB001 else
  []

/-- Every page, as (first index, unit stride, units), in ascending order of the first index. -/
def pageList : List Nat := [0x1000, 0x1100, 0x1200, 0x1220, 0x1230, 0x1300, 0x2000, 0x2040, 0x2100, 0x21F0, 0x2200, 0x2300, 0x2F00, 0x3000, 0x3001, 0x3002, 0x3010, 0x3011, 0x3012, 0x3013, 0x3014, 0x3020, 0x3021, 0x3022, 0x3023, 0x3024, 0x3025, 0x3040, 0x3060, 0x3061, 0x3080, 0x4000, 0x5000, 0x5100, 0x5101, 0x5102, 0x5103, 0x5104, 0x6000, 0x6010, 0x6040, 0x6060, 0x7000, 0x7001, 0x7010, 0x7011, 0x7020, 0x7030, 0x7040, 0x7100, 0x8000, 0x9000, 0x9010, 0x9020, 0xA000, 0xA0F0, 0xB000, 0xB001]

/-- A reserved event source has no objects (R379). -/
def reservedSource (n : Nat) : Bool :=
  n == 0 || (decide (7 ≤ n) && decide (n ≤ 0x0F)) || (decide (0x17 ≤ n) && decide (n ≤ 0x1F)) ||
  (decide (0x26 ≤ n) && decide (n ≤ 0x2F)) || (decide (0x35 ≤ n) && decide (n ≤ 0x37)) || n == 0x1EF ||
  decide (0x1FC ≤ n)

/-- Subindices that only some units of a page have: discharge times of the three rails, divider ratios of inputs 4
and 5 (R356), nothing of a reserved source (R379). -/
def unitHas (page unit sub : Nat) : Bool :=
  if page = 0x7001 then
    (if sub = 5 then decide (1 ≤ unit) && decide (unit ≤ 3) else if sub = 0x0A then decide (4 ≤ unit) else true)
  else if page = 0x8000 then !reservedSource unit
  else true

/-- The row of an object, if it exists. -/
def objRow (idx sub : Nat) : Option ObjRow :=
  let pu := pageOf idx
  if unitHas pu.1 pu.2 sub then (pageRows pu.1).find? (fun r => decide (r.lo ≤ sub) && decide (sub ≤ r.hi)) else none

/-- Default severity of an event source (R381). -/
def defaultSeverity (n : Nat) : Nat :=
  if 0x40 ≤ n && n < 0x140 then
    let k := n % 16
    if k == 1 || k == 0xA then 3 else if k == 8 || k == 9 || k == 0xC then 2
    else if k == 0xB || k == 0xD || k == 0xE then 0 else 1
  else if 0x140 ≤ n && n < 0x1E0 then 2
  else if [0x011, 0x020, 0x021, 0x023, 0x034, 0x1E1, 0x1E3, 0x1EA, 0x1F8].contains n then 3
  else if [0x001, 0x003, 0x010, 0x031, 0x033, 0x039, 0x1E2, 0x1E4, 0x1E5, 0x1ED, 0x1F6, 0x1F7, 0x1F9, 0x1FA, 0x1FB].contains n then 2
  else if [0x002, 0x005, 0x006, 0x016, 0x024, 0x025, 0x032, 0x038, 0x03B, 0x1E6, 0x1E7, 0x1F0, 0x1F2, 0x1F5].contains n then 0
  else 1

/-- Low threshold, high threshold (5 mV steps) and glitch filter (0.1 µs steps) of sense input i (R333). -/
def senseDefault (i : Nat) : Nat × Nat × Nat :=
  if i = 0 then (142, 158, 10) else if i = 1 then (228, 252, 20) else if i = 2 then (152, 168, 20)
  else if i = 3 then (209, 231, 20) else if i = 4 then (108, 132, 5) else (80, 300, 50)

/-- The default of an object: its table's value, or the value its table gives by unit. The timing objects that the
tables take from the SPD read 0 until discovery loads them (R138). -/
def objDefault (idx sub : Nat) : Nat :=
  let u := (pageOf idx).2
  let page := (pageOf idx).1
  let d := match objRow idx sub with
    | some r => r.dflt
    | none => 0
  if page = 0x2200 then
    (if sub = 1 && 96 ≤ u then 1 else if sub = 3 then (if 96 ≤ u then 16000 else 4000) else d)
  else if page = 0x2300 then (if sub = 0x20 then 0x400000000000 else if sub = 0x30 then 7 else d)
  else if page = 0x2100 then (if sub = 3 then 4 * u else if sub = 4 then u * 0x40000000000 else d)
  else if page = 0x3020 then (if sub = 3 then (12 * u) % 192 else d)
  else if page = 0x3011 then (if sub = 1 then (12 * u + 13) % 24 else d)
  else if page = 0x3040 then (if sub = 0x12 then (12 * u + 9) % 24 else d)
  else if page = 0x6010 then (if sub = 2 then u else d)
  else if page = 0x7001 then
    (let t := senseDefault u
     if sub = 1 then t.1 else if sub = 2 then t.2.1 else if sub = 3 then t.2.2 else d)
  else if page = 0x7030 then
    (if sub = 5 then 95 else if sub = 6 then 100 else if sub = 7 then 105 else if sub = 8 then 110 else d)
  else if page = 0x8000 then (if sub = 2 then defaultSeverity u else d)
  else d

/-- Key of an object in the object store. -/
def objKey (idx sub : Nat) : Nat := 256 * idx + sub

/-- How many units a page has. -/
def pageUnits (page : Nat) : Nat :=
  if page = 0x2040 || page = 0x6040 || page = 0x6060 || page = 0xA000 then 16
  else if page = 0x2100 || page = 0x6010 then 4
  else if page = 0x2200 || page = 0x2300 then 112
  else if 0x3000 ≤ page && page < 0x3100 then 16
  else if page = 0x4000 then 64
  else if page = 0x7001 then 6
  else if page = 0x7100 then 32
  else if page = 0x8000 then 512
  else 1

/-- The index of unit u of a page. -/
def pageIndex (page u : Nat) : Nat := if 0x3000 ≤ page && page < 0x3100 then page + 256 * u else page + u

/-- Objects of one unit: (index, subindex, row). -/
def unitObjects (page u : Nat) : List (Nat × Nat × ObjRow) :=
  (pageRows page).flatMap (fun r =>
    ((List.range (r.hi + 1 - r.lo)).map (fun k => (pageIndex page u, r.lo + k, r))).filter
      (fun o => unitHas page u o.2.1))

/-- Every object in ascending index and subindex order (R435). The channel pages interleave by channel. -/
def allObjects : List (Nat × Nat × ObjRow) :=
  let chanPages := pageList.filter (fun p => 0x3000 ≤ p && p < 0x3100)
  let before := pageList.filter (fun p => p < 0x3000)
  let after := pageList.filter (fun p => 0x3100 ≤ p)
  let each := fun (p : Nat) => (List.range (pageUnits p)).flatMap (unitObjects p)
  before.flatMap each ++ (List.range 16).flatMap (fun c => chanPages.flatMap (fun p => unitObjects p c)) ++
    after.flatMap each

/-- ObjectCount (R434). -/
def objectCount : Nat := allObjects.length

end Sys2Proof.Machine
end

