-- ==== Sys2Proof/Machine/State.lean ====
section
/-! DEFINITION. The state of the block as plain data, the reasons a step can stop, and the state after reset.
Every object of the dictionary that is only a stored value has its home in `State.objs` (key 256 × index + subindex;
an unlisted object holds the default of its table); the state machines, queues and stores have fields of their own. -/

namespace Sys2Proof.Machine

/-- Why the block would stop. Raised by no meaning: the block has no undefined command (safe). -/
inductive Fault where
  /-- Kept so that the interface has a fault to name; no meaning raises it (safe). -/
  | none
  deriving DecidableEq, Repr

/-- Why a command has no meaning. -/
inductive Refusal where
  /-- Raised by an arm of exec whose command has no meaning yet (safe). -/
  | notModelled (mnemonic : String)
  deriving DecidableEq, Repr

/-- Cadence states (R11), object 0x1300.01. -/
inductive CadSt where
  | acquiring | locked | holdover | slewing | conflict
  deriving DecidableEq, Repr

/-- Port classes (R39). -/
inductive Cls where
  | g | u | b
  deriving DecidableEq, Repr

/-- Block states (R437, R441). -/
inductive BlockSt where
  | off | sequencing | resetPhase | config | running | recovery | draining | thawing | test
  deriving DecidableEq, Repr

/-- Channel states (R440, R457). -/
inductive ChanSt where
  | untrained | training | running | frozen | fenced | absent | rebuilding | retired
  deriving DecidableEq, Repr

/-- District states (R105). -/
inductive DistSt where
  | unformed | formatting | formed | degraded | mismatch
  deriving DecidableEq, Repr

/-- Mirror states (R283). -/
inductive MirSt where
  | off | connecting | resyncing | inSync | broken | conflict
  deriving DecidableEq, Repr

/-- Supply states (R336, R356). -/
inductive SupSt where
  | off | rampVaa | rampVddp | rampVddq | good | aborted | downVddq | downVddp | downVaa | down | incomplete
  deriving DecidableEq, Repr

/-- Squall states (R352, R357). -/
inductive SquallSt where
  | idle | draining | committing | selfRefresh | holding | saving | sequencing | awaitSave | thawing
  deriving DecidableEq, Repr

/-- Bay states (R368, R376). -/
inductive BaySt where
  | empty | discovering | training | rebuilding | inService | preparing | safeToRemove | latchFenced | fault
  deriving DecidableEq, Repr

/-- Plaza line states (R171); an Invalid line is not listed. -/
inductive PSt where
  | filling | clean | dirty | pinned
  deriving DecidableEq, Repr

/-- Power states of a channel (R155). -/
inductive PowSt where
  | active | powerDown | selfRefresh | deepSelfRefresh
  deriving DecidableEq, Repr

/-- Cadence and time (R7-R14, R77, R474). -/
structure Cad where
  st : CadSt
  /-- the three copies of the slot count (R9). -/
  c0 : Count
  c1 : Count
  c2 : Count
  /-- the 41st cycle of the slot is in progress (R10). -/
  hold : Bool
  /-- cycles of the slot in progress, 39, 40 or 41. -/
  slotLen : Nat
  /-- the slot in progress is an adjusted one (at most one in any two consecutive slots, R10). -/
  adjusted : Bool
  /-- core cycle count modulo 64 (R77). -/
  cyc64 : Nat
  pllLocked : Bool
  /-- consecutive valid frames with consecutive numbers. -/
  run : Nat
  /-- number of the last valid frame. -/
  lastRx : Option Nat
  /-- consecutive frames not valid. -/
  bad : Nat
  /-- consecutive valid frames whose numbers differ from the local count. -/
  differ : Nat
  /-- D while Slewing, core cycles, at or below 0 (R11). -/
  d : Int
  /-- consecutive boundaries at which D differed by more than 8 from the expected D. -/
  dOff : Nat
  /-- the frame whose boundary work has been done. -/
  workedFrame : Option Nat
  /-- the present frame is the first after a skip (R148). -/
  skipDouble : Bool
  deriving DecidableEq, Repr

/-- A packet in an ingress bridge (R41, R47, R60). -/
structure Packet where
  hdr : BitVec 512
  data : List (BitVec 512)
  /-- data units still to come: a packet that stopped part-way stays in the bridge (R60). -/
  need : Nat
  /-- a data unit failed its CRC (R47). -/
  bad : Bool
  /-- absolute core cycle of its presentation to Forecast (R400). -/
  at_ : Nat
  deriving DecidableEq, Repr

/-- An accepted request (R21, R43). Deadlines are absolute slots: 192 × frame + slot. -/
structure Req where
  port : Nat
  tag : Nat
  cmd : Nat
  len : Nat
  addr : Nat
  stamp : Stamp
  deadline : Nat
  cls : Cls
  /-- admitted under R26 or R28 (a reserved G request). -/
  res : Bool
  twin : Bool
  /-- TwinDurable, but at registration its district was no Lead district InSync or Resyncing (R280). -/
  alone : Bool
  lock : Bool
  opnd : BitVec 64
  mask : BitVec 64
  data : List (BitVec 512)
  /-- reserved positions assigned to a G read: (absolute slot, index) (R26). -/
  pos : List (Nat × Nat)
  /-- stamp of the first member of its locked sequence (R56). -/
  group : Option Stamp
  deriving DecidableEq, Repr

/-- A tag in use (R57). -/
structure TagUse where
  tag : Nat
  req : Req
  /-- a response was lost; the tag waits for its TIMEOUT (R63, R73). -/
  lost : Bool
  deriving DecidableEq, Repr

/-- A response (R58). -/
structure Resp where
  port : Nat
  tag : Nat
  code : Nat
  status : Nat
  lineStatus : BitVec 64
  data : List (BitVec 512)
  stamp : Stamp
  deadline : Nat
  addr : Nat
  cls : Cls
  /-- the Crossing it comes from, none for one its own port makes (R43). -/
  src : Option Nat
  deriving DecidableEq, Repr

/-- A response on its way to its port (R69, R73): the channel it comes from, whether its units are in the network, and
whether they travel on a response chain (R78). -/
structure Back where
  resp : Resp
  chan : Nat
  sent : Bool
  chain : Bool
  deriving DecidableEq, Repr

/-- An open locked sequence at its port (R55, R173). -/
structure LockSeq where
  chan : Nat
  stamp : Stamp
  deadline : Nat
  members : List Req
  /-- core cycles (absolute) of the last member's registration. -/
  last : Nat
  /-- broken: what still belongs to it, up to its last member, completes with DECODE (R55). -/
  broken : Bool
  deriving DecidableEq, Repr

/-- A request port (R41-R64). -/
structure Port where
  credits : Nat
  bridge : List Packet
  tags : List TagUse
  ingress : List Req
  /-- responses that wait in the network or at their slice for the way to this port. -/
  coming : List Back
  resp : List Resp
  egress : Option Resp
  /-- units of the response in the egress register still to be handed over (R61). -/
  egressLeft : Nat
  egressCredits : Nat
  /-- units handed to the initiator of the response last registered (R41). -/
  out : List (BitVec 544)
  /-- tags whose TIMEOUT was synthesised while their response may still arrive (R23). -/
  late : List (Nat × Stamp)
  /-- tokens in 1/256 line (R34). -/
  tokens : Nat
  lock : Option LockSeq
  collide : Bool
  /-- absolute core cycle of the last registration (R16). -/
  lastReg : Option Nat
  /-- reserved positions assigned to reads: (channel, absolute slot, position) (R26). -/
  gAsg : List (Nat × Nat × Nat)
  /-- class in force (R36). -/
  cls : Cls
  countdown : Nat
  lfsr : Nat
  /-- Lead districts with a mirror not Off that the port has written to (R280). -/
  wrote : List Nat
  deriving DecidableEq, Repr

/-- A unit in the Crossing network (R69-R75). -/
structure NetUnit where
  src : Nat
  dest : Nat
  localPos : Nat
  vnet : Nat
  dateline : Bool
  port : Nat
  tag : Nat
  cls : Cls
  stamp : Stamp
  deadline : Nat
  /-- first unit of its packet, last unit of its packet. -/
  first : Bool
  last : Bool
  /-- the flow's channel when the unit travels on a G chain (R78). -/
  chain : Option Nat
  /-- replayed off its chain (R83). -/
  replayed : Bool
  /-- a unit of Squall: its packet belongs to port 98 (R124). -/
  squall : Bool
  deriving DecidableEq, Repr

/-- A Crossing (R65-R84). Inputs 0-3 are E, W, N, S and 4-6 the local positions. -/
structure Xbar where
  /-- units waiting, by 8 × input + queue. -/
  queues : Tbl (List NetUnit)
  /-- units on chains, by input: in its express register, or at its injection point waiting for their run (R74, R78). -/
  express : Tbl (List NetUnit)
  /-- queue sizes in force, by 8 × input + queue (R70). -/
  sizes : Tbl Nat
  /-- queues that have still to adopt a new size: (8 × input + queue, new size) (R81). -/
  resize : List (Nat × Nat)
  /-- units held in the bridge of an attached unit that is clock-stopped, by local position (R82). -/
  bridge : Tbl (List NetUnit)
  /-- the link replay buffer of each output: the last 8 units it sent, latest last (R83). -/
  sentUnits : Tbl (List NetUnit)
  /-- the unit whose replay has still to reach an input, with the core cycle at which it does (R83). -/
  redo : Tbl (NetUnit × Nat)
  /-- the packet in progress on (output, queue): 8 × output + queue to (port, tag) (R70). -/
  owner : Tbl (Nat × Nat)
  /-- requesters that have won an output, latest last; the others rank above them, in order (R75). -/
  rank : Tbl (List Nat)
  /-- consecutive failed transfers of the unit arriving at each input (R84). -/
  fails : Tbl Nat
  /-- where the last unit to arrive at each input stands: its queue plus 1, 9 for the express register (R83). -/
  arrived : Tbl Nat
  deriving DecidableEq, Repr

/-- The network's own state (R81): virtual networks whose injection is held, units waiting to be injected. -/
structure Net where
  hold : List Nat
  /-- frame in which a split changed, with the virtual networks concerned. -/
  split : Option (Nat × List Nat)
  deriving DecidableEq, Repr

/-- What an access does at its slice (R46, R171). -/
inductive AccKind where
  | rd
  | raw
  | full (data : BitVec 512)
  | masked (mask : BitVec 64) (data : BitVec 512)
  | atomic (cmd off : Nat) (compare operand : BitVec 128)
  deriving DecidableEq, Repr

/-- One line access of a request at its Plaza slice. -/
structure Access where
  port : Nat
  tag : Nat
  stamp : Stamp
  /-- the stamp it is ordered by: its own, or its locked sequence's first member's (R18, R56). -/
  ord : Stamp
  deadline : Nat
  chan : Nat
  line : Nat
  dist : Nat
  gpos : Option (Nat × Nat)
  /-- district-local line index. -/
  dline : Nat
  /-- which line of the request. -/
  k : Nat
  kind : AccKind
  cls : Cls
  res : Bool
  twin : Bool
  /-- member of a locked sequence (R56). -/
  group : Bool
  /-- an engine's access: an apply, a repair, a rebuild, a resync copy (no response, no mirror record of its own). -/
  engine : Bool
  /-- a Copy record of a resync: recorded, never answered (R260). -/
  copy : Bool
  deriving DecidableEq, Repr

/-- The line results of a request gathered so far (R58): (line, status, data units). -/
structure Gather where
  req : Req
  n : Nat
  parts : List (Nat × Nat × List (BitVec 512))
  deriving DecidableEq, Repr

/-- A sampled request in progress (R397-R400): time points t0 to t6 in absolute core cycles, 0 where not reached. -/
structure Sample where
  req : Req
  chan : Nat
  dist : Nat
  bankRow : Nat
  ts : List Nat
  flags : Nat
  deriving DecidableEq, Repr

/-- A Plaza line (R171). -/
structure PLine where
  st : PSt
  data : BitVec 512
  valid : BitVec 64
  /-- a write was applied while Filling. -/
  wrote : Bool
  /-- pinned from Filling (R171). -/
  wasFilling : Bool
  waiting : List Access
  twinPending : Bool
  /-- low 24 bits of the mirror sequence number of its last write, with its stream. -/
  seq : Nat
  writer : Nat
  /-- the write-back is charged to the writer as a G write-back (R28, R109). -/
  gCharge : Bool
  /-- frame in which it became Dirty. -/
  since : Nat
  slice : Nat
  way : Nat
  wbQueued : Bool
  wbGranted : Bool
  fillGranted : Bool
  dist : Nat
  dline : Nat
  deriving DecidableEq, Repr

/-- A line of the cached part of a Ledger slice (R177, R178). -/
structure LLine where
  data : BitVec 512
  dirty : Bool
  /-- the requester that last made it Dirty: its write-back is charged to it (R109). -/
  port : Nat
  since : Nat
  way : Nat
  deriving DecidableEq, Repr

/-- What a line operation of a channel queue is for (R107, R118). -/
inductive OpKind where
  | fill | raw (tag k status : Nat) (units : List (BitVec 512)) | writeBack | rewrite (bits : BitVec 640) | scrub | flush
  /-- a read of a counter block, MAC line or node that a fill or write-back misses, and a write of one (R109, R210). -/
  | metaRead | metaWrite
  /-- a line read for the twin: the request's sequence, the line's index in it (R282). -/
  | serve (seq k : Nat)
  deriving DecidableEq, Repr

/-- A line operation of a locked sequence (R122): its line, whether it writes, and the core cycle it joined. -/
structure Member where
  line : Nat
  wr : Bool
  enq : Nat
  deriving DecidableEq, Repr

/-- A line operation (R107, R109, R116). -/
structure Entry where
  line : Nat
  wr : Bool
  kind : OpKind
  /-- the charged requester. -/
  port : Nat
  deadline : Nat
  stamp : Stamp
  /-- absolute core cycle of the enqueue, and of the grant. -/
  enq : Nat
  at_ : Nat
  /-- finish tag (R116). -/
  ftag : Nat
  /-- assigned reserved position: absolute slot and index (R26). -/
  gpos : Option (Nat × Nat)
  overdue : Bool
  guarded : Bool
  /-- maintenance context of a burst. -/
  ctx : Option Nat
  /-- members of a complete locked sequence (R122). -/
  group : List Member
  deriving DecidableEq, Repr

/-- A lock in progress (R122, R123): the members still to be granted, its port, the DCK t_lock after its first command
(none before that), the DCK at which its last granted member's data ends, and whether an ALERT_N episode fell in it. -/
structure LockRun where
  rest : List Member
  port : Nat
  due : Option Nat
  until_ : Nat
  alerted : Bool
  deriving DecidableEq, Repr

/-- A command in the history of a channel (R243). -/
structure HistCmd where
  at_ : Nat
  cmd : Nat
  target : Nat
  bank : Nat
  flags : Nat
  row : Nat
  col : Nat
  deriving DecidableEq, Repr

/-- A DRAM bank as the command engine sees it (R137-R150); times in DCK from frame 0. -/
structure Bank where
  row : Option Nat
  /-- position of the last access, for RowIdleTimeout. -/
  last : Nat
  raa : Nat
  actAt : Nat
  /-- the earliest PRE after the accesses so far (tRTP, tWR). -/
  preMin : Nat
  preAt : Nat
  refUntil : Nat
  deriving DecidableEq, Repr

/-- An RD or WR of a subchannel (R135, R137, R140): the DCK of the command, its position, pseudo-channel, rank slot and
bank group, and the DCK at which its data leaves the bus and the pseudo-channel. -/
structure Cas where
  at_ : Nat
  pos : Nat
  pc : Nat
  rankSlot : Nat
  bg : Nat
  wr : Bool
  dataEnd : Nat
  coreEnd : Nat
  deriving DecidableEq, Repr

/-- An ALERT_N episode (R152, R153). -/
structure Alert where
  step : Nat
  retries : Nat
  low : Bool
  uncertain : List Entry
  /-- absolute core cycle of the last assertion. -/
  at_ : Nat
  deriving DecidableEq, Repr

/-- A subchannel: write grouping (R143), the data bus (R140), activations (rank slot, bank group, time), the CA bus and
ALERT_N. -/
structure Sub where
  writeMode : Bool
  writes : Nat
  /-- end of the last burst, DCK. -/
  busEnd : Nat
  lastWr : Bool
  lastRank : Nat
  /-- recent RD and WR commands, latest first. -/
  cas : List Cas
  acts : List (Nat × Nat × Nat)
  /-- DCK cycles taken on the CA bus (R141). -/
  ca : List Nat
  /-- DCK of the last REFsb of each rank slot (TRefSbRd, R137). -/
  refs : Tbl Nat
  /-- refreshes that a lock or an episode holds up: bank index, rank slot, whether REFsb is due (R149). -/
  late : List (Nat × Nat × Bool)
  alert : Option Alert
  deriving DecidableEq, Repr

/-- A byte lane of live calibration (R315-R318). -/
structure Lane where
  pathB : Bool
  /-- trims loaded in the spare path: (offset in ActiveTrims, byte). -/
  loaded : List (Nat × Byte)
  scanned : Bool
  /-- CalTemperature at which its baseline was last applied (R321). -/
  applied : Int
  deriving DecidableEq, Repr

/-- A measurement run (R322). -/
structure CalRun where
  temp : Int
  again : Bool
  deriving DecidableEq, Repr

/-- A channel stack's arbiter, command engine, error unit and calibration. -/
structure Chan where
  st : ChanSt
  dist : Option Nat
  gRead : List Entry
  gWb : List Entry
  openU : List Entry
  gate : List Entry
  bq : List Entry
  lock : Option LockRun
  /-- finish tag of each requester's last B entry (R116). -/
  flast : Tbl Nat
  /-- requesters that have won, latest last; the ring is the others in order, then these (R112). -/
  ring : List Nat
  ctxRing : List Nat
  /-- the last line position decided, counted from frame 0 (R106, R112). -/
  pos : Nat
  /-- gate burst in progress: context and operations left (R112 step 5). -/
  burst : Option (Nat × Nat)
  /-- lengths of bursts waiting per context (R119, R121). -/
  bursts : Tbl (List Nat)
  subs : Tbl Sub
  banks : Tbl Bank
  granted : List Entry
  pstate : PowSt
  /-- an exit in progress, with the absolute cycle of the known event it was scheduled for (R158). -/
  exiting : Option (Option Nat)
  calm : Nat
  noReading : Bool
  /-- an MR4 field asks for twice the refresh rate (R148). -/
  twice : Bool
  /-- RefreshSlot changed at this frame's boundary: both sets run in this frame (R146). -/
  bothSets : Bool
  /-- current readings: key bay position, or 2 + rank slot for MR4, in 0.25 °C. -/
  temps : Tbl Int
  rewrites : List Entry
  devCounts : Tbl Nat
  devStopped : List Nat
  history : List HistCmd
  /-- state the channel returns to when a freeze ends (R245). -/
  before : ChanSt
  /-- a Training entered from Frozen (R244). -/
  fromFrozen : Bool
  /-- the outcome verification reported for a training in progress (R303). -/
  verified : Option Bool
  /-- a quick start is to be tried (R305). -/
  quick : Bool
  scrubNext : Nat
  lanes : Tbl Lane
  run : Option CalRun
  applied : Int
  osc : Tbl Nat
  drift : Tbl Int
  deferrals : Nat
  /-- a helper operation in progress: operation and claims held (R312). -/
  helper : Option Nat
  /-- last frame in which each port had a G request admitted to the channel (R156). -/
  gSeen : Tbl Nat
  /-- work of refresh placements (R136, R147): key rank slot, the frame of its last MR4 read, plus 1; 8 + position, the
  frame of its last ZQ start, plus 1; 10 + position, the DCK from which the ZQ latch may follow. -/
  chores : Tbl Nat
  /-- AES blocks the cipher yard has still to compute, as of a core cycle (R212). -/
  yardLeft : Nat
  yardAt : Nat
  deriving DecidableEq, Repr

/-- The configuration of a formed district: its descriptor (R475). -/
structure Desc where
  width : Nat
  first : Nat
  order : Nat
  mode : Nat
  format : Bool
  density : Nat
  ranks : Nat
  modules : Nat
  base : Nat
  span : Nat
  limit : Nat
  retired : List Nat
  deriving DecidableEq, Repr

/-- A range of pages of a district. -/
structure PageRange where
  first : Nat
  count : Nat
  deriving DecidableEq, Repr

/-- A district (R88-R105, R205, R249, R283). -/
structure District where
  st : DistSt
  desc : Desc
  rootMajor : Nat
  rootMinors : Tbl Nat
  rootCursor : Nat
  /-- Flags of its root slot block (R351). -/
  flags : Nat
  /-- the stored root is usable (R448). -/
  rootOk : Bool
  ceiling : Nat
  /-- this formation's content is what unlisted lines hold: key generation used (R101). -/
  formatGen : Nat
  mst : MirSt
  /-- page ranges still to pull; a full push pending; next page to push (R285, R286). -/
  pull : List PageRange
  push : Bool
  pushPage : Nat
  lost : List PageRange
  demoting : Bool
  stopWrites : Bool
  applyA : Stamp
  /-- frames since the first Hello of a pairing mismatch (R283). -/
  mismatch : Bool
  pairedHello : Bool
  deriving DecidableEq, Repr

/-- A data key and a MAC key of one generation (R190). -/
structure KeyPair where
  gen : Nat
  dataKey : BitVec 256
  macKey : BitVec 256
  deriving DecidableEq, Repr

/-- The four link keys (R190). -/
structure LinkKeys where
  aTx : BitVec 256
  aRx : BitVec 256
  bTx : BitVec 256
  bRx : BitVec 256
  deriving DecidableEq, Repr

/-- What an intake found (R195). -/
structure Intake where
  pair : KeyPair
  links : Option LinkKeys
  derived : Bool
  deriving DecidableEq, Repr

/-- The key registers and the key port (R190-R196). -/
structure Keys where
  cur : Option KeyPair
  succ : Option KeyPair
  links : Option LinkKeys
  portOpen : Bool
  discards : Nat
  closed : Bool
  intake : Option Intake
  /-- the latest intake ended in KeyMismatch (R195). -/
  mismatched : Bool
  deriving DecidableEq, Repr

/-- The vault header in use (R197, R249, R269, R340). -/
structure Vault where
  stored : Bool
  gen : Nat
  source : Nat
  rollActive : Bool
  marker : Bool
  swept : List Bool
  check : Nat
  succCheck : Nat
  lastFrame : Nat
  checkpoints : List Nat
  epochs : List Nat
  ceilings : List Nat
  session : Nat
  linkCheck : Nat
  leadEpochs : List Nat
  seq : Nat
  deriving DecidableEq, Repr

/-- A repair table entry (R248). -/
structure Repair where
  progress : Nat
  dist : Nat
  kind : Nat
  state : Nat
  index : Nat
  /-- some line of the range was marked (R250). -/
  marked : Bool
  deriving DecidableEq, Repr

/-- A mirror record (R264). -/
structure MRec where
  stamp : Stamp
  op : Nat
  group : Bool
  durable : Bool
  dline : Nat
  mask : BitVec 64
  data : BitVec 512
  /-- the tag it answers, at the port of its stamp. -/
  tag : Nat
  deriving DecidableEq, Repr

/-- A Data frame held in the replay store (R274). -/
structure TxFrame where
  stream : Nat
  seq : Nat
  dist : Nat
  cut : Stamp
  recs : List MRec
  /-- absolute core cycle at which it was last sent. -/
  sent : Nat
  deriving DecidableEq, Repr

/-- A transmit stream (R260, R261). -/
structure TxStream where
  open_ : List MRec
  since : Nat
  lastClose : Nat
  deriving DecidableEq, Repr

/-- An accepted Data frame whose records are not all registered (R277, R278). -/
structure RxFrame where
  seq : Nat
  dist : Nat
  cut : Stamp
  recs : List MRec
  /-- records not registered yet. -/
  left : List MRec
  deriving DecidableEq, Repr

/-- A receive stream (R271, R277, R278). -/
structure RxStream where
  held : List RxFrame
  fwd : List RxFrame
  cut : Option Stamp
  /-- sequences below this are registered (CumAck). -/
  cum : Nat
  dist : Nat
  deriving DecidableEq, Repr

/-- A RemoteRequest sent and not answered (R281). -/
structure RemReq where
  seq : Nat
  purpose : Nat
  dist : Nat
  dline : Nat
  lines : Nat
  asOf : Stamp
  deadline : Nat
  chan : Nat
  line : Nat
  deriving DecidableEq, Repr

/-- A RemoteRequest being served (R282). -/
structure Serve where
  seq : Nat
  purpose : Nat
  dist : Nat
  dline : Nat
  lines : Nat
  asOf : Stamp
  deadline : Nat
  /-- its line reads have been queued; the lines read so far: index, status, data. -/
  queued : Bool
  got : List (Nat × Nat × BitVec 512)
  deriving DecidableEq, Repr

/-- A twin-durable write or a fence waiting (R280). -/
structure TwinWait where
  fence : Bool
  resp : Resp
  dist : Nat
  /-- districts an earlier write of a fence's port went to (R280). -/
  counted : List Nat
  deriving DecidableEq, Repr

/-- What the twin's last Hello said of one of its districts (R266). -/
structure PeerDist where
  role : Nat
  twin : Nat
  mst : Nat
  epoch : Nat
  limit : Nat
  deriving DecidableEq, Repr

/-- The mirror engines (R258-R293). -/
structure Mirror where
  tx : Tbl TxStream
  rx : Tbl RxStream
  replay : List TxFrame
  ackSeq : Nat
  reqSeq : Nat
  respSeq : Nat
  helloSeq : Nat
  /-- the transmit session is open (frames may be sent). -/
  started : Bool
  havePeer : Bool
  lastAck : Option Nat
  lastHello : Option Nat
  recent : List Nat
  peers : List PeerDist
  up : List Bool
  /-- the last frame handed to the link layer at each port. -/
  sent : Tbl (List Byte)
  reqs : List RemReq
  serving : List Serve
  waits : List TwinWait
  /-- recovery bytes moved in this frame of the cadence (R287). -/
  recovery : Nat
  deriving DecidableEq, Repr

/-- A sense input (R334, R335). -/
structure Sense where
  inWindow : Bool
  good : Bool
  deriving DecidableEq, Repr

/-- The supervisor (R332-R355). -/
structure Sup where
  st : SupSt
  enVaa : Bool
  enVddp : Bool
  enVddq : Bool
  senses : Tbl Sense
  firstLogged : Bool
  squall : SquallSt
  /-- R337 has acted. -/
  vddpCut : Bool
  /-- SNS_VIN in window for ThawQualify since it returned (R352). -/
  returned : Bool
  /-- committed groups whose write-backs are not all done: (channel, line). -/
  committed : List (Nat × Nat)
  /-- lines the planner has considered (R348). -/
  planned : List (Nat × Nat)
  /-- pages with lines left undrained: tier, district, page, lines (R349). -/
  left : List (Nat × Nat × Nat × Nat)
  /-- Dirty Ledger lines the planner left, by their keys. -/
  leftMeta : List Nat
  /-- metadata lines made Dirty in this drain, by their keys (R348). -/
  touched : List Nat
  /-- lines drained, by district. -/
  drained : Tbl Nat
  /-- energy charged since the cut-off, in the planner's unit. -/
  spent : Nat
  hardStop : Bool
  /-- the input whose excursion began the Squall, 255 for none. -/
  failInput : Nat
  /-- MRAM words of the commit in progress, in order (R340, R350). -/
  words : List (Nat × List Byte)
  cutoff : Stamp
  /-- what follows a cause-4 drain: 0 block reset, 1 test reset, 2 Test (R454, R456). -/
  after : Nat
  /-- the drain's self-refresh is done, and the reset waits for the tags accepted before the cut-off (R454). -/
  parked : Bool
  unlimited : Bool
  budget : Nat
  capFailed : Bool
  capRun : Bool
  /-- PinVoltage of the inputs is in the objects; the failure log's next sequence. -/
  logSeq : Nat
  /-- bays whose module has reported restore complete since its last save (R350). -/
  restored : List Nat
  /-- consecutive discarded and good scans of the bay chain (R360). -/
  chainBad : Nat
  chainGood : Nat
  deriving DecidableEq, Repr

/-- A service bay (R359-R376). -/
structure Bay where
  st : BaySt
  inputs : Nat
  led : Bool
  ledTest : Bool
  refusedBlink : Bool
  allow : Bool
  module : Option ModuleInfo
  polls : Nat
  powerKept : Bool
  /-- what the module holds is lost where nothing of this model is listed since. -/
  blank : Bool
  pmic : Bool
  deriving DecidableEq, Repr

/-- An event entry (R385). -/
structure EvEntry where
  stamp : Stamp
  source : Nat
  severity : Nat
  overflow : Bool
  count : Nat
  detail : Nat
  deriving DecidableEq, Repr

/-- The event unit (R379-R387). -/
structure Ev where
  queue : List EvEntry
  /-- entries before the read pointer, and the mark, counted from the queue's first entry. -/
  rd : Nat
  mark : Nat
  staging : List EvEntry
  last : Option EvEntry
  lossRun : Bool
  overflowNext : Bool
  ibi : List Nat
  lastIbi : List Byte
  evtLow : Bool
  evtWait : Nat
  logFrame : Tbl Nat
  fatal : List Nat
  /-- samples are being dropped (R398). -/
  sampleRun : Bool
  deriving DecidableEq, Repr

/-- A response frame (R413). -/
structure RspFrame where
  opcode : Nat
  tag : Nat
  index : Nat
  sub : Nat
  result : Nat
  offset : Nat
  detail : Nat
  data : List Byte
  deriving DecidableEq, Repr

/-- A management link (R396, R404, R416). -/
structure Link where
  held : Option RspFrame
  unread : Bool
  shadow : Bool
  deriving DecidableEq, Repr

/-- The management unit (R404-R440). -/
structure Mgmt where
  links : Tbl Link
  /-- 0 Idle, 1 Busy, 2 Done (R411). -/
  winStatus : Nat
  winLength : Nat
  winBuf : List Host.Cell
  staged : Tbl Nat
  stagedRecs : List Host.Cell
  /-- RECORD objects staged. -/
  stagedKeys : List Nat
  /-- 0 none, 1 link 0, 2 link 1 (R422). -/
  owner : Nat
  pendingFrame : Option Nat
  hdrMode : Bool
  crcSeen : Bool
  /-- bytes the last GET CCC returned. -/
  cccOut : List Byte
  i3cOut : List Byte
  memBusy : Bool
  locked : Bool
  /-- ports whose ProfileLock was written (R53). -/
  profiles : List Nat
  snapArmed : Option Nat
  deriving DecidableEq, Repr

/-- Block state, start-up and test access (R441-R467). -/
structure Blk where
  st : BlockSt
  stage : Nat
  /-- EnterConfig (1) or LeaveConfig (2) waiting for the frame boundary. -/
  pend : Nat
  admission : Bool
  inst : Nat
  /-- a DRAM test mode ran in Test (R444). -/
  dramTest : Bool
  /-- boundary-scan selection: 0 BYPASS, 1 SAMPLE/PRELOAD, 2 EXTEST. -/
  scan : Nat
  /-- test in progress, 0 none. -/
  test : Nat
  /-- loopback frames of a mirror port in the running test: sent, received intact, discarded (R464, R465). -/
  loops : Tbl (Nat × Nat × Nat)
  /-- armed injection: kind, firings left. -/
  inj : Option (Nat × Nat)
  /-- arbiter mode of the Crossings and the block: 0 Rotating, 1 DeadlineFirst, 2 Draining (R124). -/
  mode : Nat
  deriving DecidableEq, Repr

/-- The whole block. -/
structure State where
  pending : List Instr
  cad : Cad
  ports : Tbl Port
  xbars : Tbl Xbar
  net : Net
  chans : Tbl Chan
  /-- Plaza lines by 2^40 × channel + line. -/
  plaza : Tbl PLine
  plazaLru : Tbl Nat
  order : Tbl (List Access)
  transit : Tbl (List Req)
  gathers : List Gather
  samples : List Sample
  ledger : Tbl LLine
  ledgerLru : Tbl Nat
  /-- losses the Ledger met while it wrote lines back: district, kind, index, channel (R246). -/
  found : List (Nat × Nat × Nat × Nat)
  /-- pinned nodes by 2^48 × district + 2^44 × level + index. -/
  pinned : Tbl (BitVec 512)
  /-- sealed pages: district, page, the stamp of the seal (R216, R217). -/
  sealedList : List (Nat × Nat × Stamp)
  /-- stamp from which a district is sealed whole. -/
  sealedFrom : Tbl Stamp
  /-- what modules hold: 64 data bytes above 16 check bytes, by 2^40 × channel + line. -/
  dram : Tbl (BitVec 640)
  dists : Tbl District
  keys : Keys
  vault : Vault
  mram : List Host.Cell
  repair : Tbl Repair
  mirror : Mirror
  sup : Sup
  bays : Tbl Bay
  ev : Ev
  mgmt : Mgmt
  blk : Blk
  objs : Tbl Nat
  recs : List Host.Cell
  shadowObjs : Tbl Nat
  freeCtr : Nat
  deriving DecidableEq, Repr

def Count.zero : Count := ⟨0, 0, 0⟩
def Stamp.zero : Stamp := ⟨0, 0, 0, 0⟩

/-- A unit's state after reset where nothing of it is listed. -/
def Cad.reset : Cad :=
  { st := .acquiring, c0 := Count.zero, c1 := Count.zero, c2 := Count.zero, hold := false, slotLen := 40,
    adjusted := false, cyc64 := 0, pllLocked := false, run := 0, lastRx := none, bad := 0, differ := 0, d := 0,
    dOff := 0, workedFrame := none, skipDouble := false }

/-- Port p after reset: 16 ingress credits (R60), a full bucket of 64 lines (R34), class B, or U from 96 on (R39),
the sampling LFSR at p + 1 (R397). -/
def Port.reset (p : Nat) : Port :=
  { credits := 16, bridge := [], tags := [], ingress := [], coming := [], resp := [], egress := none, egressLeft := 0, egressCredits := 0, out := [], late := [],
    tokens := 64 * 256, lock := none, collide := false, lastReg := none, gAsg := [],
    cls := if 96 ≤ p then .u else .b, countdown := 0, lfsr := p + 1, wrote := [] }

def Xbar.reset : Xbar :=
  { queues := [], express := [], sizes := [], resize := [], bridge := [], sentUnits := [], redo := [], owner := [], rank := [], fails := [], arrived := [] }

def Sub.reset : Sub :=
  { writeMode := false, writes := 0, busEnd := 0, lastWr := false, lastRank := 0, cas := [],
    acts := [], ca := [], refs := [], late := [], alert := none }

def Bank.reset : Bank :=
  { row := none, last := 0, raa := 0, actAt := 0, preMin := 0, preAt := 0, refUntil := 0 }

def Lane.reset : Lane := { pathB := false, loaded := [], scanned := false, applied := 0 }

def Chan.reset : Chan :=
  { st := .untrained, dist := none, gRead := [], gWb := [], openU := [], gate := [], bq := [], lock := none, flast := [],
    ring := [], ctxRing := [], pos := 0, burst := none, bursts := [], subs := [], banks := [], granted := [],
    pstate := .active, exiting := none, calm := 0, noReading := false, twice := false, bothSets := false, temps := [], rewrites := [],
    devCounts := [], devStopped := [], history := [], before := .running, fromFrozen := false, verified := none, quick := false,
    scrubNext := 0, lanes := [], run := none, applied := 0, osc := [], drift := [], deferrals := 0, helper := none,
    gSeen := [], chores := [], yardLeft := 0, yardAt := 0 }

def Desc.none : Desc :=
  { width := 0, first := 0, order := 0, mode := 0, format := false, density := 0, ranks := 0, modules := 0, base := 0,
    span := 0, limit := 0, retired := [] }

def District.reset : District :=
  { st := .unformed, desc := Desc.none, rootMajor := 0, rootMinors := [], rootCursor := 0, flags := 0, rootOk := false,
    ceiling := 0, formatGen := 0, mst := .off, pull := [], push := false, pushPage := 0, lost := [], demoting := false,
    stopWrites := false, applyA := Stamp.zero, mismatch := false, pairedHello := false }

def Keys.reset : Keys :=
  { cur := none, succ := none, links := none, portOpen := false, discards := 0, closed := false, intake := none,
    mismatched := false }

/-- No vault header stored (R197). -/
def Vault.reset : Vault :=
  { stored := false, gen := 0, source := 0, rollActive := false, marker := false, swept := [false, false, false, false],
    check := 0, succCheck := 0, lastFrame := 0, checkpoints := [0, 0, 0, 0], epochs := [0, 0, 0, 0],
    ceilings := [0, 0, 0, 0], session := 0, linkCheck := 0, leadEpochs := [0, 0, 0, 0], seq := 0 }

def Repair.free : Repair := { progress := 0, dist := 0, kind := 0, state := 0, index := 0, marked := false }

def TxStream.reset : TxStream := { open_ := [], since := 0, lastClose := 0 }
def RxStream.reset : RxStream := { held := [], fwd := [], cut := none, cum := 0, dist := 0 }

def Mirror.reset : Mirror :=
  { tx := [], rx := [], replay := [], ackSeq := 0, reqSeq := 0, respSeq := 0, helloSeq := 0, started := false,
    havePeer := false, lastAck := none, lastHello := none, recent := [], peers := [], up := List.replicate 16 false,
    sent := [], reqs := [], serving := [], waits := [], recovery := 0 }

def Sense.reset : Sense := { inWindow := false, good := false }

def Sup.reset : Sup :=
  { st := .off, enVaa := false, enVddp := false, enVddq := false, senses := [], firstLogged := false, squall := .idle,
    vddpCut := false, returned := false, committed := [], planned := [], left := [],
    leftMeta := [], touched := [], drained := [], spent := 0, hardStop := false, failInput := 255, words := [], cutoff := Stamp.zero, after := 0,
    parked := false, unlimited := false, budget := 0, capFailed := false, capRun := false, logSeq := 0, restored := [], chainBad := 0, chainGood := 0 }

def Bay.reset : Bay :=
  { st := .empty, inputs := 0, led := false, ledTest := false, refusedBlink := false, allow := false, module := none,
    polls := 0, powerKept := false, blank := false, pmic := false }

def Ev.reset : Ev :=
  { queue := [], rd := 0, mark := 0, staging := [], last := none, lossRun := false, overflowNext := false, ibi := [],
    lastIbi := [], evtLow := false, evtWait := 0, logFrame := [], fatal := [], sampleRun := false }

def Link.reset : Link := { held := none, unread := false, shadow := false }

def Mgmt.reset : Mgmt :=
  { links := [], winStatus := 0, winLength := 0, winBuf := [], staged := [], stagedRecs := [], stagedKeys := [],
    owner := 0, pendingFrame := none, hdrMode := false, crcSeen := false, cccOut := [], i3cOut := [], memBusy := false,
    locked := false, profiles := [], snapArmed := none }

def Blk.reset : Blk :=
  { st := .off, stage := 0, pend := 0, admission := false, inst := 0, dramTest := false, scan := 0, test := 0, loops := [],
    inj := none, mode := 1 }

/-- The block before its first power-on reset: Off, every object at its default, nothing stored in MRAM. -/
def State.reset : State :=
  { pending := [], cad := Cad.reset, ports := [], xbars := [], net := { hold := [], split := none }, chans := [],
    plaza := [], plazaLru := [], order := [], transit := [], gathers := [], samples := [], ledger := [], ledgerLru := [], found := [], pinned := [],
    sealedList := [], sealedFrom := [], dram := [], dists := [], keys := Keys.reset, vault := Vault.reset, mram := [], repair := [],
    mirror := Mirror.reset, sup := Sup.reset, bays := [], ev := Ev.reset, mgmt := Mgmt.reset, blk := Blk.reset,
    objs := [], recs := [], shadowObjs := [], freeCtr := 0 }

end Sys2Proof.Machine
end

