-- ==== Sys2Proof/Machine/Ops.lean ====
section
/-! DEFINITION. The named operations over the state: the slot count and stamps (R8-R17), the objects of the dictionary,
the units by number, free values. -/

namespace Sys2Proof

/-- Absolute slot of a count, 192 × frame + slot. -/
def Count.absSlot (c : Count) : Nat := 192 * c.frame + c.slot
/-- Absolute core cycle of a count. -/
def Count.absCycle (c : Count) : Nat := 40 * c.absSlot + c.cycle
/-- The 72-bit stamp layout (R15). -/
def Stamp.word (t : Stamp) : Nat := t.frame * 2 ^ 24 + t.slot * 2 ^ 16 + t.cycle * 2 ^ 8 + t.port
def Stamp.absSlot (t : Stamp) : Nat := 192 * t.frame + t.slot
def Stamp.absCycle (t : Stamp) : Nat := 40 * t.absSlot + t.cycle

end Sys2Proof

namespace Sys2Proof.Machine

/-! ### The slot count (R8, R9, R15-R17, R22) -/

/-- Frame numbers wrap at 2^48 (R7). -/
def frameMod : Nat := 2 ^ 48
/-- Absolute slots, 192 × frame + slot, wrap with the frame number. -/
def slotMod : Nat := 192 * 2 ^ 48
/-- Absolute core cycles wrap with the frame number. -/
def cycleMod : Nat := 7680 * 2 ^ 48

/-- Serial comparison in a modulus (R8, R22): b is ahead of a by less than half of it. -/
def serialLt (m a b : Nat) : Bool :=
  let d := (b + m - a % m) % m
  decide (0 < d) && decide (2 * d < m)

/-- a is not ahead of b. -/
def serialLe (m a b : Nat) : Bool := a % m == b % m || serialLt m a b

/-- R8 on frame numbers: `some true` b ahead of a, `some false` b behind or equal, `none` undefined. -/
def frameAhead (a b : Nat) : Option Bool :=
  let d := (b + frameMod - a % frameMod) % frameMod
  if d = 2 ^ 47 then none else some (decide (0 < d) && decide (d < 2 ^ 47))

/-- Count order: frame under R8, then slot, then cycle. -/
def countLt (a b : Count) : Bool :=
  if a.frame = b.frame then
    (if a.slot = b.slot then decide (a.cycle < b.cycle) else decide (a.slot < b.slot))
  else serialLt frameMod a.frame b.frame

/-- The voted slot count (R9): the value two copies hold, or the copy furthest ahead. -/
def voteCount (a b c : Count) : Count :=
  if a = b || a = c then a else if b = c then b
  else
    let m := if countLt a b then b else a
    if countLt m c then c else m

/-- Copies the vote overwrites. -/
def voteFixes (a b c : Count) : Nat :=
  let v := voteCount a b c
  (if a = v then 0 else 1) + (if b = v then 0 else 1) + (if c = v then 0 else 1)

/-- The slot count. -/
def State.now (s : State) : Count := voteCount s.cad.c0 s.cad.c1 s.cad.c2

/-- Set the slot count in all three copies. -/
def State.setNow (s : State) (c : Count) : State := { s with cad := { s.cad with c0 := c, c1 := c, c2 := c } }


def State.slotNow (s : State) : Nat := s.now.absSlot
def State.cycleNow (s : State) : Nat := s.now.absCycle

/-- The stamp of port p in this cycle (R15). -/
def State.stampNow (s : State) (p : Nat) : Stamp := ⟨s.now.frame, s.now.slot, s.now.cycle, p⟩

def stampOfWord (v : Nat) : Stamp := ⟨bits v 71 24, bits v 23 16, bits v 15 8, bits v 7 0⟩


/-- Stamp order (R16). -/
def stampLt (a b : Stamp) : Bool :=
  if a.frame = b.frame then
    (if a.slot = b.slot then
      (if a.cycle = b.cycle then decide (a.port < b.port) else decide (a.cycle < b.cycle))
    else decide (a.slot < b.slot))
  else serialLt frameMod a.frame b.frame

def stampLe (a b : Stamp) : Bool := a == b || stampLt a b

/-- The later of two stamps. -/
def stampMax (a b : Stamp) : Stamp := if stampLt a b then b else a

/-- The 32-bit deadline layout of an absolute slot (R22). -/
def deadlineWord (d : Nat) : Nat := ((d / 192) % 2 ^ 24) * 256 + d % 192

/-- The absolute slot nearest to `near` that a deadline word names (R22). -/
def deadlineSlot (near w : Nat) : Nat :=
  let f := near / 192
  let low := bits w 31 8
  let d := (low + 2 ^ 24 - f % 2 ^ 24) % 2 ^ 24
  let frame := if d < 2 ^ 23 then f + d else f + d + frameMod - 2 ^ 24
  192 * (frame % frameMod) + bits w 7 0

/-- Whether a deadline slot has begun. -/
def State.duePassed (s : State) (d : Nat) : Bool := serialLe slotMod d s.slotNow

/-- Whole core cycles since an absolute cycle, none if it lies ahead. -/
def State.since (s : State) (t : Nat) : Nat := if serialLe cycleMod t s.cycleNow then (s.cycleNow + cycleMod - t % cycleMod) % cycleMod else 0

/-! ### Free values (log 1) -/

/-- Advance the counter of free values. -/
def State.tickFree (s : State) : State := { s with freeCtr := s.freeCtr + 1 }

/-! ### Objects -/

/-- The stored value of an object. -/
def State.obj (s : State) (idx sub : Nat) : Nat := tget s.objs (objKey idx sub) (objDefault idx sub)

/-- Store an object's value; the default leaves no entry. -/
def State.setObj (s : State) (idx sub v : Nat) : State :=
  { s with objs := tput s.objs (objKey idx sub) v (objDefault idx sub) }

/-- Largest value of a counter object (R388). -/
def objMax (idx sub : Nat) : Nat :=
  match objRow idx sub with
  | some r => 2 ^ (8 * r.size) - 1
  | none => 2 ^ 64 - 1

/-- Add to a counter object, saturating (R388). -/
def State.addObj (s : State) (idx sub n : Nat) : State :=
  s.setObj idx sub (min (s.obj idx sub + n) (objMax idx sub))

/-- Set bit i of an object. -/
def State.setObjBit (s : State) (idx sub i : Nat) (b : Bool) : State := s.setObj idx sub (setBit (s.obj idx sub) i b)

/-- Byte address of a RECORD object's byte in the record store. -/
def recAddr (idx sub off : Nat) : Nat := objKey idx sub * 2 ^ 20 + off

def State.recN (s : State) (idx sub off n : Nat) : List Byte := ldN s.recs (recAddr idx sub off) n
def State.setRec (s : State) (idx sub off : Nat) (bs : List Byte) : State :=
  { s with recs := sbN s.recs (recAddr idx sub off) bs }

/-- Remove the bytes a RECORD object lists: it reads 0 again. -/
def State.clearRec (s : State) (idx sub : Nat) : State :=
  { s with recs := s.recs.filter (fun e => e.1 / 2 ^ 20 != objKey idx sub) }

/-- Index of a channel page (R433). -/
def chIdx (page c : Nat) : Nat := page + 256 * c

/-! ### Units by number -/

def State.port (s : State) (p : Nat) : Port := tget s.ports p (Port.reset p)
def State.setPort (s : State) (p : Nat) (v : Port) : State := { s with ports := tput s.ports p v (Port.reset p) }
def State.modPort (s : State) (p : Nat) (f : Port → Port) : State := s.setPort p (f (s.port p))

def State.xbar (s : State) (x : Nat) : Xbar := tget s.xbars x Xbar.reset
def State.setXbar (s : State) (x : Nat) (v : Xbar) : State := { s with xbars := tput s.xbars x v Xbar.reset }

def State.chan (s : State) (c : Nat) : Chan := tget s.chans c Chan.reset
def State.setChan (s : State) (c : Nat) (v : Chan) : State := { s with chans := tput s.chans c v Chan.reset }
def State.modChan (s : State) (c : Nat) (f : Chan → Chan) : State := s.setChan c (f (s.chan c))

def Chan.sub (ch : Chan) (k : Nat) : Sub := tget ch.subs k Sub.reset
def Chan.setSub (ch : Chan) (k : Nat) (v : Sub) : Chan := { ch with subs := tput ch.subs k v Sub.reset }
/-- Banks by 256 × subchannel + 32 × rank slot + bank. -/
def Chan.bank (ch : Chan) (k : Nat) : Bank := tget ch.banks k Bank.reset
def Chan.setBank (ch : Chan) (k : Nat) (v : Bank) : Chan := { ch with banks := tput ch.banks k v Bank.reset }
def Chan.lane (ch : Chan) (k : Nat) : Lane := tget ch.lanes k Lane.reset
def Chan.setLane (ch : Chan) (k : Nat) (v : Lane) : Chan := { ch with lanes := tput ch.lanes k v Lane.reset }

def State.dist (s : State) (d : Nat) : District := tget s.dists d District.reset
def State.setDist (s : State) (d : Nat) (v : District) : State := { s with dists := tput s.dists d v District.reset }
def State.modDist (s : State) (d : Nat) (f : District → District) : State := s.setDist d (f (s.dist d))

def State.bay (s : State) (b : Nat) : Bay := tget s.bays b Bay.reset
def State.setBay (s : State) (b : Nat) (v : Bay) : State := { s with bays := tput s.bays b v Bay.reset }
def State.modBay (s : State) (b : Nat) (f : Bay → Bay) : State := s.setBay b (f (s.bay b))

def State.sense (s : State) (i : Nat) : Sense := tget s.sup.senses i Sense.reset
def State.setSense (s : State) (i : Nat) (v : Sense) : State :=
  { s with sup := { s.sup with senses := tput s.sup.senses i v Sense.reset } }

def State.repairAt (s : State) (e : Nat) : Repair := tget s.repair e Repair.free
def State.setRepair (s : State) (e : Nat) (v : Repair) : State := { s with repair := tput s.repair e v Repair.free }

def State.tx (s : State) (i : Nat) : TxStream := tget s.mirror.tx i TxStream.reset
def State.setTx (s : State) (i : Nat) (v : TxStream) : State :=
  { s with mirror := { s.mirror with tx := tput s.mirror.tx i v TxStream.reset } }
def State.rx (s : State) (i : Nat) : RxStream := tget s.mirror.rx i RxStream.reset
def State.setRx (s : State) (i : Nat) (v : RxStream) : State :=
  { s with mirror := { s.mirror with rx := tput s.mirror.rx i v RxStream.reset } }

def State.link (s : State) (l : Nat) : Link := tget s.mgmt.links l Link.reset
def State.setLink (s : State) (l : Nat) (v : Link) : State :=
  { s with mgmt := { s.mgmt with links := tput s.mgmt.links l v Link.reset } }

/-- The module in a bay, if one was discovered. -/
def State.moduleAt (s : State) (b : Nat) : Option ModuleInfo := (s.bay b).module

/-- Key of a Plaza, Ledger or DRAM line: 2^40 × channel + channel-local line. -/
def lineKey (c l : Nat) : Nat := 2 ^ 40 * c + l

/-- Apply f to units 0 … n-1 in order. -/
def State.each (n : Nat) (s : State) (f : Nat → State → State) : State := forN n s f

/-- Codes of the enumerations in the objects (R37, R39, R105, R283, R336, R352, R376, R437, R440). -/
def CadSt.code : CadSt → Nat | .acquiring => 0 | .locked => 1 | .holdover => 2 | .slewing => 3 | .conflict => 4
def Cls.code : Cls → Nat | .g => 0 | .u => 1 | .b => 2
def Cls.ofCode (n : Nat) : Cls := if n = 0 then .g else if n = 1 then .u else .b
def BlockSt.code : BlockSt → Nat
  | .off => 0 | .sequencing => 1 | .resetPhase => 2 | .config => 3 | .running => 4 | .recovery => 5 | .draining => 6
  | .thawing => 7 | .test => 8
def ChanSt.code : ChanSt → Nat
  | .untrained => 0 | .training => 1 | .running => 2 | .frozen => 3 | .fenced => 4 | .absent => 5 | .rebuilding => 6
  | .retired => 7
def DistSt.code : DistSt → Nat | .unformed => 0 | .formatting => 1 | .formed => 2 | .degraded => 3 | .mismatch => 4
def MirSt.code : MirSt → Nat
  | .off => 0 | .connecting => 1 | .resyncing => 2 | .inSync => 3 | .broken => 4 | .conflict => 5
def SupSt.code : SupSt → Nat
  | .off => 0 | .rampVaa => 1 | .rampVddp => 2 | .rampVddq => 3 | .good => 4 | .aborted => 5 | .downVddq => 6
  | .downVddp => 7 | .downVaa => 8 | .down => 9 | .incomplete => 10
def SquallSt.code : SquallSt → Nat
  | .idle => 0 | .draining => 1 | .committing => 2 | .selfRefresh => 3 | .holding => 4 | .saving => 5 | .sequencing => 6
  | .awaitSave => 7 | .thawing => 8
def BaySt.code : BaySt → Nat
  | .empty => 0 | .discovering => 1 | .training => 2 | .rebuilding => 3 | .inService => 4 | .preparing => 5
  | .safeToRemove => 6 | .latchFenced => 7 | .fault => 8
def PowSt.code : PowSt → Nat | .active => 0 | .powerDown => 1 | .selfRefresh => 2 | .deepSelfRefresh => 3

end Sys2Proof.Machine
end

