-- ==== Sys2Proof/Machine/Flags.lean ====
section
/-! DEFINITION. Event sources and their routes (R379-R387), cause bits (R64, R87, R331), counters (R388-R392). -/

namespace Sys2Proof.Machine

/-- Index of an event source's objects (R401). -/
def evIdx (n : Nat) : Nat := 0x8000 + n

/-- The 16 bytes of an event entry (R385); the log writes it with its Valid bit last. -/
def evBytes (e : EvEntry) : List Byte :=
  natLe 9 e.stamp.word ++
    natLe 2 (e.source + 2 ^ 9 * e.severity + (if e.overflow then 2 ^ 11 else 0) + 2 ^ 15) ++
    natLe 2 e.count ++ natLe 3 e.detail

/-- The sources with EventPending set, as the objects list them. -/
def pendingSources (s : State) : List Nat :=
  (s.objs.filter (fun e => e.1 % 256 == 5 && decide (0x8000 * 256 ≤ e.1) && decide (e.1 < 0x8200 * 256) && e.2 == 1)).map
    (fun e => e.1 / 256 - 0x8000)

/-- EVT_N is to be low (R383): a pending source has route bit 0, or R382 carries it. -/
def evtCond (s : State) : Bool :=
  (pendingSources s).any (fun n => bit (s.obj (evIdx n) 3) 0 || s.ev.fatal.contains n)

/-- Start the 1 to 4 cycles after which EVT_N follows its condition (R383); how many is free (log 1). -/
def evtSync (s : State) : State :=
  if evtCond s = s.ev.evtLow then { s with ev := { s.ev with evtWait := 0 } }
  else if s.ev.evtWait = 0 then
    { s with ev := { s.ev with evtWait := 1 + Config.freeNat s.freeCtr % 4 }, freeCtr := s.freeCtr + 1 }
  else s

/-- One core cycle of the EVT_N delay. -/
def evtTick (s : State) : State :=
  if s.ev.evtWait = 0 then s
  else if s.ev.evtWait = 1 then { s with ev := { s.ev with evtWait := 0, evtLow := evtCond s } }
  else { s with ev := { s.ev with evtWait := s.ev.evtWait - 1 } }

/-- Entries the event queue holds at most, and its staging buffer (R385). -/
def evQueueSize : Nat := 1024
def evStagingSize : Nat := 64

/-- Write an entry into the queue, if it has room; the answer says whether it was lost. -/
def evWrite (e : EvEntry) (s : State) : State × Bool :=
  if s.ev.queue.length < evQueueSize then
    ({ s with ev := { s.ev with queue := s.ev.queue ++ [{ e with overflow := s.ev.overflowNext }],
                                overflowNext := false, lossRun := false } }, false)
  else ((s.addObj 0x5102 0x30 1 |> fun t => { t with ev := { t.ev with overflowNext := true } }), true)

/-- Entries of the queue written in the cycle of stamp t: the queue's tail, at most four (R385). -/
def evSameCycle (t : Stamp) (q : List EvEntry) : List EvEntry :=
  (q.reverse.takeWhile (fun e => e.stamp.frame == t.frame && e.stamp.slot == t.slot && e.stamp.cycle == t.cycle)).reverse

/-- Take an entry into the queue or, beyond four in the cycle, the staging buffer; ascending source order within the
cycle. The answer says whether it was lost. -/
def evEnqueue (e : EvEntry) (s : State) : State × Bool :=
  let run := evSameCycle e.stamp s.ev.queue
  if s.ev.staging.isEmpty && decide (run.length < 4) then
    let w := evWrite e s
    if w.2 then w
    else
      let keep := w.1.ev.queue.take (w.1.ev.queue.length - (run.length + 1))
      let tail := isort (fun a b => decide (a.source ≤ b.source)) (w.1.ev.queue.drop keep.length)
      ({ w.1 with ev := { w.1.ev with queue := keep ++ tail } }, false)
  else if s.ev.staging.length < evStagingSize then
    let order := fun (a b : EvEntry) =>
      serialLt cycleMod a.stamp.absCycle b.stamp.absCycle ||
        (a.stamp.absCycle == b.stamp.absCycle && decide (a.source ≤ b.source))
    ({ s with ev := { s.ev with staging := sortedInsert order e s.ev.staging } }, false)
  else ((s.addObj 0x5102 0x30 1 |> fun t => { t with ev := { t.ev with overflowNext := true } }), true)

/-- MRAM offset and entries of the event log (R387). -/
def logBase : Nat := 0x6800
def logEntries : Nat := 128

/-- The slot after the valid entry with the latest stamp (R387). -/
def logSlot (m : List Host.Cell) : Nat :=
  let valid := (List.range logEntries).filter (fun i => bit (ldNat m (logBase + 16 * i + 9) 2) 15)
  match valid with
  | [] => 0
  | v :: vs =>
    let st := fun i => stampOfWord (ldNat m (logBase + 16 * i) 9)
    (vs.foldl (fun b i => if stampLt (st b) (st i) then i else b) v + 1) % logEntries

/-- Write a log entry, unless a Squall is in progress or the source wrote one within 2^20 frames (R387). -/
def logWrite (e : EvEntry) (s : State) : State :=
  if s.sup.squall != .idle then s
  else
    let recent := match tfind s.ev.logFrame e.source with
      | some f => decide ((e.stamp.frame + frameMod - f) % frameMod < 2 ^ 20)
      | none => false
    if recent then s
    else { s with mram := sbN s.mram (logBase + 16 * logSlot s.mram) (evBytes e),
                  ev := { s.ev with logFrame := tins s.ev.logFrame e.source e.stamp.frame } }

/-- Counters that select event source n count its occurrences (R389). -/
def countSource (n : Nat) (s : State) : State :=
  s.objs.foldl (fun t e =>
    let idx := e.1 / 256
    let sub := e.1 % 256
    let page := (pageOf idx).1
    if bit e.2 15 && e.2 % 512 == n then
      (if page = 0x3060 && 1 ≤ sub && sub ≤ 8 then t.addObj idx (sub + 0x10) 1
       else if page = 0x2200 && 0x40 ≤ sub && sub ≤ 0x43 then t.addObj idx (sub + 8) 1
       else if page = 0x4000 && 0x30 ≤ sub && sub ≤ 0x31 then t.addObj idx (sub + 8) 1
       else t)
    else t) s

/-- Whether source n was delivered in this core cycle already (R380). -/
def deliveredNow (n : Nat) (s : State) : Bool :=
  s.obj (evIdx n) 4 != 0 && s.obj (evIdx n) 6 / 256 == (s.stampNow 0).word / 256

/-- A raise of source n is counted and stamped; it is pending where the source is enabled or the raise is Fatal (R380,
R382). -/
def markRaise (n sev port : Nat) (enabled : Bool) (s : State) : State :=
  let fatal := decide (3 ≤ sev)
  let s := ((countSource n s).addObj (evIdx n) 4 1).setObj (evIdx n) 6 (s.stampNow port).word
  let s := if enabled || fatal then s.setObj (evIdx n) 5 1 else s
  if fatal && !s.ev.fatal.contains n then { s with ev := { s.ev with fatal := n :: s.ev.fatal } } else s

/-- The deliveries of a raise on the routes of its source (R382-R387). The answer says whether the event queue lost its
entry. -/
def routeRaise (n sev detail port : Nat) (enabled : Bool) (s : State) : State × Bool :=
  let route := s.obj (evIdx n) 3
  let e : EvEntry := { stamp := s.stampNow port, source := n, severity := sev, overflow := false,
                       count := s.obj (evIdx n) 4, detail := detail }
  let s := if enabled && bit route 1 && !s.ev.ibi.contains n then
      { s with ev := { s.ev with ibi := sortedInsert (fun a b => decide (a ≤ b)) n s.ev.ibi } } else s
  let s := if (enabled && bit route 3) || decide (3 ≤ sev) then logWrite e s else s
  if enabled && bit route 2 then evEnqueue e s else (s, false)

/-- A raise of source n (R380-R387): count, stamp, and, once in a core cycle, the deliveries of its routes. The answer says
whether the event queue lost its entry. -/
def raiseOne (n fixed detail port : Nat) (s : State) : State × Bool :=
  let sev := max (s.obj (evIdx n) 2) fixed
  let enabled := s.obj (evIdx n) 1 == 1
  let t := markRaise n sev port enabled s
  if deliveredNow n s || !(enabled || decide (3 ≤ sev)) then (evtSync t, false)
  else
    let q := routeRaise n sev detail port enabled t
    (evtSync q.1, q.2)

/-- Raise source n, with the severity its rule fixes, its detail and the port its rule names. The first loss since the
queue had room raises EventQueueOverflow (R385). A reserved source is never raised (R379). -/
def raiseFull (n fixed detail port : Nat) (s : State) : State :=
  if reservedSource n || 512 ≤ n then s
  else
    let r := raiseOne n fixed detail port s
    if r.2 && !r.1.ev.lossRun then
      (raiseOne 0x014 0 0 0 { r.1 with ev := { r.1.ev with lossRun := true } }).1
    else r.1

/-- Raise source n with nothing fixed. -/
def State.raise (s : State) (n : Nat) : State := raiseFull n 0 0 0 s

/-- Raise a channel source: offset k of channel c, naming a subchannel and a rank slot (R382). -/
def State.raiseChan (s : State) (c k : Nat) (sub : Nat := 0) (rankSlot : Nat := 0) : State :=
  raiseFull (0x40 + 16 * c + k) 0 (sub + 2 * rankSlot) 0 s

/-- Set a cause bit of port p and raise its event (R64). -/
def portCause (p b : Nat) (s : State) : State :=
  let s := s.setObjBit (0x2200 + p) 0x11 b true
  if p < 96 then raiseFull (0x140 + p) 0 b p s else s

/-- Set a cause bit of Crossing x and raise its event, Fatal where the rule fixes it (R84, R87). -/
def crossingCause (x b fixed : Nat) (s : State) : State :=
  raiseFull (0x1A0 + x) fixed b 0 (s.setObjBit (0x4000 + x) 1 b true)

/-- Set a calibration cause bit of channel c and raise CalibrationAlert (R331). -/
def calCause (c b : Nat) (s : State) : State :=
  raiseFull (0x4F + 16 * c) 0 b 0 (s.setObjBit (chIdx 0x3040 c) 0x1B b true)

/-- Add k to the counters of a unit whose select `hit` accepts: n selects from selBase, counters from cntBase. -/
def bumpSelected (idx selBase cntBase n k : Nat) (hit : Nat → Bool) (s : State) : State :=
  forN n s (fun j t => if hit (t.obj idx (selBase + j)) then t.addObj idx (cntBase + j) k else t)

/-- Count code `code` of channel c, on a subchannel where the code has one (R390). -/
def countChan (c code k : Nat) (sub : Option Nat) (s : State) : State :=
  if k = 0 then s
  else bumpSelected (chIdx 0x3060 c) 1 0x11 8 k (fun v =>
    !bit v 15 && v % 256 == code &&
      (match sub with
       | some b => bits v 11 8 == 0 || bits v 11 8 == b + 1
       | none => true)) s

/-- Count code `code` of port p (R391). -/
def countPort (p code k : Nat) (s : State) : State :=
  if k = 0 then s else bumpSelected (0x2200 + p) 0x40 0x48 4 k (fun v => !bit v 15 && v % 256 == code) s

/-- Count code `code` of Crossing x on output o (R392). -/
def countCrossing (x code o k : Nat) (s : State) : State :=
  if k = 0 then s
  else bumpSelected (0x4000 + x) 0x30 0x38 2 k (fun v =>
    !bit v 15 && v % 256 == code && (bits v 11 8 == 7 || bits v 11 8 == o)) s

/-! ### Sampling points (R399, R400) -/

/-- Note a time point of a sampled request, once. -/
def noteT (t : Stamp) (i : Nat) (s : State) : State :=
  { s with samples := s.samples.map (fun x =>
      if x.req.stamp == t && x.ts.getD i 0 == 0 then { x with ts := x.ts.set i s.cycleNow } else x) }

/-- Note a time point of a sampled request that its last line sets. -/
def noteLast (t : Stamp) (i : Nat) (s : State) : State :=
  { s with samples := s.samples.map (fun x => if x.req.stamp == t then { x with ts := x.ts.set i s.cycleNow } else x) }

/-- A line of a sampled request is read and decrypted: t5, and t4 where it is a read's (R400). -/
def noteLine (t : Stamp) (read : Bool) (s : State) : State := noteLast t 5 (if read then noteLast t 4 s else s)

/-- Set a flag of a sampled request. -/
def flagSample (t : Stamp) (b : Nat) (s : State) : State :=
  { s with samples := s.samples.map (fun x => if x.req.stamp == t then { x with flags := setBit x.flags b true } else x) }

/-- Clear EventPending of source n (R383). -/
def clearPending (n : Nat) (s : State) : State :=
  let s := s.setObj (evIdx n) 5 0
  evtSync { s with ev := { s.ev with fatal := s.ev.fatal.filter (fun m => m != n) } }

/-- Move up to four staged entries into the event queue, as in a core cycle (R385). -/
def drainStaging (s : State) : State :=
  let batch := s.ev.staging.take 4
  let s := { s with ev := { s.ev with staging := s.ev.staging.drop 4 } }
  let r := batch.foldl (fun (x : State × Bool) e => let w := evWrite e x.1; (w.1, x.2 || w.2)) (s, false)
  if r.2 && !r.1.ev.lossRun then (raiseOne 0x014 0 0 0 { r.1 with ev := { r.1.ev with lossRun := true } }).1 else r.1

/-- The object that a queue or store mismatch counts in (R182, R188): mismatch table row k. -/
def storeReset (k : Nat) (s : State) : State := (s.addObj 0x5102 (0x21 + k) 1).raise 0x010

end Sys2Proof.Machine
end

