-- ==== Sys2Proof/Machine/Districts.lean ====
section
/-! DEFINITION. Districts and the address map (R88-R105): geometry, mapping orders, carving, decode, metadata placement,
the state of a district as its channels change. -/

namespace Sys2Proof.Machine

/-- Rank bits of 1, 2 or 4 ranks; row bits of a density; position bits of a module count (R89). -/
def rankBits (ranks : Nat) : Nat := if ranks = 4 then 2 else if ranks = 2 then 1 else 0
def rowBits (density : Nat) : Nat := 16 + density
def posBits (modules : Nat) : Nat := if modules = 2 then 1 else 0

/-- log₂ of a district width. -/
def widthBits (n : Nat) : Nat := if n = 16 then 4 else if n = 8 then 3 else if n = 4 then 2 else 0

/-- Position of the channel select of a mapping order (R94). -/
def orderShift (order : Nat) : Nat := if order = 0 then 8 else if order = 1 then 12 else if order = 2 then 16 else 14

/-- U: bytes of a channel below its training rows (R93). -/
def channelBytes (density ranks modules : Nat) : Nat :=
  (2 ^ rowBits density - 1) * 2 ^ (19 + rankBits ranks + posBits modules)

def Desc.channelBytes (d : Desc) : Nat := Machine.channelBytes d.density d.ranks d.modules
/-- G: bytes of a granule (R97). -/
def Desc.granule (d : Desc) : Nat := d.width * 65536
def Desc.formedSpan (d : Desc) : Nat := d.width * d.channelBytes

def roundUp (x g : Nat) : Nat := cdiv x g * g

/-- n_j = ⌈P ÷ 64^j⌉ (R97). -/
def treeNodes (p j : Nat) : Nat := cdiv p (64 ^ j)

/-- T: the smallest j ≥ 1 with n_j ≤ 64 (R97). -/
def treeTop (p : Nat) : Nat :=
  if treeNodes p 1 ≤ 64 then 1 else if treeNodes p 2 ≤ 64 then 2 else if treeNodes p 3 ≤ 64 then 3
  else if treeNodes p 4 ≤ 64 then 4 else 5

/-- The regions of a window for q granules of data (R97): base and copy size of level j, for j = 1 … T, from `at_` on. -/
def levelRegions (p g top : Nat) : Nat → Nat → Nat → List (Nat × Nat)
  | 0, _, _ => []
  | n + 1, j, at_ =>
    if top < j then []
    else
      let size := roundUp (64 * treeNodes p j) g
      (at_, size) :: levelRegions p g top n (j + 1) (at_ + (if j = 1 then size else 3 * size))

/-- A district window carved (R97). Level j of the tree is entry j - 1 of `levels`: (base of copy 0, bytes per copy). -/
structure Carve where
  q : Nat
  pages : Nat
  top : Nat
  counterBase : Nat
  macBase : Nat
  levels : List (Nat × Nat)
  finish : Nat
  deriving DecidableEq, Repr

/-- The window carved for q granules of data under mode (R96, R97). -/
def carveFor (g mode q : Nat) : Carve :=
  let p := q * g / 4096
  let c0 := q * g
  let m0 := c0 + roundUp (64 * p) g
  let t0 := m0 + roundUp (512 * p) g
  let top := treeTop p
  if mode = 2 then { q := q, pages := p, top := 0, counterBase := 0, macBase := 0, levels := [], finish := c0 }
  else if mode = 1 then { q := q, pages := p, top := 0, counterBase := c0, macBase := 0, levels := [], finish := m0 }
  else
    let ls := levelRegions p g top 5 1 t0
    let finish := match ls.getLast? with
      | some (b, z) => if top = 1 then b + z else b + 3 * z
      | none => t0
    { q := q, pages := p, top := top, counterBase := c0, macBase := m0, levels := ls, finish := finish }

/-- The largest q in [lo, hi) whose window fits the span, by bisection. -/
def largestQ (g mode span : Nat) : Nat → Nat → Nat → Nat
  | 0, lo, _ => lo
  | n + 1, lo, hi =>
    if hi ≤ lo + 1 then lo
    else
      let m := (lo + hi) / 2
      if (carveFor g mode m).finish ≤ span then largestQ g mode span n m hi else largestQ g mode span n lo m

/-- The carving of a formed district. -/
def Desc.carve (d : Desc) : Carve :=
  if d.width = 0 then { q := 0, pages := 0, top := 0, counterBase := 0, macBase := 0, levels := [], finish := 0 }
  else carveFor d.granule d.mode (largestQ d.granule d.mode d.span 64 0 (d.span / d.granule + 1))

/-- n_j of a carving. -/
def Carve.nodes (c : Carve) (j : Nat) : Nat := treeNodes c.pages j
def Carve.levelBase (c : Carve) (j : Nat) : Nat := if j = 0 then c.counterBase else (c.levels.getD (j - 1) (0, 0)).1
def Carve.levelSize (c : Carve) (j : Nat) : Nat := if j = 0 then 0 else (c.levels.getD (j - 1) (0, 0)).2

/-- DRAM coordinates of a line (R92). -/
structure Coord where
  sub : Nat
  bg : Nat
  bank : Nat
  col : Nat
  rank : Nat
  pos : Nat
  row : Nat
  deriving DecidableEq, Repr

/-- Line index fields (R92). -/
def lineCoord (order ranks modules density l : Nat) : Coord :=
  let rk := rankBits ranks
  let pb := posBits modules
  let r := rowBits density
  let up := fun (w lo : Nat) => (l / 2 ^ lo) % 2 ^ w
  if order = 3 then
    { sub := up 1 7, bg := up 3 8, bank := up 2 11, col := up 7 0, rank := up rk 13, pos := up pb (13 + rk),
      row := up r (13 + rk + pb) }
  else
    { sub := up 1 0, bg := up 3 1, bank := up 2 4, col := up 7 6, rank := up rk 13, pos := up pb (13 + rk),
      row := up r (13 + rk + pb) }

/-- Bank number, bank group × 4 + bank, and rank slot, 4 × position + rank (R145, R230). -/
def Coord.bankNo (x : Coord) : Nat := 4 * x.bg + x.bank
def Coord.rankSlot (x : Coord) : Nat := 4 * x.pos + x.rank
/-- Key of the bank in a channel's bank table. -/
def Coord.bankKey (x : Coord) : Nat := 256 * x.sub + 32 * x.rankSlot + x.bankNo

/-- Coordinates of line l under a district's descriptor. -/
def Desc.coord (d : Desc) (l : Nat) : Coord := lineCoord d.order d.ranks d.modules d.density l

/-- The line index of coordinates: the inverse of `lineCoord` (R92). -/
def coordLine (order ranks modules : Nat) (x : Coord) : Nat :=
  let rk := rankBits ranks
  let pb := posBits modules
  let low := if order = 3 then x.col + x.sub * 2 ^ 7 + x.bg * 2 ^ 8 + x.bank * 2 ^ 11
    else x.sub + x.bg * 2 + x.bank * 2 ^ 4 + x.col * 2 ^ 6
  low + x.rank * 2 ^ 13 + x.pos * 2 ^ (13 + rk) + x.row * 2 ^ (13 + rk + pb)

/-- R95: channel and channel-local line of a district-local address; copy k of a level 2 or higher turns the channel
index (R99). -/
def Desc.place (d : Desc) (a k : Nat) : Nat × Nat :=
  let s := orderShift d.order
  let n := widthBits d.width
  let i := ((a / 2 ^ s) % 2 ^ n + k) % d.width
  let o := a / 2 ^ (s + n) * 2 ^ s + a % 2 ^ s
  (d.first + i, o / 64)

/-- The district-local address of a line of a channel of the district: the inverse of R95. -/
def Desc.localOf (d : Desc) (c l : Nat) : Nat :=
  let s := orderShift d.order
  let n := widthBits d.width
  let o := 64 * l
  o / 2 ^ s * 2 ^ (s + n) + (c - d.first) * 2 ^ s + o % 2 ^ s

/-- Metadata placement (R98). -/
def Carve.counterAddr (c : Carve) (p : Nat) : Nat := c.counterBase + 64 * p
def Carve.macAddr (c : Carve) (l : Nat) : Nat := c.macBase + 64 * (l / 8)
def Carve.nodeAddr (c : Carve) (j idx k : Nat) : Nat := c.levelBase j + k * c.levelSize j + 64 * idx

/-- Which copy of a tree node a district-local address belongs to: 0 outside the copies of levels 2 and above (R98). -/
def Carve.copyAt (c : Carve) (a : Nat) : Nat :=
  ((List.range (c.top - 1)).findSome? (fun i => (List.range 3).find? (fun k =>
    let b := c.levelBase (i + 2) + k * c.levelSize (i + 2)
    decide (b ≤ a) && decide (a < b + c.levelSize (i + 2))))).getD 0

/-- Channel and line of any address of a window, metadata included (R95, R99). -/
def Desc.placeAny (d : Desc) (a : Nat) : Nat × Nat :=
  d.place a (if d.mode = 0 && decide (d.limit ≤ a) then d.carve.copyAt a else 0)

/-- A district decodes requests: Formed or Degraded (R91). -/
def DistSt.serving : DistSt → Bool
  | .formed | .degraded => true
  | _ => false

/-- What a global address decodes to (R91): data of a district, a window that answers ABSENT, or nothing. -/
inductive Decoded where
  | data (d a : Nat)
  | absent (d : Nat)
  | window (d a : Nat)
  | nothing
  deriving DecidableEq, Repr

/-- The window of a district in Formatting or Mismatch (R91): its descriptor's, or from the objects in force when the
descriptor fails its CRC. -/
def State.pendingWindow (s : State) (d : Nat) : Nat × Nat :=
  let x := s.dist d
  if x.st = .mismatch && bit (s.obj (0x2100 + d) 0x0E) 4 then
    (s.obj (0x2100 + d) 4, s.obj (0x2100 + d) 2 * 2 ^ 40)
  else (x.desc.base, x.desc.span)

/-- Decode a global byte address (R91). -/
def State.decode (s : State) (g : Nat) : Decoded :=
  let serving := [0, 1, 2, 3].find? (fun d =>
    (s.dist d).st.serving && decide ((s.dist d).desc.base ≤ g) && decide (g < (s.dist d).desc.base + (s.dist d).desc.span))
  match serving with
  | some d =>
    let a := g - (s.dist d).desc.base
    if a < (s.dist d).desc.limit then .data d a else .window d a
  | none =>
    match [0, 1, 2, 3].find? (fun d =>
      ((s.dist d).st == .formatting || (s.dist d).st == .mismatch) &&
        decide ((s.pendingWindow d).1 ≤ g) && decide (g < (s.pendingWindow d).1 + (s.pendingWindow d).2)) with
    | some d => .absent d
    | none => .nothing

/-- Channels of a district. -/
def Desc.channels (d : Desc) : List Nat := (List.range d.width).map (fun i => d.first + i)

/-- A channel state that degrades its district (R103). -/
def ChanSt.degrades : ChanSt → Bool
  | .frozen | .fenced | .absent | .rebuilding | .retired => true
  | _ => false

/-- A formed district is Degraded while a channel of it degrades it (R103). -/
def refreshDistrict (d : Nat) (s : State) : State :=
  let x := s.dist d
  if x.st.serving then
    let bad := x.desc.channels.any (fun c => (s.chan c).st.degrades)
    s.setDist d { x with st := if bad then .degraded else .formed }
  else s

/-- Change a channel's state: its stamp, and its district's state (R103, R440). -/
def setChanState (c : Nat) (st : ChanSt) (s : State) : State :=
  let s := (s.modChan c (fun ch => { ch with st := st })).setObj (chIdx 0x3000 c) 3 (s.stampNow 0).word
  match (s.chan c).dist with
  | some d => refreshDistrict d s
  | none => s

/-- The descriptor of the district a channel belongs to. -/
def State.descOf (s : State) (c : Nat) : Option (Nat × Desc) :=
  match (s.chan c).dist with
  | some d => some (d, (s.dist d).desc)
  | none => none

/-- Geometry a channel is timed for: density, ranks, modules of its bays (R89, R133). -/
def State.channelGeometry (s : State) (c : Nat) : Nat × Nat × Nat :=
  match s.moduleAt (2 * c), s.moduleAt (2 * c + 1) with
  | some a, some b => (max a.density b.density, max a.ranks b.ranks, 2)
  | some a, none => (a.density, a.ranks, 1)
  | none, some b => (b.density, b.ranks, 1)
  | none, none => (0, 1, 0)

/-- Coordinates of a line of channel c: by its district's order, or order A where it has none. -/
def State.coordOf (s : State) (c l : Nat) : Coord :=
  match s.descOf c with
  | some (_, d) => d.coord l
  | none => let g := s.channelGeometry c; lineCoord 0 g.2.1 g.2.2 g.1 l

/-- The line of channel c at given coordinates. -/
def State.lineAt (s : State) (c : Nat) (x : Coord) : Nat :=
  match s.descOf c with
  | some (_, d) => coordLine d.order d.ranks d.modules x
  | none => let g := s.channelGeometry c; coordLine 0 g.2.1 g.2.2 x

/-- Objects that report a carving (R105). -/
def publishCarve (d : Nat) (s : State) : State :=
  let x := s.dist d
  let c := x.desc.carve
  let i := 0x2100 + d
  let s := ((((s.setObj i 8 x.desc.span).setObj i 9 x.desc.limit).setObj i 0x0A c.counterBase).setObj i 0x0B c.macBase).setObj i 0x0C c.top
  let kept := fun j => if x.desc.mode = 2 then false else if j = 0 then true else decide (j ≤ c.top)
  forN 6 s (fun j t =>
    ((t.setObj i (0x10 + j) (if kept j then c.levelBase j else 0)).setObj i (0x20 + j)
        (if kept j then (if j = 0 then roundUp (64 * c.pages) x.desc.granule else c.levelSize j) else 0)).setObj i (0x30 + j)
      (if kept j then (if j = 0 then c.pages else c.nodes j) else 0))

end Sys2Proof.Machine
end

