-- ==== Sys2Proof/Machine/Vault.lean ====
section
/-! DEFINITION. The vault record in MRAM (R168): vault header (R197, R249, R269, R340), root slots (R351), descriptors
(R475), the first-failure log (R339, R340), cursors (R429), the lists and maps of the other regions. -/

namespace Sys2Proof.Machine

/-- Serial comparison of 32-bit sequence numbers over a window of 2^31: b is ahead of a. -/
def seq32Lt (a b : Nat) : Bool := serialLt (2 ^ 32) a b

/-! ### Vault header (R197) -/

def vaultBase (k : Nat) : Nat := 0x80 * k

/-- A copy is valid when its Crc matches. -/
def vaultValid (m : List Host.Cell) (k : Nat) : Bool :=
  crc32c (ldN m (vaultBase k) 0x7C) == ldNat m (vaultBase k + 0x7C) 4

/-- The valid copy with the greater Sequence. -/
def vaultNewest (m : List Host.Cell) : Option Nat :=
  let sq := fun k => ldNat m (vaultBase k + 0x78) 4
  if vaultValid m 0 then
    (if vaultValid m 1 && seq32Lt (sq 0) (sq 1) then some 1 else some 0)
  else if vaultValid m 1 then some 1 else none

/-- RollFlags: bit 0 roll active, bit 1 episode marker, bits 4-7 districts swept (R197, R340). -/
def Vault.rollFlags (v : Vault) : Nat :=
  (if v.rollActive then 1 else 0) + (if v.marker then 2 else 0) +
    forN 4 0 (fun d a => if v.swept.getD d false then a + 2 ^ (4 + d) else a)

/-- Bytes 0x00-0x7B of a copy with a given Sequence. -/
def Vault.bytes (v : Vault) (sq : Nat) : List Byte :=
  natLe 4 1 ++ natLe 2 v.gen ++ natLe 1 v.source ++ natLe 1 v.rollFlags ++ natLe 4 v.check ++ natLe 4 v.succCheck ++
    natLe 8 v.lastFrame ++ (v.checkpoints.map (natLe 8)).flatten ++ (v.epochs.map (natLe 2)).flatten ++
    (v.ceilings.map (natLe 8)).flatten ++ natLe 2 v.session ++ natLe 2 0 ++ natLe 4 v.linkCheck ++
    (v.leadEpochs.map (natLe 4)).flatten ++ natLe 4 sq

/-- The header a copy holds. -/
def vaultRead (m : List Host.Cell) (k : Nat) : Vault :=
  let b := vaultBase k
  let f := ldNat m (b + 7) 1
  let four := fun (o w : Nat) => (List.range 4).map (fun d => ldNat m (b + o + w * d) w)
  { stored := true, gen := ldNat m (b + 4) 2, source := ldNat m (b + 6) 1, rollActive := bit f 0, marker := bit f 1,
    swept := (List.range 4).map (fun d => bit f (4 + d)), check := ldNat m (b + 8) 4, succCheck := ldNat m (b + 0xC) 4,
    lastFrame := ldNat m (b + 0x10) 8 % frameMod, checkpoints := four 0x18 8, epochs := four 0x38 2,
    ceilings := four 0x40 8, session := ldNat m (b + 0x60) 2, linkCheck := ldNat m (b + 0x64) 4,
    leadEpochs := four 0x68 4, seq := ldNat m (b + 0x78) 4 }

/-- Write the header in use to the copy that does not hold the newest valid Sequence (R197). -/
def writeVault (s : State) : State :=
  let k := match vaultNewest s.mram with | some 0 => 1 | some _ => 0 | none => 0
  let sq := (s.vault.seq + 1) % 2 ^ 32
  let body := s.vault.bytes sq
  { s with mram := sbN s.mram (vaultBase k) (body ++ natLe 4 (crc32c body)),
           vault := { s.vault with seq := sq, stored := true } }

/-- Replace entry i of a list of four. -/
def set4 {α : Type} (l : List α) (i : Nat) (v : α) : List α := l.set i v

/-- Show the key fields of the header in their objects (R224). -/
def publishVault (s : State) : State :=
  let v := s.vault
  let s := (((s.setObj 0x5000 1 v.source).setObj 0x5000 2 v.gen).setObj 0x5000 3 v.check).setObj 0x5000 4 v.succCheck
  let s := s.setObj 0x5000 0x0A (if v.rollActive then 1 else 0)
  forN 4 s (fun d t => (t.setObj 0x5000 (0x50 + d) (v.epochs.getD d 0)).setObj (0x6010 + d) 5 (v.leadEpochs.getD d 0))

/-! ### Root slots (R351) -/

def rootBase (k : Nat) : Nat := 0x100 + 0x200 * k

def rootValid (m : List Host.Cell) (k : Nat) : Bool :=
  crc32c (ldN m (rootBase k) 0x1FC) == ldNat m (rootBase k + 0x1FC) 4 && ldNat m (rootBase k + 4) 2 == 1

def rootNewest (m : List Host.Cell) : Option Nat :=
  let sq := fun k => ldNat m (rootBase k) 4
  if rootValid m 0 then (if rootValid m 1 && seq32Lt (sq 0) (sq 1) then some 1 else some 0)
  else if rootValid m 1 then some 1 else none

/-- The 48 bytes of root minors: minor k in bits [6k + 5:6k]. -/
def packMinors (t : Tbl Nat) : List Byte := natLe 48 (t.foldl (fun a e => a + (e.2 % 64) * 2 ^ (6 * e.1)) 0)

def unpackMinors (bs : List Byte) : Tbl Nat :=
  let v := leNat bs
  (List.range 64).foldl (fun t k => tput t k (bits v (6 * k + 5) (6 * k)) 0) []

/-- The 96-byte block of a district. -/
def districtBlock (s : State) (d drained left lost : Nat) : List Byte :=
  let x := s.dist d
  natLe 8 (x.rootMajor % 2 ^ 63) ++ natLe 1 x.rootCursor ++ natLe 1 x.flags ++ natLe 2 s.vault.gen ++
    natLe 2 (s.vault.epochs.getD d 0) ++ natLe 2 0 ++ packMinors x.rootMinors ++ natLe 4 drained ++ natLe 4 left ++
    natLe 4 lost ++ List.replicate 20 0

/-- Write the root slot that does not hold the newest valid Sequence (R101, R350): cause, blocks, StaleCount,
StaleCrc, energies; its Crc last. -/
def writeRootSlot (cause : Nat) (blocks : List (List Byte)) (count crc atCut spent : Nat) (s : State) : State :=
  let newest := rootNewest s.mram
  let k := match newest with | some 0 => 1 | some _ => 0 | none => 0
  let sq := match newest with | some j => (ldNat s.mram (rootBase j) 4 + 1) % 2 ^ 32 | none => 1
  let body := natLe 4 sq ++ natLe 2 1 ++ natLe 1 cause ++ natLe 1 0 ++ natLe 9 (s.stampNow 0).word ++
    List.replicate 15 0 ++ blocks.flatten ++ natLe 2 count ++ natLe 2 0 ++ natLe 4 crc ++ natLe 4 atCut ++
    natLe 4 spent ++ List.replicate 76 0
  { s with mram := sbN s.mram (rootBase k) (body ++ natLe 4 (crc32c body)) }

/-- A district's block in the slot in force, zero where none is. -/
def storedBlock (m : List Host.Cell) (d : Nat) : List Byte :=
  match rootNewest m with
  | some k => ldN m (rootBase k + 0x20 + 0x60 * d) 0x60
  | none => List.replicate 0x60 0

/-- The root commit that ends a formation (R101): Cause 0, district d from the state, the others' roots current and the
rest of their blocks, StaleCount and StaleCrc as in the slot in force. -/
def commitFormation (d : Nat) (s : State) : State :=
  let old := rootNewest s.mram
  let blocks := (List.range 4).map (fun e =>
    if e = d then districtBlock s e 0 0 0
    else if (s.dist e).st.serving && (s.dist e).desc.mode = 0 && (s.dist e).rootOk then
      natLe 8 ((s.dist e).rootMajor % 2 ^ 63) ++ natLe 1 (s.dist e).rootCursor ++
        ((storedBlock s.mram e).drop 9).take 7 ++ packMinors (s.dist e).rootMinors ++ (storedBlock s.mram e).drop 0x40
    else storedBlock s.mram e)
  let at_ := fun (o n : Nat) => match old with | some k => ldNat s.mram (rootBase k + o) n | none => 0
  writeRootSlot 0 blocks (at_ 0x1A0 2) (at_ 0x1A4 4) 0 0 s

/-! ### District descriptors (R475) -/

def descBase (d : Nat) : Nat := 0x500 + 64 * d

/-- Words 1 to 7 of a descriptor, its Crc last. -/
def Desc.bytes (x : Desc) : List Byte :=
  let body := natLe 1 x.width ++ natLe 1 x.first ++ natLe 1 x.order ++ natLe 1 x.mode ++
    natLe 1 (if x.format then 1 else 0) ++ natLe 1 x.density ++ natLe 1 x.ranks ++ natLe 1 x.modules ++
    natLe 8 x.base ++ natLe 8 x.span ++ natLe 8 x.limit ++
    (List.range 16).flatMap (fun i => natLe 1 (x.retired.getD i 0)) ++ natLe 4 0
  body ++ natLe 4 (crc32c body)

/-- Write words 1 to 7 of a district's descriptor. -/
def writeDesc (d : Nat) (s : State) : State :=
  { s with mram := sbN s.mram (descBase d + 8) (s.dist d).desc.bytes }

/-- Write word 0, DescriptorState. -/
def writeDescState (d st : Nat) (s : State) : State :=
  { s with mram := sbNat s.mram (descBase d) 8 st }

def descState (m : List Host.Cell) (d : Nat) : Nat := ldNat m (descBase d) 1

def descCrcOk (m : List Host.Cell) (d : Nat) : Bool :=
  crc32c (ldN m (descBase d + 8) 0x34) == ldNat m (descBase d + 0x3C) 4

def readDesc (m : List Host.Cell) (d : Nat) : Desc :=
  let b := descBase d
  { width := ldNat m (b + 8) 1, first := ldNat m (b + 9) 1, order := ldNat m (b + 0xA) 1, mode := ldNat m (b + 0xB) 1,
    format := ldNat m (b + 0xC) 1 == 1, density := ldNat m (b + 0xD) 1, ranks := ldNat m (b + 0xE) 1,
    modules := ldNat m (b + 0xF) 1, base := ldNat m (b + 0x10) 8, span := ldNat m (b + 0x18) 8,
    limit := ldNat m (b + 0x20) 8, retired := (List.range 16).map (fun i => ldNat m (b + 0x28 + i) 1) }

/-! ### Failure log (R339, R340) -/

def failBase (k : Nat) : Nat := 0x700 + 64 * k

/-- The slot after the valid entry with the greatest Sequence. -/
def failSlot (m : List Host.Cell) : Nat × Nat :=
  let valid := (List.range 16).filter (fun k => ldNat m (failBase k) 1 == 0x5A)
  let sq := fun k => ldNat m (failBase k + 4) 4
  match valid with
  | [] => (0, 0)
  | v :: vs => let k := vs.foldl (fun b j => if seq32Lt (sq b) (sq j) then j else b) v
               ((k + 1) % 16, (sq k + 1) % 2 ^ 32)

/-- Write an entry of the failure log in its two phases (R340); the bytes from 0x18 on are given. -/
def writeFailure (kind input : Nat) (stamp : Stamp) (rest : List Byte) (s : State) : State :=
  let p := failSlot s.mram
  let word0 := fun (ph : Nat) => natLe 1 ph ++ natLe 1 kind ++ natLe 1 input ++ natLe 1 s.blk.st.code ++ natLe 4 p.2
  let body := natLe 9 stamp.word ++ List.replicate 7 0 ++ fit 40 rest
  let m := sbN s.mram (failBase p.1) (word0 0xA5)
  let m := sbN m (failBase p.1 + 8) body
  { s with mram := sbN m (failBase p.1) (word0 0x5A), sup := { s.sup with logSeq := (p.2 + 1) % 2 ^ 32 } }

/-- Bytes 0x18-0x2F of an entry: pin voltage and chatter of the input, supply state, hold voltage; the Squall fields
are zero but for kind 4 (R339). -/
def failureFields (input : Nat) (cause atCut spent left stale drain : Nat) (s : State) : List Byte :=
  let i := if input < 6 then input else 4
  natLe 2 (if input < 6 then s.obj (0x7001 + i) 6 else 0) ++ natLe 1 (if input < 6 then s.obj (0x7001 + i) 8 else 0) ++
    natLe 1 s.sup.st.code ++ natLe 2 (s.obj 0x7006 6) ++ natLe 1 cause ++ natLe 1 0 ++ natLe 4 atCut ++ natLe 4 spent ++
    natLe 4 left ++ natLe 2 stale ++ natLe 2 drain

/-! ### Cursors, lists and maps -/

def scrubCursorAt (c : Nat) : Nat := 0x3000 + 8 * c
def resyncAt (d : Nat) : Nat := 0x3080 + 8 * d
def rebuildCursorAt (c : Nat) : Nat := 0x30A0 + 8 * c
def sealedAt (i : Nat) : Nat := 0xB00 + 8 * i
def erasureAt (c sub rankSlot : Nat) : Nat := 0xF00 + 16 * c + 8 * sub + rankSlot
def saveFlagsAt (b : Nat) : Nat := 0x600 + 8 * b
/-- Bit i of a bay's save flags (R367). -/
def saveFlag (s : State) (b i : Nat) : Bool := bit (ldNat s.mram (saveFlagsAt b) 1) i
def setSaveFlag (b i : Nat) (v : Bool) (s : State) : State :=
  { s with mram := sbNat s.mram (saveFlagsAt b) 1 (setBit (ldNat s.mram (saveFlagsAt b) 1) i v) }

/-- A bay enters InService (R367, R368): save flag bit 5 is set, a removal needs a new permission. -/
def bayInService (b : Nat) (s : State) : State :=
  setSaveFlag b 5 true (s.modBay b (fun y => { y with st := .inService, allow := false }))

def staleAt (i : Nat) : Nat := 0x1000 + 8 * i
def repairAtMram (e : Nat) : Nat := 0xF000 + 16 * e
def trimAt (c : Nat) : Nat := 0x7000 + 0x800 * c

/-- The erased device of a rank slot (R231). -/
def State.erasedDevice (s : State) (c sub rankSlot : Nat) : Option Nat :=
  let b := (ld s.mram (erasureAt c sub rankSlot)).toNat
  if 0xA0 ≤ b && b ≤ 0xA9 then some (b - 0xA0) else none

/-- Write the erasure map byte: 0xFF for none (R231). -/
def setErased (c sub rankSlot : Nat) (k : Option Nat) (s : State) : State :=
  { s with mram := sb s.mram (erasureAt c sub rankSlot) (BitVec.ofNat 8 (match k with | some d => 0xA0 + d | none => 0xFF)) }

/-- The 16 bytes of a repair entry (R248). -/
def Repair.bytes (r : Repair) : List Byte :=
  natLe 8 (r.index % 2 ^ 38 + r.state * 2 ^ 56 + r.kind * 2 ^ 59 + r.dist * 2 ^ 62) ++ natLe 8 r.progress

def repairOfBytes (bs : List Byte) : Repair :=
  let lo := leNat (bs.take 8)
  { progress := leNat (bs.drop 8), dist := bits lo 63 62, kind := bits lo 61 59, state := bits lo 58 56,
    index := bits lo 37 0, marked := false }

/-- Write a repair entry through to MRAM. -/
def storeRepair (e : Nat) (s : State) : State :=
  { s with mram := sbN s.mram (repairAtMram e) (s.repairAt e).bytes }

/-- An entry of the stale-local list (R349): district, first page, pages, Lost. -/
def staleWord (d first count : Nat) (lost : Bool) : Nat :=
  first % 2 ^ 34 + ((count - 1) % 2 ^ 27) * 2 ^ 34 + (if lost then 2 ^ 61 else 0) + d * 2 ^ 62

/-- StaleCount and StaleCrc of the root slot in force, and whether the list can be trusted (R351). -/
def staleTrusted (m : List Host.Cell) : Nat × Bool :=
  match rootNewest m with
  | some k =>
    let n := ldNat m (rootBase k + 0x1A0) 2
    (n, decide (n ≤ 1024) && crc32c (ldN m 0x1000 (8 * n)) == ldNat m (rootBase k + 0x1A4) 4)
  | none => (0, false)

/-- The stored stale ranges: (district, first page, pages, Lost). -/
def staleEntries (m : List Host.Cell) : List (Nat × Nat × Nat × Bool) :=
  if (staleTrusted m).2 then
    (List.range (staleTrusted m).1).map (fun i =>
      let v := ldNat m (staleAt i) 8
      (bits v 63 62, bits v 33 0, bits v 60 34 + 1, bit v 61))
  else []

end Sys2Proof.Machine
end

