-- ==== Sys2Proof/Machine/Cipher.lean ====
section
/-! DEFINITION. Encryption (R190-R201, R476), counter blocks and tree nodes (R202-R204, R213), and the check code of a
stored line (R227-R229, R236). A stored line is 640 bits: 64 data bytes above its 16 check bytes. -/

namespace Sys2Proof.Machine

/-- AES-256 of a 128-bit value under a 256-bit key, in the byte order of R476. -/
def aesE (key : BitVec 256) (v : Nat) : Nat := beNat (aes256 (beBytes 32 key.toNat) (beBytes 16 v))

/-- The block C of R193: bits [52:38] all 1. -/
def blockC : Nat := 0x7FFF * 2 ^ 38

/-- The key check value of a pair (R193). -/
def keyCheck (k : KeyPair) : Nat := aesE k.macKey (aesE k.dataKey blockC) / 2 ^ 96

/-- LinkKeyCheck (R269). -/
def linkKeyCheck (k : LinkKeys) : Nat := aesE k.aTx blockC / 2 ^ 96

/-- Keys derived from the device secret (R192, R476). -/
def derivedKeys : KeyPair :=
  { gen := 0,
    dataKey := BitVec.ofNat 256 (aesE Config.deviceSecret 1 * 2 ^ 128 + aesE Config.deviceSecret 2),
    macKey := BitVec.ofNat 256 (aesE Config.deviceSecret 3 * 2 ^ 128 + aesE Config.deviceSecret 4) }

/-- The pad and mask input (R198). -/
def padInput (domain dist major minor block epoch line : Nat) : Nat :=
  domain * 2 ^ 126 + dist * 2 ^ 124 + (major % 2 ^ 63) * 2 ^ 61 + (minor % 64) * 2 ^ 55 + block * 2 ^ 53 +
    (epoch % 2 ^ 15) * 2 ^ 38 + line % 2 ^ 38

/-- The hash key of a MacKey (R199). -/
def hashKey (k : BitVec 256) : Nat := aesE k (padInput 3 0 0 0 0 0 0) % 2 ^ 64

/-- The hash of words (R199). -/
def hashWords (h : Nat) (ws : List Nat) : Nat := ws.foldl (fun a w => gf64Mul (a ^^^ w) h) 0

/-- The counters that apply to an item: generation bit, major, minor (R213). -/
structure Ctr where
  gen : Nat
  major : Nat
  minor : Nat
  deriving DecidableEq, Repr

/-- Node fields (R202). -/
def nodeGen (n : BitVec 512) : Nat := bits n.toNat 511 511
def nodeMajor (n : BitVec 512) : Nat := bits n.toNat 510 448
def nodeMinor (n : BitVec 512) (k : Nat) : Nat := bits n.toNat (64 + 6 * k + 5) (64 + 6 * k)
def nodeCursor (n : BitVec 512) : Nat := bits n.toNat 63 56
def nodeMac (n : BitVec 512) : Nat := bits n.toNat 55 0

/-- Replace bits [lo + w - 1:lo] of a node. -/
def nodeSet (n : BitVec 512) (lo w v : Nat) : BitVec 512 :=
  BitVec.ofNat 512 (n.toNat - bits n.toNat (lo + w - 1) lo * 2 ^ lo + (v % 2 ^ w) * 2 ^ lo)

def nodeSetMinor (n : BitVec 512) (k v : Nat) : BitVec 512 := nodeSet n (64 + 6 * k) 6 v
def nodeSetCursor (n : BitVec 512) (v : Nat) : BitVec 512 := nodeSet n 56 8 v
def nodeSetMajor (n : BitVec 512) (v : Nat) : BitVec 512 := nodeSet n 448 63 v
def nodeSetGen (n : BitVec 512) (v : Nat) : BitVec 512 := nodeSet n 511 1 v
def nodeSetMac (n : BitVec 512) (v : Nat) : BitVec 512 := nodeSet n 0 56 v

/-- A node as formation or a replacement writes it, its MAC still 0. -/
def freshNode (gen major : Nat) : BitVec 512 := nodeSetMajor (nodeSetGen 0 gen) major

/-- A cursor value of R204. -/
def cursorValid (v : Nat) : Bool := v == 0 || v == 0x40 || (decide (0x80 ≤ v) && decide (v < 0x100))

/-- A migration is in progress, and the items passed. -/
def cursorBusy (v : Nat) : Bool := decide (0x80 ≤ v)
def cursorM (v : Nat) : Nat := v % 64

/-- The counters of item k of a node (R204, R213). -/
def itemCtr (n : BitVec 512) (k : Nat) : Ctr :=
  let cur := nodeCursor n
  let m := cursorM cur
  if 0xC0 ≤ cur && k < m then { gen := 1 - nodeGen n, major := 0, minor := nodeMinor n k }
  else if 0x80 ≤ cur && cur < 0xC0 && k < m then { gen := nodeGen n, major := nodeMajor n + 1, minor := nodeMinor n k }
  else { gen := nodeGen n, major := nodeMajor n, minor := nodeMinor n k }

/-- The keys of a generation bit: those in use or the successor's; no district is served without keys (R194). -/
def State.keyFor (s : State) (gen : Nat) : KeyPair :=
  let none' : KeyPair := { gen := 0, dataKey := 0, macKey := 0 }
  match s.keys.cur with
  | some k => if k.gen % 2 = gen then k else s.keys.succ.getD k
  | none => none'

/-- The FormationEpoch an item of a generation bit uses: the successor's items use the epoch 0 that the roll ends in
(R201, R220; log 10). -/
def State.epochFor (s : State) (d gen : Nat) : Nat :=
  if s.vault.rollActive && s.vault.gen % 2 != gen then 0 else s.vault.epochs.getD d 0

/-- The pad of a line, byte 16b + j in bits [8(16b + j) + 7:8(16b + j)] (R198). -/
def linePad (k : KeyPair) (dist epoch line : Nat) (c : Ctr) : Nat :=
  (List.range 4).foldl (fun a b =>
    a + leNat ((beBytes 16 (aesE k.dataKey (padInput 0 dist c.major c.minor b epoch line))).map (BitVec.ofNat 8)) *
      2 ^ (128 * b)) 0

/-- Encrypt or decrypt a line. -/
def cryptLine (k : KeyPair) (dist epoch line : Nat) (c : Ctr) (v : BitVec 512) : BitVec 512 :=
  v ^^^ BitVec.ofNat 512 (linePad k dist epoch line c)

/-- The MAC of a data line (R200). -/
def dataMac (k : KeyPair) (dist epoch line : Nat) (c : Ctr) (ct : BitVec 512) : Nat :=
  let ws := (List.range 8).map (fun i => bits ct.toNat (64 * i + 63) (64 * i))
  let w9 := dist * 2 ^ 60 + c.gen * 2 ^ 59 + c.minor * 2 ^ 53 + line % 2 ^ 38
  hashWords (hashKey k.macKey) (ws ++ [w9, c.major % 2 ^ 63]) ^^^
    (aesE k.macKey (padInput 1 dist c.major c.minor 0 epoch line) % 2 ^ 64)

/-- The MAC of a node under its parent's counters (R203); `line` is the LineIndex of copy 0. -/
def nodeMacOf (k : KeyPair) (dist epoch line : Nat) (parent : Ctr) (n : BitVec 512) : Nat :=
  let ws := (List.range 7).map (fun i => bits n.toNat (64 * (i + 1) + 63) (64 * (i + 1)))
  let w9 := 2 * 2 ^ 62 + dist * 2 ^ 60 + nodeGen n * 2 ^ 59 + parent.minor * 2 ^ 53 + line % 2 ^ 38
  (hashWords (hashKey k.macKey) (ws ++ [nodeCursor n, w9, parent.major % 2 ^ 63]) ^^^
    aesE k.macKey (padInput 2 dist parent.major parent.minor 0 epoch line)) % 2 ^ 56

/-! ### The check code (R227-R229) -/

def storedData (v : BitVec 640) : BitVec 512 := BitVec.ofNat 512 (v.toNat / 2 ^ 128)
def storedCheck (v : BitVec 640) : Nat := v.toNat % 2 ^ 128
def storedLine (d : BitVec 512) (check : Nat) : BitVec 640 := BitVec.ofNat 640 (d.toNat * 2 ^ 128 + check)

/-- Symbol k of codeword i (R227): device nibbles of beats 2i and 2i + 1. -/
def symbolOf (v : BitVec 640) (i k : Nat) : Nat :=
  let d := v.toNat / 2 ^ 128
  let c := v.toNat
  let nib := fun t => if k < 8 then bits d (32 * t + 4 * k + 3) (32 * t + 4 * k)
    else bits c (8 * t + 4 * (k - 8) + 3) (8 * t + 4 * (k - 8))
  nib (2 * i) + 16 * nib (2 * i + 1)

/-- Syndromes S₀ and S₁ of codeword i (R228). -/
def syndrome (v : BitVec 640) (i : Nat) : Nat × Nat :=
  (List.range 10).foldl (fun a k => (a.1 ^^^ symbolOf v i k, a.2 ^^^ gf8Mul (symbolOf v i k) (gf8Pow k))) (0, 0)

def syndromes (v : BitVec 640) : List (Nat × Nat) := (List.range 8).map (syndrome v)

/-- The 16 check bytes of a line's data: byte t holds device 8's nibble of beat t below device 9's (R227, R228). -/
def checkBytes (d : BitVec 512) : Nat :=
  (List.range 8).foldl (fun a i =>
    let sy := syndrome (storedLine d 0) i
    let s9 := gf8Mul (sy.2 ^^^ gf8Mul sy.1 (gf8Pow 8)) (gf8Inv (gf8Pow 8 ^^^ gf8Pow 9))
    let s8 := sy.1 ^^^ s9
    a + (s8 % 16 + 16 * (s9 % 16)) * 2 ^ (16 * i) + (s8 / 16 + 16 * (s9 / 16)) * 2 ^ (16 * i + 8)) 0

/-- The codeword set of a line. -/
def encodeLine (d : BitVec 512) : BitVec 640 := storedLine d (checkBytes d)

/-- The poison marker (R236): zero data, s₈ = s₉ = 0x01 in every codeword. -/
def poisonMarker : BitVec 640 := BitVec.ofNat 640 0x00110011001100110011001100110011

/-- Flip symbol k of codeword i by e. -/
def fixSymbol (v : BitVec 640) (i k e : Nat) : BitVec 640 :=
  let at_ := if k < 8 then 128 + 64 * i + 4 * k else 16 * i + 4 * (k - 8)
  let up := if k < 8 then 32 else 8
  v ^^^ BitVec.ofNat 640 (e % 16 * 2 ^ at_ + e / 16 * 2 ^ (at_ + up))

/-- What the decoder makes of a line (R229). -/
inductive LineOut where
  | clean (d : BitVec 512)
  | poison
  | erasure (v : BitVec 640)
  | corrected (dev : Nat) (v : BitVec 640)
  | uncorrectable
  deriving DecidableEq, Repr

/-- The device that explains a codeword's syndromes alone. -/
def syndromeDevice (sy : Nat × Nat) : Option Nat :=
  if sy.1 = 0 || sy.2 = 0 then none else gf8Log10 (gf8Mul sy.2 (gf8Inv sy.1))

/-- Decode outcomes, in the order of R229's table. -/
def decodeLine (erased : Option Nat) (v : BitVec 640) : LineOut :=
  let sy := syndromes v
  let idx := List.range 8
  if sy.all (fun x => x.1 == 0 && x.2 == 0) then .clean (storedData v)
  else if sy.all (fun x => x.1 == 0 && x.2 == 0x27) then .poison
  else
    let fix := fun k => idx.foldl (fun a i => fixSymbol a i k (sy.getD i (0, 0)).1) v
    match erased with
    | some e =>
      if sy.all (fun x => x.2 == gf8Mul x.1 (gf8Pow e)) then .erasure (fix e) else .uncorrectable
    | none =>
      let bad := sy.filter (fun x => !(x.1 == 0 && x.2 == 0))
      match bad.head?.bind syndromeDevice with
      | some k => if bad.all (fun x => syndromeDevice x == some k) then .corrected k (fix k) else .uncorrectable
      | none => .uncorrectable

/-- The data an outcome delivers. -/
def LineOut.data : LineOut → Option (BitVec 512)
  | .clean d => some d
  | .erasure v => some (storedData v)
  | .corrected _ v => some (storedData v)
  | .poison => none
  | .uncorrectable => none

/-! ### What the modules hold -/

/-- Region of a district window a local address lies in: 0 data, 1 counter blocks, 2 MAC, 3 + (level, index) tree. -/
inductive Region where
  | data
  | counter (page : Nat)
  | mac (index : Nat)
  | node (level index : Nat)
  | unused
  deriving DecidableEq, Repr

/-- The region of a district-local address as it lies on its channel: the copies of levels 2 and above are turned
back to copy 0 (R98, R99). -/
def Desc.regionOf (x : Desc) (a : Nat) : Region :=
  let c := x.carve
  if a < x.limit then .data
  else if x.mode = 2 then .unused
  else if a < c.counterBase + 64 * c.pages then .counter ((a - c.counterBase) / 64)
  else if x.mode = 1 then .unused
  else if a < c.macBase then .unused
  else if a < c.macBase + 512 * c.pages then .mac ((a - c.macBase) / 64)
  else
    let s := orderShift x.order
    let n := widthBits x.width
    let turn := fun k => -- the address whose channel index is k less
      let i := (a / 2 ^ s) % 2 ^ n
      a - i * 2 ^ s + ((i + x.width - k) % x.width) * 2 ^ s
    let hit := (List.range c.top).findSome? (fun j0 =>
      let j := j0 + 1
      (List.range (if j = 1 then 1 else 3)).findSome? (fun k =>
        let b := c.levelBase j + k * c.levelSize j
        if b ≤ a && a < b + c.levelSize j then
          (let off := turn k - b
           if off / 64 < c.nodes j then some (Region.node j (off / 64)) else some Region.unused)
        else Option.none))
    hit.getD .unused

/-- What formation wrote at a district-local address (R101, R201, R202): the zero line, encrypted; its counters, MACs
and tree under major 0. -/
def formattedLine (s : State) (d a : Nat) : BitVec 512 :=
  let x := (s.dist d).desc
  let c := x.carve
  let gen := (s.dist d).formatGen % 2
  let k := s.keyFor gen
  let epoch := s.epochFor d gen
  let zero : Ctr := { gen := gen, major := 0, minor := 0 }
  let withMac := fun line => nodeSetMac (freshNode gen 0)
    (if x.mode = 0 then nodeMacOf k d epoch line zero (freshNode gen 0) else 0)
  let zeroLine := fun line => cryptLine k d epoch line zero 0
  match x.regionOf a with
  | .data => if x.mode = 2 then 0 else zeroLine (a / 64)
  | .counter p => withMac (c.counterAddr p / 64)
  | .mac i => BitVec.ofNat 512 ((List.range 8).foldl (fun acc j =>
      acc + dataMac k d epoch (8 * i + j) zero (zeroLine (8 * i + j)) * 2 ^ (64 * j)) 0)
  | .node j i => withMac (c.nodeAddr j i 0 / 64)
  | .unused => 0

/-- A district's modules hold what formation wrote where nothing was written since. -/
def District.formatted (x : District) : Bool := x.desc.format && (x.st.serving || x.st == .mismatch)

/-- What a module returns for a line: what was stored, what formation wrote, or what it held before (log 4). -/
def State.dramLine (s : State) (c l : Nat) : BitVec 640 :=
  match tfind s.dram (lineKey c l) with
  | some v => v
  | none =>
    match (s.chan c).dist with
    | some d =>
      if (s.dist d).formatted && decide (64 * l < (s.dist d).desc.channelBytes) &&
          !(s.bay (2 * c + (s.coordOf c l).pos)).blank then
        encodeLine (formattedLine s d ((s.dist d).desc.localOf c l))
      else Config.dramPowerUp c l
    | none => Config.dramPowerUp c l

/-- Store a codeword set in a module. -/
def State.setDram (s : State) (c l : Nat) (v : BitVec 640) : State := { s with dram := tins s.dram (lineKey c l) v }

end Sys2Proof.Machine
end

