-- ==== Sys2Proof/Machine/Queues.lean ====
section
/-! DEFINITION. Channel queues and what their entries carry (R106-R120): class and charge, finish tags, calendars, the
gate window, contexts. -/

namespace Sys2Proof.Machine

/-- Index of the arbitration objects of channel c. -/
def arbIdx (c : Nat) : Nat := chIdx 0x3020 c
/-- Index of the timing objects of channel c. -/
def timIdx (c : Nat) : Nat := chIdx 0x3010 c

/-- The trained data rate, MT/s; 0 while Untrained. -/
def State.rate (s : State) (c : Nat) : Nat := s.obj (timIdx c) 2

/-- P_slot (R106). -/
def State.pSlot (s : State) (c : Nat) : Nat := s.rate c / 400

/-- A line position is one channel cycle: 20 ns ÷ P_slot, in ps (R106). -/
def State.posPs (s : State) (c : Nat) : Nat := if s.pSlot c = 0 then 0 else 20000 / s.pSlot c

/-- The class in force of a port. -/
def State.cls (s : State) (p : Nat) : Cls := (s.port p).cls

/-! ### Refresh placements and calibration swap positions as calendar claims (R145, R146, R318) -/

/-- k, the slots of a refresh placement (R145). -/
def State.refreshK (s : State) (c : Nat) : Nat :=
  max 1 (cdiv (s.obj (timIdx c) 0x0C + s.obj (timIdx c) 8 + s.obj (timIdx c) 0x16 - 90000) 20000)

/-- Whether slot t of the frame lies in a refresh placement, counting the second set when `twice` (R146): placement b
of set j starts at slot (RefreshSlot + 24b + 96j) mod 192. -/
def State.inRefresh (s : State) (c : Nat) (twice : Bool) (t : Nat) : Bool :=
  let r := s.obj (chIdx 0x3011 c) 1
  let k := s.refreshK c
  (List.range (if twice then 2 else 1)).any (fun j =>
    (List.range 4).any (fun b => decide ((t + 192 - (r + 24 * b + 96 * j) % 192) % 192 < k)))

/-- Both refresh sets run on channel c in this frame: refresh is doubled (R148), or RefreshSlot has just changed (R146). -/
def State.refreshDoubled (s : State) (c : Nat) : Bool :=
  s.obj (chIdx 0x3011 c) 3 == 1 || s.cad.skipDouble || (s.chan c).bothSets

/-- The swap slots of calibration (R318): CalSwapSlot + 24i; their positions 0 and 1. -/
def State.swapSlot (s : State) (c t : Nat) : Bool :=
  s.obj (chIdx 0x3040 c) 1 == 3 && t % 24 == s.obj (chIdx 0x3040 c) 0x12 % 24

/-! ### The channel calendar (R110) -/

/-- Valid entries of a calendar record: (slot, count, port), in record order. -/
def calendarEntries (s : State) (c sub : Nat) : List (Nat × Nat × Nat) :=
  let base := recAddr (arbIdx c) sub 0
  let listed := s.recs.filter (fun e => decide (base ≤ e.1) && decide (e.1 < base + 2048) && (e.1 - base) % 4 == 3 && bit e.2.toNat 7)
  listed.map (fun e =>
    let v := ldNat s.recs (e.1 - 3) 4
    (bits v 23 16, bits v 15 11, bits v 6 0))

/-- Entries in force. -/
def State.calendar (s : State) (c : Nat) : List (Nat × Nat × Nat) := calendarEntries s c 0x11

/-- Owners of the G positions of slot t, in position order, from position 0 upward past the indices refresh or a swap
claims (R110): (index, port). -/
def gPositions (s : State) (c t : Nat) : List (Nat × Nat) :=
  let owners := (s.calendar c).flatMap (fun e => if e.1 = t then List.replicate e.2.1 e.2.2 else [])
  let first := if s.swapSlot c t then 2 else 0
  if s.inRefresh c (s.refreshDoubled c) t then []
  else (List.range owners.length).map (fun i => (first + i, owners.getD i 0))

/-- The port that owns position i of slot t. -/
def gOwner (s : State) (c t i : Nat) : Option Nat := ((gPositions s c t).find? (fun x => x.1 == i)).map (·.2)

/-- The slots of the frame in which port p holds positions on c, with multiplicity, ascending. -/
def portSlots (s : State) (c p : Nat) : List Nat :=
  isort (fun a b => decide (a ≤ b))
    ((s.calendar c).flatMap (fun e => if e.2.2 = p then List.replicate e.2.1 e.1 else []))

/-- span_n (R26): over every slot of a frame, the slots from s to the n-th reserved position at or after s + 1,
cyclically; 0 without a reservation. -/
def spanOf (slots : List Nat) (n : Nat) : Nat :=
  if slots.isEmpty then 0
  else
    let reps := (List.range (n + 1)).flatMap (fun k => slots.map (fun x => x + 192 * k))
    (List.range 192).foldl (fun m s0 =>
      match (reps.filter (fun x => decide (s0 + 1 ≤ x)))[n - 1]? with
      | some x => max m (x - s0)
      | none => m) 0

/-- Bound_n in ns (R26); 0 without a reservation. -/
def gBound (s : State) (c p n : Nat) : Nat :=
  let sl := portSlots s c p
  if sl.isEmpty then 0 else spanOf sl n * 20 + 280

/-! ### The gate (R117, R118) -/

/-- Slots of the gate in force: RebuildGateSlots while Rebuilding (R117). -/
def State.gateLen (s : State) (c : Nat) : Nat :=
  if (s.chan c).st = .rebuilding then s.obj (arbIdx c) 5 else s.obj (arbIdx c) 4

def State.gateStart (s : State) (c : Nat) : Nat := s.obj (arbIdx c) 3

/-- Slot t of the frame lies in the gate. Untrained and Training channels count every position (R127). -/
def State.gateSlot (s : State) (c t : Nat) : Bool :=
  match (s.chan c).st with
  | .untrained | .training => true
  | _ => decide ((t + 192 - s.gateStart c % 192) % 192 < s.gateLen c)

/-- Position i of slot t is a gate position: in the gate, outside refresh placements and swap positions, and no G
position (R117). -/
def State.gatePos (s : State) (c t i : Nat) : Bool :=
  s.gateSlot c t && !s.inRefresh c (s.refreshDoubled c) t && !(s.swapSlot c t && decide (i < 2)) && (gOwner s c t i).isNone

/-- Gate positions of slot t. -/
def State.gatePosIn (s : State) (c t : Nat) : Nat :=
  if s.gateSlot c t && !s.inRefresh c (s.refreshDoubled c) t then
    s.pSlot c - (if s.swapSlot c t then 2 else 0) - (gPositions s c t).length
  else 0

/-- Gate positions from line position pos (counted from frame 0) to the close of the window it lies in, or in the whole
next window where it lies in none (R119, R121). -/
def State.gateFrom (s : State) (c pos : Nat) : Nat :=
  let t := pos / max 1 (s.pSlot c) % 192
  let whole := fun start len => (List.range len).foldl (fun a i => a + s.gatePosIn c ((start + i) % 192)) 0
  if s.gateSlot c t then
    let here := ((List.range (s.pSlot c)).filter (fun i => decide (pos % max 1 (s.pSlot c) ≤ i) && s.gatePos c t i)).length
    here + whole (t + 1) (s.gateLen c - (t + 192 - s.gateStart c % 192) % 192 - 1)
  else whole (s.gateStart c) (s.gateLen c)

/-- The line position of the present core cycle. -/
def State.posNow (s : State) (c : Nat) : Nat := s.cycleNow * s.pSlot c / 40

/-- A burst of n line operations fits the open or the next gate window, beside the gate traffic already queued (R119). -/
def gateFits (s : State) (c n : Nat) : Bool :=
  decide (((s.chan c).gate.length + (s.chan c).rewrites.length) + n ≤ s.gateFrom c (s.posNow c))

/-! ### Availability (R32, R33, R38) -/

/-- Positions per frame that G reservations hold; that two refresh sets hold; gate positions, refresh counted at two sets,
with the open allowance (R117, R118; log 21). -/
def gCount (s : State) (c : Nat) : Nat := (s.calendar c).foldl (fun a e => a + e.2.1) 0
def refreshCount (s : State) (c : Nat) : Nat := 4 * s.refreshK c * s.pSlot c
def gateCount (s : State) (c : Nat) : Nat :=
  let start := s.gateStart c
  (List.range (s.obj (arbIdx c) 4)).foldl (fun a i =>
    let t := (start + i) % 192
    if s.inRefresh c true t then a
    else a + (s.pSlot c - (if s.swapSlot c t then 2 else 0) -
      (s.calendar c).foldl (fun n e => if e.1 = t then n + e.2.1 else n) 0)) (s.obj (arbIdx c) 6)

/-- A_B,c and A_U,c as (numerator, positions per frame) (R32, R33). -/
def availB (s : State) (c : Nat) : Nat × Nat :=
  let p := 192 * s.pSlot c
  (p - gCount s c - 2 * refreshCount s c - gateCount s c, p)
def availU (s : State) (c : Nat) : Nat × Nat :=
  let p := 192 * s.pSlot c
  (p - gCount s c - 2 * refreshCount s c, p)

/-! ### Entries -/

/-- Line operations waiting in a channel's queues. -/
def Chan.entries (ch : Chan) : List Entry := ch.gRead ++ ch.gWb ++ ch.openU ++ ch.gate ++ ch.bq

/-- Finish tags and V wrap at 2^48 (R116). -/
def tickMod : Nat := 2 ^ 48

/-- A channel in a low-power state starts its exit (R158). -/
def Chan.wake (ch : Chan) : Chan := if ch.pstate != .active && ch.exiting.isNone then { ch with exiting := some none } else ch

/-- Channel c leaves a low-power state at once: what brings its modules up anew or finds them up ends the exit, which counts
(R158, R162). -/
def exitNow (c : Nat) (s : State) : State :=
  if (s.chan c).pstate == .active then s
  else
    let i := chIdx 0x3013 c
    ((s.modChan c (fun ch => { ch with pstate := .active, exiting := none })).setObj i 1 0).addObj i 0x0A 1

/-- The finish tag of an entry of cost k that port p enqueues (R116). A G write-back waits for B service too (R28, R109). -/
def finishTag (s : State) (c k p : Nat) : Nat :=
  let ch := s.chan c
  let start := if (ch.bq ++ ch.gWb).any (fun x => x.port == p) then tget ch.flast p 0 else s.obj (arbIdx c) 0x0B
  (start + cdiv (k * 65536) (max 1 (s.obj (0x2200 + p) 4))) % tickMod

/-- Enqueue an entry of cost k in the B queue with its finish tag (R116). -/
def enqueueB (c k : Nat) (e : Entry) (s : State) : State :=
  let f := finishTag s c k e.port
  s.modChan c (fun ch => { ch.wake with bq := ch.bq ++ [{ e with ftag := f }], flast := tput ch.flast e.port f 0 })

/-- Enqueue a G write-back: it goes at a G position of its port or in B service, whichever comes first (R28). -/
def enqueueGWb (c : Nat) (e : Entry) (s : State) : State :=
  let f := finishTag s c 1 e.port
  s.modChan c (fun ch => { ch.wake with gWb := ch.gWb ++ [{ e with ftag := f }], flast := tput ch.flast e.port f 0 })

/-- Gate traffic is confined to the gate: ports 96, 97, 99, and 98 outside Draining (R118). -/
def gateConfined (p : Nat) : Bool := p == 96 || p == 97 || p == 98 || p == 99

/-- The queue an entry of its charged port goes to (R107): G reads with a position or overdue, G write-backs, gate
traffic, open U, B. -/
def enqueue (c : Nat) (cls : Cls) (e : Entry) (s : State) : State :=
  if gateConfined e.port then s.modChan c (fun ch => { ch.wake with gate := ch.gate ++ [e] })
  else match cls with
    | .g =>
      if e.wr then enqueueGWb c e s
      else if e.gpos.isSome || e.overdue then s.modChan c (fun ch => { ch.wake with gRead := ch.gRead ++ [e] })
      else enqueueB c 1 e s
    | .u => s.modChan c (fun ch => { ch.wake with openU := ch.openU ++ [e] })
    | .b => enqueueB c 1 e s

/-- An entry for a line with nothing scheduled. -/
def mkEntry (s : State) (line : Nat) (wr : Bool) (kind : OpKind) (port deadline : Nat) (stamp : Stamp) : Entry :=
  { line := line, wr := wr, kind := kind, port := port, deadline := deadline, stamp := stamp, enq := s.cycleNow, at_ := 0, ftag := 0,
    gpos := none, overdue := false, guarded := false, ctx := none, group := [] }

/-! ### Metadata line operations (R107, R109, R210, R211) -/

/-- Entries of the G read queue that metadata reads hold; Forecast keeps four for them (R211). -/
def Chan.metaReads (ch : Chan) : Nat := (ch.gRead.filter (fun e => e.kind == .metaRead)).length

/-- Queue the read of a metadata line that an operation of class `cls` misses, charged to the port of e: for a G request an
overdue read while fewer than four are queued, else a guarded entry (R211). One read per line is queued. -/
def enqueueMetaRead (c : Nat) (cls : Cls) (e : Entry) (s : State) : State :=
  if (s.chan c).entries.any (fun x => x.line == e.line && x.kind == .metaRead) then s
  else if gateConfined e.port || cls != .g then enqueue c cls e s
  else
    let s := s.addObj 0x5103 (0x20 + c) 1
    if (s.chan c).metaReads < 4 then s.modChan c (fun ch => { ch.wake with gRead := ch.gRead ++ [{ e with overdue := true }] })
    else enqueueB c 1 { e with guarded := true } s

/-- The deadline of an entry that no stamped request owns: the count at its enqueue plus a bound of its port (R125). -/
def State.borrowedDeadline (s : State) (p : Nat) : Nat :=
  let bound := match s.cls p with
    | .u => s.obj (0x2200 + p) 3
    | _ => s.obj (0x2200 + p) 2
  (s.cycleNow + 2 * bound) / 40

/-- Queue the write of a metadata line: gate traffic of an engine, port 98's while the block drains, else in the B queue
(R109). A full queue takes none (log 44). -/
def enqueueMetaWrite (c l port : Nat) (s : State) : State :=
  let p := if s.blk.mode = 2 then 98 else port
  let e := mkEntry s l true .metaWrite p (s.borrowedDeadline p) (s.stampNow p)
  if gateConfined p then (if (s.chan c).gate.length < 128 then s.modChan c (fun ch => { ch.wake with gate := ch.gate ++ [e] }) else s)
  else if (s.chan c).bq.length < 512 then enqueueB c 1 e s
  else s

/-! ### Claims (R184, R187) -/

/-- A feature claims a resource: subindex of 0x2F00 and holder code. The answer says whether it got it; a refusal raises
ClaimRefused (R184). -/
def claim (sub holder : Nat) (s : State) : State × Bool :=
  if s.obj 0x2F00 sub = 0 then (s.setObj 0x2F00 sub holder, true)
  else ((s.addObj 0x2F00 0xC0 1).raise 0x012, false)

/-- A holder releases its own claim. -/
def releaseOwn (sub holder : Nat) (s : State) : State :=
  if s.obj 0x2F00 sub = holder then s.setObj 0x2F00 sub 0 else s

/-! ### The cipher yard (R212) -/

/-- AES blocks yard c has still to compute: its five pipes take one block each per core cycle. -/
def State.yardLoad (s : State) (c : Nat) : Nat := (s.chan c).yardLeft - 5 * s.since (s.chan c).yardAt

/-- Yard c is given n AES blocks (R210, R212). -/
def aesBlocks (c n : Nat) (s : State) : State :=
  countChan c 0x1B n none (s.modChan c (fun ch => { ch with yardLeft := s.yardLoad c + n, yardAt := s.cycleNow }))

/-- The yard falls behind: more blocks wait than its pipes hold in their 7 ns, 14 core cycles of five blocks (R212; log 73). -/
def State.yardBehind (s : State) (c : Nat) : Bool := decide (70 < s.yardLoad c)

/-! ### Contexts (R120, R121) -/

def ctxState (s : State) (c k : Nat) : Nat := s.obj (chIdx 0x3021 c) (0x10 + k)
def setCtx (c k v : Nat) (s : State) : State := s.setObj (chIdx 0x3021 c) (0x10 + k) v
def addProgress (c k n : Nat) (s : State) : State :=
  s.setObj (chIdx 0x3021 c) (0x20 + k) (s.obj (chIdx 0x3021 c) (0x20 + k) + n)

/-- No scrub run is under way on any channel: the scrub's claim of the pattern store ends (R185; log 74). -/
def releaseScrub (s : State) : State :=
  if s.chans.any (fun e => !(tget e.2.bursts 0 []).isEmpty) then s else releaseOwn 2 7 s

/-- Cut off what runs in context k of channel c (R121): a context with a burst in progress, or running, enters Aborted; its
progress goes back to the burst's first operation, its operations not yet granted leave the gate queue. -/
def abortCtx (c k : Nat) (s : State) : State :=
  if ctxState s c k = 1 then
    let ch := s.chan c
    let done := match ch.burst with
      | some (j, left) => if j = k then ((tget ch.bursts k []).headD 0) - left else 0
      | none => 0
    let p := s.obj (chIdx 0x3021 c) (0x20 + k)
    let s := (setCtx c k 3 s).setObj (chIdx 0x3021 c) (0x20 + k) (p - done)
    let s := s.setChan c { ch with
      gate := ch.gate.filter (fun e => e.ctx != some k)
      bursts := tdel ch.bursts k
      burst := match ch.burst with | some (j, left) => if j = k then none else some (j, left) | none => none }
    if k = 0 then releaseScrub s else s
  else s

/-- Cut off what runs in the contexts of channel c. -/
def abortBursts (c : Nat) (s : State) : State := forN 4 s (fun k t => abortCtx c k t)

/-- Context k starts a burst: the others with bursts still to run lose step 8 to it and are Preempted (R120). -/
def loseOthers (c k : Nat) (s : State) : State :=
  forN 4 s (fun j t =>
    let waits := !(tget (t.chan c).bursts j []).isEmpty || (t.obj (chIdx 0x3021 c) (0x20 + j) < t.obj (chIdx 0x3021 c) (0x30 + j) : Bool)
    if j != k && ctxState t c j = 1 && waits then (setCtx c j 2 t).addObj (chIdx 0x3021 c) (0x40 + j) 1 else t)

/-- Begin or continue an operation of a context: Running, its total recorded. -/
def runCtx (c k total : Nat) (s : State) : State := (setCtx c k 1 s).setObj (chIdx 0x3021 c) (0x30 + k) total

/-- End an operation: Idle, nothing counted. -/
def endCtx (c k : Nat) (s : State) : State :=
  ((setCtx c k 0 s).setObj (chIdx 0x3021 c) (0x20 + k) 0).setObj (chIdx 0x3021 c) (0x30 + k) 0

/-- Whether channel c grants anything but refresh (R127). -/
def ChanSt.grants : ChanSt → Bool
  | .running | .rebuilding => true
  | _ => false

end Sys2Proof.Machine
end

