-- ==== Sys2Proof/Machine/Errors.lean ====
section
/-! DEFINITION. Line reads under the check code (R229-R233), claims (R184-R187), writes to the modules with their
injections (R466), and the freeze of a channel with its record and dump (R238-R243). -/

namespace Sys2Proof.Machine

/-! ### Injections of kinds 1 and 2 (R466, R467) -/

/-- The channel and line InjectAddress names, data or metadata. -/
def injectTarget (s : State) : Option (Nat × Nat) :=
  match s.decode (s.obj 0xB001 2) with
  | .data d a => some ((s.dist d).desc.place a 0)
  | .window d a => some ((s.dist d).desc.placeAny a)
  | _ => none

/-- An armed injection of kind k fires: InjectionsMade counts, and the last firing ends it. -/
def injectFired (s : State) : State :=
  let s := s.addObj 0xB001 9 1
  match s.blk.inj with
  | some (k, n) =>
    if n ≤ 1 then
      let s := { s with blk := { s.blk with inj := none } }
      let s := s.setObj 0xB001 8 2
      if k = 1 || k = 2 then releaseOwn 2 6 s else s
    else { s with blk := { s.blk with inj := some (k, n - 1) } }
  | none => s

def injectArmed (s : State) (k : Nat) : Bool := match s.blk.inj with | some (j, _) => j == k | none => false

/-- Bytes of the pattern store (R180): line i, n bytes. -/
def patternBytes (s : State) (i n : Nat) : List Byte := s.recN 0xA0F0 1 (64 * i) n

/-- Write a codeword set to a module: it supersedes the rewrites of the line (R233), and a kind 1 injection on the line falls
on the stored bits (R466). -/
def writeDram (c l : Nat) (v : BitVec 640) (s : State) : State :=
  let s := if (s.chan c).rewrites.any (fun e => e.line == l) then
      s.modChan c (fun ch => { ch with rewrites := ch.rewrites.filter (fun e => e.line != l) }) else s
  if injectArmed s 1 && injectTarget s == some (c, l) then
    let i := s.obj 0xB001 5
    let x := leNat (patternBytes s i 64) * 2 ^ 128 + leNat (patternBytes s (i + 1) 16)
    injectFired (s.setDram c l (v ^^^ BitVec.ofNat 640 x))
  else s.setDram c l v

/-! ### Line reads (R229-R233) -/

/-- Device count key: (8 × subchannel + rank slot) × 10 + device (R253). -/
def devKey (sub rankSlot dev : Nat) : Nat := (8 * sub + rankSlot) * 10 + dev

/-- Erase a device: its map byte and DeviceErased (R230, R231). -/
def eraseDevice (c sub rankSlot k : Nat) (s : State) : State :=
  (setErased c sub rankSlot (some k) s).raiseChan c 7 sub rankSlot

/-- A correction counts toward its device; above the threshold the device is erased, or the second one is reported
(R230, R232). -/
def countDevice (c sub rankSlot dev : Nat) (s : State) : State :=
  let ch := s.chan c
  if ch.devStopped.contains (8 * sub + rankSlot) then s
  else
    let n := tget ch.devCounts (devKey sub rankSlot dev) 0 + 1
    let s := s.setChan c { ch with devCounts := tput ch.devCounts (devKey sub rankSlot dev) n 0 }
    if n ≤ s.obj (chIdx 0x3001 c) 7 then s
    else match s.erasedDevice c sub rankSlot with
      | none => eraseDevice c sub rankSlot dev s
      | some _ =>
        (s.modChan c (fun h => { h with devStopped := (8 * sub + rankSlot) :: h.devStopped })).raiseChan c 8 sub rankSlot

/-- Queue the corrected codeword set of a line for rewrite; a full queue drops it (R233). -/
def queueRewrite (c l : Nat) (v : BitVec 640) (s : State) : State :=
  let ch := s.chan c
  if ch.rewrites.length < 64 then
    s.setChan c { ch.wake with rewrites := ch.rewrites ++
      [mkEntry s l true (.rewrite v) 99 (s.borrowedDeadline 99) (s.stampNow 99)] }
  else s.addObj (chIdx 0x3001 c) 6 1

/-- Read a line from a module: the outcome of R229, counted (R230, R253), its rewrite queued unless the read is raw
(R233). -/
def readDram (c l : Nat) (raw : Bool) (s : State) : State × LineOut :=
  let x := s.coordOf c l
  let out := decodeLine (s.erasedDevice c x.sub x.rankSlot) (s.dramLine c l)
  let i := chIdx 0x3001 c
  match out with
  | .clean d => (s, .clean d)
  | .poison => (s.addObj i 3 1, out)
  | .erasure _ => (s.addObj i 4 1, out)
  | .corrected k v =>
    let s := (countChan c 0x12 1 (some x.sub) (s.addObj i 1 1)).raiseChan c 6 x.sub x.rankSlot
    let s := countDevice c x.sub x.rankSlot k s
    (if raw then s else queueRewrite c l v s, out)
  | .uncorrectable => (countChan c 0x13 1 (some x.sub) (s.addObj i 2 1), out)

/-! ### Command history (R243) -/

/-- Record a command in the history; the last 1 016 stay. -/
def noteCmd (c : Nat) (h : HistCmd) (s : State) : State :=
  s.modChan c (fun ch => { ch with history := (h :: ch.history).take 1016 })

/-- The 16 bytes of a command history entry; its age in channel cycles before the freeze (R243). -/
def histBytes (s : State) (c : Nat) (h : HistCmd) : List Byte :=
  let age := if s.posPs c = 0 then 0 else s.since h.at_ * 500 / s.posPs c
  natLe 4 age ++ natLe 1 h.cmd ++ natLe 1 h.target ++ natLe 1 h.bank ++ natLe 1 h.flags ++ natLe 4 h.row ++
    natLe 2 h.col ++ natLe 2 0

/-! ### The capture store (R180, R186, R398) -/

def captureBase : Nat := recAddr 0x9020 7 0

def setCapture (i : Nat) (bs : List Byte) (s : State) : State := { s with recs := sbN s.recs (captureBase + 64 * (i % 4096)) (fit 64 bs) }

/-- Records of the capture store that sampling holds unreleased. -/
def samplesHeld (s : State) : Nat :=
  if s.obj 0x9020 2 = 4 then 4096 else (s.obj 0x9020 3 + 4096 - s.obj 0x9020 4 % 4096) % 4096

/-- Records left before SampleWriteIndex meets SampleReleaseIndex again: none where the store is full. -/
def samplingFull (s : State) : Bool := s.obj 0x9020 2 == 4

/-- Sampling claims the capture store where it is enabled and the store is free (R186, R398). -/
def reclaimCapture (s : State) : State :=
  if s.obj 0x9020 1 = 1 && s.obj 0x2F00 1 == 0 then
    (s.setObj 0x2F00 1 2).setObj 0x9020 2 (if samplingFull s then 4 else 1)
  else s

/-- Helper operations that take the pattern store (R314). -/
def helperPattern (op : Nat) : Bool := op == 6 || op == 7

/-- Release a helper operation's claims (R184, R314). -/
def helperRelease (op : Nat) (s : State) : State :=
  let s := if helperPattern op then releaseOwn 2 5 s else s
  if op = 5 || op = 6 || op = 9 then reclaimCapture (releaseOwn 1 4 s) else s

/-- The 256 records of a freeze dump (R243): the failing burst, its check bytes, syndromes and stamp, the history. -/
def dumpRecords (s : State) (c : Nat) (bits' : Option (BitVec 640)) (stamp : Stamp) : List (List Byte) :=
  let v := bits'.getD 0
  let sy := match bits' with | some b => syndromes b | none => []
  let r0 := natLe 64 (storedData v).toNat
  let r1 := natLe 16 (storedCheck v) ++ fit 16 (sy.flatMap (fun x => natLe 1 x.1 ++ natLe 1 x.2)) ++ natLe 9 stamp.word
  let hs := (s.chan c).history.map (histBytes s c)
  [r0, fit 64 r1] ++ (List.range 254).map (fun i => fit 64 ((hs.drop (4 * i)).take 4).flatten)

/-- Take a freeze dump, or note that none could be (R186, R243). -/
def takeDump (c : Nat) (bits' : Option (BitVec 640)) (stamp : Stamp) (s : State) : State :=
  let i := chIdx 0x3080 c
  let holder := s.obj 0x2F00 1
  if holder = 0 || holder = 2 then
    let free := 4096 - samplesHeld s
    let n := min 256 free
    let first := s.obj 0x9020 3
    let recs := dumpRecords s c bits' stamp
    let s := (List.range n).foldl (fun t k => setCapture (first + k) (recs.getD k []) t) s
    let s := (s.setObj 0x2F00 1 3)
    let s := ((s.setObj i 8 (if n < 256 then 1 else 0)).setObj i 9 first).setObj i 0x0A n
    if n < 256 then s.raise 0x013 else s
  else
    let s := (s.addObj 0x2F00 0xC0 1).raise 0x012
    ((s.setObj i 8 2).setObj i 9 0).setObj i 0x0A 0

/-! ### Freeze (R238-R242) -/

/-- Dirty and Filling lines of channel c become Pinned (R171). -/
def pinLines (c : Nat) (s : State) : State :=
  { s with plaza := s.plaza.map (fun e =>
      if e.1 / 2 ^ 40 = c then
        match e.2.st with
        | .dirty => (e.1, { e.2 with st := .pinned, wasFilling := false })
        | .filling => (e.1, { e.2 with st := .pinned, wasFilling := true })
        | _ => e
      else e) }

/-- The channel enters Running again: Pinned lines are Dirty or Filling as they were (R171). -/
def unpinLines (c : Nat) (s : State) : State :=
  { s with plaza := s.plaza.map (fun e =>
      if e.1 / 2 ^ 40 = c && e.2.st == .pinned then
        (e.1, { e.2 with st := if e.2.wasFilling then .filling else .dirty, wasFilling := false })
      else e) }

/-- What the freeze record names: line, subchannel and rank slot, bank, row; for causes 2 to 4 the last command. -/
def freezeFields (c : Nat) (line : Option Nat) (s : State) : Nat × Nat × Nat × Nat :=
  match line with
  | some l => let x := s.coordOf c l; (l, x.sub + 2 * x.rankSlot, x.bankNo, x.row)
  | none =>
    match (s.chan c).history.head? with
    | some h =>
      let x : Coord := { sub := h.target % 2, bg := h.bank / 4, bank := h.bank % 4, col := h.col,
                         rank := h.target / 2 % 4, pos := h.target / 8 % 2, row := h.row }
      (s.lineAt c x, h.target, h.bank, h.row)
    | none => (0, 0, 0, 0)

/-- A mode-register read of the helper on a channel that freezes stops, its rows precharged (R312). -/
def stopRead (c : Nat) (s : State) : State :=
  if (s.chan c).helper.isNone then s
  else
    (s.modChan c (fun ch => { ch with helper := none, banks := ch.banks.map (fun b => (b.1, { b.2 with row := none })) })).setObj (0xA000 + c) 2 3

/-- A cause of R238 freezes a Running or Rebuilding channel (R239, R242, R243, R245). -/
def freezeChannel (c cause : Nat) (line : Option Nat) (bits' : Option (BitVec 640)) (port : Nat) (s : State) : State :=
  let ch := s.chan c
  if ch.st.grants then
    let f := freezeFields c line s
    let i := chIdx 0x3080 c
    let stamp := s.stampNow port
    let s := s.setChan c { ch.wake with before := ch.st }
    let s := pinLines c (abortBursts c (setChanState c .frozen (stopRead c s)))
    let s := (((((s.setObj i 1 cause).setObj i 2 stamp.word).setObj i 3 f.1).setObj i 4 f.2.1).setObj i 5 f.2.2.1).setObj i 6 f.2.2.2
    let sy := match bits' with | some b => (syndromes b).flatMap (fun x => natLe 1 x.1 ++ natLe 1 x.2) | none => []
    let s := s.setRec i 7 0 (fit 16 sy)
    let s := if cause = 1 || cause = 2 then takeDump c bits' stamp s
      else ((s.setObj i 8 3).setObj i 9 0).setObj i 0x0A 0
    s.raiseChan c (if cause = 2 then 1 else 0xA)
  else s

/-- Bytes pinned for a channel, lent lines included (R255). -/
def pinnedBytes (s : State) (c : Nat) : Nat :=
  64 * (s.plaza.filter (fun e => e.1 / 2 ^ 40 == c && e.2.st == .pinned)).length

end Sys2Proof.Machine
end

