-- ==== Sys2Proof/Machine/Ledger.lean ====
section
/-! DEFINITION. The integrity ledger (R177, R178, R202-R211): metadata lines in use, their verification up to a trusted
ancestor, their write-back, losses and their replacements (R246-R252), fills and write-backs of data lines. -/

namespace Sys2Proof.Machine

/-! ### Tree pseudo-LRU over 2^n leaves (R175, R177; log 11) -/

/-- The leaf a victim search reaches among leaves lo … lo + 2^n - 1 that are candidates: each node's bit says which half
was used less recently. Nodes are numbered as in a heap from 1. -/
def plruVictim (tree : Nat) (cand : Nat → Bool) : Nat → Nat → Nat → Nat
  | 0, _, lo => lo
  | n + 1, node, lo =>
    let half := 2 ^ n
    let l := (List.range half).any (fun i => cand (lo + i))
    let r := (List.range half).any (fun i => cand (lo + half + i))
    if (bit tree node && r) || !l then plruVictim tree cand n (2 * node + 1) (lo + half)
    else plruVictim tree cand n (2 * node) lo

/-- Mark leaf w as used: every node on its path points to the other half. -/
def plruTouch (w : Nat) : Nat → Nat → Nat → Nat → Nat
  | 0, _, _, tree => tree
  | n + 1, node, lo, tree =>
    let half := 2 ^ n
    if w < lo + half then plruTouch w n (2 * node) lo (setBit tree node true)
    else plruTouch w n (2 * node + 1) (lo + half) (setBit tree node false)

/-! ### The cached part (R177) -/

/-- Set index of a metadata line (R177). -/
def ledgerSet (l : Nat) : Nat :=
  bits l 7 0 ^^^ bits l 15 8 ^^^ bits l 23 16 ^^^ bits l 31 24 ^^^ bits l 33 32

/-- Lines of the set of a metadata line: (channel-local line, entry). -/
def ledgerLines (s : State) (c l : Nat) : List (Nat × LLine) :=
  (s.ledger.filter (fun e => e.1 / 2 ^ 40 == c && ledgerSet (e.1 % 2 ^ 40) == ledgerSet l)).map
    (fun e => (e.1 % 2 ^ 40, e.2))

def ledgerLruKey (c l : Nat) : Nat := 256 * c + ledgerSet l

def touchLedger (c l w : Nat) (s : State) : State :=
  { s with ledgerLru := tput s.ledgerLru (ledgerLruKey c l) (plruTouch w 3 1 0 (tget s.ledgerLru (ledgerLruKey c l) 0)) 0 }

/-- Put a line in a way of its set. -/
def placeLedger (port c l w : Nat) (data : BitVec 512) (dirty : Bool) (s : State) : State :=
  let x : LLine := { data := data, dirty := dirty, port := port, since := s.now.frame, way := w }
  touchLedger c l w { s with ledger := tins s.ledger (lineKey c l) x }

/-- Change a line the Ledger holds, on behalf of a requester (R109): its age runs from when it became Dirty. -/
def updateLedger (port c l : Nat) (data : BitVec 512) (s : State) : State :=
  match tfind s.ledger (lineKey c l) with
  | some x =>
    let since := if x.dirty then x.since else s.now.frame
    touchLedger c l x.way { s with ledger := tins s.ledger (lineKey c l) { x with data := data, dirty := true, port := port, since := since } }
  | none => s

/-- The pinned part's key (R177). -/
def pinnedKey (d j idx : Nat) : Nat := 2 ^ 48 * d + 2 ^ 44 * j + idx

/-! ### Repair table lookups (R247, R248) -/

/-- Lines an entry covers: 1, 8, or 64^(j + 1) for level j (R248). -/
def repairLines (kind : Nat) : Nat := if kind = 0 then 1 else if kind = 1 then 8 else 64 ^ (kind - 1)

/-- First line of an entry's range. -/
def Repair.firstLine (r : Repair) : Nat := r.index * repairLines r.kind

def Repair.covers (r : Repair) (d dline : Nat) : Bool :=
  r.state != 0 && r.dist == d && decide (r.firstLine ≤ dline) && decide (dline < r.firstLine + repairLines r.kind)

/-- The line is in an entry's range and its progress has not passed it. -/
def Repair.pendingAt (r : Repair) (d dline : Nat) : Bool :=
  r.covers d dline && decide (r.firstLine + r.progress ≤ dline)

/-- A node of level j whose lines lie in the range of a lost ancestor that is being repaired. -/
def nodeUnderRepair (s : State) (d j idx : Nat) : Bool :=
  s.repair.any (fun e => decide (j + 2 < e.2.kind) && e.2.covers d (idx * 64 ^ (j + 1)))

/-- The major a replaced range carries: its parent's (R249). -/
def replacementNode (s : State) (major : Nat) : BitVec 512 :=
  let n := freshNode (s.vault.gen % 2) major
  if major = 2 ^ 63 - 1 then nodeSetCursor n 0x40 else n

/-! ### MajorCeiling (R249) -/

/-- Raise the ceiling of a district; the vault header follows when it passes a multiple of 2^20 above its stored value. -/
def raiseCeiling (d v : Nat) (s : State) : State :=
  if v ≤ (s.dist d).ceiling then s
  else
    let s := (s.modDist d (fun x => { x with ceiling := v })).setObj 0x5104 (0x10 + d) v
    if s.vault.ceilings.getD d 0 + 2 ^ 20 ≤ v then
      writeVault { s with vault := { s.vault with ceilings := set4 s.vault.ceilings d v } }
    else s

/-! ### Fetch, verification and write-back of metadata -/

/-- What the Ledger is asked: a verified node of a level (kept or only read), a MAC line, to write back a line it holds (in a
position granted to it, or not), to advance the parent's minor for a node on behalf of a requester (R109). -/
inductive LReq where
  | node (keep : Bool) (d j idx : Nat)
  | mac (d i : Nat)
  | flush (granted : Bool) (c l : Nat)
  | touchParent (port d j idx : Nat)
  deriving DecidableEq, Repr

/-- What it answers: a trusted line, a lost item, the counters of the parent. -/
inductive LRes where
  | line (v : BitVec 512)
  | lost (kind idx c : Nat)
  | ctr (x : Ctr)
  | done
  deriving DecidableEq, Repr

/-- Counters the root gives node idx of the top level (R205, R215). -/
def rootCtr (x : District) (idx : Nat) : Ctr :=
  let m := cursorM x.rootCursor
  let minor := tget x.rootMinors idx 0
  if 0xC0 ≤ x.rootCursor && idx < m then { gen := 0, major := 0, minor := minor }
  else if 0x80 ≤ x.rootCursor && x.rootCursor < 0xC0 && idx < m then { gen := 0, major := x.rootMajor + 1, minor := minor }
  else { gen := 0, major := x.rootMajor, minor := minor }

/-- Two of three words agree, word by word (R206): the voted value and the copies that lost a word. -/
def voteNode (vs : List (Option (BitVec 512))) : Option (BitVec 512) × List Nat :=
  let word := fun (v : Option (BitVec 512)) (i : Nat) => v.map (fun x => bits x.toNat (64 * i + 63) (64 * i))
  let a := (vs[0]?).join
  let b := (vs[1]?).join
  let c := (vs[2]?).join
  let pick := fun i =>
    let x := word a i; let y := word b i; let z := word c i
    if x.isSome && (x == y || x == z) then x else if y.isSome && y == z then y else none
  let ws := (List.range 8).map pick
  if ws.all Option.isSome then
    let v := BitVec.ofNat 512 ((List.range 8).foldl (fun acc i => acc + ((ws.getD i none).getD 0) * 2 ^ (64 * i)) 0)
    (some v, (List.range 3).filter (fun k => (vs[k]?).join != some v))
  else (none, [])

/-- Read a node of level 2 or above from its three copies (R206, R246); a copy that loses is rewritten. -/
def readCopies (d j idx : Nat) (s : State) : State × Option (BitVec 512) :=
  let x := (s.dist d).desc
  let a := x.carve.nodeAddr j idx
  let step := fun (acc : State × List (Option (BitVec 512))) (k : Nat) =>
    let p := x.place (a k) k
    let r := readDram p.1 p.2 false acc.1
    (r.1, acc.2 ++ [r.2.data])
  let r := (List.range 3).foldl step (s, [])
  let v := voteNode r.2
  match v.1 with
  | some n =>
    let s := v.2.foldl (fun t k =>
      let p := x.place (a k) k
      queueRewrite p.1 p.2 (encodeLine n) t) r.1
    (if v.2.isEmpty then s else (s.addObj 0x5104 6 1).raise 0x030, some n)
  | none => (r.1, none)

/-- Read a metadata line with one copy. -/
def readSingle (x : Desc) (a : Nat) (s : State) : State × Option (BitVec 512) :=
  let p := x.place a 0
  let r := readDram p.1 p.2 false s
  (r.1, r.2.data)

/-- Count a metadata read on the channel that carries it (R210, R224, R390). -/
def countMetaRead (c l : Nat) (s : State) : State :=
  countChan c 0x09 1 (some (s.coordOf c l).sub) (s.addObj 0x5103 (0x10 + c) 1)

/-- Copies of a node of level j (R99). -/
def nodeCopies (j : Nat) : Nat := if j ≤ 1 then 1 else 3

/-- Count the reads of a node's copies, each on its own channel. -/
def countNodeRead (d j idx : Nat) (s : State) : State :=
  forN (nodeCopies j) s (fun k t =>
    let p := (t.dist d).desc.place ((t.dist d).desc.carve.nodeAddr j idx k) k
    countMetaRead p.1 p.2 t)

/-- Queue the writes of a node's copies from copy `from_` on (R107, R109). -/
def queueNodeWrites (port d j idx from_ : Nat) (s : State) : State :=
  forN (nodeCopies j) s (fun k t =>
    let p := (t.dist d).desc.place ((t.dist d).desc.carve.nodeAddr j idx k) k
    if from_ ≤ k then enqueueMetaWrite p.1 p.2 port t else t)

/-- Write a node, MACed under its parent's counters, to its copies (R203, R209). -/
def storeNode (d j idx : Nat) (parent : Ctr) (n : BitVec 512) (s : State) : State × BitVec 512 :=
  let x := (s.dist d).desc
  let line := x.carve.nodeAddr j idx 0 / 64
  let n := if x.mode = 0 then
      nodeSetMac n (nodeMacOf (s.keyFor (nodeGen n)) d (s.epochFor d (nodeGen n)) line parent n)
    else nodeSetMac n 0
  let s := (List.range (nodeCopies j)).foldl (fun t k =>
    let p := x.place (x.carve.nodeAddr j idx k) k
    countChan p.1 0x0A 1 (some (t.coordOf p.1 p.2).sub) (writeDram p.1 p.2 (encodeLine n) t)) s
  (s, n)

/-- A pinned node: the value the pinned part holds, where none is listed the one its formation gave it (R101, R177; log 12). -/
def pinnedNode (s : State) (d j idx : Nat) : BitVec 512 :=
  match tfind s.pinned (pinnedKey d j idx) with
  | some v => v
  | none => formattedLine s d ((s.dist d).desc.carve.nodeAddr j idx 0)

/-- Kind of a lost node of level j (R248). -/
def lossKind (j : Nat) : Nat := 2 + j


/-- The Ledger at work is given as one round over the answers of the next: `rec` is the next round. -/
abbrev LRec := LReq → State → State × LRes

/-- Record a loss that a write-back of the Ledger met, to be entered in the repair table (R246). -/
def noteLoss (d : Option Nat) (r : LRes) (s : State) : State :=
  match r, d with
  | .lost k i q, some d => { s with found := s.found ++ [(d, k, i, q)] }
  | _, _ => s

/-- Allocate a way for a line of a requester (R177): an Invalid one, else the least recently used Clean one, else the least
recently used Dirty one once it is written back; a loss met there is recorded. -/
def ledgerAlloc (again : LRec) (port c l : Nat) (v : BitVec 512) (dirty : Bool) (s : State) : State :=
  let ls := ledgerLines s c l
  let tree := tget s.ledgerLru (ledgerLruKey c l) 0
  match (List.range 6).find? (fun w => !(ls.any (fun e => e.2.way == w))) with
  | some w => placeLedger port c l w v dirty s
  | none =>
    let cleanWays := ls.filter (fun e => !e.2.dirty)
    let isC := fun w => cleanWays.any (fun e => e.2.way == w)
    let w := if cleanWays.isEmpty then plruVictim tree (fun w => decide (w < 6)) 3 1 0 else plruVictim tree isC 3 1 0
    match ls.find? (fun e => e.2.way == w) with
    | some e =>
      let s := if e.2.dirty then (let r := again (.flush false c e.1) s; noteLoss (s.chan c).dist r.2 r.1) else s
      placeLedger port c l w v dirty { s with ledger := tdel s.ledger (lineKey c e.1) }
    | none => placeLedger port c l w v dirty s

/-- Change a line on behalf of a requester, bringing it in where it is not held. -/
def putLedger (again : LRec) (port c l : Nat) (data : BitVec 512) (s : State) : State :=
  if (tfind s.ledger (lineKey c l)).isSome then updateLedger port c l data s else ledgerAlloc again port c l data true s

/-- Write a node under its parent's counters and show the result where it is held: pinned, or in the Ledger. -/
def renewNode (d j idx : Nat) (parent : Ctr) (n : BitVec 512) (s : State) : State :=
  let w := storeNode d j idx parent n s
  if 3 ≤ j then { w.1 with pinned := tins w.1.pinned (pinnedKey d j idx) w.2 }
  else
    let x := (s.dist d).desc
    let q := x.place (x.carve.nodeAddr j idx 0) 0
    match tfind w.1.ledger (lineKey q.1 q.2) with
    | some ln => { w.1 with ledger := tins w.1.ledger (lineKey q.1 q.2) { ln with data := w.2 } }
    | none => w.1

/-- An advance re-MACs every child but one under the advanced node (R215). `old` are the children as the old parent
verifies them; a child that is lost stays as it is. -/
def renewChildren (again : LRec) (d j base count skip : Nat) (ctr : Nat → Ctr) (s : State) : State × List (Nat × BitVec 512) :=
  (List.range count).foldl (fun (acc : State × List (Nat × BitVec 512)) i =>
    if base + i = skip then acc
    else
      let r := again (.node false d j (base + i)) acc.1
      match r.2 with
      | .line v => (r.1, acc.2 ++ [(i, v)])
      | _ => (r.1, acc.2)) (s, []) |> fun r =>
  (r.2.foldl (fun t e => renewNode d j (base + e.1) (ctr e.1) e.2 t) r.1, r.2)

/-- Advance the root's minor for node idx of the top level; past 63 the root advances (R205, R215). -/
def rootTouch (again : LRec) (d idx : Nat) (s : State) : State × LRes :=
  let x := s.dist d
  let top := x.desc.carve.top
  let m := tget x.rootMinors idx 0
  if m < 63 then
    let s := s.setDist d { x with rootMinors := tput x.rootMinors idx (m + 1) 0 }
    (s, .ctr (rootCtr (s.dist d) idx))
  else
    let n := x.desc.carve.nodes top
    let ctr : Ctr := { gen := 0, major := x.rootMajor + 1, minor := 1 }
    let s := (renewChildren again d top 0 n idx (fun _ => ctr) (s.addObj 0x5000 (0x20 + d) 1)).1
    let minors := (List.range n).foldl (fun t i => tput t i 1 0) []
    let s := s.modDist d (fun z => { z with rootMajor := x.rootMajor + 1, rootMinors := minors })
    (raiseCeiling d (x.rootMajor + 1) s, .ctr ctr)

/-- A parent node with its minor for child k advanced; past 63 its Major advances and every minor is 1 (R215). -/
def advanceMinor (p : BitVec 512) (k : Nat) : BitVec 512 :=
  let m := nodeMinor p k
  if m < 63 then nodeSetMinor p k (m + 1)
  else (List.range 64).foldl (fun q i => nodeSetMinor q i 1) (nodeSetMajor p (nodeMajor p + 1))

/-- Advance the parent's minor for node idx of level j, that is to be written, and answer the counters (R209, R215). -/
def parentTouch (again : LRec) (port d j idx : Nat) (s : State) : State × LRes :=
  let x := (s.dist d).desc
  let top := x.carve.top
  if x.mode != 0 then (s, .ctr { gen := 0, major := 0, minor := 0 })
  else if top ≤ j then rootTouch again d idx s
  else
    let r := again (.node true d (j + 1) (idx / 64)) s
    match r.2 with
    | .line p =>
      let k := idx % 64
      let p' := advanceMinor p k
      let s :=
        if nodeMinor p k < 63 then r.1
        else
          let n := min 64 (x.carve.nodes j - 64 * (idx / 64))
          let t := (renewChildren again d j (64 * (idx / 64)) n idx (fun i => itemCtr p' i) (r.1.addObj 0x5000 (0x20 + d) 1)).1
          raiseCeiling d (nodeMajor p') t
      if 3 ≤ j + 1 then
        -- a pinned parent changes in all three copies at once, up to the root (R178)
        let g := again (.touchParent port d (j + 1) (idx / 64)) s
        match g.2 with
        | .ctr gc => (queueNodeWrites port d (j + 1) (idx / 64) 0 (renewNode d (j + 1) (idx / 64) gc p' g.1), .ctr (itemCtr p' k))
        | res => (g.1, res)
      else
        let q := x.place (x.carve.nodeAddr (j + 1) (idx / 64) 0) 0
        (putLedger again port q.1 q.2 p' s, .ctr (itemCtr p' k))
    | res => (r.1, res)

/-- The counters a node is verified under (R203, R205). -/
def parentCtr (again : LRec) (d j idx : Nat) (s : State) : State × LRes :=
  let x := s.dist d
  if x.desc.mode != 0 then (s, .ctr { gen := 0, major := 0, minor := 0 })
  else if x.desc.carve.top ≤ j then (s, .ctr (rootCtr x idx))
  else
    let r := again (.node true d (j + 1) (idx / 64)) s
    match r.2 with
    | .line p => (r.1, .ctr (itemCtr p (idx % 64)))
    | res => (r.1, res)

/-- Fetch and verify a node (R206, R207): from the pinned part, the Ledger, or DRAM under its trusted parent. -/
def fetchNode (again : LRec) (keep : Bool) (d j idx : Nat) (s : State) : State × LRes :=
  let x := (s.dist d).desc
  if 3 ≤ j && j ≤ x.carve.top then (s, .line (pinnedNode s d j idx))
  else
    let q := x.place (x.carve.nodeAddr j idx 0) 0
    let kept := fun (v : BitVec 512) (dirty : Bool) (t : State) => if keep then ledgerAlloc again 99 q.1 q.2 v dirty t else t
    match tfind s.ledger (lineKey q.1 q.2) with
    | some ln => (countChan q.1 0x19 1 none (touchLedger q.1 q.2 ln.way s), .line ln.data)
    | none =>
      let s := countNodeRead d j idx (countChan q.1 0x1A 1 none s)
      let up := parentCtr again d j idx s
      match up.2 with
      | .ctr pc =>
        if nodeUnderRepair up.1 d j idx && pc.minor = 0 then
          -- the range was replaced and this item not written since: its replacement (R249)
          let v := replacementNode up.1 pc.major
          (kept v true up.1, .line v)
        else
          let r := if j = 2 then readCopies d j idx up.1 else readSingle x (x.carve.nodeAddr j idx 0) up.1
          match r.2 with
          | none => (r.1, .lost (lossKind j) idx q.1)
          | some v =>
            let line := x.carve.nodeAddr j idx 0 / 64
            let ok := cursorValid (nodeCursor v) &&
              (x.mode != 0 || nodeMac v == nodeMacOf (r.1.keyFor (nodeGen v)) d (r.1.epochFor d (nodeGen v)) line pc v)
            let t := if x.mode = 0 then aesBlocks q.1 1 r.1 else r.1
            if ok then (kept v false t, .line v) else (t, .lost (lossKind j) idx q.1)
      | res => (up.1, res)

/-- Fetch a MAC line (R207): it is taken on the strength of the MACs it carries. -/
def fetchMac (again : LRec) (d i : Nat) (s : State) : State × LRes :=
  let x := (s.dist d).desc
  let a := x.carve.macBase + 64 * i
  let q := x.place a 0
  match tfind s.ledger (lineKey q.1 q.2) with
  | some ln => (countChan q.1 0x19 1 none (touchLedger q.1 q.2 ln.way s), .line ln.data)
  | none =>
    let r := readSingle x a (countMetaRead q.1 q.2 (countChan q.1 0x1A 1 none s))
    match r.2 with
    | some v => (ledgerAlloc again 99 q.1 q.2 v false r.1, .line v)
    | none => (r.1, .lost 1 i q.1)

/-- Write back a Dirty counter block or node: steps 2 to 5 of R209 one level up. Its writes are charged to the requester
that last made it Dirty (R109); `own` of them are the position granted to it. -/
def flushNode (again : LRec) (own c l d j idx : Nat) (ln : LLine) (s : State) : State × LRes :=
  let r := again (.touchParent ln.port d j idx) s
  match r.2 with
  | .ctr pc =>
    let cur := ((tfind r.1.ledger (lineKey c l)).map (·.data)).getD ln.data
    let w := storeNode d j idx pc cur r.1
    (queueNodeWrites ln.port d j idx own
      { w.1 with ledger := tins w.1.ledger (lineKey c l) { ln with data := w.2, dirty := false } }, .done)
  | res => (r.1, res)

/-- Write a Dirty Ledger line back to DRAM. -/
def flushLine (again : LRec) (granted : Bool) (c l : Nat) (s : State) : State × LRes :=
  match tfind s.ledger (lineKey c l), (s.chan c).dist with
  | some ln, some d =>
    if !ln.dirty then (s, .done)
    else
      let x := (s.dist d).desc
      let own := if granted then 1 else 0
      match x.regionOf (x.localOf c l) with
      | .counter p => flushNode again own c l d 0 p ln s
      | .node j idx => flushNode again own c l d j idx ln s
      | .mac _ =>
        let s := if granted then s else enqueueMetaWrite c l ln.port s
        let s := countChan c 0x0A 1 (some (s.coordOf c l).sub) (writeDram c l (encodeLine ln.data) s)
        ({ s with ledger := tins s.ledger (lineKey c l) { ln with dirty := false } }, .done)
      | _ => (s, .done)
  | _, _ => (s, .done)

/-- One round of the Ledger. -/
def ledgerRound (again : LRec) (r : LReq) (s : State) : State × LRes :=
  match r with
  | .node keep d j idx => fetchNode again keep d j idx s
  | .mac d i => fetchMac again d i s
  | .flush granted c l => flushLine again granted c l s
  | .touchParent port d j idx => parentTouch again port d j idx s

/-- The Ledger at work, to a depth of n rounds (levels of the tree and evictions). -/
def ledgerRun : Nat → LRec
  | 0, _, s => (s, .done)
  | n + 1, r, s => ledgerRound (ledgerRun n) r s

/-- Rounds enough for six levels with an eviction chain at each (log 13). -/
def ledgerDepth : Nat := 64

def ledgerAsk (r : LReq) (s : State) : State × LRes := ledgerRun ledgerDepth r s

/-- Metadata lines a fill or write-back of line dline needs and the Ledger does not hold (R208 step 1): the counter block,
and in a Sealed district the MAC line, the L1 node and the copies of the L2 node. -/
def metaMisses (s : State) (d dline : Nat) : List (Nat × Nat) :=
  let x := (s.dist d).desc
  if x.mode = 2 then []
  else
    let copies := fun j => (List.range (nodeCopies j)).map (fun k => x.place (x.carve.nodeAddr j (dline / 64 ^ (j + 1)) k) k)
    let groups := [copies 0] ++ (if x.mode != 0 then [] else
      [[x.place (x.carve.macAddr dline) 0]] ++ ((List.range (min 2 x.carve.top)).map (fun j => copies (j + 1))))
    groups.flatMap (fun g => match g.head? with
      | some q => if (tfind s.ledger (lineKey q.1 q.2)).isSome then [] else g
      | none => [])

/-- Queue the reads of the metadata that an operation of entry e, of class `cls`, misses (R107, R109, R211); a sampled request is flagged (R399). -/
def queueMetaReads (cls : Cls) (e : Entry) (d dline : Nat) (s : State) : State :=
  let misses := metaMisses s d dline
  misses.foldl (fun t q =>
    enqueueMetaRead q.1 cls { e with line := q.2, wr := false, kind := .metaRead, gpos := none, group := [] } t)
    (if misses.isEmpty then s else flagSample e.stamp 1 s)

end Sys2Proof.Machine
end

