-- ==== Sys2Proof/Machine/Integrity.lean ====
section
/-! DEFINITION. Losses and the repair table (R246-R252), the sealed page list (R216, R217), the fill of a line and its
write-back (R208, R209, R214, R215). -/

namespace Sys2Proof.Machine

/-! ### The sealed page list (R217) -/

/-- A write to a line of a sealed page, or of a district sealed whole, answers SEALED (R216, R217). -/
def State.isSealed (s : State) (d dline : Nat) (t : Stamp) : Bool :=
  (bit (s.obj 0x5000 0x41) d && stampLe (tget s.sealedFrom d Stamp.zero) t) ||
    s.sealedList.any (fun e => e.1 == d && e.2.1 == dline / 64 && stampLe e.2.2 t)

/-- Seal a district whole (R217). -/
def sealDistrict (d : Nat) (s : State) : State :=
  ({ s with sealedFrom := tins s.sealedFrom d (s.stampNow 0) }.setObjBit 0x5000 0x41 d true).raise 0x023

/-- Enter a page in the list, or seal the district where the list is full. -/
def sealPage (d page : Nat) (s : State) : State :=
  if s.sealedList.any (fun e => e.1 == d && e.2.1 == page) then s
  else if s.sealedList.length < 128 then
    let n := s.sealedList.length
    let s := { s with mram := sbNat s.mram (sealedAt n) 8 (d * 2 ^ 62 + page % 2 ^ 38),
                      sealedList := s.sealedList ++ [(d, page, s.stampNow 0)] }
    ((s.addObj 0x5000 (0x30 + d) 1).setObj 0x5000 0x40 (n + 1)).raise 0x022
  else sealDistrict d s

/-- Rewrite the list in MRAM; entries above its length hold no page. -/
def storeSealed (s : State) : State :=
  let s := s.setObj 0x5000 0x40 s.sealedList.length
  forN 128 s (fun i t => match t.sealedList[i]? with
    | some (d, p, _) => { t with mram := sbNat t.mram (sealedAt i) 8 (d * 2 ^ 62 + p % 2 ^ 38) }
    | none => { t with mram := sbNat t.mram (sealedAt i) 8 0 })

/-- Remove a district's entries and its whole-district seal (R217). -/
def unsealDistrict (d : Nat) (s : State) : State :=
  storeSealed ({ s with sealedList := s.sealedList.filter (fun e => e.1 != d), sealedFrom := tdel s.sealedFrom d }.setObjBit 0x5000 0x41 d false)

/-! ### Losses (R247-R252) -/

/-- The lowest free entry of the repair table. -/
def freeRepair (s : State) : Option Nat := (List.range 256).find? (fun e => (s.repairAt e).state == 0)

/-- Lines of a range that the Plaza keeps (R247): Clean, Dirty, Pinned but from Filling. -/
def keptLine (d first n : Nat) (x : PLine) : Bool :=
  x.dist == d && decide (first ≤ x.dline) && decide (x.dline < first + n) &&
    (match x.st with
     | .clean => true
     | .dirty => true
     | .pinned => !x.wasFilling
     | .filling => false)

/-- Clean lines of the range become Dirty (R247). -/
def keepRange (d first n : Nat) (s : State) : State :=
  { s with plaza := s.plaza.map (fun e =>
      if keptLine d first n e.2 && e.2.st == .clean then (e.1, { e.2 with st := .dirty, since := s.now.frame }) else e) }

/-- State of an entry whose metadata is in place: repairing from the twin, or marking (R250). -/
def repairState (s : State) (d : Nat) : Nat := if (s.dist d).mst = .inSync then 2 else 3

/-- Install the replacement of a lost item (R249). -/
def installReplacement (d kind idx : Nat) (s : State) : State :=
  let x := (s.dist d).desc
  if kind = 0 then s
  else if kind = 1 then
    putLedger (ledgerRun ledgerDepth) 99 (x.place (x.carve.macBase + 64 * idx) 0).1 (x.place (x.carve.macBase + 64 * idx) 0).2 0 s
  else
    let top := (s.dist d).ceiling + 1
    let s := raiseCeiling d top s
    let n := replacementNode s top
    let lines := repairLines kind
    let pages := lines / 64
    let s := if top = 2 ^ 63 - 1 then
        (if pages ≤ 128 then forN pages s (fun i t => sealPage d (idx * pages + i) t)
         else sealDistrict d s)
      else s
    let j := kind - 2
    if 3 ≤ j then
      let r := ledgerAsk (.touchParent 99 d j idx) s
      match r.2 with
      | .ctr pc => renewNode d j idx pc n r.1
      | _ => r.1
    else
      let q := x.place (x.carve.nodeAddr j idx 0) 0
      putLedger (ledgerRun ledgerDepth) 99 q.1 q.2 n s

/-- A loss of an item of channel c (R246-R252): exactly one entry, its range Unverified, its replacement installed. -/
def lose (d kind idx c : Nat) (s : State) : State :=
  if s.repair.any (fun e => e.2.state != 0 && e.2.dist == d && e.2.kind == kind && e.2.index == idx) then s
  else
    match freeRepair s with
    | none => (freezeChannel c 3 none none 0 s).raise 0x034
    | some e =>
      let first := idx * repairLines kind
      let n := repairLines kind
      let last := min (first + n) ((s.dist d).desc.limit / 64)
      let kept := (s.plaza.filter (fun p => keptLine d first n p.2)).length
      let r : Repair := { progress := 0, dist := d, kind := kind, state := repairState s d, index := idx, marked := false }
      let s := storeRepair e (s.setRepair e r)
      let s := keepRange d first n (s.addObj 0x5104 3 (last - first - kept))
      (installReplacement d kind idx s).raise 0x031

/-- A lost root: one entry of kind T + 2 for each level-T node, or none where they do not all fit (R246, R252). -/
def loseRoot (d : Nat) (s : State) : State :=
  let x := (s.dist d).desc
  let n := x.carve.nodes x.carve.top
  let free := ((List.range 256).filter (fun e => (s.repairAt e).state == 0)).length
  if free < n then
    let c := (x.place (x.carve.nodeAddr x.carve.top 0 0) 0).1
    (freezeChannel c 3 none none 0 s).raise 0x034
  else forN n s (fun i t => lose d (lossKind x.carve.top) i (x.place (x.carve.nodeAddr x.carve.top i 0) 0).1 t)

/-- Enter in the repair table the losses the Ledger met while it wrote lines back (R246). -/
def settleFound (s : State) : State :=
  s.found.foldl (fun t e => lose e.1 e.2.1 e.2.2.1 e.2.2.2 t) { s with found := [] }

/-- Ask the Ledger for a line; a lost item is entered in the repair table (R246). -/
def needLine (r : LReq) (d : Nat) (s : State) : State × Option (BitVec 512) :=
  let x := ledgerAsk r s
  let t := settleFound x.1
  match x.2 with
  | .line v => (t, some v)
  | .lost k i c => (lose d k i c t, none)
  | _ => (t, none)

/-- Write a Dirty Ledger line of district d back, in a position granted to it or not; what is lost is entered in the repair
table (R246). -/
def flushLedger (granted : Bool) (c l : Nat) (d : Option Nat) (s : State) : State :=
  let r := ledgerAsk (.flush granted c l) s
  settleFound (noteLoss d r.2 r.1)

/-- Step 1 of a fill or write-back in a Sealed district (R208): the nodes of levels 2 and 1 that cover the line, from the
highest down; the counter block and the MAC line follow. -/
def needNodes (d dline : Nat) (s : State) : State :=
  let x := (s.dist d).desc
  if x.mode != 0 then s
  else forN (min 2 x.carve.top) s (fun k t =>
    let j := min 2 x.carve.top - k
    (needLine (.node true d j (dline / 64 ^ (j + 1))) d t).1)

/-- As `needLine`, under the replacement where the item was lost (R209). -/
def needReplaced (r : LReq) (d : Nat) (s : State) : State × Option (BitVec 512) :=
  let x := needLine r d s
  match x.2 with
  | some v => (x.1, some v)
  | none => needLine r d x.1

/-! ### Fill (R208) -/

/-- What a fill brings. -/
inductive FillOut where
  | data (v : BitVec 512)
  | poison
  | integrity
  | uncorrectable
  deriving DecidableEq, Repr

/-- The MAC of line dline in its MAC line. -/
def macOf (m : BitVec 512) (dline : Nat) : Nat := bits m.toNat (64 * (dline % 8) + 63) (64 * (dline % 8))
def setMac (m : BitVec 512) (dline v : Nat) : BitVec 512 := nodeSet m (64 * (dline % 8)) 64 v

/-- A line of an Unverified range that nothing has stored since (R247, R250, R251). -/
def unverified (s : State) (d dline : Nat) (block mac : BitVec 512) : Bool :=
  s.repair.any (fun e => e.2.covers d dline &&
    (if e.2.kind = 0 then e.2.progress == 0
     else if e.2.kind = 1 then macOf mac dline == 0
     else nodeMinor block (dline % 64) == 0))

/-- An Uncorrectable data line (R101, R238): the event, a kind 0 entry, and the freeze. -/
def dataLost (c l d dline port : Nat) (s : State) : State :=
  let x := s.coordOf c l
  let bits' := s.dramLine c l
  let s := s.raiseChan c 9 x.sub x.rankSlot
  if !(s.dist d).desc.format then s
  else
    let s := lose d 0 dline c s
    if s.obj (chIdx 0x3080 c) 0x13 = 1 then freezeChannel c 1 (some l) (some bits') port s else s

/-- Read a data line from its module and check its code. -/
def fillRaw (c l d dline port : Nat) (s : State) : State × FillOut :=
  let r := readDram c l false s
  match r.2 with
  | .clean v => (r.1, .data v)
  | .erasure v => (r.1, .data (storedData v))
  | .corrected _ v => (r.1, .data (storedData v))
  | .poison => (r.1, .poison)
  | .uncorrectable => (dataLost c l d dline port r.1, .uncorrectable)

/-- The fill of line l of channel c (R208). -/
def fillLine (c l d dline port : Nat) (s : State) : State × FillOut :=
  let x := (s.dist d).desc
  if x.mode = 2 then
    if unverified s d dline 0 0 then (s, .poison) else fillRaw c l d dline port s
  else
    let b := needLine (.node true d 0 (dline / 64)) d (needNodes d dline s)
    match b.2 with
    | none => (b.1, .poison)
    | some block =>
      let m := if x.mode = 0 then needLine (.mac d (dline / 8)) d b.1 else (b.1, some 0)
      match m.2 with
      | none => (m.1, .poison)
      | some mac =>
        if unverified m.1 d dline block mac then (m.1, .poison)
        else
          let r := fillRaw c l d dline port (aesBlocks c (if x.mode = 0 then 5 else 4) m.1)
          match r.2 with
          | .data v =>
            let ctr := itemCtr block (dline % 64)
            let k := r.1.keyFor ctr.gen
            let epoch := r.1.epochFor d ctr.gen
            if x.mode = 0 && dataMac k d epoch dline ctr v != macOf mac dline then
              (lose d 0 dline c r.1, .integrity)
            else (r.1, .data (cryptLine k d epoch dline ctr v))
          | out => (r.1, out)

/-! ### Write-back (R209, R214, R215) -/

/-- A write-back clears a kind 0 entry's line (log 14). -/
def afterWriteBack (d dline : Nat) (s : State) : State :=
  { s with repair := s.repair.map (fun e =>
      if e.2.state != 0 && e.2.kind == 0 && e.2.dist == d && e.2.index == dline then (e.1, { e.2 with progress := 1 }) else e) }

/-- Store the MAC of a line in its MAC line; a kind 2 injection alters it (R466). -/
def storeMac (port c l d dline mac : Nat) (line : BitVec 512) (s : State) : State :=
  let x := (s.dist d).desc
  let q := x.place (x.carve.macAddr dline) 0
  let hit := injectArmed s 2 && injectTarget s == some (c, l)
  let v := if hit then mac ^^^ leNat (patternBytes s (s.obj 0xB001 5) 8) else mac
  let s := putLedger (ledgerRun ledgerDepth) port q.1 q.2 (setMac line dline v) s
  if hit then injectFired s else s

/-- Begin the advance of a page (R214). -/
def startAdvance (port d page : Nat) (block : BitVec 512) (s : State) : State :=
  let x := (s.dist d).desc
  let q := x.place (x.carve.counterAddr page) 0
  (putLedger (ledgerRun ledgerDepth) port q.1 q.2 (nodeSetCursor block 0x80) s).addObj 0x5000 (0x20 + d) 1

/-- What R214 and R215 say of a write-back of item k now: go on, wait, or start the page's advance and wait. -/
inductive MinorStep where
  | go
  | wait
  | advance
  deriving DecidableEq, Repr

def minorStep (block : BitVec 512) (k : Nat) : MinorStep :=
  let cur := nodeCursor block
  if cursorBusy cur then (if cursorM cur ≤ k || nodeMinor block k = 63 then .wait else .go)
  else if nodeMinor block k < 63 then .go
  else if cur = 0 && decide (nodeMajor block ≤ 2 ^ 63 - 2) then .advance else .wait

/-- For a requester (R109), write line dline under a counter block whose minor for it has been advanced: encrypt, MAC, write, update the Ledger
(R209 steps 3 to 5). -/
def writeUnder (port c l d dline : Nat) (block : BitVec 512) (data : BitVec 512) (s : State) : State :=
  let x := (s.dist d).desc
  let ctr := itemCtr block (dline % 64)
  let k := s.keyFor ctr.gen
  let epoch := s.epochFor d ctr.gen
  let ct := cryptLine k d epoch dline ctr data
  let q := x.place (x.carve.counterAddr (dline / 64)) 0
  let m := if x.mode = 0 then needReplaced (.mac d (dline / 8)) d s else (s, some 0)
  let s := writeDram c l (encodeLine ct) (aesBlocks c (if x.mode = 0 then 5 else 4) m.1)
  let s := putLedger (ledgerRun ledgerDepth) port q.1 q.2 block s
  let s := if x.mode = 0 then storeMac port c l d dline (dataMac k d epoch dline ctr ct) (m.2.getD 0) s else s
  afterWriteBack d dline s

/-- The write-back of a Dirty line charged to a requester (R209): done, or waiting for its counters. -/
def storeData (port c l d dline : Nat) (data : BitVec 512) (s : State) : State × Bool :=
  let x := (s.dist d).desc
  if x.mode = 2 then (afterWriteBack d dline (writeDram c l (encodeLine data) s), true)
  else
    let b := needReplaced (.node true d 0 (dline / 64)) d (needNodes d dline s)
    match b.2 with
    | none => (b.1, false)
    | some block =>
      let k := dline % 64
      match minorStep block k with
      | .go => (settleFound (writeUnder port c l d dline (nodeSetMinor block k (nodeMinor block k + 1)) data b.1), true)
      | .wait => (b.1, false)
      | .advance => (settleFound (startAdvance port d (dline / 64) block b.1), false)

end Sys2Proof.Machine
end

