-- ==== Sys2Proof/Machine/Operands.lean ====
section
/-! DEFINITION. What crosses a request port: units, header fields, the command table (R41-R45, R58), the check order of
an accepted request (R48, R51, R52, R55), and where ports and channels stand in the network (R65-R71). -/

namespace Sys2Proof.Machine

/-! ### Units (R41) -/

def unitPayload (u : BitVec 544) : BitVec 512 := BitVec.ofNat 512 u.toNat
def unitCrc (u : BitVec 544) : Nat := u.toNat / 2 ^ 512
def unitOk (u : BitVec 544) : Bool := crc32c (bvBytes (unitPayload u)) == unitCrc u

/-! ### Header fields (R43) -/

def hdrOperand (h : BitVec 512) : BitVec 64 := BitVec.ofNat 64 (bits h.toNat 255 192)
def hdrMask (h : BitVec 512) : BitVec 64 := BitVec.ofNat 64 (bits h.toNat 191 128)
def hdrAddr (h : BitVec 512) : Nat := bits h.toNat 109 64
def hdrTwin (h : BitVec 512) : Bool := bit h.toNat 47
def hdrLock (h : BitVec 512) : Bool := bit h.toNat 46
def hdrLen (h : BitVec 512) : Nat := bits h.toNat 45 43
def hdrCmd (h : BitVec 512) : Nat := bits h.toNat 40 33
def hdrTag (h : BitVec 512) : Nat := bits h.toNat 32 25

/-- A request header with the initiator's fields set. -/
def mkHeader (cmd tag len addr : Nat) (twin lock : Bool) (operand mask : Nat) : BitVec 512 :=
  BitVec.ofNat 512 (operand * 2 ^ 192 + mask * 2 ^ 128 + addr * 2 ^ 64 + (if twin then 2 ^ 47 else 0) +
    (if lock then 2 ^ 46 else 0) + len * 2 ^ 43 + cmd * 2 ^ 33 + tag * 2 ^ 25)

/-- A row of the command table (R44): lengths, data units per Length, alignment, operands used. -/
structure CmdRow where
  code : Nat
  lens : List Nat
  perLen : Nat
  align : Nat
  usesOperand : Bool
  usesMask : Bool
  twinOk : Bool
  /-- first reserved byte of the data unit, 64 where none is. -/
  dataUsed : Nat
  deriving DecidableEq, Repr

def cmdTable : List CmdRow :=
 [ ⟨0x01, [1, 2, 3, 4], 0, 64, false, false, false, 64⟩,
   ⟨0x02, [1, 2], 0, 64, false, false, false, 64⟩,
   ⟨0x10, [1, 2, 3, 4], 1, 64, false, false, true, 64⟩,
   ⟨0x11, [1], 1, 64, false, true, true, 64⟩,
   ⟨0x20, [1], 1, 8, true, false, true, 8⟩,
   ⟨0x21, [1], 1, 16, false, false, true, 32⟩,
   ⟨0x22, [0], 0, 8, true, false, true, 64⟩,
   ⟨0x23, [0], 0, 8, true, false, true, 64⟩,
   ⟨0x30, [0], 0, 1, false, false, false, 64⟩ ]

def cmdRow (code : Nat) : Option CmdRow := cmdTable.find? (fun r => r.code == code)

/-- Lines a request covers. -/
def reqLines (cmd len : Nat) : Nat := if cmd = 0x30 then 0 else if cmd = 0x01 || cmd = 0x02 || cmd = 0x10 then len else 1

/-- Line-times (R33): 1 per line, 2 for WRITE_MASKED and each atomic. -/
def lineTimes (cmd len : Nat) : Nat := if cmd = 0x30 then 0 else if cmd = 0x01 || cmd = 0x02 || cmd = 0x10 then len else 2

def isRead (cmd : Nat) : Bool := cmd == 0x01 || cmd == 0x02
def isAtomic (cmd : Nat) : Bool := decide (0x20 ≤ cmd) && decide (cmd ≤ 0x23)
def isWrite (cmd : Nat) : Bool := cmd == 0x10 || cmd == 0x11 || isAtomic cmd

/-- Bytes an atomic touches. -/
def atomicBytes (cmd : Nat) : Nat := if cmd = 0x21 then 16 else 8

/-- Check 1 of R48: command, Length, reserved fields, alignment, the 256-byte block, and the data units that came. -/
def formOk (h : BitVec 512) (data : List (BitVec 512)) : Bool :=
  match cmdRow (hdrCmd h) with
  | none => false
  | some r =>
    r.lens.contains (hdrLen h) && data.length == r.perLen * hdrLen h &&
      bits h.toNat 511 360 == 0 && bits h.toNat 127 110 == 0 && bits h.toNat 63 56 == 0 &&
      (r.usesOperand || hdrOperand h == 0) && (r.usesMask || hdrMask h == 0) && (r.twinOk || !hdrTwin h) &&
      data.all (fun d => d.toNat / 2 ^ (8 * r.dataUsed) == 0) &&
      (if r.code = 0x30 then hdrAddr h == 0
       else hdrAddr h % r.align == 0 && decide (hdrAddr h % 256 + 64 * reqLines r.code (hdrLen h) ≤ 256 ||
         (isAtomic r.code)))

/-! ### Rights (R51, R52) -/

/-- Rights bits needed by a command. -/
def rightsNeeded (cmd : Nat) : Nat :=
  if cmd = 0x01 then 5 else if cmd = 0x02 then 9 else if cmd = 0x10 || cmd = 0x11 then 6 else if isAtomic cmd then 7 else 0

/-- Rights of port p at address a: the union over the windows that match, Plain ignored as R52 says. -/
def portRights (s : State) (p a : Nat) : Nat :=
  let i := 0x2300 + p
  let strip := Config.productionFuse && s.obj i 3 == 1
  (List.range 16).foldl (fun acc w =>
    let base := s.obj i (0x10 + w)
    let limit := s.obj i (0x20 + w)
    if base < limit && base ≤ a && a < limit then
      let r := s.obj i (0x30 + w) % 16
      let r := if strip && s.obj i (0x40 + w) != s.obj i 2 then r &&& 0xB else r
      acc ||| r
    else acc) 0

def rightsOk (s : State) (p cmd a : Nat) : Bool :=
  let need := rightsNeeded cmd
  need == 0 || (portRights s p a &&& need) == need

/-- The role of a district: 0 Off, 1 Lead, 2 Follower (R258). -/
def State.role (s : State) (d : Nat) : Nat := s.obj (0x6010 + d) 1

/-- Checks 1 to 3 of R48: the status of the first that fails. Writes to a Follower fail check 3 (R258). -/
def checkRequest (s : State) (p : Nat) (h : BitVec 512) (data : List (BitVec 512)) (bad : Bool) : Option Nat :=
  if bad || !formOk h data then some 0x21
  else if hdrCmd h = 0x30 then none
  else
    match s.decode (hdrAddr h) with
    | .data d _ =>
      if !rightsOk s p (hdrCmd h) (hdrAddr h) then some 0x20
      else if isWrite (hdrCmd h) && s.role d == 2 then some 0x20
      else none
    | .absent _ => some 0x32
    | _ => some 0x21

/-- Channel, district and district-local line of an address that decodes to data. -/
def State.target (s : State) (a : Nat) : Option (Nat × Nat × Nat × Nat) :=
  match s.decode a with
  | .data d l => let q := (s.dist d).desc.place l 0; some (q.1, q.2, d, l / 64)
  | _ => none

/-! ### Responses (R58) -/

/-- The order in which line statuses decide a header's Status. -/
def statusOrder : List Nat := [0x34, 0x33, 0x22, 0x12, 0x11, 0x10, 0x32, 0x31, 0x01, 0x00]

/-- Header Status of the line statuses. -/
def overallStatus (ls : List Nat) : Nat := (statusOrder.find? (fun c => ls.contains c)).getD 0

/-- A line status that carries data. -/
def carriesData (st : Nat) : Bool := st == 0 || st == 1

/-- ACK for writes and fences, DATA otherwise. -/
def respCode (cmd : Nat) : Nat := if cmd = 0x10 || cmd = 0x11 || cmd = 0x30 then 0x81 else 0x80

/-- Units of a response: its header and data. -/
def Resp.units (r : Resp) : Nat := 1 + r.data.length

/-! ### The network (R65-R71) -/

/-- Crossing number 8x + y. -/
def xy (x y : Nat) : Nat := 8 * x + y

def channelCrossing (c : Nat) : Nat := xy (2 * (c % 4) + (c / 4) % 2) (2 * (c / 4))

/-- Port Crossing k, in order of y, then x (R67). -/
def portCrossing (k : Nat) : Nat :=
  let g := k / 12
  let r := k % 12
  if r < 4 then xy (2 * r + (1 - g % 2)) (2 * g) else xy (r - 4) (2 * g + 1)

/-- Crossing and local position of a port (R67, R68); ports 101 to 111 have none. -/
def portAt (p : Nat) : Option (Nat × Nat) :=
  if p < 96 then some (portCrossing (p / 2), p % 2)
  else if p = 96 then some (xy 3 3, 2) else if p = 97 then some (xy 4 3, 2) else if p = 98 then some (xy 3 5, 2)
  else if p = 99 then some (xy 4 5, 2) else if p = 100 then some (xy 4 1, 2) else none

/-- The output a unit for (dest, local position) takes at Crossing x (R71). -/
def routeOut (x dest lp : Nat) : Nat :=
  let dx := (dest / 8 + 8 - x / 8) % 8
  let dy := (dest % 8 + 8 - x % 8) % 8
  if dx != 0 then (if dx ≤ 4 then 0 else 1) else if dy != 0 then (if dy ≤ 4 then 2 else 3) else 4 + lp

/-- The Crossing an output of x faces, and the input the unit arrives at (R65). -/
def neighbour (x out : Nat) : Nat × Nat :=
  let cx := x / 8
  let cy := x % 8
  if out = 0 then (xy ((cx + 1) % 8) cy, 1) else if out = 1 then (xy ((cx + 7) % 8) cy, 0)
  else if out = 2 then (xy cx ((cy + 1) % 8), 3) else (xy cx ((cy + 7) % 8), 2)

/-- The route from a Crossing: (Crossing, output) at each hop, the local output last. -/
def routeFrom (dest lp : Nat) : Nat → Nat → List (Nat × Nat)
  | 0, _ => []
  | n + 1, x =>
    let o := routeOut x dest lp
    if 4 ≤ o then [(x, o)] else (x, o) :: routeFrom dest lp n (neighbour x o).1

def route (src dest lp : Nat) : List (Nat × Nat) := routeFrom dest lp 10 src

/-- Dateline after a hop (R72). -/
def datelineAfter (x out : Nat) (turned : Bool) (dl : Bool) : Bool :=
  let cx := x / 8
  let cy := x % 8
  let kept := dl && !turned
  if out = 0 then kept || cx == 7 else if out = 1 then kept || cx == 0
  else if out = 2 then kept || cy == 7 else if out = 3 then kept || cy == 0 else kept

/-- The dateline bit of a unit when it has crossed from src to its destination (R72). -/
def routeDateline (src dest lp : Nat) : Bool :=
  ((route src dest lp).foldl (fun (a : Bool × Bool) h =>
    (datelineAfter h.1 h.2 (a.2 && (h.2 == 2 || h.2 == 3)) a.1, h.2 == 0 || h.2 == 1)) (false, false)).1

/-! ### Outgoing units (R41, R43, R58) -/

/-- The header unit of a response, with the routing fields the D16 writes. -/
def Resp.header (r : Resp) : BitVec 512 :=
  let at_ := (portAt r.port).getD (0, 0)
  let src := r.src.getD at_.1
  BitVec.ofNat 512 (deadlineWord r.deadline * 2 ^ 328 + r.stamp.word * 2 ^ 256 + r.lineStatus.toNat * 2 ^ 128 +
    r.addr * 2 ^ 64 + r.status * 2 ^ 48 + r.data.length * 2 ^ 43 + r.cls.code * 2 ^ 41 + r.code * 2 ^ 33 +
    r.tag * 2 ^ 25 + r.port * 2 ^ 18 + at_.2 * 2 ^ 16 + src * 2 ^ 10 + at_.1 * 2 ^ 4 +
    (if routeDateline src at_.1 at_.2 then 8 else 0) + 1)

/-- A unit with its CRC. -/
def mkUnit (p : BitVec 512) : BitVec 544 := BitVec.ofNat 544 (p.toNat + crc32c (bvBytes p) * 2 ^ 512)

/-- The units of a response, header first. -/
def Resp.outUnits (r : Resp) : List (BitVec 544) := (r.header :: r.data).map mkUnit

/-! ### Slot tables (R77) -/

/-- Entry i of the active (base 0x20) or shadow (base 0x10) table of output o of Crossing x. -/
def slotEntry (s : State) (x base o i : Nat) : Nat := ldNat s.recs (recAddr (0x4000 + x) (base + o) (4 * i)) 4

/-- The run lengths of a flow at an output: its valid first entries (R77, R78). -/
def flowRuns (s : State) (base x o net port chan : Nat) : List (Nat × Nat) :=
  (List.range 64).filterMap (fun i =>
    let v := slotEntry s x base o i
    if bit v 31 && !bit v 30 && bits v 29 29 == net && bits v 10 4 == port && bits v 3 0 == chan then
      some (i, bits v 28 26) else none)

/-- The longest run of a flow at the first output of its route. -/
def flowLength (s : State) (net port chan : Nat) : Nat :=
  let src := (portAt port).map (·.1) |>.getD 0
  let lp := (portAt port).map (·.2) |>.getD 0
  let r := if net = 0 then route src (channelCrossing chan) 0 else route (channelCrossing chan) src lp
  match r.head? with
  | some (x, o) => (flowRuns s 0x20 x o net port chan).foldl (fun m e => max m e.2) 0
  | none => 0

/-- A G request's packets fit its chain (R79). -/
def chainFits (s : State) (p c cmd len : Nat) : Bool :=
  let req := if isWrite cmd then 1 + (if cmd = 0x22 || cmd = 0x23 then 0 else len) else 1
  let resp := if cmd = 0x01 then 1 + len else if cmd = 0x02 then 1 + 2 * len else if isAtomic cmd then 2 else 1
  decide (req ≤ flowLength s 0 p c) && decide (resp ≤ flowLength s 1 p c)

end Sys2Proof.Machine
end

