-- ==== Sys2Proof/Machine/Forecast.lean ====
section
/-! DEFINITION. Forecast (R21-R34): backlogs, the horizon's outstanding requests, the admission tests of each class and
what they reserve. -/

namespace Sys2Proof.Machine

/-- Slot mod arithmetic: the last slot start at or before `stamp + ns` (R32, R33). -/
def lastSlotBy (t : Stamp) (ns : Nat) : Nat := ((t.absCycle + 2 * ns) / 40) % slotMod

/-- Time from a stamp to the start of an absolute slot, in ps; 0 where it lies behind. -/
def slackPs (t : Stamp) (deadline : Nat) : Nat :=
  let d := (40 * deadline + cycleMod - t.absCycle % cycleMod) % cycleMod
  if 2 * d < cycleMod then d * 500 else 0

/-- Channel of a request that decodes. -/
def reqChan (s : State) (r : Req) : Option Nat := (s.target r.addr).map (·.1)

/-- Requests of port p that wait in its ingress queue or in its open lock sequence. -/
def Port.waiting (q : Port) : List Req := q.ingress ++ (match q.lock with | some l => l.members | none => [])

/-- Ports with anything listed, ascending. -/
def State.activePorts (s : State) : List Nat := s.ports.map (·.1)

/-- Admitted requests for channel c that its slice has not received (R172): in ingress queues and in transit. -/
def outstandingFor (s : State) (c : Nat) : List Req :=
  (s.activePorts.flatMap (fun p => (s.port p).ingress.filter (fun r => reqChan s r == some c))) ++ tget s.transit c []

/-- Members of the sequences open on channel c; a broken one has none (R55, R173). -/
def openMembers (s : State) (c : Nat) : List Req :=
  s.activePorts.flatMap (fun p => match (s.port p).lock with
    | some l => if l.chan = c && !l.broken then l.members else []
    | none => [])

/-- The stamp a request is ordered by: its own, or its locked sequence's first member's (R18, R56). -/
def Req.ord (r : Req) : Stamp := r.group.getD r.stamp

/-- Stamps that hold the horizon of channel c: outstanding requests and open locked sequences (R172, R173). A sequence
holds it at its first member's stamp until all of it has arrived (R56). -/
def horizonHolds (s : State) (c : Nat) : List Stamp :=
  (outstandingFor s c).map Req.ord ++
    s.activePorts.filterMap (fun p => match (s.port p).lock with
      | some l => if l.chan = c && !l.broken then some l.stamp else none
      | none => none)

/-- H_c (R172). -/
def horizon (s : State) (c : Nat) : Stamp :=
  match leastBy stampLt (horizonHolds s c) with
  | some t => t
  | none => s.stampNow 0

/-- The order buffer of channel c. -/
def State.orderOf (s : State) (c : Nat) : List Access := tget s.order c []

/-- Line-times of an access that has not settled. -/
def accessCost (a : Access) : Nat :=
  match a.kind with
  | .masked _ _ => 2
  | .atomic _ _ _ _ => 2
  | _ => 1

/-- Line-times admitted for a predicate of ports and not yet served on c (R32, R33): unsettled requests and accesses,
and the queued line operations in the given queues (log 21). -/
def backlog (s : State) (c : Nat) (queues : List Entry) (who : Nat → Bool) (cls : Cls → Bool → Bool) : Nat :=
  let reqs := (outstandingFor s c ++ openMembers s c).filter (fun r => who r.port && cls r.cls r.res)
  let acc := (s.orderOf c).filter (fun a => who a.port && cls a.cls a.res && !a.engine)
  reqs.foldl (fun n r => n + lineTimes r.cmd r.len) 0 + acc.foldl (fun n a => n + accessCost a) 0 +
    (queues.filter (fun e => who e.port)).length

/-- Entries served as class B: the B queue's, and G write-backs, which wait for B service too (R28, R109). -/
def Chan.served (ch : Chan) : List Entry := ch.bq ++ ch.gWb

/-- Q_p,c: port p's B line-times (R33). G requests admitted under the B test count, and G write-backs (R109). -/
def backlogB (s : State) (c p : Nat) : Nat :=
  backlog s c (s.chan c).served (fun q => q == p) (fun k res => k == .b || (k == .g && !res))

/-- B line-times outstanding on c of every port. -/
def backlogBAll (s : State) (c : Nat) : Nat :=
  backlog s c (s.chan c).served (fun _ => true) (fun k res => k == .b || (k == .g && !res))

/-- Q_U,c (R32). -/
def backlogU (s : State) (c : Nat) : Nat :=
  backlog s c ((s.chan c).openU ++ (s.chan c).gate) (fun _ => true) (fun k _ => k == .u)

/-- W_c: weights of the ports with B line-times outstanding on c, `p` among them (R33). -/
def activeWeight (s : State) (c : Nat) (p : Option Nat) : Nat :=
  let listed := s.activePorts ++ ((s.chan c).served.map (·.port)).filter (fun q => !s.activePorts.contains q)
  let ports := listed.eraseDups.filter (fun q => decide (0 < backlogB s c q) || p == some q)
  let ports := match p with | some q => if ports.contains q then ports else q :: ports | none => ports
  ports.foldl (fun w q => w + s.obj (0x2200 + q) 4) 0

/-- Exit latency of a power state on channel c, ps (R155). -/
def latencyOf (s : State) (c : Nat) (p : PowSt) : Nat :=
  match p with
  | .active => 0
  | .powerDown => s.obj (timIdx c) 0x1A + 5000
  | .selfRefresh => s.obj (timIdx c) 0x1B + 64000
  | .deepSelfRefresh => s.obj (timIdx c) 0x1B + 6064000

/-- Exit latency of the power state channel c is in, ps (R158). -/
def exitLatency (s : State) (c : Nat) : Nat := latencyOf s c (s.chan c).pstate

/-- 128 ns, in ps, in the frame in which a split of Avenue or Boulevard changed (R81). -/
def splitDelay (s : State) : Nat :=
  match s.net.split with
  | some (f, vs) => if f = s.now.frame && (vs.contains 0 || vs.contains 1) then 128000 else 0
  | none => 0

/-- ps from now to the next opening of the gate of channel c, 0 while it is open (R32; log 22). -/
def gateWait (s : State) (c : Nat) : Nat :=
  let t := s.now.slot
  if s.gateSlot c t then 0
  else
    let slots := (s.gateStart c % 192 + 192 - t) % 192
    (40 * slots - s.now.cycle) * 500

/-- X × t_line ÷ A + a fixed time in ps ≤ deadline − stamp, with A = num ÷ den (R32, R33). -/
def fits (s : State) (c x : Nat) (a : Nat × Nat) (fixed : Nat) (t : Stamp) (deadline : Nat) : Bool :=
  let ps := s.pSlot c
  ps != 0 && a.1 != 0 &&
    decide (x * 20000 * a.2 + fixed * ps * a.1 ≤ slackPs t deadline * ps * a.1)

/-- The class B test for n line-times, with `extra` ps more on its left side (R33, R56). -/
def testB (s : State) (c p n extra : Nat) (t : Stamp) (deadline : Nat) : Bool :=
  let w := max 1 (s.obj (0x2200 + p) 4)
  let x := cdiv ((backlogB s c p + n) * activeWeight s c (some p)) w
  let lock := if s.obj (0x2040 + c) 5 = 1 then 352000 else 0
  fits s c x (availB s c) (280000 + lock + extra + exitLatency s c + splitDelay s) t deadline

/-- Ports confined to gates, or open U beyond its allowance (R32, R118). -/
def confinedU (s : State) (c p n : Nat) : Bool :=
  gateConfined p || decide (s.obj (arbIdx c) 0x0C < backlogU s c + n)

/-- The class U test (R32). -/
def testU (s : State) (c p n : Nat) (t : Stamp) (deadline : Nat) : Bool :=
  let tg := if confinedU s c p n then gateWait s c else 0
  fits s c (backlogU s c + n) (availU s c) (280000 + tg + exitLatency s c + splitDelay s) t deadline

/-! ### Class G (R26-R28) -/

/-- The port's reserved positions on c from slot s + 1 on, not assigned to a read: (absolute slot, index). -/
def freePositions (s : State) (c p : Nat) (t : Stamp) : List (Nat × Nat) :=
  let ready := cdiv (500 * t.absCycle + exitLatency s c) 20000
  let first := max (t.absSlot + 1) ready
  let taken := (s.port p).gAsg
  (List.range (2 * 192)).flatMap (fun k =>
    let a := (first + k) % slotMod
    ((gPositions s c (a % 192)).filter (fun x => x.2 == p)).filterMap (fun x =>
      if taken.contains (c, a, x.1) then none else some (a, x.1)))

/-- R26: the n positions a read takes and its deadline, where that is within Bound_n. -/
def testG (s : State) (c p n : Nat) (t : Stamp) : Option (Nat × List (Nat × Nat)) :=
  let pos := (freePositions s c p t).take n
  if pos.length < n then none
  else
    match pos.getLast? with
    | none => none
    | some (a, _) =>
      let d := (a + 14) % slotMod
      if slackPs t d ≤ gBound s c p n * 1000 then some (d, pos) else none

/-- G write backlog of port p on c (R28): its G writes in the order buffer, and lines whose G write-back is charged to it
and not granted. -/
def gWriteBacklog (s : State) (c p : Nat) : Nat :=
  ((s.orderOf c).filter (fun a => a.port == p && a.cls == .g && a.res &&
      (match a.kind with | .full _ => true | _ => false))).length +
    (s.plaza.filter (fun e => e.1 / 2 ^ 40 == c && e.2.gCharge && e.2.writer == p && e.2.st != .clean && !e.2.wbGranted)).length

/-- The entries of port p in a calendar record of channel c. -/
def portCalendar (s : State) (c sub p : Nat) : List (Nat × Nat × Nat) := (calendarEntries s c sub).filter (fun e => e.2.2 == p)

/-- Slot-table entries of port p in the records with a base subindex, over the whole network: (key, value). -/
def portRunsAll (s : State) (base p : Nat) : List (Nat × Nat) :=
  (s.recs.filter (fun e => e.1 % 4 == 3 && bit e.2.toNat 7)).filterMap (fun e =>
    let key := e.1 / 2 ^ 20
    let idx := key / 256
    let sub := key % 256
    let v := ldNat s.recs (e.1 - 3) 4
    if 0x4000 ≤ idx && idx < 0x4040 && base ≤ sub && sub < base + 7 && bits v 10 4 == p then
      some ((idx * 8 + (sub - base)) * 64 + (e.1 % 2 ^ 20) / 4, v) else none)

/-- Port p's positions or chains change under a pending swap (R80, R111): its G requests take the B test. -/
def swapAffects (s : State) (c p : Nat) : Bool :=
  (s.obj (arbIdx c) 1 == 1 && portCalendar s c 0x10 p != portCalendar s c 0x11 p) ||
    (s.obj 0x2000 7 == 1 && portRunsAll s 0x10 p != portRunsAll s 0x20 p)

/-! ### Queue space and holds (R108, R172, R179, R241, R176, R354) -/

/-- Line reads a request needs queued at its channel. -/
def lineReads (cmd len : Nat) : Nat := if isRead cmd then len else if cmd = 0x11 || isAtomic cmd then 1 else 0

/-- Line reads admitted for channel c that have not settled, by port and class: their entries are allocated (R108). -/
def unsettledReads (s : State) (c : Nat) (who : Nat → Bool) (cls : Cls → Bool → Bool) : Nat :=
  ((outstandingFor s c ++ openMembers s c).filter (fun r => who r.port && cls r.cls r.res)).foldl (fun n r => n + lineReads r.cmd r.len) 0 +
    ((s.orderOf c).filter (fun a => who a.port && cls a.cls a.res && !a.engine && (match a.kind with | .full _ => false | _ => true))).length

/-- Served as class B: a B request, or a G request admitted under R27. -/
def asClassB (k : Cls) (res : Bool) : Bool := k == .b || (k == .g && !res)

/-- B entries port p holds on channel c, allocated ones among them (R108). -/
def bHeld (s : State) (c p : Nat) : Nat :=
  ((s.chan c).bq.filter (fun e => e.port == p)).length + unsettledReads s c (fun q => q == p) asClassB

/-- The receiving queue has a free entry for each line read, and a port served as class B holds fewer than BPortEntryLimit
(R108); four of the G read queue are held back (R211). -/
def queueRoom (s : State) (c p : Nat) (cls : Cls) (res : Bool) (n : Nat) : Bool :=
  let ch := s.chan c
  if asClassB cls res then
    decide (bHeld s c p < s.obj (arbIdx c) 7) && (n == 0 || decide (ch.bq.length + unsettledReads s c (fun _ => true) asClassB + n ≤ 512))
  else if n = 0 then true
  else if cls = .u then decide (ch.openU.length + unsettledReads s c (fun _ => true) (fun k _ => k == .u) + n ≤ 64)
  else decide (ch.gRead.length + unsettledReads s c (fun _ => true) (fun k r => k == .g && r) + n ≤ 124)

/-- The order buffer of the slice has an entry for each line of a write or atomic (R172). -/
def orderRoom (s : State) (c lines : Nat) : Bool :=
  let waiting := ((outstandingFor s c ++ openMembers s c).filter (fun r => isWrite r.cmd)).foldl (fun n r => n + reqLines r.cmd r.len) 0
  let held := ((s.orderOf c).filter (fun a => match a.kind with | .rd => false | .raw => false | _ => true)).length
  decide (held + waiting + lines ≤ 32)

/-- Bytes of a frame in the replay store: 48 + 64 × PayloadBlocks (R262, R264). -/
def frameBytesOf (recs : List MRec) : Nat :=
  let m := (recs.filter (fun r => r.op == 1)).length
  48 + 64 * (1 + cdiv (recs.length + m) 4 + recs.length)

/-- Bytes used in the mirror replay store (R179). -/
def replayUsed (s : State) : Nat := s.mirror.replay.foldl (fun n f => n + frameBytesOf f.recs) 0

/-- Bytes of received frames that wait for registration in the same store (R278). -/
def rxUsed (s : State) : Nat :=
  s.mirror.rx.foldl (fun n e => n + (e.2.held ++ e.2.fwd).foldl (fun m f => m + frameBytesOf f.recs) 0) 0

/-- The replay store has room for one frame of the largest size (R179). -/
def replayRoom (s : State) (d : Nat) : Bool :=
  !(s.role d == 1 && (s.dist d).mst == .inSync) || decide (replayUsed s + rxUsed s + 4144 ≤ 2 ^ 21)

/-- Set index of a Plaza line (R170). -/
def plazaSet (l : Nat) : Nat := bits l 8 0 ^^^ bits l 17 9 ^^^ bits l 26 18 ^^^ bits l 32 27

/-- Lines of slice sl in a set: (key, line). -/
def setLines (s : State) (sl set : Nat) : List (Nat × PLine) :=
  s.plaza.filter (fun e => e.2.slice == sl && plazaSet (e.1 % 2 ^ 40) == set)

/-- Ways of a slice's set that are Invalid or Clean, in a range. -/
def freeWays (s : State) (sl set lo hi : Nat) : List Nat :=
  let ls := setLines s sl set
  ((List.range 20).filter (fun w => decide (lo ≤ w) && decide (w < hi))).filter (fun w =>
    ls.all (fun e => e.2.way != w || e.2.st == .clean))

/-- Lend ways for a line of channel c, the slices searched from c + 1 upward (R176): (slice, way). -/
def lendWay (s : State) (c set : Nat) : Option (Nat × Nat) :=
  (List.range 15).findSome? (fun k =>
    let sl := (c + 1 + k) % 16
    ((freeWays s sl set 16 20).head?).map (fun w => (sl, w)))

/-- Channel c holds back its lines: Frozen, Fenced, Absent or Retired (R127, R241, R374). -/
def ChanSt.held : ChanSt → Bool
  | .frozen | .fenced | .absent | .retired => true
  | _ => false

/-- Every line of a write to a held channel has a place in its slice or a lend way (R176), and the quota holds (R241). -/
def pinRoom (s : State) (c l lines : Nat) : Bool :=
  if !(s.chan c).st.held then true
  else
    decide (pinnedBytes s c < s.obj (chIdx 0x3080 c) 0x14) &&
      (List.range lines).all (fun k =>
        (tfind s.plaza (lineKey c (l + k))).isSome || !(freeWays s c (plazaSet (l + k)) 0 20).isEmpty ||
          (lendWay s c (plazaSet (l + k))).isSome)

/-- The frame budget covers n line-times (R354); G is never limited. -/
def capRoom (s : State) (cls : Cls) (n : Nat) : Bool :=
  cls == .g || decide (n * s.obj 0x7011 0x0A ≤ s.sup.budget)

/-! ### The evaluation of a header (R21) -/

/-- What a passing test reserves. -/
structure Grant where
  deadline : Nat
  res : Bool
  unreserved : Bool
  positions : List (Nat × Nat)
  charge : Nat
  deriving DecidableEq, Repr

/-- Why a test failed, where that is counted. -/
inductive Verdict where
  | pass (g : Grant)
  | full
  | cap
  | pin
  | wait
  deriving DecidableEq, Repr

/-- What a write needs besides its class's test: entries of the order buffer (R172), pins (R176, R241), the replay store
(R179), its mirror (R291); the verdict that holds it back. -/
def writeStops (s : State) (c l d cmd len : Nat) : Option Verdict :=
  let lines := reqLines cmd len
  if !isWrite cmd then none
  else if !orderRoom s c lines then some .wait
  else if !pinRoom s c l lines then some .pin
  else if !replayRoom s d || (s.dist d).stopWrites then some .wait
  else none

/-- The admission test of a request of port p that passed the checks of R48, by class (R26-R33). -/
def classTest (s : State) (p c l d : Nat) (h : BitVec 512) (t : Stamp) : Verdict :=
  let cmd := hdrCmd h
  let len := hdrLen h
  let n := lineTimes cmd len
  let cls := s.cls p
  let bBound := lastSlotBy t (s.obj (0x2200 + p) 2)
  let asB := cls == .g && (!chainFits s p c cmd len || swapAffects s c p || (portSlots s c p).isEmpty)
  let gWrite := cls == .g && !asB && cmd == 0x10
  let gRead := cls == .g && !asB && cmd != 0x10
  let res := gWrite || gRead
  match writeStops s c l d cmd len with
  | some v => v
  | none =>
  if (s.chan c).st.held then
    -- no entry of the channel is needed: the class's bound is the deadline (R127, R240, R241, R374; log 23)
    let dl := lastSlotBy t (if cls == .u then s.obj (0x2200 + p) 3 else if gWrite then 120 else s.obj (0x2200 + p) 2)
    let dl := if hdrTwin h then lastSlotBy t (120 + s.obj 0x2000 3) else dl
    .pass { deadline := dl, res := false, unreserved := asB, positions := [], charge := 0 }
  else if !queueRoom s c p cls res (lineReads cmd len) then .full
  else if !capRoom s cls n then .cap
  else
    let late := fun (plain : Nat) => if hdrTwin h then lastSlotBy t (120 + s.obj 0x2000 3) else plain
    if gRead then
      match testG s c p (max 1 (lineReads cmd len)) t with
      | some (dl, pos) => .pass { deadline := late dl, res := true, unreserved := false, positions := pos, charge := 0 }
      | none => .wait
    else if gWrite then
      if gWriteBacklog s c p < s.obj (0x2200 + p) 0x0B then
        .pass { deadline := late (lastSlotBy t 120), res := true, unreserved := false, positions := [], charge := 0 }
      else .wait
    else if cls == .u then
      let dl := lastSlotBy t (s.obj (0x2200 + p) 3)
      if testU s c p n t dl then
        .pass { deadline := late dl, res := false, unreserved := false, positions := [], charge := n }
      else .wait
    else if testB s c p n 0 t bBound then
      .pass { deadline := late bBound, res := false, unreserved := asB, positions := [], charge := if asB then 0 else n }
    else .wait

end Sys2Proof.Machine
end

