-- ==== Sys2Proof/Machine/MirrorTx.lean ====
section
/-! DEFINITION. Mirror transmission (R260-R269): records and open frames, frame bytes under AES-256-GCM, the ports a frame
is sent on, the replay store; responses at a port (R57, R58, R61, R73) and twin-durable waits (R280). -/

namespace Sys2Proof.Machine

/-! ### Frame bytes (R262-R268) -/

/-- A 32-byte frame header. -/
def frameHeader (kind stream session blocks seq : Nat) : List Byte :=
  natLe 1 1 ++ natLe 1 (16 * kind + stream) ++ natLe 2 session ++ natLe 2 blocks ++ natLe 2 0 ++ natLe 8 seq ++
    List.replicate 16 0

/-- The 12-byte IV of a header, most significant byte first (R268, R476). -/
def frameIv (hdr : List Byte) : List Nat :=
  beBytes 2 (leNat ((hdr.drop 2).take 2)) ++ beBytes 1 (leNat ((hdr.drop 1).take 1)) ++ [0] ++
    beBytes 8 (leNat ((hdr.drop 8).take 8))

def toNats (bs : List Byte) : List Nat := bs.map BitVec.toNat
def ofNats (l : List Nat) : List Byte := l.map (BitVec.ofNat 8)

/-- Header, ciphertext and tag. -/
def sealFrame (key : BitVec 256) (hdr payload : List Byte) : List Byte :=
  let k := beBytes 32 key.toNat
  let ct := gcmCrypt k (frameIv hdr) (toNats payload)
  hdr ++ ofNats ct ++ ofNats (gcmTag k (frameIv hdr) (toNats hdr) ct)

/-- The plaintext of a frame whose tag passes. -/
def openFrame (key : BitVec 256) (bytes : List Byte) : Option (List Byte) :=
  let hdr := bytes.take 32
  let ct := toNats ((bytes.drop 32).take (bytes.length - 48))
  let tag := toNats (bytes.drop (bytes.length - 16))
  let k := beBytes 32 key.toNat
  if gcmTag k (frameIv hdr) (toNats hdr) ct = tag then some (ofNats (gcmCrypt k (frameIv hdr) ct)) else none

/-- Descriptor slots of a record (R264). -/
def recordSlots (r : MRec) : List Byte :=
  let op := r.op + (if r.group then 4 else 0) + (if r.durable then 8 else 0)
  natLe 9 r.stamp.word ++ natLe 1 op ++ natLe 5 (r.dline % 2 ^ 38) ++ natLe 1 0 ++
    (if r.op = 1 then natLe 8 r.mask.toNat ++ natLe 8 0 else [])

/-- The payload of a Data frame (R264). -/
def dataPayload (cut : Stamp) (d : Nat) (recs : List MRec) : List Byte :=
  let m := (recs.filter (fun r => r.op == 1)).length
  let nd := cdiv (recs.length + m) 4
  natLe 9 cut.word ++ natLe 1 d ++ natLe 1 recs.length ++ natLe 1 nd ++ List.replicate 52 0 ++
    fit (64 * nd) (recs.flatMap recordSlots) ++ recs.flatMap (fun r => bvBytes r.data)

/-! ### Ports and paths (R261, R275) -/

/-- Up ports of a path from the chosen one upward with wrap: the port a frame goes on. -/
def choosePort (up : List Bool) (path k : Nat) : Option Nat :=
  ((List.range 8).map (fun i => 8 * path + (k + i) % 8)).find? (fun p => up.getD p false)

def txKey (k : LinkKeys) (port : Nat) : BitVec 256 := if port < 8 then k.aTx else k.bTx
def rxKey (k : LinkKeys) (port : Nat) : BitVec 256 := if port < 8 then k.aRx else k.bRx

/-- Hand a frame to the link layer at a port. -/
def sendOn (port : Nat) (hdr payload : List Byte) (s : State) : State :=
  match (if s.sup.squall = .sequencing || s.sup.squall = .awaitSave then none else s.keys.links) with
  | some k => { s with mirror := { s.mirror with sent := tins s.mirror.sent port (sealFrame (txKey k port) hdr payload) } }
  | none => s

/-- Data frames are sent and applied: not from the cut-off until Thawing (R342, R353). -/
def State.mirrorRuns (s : State) : Bool := s.sup.squall == .idle || s.sup.squall == .thawing

/-- Send a frame once on each path; the index chooses the port. -/
def sendPaths (k : Nat) (hdr payload : List Byte) (s : State) : State :=
  let s := match choosePort s.mirror.up 0 k with | some p => sendOn p hdr payload s | none => s
  let s := match choosePort s.mirror.up 1 k with | some p => sendOn p hdr payload s | none => s
  s.addObj 0x6000 0x20 1

/-- Send a Data frame of the replay store. -/
def sendData (f : TxFrame) (s : State) : State :=
  let payload := dataPayload f.cut f.dist f.recs
  if !s.mirrorRuns then s else sendPaths (f.stream + f.seq) (frameHeader 0 f.stream s.vault.session (payload.length / 64) f.seq) payload s

/-! ### Streams (R260, R274) -/

/-- A district feeds its channels' streams (R260, R284). -/
def feeds (s : State) (d : Nat) : Bool :=
  s.role d == 1 && ((s.dist d).mst == .inSync || (s.dist d).mst == .resyncing)

/-- Blocks of a frame with these records. -/
def frameBlocks (recs : List MRec) : Nat :=
  1 + cdiv (recs.length + (recs.filter (fun r => r.op == 1)).length) 4 + recs.length

/-- The CutStamp (R260): H_c, held also by writes and copies that still wait in the order buffer or for a fill, so that
every record stamped earlier lies in this frame or an earlier one (log 26). -/
def cutStamp (s : State) (c : Nat) : Stamp :=
  let writes := fun (l : List Access) => (l.filter (fun a => match a.kind with
      | .rd => a.copy
      | .raw => false
      | _ => true)).map (·.ord)
  let filling := s.plaza.flatMap (fun e => if e.1 / 2 ^ 40 = c then writes e.2.waiting else [])
  match leastBy stampLt (horizonHolds s c ++ writes (s.orderOf c) ++ filling) with
  | some t => t
  | none => s.stampNow 0

/-- A member of the locked sequence of a stamp still waits to be applied. -/
def groupWaits (s : State) (t : Stamp) : Bool :=
  s.order.any (fun e => e.2.any (fun a => a.group && a.ord == t)) || s.plaza.any (fun e => e.2.waiting.any (fun a => a.group && a.ord == t))

/-- A record that an open frame keeps when it closes: its group goes whole into one frame, and is not complete (R260). -/
def keptBack (s : State) (r : MRec) : Bool := r.group && groupWaits s r.stamp

/-- Close the open frame of stream c: number it, put it in the replay store, send it. Records `keep` picks stay open. -/
def closeBut (keep : MRec → Bool) (c : Nat) (s : State) : State :=
  let t := s.tx c
  match (s.chan c).dist with
  | none => s
  | some d =>
    let seq := s.obj (0x6040 + c) 1
    let kept := t.open_.filter keep
    let f : TxFrame := { stream := c, seq := seq, dist := d, cut := cutStamp s c, recs := t.open_.filter (fun r => !keep r), sent := s.cycleNow }
    let s := s.setObj (0x6040 + c) 1 (seq + 1)
    let s := s.setTx c { open_ := kept, since := if kept.isEmpty then 0 else s.cycleNow, lastClose := s.slotNow }
    sendData f { s with mirror := { s.mirror with replay := s.mirror.replay ++ [f] } }

/-- Close the open frame of stream c, but for the records of a group that is not complete. -/
def closeFrame (c : Nat) (s : State) : State := closeBut (keptBack s) c s

/-- The open frame has a record that may go. -/
def readyFrame (s : State) (c : Nat) : Bool := (s.tx c).open_.any (fun r => !keptBack s r)

/-- Add records to the open frame. -/
def addRecords (c : Nat) (recs : List MRec) (s : State) : State :=
  let t := s.tx c
  let since := if t.open_.isEmpty then s.cycleNow else t.since
  s.setTx c { t with open_ := t.open_ ++ recs, since := since }

/-- Append records to stream c's open frame (R260): a frame they do not fit is closed first; a TwinDurable record closes
its own, once the group it belongs to is complete. -/
def appendRecords (c : Nat) (recs : List MRec) (s : State) : State :=
  if recs.isEmpty then s
  else
    let own := fun (r : MRec) => r.group && recs.any (fun x => x.group && x.stamp == r.stamp)
    let s := if 64 < frameBlocks ((s.tx c).open_ ++ recs) then closeBut (fun r => own r || keptBack s r) c s else s
    let s := addRecords c recs s
    if recs.any (fun r => r.durable && !r.group) then closeFrame c s else s

/-- Sequence number the next frame of stream c will carry: the mirror sequence of a write applied now (R171). -/
def nextSeq (s : State) (c : Nat) : Nat := s.obj (0x6040 + c) 1 % 2 ^ 24

/-! ### Responses at a port (R57, R58, R61, R73) -/

/-- Units held in a response buffer; a TIMEOUT is recorded against its tag and takes none (R61). -/
def Port.respUnits (q : Port) : Nat := q.resp.foldl (fun n r => if r.status = 0x30 then n else n + r.units) 0

/-- The response of a tag's use waits in the buffer. -/
def Port.answered (q : Port) (tag : Nat) (t : Stamp) : Bool := q.resp.any (fun r => r.tag == tag && r.stamp == t)

/-- Set a tag's use as lost: it waits for its TIMEOUT. -/
def loseTag (p tag : Nat) (t : Stamp) (s : State) : State :=
  s.modPort p (fun q => { q with tags := q.tags.map (fun u => if u.tag = tag && u.req.stamp == t then { u with lost := true } else u) })

/-- A late response is matched by tag and stamp, dropped and counted (R23). -/
def dropLate (p tag : Nat) (t : Stamp) (s : State) : State :=
  let q := s.port p
  if q.late.contains (tag, t) then
    (s.setPort p { q with late := q.late.filter (fun e => e != (tag, t)) }).addObj (0x2200 + p) 0x0E 1
  else s

/-- Deliver a response to its port's response buffer; one that does not fit is lost (R73). Engines have no tags. -/
def respond (r : Resp) (s : State) : State :=
  if 96 ≤ r.port && r.port != 100 then s
  else
    let q := s.port r.port
    if q.tags.any (fun u => u.tag == r.tag && u.req.stamp == r.stamp && !u.lost) && !q.answered r.tag r.stamp then
      if q.respUnits + r.units ≤ 32 then
        s.setPort r.port { q with resp := q.resp ++ [r] }
      else
        portCause r.port 8 ((loseTag r.port r.tag r.stamp s).addObj (0x2200 + r.port) 0x16 1)
    else dropLate r.port r.tag r.stamp s

/-- Input i of Crossing x is Failed (R84). -/
def linkFailed (s : State) (x i : Nat) : Bool := bit (s.obj (0x4000 + x) 6) i

/-- A link on the way from Crossing x to a destination is Failed (R84). -/
def wayFailed (s : State) (x dest lp : Nat) : Bool :=
  (route x dest lp).any (fun e => decide (e.2 < 4) && (let n := neighbour e.1 e.2; linkFailed s n.1 n.2))

/-- A link on the way from channel c back to port p is Failed (R84). -/
def backFailed (s : State) (p c : Nat) : Bool :=
  match portAt p with
  | none => false
  | some (y, l) => wayFailed s (channelCrossing c) y l

/-- What engine port p asks of channel c on Lane, and the answers to it, have their way: Lane injection is not held (R81) and
no link there or back is Failed (R68, R69, R84; log 34). -/
def laneOpen (s : State) (p c : Nat) : Bool :=
  !s.net.hold.contains 2 && !backFailed s p c &&
    (match portAt p with
     | none => true
     | some (x, _) => !wayFailed s x (channelCrossing c) 1)

/-- A response that channel c sends cannot go straight to its port: Boulevard is held (R81), a link on its way is Failed,
or responses of its channel wait before it. -/
def backHeld (s : State) (b : Back) : Bool :=
  (s.net.hold.contains 1 && !b.chain) || backFailed s b.resp.port b.chan || s.ports.any (fun e => e.2.coming.any (fun x => x.chan == b.chan))

/-- A response on its way back: the channel of its address, and its chain where its request was a reserved one that has
a response chain (R78). -/
def backOf (s : State) (c : Nat) (r : Resp) : Back :=
  { resp := r, chan := c, sent := false
    chain := (s.port r.port).tags.any (fun u => u.tag == r.tag && u.req.stamp == r.stamp && u.req.res) && decide (0 < flowLength s 1 r.port c) }

/-- A slice sends a response (R69, R73). With nothing ahead of it, it reaches the response buffer in the same step (log 30);
else it waits for the network. Engines get none. -/
def sendBack (r : Resp) (s : State) : State :=
  if 96 ≤ r.port && r.port != 100 then s
  else match s.target r.addr with
    | none => respond r s
    | some (c, _) =>
      let r := { r with src := some (channelCrossing c) }
      let b := backOf s c r
      if backHeld s b then s.modPort r.port (fun q => { q with coming := q.coming ++ [b] }) else respond r s

/-- The response of a request with one status for all of it (R58). -/
def plainResp (r : Req) (status : Nat) : Resp :=
  { port := r.port, tag := r.tag, code := respCode r.cmd, status := status, lineStatus := 0, data := [],
    stamp := r.stamp, deadline := r.deadline, addr := r.addr, cls := r.cls, src := none }

/-! ### Twin-durable waits (R280) -/

/-- CumAck has passed a held frame: the store keeps it behind an older unacknowledged one, the mark (R183, R274). -/
def TxFrame.acked (s : State) (f : TxFrame) : Bool := decide (f.seq < s.obj (0x6040 + f.stream) 2)

/-- The held frames that are not acknowledged, in transmission order. -/
def State.unacked (s : State) : List TxFrame := s.mirror.replay.filter (fun f => !f.acked s)

/-- Move the mark to the oldest unacknowledged frame and release everything before it (R183, R274). -/
def releaseReplay (s : State) : State :=
  { s with mirror := { s.mirror with replay := s.mirror.replay.dropWhile (TxFrame.acked s) } }

/-- A record with this stamp is in an open frame or unacknowledged. -/
def recordWaits (s : State) (hit : MRec → Bool) : Bool :=
  s.mirror.tx.any (fun e => e.2.open_.any hit) || s.unacked.any (fun f => f.recs.any hit)

/-- A write of a stamp and a district has not taken effect yet: it waits in an ingress queue, in transit, in an order buffer
or for a fill. -/
def writeWaits (s : State) (hit : Stamp → Nat → Bool) : Bool :=
  let access := fun (a : Access) => hit a.stamp a.dist && !a.engine && (match a.kind with | .rd => false | .raw => false | _ => true)
  let request := fun (r : Req) => isWrite r.cmd && (match s.target r.addr with | some (_, _, d, _) => hit r.stamp d | none => false)
  s.order.any (fun e => e.2.any access) || s.ports.any (fun e => (e.2.waiting).any request) ||
    s.transit.any (fun e => e.2.any request) || s.plaza.any (fun e => e.2.waiting.any access)

/-- The mirror is off: no district is Lead in a state other than Off (R280). -/
def mirrorOff (s : State) : Bool := !([0, 1, 2, 3].any (fun d => s.role d == 1 && (s.dist d).mst != .off))

/-- Answer a waiting response with a status, counting OK_LOCAL_ONLY for its district (R280, R295). A fence, and a write at
its deadline, is answered by its port; an acknowledged write by its slice. -/
def answerWait (w : TwinWait) (status : Nat) (due : Bool) (s : State) : State :=
  let s := noteT w.resp.stamp 6 { s with mirror := { s.mirror with waits := s.mirror.waits.filter (fun v => v != w) } }
  let s := if status = 2 then s.addObj (0x6010 + w.dist) 0x0B 1 else s
  if w.fence || due then respond { w.resp with status := status } s else sendBack { w.resp with status := status } s

/-- What a wait can be answered now: OK once everything it counts is acknowledged, OK_LOCAL_ONLY where a counted
district is Broken. -/
def waitStatus (s : State) (w : TwinWait) : Option Nat :=
  if w.fence then
    let mine := fun (t : Stamp) => t.port == w.resp.port && stampLt t w.resp.stamp
    let broken := w.counted.any (fun d => s.role d == 1 && (s.dist d).mst == .broken)
    if broken then some 2
    else if recordWaits s (fun r => mine r.stamp) || writeWaits s (fun t d => mine t && w.counted.contains d) then none
    else some 0
  else if !feeds s w.dist then some 2
  else if recordWaits s (fun r => r.stamp == w.resp.stamp) || writeWaits s (fun t _ => t == w.resp.stamp) then none
  else some 0

/-- Answer every wait that can be answered. -/
def settleWaits (s : State) : State :=
  s.mirror.waits.foldl (fun t w => match waitStatus t w with
    | some st => answerWait w st false t
    | none => t) s

/-- A response whose request may ask for twin durability (R29, R280). -/
def respondTwin (r : Req) (d : Nat) (resp : Resp) (s : State) : State :=
  if r.twin && (resp.status == 0) then
    if r.alone then sendBack { resp with status := 2 } ((noteT r.stamp 6 s).addObj (0x6010 + d) 0x0B 1)
    else settleWaits { s with mirror := { s.mirror with waits := s.mirror.waits ++ [{ fence := false, resp := resp, dist := d, counted := [] }] } }
  else sendBack resp s

/-! ### Acknowledgement (R171, R274) -/

/-- CumAck of stream c: the mark moves past what is acknowledged, TwinPending clears behind it, waits are looked at. -/
def acknowledge (c n : Nat) (s : State) : State :=
  if n ≤ s.obj (0x6040 + c) 2 then s
  else
    let s := s.setObj (0x6040 + c) 2 n
    let s := releaseReplay s
    let s := { s with plaza := s.plaza.map (fun e =>
        if e.1 / 2 ^ 40 = c && e.2.twinPending && serialLt (2 ^ 24) e.2.seq (n % 2 ^ 24) then
          (e.1, { e.2 with twinPending := false }) else e) }
    settleWaits s

/-- Every frame of a district's streams is acknowledged, none is open. -/
def allAcked (s : State) (d : Nat) : Bool :=
  s.unacked.all (fun f => f.dist != d) &&
    ((s.dist d).desc.channels).all (fun c => (s.tx c).open_.isEmpty)

end Sys2Proof.Machine
end

