-- ==== Sys2Proof/Machine/Plaza.lean ====
section
/-! DEFINITION. The Plaza (R170-R176): order buffers and the horizon, line states, what each access does to its line
(R46), fills and write-backs, mirror records of applied writes (R260), reads a held channel serves from the twin (R240). -/

namespace Sys2Proof.Machine

/-! ### Gathering line results (R58) -/

/-- Data units of a response: one per line of READ, two of READ_RAW. -/
def unitsPerLine (cmd : Nat) : Nat := if cmd = 0x02 then 2 else 1

/-- The response of a gathered request. -/
def gathered (g : Gather) : Resp :=
  let parts := isort (fun a b => decide (a.1 ≤ b.1)) g.parts
  let st := parts.map (fun e => e.2.1)
  let none' := [0x22, 0x31, 0x32].any (fun z => st.all (fun c => c == z)) || st.contains 0x34 || st.contains 0x33
  let ls := parts.foldl (fun v e => v + e.2.1 * 2 ^ (8 * e.1)) 0
  let data := if none' || respCode g.req.cmd == 0x81 then [] else
    parts.flatMap (fun e =>
      if carriesData e.2.1 then e.2.2 else List.replicate (unitsPerLine g.req.cmd) 0)
  { plainResp g.req (overallStatus st) with lineStatus := BitVec.ofNat 64 ls, data := data }

/-- One line of a request has its result. -/
def deliver (t : Stamp) (d k status : Nat) (units : List (BitVec 512)) (s : State) : State :=
  match s.gathers.find? (fun g => g.req.stamp == t) with
  | none => s
  | some g =>
    let g' := { g with parts := (k, status, units) :: g.parts }
    let rest := s.gathers.filter (fun x => x.req.stamp != t)
    if g.n ≤ g'.parts.length then respondTwin g.req d (gathered g') { s with gathers := rest }
    else { s with gathers := g' :: rest }

/-- Deliver an access's result; engines get none. -/
def answer (a : Access) (status : Nat) (units : List (BitVec 512)) (s : State) : State :=
  if a.engine then s else deliver a.stamp a.dist a.k status units s

/-! ### What an access does to a line (R46) -/

/-- Bytes under a mask taken from `new`. -/
def mergeBytes (mask : BitVec 64) (old new : BitVec 512) : BitVec 512 :=
  BitVec.ofNat 512 ((List.range 64).foldl (fun a i =>
    a + bits (if bit mask.toNat i then new.toNat else old.toNat) (8 * i + 7) (8 * i) * 2 ^ (8 * i)) 0)

/-- Replace w bytes at byte o. -/
def putBytes (v : BitVec 512) (o w x : Nat) : BitVec 512 := nodeSet v (8 * o) (8 * w) x

/-- What an access makes of a line: the line after, the old value it returns, whether it changed bytes, and the mirror
record's op and mask. -/
structure Effect where
  line : BitVec 512
  old : BitVec 512
  changed : Bool
  op : Nat
  mask : BitVec 64
  deriving DecidableEq, Repr

def maskOf (o w : Nat) : BitVec 64 := BitVec.ofNat 64 ((2 ^ w - 1) * 2 ^ o)

/-- The atomics (R46). -/
def atomicEffect (cmd off : Nat) (cmp opnd : Nat) (v : BitVec 512) : Effect :=
  let w := atomicBytes cmd
  let old := bits v.toNat (8 * (off + w) - 1) (8 * off)
  let new := if cmd = 0x20 || cmd = 0x21 then (if old = cmp then opnd else old)
    else if cmd = 0x22 then (old + opnd) % 2 ^ 64 else opnd
  let hit := if cmd = 0x20 || cmd = 0x21 then old == cmp else true
  { line := putBytes v off w new, old := BitVec.ofNat 512 old, changed := hit, op := 1, mask := maskOf off w }

def accessEffect (k : AccKind) (v : BitVec 512) : Effect :=
  match k with
  | .rd => { line := v, old := v, changed := false, op := 0, mask := 0 }
  | .raw => { line := v, old := v, changed := false, op := 0, mask := 0 }
  | .full d => { line := d, old := v, changed := true, op := 0, mask := 0 }
  | .masked m d => { line := mergeBytes m v d, old := v, changed := m != 0, op := 1, mask := m }
  | .atomic cmd off c o => atomicEffect cmd off c.toNat o.toNat v

def AccKind.isRead : AccKind → Bool
  | .rd => true
  | .raw => true
  | _ => false

/-- A WRITE_MASKED with an all-zero mask: it changes no byte (R45). -/
def AccKind.noBytes : AccKind → Bool
  | .masked m _ => m == 0
  | _ => false

/-- Side data of a READ_RAW in an Open district (R49). -/
def openSide : BitVec 512 := BitVec.ofNat 512 (2 * 2 ^ 192)

/-- Units an access's answer carries when it is OK; a READ_RAW answered from a line is one of an Open district. -/
def okUnits (k : AccKind) (e : Effect) : List (BitVec 512) :=
  match k with
  | .rd => [e.old]
  | .raw => [e.old, openSide]
  | .atomic _ _ _ _ => [e.old]
  | _ => []

/-! ### Plaza ways (R170, R175, R176) -/

def State.pline (s : State) (c l : Nat) : Option PLine := tfind s.plaza (lineKey c l)
def State.setPline (s : State) (c l : Nat) (x : PLine) : State := { s with plaza := tins s.plaza (lineKey c l) x }
def State.delPline (s : State) (c l : Nat) : State := { s with plaza := tdel s.plaza (lineKey c l) }

def plazaLruKey (sl set : Nat) : Nat := 512 * sl + set

def touchPlaza (sl set w : Nat) (s : State) : State :=
  { s with plazaLru := tput s.plazaLru (plazaLruKey sl set) (plruTouch w 5 1 0 (tget s.plazaLru (plazaLruKey sl set) 0)) 0 }

/-- Ways of a set with a state in `hit`: (way, key). -/
def waysWhere (s : State) (sl set : Nat) (hit : PLine → Bool) : List (Nat × Nat) :=
  (setLines s sl set).filterMap (fun e => if hit e.2 then some (e.2.way, e.1) else none)

/-- The class and charge of a line's write-back (R109): gate traffic of engines, G write-backs, the writer's class. -/
def writeBackClass (s : State) (x : PLine) : Cls := if x.gCharge then .g else s.cls x.writer

/-- Queue space for a write-back (R108). -/
def writeBackRoom (s : State) (c : Nat) (x : PLine) : Bool :=
  let ch := s.chan c
  if gateConfined x.writer then decide (ch.gate.length < 128)
  else match writeBackClass s x with
    | .g => if x.gCharge then decide (ch.gWb.length < 128) else decide (ch.bq.length < 512)
    | .u => decide (ch.openU.length < 64)
    | .b => decide (ch.bq.length < 512)

/-- Enter the write-back of a line in the queue of its charge (R107, R109). -/
def enterWriteBack (c l : Nat) (x : PLine) (s : State) : State :=
  let e := mkEntry s l true .writeBack x.writer (s.borrowedDeadline x.writer) (s.stampNow x.writer)
  let cls := if s.cls x.writer == .g && !x.gCharge then .b else writeBackClass s x
  queueMetaReads cls e x.dist x.dline (enqueue c cls e s)

/-- Queue the write-back of a Dirty line (R109); where its queue is full the line stays Dirty and waits for an entry (R108). -/
def queueWriteBack (c l : Nat) (s : State) : State :=
  match s.pline c l with
  | some x =>
    if x.st == .dirty && !x.wbQueued && !x.wbGranted then
      let s := s.setPline c l { x with wbQueued := true }
      if writeBackRoom s c x then enterWriteBack c l x s else s
    else s
  | none => s

/-- Lines of channel c whose write-back is due and in no queue (R108). -/
def refusedWriteBacks (s : State) (c : Nat) : List (Nat × PLine) :=
  let ch := s.chan c
  let queued := ch.entries.flatMap (fun e => (if e.kind == .writeBack then [e.line] else []) ++ e.group.map (·.line)) ++
    (match ch.lock with | some k => k.rest.map (·.line) | none => [])
  (s.plaza.filter (fun e => e.1 / 2 ^ 40 == c && e.2.st == .dirty && e.2.wbQueued && !e.2.wbGranted &&
    !queued.contains (e.1 % 2 ^ 40))).map (fun e => (e.1 % 2 ^ 40, e.2))

/-- An entry has freed: write-backs that a full queue refused are queued as room allows (R108). -/
def retryWriteBacks (c : Nat) (s : State) : State :=
  (refusedWriteBacks s c).foldl (fun t e => if writeBackRoom t c e.2 then enterWriteBack c e.1 e.2 t else t) s

/-- The least recently used Dirty line of a set goes to write-back (R175). -/
def relieveSet (sl set : Nat) (s : State) : State :=
  let dirty := waysWhere s sl set (fun x => x.st == .dirty && !x.wbQueued && !x.wbGranted)
  if dirty.isEmpty then s
  else
    let tree := tget s.plazaLru (plazaLruKey sl set) 0
    let w := plruVictim tree (fun w => dirty.any (fun e => e.1 == w)) 5 1 0
    match dirty.find? (fun e => e.1 == w) with
    | some (_, key) => queueWriteBack (key / 2 ^ 40) (key % 2 ^ 40) s
    | none => s

/-- Write-back starts when a set's Dirty, Filling and Pinned ways reach PlazaDirtyHigh (R175). -/
def checkDirtyHigh (sl set : Nat) (s : State) : State :=
  let n := (waysWhere s sl set (fun x => x.st != .clean)).length
  if s.obj 0x5100 1 ≤ n then relieveSet sl set s else s

/-- A way for a new line of channel c (R175, R176): an Invalid one, else the least recently used Clean one, else, on a
held channel, a lend way. No way: the set's write-back is asked for. -/
def takeWay (c l : Nat) (s : State) : State × Option (Nat × Nat) :=
  let set := plazaSet l
  let used := setLines s c set
  match (List.range 20).find? (fun w => used.all (fun e => e.2.way != w)) with
  | some w => (s, some (c, w))
  | none =>
    let clean := waysWhere s c set (fun x => x.st == .clean && x.waiting.isEmpty)
    if !clean.isEmpty then
      let w := plruVictim (tget s.plazaLru (plazaLruKey c set) 0) (fun w => clean.any (fun e => e.1 == w)) 5 1 0
      match clean.find? (fun e => e.1 == w) with
      | some (_, key) => ({ s with plaza := tdel s.plaza key }, some (c, w))
      | none => (s, none)
    else if (s.chan c).st.held then
      match lendWay s c set with
      | some (sl, w) =>
        let old := (setLines s sl set).find? (fun e => e.2.way == w)
        (match old with | some e => { s with plaza := tdel s.plaza e.1 } | none => s, some (sl, w))
      | none => (s, none)
    else (relieveSet c set s, none)

/-- A new line for an access, in a way. -/
def newLine (a : Access) (st : PSt) (sl w : Nat) (s : State) : PLine :=
  { st := st, data := 0, valid := 0, wrote := false, wasFilling := false, waiting := [], twinPending := false, seq := 0,
    writer := a.port, gCharge := false, since := s.now.frame, slice := sl, way := w, wbQueued := false, wbGranted := false,
    fillGranted := false, dist := a.dist, dline := a.dline }

/-! ### Applied writes (R109, R171, R260) -/

/-- The mirror record of an applied write. -/
def recordOf (a : Access) (e : Effect) : MRec :=
  { stamp := a.ord, op := e.op, group := a.group, durable := a.twin, dline := a.dline, mask := e.mask,
    data := e.line, tag := a.tag }

/-- A Copy record of a resync: the line as it stands at the copy's stamp (R260, R285). -/
def recordCopy (a : Access) (v : BitVec 512) (s : State) : State :=
  if feeds s a.dist then
    appendRecords a.chan [{ stamp := a.ord, op := 2, group := false, durable := false, dline := a.dline, mask := 0, data := v, tag := 0 }] s
  else s

/-- Record a changed line in its stream (R260): a write of a port, not of an engine; writes admitted while Connecting make the plan a full push (R284). -/
def recordWrite (a : Access) (e : Effect) (s : State) : State :=
  if !e.changed || a.engine then s
  else if feeds s a.dist then
    appendRecords a.chan [recordOf a e] s
  else if s.role a.dist == 1 && (s.dist a.dist).mst == .connecting then s.modDist a.dist (fun x => { x with push := true })
  else s

/-- A group's records lie in one frame; a TwinDurable one among them closes it after the last (R260). -/
def closeDurable (c : Nat) (s : State) : State :=
  if (s.tx c).open_.any (fun r => r.durable && !keptBack s r) then closeFrame c s else s

/-- The line as an applied write leaves it: Dirty (or still Pinned), its writer, its mirror sequence. -/
def writtenLine (a : Access) (e : Effect) (x : PLine) (s : State) : PLine :=
  let mirrored := s.role a.dist == 1 && (s.dist a.dist).mst != .off
  let seq := if (s.tx a.chan).open_.isEmpty then (nextSeq s a.chan + 2 ^ 24 - 1) % 2 ^ 24 else nextSeq s a.chan
  { x with
    st := if x.st == .pinned then .pinned else .dirty
    wasFilling := false
    data := e.line
    wrote := true
    since := if x.st == .clean then s.now.frame else x.since
    writer := a.port
    gCharge := a.cls == .g && a.res
    wbGranted := false
    twinPending := if mirrored && e.changed && !a.engine then true else x.twinPending
    seq := if e.changed && !a.engine then seq else x.seq }

/-- Apply a write or atomic to a line that holds its data, and answer it. -/
def applyToLine (a : Access) (x : PLine) (s : State) : State :=
  let e := accessEffect a.kind x.data
  let s := recordWrite a e s
  let s := s.setPline a.chan a.line (writtenLine a e x s)
  let s := match a.kind with
    | .full _ => if a.engine then s else settleWaits s
    | _ => answer a 0 (okUnits a.kind e) s
  checkDirtyHigh x.slice (plazaSet a.line) (touchPlaza x.slice (plazaSet a.line) x.way s)

/-! ### Fills (R109, R171) -/

/-- The line operations of a locked sequence are one entry of cost 4 (R116, R122): a member's operation joins it. -/
def joinLock (a : Access) (wr : Bool) (e : Entry) (s : State) : State :=
  let m : Member := { line := a.line, wr := wr, enq := s.cycleNow }
  let mine := fun (x : Entry) => x.stamp == a.ord && !x.group.isEmpty
  if (s.chan a.chan).bq.any mine then
    s.modChan a.chan (fun ch => { ch with bq := ch.bq.map (fun x => if mine x then { x with group := x.group ++ [m] } else x) })
  else enqueueB a.chan 4 { e with stamp := a.ord, group := [m] } s

/-- A sampled request whose line operation finds its channel in a low-power state is flagged (R399). -/
def noteWake (a : Access) (s : State) : State := if (s.chan a.chan).pstate == .active then s else flagSample a.stamp 5 s

/-- Queue the fill of a line for an access, charged to its port, and the reads of the metadata it misses (R208). -/
def queueFill (a : Access) (s : State) : State :=
  let e := { mkEntry s a.line false .fill a.port a.deadline a.stamp with gpos := a.gpos }
  let cls := if a.group || (a.cls == .g && !a.res) then .b else a.cls
  let s := noteWake a s
  queueMetaReads cls e a.dist a.dline (if a.group then joinLock a false e s else enqueue a.chan cls e s)

/-- A write member of a locked sequence whose line is Dirty by it: its write-back is the member's line operation (R122). -/
def lockWrite (a : Access) (s : State) : State :=
  match s.pline a.chan a.line with
  | some x =>
    if a.group && !a.engine && x.st == .dirty && !x.wbQueued && !x.wbGranted then
      let e := mkEntry s a.line true .writeBack a.port a.deadline a.ord
      queueMetaReads .b e a.dist a.dline (joinLock a true e (s.setPline a.chan a.line { x with wbQueued := true }))
    else s
  | none => s

/-- The status a held channel gives a read it cannot serve (R240, R244, R374). -/
def heldStatus (st : ChanSt) : Nat := match st with | .frozen => 0x31 | _ => 0x32

/-- The channel holds the line of a module being rebuilt that the cursor has not reached (R293). -/
def notRebuilt (s : State) (c l : Nat) : Bool :=
  (s.chan c).st == .rebuilding &&
    (let p := (s.coordOf c l).pos
     s.obj (0x7100 + (2 * c + p)) 9 == 1 && decide (s.obj (0x6060 + c) 1 ≤ l))

/-- The line lies in a range still to be pulled (R285, R450). -/
def pulling (s : State) (d dline : Nat) : Bool :=
  (s.dist d).pull.any (fun r => decide (r.first ≤ dline / 64) && decide (dline / 64 < r.first + r.count))

/-- A follower's read that its own modules cannot answer (R283): `some true` from the twin, `some false` ABSENT. -/
def followerAway (s : State) (d dline : Nat) : Option Bool :=
  if s.role d == 2 then
    match (s.dist d).mst with
    | .inSync => none
    | .off => none
    | .resyncing => if (s.dist d).push && decide ((s.dist d).pushPage ≤ dline / 64) then some true else none
    | _ => some false
  else none

/-- Send a RemoteRequest and keep it until it is answered (R267, R281). -/
def remoteRequest (purpose d dline lines : Nat) (asOf : Stamp) (deadline c l : Nat) (s : State) : State :=
  let seq := s.mirror.reqSeq
  let dlw := if purpose = 0 then deadlineWord deadline else 2 ^ 32 - 1
  let payload := natLe 9 asOf.word ++ natLe 1 (s.obj (0x6010 + d) 2) ++ natLe 1 lines ++ natLe 1 purpose ++
    natLe 4 dlw ++ natLe 5 (dline % 2 ^ 38) ++ List.replicate 43 0
  let r : RemReq := { seq := seq, purpose := purpose, dist := d, dline := dline, lines := lines, asOf := asOf,
                      deadline := deadline, chan := c, line := l }
  sendPaths seq (frameHeader 2 0 s.vault.session 1 seq) payload
    { s with mirror := { s.mirror with reqSeq := seq + 1, reqs := s.mirror.reqs ++ [r] } }

/-- What a held channel, a rebuilt bay, a range to be pulled (R450) or a follower out of sync makes of an access that misses the Plaza: `none` the
access goes on locally, `some true` the twin serves it, `some false` it is answered ABSENT or FROZEN. -/
def serveAway (s : State) (a : Access) : Option Bool :=
  let st := (s.chan a.chan).st
  let twin := (s.dist a.dist).mst == .inSync && s.keys.links.isSome
  if st.held || notRebuilt s a.chan a.line then some twin
  else if pulling s a.dist a.dline then some (twin || ((s.dist a.dist).mst == .resyncing && s.keys.links.isSome))
  else if a.kind == .rd then followerAway s a.dist a.dline
  else none

/-- Status of an access that nobody can serve (R240, R283, R293). -/
def awayStatus (s : State) (a : Access) : Nat :=
  if (s.chan a.chan).st.held then heldStatus (s.chan a.chan).st else 0x32

/-- Count and answer FROZEN or ABSENT. -/
def answerAway (a : Access) (s : State) : State :=
  let st := awayStatus s a
  let s := if st = 0x31 then s.addObj (chIdx 0x3080 a.chan) 0x0D 1 else s
  answer a st [] s

/-- Bring a line in for an access that misses (R171): Filling, its fill queued, or asked of the twin. `none`: no way. -/
def missLine (a : Access) (s : State) : State × Bool :=
  match serveAway s a with
  | some false => (answerAway a s, true)
  | away =>
    let w := takeWay a.chan a.line s
    match w.2 with
    | none => (w.1, false)
    | some (sl, way) =>
      let s := w.1
      let held := (s.chan a.chan).st.held
      let x := newLine a (if held then .pinned else .filling) sl way s
      let m := match a.kind with | .masked m _ => m | _ => 0
      let d := match a.kind with | .masked m v => mergeBytes m 0 v | _ => 0
      let wrote := !a.kind.isRead
      let x := { x with waiting := [a], valid := m, data := d, wrote := wrote, wasFilling := held,
                        gCharge := wrote && a.cls == .g && a.res }
      let s := touchPlaza sl (plazaSet a.line) way (s.setPline a.chan a.line x)
      let s := match away with
        | some true => remoteRequest 0 a.dist a.dline 1 a.stamp a.deadline a.chan a.line s
        | _ => queueFill a s
      (checkDirtyHigh sl (plazaSet a.line) s, true)

/-! ### Applying one access (R171, R172) -/

/-- A Filling line, or a Pinned one that was Filling: its data is not there yet. -/
def PLine.empty (x : PLine) : Bool := x.st == .filling || (x.st == .pinned && x.wasFilling)

/-- READ_RAW of a line (R49, R222): the stored bytes and the side data as stamp order leaves them; the counters are the
page's own, beside its cursor. -/
def rawUnits (c l d dline : Nat) (s : State) : State × Nat × List (BitVec 512) :=
  let x := (s.dist d).desc
  let r := readDram c l true s
  let side := fun (t : State) =>
    if x.mode = 2 then (t, openSide)
    else
      let b := needLine (.node true d 0 (dline / 64)) d t
      let block := b.2.getD 0
      let m := if x.mode = 0 then needLine (.mac d (dline / 8)) d b.1 else (b.1, some 0)
      let ctr := itemCtr block (dline % 64)
      (m.1, BitVec.ofNat 512 (nodeMajor block % 2 ^ 63 + nodeGen block * 2 ^ 63 + ctr.minor * 2 ^ 64 + nodeCursor block * 2 ^ 72 +
        (if x.mode = 0 then macOf (m.2.getD 0) dline * 2 ^ 128 else 0) + x.mode * 2 ^ 192))
  let sd := side r.1
  match r.2.data with
  | some v => (sd.1, 0, [v, sd.2])
  | none => (sd.1, 0x11, [0, 0])

/-- Write back a Dirty line now, at its grant (R171, R222): done, or waiting for its counters. -/
def writeBackNow (c l : Nat) (s : State) : State × Bool :=
  match s.pline c l with
  | some x => storeData x.writer c l x.dist x.dline x.data s
  | none => (s, false)

/-- Settle a read against its line (R172). -/
def applyRead (a : Access) (s : State) : State × Bool :=
  match s.pline a.chan a.line with
  | some x =>
    if x.empty then
      (countChan a.chan 0x18 1 none (s.setPline a.chan a.line { x with waiting := x.waiting ++ [a] }), true)
    else
      let s := flagSample a.stamp 0 (noteT a.stamp 3 (countChan a.chan 0x17 1 none s))
      let s := if a.copy then recordCopy a x.data s else s
      (touchPlaza x.slice (plazaSet a.line) x.way (answer a 0 (okUnits a.kind (accessEffect a.kind x.data)) s), true)
  | none =>
    let m := missLine a s
    (if m.2 then countChan a.chan 0x18 1 none m.1 else m.1, m.2)

/-- READ_RAW of a line the channel cannot read (R59, R240): in an Open district, whose stored bytes are its data, as a read
is served; else nothing holds its ciphertext and it is answered FROZEN or ABSENT. -/
def rawAway (a : Access) (s : State) : State × Bool :=
  if (s.dist a.dist).desc.mode = 2 then applyRead a s else (answerAway a s, true)

/-- Settle a READ_RAW (R222): the line's write-back first, then what DRAM holds; its line read is queued. It waits behind an
earlier write that waits for the line's fill (R18). -/
def applyRaw (a : Access) (s : State) : State × Bool :=
  if (s.chan a.chan).st.held || notRebuilt s a.chan a.line || pulling s a.dist a.dline then rawAway a s
  else if (match s.pline a.chan a.line with | some x => x.empty && x.waiting.any (fun w => !w.kind.isRead) | none => false) then (s, false)
  else
    let dirty : Bool := match s.pline a.chan a.line with | some x => x.st == .dirty | none => false
    let w := if dirty then writeBackNow a.chan a.line s else (s, true)
    if !w.2 then (w.1, false)
    else
      let s := match w.1.pline a.chan a.line with
        | some x => if dirty then w.1.setPline a.chan a.line { x with st := .clean, wrote := false } else w.1
        | none => w.1
      let cls := if a.cls == .g && !a.res then .b else a.cls
      let s := queueMetaReads cls (mkEntry s a.line false .fill a.port a.deadline a.stamp) a.dist a.dline (noteWake a s)
      let r := rawUnits a.chan a.line a.dist a.dline s
      let e := { mkEntry r.1 a.line false (.raw a.tag a.k r.2.1 r.2.2) a.port a.deadline a.stamp with gpos := a.gpos }
      (enqueue a.chan cls e r.1, true)

/-- Apply a write or atomic to its line (R171). -/
def applyWrite (a : Access) (s : State) : State × Bool :=
  if !a.engine && s.isSealed a.dist a.dline a.stamp && !(match a.kind with | .full _ => true | _ => false) then
    (answer a 0x22 [] s, true)
  else if a.kind.noBytes then (answer a 0 [] s, true)
  else
    match s.pline a.chan a.line with
    | some x =>
      if x.empty then
        if x.waiting.any (fun w => w.kind.isRead) then (s, false)
        else match a.kind with
          | .full _ => (lockWrite a (applyToLine a { x with st := if x.st == .pinned then .pinned else .dirty } s), true)
          | .masked m v =>
            (s.setPline a.chan a.line { x with waiting := x.waiting ++ [a], wrote := true, valid := x.valid ||| m,
                                               data := mergeBytes m x.data v }, true)
          | _ => (s.setPline a.chan a.line { x with waiting := x.waiting ++ [a], wrote := true }, true)
      else (lockWrite a (applyToLine a x (countChan a.chan 0x17 1 none s)), true)
    | none =>
      let s := countChan a.chan 0x18 1 none s
      match a.kind with
      | .full _ =>
        let w := takeWay a.chan a.line s
        match w.2 with
        | none => (w.1, false)
        | some (sl, way) =>
          let st : PSt := if (s.chan a.chan).st.held then .pinned else .dirty
          (lockWrite a (applyToLine a (newLine a st sl way w.1) w.1), true)
      | _ => missLine a s

/-- Apply one access; `false` leaves it in the order buffer. -/
def applyAccess (a : Access) (s : State) : State × Bool :=
  match a.kind with
  | .rd => applyRead a s
  | .raw => applyRaw a s
  | _ => applyWrite a s

/-- Go through the order buffer in stamp order: an access settles once its stamp is earlier than the horizon and no
earlier one of its line still waits (R172). `kept` are the ones passed over. -/
def settleAll (c : Nat) (h : Stamp) : List Access → List Access → State → State
  | [], kept, s => settleWaits { s with order := tput s.order c kept [] }
  | a :: rest, kept, s =>
    if stampLt a.ord h && !(kept.any (fun b => b.line == a.line)) then
      let r := applyAccess a { s with order := tput s.order c (kept ++ rest) [] }
      let t := if a.group && r.2 then closeDurable c r.1 else r.1
      if r.2 then settleAll c h rest kept t else settleAll c h rest (kept ++ [a]) t
    else settleAll c h rest (kept ++ [a]) s

/-- H_c moves: reads settle, writes apply (R172). -/
def advanceHorizon (c : Nat) (s : State) : State :=
  let waiting := s.orderOf c
  if waiting.isEmpty then s else settleAll c (horizon s c) waiting [] s

/-- Put an access in its slice's order buffer, by its ordering stamp. -/
def enterOrder (a : Access) (s : State) : State :=
  let le := fun (x y : Access) => stampLt x.ord y.ord || (x.ord == y.ord && (stampLt x.stamp y.stamp || (x.stamp == y.stamp && decide (x.k ≤ y.k))))
  { s with order := tput s.order a.chan (sortedInsert le a (s.orderOf a.chan)) [] }

/-! ### Fill completion (R171) -/

/-- Execute the accesses that waited for a fill, in stamp order, on the line's data: the line after, and the answers. -/
def replayWaiting (status : Nat) : List Access → BitVec 512 → State → State × BitVec 512
  | [], v, s => (s, v)
  | a :: rest, v, s =>
    let e := accessEffect a.kind v
    let s := noteLine a.stamp a.kind.isRead (if status = 1 then flagSample a.stamp 2 s else s)
    let s := if a.kind.isRead then (if a.copy then recordCopy a v s else s) else recordWrite a e s
    let st := if a.kind.isRead then status else 0
    replayWaiting status rest e.line (answer a st (okUnits a.kind e) s)

/-- The fill of a Filling line returns its data, locally (status OK) or from the twin (OK_REMOTE). -/
def fillOk (c l : Nat) (v : BitVec 512) (status : Nat) (s : State) : State :=
  match s.pline c l with
  | none => s
  | some x =>
    let r := replayWaiting status x.waiting v s
    let s := r.1
    if x.empty then
      let wrote := x.waiting.any (fun a => !a.kind.isRead)
      let seq := if (s.tx c).open_.isEmpty then (nextSeq s c + 2 ^ 24 - 1) % 2 ^ 24 else nextSeq s c
      let mirrored := x.waiting.any (fun a => !a.kind.isRead && !a.engine) && s.role x.dist == 1 && (s.dist x.dist).mst != .off
      let last := (x.waiting.filter (fun a => !a.kind.isRead)).getLast?
      let y := { x with
        st := if wrote then (if x.st == .pinned then .pinned else .dirty) else .clean
        wasFilling := false
        data := r.2
        valid := 0
        wrote := wrote
        waiting := []
        since := s.now.frame
        fillGranted := false
        writer := match last with | some a => a.port | none => x.writer
        gCharge := match last with | some a => a.cls == .g && a.res | none => false
        twinPending := mirrored
        seq := seq }
      checkDirtyHigh x.slice (plazaSet l) (settleWaits (closeDurable c (s.setPline c l y)))
    else settleWaits (closeDurable c (s.setPline c l { x with waiting := [], fillGranted := false }))

/-- Accesses in the order buffer that a failed fill of their line answers too: those before the first full-line write that
waits there behind it (R171). -/
def failedBehind (s : State) (c l : Nat) (x : PLine) : List Access :=
  let mine := (s.orderOf c).filter (fun a => a.line == l && stampLt a.ord (horizon s c))
  let full := fun (a : Access) => match a.kind with | .full _ => true | _ => false
  if x.empty && mine.any full then mine.takeWhile (fun a => !full a) else []

/-- The fill returns an error status: every access that waited is answered with it, and the line is Invalid, or stays
as a full-line write left it (R171, R237). -/
def fillError (c l status : Nat) (s : State) : State :=
  match s.pline c l with
  | none => s
  | some x =>
    let behind := failedBehind s c l x
    let s := { s with order := tput s.order c ((s.orderOf c).filter (fun a => !behind.contains a)) [] }
    let s := (x.waiting ++ behind).foldl (fun t a =>
      let t := if status = 0x31 then t.addObj (chIdx 0x3080 c) 0x0D 1 else t
      let units := match a.kind with | .masked _ _ => [] | _ => [0]
      answer a status units (noteLine a.stamp a.kind.isRead t)) s
    closeDurable c (if x.empty then s.delPline c l else s.setPline c l { x with waiting := [], fillGranted := false })

/-- A fill of line l of channel c returns (R208, R171). -/
def completeFill (c l : Nat) (s : State) : State :=
  match s.pline c l with
  | none => s
  | some x =>
    let port := match x.waiting.head? with | some a => a.port | none => x.writer
    let r := fillLine c l x.dist x.dline port s
    let s := match r.2 with
      | .data v => fillOk c l v 0 r.1
      | .poison => fillError c l 0x10 r.1
      | .integrity => fillError c l 0x12 r.1
      | .uncorrectable => fillError c l 0x11 r.1
    advanceHorizon c s

end Sys2Proof.Machine
end

