-- ==== Sys2Proof/Machine/MirrorState.lean ====
section
/-! DEFINITION. Mirror states and their changes (R258, R259, R283-R291): pairing, Broken and Conflict, sessions (R269,
R284), promotion and demotion, the apply horizon (R277, R278), acknowledgements and Hellos sent (R265, R266, R273). -/

namespace Sys2Proof.Machine

/-- The 48-bit provisioned ID (R406). -/
def provisionedId (s : State) : Nat :=
  0x3C6 * 2 ^ 33 + 0xD016 * 2 ^ 16 + s.blk.inst % 16 * 2 ^ 12 + Config.serialLow % 2 ^ 12

def State.twinOf (s : State) (d : Nat) : Nat := s.obj (0x6010 + d) 2
def State.peer (s : State) (d : Nat) : PeerDist := s.mirror.peers.getD d { role := 0, twin := 0, mst := 0, epoch := 0, limit := 0 }
def State.dataLimit (s : State) (d : Nat) : Nat := (s.dist d).desc.limit
def State.dataPages (s : State) (d : Nat) : Nat := s.dataLimit d / 4096
def State.leadEpoch (s : State) (d : Nat) : Nat := s.vault.leadEpochs.getD d 0

/-- Change LeadEpoch, in the vault header too (R289). -/
def setLeadEpoch (d n : Nat) (s : State) : State :=
  publishVault (writeVault { s with vault := { s.vault with leadEpochs := set4 s.vault.leadEpochs d (n % 2 ^ 32) } })

/-! ### Frames of a district (R276, R283) -/

/-- Remove a district's frames from the replay store, with its open frames. -/
def removeFrames (d : Nat) (s : State) : State :=
  let s := releaseReplay { s with mirror := { s.mirror with replay := s.mirror.replay.filter (fun f => f.dist != d) } }
  (s.dist d).desc.channels.foldl (fun t c => t.setTx c { (t.tx c) with open_ := [] }) s

/-- Requests left unanswered: reads are answered as without a twin, the engines meet their lines again (R281). -/
def dropRequests (d : Nat) (s : State) : State :=
  let mine := s.mirror.reqs.filter (fun r => r.dist == d)
  let s := { s with mirror := { s.mirror with reqs := s.mirror.reqs.filter (fun r => r.dist != d) } }
  mine.foldl (fun t r =>
    if r.purpose = 0 then fillError r.chan r.line (heldStatus (t.chan r.chan).st) t else t) s

/-- Repairs of a district go on by marking once its mirror has left sync (R250). -/
def repairsMark (d : Nat) (s : State) : State :=
  { s with repair := s.repair.map (fun e =>
      if e.2.state == 2 && e.2.dist == d then (e.1, { e.2 with state := 3 }) else e) }

/-- The district leaves InSync. -/
def leaveSync (d : Nat) (s : State) : State := repairsMark d (dropRequests d s)

/-- Enter Broken (R276, R283). -/
def breakMirror (d reason : Nat) (s : State) : State :=
  let s := leaveSync d (removeFrames d (s.modDist d (fun x => { x with mst := .broken, demoting := false, stopWrites := false })))
  let s := ((s.setObj (0x6010 + d) 4 reason).addObj (0x6010 + d) 0x0D 1).raise 0x039
  settleWaits s

/-- Enter Conflict (R283). -/
def enterConflict (d reason : Nat) (s : State) : State :=
  ((s.modDist d (fun x => { x with mst := .conflict, mismatch := false })).setObj (0x6010 + d) 4 reason).raise 0x03E

/-- Enter InSync (R283): the plan is done. -/
def enterInSync (d : Nat) (s : State) : State :=
  let s := s.modDist d (fun x => { x with mst := .inSync, pull := [], push := false, pushPage := 0, mismatch := false })
  (((s.setObj (0x6010 + d) 4 0).setObj (0x6010 + d) 7 0)).raise 0x038

/-- Pages of a plan (R285). -/
def planPages (s : State) (d : Nat) : Nat :=
  let x := s.dist d
  (x.pull.foldl (fun n r => n + r.count) 0) + (if x.push then s.dataPages d else 0)

/-- Enter Resyncing with the plan as it stands (R285, R286). -/
def enterResync (d : Nat) (s : State) : State :=
  let x := s.dist d
  let s := s.setDist d { x with mst := .resyncing, mismatch := false }
  ((s.setObj (0x6010 + d) 7 (if !x.pull.isEmpty then 2 else if x.push then 1 else 0)).setObj (0x6010 + d) 8
    (if x.pull.isEmpty then x.pushPage else 0)).setObj (0x6010 + d) 9 (planPages s d)

/-- A copy of the district waits to be read or recorded (R260). -/
def copiesPending (s : State) (d : Nat) : Bool :=
  s.order.any (fun e => e.2.any (fun a => a.copy && a.dist == d)) ||
    s.plaza.any (fun e => e.2.waiting.any (fun a => a.copy && a.dist == d))

/-- The plan is complete and every copy record acknowledged: InSync (R283). -/
def checkResync (d : Nat) (s : State) : State :=
  let x := s.dist d
  if x.mst == .resyncing && x.pull.isEmpty && !x.push && !copiesPending s d && allAcked s d &&
      !(s.mirror.reqs.any (fun r => r.dist == d && r.purpose == 3)) then enterInSync d s
  else s

/-! ### Sessions (R269, R284) -/

/-- Put every mirrored district in Off for want of session epochs (R269). -/
def sessionsExhausted (s : State) : State :=
  let s := { s with mirror := { s.mirror with started := false } }
  forN 4 s (fun d t =>
    if t.role d = 0 then t
    else (removeFrames d (t.modDist d (fun x => { x with mst := .off }))).setObj (0x6010 + d) 4 7)

/-- Start a transmit session: its epoch in the vault header before any frame (R269). -/
def startSession (s : State) : State :=
  if 65535 ≤ s.vault.session then sessionsExhausted s
  else
    let s := writeVault { s with vault := { s.vault with session := s.vault.session + 1 } }
    let s := forN 16 s (fun c t => (t.setObj (0x6040 + c) 1 0).setObj (0x6040 + c) 2 0)
    let s := { s with mirror := { s.mirror with started := true, ackSeq := 0, reqSeq := 0, respSeq := 0, helloSeq := 0 } }
    s.setObj 0x6000 2 s.vault.session

/-- Number the held frames of each stream anew from 0, in order; lines that wait for them follow (R284). -/
def renumber (old : List TxFrame) : List TxFrame → List TxFrame
  | [] => []
  | f :: rest =>
    { f with seq := (old.filter (fun g => g.stream == f.stream && decide (g.seq < f.seq))).length } :: renumber old rest

/-- The peer's session changed while districts are InSync (R284): a new session, every unacknowledged frame again. -/
def reframe (s : State) : State :=
  let old := s.unacked
  let new := renumber old old
  let next := fun (c : Nat) => (old.filter (fun f => f.stream == c)).length
  let was := fun (c : Nat) => s.obj (0x6040 + c) 1
  let seqOf := fun (c q : Nat) =>
    match old.find? (fun f => f.stream == c && f.seq % 2 ^ 24 == q) with
    | some f => (old.filter (fun g => g.stream == c && decide (g.seq < f.seq))).length % 2 ^ 24
    | none => if was c % 2 ^ 24 = q then next c else q
  let s := { s with plaza := s.plaza.map (fun e =>
      if e.2.twinPending then (e.1, { e.2 with seq := seqOf (e.1 / 2 ^ 40) e.2.seq }) else e) }
  let s := startSession s
  if !s.mirror.started then s
  else
    let s := forN 16 s (fun c t => t.setObj (0x6040 + c) 1 (next c))
    let s := { s with mirror := { s.mirror with replay := new.map (fun f => { f with sent := s.cycleNow }) } }
    let s := new.foldl (fun t f => sendData f t) s
    forN 4 s (fun d t => if t.role d = 1 && (t.dist d).mst == .inSync then checkResync d (enterResync d (leaveSync d t)) else t)

/-! ### Sending Hellos and Acks (R265, R266, R273) -/

/-- The Hello payload (R266). -/
def helloPayload (s : State) : List Byte :=
  natLe 6 (provisionedId s) ++ natLe 2 0 ++
    (List.range 4).flatMap (fun d => natLe 1 (s.role d + 4 * s.twinOf d + 16 * (s.dist d).mst.code)) ++ natLe 4 0 ++
    (List.range 4).flatMap (fun d => natLe 4 (s.leadEpoch d)) ++
    (List.range 4).flatMap (fun d => natLe 8 (s.dataLimit d))

/-- Send a Hello on every mirror port. -/
def sendHello (s : State) : State :=
  if s.mirror.started then
    let hdr := frameHeader 4 0 s.vault.session 1 s.mirror.helloSeq
    let pl := helloPayload s
    let s := forN 16 s (fun p t => sendOn p hdr pl t)
    { s with mirror := { s.mirror with helloSeq := s.mirror.helloSeq + 1 } }.addObj 0x6000 0x20 1
  else s

/-- The local Follower district that a receive stream feeds (R277). -/
def followerOf (s : State) (k : Nat) : Option Nat :=
  [0, 1, 2, 3].find? (fun d => s.role d == 2 && s.twinOf d == (s.rx k).dist && (s.rx k).cut.isSome)

/-- CumAck of stream k as the receiver reports it (R265, R278). -/
def cumAck (s : State) (k : Nat) : Nat := if (followerOf s k).isSome then (s.rx k).cum else 0

/-- A gap entry for a Nak (R272): first, count. -/
def gapOf (s : State) (k : Nat) : Option (Nat × Nat) :=
  let n := s.obj (0x6040 + k) 3
  match leastBy (fun (a b : Nat) => decide (a < b)) ((s.rx k).held.map (·.seq)) with
  | some m => if n < m then some (n, m - n) else none
  | none => none

/-- Send an Ack with up to four Nak entries (R265, R272). -/
def sendAck (naks : List (Nat × Nat × Nat)) (s : State) : State :=
  if s.mirror.started then
    let use := naks.take 4
    let entry := fun (x : Nat × Nat × Nat) => natLe 1 x.1 ++ natLe 1 0 ++ natLe 2 x.2.2 ++ natLe 4 0 ++ natLe 8 x.2.1
    let payload := (List.range 16).flatMap (fun k => natLe 8 (cumAck s k)) ++ fit 64 (use.flatMap entry)
    let n := s.mirror.ackSeq
    let s := forN 16 s (fun k t => t.setObj (0x6040 + k) 4 (cumAck s k))
    let s := sendPaths n (frameHeader 1 0 s.vault.session 3 n) payload { s with mirror := { s.mirror with ackSeq := n + 1 } }
    s.addObj 0x6000 0x28 use.length
  else s

/-! ### The apply horizon (R277-R279) -/

/-- A_d as the accepted frames give it now: the earliest of the streams' latest CutStamps. -/
def applyCut (s : State) (d : Nat) : Option Stamp :=
  leastBy stampLt (((List.range 16).filter (fun k => followerOf s k == some d)).filterMap (fun k => (s.rx k).cut))

/-- The accesses of a record on the follower (R277). -/
def applyAccessOf (s : State) (d : Nat) (r : MRec) : Access :=
  let q := (s.dist d).desc.place (64 * r.dline) 0
  { port := 96, tag := r.tag, stamp := r.stamp, ord := r.stamp, deadline := s.borrowedDeadline 96, chan := q.1, line := q.2,
    dist := d, gpos := none, dline := r.dline, k := 0,
    kind := if r.op = 1 then .masked r.mask r.data else .full r.data,
    cls := .u, res := false, twin := false, group := r.group, engine := true, copy := false }

/-- A Copy record registered on a Resyncing follower: the pages before it are done (R283, R285). -/
def noteCopy (d : Nat) (r : MRec) (s : State) : State :=
  if r.op = 2 && (s.dist d).mst == .resyncing && (s.dist d).push then
    let page := r.dline / 64
    let s := (s.modDist d (fun x => { x with pushPage := page })).setObj (0x6010 + d) 8 page
    if r.dline + 1 = 64 * s.dataPages d then
      checkResync d ((s.modDist d (fun x => { x with push := false })).setObj (0x6010 + d) 8 (s.dataPages d))
    else s
  else s

/-- Take the records stamped before A out of the streams of a district: (record, stream), in lead-stamp order, with those
of one stamp in frame order. -/
def takeRecords (s : State) (d : Nat) (a : Stamp) : List MRec :=
  let all := (List.range 16).flatMap (fun k => if followerOf s k == some d then (s.rx k).fwd.flatMap (·.left) else [])
  isort (fun x y => stampLe x.stamp y.stamp) (all.filter (fun r => stampLt r.stamp a))

/-- Frames at the front of a stream that are registered whole leave it; CumAck passes them (R278). -/
def passFrames (next : Nat) : List RxFrame → Nat × List RxFrame × Bool
  | [] => (next, [], false)
  | f :: rest =>
    if f.left.isEmpty then let r := passFrames next rest; (r.1, r.2.1, r.2.2 || f.recs.any (·.durable))
    else (f.seq, f :: rest, false)

/-- Advance CumAck of stream k; the answer says whether it passed a TwinDurable record. -/
def advanceCum (k : Nat) (s : State) : State × Bool :=
  let r := passFrames (s.obj (0x6040 + k) 3) (s.rx k).fwd
  (s.setRx k { (s.rx k) with cum := r.1, fwd := r.2.1 }, r.2.2)

/-- The apply horizon of district d advances and the records before it are registered (R277); an Ack goes out at once
where a TwinDurable record is among them (R273). The records go to port 96 on Lane, so none is taken while Lane injection is
held (R69, R81). -/
def applyHorizon (d : Nat) (s : State) : State :=
  match (if s.mirrorRuns && !s.net.hold.contains 2 then applyCut s d else none) with
  | none => s
  | some cut =>
    let a := stampMax (s.dist d).applyA cut
    let recs := takeRecords s d a
    let s := (s.modDist d (fun x => { x with applyA := a })).setObj (0x6010 + d) 0x0A a.word
    let streams := (List.range 16).filter (fun k => followerOf s k == some d)
    let s := streams.foldl (fun t k =>
      t.setRx k { (t.rx k) with fwd := (t.rx k).fwd.map (fun f => { f with left := f.left.filter (fun r => !stampLt r.stamp a) }) }) s
    let s := recs.foldl (fun t r => enterOrder (applyAccessOf t d r) t) s
    let s := (s.dist d).desc.channels.foldl (fun t c => advanceHorizon c t) s
    let s := recs.foldl (fun t r => noteCopy d r t) s
    let r := streams.foldl (fun (x : State × Bool) k => let y := advanceCum k x.1; (y.1, x.2 || y.2)) (s, false)
    if r.2 then sendAck [] r.1 else r.1

/-! ### Roles (R258, R283, R288-R290) -/

/-- A change of role raises MirrorRoleChanged (R289). -/
def setRole (d role : Nat) (s : State) : State := (s.setObj (0x6010 + d) 1 role).raise 0x03D

/-- What a district's receive streams hold is discarded. -/
def discardRx (d : Nat) (s : State) : State :=
  forN 16 s (fun k t => if (t.rx k).dist = s.twinOf d then t.setRx k { (t.rx k) with held := [], fwd := [] } else t)

/-- Promote a Follower district (R289). -/
def promoteDistrict (d : Nat) (s : State) : State :=
  let s := applyHorizon d s
  let whole := (List.range 16).all (fun k => (s.rx k).dist != s.twinOf d || ((s.rx k).held.isEmpty && (s.rx k).fwd.all (fun f => f.left.isEmpty)))
  let s := setLeadEpoch d (s.leadEpoch d + 1) (discardRx d s)
  let p := s.peer (s.twinOf d)
  let ok := s.mirror.havePeer && p.role == 2 && decide (p.epoch ≤ s.leadEpoch d) && whole
  let s := setRole d 1 (s.modDist d (fun x => { x with stopWrites := true, demoting := false }))
  if ok then (if (s.dist d).mst == .inSync then s else enterInSync d s)
  else breakMirror d 3 s |>.modDist d (fun x => { x with stopWrites := true })

/-- A lead whose twin is Lead with a higher LeadEpoch (R290). -/
def yieldLead (d epoch : Nat) (s : State) : State :=
  let s := setLeadEpoch d epoch s
  let s := setRole d 2 s
  let s := breakMirror d 4 s
  s.modDist d (fun x => { x with push := true, pushPage := 0 })

/-- A role takes effect (R283); while no session may start it stays Off, and MirrorReason reads 7 (R269). -/
def roleEffect (d : Nat) (s : State) : State :=
  if s.role d = 0 then
    settleWaits (leaveSync d (removeFrames d (s.modDist d (fun x => { x with mst := .off, demoting := false, stopWrites := false }))))
  else if (s.dist d).mst == .off then
    (if s.keys.links.isSome && s.mirror.started then
      (s.modDist d (fun x => { x with mst := .connecting, mismatch := false, pairedHello := false })).setObj (0x6010 + d) 4 0
     else if s.keys.links.isSome && decide (65535 ≤ s.vault.session) then s.setObj (0x6010 + d) 4 7
     else s)
  else if (s.dist d).mst == .conflict then s.modDist d (fun x => { x with mst := .connecting, mismatch := false, pairedHello := false })
  else s

/-! ### Pairing (R259, R283) -/

/-- The identity of the twin is accepted. -/
def peerIdOk (s : State) : Bool := s.obj 0x6000 0x10 == 0 || s.obj 0x6000 0x10 == s.obj 0x6000 1

/-- The twin's district pairs with d (R259). -/
def pairs (s : State) (d : Nat) : Bool :=
  let p := s.peer (s.twinOf d)
  p.role + s.role d == 3 && p.role != 0 && p.twin == d && p.limit == s.dataLimit d && peerIdOk s

/-- A pairing mismatch that the sixteen-interval rule of R283 counts. -/
def mismatched (s : State) (d : Nat) : Bool :=
  let p := s.peer (s.twinOf d)
  p.twin != d || p.role == 0 || !peerIdOk s

/-- What a Hello of the twin makes of district d (R283, R290); `changed` says its role, TwinDistrict or identity differs
from the last one's. -/
def pairDistrict (changed : Bool) (d : Nat) (s : State) : State :=
  let p := s.peer (s.twinOf d)
  let st := (s.dist d).mst
  if st == .off then s
  else if s.role d = 1 && p.role = 1 && p.twin = d && s.leadEpoch d < p.epoch then yieldLead d p.epoch s
  else match st with
    | .connecting =>
      let s := s.modDist d (fun x => { x with mismatch := mismatched s d && (x.mismatch || !x.pairedHello), pairedHello := true })
      if mismatched s d then s
      else if s.role d = 1 && p.role = 1 && p.epoch = s.leadEpoch d then enterConflict d 5 s
      else if s.role d = 2 && p.role = 2 then enterConflict d 8 s
      else if p.limit != s.dataLimit d then enterConflict d 6 s
      else if pairs s d then
        (if (s.dist d).pull.isEmpty && !(s.dist d).push then enterInSync d s else enterResync d s)
      else s
    | .inSync => if pairs s d then s else breakMirror d 4 s
    | .resyncing => if pairs s d then s else breakMirror d 4 s
    | .broken =>
      if pairs s d then
        s.modDist d (fun x => { x with mst := .connecting, push := true, pushPage := 0, pull := [], mismatch := false, pairedHello := false })
      else s
    | .conflict => if changed then s.modDist d (fun x => { x with mst := .connecting, mismatch := false, pairedHello := false }) else s
    | .off => s

/-- A lead's demotion ends once nothing of the district waits (R288). -/
def finishDemote (d : Nat) (s : State) : State :=
  let writing := s.order.any (fun e => e.2.any (fun a => a.dist == d && !a.kind.isRead && !a.engine))
  if (s.dist d).demoting && allAcked s d && !writing then
    sendHello (setRole d 2 (s.modDist d (fun x => { x with demoting := false, stopWrites := false })))
  else s

/-! ### Serving the twin (R267, R282) -/

/-- A purpose 0 request has 80 ns or less to its deadline (R282). -/
def serveLate (s : State) (v : Serve) : Bool := v.purpose == 0 && serialLe cycleMod ((40 * v.deadline + cycleMod - 160) % cycleMod) s.cycleNow

/-- Purposes the server answers in its mirror state (R282, R283, R285; log 37). -/
def servable (s : State) (v : Serve) : Bool :=
  match (s.dist v.dist).mst with
  | .inSync => true
  | .resyncing => v.purpose == 0 || v.purpose == 3
  | _ => false

/-- A line the server answers without a line read: beyond DataLimit, held by the Plaza, or on a channel that cannot read it
(R240, R282). -/
def serveHere (s : State) (d dline : Nat) : Option (Nat × BitVec 512) :=
  let q := (s.dist d).desc.place (64 * dline) 0
  if (s.dist d).desc.limit ≤ 64 * dline then some (0x32, 0)
  else match (s.pline q.1 q.2).filter (fun x => !x.empty) with
    | some x => some (0, x.data)
    | none => if (s.chan q.1).st.held || notRebuilt s q.1 q.2 then some (heldStatus (s.chan q.1).st, 0) else none

/-- A line read for the twin returns: plaintext, or its status (R282). -/
def serveRead (p d dline : Nat) (s : State) : State × Nat × BitVec 512 :=
  match serveHere s d dline with
  | some r => (s, r)
  | none =>
    let q := (s.dist d).desc.place (64 * dline) 0
    let r := fillLine q.1 q.2 d dline p s
    match r.2 with
    | .data v => (r.1, 0, v)
    | .poison => (r.1, 0x10, 0)
    | .integrity => (r.1, 0x12, 0)
    | .uncorrectable => (r.1, 0x11, 0)

/-- The requester a served read is charged to (R282). -/
def Serve.port (v : Serve) : Nat := if v.purpose = 0 then 101 else 96

/-- A queued line read of a request. -/
def Entry.serves (seq : Nat) (e : Entry) : Bool := match e.kind with | .serve q _ => q == seq | _ => false

/-- A request is served no longer: it waits no more, nor do its queued line reads. -/
def endServe (v : Serve) (s : State) : State :=
  let s := { s with mirror := { s.mirror with serving := s.mirror.serving.filter (fun w => w.seq != v.seq) } }
  if v.queued then
    (List.range v.lines).foldl (fun t k => t.modChan ((s.dist v.dist).desc.place (64 * (v.dline + k)) 0).1 (fun ch =>
      { ch with gate := ch.gate.filter (fun e => !e.serves v.seq), bq := ch.bq.filter (fun e => !e.serves v.seq) })) s
  else s

/-- Send the answer to a RemoteRequest (R267, R282): every line as it was read, or every line ABSENT. -/
def sendAnswer (v : Serve) (absent : Bool) (s : State) : State :=
  let lines := (List.range v.lines).map (fun k =>
    match v.got.find? (fun x => x.1 == k) with
    | some x => if absent then (0x32, 0) else x.2
    | none => (0x32, 0))
  let at_ := if s.role v.dist = 2 then (s.dist v.dist).applyA else s.stampNow 0
  let payload := natLe 8 v.seq ++ natLe 1 (overallStatus (lines.map (·.1))) ++ fit 4 (lines.flatMap (fun x => natLe 1 x.1)) ++
    List.replicate 3 0 ++ natLe 9 at_.word ++ List.replicate 39 0 ++ lines.flatMap (fun x => bvBytes x.2)
  let n := s.mirror.respSeq
  let s := endServe v { s with mirror := { s.mirror with respSeq := n + 1 } }
  let s := sendPaths n (frameHeader 3 0 s.vault.session (1 + v.lines) n) payload s
  s.addObj (0x6010 + v.dist) 0x0C 1

/-- Queue the read of line k of a request: of a purpose 0 one a guarded entry of port 101 with its deadline less 80 ns, of the
others gate traffic of port 96 (R282; log 37). -/
def queueServe (v : Serve) (k : Nat) (s : State) : State :=
  let q := (s.dist v.dist).desc.place (64 * (v.dline + k)) 0
  let due := if v.purpose = 0 then (v.deadline + slotMod - 4) % slotMod else s.borrowedDeadline 96
  let e := { mkEntry s q.2 false (.serve v.seq k) v.port due (s.stampNow v.port) with guarded := v.purpose == 0 }
  queueMetaReads .b e v.dist (v.dline + k) (enqueue q.1 .b e s)

/-- Take a request in hand: what needs no line read is answered from, the other lines are queued. -/
def serveStart (v : Serve) (s : State) : State :=
  let here := (List.range v.lines).filterMap (fun k => (serveHere s v.dist (v.dline + k)).map (fun r => (k, r)))
  let v := { v with queued := true, got := here }
  if here.length = v.lines then sendAnswer v false s
  else
    let s := { s with mirror := { s.mirror with serving := s.mirror.serving.filter (fun w => w.seq != v.seq) ++ [v] } }
    (List.range v.lines).foldl (fun t k => if here.any (fun x => x.1 == k) then t else queueServe v k t) s

/-- A line of a request is read: the answer goes with the last, but not once it is late (R282). -/
def serveGot (seq k : Nat) (r : Nat × BitVec 512) (s : State) : State :=
  match s.mirror.serving.find? (fun v => v.seq == seq) with
  | none => s
  | some v =>
    let w := { v with got := (k, r) :: v.got }
    if serveLate s v then endServe v s
    else if w.got.length < w.lines then
      { s with mirror := { s.mirror with serving := s.mirror.serving.map (fun x => if x.seq = seq then w else x) } }
    else sendAnswer w (!servable s w) s

/-- The read of line k of a request returns. -/
def serveReturns (seq k : Nat) (s : State) : State :=
  match s.mirror.serving.find? (fun v => v.seq == seq) with
  | none => s
  | some v =>
    let r := serveRead v.port v.dist (v.dline + k) s
    serveGot seq k r.2 r.1

/-- Serve a request now, keep it until A_d passes its AsOfStamp, or drop it (R282). -/
def serveRequest (v : Serve) (s : State) : State :=
  if !servable s v || s.sup.squall != .idle then sendAnswer v true s
  else if serveLate s v then s
  else if s.role v.dist = 2 && !stampLt v.asOf (s.dist v.dist).applyA then
    { s with mirror := { s.mirror with serving := s.mirror.serving ++ [v] } }
  else serveStart v s

end Sys2Proof.Machine
end

