-- ==== Sys2Proof/Machine/Timing.lean ====
section
/-! DEFINITION. DRAM timing (R135-R150): times in DCK, what a line operation needs to put its burst in a position, and
what placing it does to its bank, its subchannel and the command history. A position is one channel cycle, 4 DCK. -/

namespace Sys2Proof.Machine

/-- A timing object of channel c in whole DCK, at least its floor (R137). -/
def tmDck (s : State) (c sub floor : Nat) : Nat := max (cdiv (s.obj (timIdx c) sub * s.rate c) 2000000) floor

def tCL (s : State) (c : Nat) : Nat := s.obj (timIdx c) 5
def tCWL (s : State) (c : Nat) : Nat := s.obj (timIdx c) 5 - 2
def tRCD (s : State) (c : Nat) : Nat := tmDck s c 7 0
def tRP (s : State) (c : Nat) : Nat := tmDck s c 8 0
def tRAS (s : State) (c : Nat) : Nat := tmDck s c 9 0
def tRC (s : State) (c : Nat) : Nat := tmDck s c 0x0A 0
def tWR (s : State) (c : Nat) : Nat := tmDck s c 0x0B 0
def tRTP (s : State) (c : Nat) : Nat := tmDck s c 0x0C 12
def tRRD (s : State) (c : Nat) (sameBg : Bool) : Nat := if sameBg then tmDck s c 0x0E 8 else tmDck s c 0x0D 8
def tFAW (s : State) (c : Nat) : Nat := tmDck s c 0x0F 32
/-- CAS to CAS in one direction. -/
def tCCD (s : State) (c : Nat) (sameBg wr : Bool) : Nat :=
  if !sameBg then tmDck s c 0x10 8 else if wr then tmDck s c 0x12 16 else tmDck s c 0x11 8
/-- End of write data to RD. -/
def tWTR (s : State) (c : Nat) (sameBg : Bool) : Nat := if sameBg then tmDck s c 0x14 16 else tmDck s c 0x13 4
def tRFCsb (s : State) (c : Nat) : Nat := tmDck s c 0x16 0
def tREFSBRD (s : State) (c : Nat) : Nat := tmDck s c 0x17 0
def tRFMsb (s : State) (c : Nat) : Nat := tmDck s c 0x18 0
def rankGap (s : State) (c : Nat) : Nat := tmDck s c 0x21 0
def readWriteGap (s : State) (c : Nat) : Nat := Config.readWriteDck + tmDck s c 0x20 0
def alertLatency (s : State) (c : Nat) : Nat := tmDck s c 0x22 0

/-- DecisionLead (R139). -/
def decisionLead (s : State) (c : Nat) : Nat := cdiv (tRP s c + tRCD s c + tCL s c) 4 + 2

/-- DCK of the present core cycle: a slot is P_slot positions of 4 DCK. -/
def State.dckNow (s : State) (c : Nat) : Nat := s.cycleNow * s.pSlot c / 10

/-- The pseudo-channel of a line on its subchannel: 0 on an RDIMM; 2 × position + half of the ranks on an MRDIMM (R135). -/
def pseudoChannel (s : State) (c : Nat) (x : Coord) : Nat :=
  if s.obj (timIdx c) 3 = 2 then
    2 * x.pos + (if (s.channelGeometry c).2.1 ≤ 2 * x.rank then 1 else 0)
  else 0

/-- The commands of a placed operation: PRE and ACT times where it needs them, and its RD or WR. -/
structure Plan where
  pre : Option Nat
  act : Option Nat
  cas : Nat
  deriving DecidableEq, Repr

/-! ### The CA bus (R141) -/

/-- n CA cycles from DCK t on are free. -/
def caFree (used : List Nat) (t n : Nat) : Bool := (List.range n).all (fun i => !used.contains (t + i))

/-- The latest start at or before t of n free CA cycles, looked for over `fuel` cycles. -/
def caBefore (used : List Nat) (n : Nat) : Nat → Nat → Nat
  | 0, t => t
  | fuel + 1, t => if caFree used t n then t else caBefore used n fuel (t - 1)

/-- The earliest start at or after t of n free CA cycles. -/
def caAfter (used : List Nat) (n : Nat) : Nat → Nat → Nat
  | 0, t => t
  | fuel + 1, t => if caFree used t n then t else caAfter used n fuel (t + 1)

/-- The cycles a command takes: two for ACT, RD and WR, one for the others. -/
def caCycles (t n : Nat) : List Nat := (List.range n).map (fun i => t + i)

/-- The CA cycles of a plan; where commands want one cycle RD or WR goes first, then ACT, then PRE (R141). -/
def Plan.ca (p : Plan) : List Nat :=
  caCycles p.cas 2 ++ (match p.act with | some a => caCycles a 2 | none => []) ++ (match p.pre with | some q => caCycles q 1 | none => [])

/-! ### Refresh placements ahead (R146, R147) -/

/-- Start of the next refresh placement of bank index b after a slot, in DCK (R146). -/
def nextPlacement (s : State) (c b absSlot : Nat) : Nat :=
  let r := s.obj (chIdx 0x3011 c) 1
  let t := absSlot % 192
  let sets := if s.refreshDoubled c then 2 else 1
  let dist := (List.range sets).foldl (fun m j =>
    let d := ((r + 24 * b + 96 * j) + 192 * 4 - t) % 192
    min m (if d = 0 then 192 else d)) 192
  4 * s.pSlot c * (absSlot + dist)

/-- The latest placement of bank index b that starts from the slot in progress on, up to an absolute slot: its start slot. -/
def placementAhead (s : State) (c b upTo : Nat) : Option Nat :=
  let r := s.obj (chIdx 0x3011 c) 1
  let starts := (List.range (if s.refreshDoubled c then 2 else 1)).filterMap (fun j =>
    let back := (upTo % 192 + 192 - (r + 24 * b + 96 * j) % 192) % 192
    if back ≤ upTo && s.slotNow ≤ upTo - back then some (upTo - back) else none)
  leastBy (fun x y => decide (y < x)) starts

/-- The rolling activation thresholds of a bank's module (R150): RAAIMT, RAAMMT. -/
def raaLimits (s : State) (c : Nat) (pos : Nat) : Nat × Nat :=
  match s.moduleAt (2 * c + pos) with
  | some m => (m.spd.raaimt, m.spd.raammt)
  | none => (0, 0)

/-- A bank once it is precharged at or after a time: its row closed, the end of its last data and TRas kept. -/
def Bank.closedAt (s : State) (c from_ : Nat) (b : Bank) : Bank :=
  match b.row with
  | some _ => { b with row := none, preAt := max from_ (max b.preMin (b.actAt + tRAS s c)) }
  | none => b

/-- The bank's row is open at a time: opened, and not for later. -/
def Bank.openAt (from_ : Nat) (b : Bank) : Bool := b.row.isSome && decide (b.actAt ≤ from_)

/-- A bank as a refresh placement that starts at a time leaves it: a row open then is closed. -/
def Bank.refreshed (s : State) (c from_ : Nat) (b : Bank) : Bank := if b.openAt from_ then b.closedAt s c from_ else b

/-- The banks of one index of a rank of a subchannel. -/
def bankKeys (sub rs b : Nat) : List Nat := (List.range 8).map (fun bg => 256 * sub + 32 * rs + 4 * bg + b)

/-- DCK at which REFsb goes to the banks of index b of a rank in a placement that starts at `from_`: when all meet TRp (R147). -/
def refreshAt (s : State) (c sub rs b from_ : Nat) : Nat :=
  (bankKeys sub rs b).foldl (fun m k => max m (((s.chan c).bank k |>.refreshed s c from_).preAt + tRP s c)) from_

/-- The bank of an operation as it stands at a slot (R139): closed and refreshed by a placement that lies ahead, with the
RFMsb that follows its REFsb where its count asks for one (R150). -/
def bankAt (s : State) (c : Nat) (x : Coord) (absSlot : Nat) : Bank :=
  let b := (s.chan c).bank x.bankKey
  match placementAhead s c x.bank absSlot with
  | some a =>
    let from_ := 4 * s.pSlot c * a
    let done := refreshAt s c x.sub x.rankSlot x.bank from_ + tRFCsb s c
    let lim := (raaLimits s c x.pos).1
    let done := if 0 < lim && lim ≤ b.raa then done + tRFMsb s c else done
    { b.refreshed s c from_ with refUntil := max b.refUntil done }
  | none => b

/-- Times of the REFsb commands of a rank, past and ahead, up to an absolute slot. -/
def refreshTimes (s : State) (c : Nat) (x : Coord) (absSlot : Nat) : List Nat :=
  (match tfind ((s.chan c).sub x.sub).refs x.rankSlot with | some t => [t] | none => []) ++
    (List.range 4).filterMap (fun b => (placementAhead s c b absSlot).map (fun a =>
      refreshAt s c x.sub x.rankSlot b (4 * s.pSlot c * a)))

/-! ### Eligibility (R112, R139, R140) -/

/-- Activation spacing, the four-activate window of the rank, and TRefSbRd behind its refreshes (R137). -/
def actOk (s : State) (c : Nat) (sb : Sub) (x : Coord) (refs : List Nat) (a : Nat) : Bool :=
  let mine := sb.acts.filter (fun e => e.1 == x.rankSlot)
  mine.all (fun e => decide (e.2.2 + tRRD s c (e.2.1 == x.bg) ≤ a)) &&
    (match (mine.map (fun e => e.2.2))[3]? with
     | some t => decide (t + tFAW s c ≤ a)
     | none => true) &&
    refs.all (fun t => decide (a < t) || decide (t + tREFSBRD s c ≤ a))

/-- The RD and WR of a subchannel leave room for one more at `cas` (R135, R137, R140): TCcd within a rank, one line per four
positions in a pseudo-channel, TWtr from the end of write data. -/
def casOk (s : State) (c : Nat) (sb : Sub) (x : Coord) (wr : Bool) (cas pos : Nat) : Bool :=
  let pc := pseudoChannel s c x
  sb.cas.all (fun l =>
    let rank := l.rankSlot == x.rankSlot
    let same := rank && l.bg == x.bg
    (!(rank && l.wr == wr) || decide (l.at_ + tCCD s c same wr ≤ cas)) &&
    (!(s.obj (timIdx c) 3 == 2 && l.pc == pc) || decide (l.pos + 4 ≤ pos)) &&
    (!(l.wr && !wr) || decide ((if l.pc == pc then l.coreEnd else l.dataEnd) + tWTR s c same ≤ cas)))

/-- The data bus is free for a burst that starts at DCK t (R140). -/
def busOk (s : State) (c : Nat) (sb : Sub) (x : Coord) (wr : Bool) (t : Nat) : Bool :=
  decide (sb.busEnd + (if sb.busEnd != 0 && sb.lastRank != x.rankSlot then rankGap s c else 0) ≤ t) &&
    (!(wr && sb.busEnd != 0 && !sb.lastWr) || decide (sb.busEnd + readWriteGap s c ≤ t))

/-- DCK a line occupies its pseudo-channel: 8, on an MRDIMM 16 (R135). -/
def coreTime (s : State) (c : Nat) : Nat := if s.obj (timIdx c) 3 = 2 then 16 else 8

/-- Why a line operation cannot use a position. -/
inductive Block where
  | refresh
  | bank
  | turnaround
  deriving DecidableEq, Repr

/-- The PRE and ACT an operation needs for its RD or WR at `cas` (R139): ACT at or before t - tAA - tRCD, PRE at or before
tRP earlier, each in free CA cycles (R141). -/
def planRow (s : State) (c : Nat) (sb : Sub) (b : Bank) (x : Coord) (refs : List Nat) (t cas : Nat) : Option Plan :=
  let used := caCycles cas 2 ++ sb.ca
  let act := caBefore used 2 8 (t - tCL s c - tRCD s c)
  match b.row with
  | some r =>
    if r = x.row then (if b.actAt + tRCD s c ≤ cas then some { pre := none, act := none, cas := cas } else none)
    else
      let pre := caBefore (caCycles act 2 ++ used) 1 8 (act - tRP s c)
      if b.actAt + tRAS s c ≤ pre && b.preMin ≤ pre && b.actAt + tRC s c ≤ act && b.refUntil ≤ pre && actOk s c sb x refs act then
        some { pre := some pre, act := some act, cas := cas }
      else none
  | none =>
    if b.preAt + tRP s c ≤ act && b.refUntil ≤ act && (b.actAt = 0 || b.actAt + tRC s c ≤ act) && actOk s c sb x refs act then
      some { pre := none, act := some act, cas := cas }
    else none

/-- The commands of an operation on line coordinates x at position pos (R139-R141), judged on bank and bus state projected
to the position, or what stands in its way. -/
def planOp (s : State) (c : Nat) (x : Coord) (wr : Bool) (pos : Nat) : Except Block Plan :=
  let sb := (s.chan c).sub x.sub
  let slot := pos / max 1 (s.pSlot c)
  let b := bankAt s c x slot
  let t := 4 * pos
  let cas := t - (if wr then tCWL s c else tCL s c)
  let closing := wr && decide (nextPlacement s c x.bank slot + tRTP s c < t + coreTime s c + tWR s c)
  let lim := (raaLimits s c x.pos).2
  let act := t - tCL s c - tRCD s c
  if sb.alert.isSome then .error .bank
  else if decide ((if b.row == some x.row then cas else act) < b.refUntil) || closing || (decide (0 < lim) && decide (lim ≤ b.raa)) then .error .refresh
  else match planRow s c sb b x (refreshTimes s c x slot) t cas with
    | none => .error .bank
    | some p =>
      if !casOk s c sb x wr cas pos then .error .turnaround
      else if !busOk s c sb x wr t then .error .turnaround
      else .ok p

/-- A command in the history (R243). -/
def histOf (s : State) (cmd : Nat) (x : Coord) : HistCmd :=
  { at_ := s.cycleNow, cmd := cmd, target := x.sub + 2 * x.rankSlot, bank := x.bankNo, flags := 0, row := x.row, col := x.col }

/-- Close policy (R142): the row is closed behind the access unless another granted operation targets it. -/
def autoPrecharge (s : State) (c : Nat) (x : Coord) (line : Nat) : Bool :=
  s.obj (chIdx 0x3012 c) 1 == 1 &&
    !((s.chan c).granted.any (fun e => e.line != line && (let y := s.coordOf c e.line
                                                         y.bankKey == x.bankKey && y.row == x.row)))

/-- The bank behind a placed operation whose data starts at DCK t. -/
def placedBank (s : State) (c : Nat) (b : Bank) (x : Coord) (wr ap : Bool) (pos t : Nat) (p : Plan) : Bank :=
  let act := p.act.getD b.actAt
  let preMin := max (if p.act.isSome then 0 else b.preMin) (if wr then t + coreTime s c + tWR s c else p.cas + tRTP s c)
  { b with
    row := if ap then none else some x.row
    last := pos
    raa := if p.act.isSome then b.raa + 1 else b.raa
    actAt := act
    preMin := preMin
    preAt := if ap then max preMin (act + tRAS s c) else p.pre.getD b.preAt }

/-- The subchannel behind a placed operation: its buses, its activations. -/
def placedSub (s : State) (c : Nat) (sb : Sub) (x : Coord) (wr : Bool) (pos t : Nat) (p : Plan) : Sub :=
  { sb with
    busEnd := t + 8
    lastWr := wr
    lastRank := x.rankSlot
    cas := ({ at_ := p.cas, pos := pos, pc := pseudoChannel s c x, rankSlot := x.rankSlot, bg := x.bg, wr := wr,
              dataEnd := t + 8, coreEnd := t + coreTime s c } :: sb.cas).take 16
    acts := match p.act with
      | some a => ((x.rankSlot, x.bg, a) :: sb.acts).take 32
      | none => sb.acts
    ca := (p.ca ++ sb.ca).take 80 }

/-- Carry out the plan of an operation at position pos (R139-R143, R150, R161). -/
def placeOp (c line : Nat) (x : Coord) (wr : Bool) (pos : Nat) (p : Plan) (s : State) : State :=
  let ch := s.chan c
  let sb := ch.sub x.sub
  let t := 4 * pos
  let b' := placedBank s c (bankAt s c x (pos / max 1 (s.pSlot c))) x wr (autoPrecharge s c x line) pos t p
  let turn := !sb.lastWr && wr && sb.busEnd != 0
  let s := s.setChan c ((ch.setBank x.bankKey b').setSub x.sub (placedSub s c sb x wr pos t p))
  let s := match p.pre with | some _ => noteCmd c (histOf s 3 x) s | none => s
  let s := match p.act with | some _ => countChan c 0x0E 1 (some x.sub) (noteCmd c (histOf s 0 x) s) | none => s
  let s := noteCmd c (histOf s (if wr then 2 else 1) x) s
  let i := chIdx 0x3012 c
  let s := match p.act, p.pre with
    | none, _ => countChan c 0x0B 1 (some x.sub) (s.addObj i 7 1)
    | some _, none => countChan c 0x0C 1 (some x.sub) (s.addObj i 8 1)
    | some _, some _ => countChan c 0x0D 1 (some x.sub) (s.addObj i 9 1)
  if turn then countChan c 0x0F 1 (some x.sub) s else s

/-- How a bank met an operation (R399): 1 row hit, 2 row miss, 3 row conflict. -/
def Plan.rowCode (p : Plan) : Nat := match p.act, p.pre with
  | none, _ => 1
  | some _, none => 2
  | some _, some _ => 3

/-- Close a bank at a time (R142, R147): PRE takes its CA cycle. -/
def closeBank (c key at_ : Nat) (s : State) : State :=
  let ch := s.chan c
  let b := ch.bank key
  match b.row with
  | none => s
  | some r =>
    let x : Coord := { sub := key / 256, bg := key % 32 / 4, bank := key % 4, col := 0, rank := key / 32 % 4, pos := key / 128 % 2, row := r }
    let sb := ch.sub x.sub
    let b' := b.closedAt s c at_
    let pre := caAfter sb.ca 1 8 b'.preAt
    noteCmd c (histOf s 3 x) (s.setChan c ((ch.setBank key { b' with preAt := pre }).setSub x.sub { sb with ca := (caCycles pre 1 ++ sb.ca).take 80 }))

/-! ### Locks (R122) -/

/-- What the members of a lock have taken so far: the end of the last data beat, the activations (rank slot, bank group,
time), the RD and WR, and by bank the time of its ACT and its earliest PRE; and by subchannel its CA cycles. -/
structure LockPlan where
  dataEnd : Nat
  acts : List (Nat × Nat × Nat × Nat)
  cas : List (Nat × Cas)
  banks : List (Nat × Nat × Nat)
  ca : List (Nat × List Nat)
  deriving DecidableEq, Repr

/-- One more member of a lock (R122): its own PRE and ACT, overlapped with those before it as far as every timing object, the
gaps of R140 and the CA bus allow. -/
def lockMember (s : State) (c : Nat) (k : LockPlan) (m : Coord × Bool) : LockPlan :=
  let x := m.1
  let wr := m.2
  let used := (tfind k.ca x.sub).getD []
  let prior := tfind k.banks x.bankKey
  let pre := caAfter used 1 64 (match prior with | some e => e.2 | none => 0)
  let used := caCycles pre 1 ++ used
  let mine := k.acts.filter (fun e => e.1 == x.sub && e.2.1 == x.rankSlot)
  let actMin := mine.foldl (fun a e => max a (e.2.2.2 + tRRD s c (e.2.2.1 == x.bg))) (pre + tRP s c)
  let actMin := max actMin (match mine[3]? with | some e => e.2.2.2 + tFAW s c | none => 0)
  let actMin := max actMin (match prior with | some e => e.1 + tRC s c | none => 0)
  let act := caAfter used 2 64 actMin
  let used := caCycles act 2 ++ used
  let lat := if wr then tCWL s c else tCL s c
  let onSub := k.cas.filter (fun e => e.1 == x.sub)
  let pc := pseudoChannel s c x
  let casMin := onSub.foldl (fun a e =>
    let l := e.2
    let rank := l.rankSlot == x.rankSlot
    let same := rank && l.bg == x.bg
    let ccd := if rank && l.wr == wr then l.at_ + tCCD s c same wr else 0
    let core := if s.obj (timIdx c) 3 = 2 && l.pc = pc then l.coreEnd - lat else 0
    let bus := l.dataEnd + (if rank then 0 else rankGap s c) - lat
    let rw := if wr && !l.wr then l.dataEnd + readWriteGap s c - lat else 0
    let wtr := if l.wr && !wr then (if l.pc = pc then l.coreEnd else l.dataEnd) + tWTR s c same else 0
    [ccd, core, bus, rw, wtr].foldl max a) (act + tRCD s c)
  let cas := caAfter used 2 64 casMin
  let d := cas + lat
  let l : Cas := { at_ := cas, pos := 0, pc := pc, rankSlot := x.rankSlot, bg := x.bg, wr := wr, dataEnd := d + 8, coreEnd := d + coreTime s c }
  { dataEnd := max k.dataEnd (d + 8)
    acts := (x.sub, x.rankSlot, x.bg, act) :: k.acts
    cas := (x.sub, l) :: k.cas
    banks := tins k.banks x.bankKey (act, max (act + tRAS s c) (if wr then d + coreTime s c + tWR s c else cas + tRTP s c))
    ca := tins k.ca x.sub (caCycles cas 2 ++ used) }

/-- t_lock in DCK, from the first command to the last data beat (R122). Members are (coordinates, write). -/
def lockTime (s : State) (c : Nat) (ops : List (Coord × Bool)) : Nat :=
  (ops.foldl (lockMember s c) { dataEnd := 0, acts := [], cas := [], banks := [], ca := [] }).dataEnd

/-- The position a lock that starts at pos would end in: t_lock after its first member's first command (R122, R139). -/
def lockEnd (s : State) (c pos : Nat) (ops : List (Coord × Bool)) : Nat :=
  cdiv (4 * pos + lockTime s c ops - (tRP s c + tRCD s c + tCL s c)) 4

/-- A lock may take at most 256 ns. -/
def lockFits (s : State) (c : Nat) (ops : List (Coord × Bool)) : Bool :=
  decide (lockTime s c ops * 2000 ≤ 256 * s.rate c)

end Sys2Proof.Machine
end

