-- ==== Sys2Proof/Machine/Ports.lean ====
section
/-! DEFINITION. Request ports (R41-R64): packets at the ingress bridge, admission and registration, locked sequences,
arrival at a slice, the egress register, deadlines, and the sampling of requests (R397-R400). -/

namespace Sys2Proof.Machine

/-! ### Sampling (R397-R400) -/

/-- One step of the 23-bit LFSR x^23 + x^18 + 1 (R397). -/
def lfsrNext (v : Nat) : Nat := (2 * v) % 2 ^ 23 + (bits v 22 22 ^^^ bits v 17 17)

/-- Count an accepted request toward sampling; at 0 it is sampled and the countdown reloads. -/
def sampleAccept (r : Req) (t0 : Nat) (s : State) : State :=
  let k := s.obj (0x2200 + r.port) 0x44
  if k < 4 || 20 < k then s
  else
    let q := s.port r.port
    if 1 < q.countdown then s.setPort r.port { q with countdown := q.countdown - 1 }
    else
      let n := 2 ^ k
      let s := s.setPort r.port { q with countdown := n / 2 + q.lfsr % n, lfsr := lfsrNext q.lfsr }
      let ch := (s.target r.addr).map (fun x => (x.1, x.2.2.1, (s.coordOf x.1 x.2.1)))
      let place := match ch with | some (c, d, _) => (c, d) | none => (0, 0)
      let row := match ch with | some (_, _, x) => x.bankNo + 32 * x.sub | none => 0
      let x : Sample := { req := r, chan := place.1, dist := place.2, bankRow := row,
                          ts := [t0, s.cycleNow, 0, 0, 0, 0, 0], flags := if r.lock || r.group.isSome then 128 else 0 }
      { s with samples := s.samples ++ [x] }

/-- Saturating U16 duration between time points; a point not reached equals the one before. -/
def sampleTimes (ts : List Nat) (t7 : Nat) : List Nat :=
  let full := ts.foldl (fun (acc : List Nat) t => acc ++ [if t = 0 then acc.getLastD 0 else t]) []
  let all := full ++ [t7]
  (List.range 7).map (fun i => min 65535 ((all.getD (i + 1) 0 + cycleMod - all.getD i 0) % cycleMod))

/-- The 64 bytes of a sampling record (R399). -/
def sampleBytes (x : Sample) (status t7 seq flags : Nat) : List Byte :=
  let r := x.req
  let reqBits := r.cls.code + 4 * r.len + (if r.twin then 32 else 0) + (if r.lock then 64 else 0)
  let slack : Int := (40 * r.deadline : Nat) - (t7 : Nat)
  natLe 9 r.stamp.word ++ natLe 1 r.port ++ natLe 1 r.tag ++ natLe 1 r.cmd ++ natLe 1 reqBits ++ natLe 1 status ++
    natLe 1 (x.chan + 16 * x.dist) ++ natLe 1 x.bankRow ++ natLe 6 (r.addr % 2 ^ 46) ++ natLe 2 0 ++
    natLe 4 (deadlineWord r.deadline) ++ (sampleTimes x.ts t7).flatMap (natLe 2) ++ natLe 2 flags ++
    natLe 4 (ofSigned 32 slack) ++ natLe 8 seq ++ List.replicate 7 0 ++ natLe 1 1

/-- Write the record of a sampled request whose response is registered or whose TIMEOUT is synthesised (R398). -/
def sampleEnd (t : Stamp) (status : Nat) (timeout : Bool) (s : State) : State :=
  match s.samples.find? (fun x => x.req.stamp == t) with
  | none => s
  | some x =>
    let s := { s with samples := s.samples.filter (fun y => y.req.stamp != t) }
    let seq := s.obj 0x9020 5 + s.obj 0x9020 6
    let st := s.obj 0x9020 2
    if s.obj 0x9020 1 != 1 then s
    else if s.obj 0x2F00 1 != 2 || st == 4 then
      let first := !s.ev.sampleRun
      let s := s.addObj 0x9020 6 1
      if first then { s with ev := { s.ev with sampleRun := true } }.raise 0x015 else s
    else
      let i := s.obj 0x9020 3
      let flags := if timeout then setBit x.flags 6 true else x.flags
      let s := setCapture i (sampleBytes x status s.cycleNow seq flags) s
      let next := (i + 1) % 4096
      let s := { s with ev := { s.ev with sampleRun := false } }
      ((s.setObj 0x9020 3 next).addObj 0x9020 5 1).setObj 0x9020 2 (if next = s.obj 0x9020 4 then 4 else 1)

/-! ### Registration (R15, R21, R43, R57) -/

/-- Credits for the units of a packet that leaves the bridge (R60). -/
def popBridge (p : Nat) (s : State) : State :=
  s.modPort p (fun q => match q.bridge with
    | k :: rest => { q with bridge := rest, credits := min 16 (q.credits + 1 + k.data.length) }
    | [] => q)

/-- Tokens a request takes, in 1/256 line (R34). -/
def tokenCost (h : BitVec 512) : Nat := 256 * max 1 (reqLines (hdrCmd h) (hdrLen h))

/-- The shaper holds enough tokens (R34). -/
def tokensOk (s : State) (p : Nat) (cost : Nat) : Bool := s.obj (0x2200 + p) 7 == 0 || decide (cost ≤ (s.port p).tokens)

/-- The request a header makes, stamped now. -/
def mkReq (s : State) (p : Nat) (k : Packet) (deadline : Nat) (res : Bool) (pos : List (Nat × Nat)) (group : Option Stamp) : Req :=
  let h := k.hdr
  let d := match s.target (hdrAddr h) with | some x => x.2.2.1 | none => 0
  { port := p, tag := hdrTag h, cmd := hdrCmd h, len := hdrLen h, addr := hdrAddr h, stamp := s.stampNow p,
    deadline := deadline, cls := s.cls p, res := res, twin := hdrTwin h, alone := hdrTwin h && !feeds s d,
    lock := hdrLock h, opnd := hdrOperand h, mask := hdrMask h, data := k.data, pos := pos, group := group }

/-- Register the packet at the front of a bridge as request r: its tag is in use, tokens and credits move. -/
def register (p : Nat) (k : Packet) (r : Req) (cost : Nat) (s : State) : State :=
  let s := popBridge p s
  let s := s.modPort p (fun q => { q with
    tags := q.tags ++ [{ tag := r.tag, req := r, lost := false }]
    tokens := if s.obj (0x2200 + p) 7 = 0 then q.tokens else q.tokens - cost
    lastReg := some s.cycleNow
    collide := false })
  let s := countPort p 1 1 (if p = 100 then s.setObj 0x1220 7 r.stamp.word else s)
  let s := if isRead r.cmd then countPort p 2 1 s else if r.cmd = 0x10 || r.cmd = 0x11 then countPort p 3 1 s
    else if isAtomic r.cmd then countPort p 4 1 s else s
  sampleAccept r k.at_ (countPort p 5 k.data.length s)

/-- Complete a request that fails a check of R48: answered by its port. -/
def registerFailed (p : Nat) (k : Packet) (status : Nat) (s : State) : State :=
  let r := mkReq s p k (lastSlotBy (s.stampNow p) 200) false [] none
  let s := register p k { r with alone := false } 256 s
  let s := if k.bad then portCause p 1 (s.addObj (0x2200 + p) 0x13 1) else s
  respond (plainResp r status) s

/-! ### Locked sequences (R55, R56) -/

/-- A locked sequence of a port breaks: LockBreakCount and cause bit 7 (R55). -/
def countBreak (p : Nat) (s : State) : State := portCause p 7 (s.addObj (0x2200 + p) 0x17 1)

/-- The port's sequence is broken, at its opening or later: the members it has complete with DECODE and the horizon is
released; where more of it is to come it stays, broken, and so do its further members. That it ends with its last member or
with a gap of more than 64 cycles is the model's reading (DEDUCED, log 27). -/
def breakLock (more : Bool) (p : Nat) (s : State) : State :=
  let rest : Option LockSeq := if more then
      some { chan := 0, stamp := s.stampNow p, deadline := 0, members := [], last := s.cycleNow, broken := true } else none
  let t := s.modPort p (fun q => { q with lock := rest })
  match (s.port p).lock with
  | some l =>
    if l.broken then t else advanceHorizon l.chan (l.members.foldl (fun u r => respond (plainResp r 0x21) u) (countBreak p t))
  | none => if more then countBreak p t else t

/-- A sequence whose next member is late breaks, or ends where it was broken (R55, R173). A member exactly 64 cycles after
the last is in time (DEDUCED, log 72). -/
def lockTimeout (p : Nat) (s : State) : State :=
  match (s.port p).lock with
  | some l => if 64 < s.since l.last then breakLock false p s else s
  | none => s

/-- A header is a legal member of the port's sequence, open or to be opened (R55). One registered exactly 64 cycles after the
member before it is within the 64 cycles (DEDUCED, log 72). -/
def lockMemberOk (s : State) (p c : Nat) (h : BitVec 512) : Bool :=
  let cmdOk := [0x01, 0x10, 0x11].contains (hdrCmd h)
  match (s.port p).lock with
  | some l =>
    !l.broken && cmdOk && l.chan == c && !(l.members.length == 3 && hdrLock h) && decide (s.since l.last ≤ 64)
  | none => s.cls p == .b && cmdOk && s.obj (0x2040 + c) 5 == 1

/-- A header takes part in a sequence: one is open, or it carries Lock. -/
def inSequence (s : State) (p : Nat) (h : BitVec 512) : Bool := (s.port p).lock.isSome || hdrLock h

/-- Check 4 of R48: a member of a sequence breaks its rules. -/
def lockRulesFail (s : State) (p : Nat) (h : BitVec 512) : Bool :=
  inSequence s p h && (hdrCmd h == 0x30 || (match s.target (hdrAddr h) with
    | some (c, _) => !lockMemberOk s p c h
    | none => true))

/-- The four checks of R48, in order: the status of the first that fails. -/
def checkAll (s : State) (p : Nat) (k : Packet) : Option Nat :=
  match checkRequest s p k.hdr k.data k.bad with
  | some code => some code
  | none => if lockRulesFail s p k.hdr then some 0x21
            else if hdrCmd k.hdr != 0x30 && (s.target (hdrAddr k.hdr)).isNone then some 0x21 else none

/-- Register a member; the last one sends the whole sequence on its way (R56), unless it would hold its channel for more
than 256 ns (R122). -/
def registerMember (p c : Nat) (k : Packet) (deadline : Nat) (s : State) : State :=
  let first := match (s.port p).lock with | some l => l.stamp | none => s.stampNow p
  let r := { mkReq s p k deadline false [] (some first) with deadline := deadline }
  let s := register p k r (tokenCost k.hdr) s
  let all := (match (s.port p).lock with | some l => l.members | none => []) ++ [r]
  let s := s.modPort p (fun q => { q with
    lock := some { chan := c, stamp := first, deadline := deadline, members := all, last := s.cycleNow, broken := false } })
  if r.lock then s
  else
    let ops := all.flatMap (fun m => match s.target m.addr with
      | some (_, l, _, _) => (List.range (reqLines m.cmd m.len)).map (fun k => (s.coordOf c (l + k), isWrite m.cmd))
      | none => [])
    if lockFits s c ops then s.modPort p (fun q => { q with lock := none, ingress := q.ingress ++ all })
    else breakLock false p s

/-! ### Admission (R21) -/

/-- Nothing is registered at a port now: admission closed, a class change pending, a hold cycle, or one header already
this cycle (R10, R16, R36). -/
def portClosed (s : State) (p : Nat) : Bool :=
  !s.blk.admission || s.obj (0x2200 + p) 0x0F == 1 || s.cad.hold || (s.port p).lastReg == some s.cycleNow

/-- Forecast's evaluation wakes the channel (R158). -/
def wakeChan (c : Nat) (s : State) : State := s.modChan c Chan.wake

/-- A header waits at Forecast this cycle: counted, with its reason (R108, R241, R354, R391). -/
def waits (p c : Nat) (v : Verdict) (s : State) : State :=
  let s := countPort p 7 1 s
  match v with
  | .full => s.addObj (chIdx 0x3025 c) 5 1
  | .pin => if pinnedBytes s c < s.obj (chIdx 0x3080 c) 0x14 then s else s.raiseChan c 0xC
  | .cap => if s.sup.capFailed then s else
      let s := if s.sup.capRun then s else s.raise 0x1EC
      { s with sup := { s.sup with capFailed := true } }.addObj 0x7030 9 1
  | _ => s

/-- Take what a passing test reserved (R26, R27, R34, R354). -/
def takeGrant (p c : Nat) (g : Grant) (s : State) : State :=
  let s := s.modPort p (fun q => { q with gAsg := q.gAsg ++ g.positions.map (fun x => (c, x.1, x.2)) })
  let s := if g.unreserved then s.addObj (0x2200 + p) 0x10 1 else s
  let s := if g.res then s.modChan c (fun ch => { ch with gSeen := tput ch.gSeen p (s.now.frame + 1) 0 }) else s
  { s with sup := { s.sup with budget := s.sup.budget - g.charge * s.obj 0x7011 0x0A } }

/-- The districts a port wrote to as a mirrored lead (R280). -/
def noteWrote (p d : Nat) (s : State) : State :=
  if s.role d == 1 && (s.dist d).mst != .off then
    s.modPort p (fun q => if q.wrote.contains d then q else { q with wrote := q.wrote ++ [d] })
  else s

/-- Admit a member of a sequence: the first by the class B test with n = 4 and 96 ns, the others while the deadline
holds (R56). -/
def admitMember (p c l d : Nat) (k : Packet) (s : State) : State :=
  let h := k.hdr
  let t := s.stampNow p
  match writeStops s c l d (hdrCmd h) (hdrLen h) with
  | some v => waits p c v s
  | none =>
    let w := fun (u : State) => if isWrite (hdrCmd h) then noteWrote p d u else u
    match (s.port p).lock with
    | some q => if s.duePassed q.deadline then waits p c .wait s else registerMember p c k q.deadline (w s)
    | none =>
      let dl := lastSlotBy t (s.obj (0x2200 + p) 2)
      if !(s.chan c).st.held && !queueRoom s c p .b false 4 then waits p c .full s
      else if !(s.chan c).st.held && !capRoom s .b 4 then waits p c .cap s
      else if (s.chan c).st.held || testB s c p 4 96000 t dl then
        registerMember p c k dl (w (takeGrant p c { deadline := dl, res := false, unreserved := false, positions := [], charge := 4 } s))
      else waits p c .wait s

/-- Admit a request that passed the checks, by its class (R21). -/
def admitTested (p c l d : Nat) (k : Packet) (s : State) : State :=
  match classTest s p c l d k.hdr (s.stampNow p) with
  | .pass g =>
    let s := if isWrite (hdrCmd k.hdr) then noteWrote p d s else s
    let s := takeGrant p c g s
    let r := mkReq s p k g.deadline g.res g.positions none
    let s := register p k r (tokenCost k.hdr) s
    s.modPort p (fun q => { q with ingress := q.ingress ++ [r] })
  | v => waits p c v s

/-- FENCE_TWIN (R29, R280). -/
def admitFence (p : Nat) (k : Packet) (s : State) : State :=
  let r := mkReq s p k (lastSlotBy (s.stampNow p) (120 + s.obj 0x2000 3)) false [] none
  let s := register p k r 256 s
  if mirrorOff s then respond { plainResp r 0 with status := 2 } s
  else
    let w : TwinWait := { fence := true, resp := plainResp r 0, dist := 0, counted := (s.port p).wrote }
    settleWaits { s with mirror := { s.mirror with waits := s.mirror.waits ++ [w] } }

/-- A header that Forecast may take this cycle (R34, R48): its checks, its tokens, then its test. -/
def admitChecked (p : Nat) (k : Packet) (s : State) : State :=
  let doom := checkAll s p k
  let cost := match doom with | some _ => 256 | none => tokenCost k.hdr
  if !tokensOk s p cost then countPort p 8 1 (countPort p 7 1 s)
  else match doom with
    | some code => registerFailed p k code (if inSequence s p k.hdr then breakLock (hdrLock k.hdr) p s else s)
    | none =>
      if hdrCmd k.hdr = 0x30 then admitFence p k s
      else match s.target (hdrAddr k.hdr) with
        | none => s
        | some (c, l, d, _) =>
          let s := wakeChan c s
          if inSequence s p k.hdr then admitMember p c l d k s else admitTested p c l d k s

/-- The header at the front of a port's bridge meets Forecast once its packet is whole (R21, R47, R48, R57). -/
def admitFront (p : Nat) (s : State) : State :=
  match (s.port p).bridge with
  | [] => s
  | k :: _ =>
    if k.need != 0 then s
    else if portClosed s p then countPort p 7 1 s
    else if (s.port p).tags.any (fun u => u.tag == hdrTag k.hdr) then
      let s := countPort p 7 1 s
      if (s.port p).collide then s
      else portCause p 6 ((s.modPort p (fun q => { q with collide := true })).addObj (0x2200 + p) 0x15 1)
    else admitChecked p k (lockTimeout p s)

/-! ### The ingress bridge (R41, R47, R60) -/

/-- Data units a header asks for (R44); one with no command of the table takes what is sent with it. -/
def unitsOwed (h : BitVec 512) (sent : Nat) : Nat :=
  min 4 (match cmdRow (hdrCmd h) with | some r => r.perLen * hdrLen h | none => sent)

/-- The packet still coming in, the last of the bridge. -/
def Port.partPacket (q : Port) : Option Packet :=
  match q.bridge.getLast? with
  | some k => if k.need = 0 then none else some k
  | none => none

/-- The packet still coming in is discarded, its units give their credits back (R60). -/
def Port.dropPart (q : Port) : Port :=
  match q.partPacket with
  | some k => { q with bridge := q.bridge.dropLast, credits := min 16 (q.credits + 1 + k.data.length) }
  | none => q

/-- Units reach an ingress bridge, each its payload and whether its CRC is right: a unit continues the packet still coming
in, or is a header. A header whose CRC fails (0), and a unit without a credit (3), discard what is sent with them: the
port, and that cause. -/
def feedUnits (now : Nat) : List (BitVec 512 × Bool) → Port → Port × Option Nat
  | [], q => (q, none)
  | (u, ok) :: rest, q =>
    match q.partPacket with
    | some k =>
      if q.credits = 0 then (q.dropPart, some 3)
      else feedUnits now rest { q with credits := q.credits - 1, bridge := q.bridge.dropLast ++
        [{ k with data := k.data ++ [u], need := k.need - 1, bad := k.bad || !ok, at_ := now }] }
    | none =>
      if !ok then (q, some 0)
      else if q.credits = 0 then (q, some 3)
      else feedUnits now rest { q with credits := q.credits - 1, bridge := q.bridge ++
        [{ hdr := u, data := [], need := unitsOwed u rest.length, bad := false, at_ := now }] }

/-- Units, each with whether its CRC is right, reach the bridge of a port; the cause of a discard is counted (R47, R60). -/
def feed (p : Nat) (l : List (BitVec 512 × Bool)) (s : State) : State :=
  let r := feedUnits s.cycleNow l (s.port p)
  let s := s.setPort p r.1
  match r.2 with
  | some 0 => portCause p 0 (s.addObj (0x2200 + p) 0x12 1)
  | some _ => portCause p 3 s
  | none => s

/-- Units sent by an initiator reach its port's bridge. -/
def receivePacket (p : Nat) (units : List (BitVec 544)) (s : State) : State :=
  feed p (units.map (fun u => (unitPayload u, unitOk u))) s

/-! ### Arrival at a slice (R172, R174) -/

/-- A request that writes whole lines: WRITE, or WRITE_MASKED with every bit of its mask set (R45). -/
def Req.full (r : Req) : Bool := r.cmd == 0x10 || (r.cmd == 0x11 && r.mask == BitVec.allOnes 64)

/-- What a line of a request does at its slice (R44-R46). -/
def kindOf (r : Req) (k : Nat) : AccKind :=
  let d := r.data.getD k 0
  if r.cmd = 0x01 then .rd
  else if r.cmd = 0x02 then .raw
  else if r.full then .full d
  else if r.cmd = 0x11 then .masked r.mask d
  else if r.cmd = 0x20 then .atomic r.cmd (r.addr % 64) (BitVec.ofNat 128 r.opnd.toNat) (BitVec.ofNat 128 (bits d.toNat 63 0))
  else if r.cmd = 0x21 then .atomic r.cmd (r.addr % 64) (BitVec.ofNat 128 (bits d.toNat 127 0)) (BitVec.ofNat 128 (bits d.toNat 255 128))
  else .atomic r.cmd (r.addr % 64) 0 (BitVec.ofNat 128 r.opnd.toNat)

/-- The accesses of a request, one per line. -/
def accessesOf (s : State) (r : Req) : List Access :=
  match s.target r.addr with
  | none => []
  | some (c, l, d, dline) =>
    (List.range (reqLines r.cmd r.len)).map (fun k =>
      { port := r.port, tag := r.tag, stamp := r.stamp, ord := r.group.getD r.stamp, deadline := r.deadline, chan := c,
        line := l + k, dist := d, gpos := r.pos[k]?, dline := dline + k, k := k, kind := kindOf r k, cls := r.cls,
        res := r.res, twin := r.twin && !r.alone, group := r.group.isSome, engine := false, copy := false })

/-- A request's header unit reaches its slice: its accesses enter the order buffer; a full-line WRITE is answered
(R172, R174, R217). -/
def arrive (r : Req) (s : State) : State :=
  let acc := accessesOf s r
  let s := noteT r.stamp 2 s
  match acc.head? with
  | none => s
  | some a =>
    if r.full && s.isSealed a.dist a.dline r.stamp then sendBack (plainResp r 0x22) s
    else
      let s := acc.foldl (fun t x => enterOrder x t) (if isRead r.cmd then s else noteT r.stamp 3 s)
      if r.full then respondTwin r a.dist (plainResp r 0) s
      else { s with gathers := s.gathers ++ [{ req := r, n := acc.length, parts := [] }] }

/-- A link on a request's way is Failed (R84). -/
def routeFailed (s : State) (p c : Nat) : Bool :=
  match portAt p with
  | none => false
  | some (x, _) => wayFailed s x (channelCrossing c) 0

/-- The requests that leave an ingress queue together: the head, with the rest of its locked sequence. -/
def headGroup (q : List Req) : List Req :=
  match q with
  | [] => []
  | r :: rest => match r.group with
    | none => [r]
    | some g => r :: rest.takeWhile (fun x => x.group == some g)

/-- A Crossing without the units that `hit` names. -/
def Xbar.without (hit : NetUnit → Bool) (b : Xbar) : Xbar :=
  let keep : Tbl (List NetUnit) → Tbl (List NetUnit) := fun l =>
    (l.map (fun q => (q.1, q.2.filter (fun u => !hit u)))).filter (fun q => !q.2.isEmpty)
  { b with queues := keep b.queues, express := keep b.express, bridge := keep b.bridge, redo := b.redo.filter (fun e => !hit e.2.1) }

/-- Units of a packet on a virtual network go with it. -/
def dropUnits (vnet port tag : Nat) (s : State) : State :=
  { s with xbars := s.xbars.map (fun e => (e.1, e.2.without (fun u => u.port == port && u.tag == tag && u.vnet == vnet))) }

/-- A request in the network waits behind a Failed link (R84): one lies on the way its header unit has still to go. -/
def transitBehind (s : State) (c : Nat) (r : Req) : Bool :=
  let hit := fun (u : NetUnit) => u.port == r.port && u.tag == r.tag && u.stamp == r.stamp && u.vnet == 0 && u.first
  s.xbars.any (fun e =>
    let here := e.2.queues.any (fun q => q.2.any hit) || e.2.express.any (fun q => q.2.any hit)
    let back := e.2.redo.any (fun q => hit q.2.1 && linkFailed s e.1 q.1)
    let on := here || e.2.redo.any (fun q => hit q.2.1)
    back || (on && wayFailed s e.1 (channelCrossing c) 0))

/-- Transit of a request to slice c ends (R172): out of the network, or from the head of its ingress queue. -/
def arriveAt (c p tag : Nat) (s : State) : State :=
  match (tget s.transit c []).find? (fun r => r.port == p && r.tag == tag) with
  | some r =>
    if transitBehind s c r then s
    else
      let s := dropUnits 0 p tag { s with transit := tput s.transit c ((tget s.transit c []).filter (fun x => x.stamp != r.stamp)) [] }
      advanceHorizon c (arrive r s)
  | none =>
    let g := headGroup (s.port p).ingress
    let held := (s.net.hold.contains 0 && !(g.any (fun r => r.res))) || routeFailed s p c
    if !held && g.any (fun r => r.tag == tag && reqChan s r == some c) then
      let s := s.modPort p (fun q => { q with ingress := q.ingress.drop g.length })
      advanceHorizon c (g.foldl (fun t r => arrive r t) s)
    else s

/-! ### Issuing a packet in one step -/

/-- A packet of port p comes in, meets Forecast, and, where it is admitted with nothing ahead of it, reaches its slice
(log 30). -/
def issue (p : Nat) (h : BitVec 512) (data : List (BitVec 512)) (s : State) : State :=
  let u := admitFront p (feed p ((h, true) :: data.map (fun d => (d, true))) s)
  if hdrCmd h = 0x30 then u
  else match s.target (hdrAddr h) with
    | some (c, _) => arriveAt c p (hdrTag h) u
    | none => u

/-! ### Egress (R23, R57, R61) -/

/-- A response leaves the network: it is taken from those on their way to port p. -/
def takeBack (p tag : Nat) (t : Stamp) (s : State) : State :=
  s.modPort p (fun q => { q with coming := q.coming.filter (fun b => !(b.resp.tag == tag && b.resp.stamp == t)) })

/-- The way of a response to port p ends (R73): the oldest whose way is open reaches the response buffer, and its units
leave the network. -/
def arriveBack (p : Nat) (s : State) : State :=
  match (s.port p).coming.find? (fun b => !backFailed s p b.chan && (b.sent || b.chain || !s.net.hold.contains 1)) with
  | some b => respond b.resp (dropUnits 1 p b.resp.tag (takeBack p b.resp.tag b.resp.stamp s))
  | none => s

/-- The response at the front of the buffer is registered in the egress register, where the initiator has given a credit
for its header; its tag is free (R57, R61). Port 100 needs none. -/
def registerEgress (p : Nat) (s : State) : State :=
  let q := s.port p
  match q.egress, q.resp with
  | none, r :: rest =>
    if q.egressCredits = 0 && p != 100 then s
    else
      let s := s.setPort p { q with egress := some r, egressLeft := r.units, out := [], resp := rest,
                                    tags := q.tags.filter (fun u => !(u.tag == r.tag && u.req.stamp == r.stamp)) }
      let lat := s.since r.stamp.absCycle
      let slack := slackPs (s.stampNow p) r.deadline / 500
      let s := countPort p 9 1 (countPort p 6 r.data.length (countPort p 0x0B lat (countPort p 0x0F slack s)))
      let s := if r.status != 0 then countPort p 0x0A 1 s else s
      let s := if r.status = 1 then countPort p 0x0D 1 s else s
      let s := if r.status = 2 then countPort p 0x0E 1 s else s
      if r.status = 0x30 then s else sampleEnd r.stamp r.status false s
  | _, _ => s

/-- Units of the response in the egress register go to the initiator, one for each credit (R41, R61). -/
def drainEgress (p : Nat) (s : State) : State :=
  let q := s.port p
  match q.egress with
  | some r =>
    let n := min q.egressLeft q.egressCredits
    let units := (r.outUnits.drop (r.units - q.egressLeft)).take n
    s.setPort p { q with out := q.out ++ units, egressCredits := q.egressCredits - n, egressLeft := q.egressLeft - n,
                         egress := if q.egressLeft ≤ n then none else some r }
  | none => s

/-- Synthesise the TIMEOUT of a tag (R23): the tag is free, a response that still comes is late. -/
def timeoutTag (p : Nat) (u : TagUse) (s : State) : State :=
  let q := s.port p
  let stalled := q.answered u.tag u.req.stamp
  let resp := q.resp.filter (fun r => !(r.tag == u.tag && r.stamp == u.req.stamp))
  let late := if stalled || u.lost then q.late else q.late ++ [(u.tag, u.req.stamp)]
  let s := s.setPort p { q with
    tags := q.tags.filter (fun v => !(v.tag == u.tag && v.req.stamp == u.req.stamp))
    resp := resp ++ [{ plainResp u.req 0x30 with status := 0x30 }]
    late := late }
  let s := if stalled then portCause p 8 (s.addObj (0x2200 + p) 0x16 1) else s
  sampleEnd u.req.stamp 0x30 true (s.addObj (0x2200 + p) 0x0D 1)

/-- The wait of a tag's use, for a twin-durable full-line write one made here where it has not settled yet (R29, R280). -/
def twinWaitOf (s : State) (p : Nat) (u : TagUse) : Option TwinWait :=
  match s.mirror.waits.find? (fun w => w.resp.port == p && w.resp.tag == u.tag && w.resp.stamp == u.req.stamp) with
  | some w => some w
  | none =>
    if u.req.twin && u.req.full && !(s.port p).answered u.tag u.req.stamp then
      some { fence := false, resp := plainResp u.req 0, dist := ((s.target u.req.addr).map (fun x => x.2.2.1)).getD 0, counted := [] }
    else none

/-- A twin-durable use is answered OK_LOCAL_ONLY (R29). -/
def localOnly (p : Nat) (u : TagUse) (s : State) : State :=
  match twinWaitOf s p u with
  | some w => answerWait w 2 true s
  | none => s

/-- The first cycle of a deadline slot (R23): every outstanding tag that is due is TIMEOUT. A twin-durable one is
acknowledged instead, and its OK_LOCAL_ONLY stands (R29). -/
def checkDeadlines (p : Nat) (s : State) : State :=
  (s.port p).tags.foldl (fun t u =>
    if t.duePassed u.req.deadline then
      (if (t.port p).resp.any (fun r => r.tag == u.tag && r.stamp == u.req.stamp && r.status == 2) then t
       else if (twinWaitOf t p u).isSome then localOnly p u t else timeoutTag p u t)
    else t) s

end Sys2Proof.Machine
end

