-- ==== Sys2Proof/Machine/Refresh.lean ====
section
/-! DEFINITION. Refresh as the command engine carries it out (R136, R147-R150): the refresh and refresh management of one
bank index of a rank, refreshes held up by a lock or an ALERT_N episode, and the MRR and MPC work of a placement. -/

namespace Sys2Proof.Machine

/-- Rank slots with a rank: position and rank of each module of the channel. -/
def rankSlots (s : State) (c : Nat) : List Nat :=
  [0, 1].flatMap (fun p => match s.moduleAt (2 * c + p) with
    | some m => (List.range m.ranks).map (fun r => 4 * p + r)
    | none => [])

/-- The coordinates of a bank key. -/
def bankCoord (key row : Nat) : Coord :=
  { sub := key / 256, bg := key % 32 / 4, bank := key % 4, col := 0, rank := key / 32 % 4, pos := key / 128 % 2, row := row }

/-- Take the earliest free CA cycles of a subchannel from a time on (R141): the time, and the state with them taken. -/
def takeCa (c sub n from_ : Nat) (s : State) : State × Nat :=
  let sb := (s.chan c).sub sub
  let t := caAfter sb.ca n 64 from_
  (s.modChan c (fun ch => ch.setSub sub { sb with ca := (caCycles t n ++ sb.ca).take 80 }), t)

/-- Issue RFMsb to a bank: its rolling count falls by RAAIMT (R150; log 32). -/
def issueRfm (c key from_ : Nat) (s : State) : State :=
  let x := bankCoord key 0
  let r := takeCa c x.sub 1 (max from_ (((s.chan c).bank key).preAt + tRP s c)) s
  let b := (r.1.chan c).bank key
  let s := r.1.modChan c (fun ch => ch.setBank key { b with raa := b.raa - (raaLimits s c x.pos).1, refUntil := max b.refUntil (r.2 + tRFMsb s c) })
  countChan c 0x11 1 (some x.sub) (noteCmd c (histOf s 6 x) (s.addObj (chIdx 0x3011 c) 9 1))

/-- Issue REFsb to bank index b of a rank at or after a time: its eight banks are under refresh for TRfcSb. -/
def issueRef (c sub rs b from_ : Nat) (s : State) : State :=
  let r := takeCa c sub 1 from_ s
  let s := (bankKeys sub rs b).foldl (fun t k => t.modChan c (fun h =>
    h.setBank k { (h.bank k) with refUntil := max (h.bank k).refUntil (r.2 + tRFCsb t c) })) r.1
  let s := s.modChan c (fun h => h.setSub sub { (h.sub sub) with refs := tins (h.sub sub).refs rs r.2 })
  countChan c 0x10 1 (some sub) (noteCmd c (histOf s 5 (bankCoord (256 * sub + 32 * rs + b) 0)) s)

/-- A bank that asks for RFMsb in its placement: its count is at RAAIMT (R150). -/
def wantsRfm (s : State) (c key : Nat) : Bool :=
  let lim := (raaLimits s c (bankCoord key 0).pos).1
  decide (0 < lim) && decide (lim ≤ ((s.chan c).bank key).raa)

/-- The refresh of one bank index of one rank on one subchannel from DCK time `from_` on (R147, R150): PRE to its open rows,
REFsb where the set issues refresh, RFMsb to the banks at RAAIMT. A set that issues none leaves the other banks alone. -/
def refreshRank (c b sub rs from_ : Nat) (refresh : Bool) (s : State) : State :=
  let keys := bankKeys sub rs b
  let rfm := keys.filter (wantsRfm s c)
  let closing := if refresh then keys else rfm
  let s := closing.foldl (fun t k => if ((t.chan c).bank k).openAt from_ then closeBank c k from_ t else t) s
  let s := if refresh then issueRef c sub rs b (refreshAt s c sub rs b from_) s else s
  rfm.foldl (fun t k => issueRfm c k (if refresh then ((t.chan c).bank k).refUntil else from_) t) s

/-- A lock or an ALERT_N episode holds the banks of index b of a rank (R149). -/
def refreshBlocked (s : State) (c b sub rs : Nat) : Bool :=
  let ch := s.chan c
  (ch.sub sub).alert.isSome || (match ch.lock with
    | some k => k.rest.any (fun m => let x := s.coordOf c m.line; x.sub == sub && x.rankSlot == rs && x.bank == b)
    | none => false)

/-- A rank's refresh in a placement: now, or held up until its banks are free. -/
def placeRefresh (c b sub rs from_ : Nat) (refresh : Bool) (s : State) : State :=
  if refreshBlocked s c b sub rs then
    s.modChan c (fun ch => ch.setSub sub { (ch.sub sub) with late := (ch.sub sub).late ++ [(b, rs, refresh)] })
  else refreshRank c b sub rs from_ refresh s

/-- Issue the refreshes that were held up on a subchannel and are free (R149): each delayed REFsb counts. -/
def heldRefresh (c sub : Nat) (s : State) : State :=
  ((s.chan c).sub sub).late.foldl (fun t e =>
    if refreshBlocked t c e.1 sub e.2.1 then t
    else
      let t := t.modChan c (fun ch => ch.setSub sub { (ch.sub sub) with late := (ch.sub sub).late.erase e })
      let t := refreshRank c e.1 sub e.2.1 (t.dckNow c) e.2.2 t
      if e.2.2 then (t.addObj (chIdx 0x3011 c) 8 1).raiseChan c 3 sub e.2.1 else t) s

/-! ### MRR and MPC work of a placement (R136, R147, R323; log 77) -/

/-- Frames since a piece of work was last done; none if never. -/
def choreAge (s : State) (c key : Nat) : Option Nat :=
  match tget (s.chan c).chores key 0 with
  | 0 => none
  | n + 1 => some ((s.now.frame + frameMod - n % frameMod) % frameMod)

def choreDue (s : State) (c key frames : Nat) : Bool := match choreAge s c key with | none => true | some a => decide (frames ≤ a)

def setChore (c key v : Nat) (s : State) : State := s.modChan c (fun ch => { ch with chores := tput ch.chores key v 0 })

/-- Put a command of a placement on the CA bus of a rank's subchannels, TMrr behind an earlier one, and in the history. -/
def choreCmd (c cmd rs : Nat) (s : State) : State :=
  forN 2 s (fun sub t =>
    let last := ((t.chan c).sub sub).ca.foldl max (t.dckNow c)
    let r := takeCa c sub 2 (last + tmDck t c 0x1E 16) t
    noteCmd c (histOf r.1 cmd (bankCoord (256 * sub + 32 * rs) 0)) r.1)

/-- MR4 reads: every rank once per 64 frames, and where the placement brings a reading. -/
def mr4Reads (c : Nat) (reading : Bool) (s : State) : State :=
  (rankSlots s c).foldl (fun t rs => if reading || choreDue t c rs 64 then setChore c rs (t.now.frame + 1) (choreCmd c 8 rs t) else t) s

/-- ZQ calibration: every module's start once per 128 frames, its latch in a placement TZqCal later. -/
def zqCalibration (c : Nat) (s : State) : State :=
  forN 2 s (fun p t =>
    if (t.moduleAt (2 * c + p)).isNone then t
    else
      let due := tget (t.chan c).chores (10 + p) 0
      if due != 0 then (if due ≤ t.dckNow c then setChore c (10 + p) 0 (choreCmd c 10 (4 * p) t) else t)
      else if choreDue t c (8 + p) 128 then
        setChore c (8 + p) (t.now.frame + 1) (setChore c (10 + p) (t.dckNow c + tmDck t c 0x1C 0) (choreCmd c 10 (4 * p) t))
      else t)

/-- The DQS interval oscillator of one rank slot after another: started once per WriteTrackFrames, read in a later
placement. -/
def oscillator (c : Nat) (s : State) : State :=
  let ranks := rankSlots s c
  match tget (s.chan c).chores 13 0 with
  | 0 =>
    if s.obj (chIdx 0x3040 c) 1 != 3 || ranks.isEmpty || !choreDue s c 12 (s.obj (chIdx 0x3040 c) 0x15) then s
    else
      let turn := tget (s.chan c).chores 14 0 % ranks.length
      let rs := ranks.getD turn 0
      setChore c 14 (turn + 1) (setChore c 13 (rs + 1) (setChore c 12 (s.now.frame + 1) (choreCmd c 10 rs s)))
  | n + 1 => setChore c 13 0 (choreCmd c 8 n s)

/-- The commands a placement issues beside refresh (R147 step 4). -/
def placementWork (c : Nat) (reading : Bool) (s : State) : State := oscillator c (zqCalibration c (mr4Reads c reading s))

end Sys2Proof.Machine
end

