-- ==== Sys2Proof/Machine/Arbiter.lean ====
section
/-! DEFINITION. The channel arbiter (R106-R128): the grant of one line position under the grant order, in each arbiter
mode, the effect of a granted line operation, and the top-down classes (R393). -/

namespace Sys2Proof.Machine

/-- The arbiter mode of channel c: 0 Rotating, 1 DeadlineFirst, 2 Draining (R124, R125). -/
def State.arbMode (s : State) (c : Nat) : Nat :=
  if s.blk.mode = 2 then 2
  else match s.obj (arbIdx c) 0x0A with
    | 1 => 0
    | 2 => 1
    | _ => s.blk.mode

/-- Urgency of an entry of port p (R31): UrgencyBase + min(age, 100 slots) × UrgencySlope. -/
def urgency (s : State) (e : Entry) : Nat :=
  s.obj (0x2200 + e.port) 5 + min (s.since e.stamp.absCycle / 40) 100 * s.obj (0x2200 + e.port) 6

/-- Rank of a member of a rotating ring: those that have won stand last, the latest at the end (R112). -/
def ringRank (ring : List Nat) (p : Nat) : Nat := match ring.idxOf? p with | some i => 1000 + i | none => p

def ringWin (ring : List Nat) (p : Nat) : List Nat := ring.filter (fun q => q != p) ++ [p]

/-- The position a grant decides: the next after the last decided, or the clock's plus the decision lead (R139). -/
def nextPosition (s : State) (c : Nat) : Nat :=
  max ((s.chan c).pos + 1) (s.cycleNow * s.pSlot c / 40 + decisionLead s c)

/-- What a position offers an entry. -/
def planOf (s : State) (c pos : Nat) (e : Entry) : Except Block Plan := planOp s c (s.coordOf c e.line) e.wr pos

def eligible (s : State) (c pos : Nat) (e : Entry) : Bool := match planOf s c pos e with | .ok _ => true | .error _ => false

/-! ### Write grouping (R143) -/

/-- Writes queued for a subchannel in the G write-back and B queues. -/
def writesQueued (s : State) (c sub : Nat) : Nat :=
  let ch := s.chan c
  ((ch.gWb ++ ch.bq).flatMap (fun e => if e.group.isEmpty then [(e.line, e.wr)] else e.group.map (fun m => (m.line, m.wr)))).filter
    (fun o => o.2 && (s.coordOf c o.1).sub == sub) |>.length

/-- Change the mode of a subchannel at a decision point. -/
def writeMode (c pos sub : Nat) (s : State) : State :=
  let ch := s.chan c
  let sb := ch.sub sub
  let wq := writesQueued s c sub
  let i := chIdx 0x3012 c
  if sb.writeMode then
    (if wq ≤ s.obj i 4 || s.obj i 5 ≤ sb.writes then s.setChan c (ch.setSub sub { sb with writeMode := false, writes := 0 }) else s)
  else
    let reads := (ch.gRead ++ ch.openU ++ ch.gate ++ ch.bq).filter (fun e => !e.wr && (s.coordOf c e.line).sub == sub)
    if s.obj i 3 ≤ wq || (0 < wq && !(reads.any (eligible s c pos))) then
      (s.setChan c (ch.setSub sub { sb with writeMode := true, writes := 0 })).addObj i 6 1
    else s

/-! ### Candidates -/

/-- Entries that take B service, in arrival order: the B queue's and the G write-backs (R28, R107). -/
def Chan.served9 (ch : Chan) : List Entry :=
  let plain := ch.bq.filter (fun e => e.group.isEmpty)
  if ch.gWb.isEmpty then plain else isort (fun a b => decide (a.enq ≤ b.enq)) (plain ++ ch.gWb)

/-- Entries of the B queue in each requester's lookahead (R114): its first eight, none behind an older entry of the same
line. -/
def lookahead (q : List Entry) : List Entry :=
  (q.foldl (fun (acc : List Entry × List Entry) e =>
    let mine := acc.1.filter (fun x => x.port == e.port)
    let later := acc.1.any (fun x => x.line == e.line)
    (acc.1 ++ [e], if mine.length < 8 && !later then acc.2 ++ [e] else acc.2)) ([], [])).2

/-- Entries with no older one of the same line (R114). -/
def firstOfLine (q : List Entry) : List Entry :=
  (q.foldl (fun (acc : List Nat × List Entry) e =>
    (e.line :: acc.1, if acc.1.contains e.line then acc.2 else acc.2 ++ [e])) ([], [])).2

/-- Guarded (R115): not in class G, its deadline 200 ns or less ahead; a metadata read of R211 is queued guarded. -/
def nearDeadline (s : State) (e : Entry) : Bool :=
  e.guarded || (s.cls e.port != .g && serialLe slotMod e.deadline ((s.cycleNow + 400) / 40))

/-- Read or write mode lets an entry through (R143); a guarded entry goes in either (R144). -/
def modeAllows (s : State) (c : Nat) (e : Entry) : Bool :=
  nearDeadline s e || ((s.chan c).sub (s.coordOf c e.line).sub).writeMode == e.wr

/-- Line positions from pos to a slot start, by absolute slot. -/
def posOfSlot (s : State) (c a : Nat) : Nat := a * s.pSlot c

/-- The operations of a lock by their coordinates. -/
def lockOps (s : State) (c : Nat) (g : List Member) : List (Coord × Bool) := g.map (fun m => (s.coordOf c m.line, m.wr))

/-- A complete lock may start at pos (R122): it ends before the next G position, refresh placement and gate opening. -/
def lockMayStart (s : State) (c pos : Nat) (e : Entry) : Bool :=
  let ops := lockOps s c e.group
  let finish := lockEnd s c pos ops
  let a0 := pos / max 1 (s.pSlot c)
  let nextG := (List.range 192).findSome? (fun k =>
    (((gPositions s c ((a0 + k) % 192)).map (fun x => posOfSlot s c (a0 + k) + x.1)).filter (fun q => decide (pos < q))).head?)
  let nextGate := (List.range 192).findSome? (fun k =>
    if s.gateSlot c ((a0 + k + 1) % 192) && !s.gateSlot c ((a0 + k) % 192) then some (posOfSlot s c (a0 + k + 1)) else none)
  lockFits s c ops &&
    (match nextG with | some q => decide (finish < q) | none => true) &&
    (match nextGate with | some q => decide (finish < q) | none => true) &&
    ops.all (fun m => decide (4 * finish < nextPlacement s c m.1.bank a0))

/-- The earliest deadline, then stamp. -/
def sooner (a b : Entry) : Bool :=
  if a.deadline = b.deadline then stampLt a.stamp b.stamp else serialLt slotMod a.deadline b.deadline

/-- The smaller finish tag, ties by the ring (R112, R116). -/
def smallerTag (ring : List Nat) (a b : Entry) : Bool :=
  if a.ftag = b.ftag then decide (ringRank ring a.port < ringRank ring b.port) else serialLt tickMod a.ftag b.ftag

/-- The higher urgency, ties by the ring. -/
def moreUrgent (s : State) (ring : List Nat) (a b : Entry) : Bool :=
  if urgency s a = urgency s b then decide (ringRank ring a.port < ringRank ring b.port) else decide (urgency s b < urgency s a)

/-- The context whose burst runs or waits and may take step 8 under a claim of the gate (R185). At thermal step 3 gate traffic
is admitted nothing: no burst starts (R355; log 51). -/
def ctxAllowed (s : State) (c k : Nat) : Bool :=
  s.obj 0x7030 4 != 3 && match s.obj 0x2F00 (0x10 + c) with
  | 0 => true
  | 4 => k == 3
  | 10 => k == 2
  | _ => false

/-! ### The effect of a grant -/

/-- Remove an entry from the queue that holds it. -/
def unqueue (c : Nat) (e : Entry) (s : State) : State :=
  s.modChan c (fun ch => { ch with
    gRead := ch.gRead.erase e, gWb := ch.gWb.erase e, openU := ch.openU.erase e, gate := ch.gate.erase e,
    bq := ch.bq.erase e, rewrites := ch.rewrites.erase e })

/-- Counters of a grant (R128). -/
def countGrant (c : Nat) (e : Entry) (s : State) : State :=
  let w := s.since e.enq
  let i := 0x10 + e.port
  let s := (s.addObj (chIdx 0x3022 c) i 1).addObj (chIdx 0x3023 c) i w
  let s := if s.obj (chIdx 0x3024 c) i < w then s.setObj (chIdx 0x3024 c) i w else s
  countChan c 2 1 (some (s.coordOf c e.line).sub) s

/-- An Uncorrectable or poisoned line that scrub finds (R235, R246). -/
def scrubLine (c l : Nat) (s : State) : State :=
  match (s.chan c).dist with
  | none => s
  | some d =>
    let x := (s.dist d).desc
    let i := chIdx 0x3002 c
    let bits' := s.dramLine c l
    let r := readDram c l false s
    match r.2 with
    | .clean _ => r.1
    | .erasure _ => r.1
    | .corrected _ _ => r.1.addObj i 5 1
    | .poison => r.1.addObj i 7 1
    | .uncorrectable =>
      let s := r.1.addObj i 6 1
      match x.regionOf (x.localOf c l) with
      | .data =>
        let y := s.coordOf c l
        let s := s.raiseChan c 9 y.sub y.rankSlot
        if !x.format then s
        else
          let s := lose d 0 (x.localOf c l / 64) c s
          if s.obj (chIdx 0x3080 c) 0x13 = 1 then freezeChannel c 1 (some l) (some bits') 99 s else s
      | .counter p => lose d 2 p c s
      | .mac m => lose d 1 m c s
      | .node j k =>
        if j ≤ 1 then lose d (lossKind j) k c s
        else
          let v := readCopies d j k s
          match v.2 with
          | some _ => v.1
          | none => lose d (lossKind j) k c v.1
      | .unused => s

/-- R_c, the scrub runs of a channel: U ÷ 4 096 (R234). -/
def scrubRuns (s : State) (c : Nat) : Nat :=
  match s.descOf c with
  | some (_, x) => x.channelBytes / 4096
  | none => 0

/-- A scrub run is through (R234, R235): the cursor moves, saved every 2^20 runs; past the last run a round is done. -/
def scrubEnd (c : Nat) (s : State) : State :=
  let i := chIdx 0x3002 c
  let n := s.obj i 3 + 1
  if scrubRuns s c ≤ n then ((s.setObj i 3 0).addObj i 4 1).raiseChan c 0xD
  else
    let s := s.setObj i 3 n
    if n % 2 ^ 20 = 0 then { s with mram := sbNat s.mram (scrubCursorAt c) 8 n } else s

/-- Progress of a context's burst at a grant: it ends with its last operation (R120, R121). -/
def ctxAdvance (c k : Nat) (s : State) : State :=
  let s := addProgress c k 1 s
  match (s.chan c).burst with
  | some (j, left) =>
    if j = k then
      if left ≤ 1 then
        let rest := (tget (s.chan c).bursts k []).drop 1
        let s := s.modChan c (fun ch => { ch with burst := none, bursts := tput ch.bursts k rest [] })
        if k = 0 then (let s := scrubEnd c s; if rest.isEmpty then releaseScrub (endCtx c 0 s) else s) else s
      else s.modChan c (fun ch => { ch with burst := some (k, left - 1) })
    else s
  | none => s

/-- Carry out a granted operation. The answer says whether it went: a write-back may have to wait for its counters
(R209, R214). -/
def runOp (c : Nat) (e : Entry) (s : State) : State × Bool :=
  match e.kind with
  | .fill =>
    let s := noteT e.stamp 3 (match s.pline c e.line with
      | some x => s.setPline c e.line { x with fillGranted := true }
      | none => s)
    (s.modChan c (fun ch => { ch with granted := ch.granted ++ [{ e with at_ := s.cycleNow }] }), true)
  | .raw _ _ _ _ =>
    ((noteT e.stamp 3 s).modChan c (fun ch => { ch with granted := ch.granted ++ [{ e with at_ := s.cycleNow }] }), true)
  | .writeBack =>
    match s.pline c e.line with
    | none => (s, true)
    | some x =>
      if x.st != .dirty then (s, true)
      else
        let r := storeData e.port c e.line x.dist x.dline x.data s
        if r.2 then
          (match r.1.pline c e.line with
           | some y => (r.1.setPline c e.line { y with wbQueued := false, wbGranted := true }).modChan c
               (fun ch => { ch with granted := ch.granted ++ [{ e with at_ := s.cycleNow }] })
           | none => r.1, true)
        else r
  | .rewrite v => ((writeDram c e.line v s).addObj (chIdx 0x3001 c) 5 1, true)
  | .scrub => (scrubLine c e.line s, true)
  | .flush => (flushLedger true c e.line (s.chan c).dist s, true)
  | .serve _ _ => (s.modChan c (fun ch => { ch with granted := ch.granted ++ [{ e with at_ := s.cycleNow }] }), true)
  | .metaRead => (s, true)
  | .metaWrite => (s, true)

/-- Note how the first line of a sampled request met its bank and which step granted it (R399). -/
def noteGrant (e : Entry) (p : Plan) (step : Nat) (s : State) : State :=
  { s with samples := s.samples.map (fun x =>
      if x.req.stamp == e.stamp && x.bankRow < 64 then
        { x with bankRow := x.bankRow + 64 * p.rowCode,
                 flags := if step = 3 then setBit x.flags 3 true else if step = 6 then setBit x.flags 4 true else x.flags }
      else x) }

/-- A fill made for a WRITE_MASKED or atomic with no read waiting (R393). -/
def partialFill (s : State) (c : Nat) (e : Entry) : Bool :=
  e.kind == .fill && (match s.pline c e.line with
    | some x => !x.waiting.isEmpty && x.waiting.all (fun a => !a.kind.isRead)
    | none => false)

/-- Count a position's top-down class (R393): its code, and the channel's positions elapsed. -/
def countPosition (c code : Nat) (s : State) : State :=
  countChan c code 1 none (countChan c 1 1 none (s.addObj (chIdx 0x3061 c) (code - 0x1F) 1))

/-- The class of a position in which an operation was granted (R393): training, metadata, a fill for a partial write alone,
else Retired. -/
def grantCode (s : State) (c : Nat) (e : Entry) : Nat :=
  let metaLine := match e.kind with
    | .metaRead => true
    | .metaWrite => true
    | .flush => true
    | .fill => false
    | .raw _ _ _ _ => false
    | .serve _ _ => false
    | .writeBack => false
    | _ => (match s.descOf c with
      | some (_, x) => (match x.regionOf (x.localOf c e.line) with | .data => false | .unused => false | _ => true)
      | none => false)
  if e.ctx == some 3 then 0x25 else if metaLine then 0x23 else if partialFill s c e then 0x24 else 0x20

/-- Put back the queues of channel c as they stood before an operation that could not go, with what it queued meanwhile. -/
def requeue (old : Chan) (c : Nat) (s : State) : State :=
  let back := fun (a b : List Entry) => a ++ b.filter (fun e => !a.contains e)
  s.modChan c (fun ch => { ch with
    gRead := back old.gRead ch.gRead, gWb := back old.gWb ch.gWb, openU := back old.openU ch.openU,
    gate := back old.gate ch.gate, bq := back old.bq ch.bq })

/-- Grant an entry in a position, in a step of the grant order. The answer says whether it went. -/
def grantEntry (c pos step : Nat) (e : Entry) (p : Plan) (s : State) : State × Bool :=
  let x := s.coordOf c e.line
  let code := grantCode s c e
  let r := runOp c e (unqueue c e s)
  if r.2 then
    let s := placeOp c e.line x e.wr pos p r.1
    let s := noteGrant e p step (countGrant c e s)
    let s := if e.wr && (s.chan c |>.sub x.sub).writeMode && step = 9 then
        s.modChan c (fun ch => ch.setSub x.sub { (ch.sub x.sub) with writes := (ch.sub x.sub).writes + 1 }) else s
    let sub := some x.sub
    let s := match step with
      | 3 => countChan c 4 1 sub (s.addObj (chIdx 0x3025 c) 7 1)
      | 4 => countChan c (if e.wr then 5 else 3) 1 sub s
      | 5 => countChan c 8 1 sub s
      | 6 => countChan c 0x1D 1 sub (s.addObj (chIdx 0x3025 c) 6 1)
      | 7 => countChan c (if s.cls e.port == .u then 7 else 8) 1 sub s
      | 8 => countChan c 8 1 sub s
      | 9 => countChan c 6 1 sub s
      | _ => s
    let s := match e.ctx with | some k => ctxAdvance c k s | none => s
    (countPosition c code s, true)
  else
    -- the line waits for its counters: the entry stands where it stood (R214)
    (countPosition c 0x27 (requeue (s.chan c) c r.1), false)

/-! ### The grant order (R112) -/

/-- What a position's arbitration chose: a step and an entry, or nothing. -/
inductive Choice where
  | take (step : Nat) (e : Entry)
  | startLock (e : Entry)
  | startBurst (k len : Nat) (e : Entry)
  | idle
  deriving DecidableEq, Repr

/-- A member of a lock as an entry; its group says that it belongs to one. -/
def lockEntry (s : State) (port : Nat) (m : Member) : Entry :=
  { mkEntry s m.line m.wr (if m.wr then .writeBack else .fill) port 0 (s.stampNow port) with enq := m.enq, group := [m] }

/-- The first choice of a list that has one. -/
def firstSome {α : Type} : List (Unit → Option α) → Option α
  | [] => none
  | f :: rest => match f () with | some x => some x | none => firstSome rest

/-- The best eligible entry of a list. -/
def bestOf (s : State) (c pos : Nat) (lt : Entry → Entry → Bool) (l : List Entry) : Option Entry :=
  leastBy lt (l.filter (eligible s c pos))

/-- The first operation waiting in context k. -/
def ctxHead (ch : Chan) (k : Nat) : Option Entry := (ch.gate.filter (fun e => e.ctx == some k)).head?

/-- The next burst of a maintenance context of `among` that fits and can go, rotating among contexts (R112 step 8, R121). -/
def nextBurst (s : State) (c pos : Nat) (among : List Nat) : Option Choice :=
  let ch := s.chan c
  let left := s.gateFrom c pos
  let ready := among.filterMap (fun k =>
    match tget ch.bursts k [], ctxHead ch k with
    | n :: _, some e => if ctxAllowed s c k && n ≤ left && eligible s c pos e then some (k, n, e) else none
    | _, _ => none)
  (leastBy (fun a b => decide (ringRank ch.ctxRing a.1 < ringRank ch.ctxRing b.1)) ready).map (fun r => .startBurst r.1 r.2.1 r.2.2)

/-- The operation of an entry if it can go. -/
def takeIf (s : State) (c pos step : Nat) (e : Option Entry) : Option Choice :=
  match e with
  | some e => if eligible s c pos e then some (.take step e) else none
  | none => none

/-- Step 3: overdue G reads, the earliest stamp first (R113). -/
def stepOverdue (s : State) (c pos : Nat) : Option Choice :=
  (bestOf s c pos (fun x y => stampLt x.stamp y.stamp) ((s.chan c).gRead.filter (·.overdue))).map (.take 3)

/-- Step 4: at a G position of port p its read assigned there, else its oldest G write-back. -/
def stepReserved (s : State) (c pos a t i : Nat) : Option Choice :=
  match gOwner s c t i with
  | some p =>
    takeIf s c pos 4 ((s.chan c).gRead.filter (fun e => e.gpos == some (a, i))).head? <|>
      takeIf s c pos 4 ((s.chan c).gWb.filter (fun e => e.port == p)).head?
  | none => none

/-- Step 5: the next operation of the gate burst in progress. -/
def stepBurst (s : State) (c pos : Nat) : Option Choice :=
  match (s.chan c).burst with
  | some (k, _) => takeIf s c pos 5 (ctxHead (s.chan c) k)
  | none => none

/-- Gate entries that are no context bursts; rewrites are gate traffic. -/
def Chan.plainGate (ch : Chan) : List Entry := ch.gate.filter (fun e => e.ctx.isNone) ++ ch.rewrites

/-- Complete locked sequences in the B queue. -/
def Chan.locks (ch : Chan) : List Entry := ch.bq.filter (fun e => !e.group.isEmpty)

/-- The entry that wins among plain ones and locks that may start, as a choice. -/
def pick (step : Entry → Nat) (lt : Entry → Entry → Bool) (l : List Entry) : Option Choice :=
  (leastBy lt l).map (fun e => if e.group.isEmpty then .take (step e) e else .startLock e)

/-- Steps 3 to 9 in Rotating mode, on position index i of slot t. -/
def chooseRotating (s : State) (c pos a t i : Nat) : Choice :=
  let ch := s.chan c
  let gate := s.gatePos c t i
  let steps : List (Unit → Option Choice) := [
    fun _ => stepOverdue s c pos,
    fun _ => stepReserved s c pos a t i,
    fun _ => stepBurst s c pos,
    fun _ => (bestOf s c pos sooner ((ch.openU ++ firstOfLine ch.served9 ++ (if gate then ch.plainGate else [])).filter
        (nearDeadline s))).map (.take 6),
    fun _ => if gate then (bestOf s c pos (moreUrgent s ch.ring) (ch.plainGate ++ ch.openU)).map (.take 7)
      else if 0 < s.obj (arbIdx c) 0x0C && !s.gateSlot c t then (bestOf s c pos (moreUrgent s ch.ring) ch.openU).map (.take 7)
      else none,
    fun _ => if gate && ch.burst.isNone then nextBurst s c pos [0, 1, 2, 3] else none,
    fun _ => pick (fun _ => 9) (smallerTag ch.ring)
      ((lookahead ch.served9).filter (fun e => modeAllows s c e && eligible s c pos e) ++ ch.locks.filter (lockMayStart s c pos)) ]
  (firstSome steps).getD .idle

/-- DeadlineFirst (R124): steps 3 to 5, the earliest deadline of what may go here, then step 8 in the gate. -/
def chooseDeadline (s : State) (c pos a t i : Nat) : Choice :=
  let ch := s.chan c
  let gate := s.gatePos c t i
  let open_ := gate || decide (0 < s.obj (arbIdx c) 0x0C)
  let steps : List (Unit → Option Choice) := [
    fun _ => stepOverdue s c pos,
    fun _ => stepReserved s c pos a t i,
    fun _ => stepBurst s c pos,
    fun _ =>
      let l := (lookahead ch.served9).filter (modeAllows s c) ++ (firstOfLine ch.served9).filter (nearDeadline s) ++
        (if open_ then ch.openU else ch.openU.filter (nearDeadline s)) ++ (if gate then ch.plainGate else [])
      pick (fun e => if nearDeadline s e then 6 else if s.cls e.port == .u then 7 else 9) sooner
        (l.filter (eligible s c pos) ++ ch.locks.filter (lockMayStart s c pos)),
    fun _ => if gate && ch.burst.isNone then nextBurst s c pos [0, 1, 2, 3] else none ]
  (firstSome steps).getD .idle

/-- Draining (R124): port 98's operations, then the others by deadline, gates and calendar set aside. Write grouping binds
what is served as B (R144). -/
def chooseDraining (s : State) (c pos : Nat) : Choice :=
  let ch := s.chan c
  let others := ch.gRead ++ ch.openU ++ ch.gate ++ ch.rewrites ++ (lookahead ch.served9).filter (modeAllows s c)
  let steps : List (Unit → Option Choice) := [
    fun _ => (bestOf s c pos sooner ((ch.gate ++ ch.served9).filter (fun e => e.port == 98))).map (.take 7),
    fun _ => pick (fun _ => 9) sooner (others.filter (eligible s c pos) ++ ch.locks.filter (lockMayStart s c pos)) ]
  (firstSome steps).getD .idle

/-- Untrained and Training (R127): context 3 alone. -/
def chooseTraining (s : State) (c pos : Nat) : Choice :=
  let burst := match (s.chan c).burst with | some (3, _) => stepBurst s c pos | _ => none
  (burst <|> nextBurst s c pos [3]).getD .idle

/-- Locks that step 9 comes to before its winner and that may not start here (R122). -/
def passedLocks (s : State) (c pos : Nat) (choice : Choice) : List Entry :=
  let ch := s.chan c
  let lt := if s.arbMode c = 0 then smallerTag ch.ring else sooner
  let held := ch.locks.filter (fun e => !lockMayStart s c pos e)
  match choice with
  | .take 9 w => held.filter (fun e => lt e w)
  | .startLock w => held.filter (fun e => lt e w)
  | .idle => held
  | _ => []

/-- The class of a position in which nothing was granted (R393). -/
def idleClass (s : State) (c pos t i : Nat) : Nat :=
  let ch := s.chan c
  let all := ch.entries ++ ch.rewrites
  let why := all.map (fun e => match planOf s c pos e with | .ok _ => (none : Option Block) | .error b => some b)
  if s.inRefresh c (s.refreshDoubled c) t then 0x22
  else if !all.isEmpty && why.all (fun b => b == some .refresh) then 0x22
  else if s.swapSlot c t && decide (i < 2) then 0x25
  else if why.contains (some .turnaround) then 0x21
  else if all.isEmpty then 0x26
  else 0x27

/-- G reads whose assigned position has gone by become overdue (R113). -/
def markOverdue (c a i : Nat) (s : State) : State :=
  s.modChan c (fun ch => { ch with gRead := ch.gRead.map (fun e => match e.gpos with
    | some (b, j) => if !e.overdue && (serialLt slotMod b a || (b == a && decide (j ≤ i))) then { e with overdue := true } else e
    | none => e) })

/-- Spend the open allowance on an open U grant outside the gate, a guarded one too (R118; DEDUCED, log 76). -/
def spendOpen (c t : Nat) (e : Entry) (s : State) : State :=
  if s.cls e.port == .u && !gateConfined e.port && !s.gateSlot c t then
    s.setObj (arbIdx c) 0x0C (s.obj (arbIdx c) 0x0C - 1)
  else s

/-- Start a burst of context k (R112 step 8, R120): a context that was running loses the gate. -/
def beginBurst (c k len : Nat) (s : State) : State :=
  (setCtx c k 1 (loseOthers c k s)).modChan c (fun ch => { ch with burst := some (k, len), ctxRing := ringWin ch.ctxRing k })

/-! ### Locks (R122, R123) -/

/-- A Filling line without the accesses of a broken lock: its fill is asked for again where others wait, else it is gone. -/
def withoutMembers (c l : Nat) (keep : Access → Bool) (x : PLine) (s : State) : State :=
  let rest := x.waiting.filter keep
  match rest.head? with
  | none => s.delPline c l
  | some a =>
    let merged := rest.foldl (fun (v : BitVec 64 × BitVec 512) w =>
      match w.kind with | .masked m d => (v.1 ||| m, mergeBytes m v.2 d) | _ => v) (0, 0)
    queueFill { a with group := false }
      (s.setPline c l { x with waiting := rest, valid := merged.1, data := merged.2, wrote := rest.any (fun w => !w.kind.isRead) })

/-- A member of a lock that will not run: an access that waits for its line completes with DECODE; the write-back of a line
it wrote is queued by itself. -/
def dropMember (c : Nat) (stamp : Stamp) (m : Member) (s : State) : State :=
  match s.pline c m.line with
  | none => s
  | some x =>
    if m.wr then queueWriteBack c m.line (s.setPline c m.line { x with wbQueued := false })
    else
      let mine := fun (a : Access) => a.group && a.ord == stamp
      let s := (x.waiting.filter mine).foldl (fun t a => answer a 0x21 [] t) s
      withoutMembers c m.line (fun a => !mine a) x s

/-- A lock whose t_lock exceeds 256 ns never starts (R122): its members complete with DECODE. -/
def refuseLock (c : Nat) (e : Entry) (s : State) : State :=
  (e.group.foldl (fun t m => dropMember c e.stamp m t) (unqueue c e s)).addObj (0x2200 + e.port) 0x17 1

/-- Step 9 passes over locks that may not start here: each counts, or never starts (R122). -/
def passLocks (c : Nat) (l : List Entry) (s : State) : State :=
  l.foldl (fun t e => if lockFits t c (lockOps t c e.group) then t.addObj (chIdx 0x3025 c) 2 1 else refuseLock c e t) s

/-- The lock holds its channel to its last data beat (R123); a lock that an episode prolonged past t_lock counts. -/
def releaseLock (c pos : Nat) (s : State) : State :=
  match (s.chan c).lock with
  | some k =>
    if k.rest.isEmpty && k.until_ ≤ 4 * pos then
      let s := heldRefresh c 1 (heldRefresh c 0 (s.modChan c (fun ch => { ch with lock := none })))
      if k.alerted && (match k.due with | some d => decide (d < k.until_) | none => false) then s.addObj (chIdx 0x3025 c) 3 1 else s
    else s
  | none => s

/-- Step 1: a lock holds every position until its last member (R123). A write member whose counters are not there leaves the
lock, and its line's write-back waits by itself (R214). -/
def lockStep (c pos t i : Nat) (k : LockRun) (s : State) : State :=
  let s := countChan c 0x1E 1 none s
  match k.rest with
  | [] => countPosition c (idleClass s c pos t i) s
  | m :: rest =>
    let e := lockEntry s k.port m
    match planOf s c pos e with
    | .ok p =>
      let first := p.pre.getD (p.act.getD p.cas)
      let due := match k.due with | some d => d | none => first + lockTime s c (lockOps s c k.rest)
      let k' : LockRun := { k with rest := rest, due := some due, until_ := 4 * pos + 8 }
      let r := grantEntry c pos 1 e p (s.modChan c (fun ch => { ch with lock := some k' }))
      if r.2 then r.1 else dropMember c e.stamp m r.1
    | .error _ => countPosition c (idleClass s c pos t i) s

/-! ### A position (R112) -/

/-- Grant an entry if it can go. -/
def grantIf (c pos t i step : Nat) (e : Entry) (s : State) : State × Bool :=
  match planOf s c pos e with
  | .ok p => grantEntry c pos step e p s
  | .error _ => (countPosition c (idleClass s c pos t i) s, false)

/-- V follows the tag of an entry that step 9 grants (R116). -/
def advanceV (c tag : Nat) (s : State) : State :=
  if serialLt tickMod (s.obj (arbIdx c) 0x0B) tag then s.setObj (arbIdx c) 0x0B tag else s

/-- Carry out what a position's arbitration chose. -/
def carryOut (c pos t i : Nat) (choice : Choice) (s : State) : State :=
  match choice with
  | .take step e =>
    let tagged := (s.chan c).bq.contains e || (s.chan c).gWb.contains e
    let r := grantIf c pos t i step e s
    if !r.2 then r.1
    else
      let s := if step = 6 || step = 7 then spendOpen c t e r.1 else r.1
      let s := if step = 9 && tagged then advanceV c e.ftag s else s
      if step = 7 || step = 9 then s.modChan c (fun h => { h with ring := ringWin h.ring e.port }) else s
  | .startBurst k len e => (grantIf c pos t i 8 e (beginBurst c k len s)).1
  | .startLock e =>
    let s := advanceV c e.ftag ((unqueue c e s).addObj (chIdx 0x3025 c) 1 1)
    let k : LockRun := { rest := e.group, port := e.port, due := none, until_ := 0, alerted := false }
    lockStep c pos t i k (s.modChan c (fun h => { h with ring := ringWin h.ring e.port, lock := some k }))
  | .idle => countPosition c (idleClass s c pos t i) s

/-- Core cycles a position covers, counted so that P_slot positions make a slot. -/
def posCycles (s : State) (c pos : Nat) : Nat := 40 * (pos + 1) / s.pSlot c - 40 * pos / s.pSlot c

/-- The yard holds the position's grant (R212). -/
def yardHolds (c pos t i : Nat) (s : State) : State :=
  let n := posCycles s c pos
  countPosition c (idleClass s c pos t i) (countChan c 0x1C n none (s.addObj 0x5000 (0x60 + c) n))

/-- Grant one line position of channel c (R112). A guarded open U entry that step 6 grants outside the gate spends the open
allowance as one of step 7 does (DEDUCED, log 76). -/
def grantPosition (c : Nat) (s : State) : State :=
  if s.pSlot c = 0 then s
  else
    let pos := nextPosition s c
    let a := pos / s.pSlot c
    let t := a % 192
    let i := pos % s.pSlot c
    let s := releaseLock c pos (s.modChan c (fun ch => { ch with pos := pos }))
    let ch := s.chan c
    let training := ch.st == .untrained || ch.st == .training
    let blocked := s.inRefresh c (s.refreshDoubled c) t || (s.arbMode c != 2 && s.swapSlot c t && decide (i < 2))
    let granted := if s.sup.vddpCut || !(ch.st.grants || training || (ch.st == .fenced && ch.lock.isSome)) || ch.pstate != .active then
        countPosition c (idleClass s c pos t i) s
      else if s.yardBehind c then yardHolds c pos t i s
      else match ch.lock with
        | some k => lockStep c pos t i k s
        | none =>
          if blocked then countPosition c (idleClass s c pos t i) s
          else
            let s := writeMode c pos 1 (writeMode c pos 0 s)
            let choice := if training then chooseTraining s c pos
              else match s.arbMode c with
                | 0 => chooseRotating s c pos a t i
                | 1 => chooseDeadline s c pos a t i
                | _ => chooseDraining s c pos
            let passed := if training then [] else passedLocks s c pos choice
            passLocks c passed (carryOut c pos t i choice s)
    retryWriteBacks c (markOverdue c a i granted)

/-! ### Guarded entries and the gate's close -/

/-- Entries of channel c within 200 ns of their deadline become guarded (R115). -/
def guardEntries (c : Nat) (s : State) : State :=
  let mark := fun (l : List Entry) => l.map (fun e => if nearDeadline s e then { e with guarded := true } else e)
  s.modChan c (fun ch => { ch with openU := mark ch.openU, gate := mark ch.gate, bq := mark ch.bq })

/-- A gate window closes (R120, R121): contexts with bursts left are Preempted; each burst that did not fit counts, and so does
one that runs past the window's end. -/
def closeGate (c : Nat) (s : State) : State :=
  forN 4 s (fun k t =>
    let left := tget (t.chan c).bursts k []
    let running := match (t.chan c).burst with | some (j, _) => j == k | none => false
    if left.isEmpty then t
    else
      let t := t.addObj (chIdx 0x3025 c) 4 1
      if ctxState t c k = 1 && !running then (setCtx c k 2 t).addObj (chIdx 0x3021 c) (0x40 + k) 1 else t)

end Sys2Proof.Machine
end

