-- ==== Sys2Proof/Machine/PortCmds.lean ====
section
/-! DEFINITION. The commands of the request ports and of the on-chip stores: packets and requests (R41-R64), deadlines,
egress, queue resets (R62, R63, R182), SRAM errors (R166), the order buffers, fills and write-backs (R171-R178). -/

namespace Sys2Proof.Machine

abbrev Out := Host.Outcome State Fault Refusal

/-! ### Requests -/

/-- PACKET_RECEIVED. -/
def execPacketReceived (port : Fin 96) (units : List (BitVec 544)) (s : State) : Out := .next (receivePacket port units s)

/-- REQUEST_ADMISSION. -/
def execRequestAdmission (port : Fin 112) (s : State) : Out := .next (admitFront port s)

/-- READ. -/
def execRead (port : Fin 96) (tag : BitVec 8) (addr : BitVec 46) (len : BitVec 3) (lock : Bool) (s : State) : Out :=
  .next (issue port (mkHeader 0x01 tag.toNat len.toNat addr.toNat false lock 0 0) [] s)

/-- READ_RAW. -/
def execReadRaw (port : Fin 96) (tag : BitVec 8) (addr : BitVec 46) (len : BitVec 3) (lock : Bool) (s : State) : Out :=
  .next (issue port (mkHeader 0x02 tag.toNat len.toNat addr.toNat false lock 0 0) [] s)

/-- WRITE: one data unit for each line. -/
def execWrite (port : Fin 96) (tag : BitVec 8) (addr : BitVec 46) (twin lock : Bool) (data : List (BitVec 512)) (s : State) : Out :=
  .next (issue port (mkHeader 0x10 tag.toNat (data.length % 8) addr.toNat twin lock 0 0) data s)

/-- WRITE_MASKED. -/
def execWriteMasked (port : Fin 96) (tag : BitVec 8) (addr : BitVec 46) (mask : BitVec 64) (twin lock : Bool)
    (data : BitVec 512) (s : State) : Out :=
  .next (issue port (mkHeader 0x11 tag.toNat 1 addr.toNat twin lock 0 mask.toNat) [data] s)

/-- CAS8: the comparand in AtomicOperand, the swap value in bytes 0 to 7 of the data unit. -/
def execCas8 (port : Fin 96) (tag : BitVec 8) (addr : BitVec 46) (compare swap : BitVec 64) (twin : Bool) (s : State) : Out :=
  .next (issue port (mkHeader 0x20 tag.toNat 1 addr.toNat twin false compare.toNat 0) [BitVec.ofNat 512 swap.toNat] s)

/-- CAS16: the comparand in bytes 0 to 15 of the data unit, the swap value in bytes 16 to 31. -/
def execCas16 (port : Fin 96) (tag : BitVec 8) (addr : BitVec 46) (compare swap : BitVec 128) (twin : Bool) (s : State) : Out :=
  .next (issue port (mkHeader 0x21 tag.toNat 1 addr.toNat twin false 0 0)
    [BitVec.ofNat 512 (compare.toNat + swap.toNat * 2 ^ 128)] s)

/-- FADD8. -/
def execFadd8 (port : Fin 96) (tag : BitVec 8) (addr : BitVec 46) (addend : BitVec 64) (twin : Bool) (s : State) : Out :=
  .next (issue port (mkHeader 0x22 tag.toNat 0 addr.toNat twin false addend.toNat 0) [] s)

/-- SWAP8. -/
def execSwap8 (port : Fin 96) (tag : BitVec 8) (addr : BitVec 46) (value : BitVec 64) (twin : Bool) (s : State) : Out :=
  .next (issue port (mkHeader 0x23 tag.toNat 0 addr.toNat twin false value.toNat 0) [] s)

/-- FENCE_TWIN. -/
def execFenceTwin (port : Fin 96) (tag : BitVec 8) (s : State) : Out :=
  .next (issue port (mkHeader 0x30 tag.toNat 0 0 false false 0 0) [] s)

/-- LOCK_MEMBER_TIMEOUT. -/
def execLockMemberTimeout (port : Fin 96) (s : State) : Out := .next (lockTimeout port s)

/-- TAG_DEADLINE. -/
def execTagDeadline (port : Fin 112) (s : State) : Out := .next (checkDeadlines port s)

/-- A twin-durable write, or a fence, in the slot before its deadline or later is answered OK_LOCAL_ONLY (R29). -/
def twinDeadline (p tag : Nat) (s : State) : State :=
  match (s.port p).tags.find? (fun u => u.tag == tag) with
  | some u => if s.duePassed ((u.req.deadline + slotMod - 1) % slotMod) then localOnly p u s else s
  | none => s

/-- TWIN_DURABLE_DEADLINE. -/
def execTwinDurableDeadline (port : Fin 112) (tag : BitVec 8) (s : State) : Out := .next (twinDeadline port tag.toNat s)

/-- A response to the management window: MemStatus, its status and its data (R438). -/
def memResponse (r : Resp) (s : State) : State :=
  let s := (s.setObj 0x1220 6 r.status).setObj 0x1220 5 2
  if r.data.isEmpty then s
  else (s.clearRec 0x1220 8).setRec 0x1220 8 0 (r.data.flatMap bvBytes)

/-- RESPONSE_EGRESS: the response is registered, and handed over as credits allow; port 100 takes its own at once. Where
the buffer is empty, a response that waits in the network reaches it first (log 30). -/
def egressStep (p : Nat) (s : State) : State :=
  let s := registerEgress p (if (s.port p).resp.isEmpty then arriveBack p s else s)
  if p = 100 then
    match (s.port p).egress with
    | some r => memResponse r (s.modPort p (fun q => { q with egress := none, egressLeft := 0 }))
    | none => s
  else drainEgress p s

def execResponseEgress (port : Fin 112) (s : State) : Out := .next (egressStep port s)

/-- LATE_RESPONSE_DROP. -/
def lateDrop (p tag : Nat) (s : State) : State :=
  match (s.port p).late.find? (fun e => e.1 == tag) with
  | some e => dropLate p e.1 e.2 (dropUnits 1 p e.1 (takeBack p e.1 e.2 s))
  | none => s

def execLateResponseDrop (port : Fin 112) (tag : BitVec 8) (s : State) : Out := .next (lateDrop port tag.toNat s)

/-- EGRESS_CREDIT. -/
def execEgressCredit (port : Fin 96) (s : State) : Out :=
  .next (drainEgress port (s.modPort port (fun q => { q with egressCredits := q.egressCredits + 1 })))

/-- INGRESS_OVERRUN. -/
def execIngressOverrun (port : Fin 96) (s : State) : Out := .next (portCause port 3 (s.modPort port Port.dropPart))

/-! ### Queue resets (R62, R63, R182) -/

/-- The ingress queue of a port is reset: what has not left it is answered QUEUE_RESET (R62). -/
def resetIngress (p : Nat) (s : State) : State :=
  let q := s.port p
  let lost := q.waiting
  let chans := (lost.filterMap (reqChan s)).eraseDups
  let s := s.setPort p { q with ingress := [], lock := none }
  let s := portCause p 4 (s.addObj (0x2200 + p) 0x14 1)
  let s := lost.foldl (fun t r => respond (plainResp r 0x34) t) s
  chans.foldl (fun t c => advanceHorizon c t) s

/-- The response buffer of a port is reset: the tags whose response was lost receive TIMEOUT (R63); those recorded as
TIMEOUT already stand. -/
def resetResponses (p : Nat) (s : State) : State :=
  let q := s.port p
  let lost := q.tags.filter (fun u => q.answered u.tag u.req.stamp)
  let s := s.modPort p (fun q => { q with resp := q.resp.filter (fun r => r.status == 0x30) })
  let s := lost.foldl (fun t u => timeoutTag p { u with lost := true } t) s
  portCause p 5 (s.addObj (0x2200 + p) 0x14 1)

/-- A dropped write-back is queued again from its Plaza line: at once where its queue has room, else when an entry frees;
that of a Pinned line when it is Dirty again (R108, R171, R182). -/
def againWriteBack (c l : Nat) (s : State) : State :=
  match s.pline c l with
  | some x =>
    let s := s.setPline c l { x with wbQueued := true }
    if x.st == .dirty && writeBackRoom s c x then enterWriteBack c l { x with wbQueued := true } s else s
  | none => s

/-- A line operation of a channel queue is lost: a read is answered QUEUE_RESET, a write-back is queued again (R182). -/
def dropLine (c l : Nat) (wr : Bool) (s : State) : State := if wr then againWriteBack c l s else fillError c l 0x34 s

/-- One entry of a channel queue is lost, a locked sequence with all its members. -/
def dropEntry (c : Nat) (e : Entry) (s : State) : State :=
  if !e.group.isEmpty then e.group.foldl (fun t m => dropLine c m.line m.wr t) s
  else match e.kind with
  | .fill => dropLine c e.line false s
  | .raw _ k _ _ => deliver e.stamp (((s.chan c).dist).getD 0) k 0x34 [] s
  | .writeBack => dropLine c e.line true s
  | .serve seq k => serveGot seq k (0x34, 0) s
  | _ => s

/-- A channel queue is emptied: 0 reserved reads, 1 G write-backs, 2 open U, 3 gate traffic, 4 B. Bursts whose
operations are dropped are cut off. -/
def resetChannelQueue (c which : Nat) (s : State) : State :=
  let ch := s.chan c
  let r : List Entry × Chan := match which with
    | 0 => (ch.gRead, { ch with gRead := [] })
    | 1 => (ch.gWb, { ch with gWb := [] })
    | 2 => (ch.openU, { ch with openU := [] })
    | 3 => (ch.gate, { ch with gate := [] })
    | _ => (ch.bq, { ch with bq := [], lock := none })
  let members := match ch.lock with | some k => if which = 4 then k.rest else [] | none => []
  let s := if which = 3 then abortBursts c s else s
  let s := s.modChan c (fun h => { r.2 with burst := h.burst, bursts := h.bursts })
  let s := r.1.foldl (fun t e => dropEntry c e t) s
  advanceHorizon c (members.foldl (fun t m => dropLine c m.line m.wr t) s)

/-- The replay store is emptied; every lead district's mirror leaves sync (R182, R283). -/
def resetReplay (s : State) : State :=
  let s := { s with mirror := { s.mirror with replay := [] } }
  forN 4 s (fun d t => if feeds t d then breakMirror d 2 t else t)

/-- The event queue is emptied; EventsLost counts its entries (R182). -/
def resetEventQueue (s : State) : State :=
  let n := s.ev.queue.length
  { s with ev := { s.ev with queue := [], rd := 0, mark := 0 } }.addObj 0x5102 0x30 n

/-- A mismatch of a queue's pointers (R182): queue is the row of the table; unit its port or channel. -/
def pointerMismatch (queue unit which : Nat) (s : State) : State :=
  let s := match queue with
    | 0 => resetIngress unit s
    | 1 => resetResponses unit s
    | 2 => resetChannelQueue (unit % 16) which s
    | 3 => resetReplay s
    | _ => resetEventQueue s
  storeReset queue s

/-- QUEUE_POINTER_MISMATCH. -/
def execQueuePointerMismatch (queue : Fin 5) (unit : Fin 96) (which : Fin 5) (s : State) : Out :=
  .next (pointerMismatch queue unit which s)

/-! ### SRAM errors (R166, R167, R246) -/

/-- A Plaza line that can no longer be trusted (R246). -/
def losePlaza (c l : Nat) (s : State) : State :=
  match s.pline c l with
  | none => s
  | some x =>
    if x.st == .clean then s.delPline c l
    else lose x.dist 0 x.dline c ((fillError c l 0x10 s).delPline c l)

/-- A Ledger line that can no longer be trusted: clean, fetched again; dirty, a loss; pinned, reloaded (R246). -/
def loseLedger (c l : Nat) (s : State) : State :=
  match (s.chan c).dist with
  | none => s
  | some d =>
    let x := (s.dist d).desc
    match tfind s.ledger (lineKey c l), x.regionOf (x.localOf c l) with
    | some ln, region =>
      let s := { s with ledger := tdel s.ledger (lineKey c l) }
      if !ln.dirty then s
      else match region with
        | .counter p => lose d 2 p c s
        | .mac i => lose d 1 i c s
        | .node j i => lose d (lossKind j) i c s
        | _ => s
    | none, .node j i =>
      if 3 ≤ j then
        let r := readCopies d j i s
        match r.2 with
        | some v => { r.1 with pinned := tins r.1.pinned (pinnedKey d j i) v }
        | none => lose d (lossKind j) i c r.1
      else s
    | none, _ => s

/-- Both copies of an order-buffer line fail: the line is lost (R166). -/
def loseOrder (c l : Nat) (s : State) : State :=
  let hit := (s.orderOf c).filter (fun a => a.line == l && !a.kind.isRead)
  match hit.head? with
  | none => s
  | some a =>
    let s := { s with order := tput s.order c ((s.orderOf c).filter (fun b => b.line != l || b.kind.isRead)) [] }
    let s := hit.foldl (fun t b => match b.kind with
      | .full _ => t
      | _ => answer b 0x10 [] t) s
    let s := (fillError c l 0x10 s).delPline c l
    lose a.dist 0 a.dline c s

/-- A double-bit error of a store word, by the rows of the SRAM partition table (R166). -/
def sramBad (store unit line : Nat) (both : Bool) (s : State) : State :=
  let s := (s.addObj 0x5102 (0x11 + store) 1).raise 0x011
  match store with
  | 0 => losePlaza (unit % 16) line s
  | 1 => loseLedger (unit % 16) line s
  | 2 => forN 4 s (fun d t => if feeds t d then breakMirror d 2 t else t)
  | 3 => resetIngress (unit % 96) s
  | 4 => resetResponses (unit % 96) s
  | 5 =>
    let c := unit % 16
    let ch := s.chan c
    let keep := fun (l : List Entry) => l.filter (fun e => e.line != line)
    let lost := ch.entries.filter (fun e => e.line == line)
    let s := s.setChan c { ch with gRead := keep ch.gRead, gWb := keep ch.gWb, openU := keep ch.openU, gate := keep ch.gate, bq := keep ch.bq }
    advanceHorizon c (lost.foldl (fun t e => dropEntry c e t) s)
  | 6 => if both then loseOrder (unit % 16) line s else s
  | 7 => resetEventQueue s
  | 9 => { s with recs := sb s.recs (captureBase + 64 * (line % 4096) + 63) 0xFF }
  | 10 =>
    -- the holder's operation fails with its own status: a helper operation on the pattern store, an armed injection, the
    -- scrub runs (R184, R466)
    match s.obj 0x2F00 2 with
    | 5 => forN 16 s (fun c t => match (t.chan c).helper with
        | some op => if helperPattern op then
            helperRelease op ((t.modChan c (fun h => { h with helper := none })).setObj (0xA000 + c) 2 3) else t
        | none => t)
    | 6 => releaseOwn 2 6 ({ s with blk := { s.blk with inj := none } }.setObj 0xB001 8 3)
    | 7 => forN 16 s (fun c t => abortCtx c 0 t)
    | _ => s
  | _ => s

/-- SRAM_UNCORRECTABLE. -/
def execSramUncorrectable (store : Fin 11) (unit : Fin 112) (line : Nat) (both : Bool) (s : State) : Out :=
  .next (sramBad store unit line both s)

/-- SRAM_CORRECTED: the word is written back corrected and counted (R166, R167). -/
def execSramCorrected (store : Fin 11) (s : State) : Out := .next (s.addObj 0x5102 (1 + store) 1)

/-! ### Slices -/

/-- SLICE_ARRIVAL. -/
def execSliceArrival (c : Fin 16) (port : Fin 112) (tag : BitVec 8) (s : State) : Out := .next (arriveAt c port tag.toNat s)

/-- The access a READ_RAW's entry was queued for. -/
def rawAccess (s : State) (e : Entry) : Option Access :=
  match e.kind, s.gathers.find? (fun g => g.req.stamp == e.stamp) with
  | .raw _ k _ _, some g => (accessesOf s g.req)[k]?
  | _, _ => none

/-- A READ_RAW whose entry a held channel cannot serve is settled again, as R240 says of reads. -/
def rawHeld (e : Entry) (s : State) : State :=
  match rawAccess s e with
  | some a =>
    let r := rawAway a s
    if r.2 then r.1 else enterOrder a r.1
  | none => s

/-- Reads queued at a channel that holds its lines are served as R240 says: from the twin, or answered FROZEN or ABSENT. -/
def serveHeld (c : Nat) (s : State) : State :=
  let ch := s.chan c
  if !ch.st.held then s
  else
    let raws := ch.entries.filter (fun e => match e.kind with | .raw _ _ _ _ => true | _ => false)
    let s := raws.foldl (fun t e => rawHeld e (t.modChan c (fun h =>
      { h with gRead := h.gRead.erase e, openU := h.openU.erase e, bq := h.bq.erase e, gate := h.gate.erase e }))) s
    let s := ch.entries.foldl (fun t e => match e.kind with
      | .serve seq k => serveReturns seq k (t.modChan c (fun h => { h with bq := h.bq.erase e, gate := h.gate.erase e }))
      | _ => t) s
    let lines := s.plaza.filter (fun e => e.1 / 2 ^ 40 == c && e.2.empty && !e.2.waiting.isEmpty &&
      !(s.mirror.reqs.any (fun r => r.purpose == 0 && r.chan == c && r.line == e.1 % 2 ^ 40)))
    lines.foldl (fun t e =>
      match e.2.waiting.head? with
      | some a =>
        if (t.dist a.dist).mst == .inSync && t.keys.links.isSome then remoteRequest 0 a.dist a.dline 1 a.stamp a.deadline c a.line t
        else fillError c a.line (heldStatus ch.st) t
      | none => t) s

/-- HORIZON_ADVANCE. -/
def execHorizonAdvance (c : Fin 16) (s : State) : Out := .next (advanceHorizon c (serveHeld c s))

/-- A granted operation with an uncertain command: nothing of it counts until its episode ends (R152). -/
def Chan.uncertain (ch : Chan) (e : Entry) : Bool :=
  ch.subs.any (fun x => match x.2.alert with | some a => a.uncertain.contains e | none => false)

/-- A line read granted by the channel returns (R171, R208, R222). -/
def readReturns (c l : Nat) (s : State) : State :=
  let ch := s.chan c
  match ch.granted.find? (fun e => e.line == l && !e.wr && !ch.uncertain e) with
  | none => s
  | some e =>
    let s := s.setChan c { ch with granted := ch.granted.erase e }
    match e.kind with
    | .fill => completeFill c l s
    | .raw _ k status units => deliver e.stamp (ch.dist.getD 0) k status units (noteLine e.stamp true s)
    | .serve seq k => serveReturns seq k s
    | _ => s

/-- FILL_COMPLETE. -/
def execFillComplete (c : Fin 16) (line : Nat) (s : State) : Out := .next (serveHeld c (readReturns c line s))

/-- A write-back completes: the line is Clean if nothing was written since its grant (R171). -/
def writeBackDone (c l : Nat) (s : State) : State :=
  match s.pline c l with
  | none => s.modChan c (fun ch => { ch with granted := ch.granted.filter (fun e => !(e.line == l && e.wr)) })
  | some x =>
    let ch := s.chan c
    let mine := ch.granted.filter (fun e => e.line == l && e.wr)
    if mine.any ch.uncertain then s
    else if x.wbGranted && x.st == .dirty then
      let s := s.setChan c { ch with granted := ch.granted.filter (fun e => !(e.line == l && e.wr)) }
      let s := s.setPline c l { x with st := .clean, wbGranted := false, wrote := false, gCharge := false }
      let s := { s with sup := { s.sup with committed := s.sup.committed.filter (fun e => e != (c, l)) } }
      advanceHorizon c s
    else s.setChan c { ch with granted := ch.granted.filter (fun e => !(e.line == l && e.wr)) }

/-- WRITEBACK_COMPLETE. -/
def execWritebackComplete (c : Fin 16) (line : Nat) (s : State) : Out := .next (writeBackDone c line s)

/-- Frames from one frame number to the present one. -/
def State.framesSince (s : State) (f : Nat) : Nat := (s.now.frame + frameMod - f % frameMod) % frameMod

/-- DIRTY_AGE_EXPIRY (R175). -/
def dirtyAge (c l : Nat) (s : State) : State :=
  match s.pline c l with
  | some x => if x.st == .dirty && decide (s.obj 0x5100 2 ≤ s.framesSince x.since) then queueWriteBack c l s else s
  | none => s

def execDirtyAgeExpiry (c : Fin 16) (line : Nat) (s : State) : Out := .next (dirtyAge c line s)

/-- LEDGER_DIRTY_AGE (R178): the line is written back. -/
def ledgerAge (c l : Nat) (s : State) : State :=
  match tfind s.ledger (lineKey c l) with
  | some ln =>
    if ln.dirty && decide (s.obj 0x5100 3 ≤ s.framesSince ln.since) then flushLedger false c l (s.chan c).dist s else s
  | none => s

def execLedgerDirtyAge (c : Fin 16) (line : Nat) (s : State) : Out := .next (ledgerAge c line s)

end Sys2Proof.Machine
end

