-- ==== Sys2Proof/Machine/DramEngine.lean ====
section
/-! DEFINITION. The DRAM command engine beside the grants (R142, R145-R159): refresh placements, refresh management,
temperature readings, idle rows, ALERT_N episodes, power states; and the commands of ch. 5 and 6. -/

namespace Sys2Proof.Machine

/-! ### Guarded entries and the gate -/

/-- ENTRY_GUARDED. -/
def execEntryGuarded (c : Fin 16) (s : State) : Out := .next (guardEntries c s)

/-- GATE_WINDOW_CLOSE. -/
def execGateWindowClose (c : Fin 16) (s : State) : Out := .next (closeGate c s)

/-! ### Refresh (R145-R150) -/

/-- A channel that issues refresh (R149). -/
def refreshes (ch : Chan) : Bool :=
  (match ch.st with
   | .running | .rebuilding | .frozen | .training => true
   | _ => false) &&
    (match ch.pstate with
     | .selfRefresh | .deepSelfRefresh => false
     | _ => true)

/-- The current readings of channel c (R148, R160): ModuleTempMax is the highest, and CalTemperature is held where there is none (R320). A reading above HighTempExit ends a calm
run of frames. -/
def setTemps (c : Nat) (l : Tbl Int) (s : State) : State :=
  let hot := l.any (fun e => decide ((4 * s.obj (chIdx 0x3011 c) 6 : Nat) < e.2))
  let s := s.modChan c (fun ch => { ch with temps := l, calm := if hot then 0 else ch.calm })
  let top := l.foldl (fun (m : Option Int) e => some (match m with | some x => max x e.2 | none => e.2)) none
  let s := s.setObj (chIdx 0x3011 c) 7 (ofSigned 16 (top.getD 0))
  match top with
  | some t => s.setObj (chIdx 0x3040 c) 9 (ofSigned 16 t)
  | none => s

/-- Record a temperature reading of channel c, in 0.25 °C: key 0 and 1 the sensors of its bays, 2 the MR4 readings. A sensor
reading ends the want of one (R148). -/
def noteTemp (c key : Nat) (t : Int) (s : State) : State :=
  let s := if key ≤ 1 then s.modChan c (fun ch => { ch with noReading := false }) else s
  setTemps c (tins (s.chan c).temps key t) s

/-- Some reading is at or above HighTempEnter (R148). -/
def hotReading (s : State) (c : Nat) : Bool :=
  (s.chan c).temps.any (fun e => decide ((4 * s.obj (chIdx 0x3011 c) 5 : Nat) ≤ e.2))

/-- A condition of R148 other than a temperature holds. -/
def doubleAsked (s : State) (c : Nat) : Bool :=
  (s.chan c).twice || (s.chan c).noReading || s.cad.st == .slewing || s.obj (chIdx 0x3011 c) 4 == 1

/-- Every reading is at or below HighTempExit and nothing else asks for doubled refresh. -/
def refreshCalm (s : State) (c : Nat) : Bool :=
  (s.chan c).temps.all (fun e => decide (e.2 ≤ (4 * s.obj (chIdx 0x3011 c) 6 : Nat))) && !doubleAsked s c

/-- 256 frames have passed between calm boundaries: `calm` counts the boundaries (R148). -/
def calmEnough (s : State) (c : Nat) : Bool := decide (256 < (s.chan c).calm) && refreshCalm s c

/-- A frame boundary's look at doubled refresh (R148): it starts or ends here, and the calm boundaries count. -/
def refreshFrame (c : Nat) (s : State) : State :=
  let i := chIdx 0x3011 c
  let calm := if refreshCalm s c then (s.chan c).calm + 1 else 0
  let s := s.modChan c (fun ch => { ch with calm := calm })
  if s.obj i 3 = 0 && (hotReading s c || doubleAsked s c) then (s.setObj i 3 1).raiseChan c 2
  else if calmEnough s c then s.setObj i 3 0 else s

/-- REFRESH_DOUBLE_EXIT: 256 calm frames, at a frame boundary (R148). -/
def refreshExit (c : Nat) (s : State) : State :=
  if s.now.slot = 0 && s.now.cycle = 0 && calmEnough s c then s.setObj (chIdx 0x3011 c) 3 0 else s

def execRefreshDoubleExit (c : Fin 16) (s : State) : Out := .next (refreshExit c s)

/-- SENSOR_READING_TIMEOUT: no sensor reading for 4 ms (R148). -/
def execSensorReadingTimeout (c : Fin 16) (s : State) : Out := .next (s.modChan c (fun ch => { ch with noReading := true, calm := 0 }))

/-- Write bytes of the in-force trims (ActiveTrims, R329). -/
def setTrims (c : Nat) (bs : List (Nat × Byte)) (s : State) : State :=
  bs.foldl (fun t e => t.setRec (chIdx 0x3040 c) 0x20 e.1 [e.2]) s

/-- Write-side adjustments that wait for a refresh placement take effect (R321, R323): they stand under lane 10. -/
def applyPending (c : Nat) (s : State) : State :=
  let l := (s.chan c).lane 10
  if l.loaded.isEmpty then s else setTrims c l.loaded (s.modChan c (fun ch => ch.setLane 10 { l with loaded := [] }))

/-- REFRESH_PLACEMENT (R146-R150): placement b of set j begins. The MR4 reading taken in it, and whether a refresh-rate
field asks for twice the rate. -/
def refreshPlacement (c b j : Nat) (mr4 : Option Int) (twice : Bool) (s : State) : State :=
  let start := (s.obj (chIdx 0x3011 c) 1 + 24 * b + 96 * j) % 192
  if s.sup.vddpCut || s.now.slot != start || !refreshes (s.chan c) || s.pSlot c = 0 then s
  else
    let refresh := j == 0 || s.refreshDoubled c
    let s := (rankSlots s c).foldl (fun t rs =>
      forN 2 t (fun sub u => placeRefresh c b sub rs (4 * u.pSlot c * u.slotNow) refresh u)) s
    let s := placementWork c mr4.isSome (applyPending c s)
    match mr4 with
    | some t => noteTemp c 2 t (s.modChan c (fun ch => { ch with twice := twice }))
    | none => s

def execRefreshPlacement (c : Fin 16) (bank : Fin 4) (set : Fin 2) (mr4 : Option Int) (twice : Bool) (s : State) : Out :=
  .next (refreshPlacement c bank set mr4 twice s)

/-- RFM_FORCED (R150): a bank at RAAMMT receives RFMsb once precharged. -/
def rfmForced (c key : Nat) (s : State) : State :=
  let x := bankCoord key 0
  let lim := (raaLimits s c x.pos).2
  if 0 < lim && lim ≤ ((s.chan c).bank key).raa then
    let s := (s.addObj (chIdx 0x3011 c) 0x0A 1).raiseChan c 4 x.sub x.rankSlot
    issueRfm c key (s.dckNow c) (closeBank c key (s.dckNow c) s)
  else s

def execRfmForced (c : Fin 16) (sub : Fin 2) (rankSlot : Fin 8) (bank : Fin 32) (s : State) : Out :=
  .next (rfmForced c (256 * sub + 32 * rankSlot + bank) s)

/-- ROW_IDLE_TIMEOUT (R142): a row left alone for RowIdleTimeout channel cycles closes under the open-adaptive policy. -/
def rowIdle (c key : Nat) (s : State) : State :=
  let b := (s.chan c).bank key
  let pos := s.cycleNow * s.pSlot c / 40
  if b.row.isSome && s.obj (chIdx 0x3012 c) 1 == 0 && decide (b.last + s.obj (chIdx 0x3012 c) 2 ≤ pos) then
    closeBank c key (s.dckNow c) s
  else s

def execRowIdleTimeout (c : Fin 16) (sub : Fin 2) (rankSlot : Fin 8) (bank : Fin 32) (s : State) : Out :=
  .next (rowIdle c (256 * sub + 32 * rankSlot + bank) s)

/-! ### ALERT_N (R152-R154) -/

/-- Operations whose commands were issued from t_low less AlertLatencyMax and 2 channel cycles on (R152); commands are
taken as issued at the grant (log 33). -/
def uncertainOps (s : State) (c sub : Nat) : List Entry :=
  let back := if s.pSlot c = 0 then 0 else cdiv ((alertLatency s c + 8) * 10) (s.pSlot c)
  (s.chan c).granted.filter (fun e => (s.coordOf c e.line).sub == sub && decide (s.cycleNow ≤ e.at_ + back))

/-- Mark the history entries of a subchannel in the window as uncertain (R243). -/
def markHistory (s : State) (c sub : Nat) : List HistCmd :=
  let back := if s.pSlot c = 0 then 0 else cdiv ((alertLatency s c + 8) * 10) (s.pSlot c)
  (s.chan c).history.map (fun h =>
    if h.target % 2 == sub && decide (s.cycleNow ≤ h.at_ + back) then { h with flags := setBit h.flags 0 true } else h)

/-- An operation whose commands cannot be trusted goes back where it will be granted again (R123, R153, R244): a lock's
member ahead of the lock's rest, a read of an assigned position as overdue, others to the front of their queues. -/
def regrant (c : Nat) (e : Entry) (s : State) : State :=
  let s := s.modChan c (fun ch => { ch with granted := ch.granted.erase e })
  let s := if e.wr then (match s.pline c e.line with | some x => s.setPline c e.line { x with wbGranted := false, wbQueued := true } | none => s)
    else (match s.pline c e.line with | some x => s.setPline c e.line { x with fillGranted := false } | none => s)
  if !e.group.isEmpty then
    s.modChan c (fun ch => { ch with lock := some (match ch.lock with
      | some k => { k with rest := e.group ++ k.rest }
      | none => { rest := e.group, port := e.port, due := none, until_ := 0, alerted := true }) })
  else if gateConfined e.port then s.modChan c (fun ch => { ch with gate := e :: ch.gate })
  else match s.cls e.port with
    | .g => if e.wr then s.modChan c (fun ch => { ch with gWb := e :: ch.gWb })
            else s.modChan c (fun ch => { ch with gRead := { e with overdue := true } :: ch.gRead })
    | .u => s.modChan c (fun ch => { ch with openU := e :: ch.openU })
    | .b => s.modChan c (fun ch => { ch with bq := e :: ch.bq })

/-- An episode ends in a freeze of cause 2 (R153): its uncertain operations are neither replayed nor trusted. -/
def alertFreeze (c sub : Nat) (a : Alert) (s : State) : State :=
  let s := s.modChan c (fun ch => ch.setSub sub { (ch.sub sub) with alert := none })
  let s := freezeChannel c 2 none none 0 s
  serveHeld c (heldRefresh c sub (a.uncertain.reverse.foldl (fun t e => regrant c e t) s))

/-- ALERT_EPISODE_START (R152-R154): ALERT_N low in two consecutive channel cycles. Within an episode it is a retry, and
the fourth assertion freezes the channel. -/
def alertStart (c sub : Nat) (s : State) : State :=
  let i := chIdx 0x3014 c
  let o := 0x10 * sub
  let s := s.modChan c (fun ch => { ch with lock := ch.lock.map (fun k => { k with alerted := true }) })
  let ch := s.chan c
  match (ch.sub sub).alert with
  | none =>
    let a : Alert := { step := 2, retries := 0, low := true, uncertain := uncertainOps s c sub, at_ := s.cycleNow }
    let s := s.setChan c { (ch.setSub sub { (ch.sub sub) with alert := some a }) with history := markHistory s c sub }
    ((s.addObj i (1 + o) 1).setObj i (3 + o) (s.stampNow 0).word).raiseChan c 0 sub 0
  | some a =>
    if a.low then s
    else if 2 ≤ a.retries then alertFreeze c sub a s
    else
      let more := (uncertainOps s c sub).filter (fun e => !a.uncertain.contains e)
      let b : Alert := { step := 2, retries := a.retries + 1, low := true, uncertain := a.uncertain ++ more, at_ := s.cycleNow }
      let s := s.setChan c { (ch.setSub sub { (ch.sub sub) with alert := some b }) with history := markHistory s c sub }
      (countChan c 0x14 1 (some sub) (s.addObj i (2 + o) 1)).raiseChan c 0 sub 0

def execAlertEpisodeStart (c : Fin 16) (sub : Fin 2) (s : State) : Out := .next (alertStart c sub s)

/-- Granted operations of a subchannel whose burst is still ahead: PREab closes their rows (R152). -/
def burstsAhead (s : State) (c sub : Nat) : List Entry :=
  (s.chan c).granted.filter (fun e => (s.coordOf c e.line).sub == sub &&
    decide (s.posNow c < e.at_ * s.pSlot c / 40 + decisionLead s c))

/-- Replay an operation with the ACT it needs, behind the others of the replay (R152 step 5): on its bank, the buses and the
rolling count; times count from `start`. -/
def replayOp (c start : Nat) (acc : State × LockPlan) (e : Entry) : State × LockPlan :=
  let s := acc.1
  let x := s.coordOf c e.line
  let k := lockMember s c acc.2 (x, e.wr)
  match k.cas.head?, k.acts.head?, tfind k.banks x.bankKey with
  | some (_, l), some a, some bt =>
    let b := (s.chan c).bank x.bankKey
    let sb := (s.chan c).sub x.sub
    let act := start + a.2.2.2
    let b' := { b with row := some x.row, raa := b.raa + 1, actAt := act, preMin := start + bt.2, last := s.posNow c }
    let l' := { l with at_ := start + l.at_, pos := (start + l.dataEnd) / 4, dataEnd := start + l.dataEnd, coreEnd := start + l.coreEnd }
    let sb' := { sb with busEnd := max sb.busEnd l'.dataEnd, lastWr := e.wr, lastRank := x.rankSlot, cas := (l' :: sb.cas).take 16,
                         acts := ((x.rankSlot, x.bg, act) :: sb.acts).take 32, ca := (caCycles act 2 ++ caCycles l'.at_ 2 ++ sb.ca).take 80 }
    let s := s.modChan c (fun ch => { (ch.setBank x.bankKey b').setSub x.sub sb' with
      lock := if e.group.isEmpty then ch.lock else ch.lock.map (fun q => { q with until_ := max q.until_ l'.dataEnd }) })
    let cmd := fun (n : Nat) (t : State) => noteCmd c { histOf t n x with flags := 2 } t
    (cmd (if e.wr then 2 else 1) (countChan c 0x0E 1 (some x.sub) (cmd 0 s)), k)
  | _, _, _ => (s, k)

/-- Issue an uncertain REFsb or RFMsb again. -/
def replayRefresh (c start : Nat) (h : HistCmd) (s : State) : State :=
  let key := 256 * (h.target % 2) + 32 * (h.target / 2) + h.bank
  if h.cmd = 5 then issueRef c (h.target % 2) (h.target / 2) (h.bank % 4) start s
  else issueRfm c key start s

/-- ALERT_RELEASED (R152 steps 3 to 5): the error status is cleared, PREab closes every rank, and after TRp the uncertain
commands and every granted operation whose row was closed before its burst are issued again. -/
def alertReleased (c sub : Nat) (s : State) : State :=
  match ((s.chan c).sub sub).alert with
  | some a =>
    if a.low then
      let now := s.dckNow c
      let back := if s.pSlot c = 0 then 0 else cdiv ((alertLatency s c + 8) * 10) (s.pSlot c)
      let again := ((s.chan c).history.filter (fun h => h.target % 2 == sub && bit h.flags 0 && (h.cmd == 5 || h.cmd == 6) &&
        decide (a.at_ ≤ h.at_ + back))).reverse
      let ops := a.uncertain ++ (burstsAhead s c sub).filter (fun e => !a.uncertain.contains e)
      let s := s.modChan c (fun ch => ch.setSub sub { (ch.sub sub) with alert := some { a with low := false, step := 5 } })
      let cmd := fun (k : Nat) (x : Coord) (t : State) => noteCmd c (histOf t k x) t
      let s := (rankSlots s c).foldl (fun t rs => cmd 11 (bankCoord (256 * sub + 32 * rs) 0) t) s
      let s := (rankSlots s c).foldl (fun t rs => cmd 4 (bankCoord (256 * sub + 32 * rs) 0) t) s
      let open_ := (s.chan c).banks.filter (fun b => b.1 / 256 == sub && b.2.row.isSome)
      let s := open_.foldl (fun t b => t.modChan c (fun ch => ch.setBank b.1 { b.2 with row := none, preAt := max (now + 8) b.2.preMin })) s
      let s := again.foldl (fun t h => replayRefresh c (now + 8 + tRP s c) h t) s
      (ops.foldl (replayOp c (now + 8)) (s, { dataEnd := 0, acts := [], cas := [], banks := [], ca := [] })).1
    else s
  | none => s

def execAlertReleased (c : Fin 16) (sub : Fin 2) (s : State) : Out := .next (alertReleased c sub s)

/-- ALERT_STUCK_TIMEOUT (R153): ALERT_N still low at AlertStuckTimeout freezes the channel. -/
def alertStuck (c sub : Nat) (s : State) : State :=
  match ((s.chan c).sub sub).alert with
  | some a => if a.low && decide (2 * s.obj (chIdx 0x3014 c) 4 ≤ s.since a.at_) then alertFreeze c sub a s else s
  | none => s

def execAlertStuckTimeout (c : Fin 16) (sub : Fin 2) (s : State) : Out := .next (alertStuck c sub s)

/-- ALERT_EPISODE_END (R152 step 6): refreshes that the episode held up follow (R149). -/
def alertEnd (c sub : Nat) (s : State) : State :=
  match ((s.chan c).sub sub).alert with
  | some a => if a.low then s else heldRefresh c sub (s.modChan c (fun ch => ch.setSub sub { (ch.sub sub) with alert := none }))
  | none => s

def execAlertEpisodeEnd (c : Fin 16) (sub : Fin 2) (s : State) : Out := .next (alertEnd c sub s)

/-! ### Power states (R155-R159) -/

/-- Core cycles from now to the next start of slot t of the frame. -/
def cyclesToSlot (s : State) (t : Nat) : Nat :=
  let d := (t + 192 - s.now.slot) % 192
  40 * (if d = 0 && decide (0 < s.now.cycle) then 192 else d) - s.now.cycle

/-- The earliest of a list of cycle counts. -/
def earliest (l : List Nat) : Option Nat := leastBy (fun a b => decide (a < b)) l

/-- T in core cycles for a power state (R156): none where no known event lies ahead. -/
def knownEvent (s : State) (c : Nat) (pd : Bool) : Option Nat :=
  let ch := s.chan c
  let live := ch.gSeen.filter (fun e => decide ((s.now.frame + 1 + frameMod - e.2 % frameMod) % frameMod < s.obj (chIdx 0x3013 c) 3))
  let gs := live.flatMap (fun e => (portSlots s c e.1).map (cyclesToSlot s))
  let gate := if (List.range 4).any (fun k => ctxState s c k == 1 || ctxState s c k == 2) && 0 < s.gateLen c then [cyclesToSlot s (s.gateStart c % 192)] else []
  let refresh := if pd then
      (List.range (if s.refreshDoubled c then 8 else 4)).map (fun k => cyclesToSlot s ((s.obj (chIdx 0x3011 c) 1 + 24 * (k % 4) + 96 * (k / 4)) % 192))
    else []
  let swap := if pd && ch.lanes.any (fun e => e.1 != 10 && !e.2.loaded.isEmpty) then
      (List.range 8).map (fun k => cyclesToSlot s ((s.obj (chIdx 0x3040 c) 0x12 + 24 * k) % 192))
    else []
  earliest (gs ++ gate ++ refresh ++ swap)

/-- T is at least so many ns. -/
def eventBeyond (s : State) (c : Nat) (pd : Bool) (ns : Nat) : Bool :=
  match knownEvent s c pd with
  | some n => decide (2 * ns ≤ n)
  | none => true

/-- A latency in ps and 200 ns more is below every bound in force for the channel (R157). -/
def boundsAllow (s : State) (c ps : Nat) : Bool :=
  let below := fun (ns : Nat) => decide (ps + 200000 < 1000 * ns)
  (List.range 96).all (fun p =>
    (s.cls p != .b || below (s.obj (0x2200 + p) 2)) && (s.obj (0x2200 + p) 9 != 1 || below (s.obj (0x2200 + p) 3))) &&
  ((s.calendar c).map (fun e => e.2.2)).eraseDups.all (fun p => below (gBound s c p 1))

/-- The queues are empty and nothing is granted or pending. -/
def Chan.quiet (ch : Chan) : Bool := ch.entries.isEmpty && ch.rewrites.isEmpty && ch.granted.isEmpty && ch.lock.isNone

/-- The deepest state whose conditions all hold (R155-R157, R159). -/
def bestPower (s : State) (c : Nat) : PowSt :=
  let ch := s.chan c
  let en := s.obj (chIdx 0x3013 c) 2
  if !ch.quiet || !ch.st.grants || ch.subs.any (fun x => x.2.alert.isSome) || s.blk.st == .test || s.arbMode c == 2 then .active
  else if bit en 2 && eventBeyond s c false 200000 && boundsAllow s c (latencyOf s c .deepSelfRefresh) && (s.calendar c).isEmpty then .deepSelfRefresh
  else if bit en 1 && eventBeyond s c false 6000 && boundsAllow s c (latencyOf s c .selfRefresh) then .selfRefresh
  else if bit en 0 && eventBeyond s c true 120 then .powerDown
  else .active

/-- Close every row of the channel. -/
def closeAll (c : Nat) (s : State) : State :=
  (s.chan c).banks.foldl (fun t b => if b.2.row.isSome then closeBank c b.1 (t.dckNow c) t else t) s

/-! ### Leaving the helper's states (R312, R313) -/

def calIdx (c : Nat) : Nat := chIdx 0x3040 c

/-- Byte offsets in the 1 040 bytes of ActiveTrims: the common block of a subchannel, and its point block. -/
def commonOff (sub : Nat) : Nat := 408 * sub
def pointOff (sub : Nat) : Nat := 816 + 112 * sub

/-- The state the helper accepts operation `op` in (R312). -/
def helperAllowed (s : State) (c op : Nat) : Bool :=
  let ch := s.chan c
  (ch.st == .training && s.obj (calIdx c) 1 == 1) || ch.st == .fenced ||
    (ch.st == .running && s.obj 0x2F00 (0x10 + c) == 1 && op == 1)

/-- The trims a sweep moved return to their shadow values (R313): trim t of the selected devices. -/
def restoreSwept (c t : Nat) (s : State) : State :=
  let i := 0xA000 + c
  let subs := (List.range 2).filter (fun b => bit (s.obj i 3) b)
  let devs := (List.range 10).filter (fun k => bit (s.obj i 5) k)
  let rs := s.obj i 4
  let offs : List (Nat × Nat) := subs.flatMap (fun b => devs.flatMap (fun k =>
    let p := pointOff b
    let m := commonOff b
    if t = 0 then [(p + 0x30 + 2 * k, 2)] else if t = 1 then [(p + 4 * k, 4)] else if t = 2 then [(p + 0x28 + k / 2, 1)]
    else if t = 3 then [(p + 0x44 + 2 * k, 2)] else if t = 4 then [(p + 0x58 + 2 * k, 2)]
    else if t = 5 then [(m + 8 + 4 * k, 4)] else if t = 6 then [(m + 0x58 + 10 * rs + k, 1)] else [(m + 0x30 + 4 * k, 4)]))
  offs.foldl (fun u o => u.setRec (calIdx c) 0x20 o.1 (u.recN (calIdx c) 0x21 o.1 o.2)) s

/-- The trim an operation sweeps: SweepTrim, or the one operations 8 and 9 name. -/
def sweptTrim (s : State) (c op : Nat) : Option Nat :=
  if op = 5 || op = 6 then some (s.obj (0xA000 + c) 0x0D) else if op = 8 then some 4 else if op = 9 then some 3 else none

/-- An operation of the helper stops where the channel has left its permitted state: HelperStatus 3 (R312). It ends as any
does: swept trims return, its claims are released, every row is precharged. -/
def stopHelper (c : Nat) (s : State) : State :=
  match (s.chan c).helper with
  | none => s
  | some op =>
    if helperAllowed s c op then s
    else
      let s := match sweptTrim s c op with
        | some t => restoreSwept c t s
        | none => s
      (helperRelease op (closeAll c (s.modChan c (fun ch => { ch with helper := none })))).setObj (0xA000 + c) 2 3

/-! ### Loaded trims at an entry (R318, R325) -/

/-- Calibration runs on the channel now (R325). -/
def calLive (s : State) (c : Nat) : Bool :=
  s.obj (calIdx c) 1 == 3 && (s.chan c).st.grants && s.blk.st != .draining

/-- Sampler path of a lane (R187). -/
def laneSub (c lane : Nat) : Nat := 0x20 + 10 * c + lane

/-- Live calibration holds the lane's path. -/
def laneHeld (s : State) (c l : Nat) : Bool := s.obj 0x2F00 (laneSub c l) == 8

/-- A lane's paths exchange roles (R318). -/
def swapLane (c l : Nat) (s : State) : State :=
  let x := (s.chan c).lane l
  if x.loaded.isEmpty then s
  else setTrims c x.loaded (s.modChan c (fun ch => ch.setLane l { x with pathB := !x.pathB, loaded := [] }))

/-- Every lane whose spare path holds loaded trims, and is live calibration's, exchanges roles. -/
def swapAll (c : Nat) (s : State) : State := forN 10 s (fun l t => if laneHeld t c l then swapLane c l t else t)

/-- Put a channel in a power state: rows closed, PREab and REFab on both subchannels before self-refresh (R155), whose
first cycle makes the loaded swaps (R325). -/
def enterPower (c : Nat) (p : PowSt) (s : State) : State :=
  let s := closeAll c s
  let s := match p with
    | .selfRefresh | .deepSelfRefresh => (rankSlots s c).foldl (fun t rs => forN 2 t (fun sub u =>
        let x := bankCoord (256 * sub + 32 * rs) 0
        noteCmd c (histOf u 7 x) (noteCmd c (histOf u 4 x) u))) (if calLive s c then swapAll c s else s)
    | _ => s
  (s.modChan c (fun ch => { ch with pstate := p, exiting := none })).setObj (chIdx 0x3013 c) 1 p.code

/-- POWER_STATE_ENTRY (R155): evaluated at each slot boundary and when the queues become empty. -/
def powerEntry (c : Nat) (s : State) : State :=
  let ch := s.chan c
  if s.pSlot c = 0 || ch.exiting.isSome then s
  else
    let p := bestPower s c
    if ch.pstate.code < p.code then enterPower c p s else s

/-- POSITION_GRANT: a position decided, and the power state looked at where that left the queues empty. -/
def execPositionGrant (c : Fin 16) (s : State) : Out :=
  let t := grantPosition c s
  let t := serveHeld c t
  .next (if !(s.chan c).quiet && (t.chan c).quiet then powerEntry c t else t)

/-- A channel in a state that a commit disabled starts its exit (R159). -/
def powerDisabled (c : Nat) (s : State) : State :=
  let ch := s.chan c
  let k := ch.pstate.code
  if 0 < k && !bit (s.obj (chIdx 0x3013 c) 2) (k - 1) then s.setChan c ch.wake else s

/-- POWER_STATE_EXIT (R158): the known event's time less the exit latency has come. -/
def powerExit (c : Nat) (s : State) : State :=
  let ch := s.chan c
  if ch.pstate == .active || ch.exiting.isSome then s
  else match knownEvent s c (ch.pstate == .powerDown) with
    | some n => if 500 * n ≤ latencyOf s c ch.pstate then s.setChan c { ch with exiting := some (some (s.cycleNow + n)) } else s
    | none => s

def execPowerStateExit (c : Fin 16) (s : State) : Out := .next (powerExit c s)

/-- POWER_EXIT_COMPLETE (R158): counted, and as late where the event it was for has passed. -/
def powerExitDone (c : Nat) (s : State) : State :=
  let ch := s.chan c
  let i := chIdx 0x3013 c
  match ch.exiting with
  | none => s
  | some due =>
    let s := (s.setChan c { ch with pstate := .active, exiting := none }).setObj i 1 0
    let s := s.addObj i 0x0A 1
    let late := match due with | some t => serialLt cycleMod t s.cycleNow | none => false
    let s := if late then (s.addObj i 0x0B 1).raiseChan c 5 else s
    powerEntry c s

/-- A slot of channel c goes by in a low-power state (R162). -/
def powerResidency (c : Nat) (s : State) : State :=
  let k := (s.chan c).pstate.code
  if k = 0 then s
  else countChan c (if k = 1 then 0x15 else 0x16) (s.pSlot c) none (s.addObj (chIdx 0x3013 c) (6 + k) (s.pSlot c))

end Sys2Proof.Machine
end

