-- ==== Sys2Proof/Machine/Crossing.lean ====
section
/-! DEFINITION. The Crossing network (R65-R87): injection of requests, output arbitration, link faults, slot-table and
calendar swaps, and changes of the credit split. Requests and responses travel as units; the engines' and mirror ports' own
traffic does not (log 34). -/

namespace Sys2Proof.Machine

/-! ### Queues -/

/-- Units waiting in queue q of input i. -/
def Xbar.queue (b : Xbar) (i q : Nat) : List NetUnit := tget b.queues (8 * i + q) []
def Xbar.setQueue (b : Xbar) (i q : Nat) (l : List NetUnit) : Xbar := { b with queues := tput b.queues (8 * i + q) l [] }

/-- Units on chains at input i, oldest first (R74). -/
def Xbar.onChains (b : Xbar) (i : Nat) : List NetUnit := tget b.express i []
def Xbar.setOnChains (b : Xbar) (i : Nat) (l : List NetUnit) : Xbar := { b with express := tput b.express i l [] }

/-- The size of a queue in force (R70, R81). -/
def Xbar.size (b : Xbar) (i q : Nat) : Nat := tget b.sizes (8 * i + q) 8

/-- Units an upstream output may have in a queue: the smaller size while a new one waits (R81). -/
def Xbar.credit (b : Xbar) (i q : Nat) : Nat :=
  match b.resize.find? (fun e => e.1 == 8 * i + q) with
  | some (_, n) => min (b.size i q) n
  | none => b.size i q

/-- The queue a unit waits in (R69, R72). -/
def NetUnit.queue (u : NetUnit) : Nat := 2 * u.vnet + (if u.dateline then 1 else 0)

/-! ### Injection (R72, R78, R81) -/

/-- The ports attached at a Crossing that inject requests, with their local positions (R68). -/
def injectors (x : Nat) : List (Nat × Nat) :=
  ((List.range 101).filterMap (fun p => match portAt p with
    | some (y, l) => if y = x && (p < 96 || p = 100) then some (p, l) else none
    | none => none))

/-- The units of a request (R41, R43): a header and its data units. -/
def unitsOf (r : Req) (c : Nat) (chain : Bool) : List NetUnit :=
  let n := 1 + r.data.length
  (List.range n).map (fun k =>
    { src := (portAt r.port).map (·.1) |>.getD 0, dest := channelCrossing c, localPos := 0, vnet := 0, dateline := false,
      port := r.port, tag := r.tag, cls := r.cls, stamp := r.stamp, deadline := r.deadline, first := k == 0,
      last := k + 1 == n, chain := if chain then some c else none, replayed := false, squall := false })

/-- Units enter the network at input i: on a chain they wait for their run and take no queue; else they need their virtual
network open and room in queue q. `none` where they must wait. -/
def Xbar.inject (b : Xbar) (i q : Nat) (chain held : Bool) (us : List NetUnit) : Option Xbar :=
  if chain then some (b.setOnChains i (b.onChains i ++ us))
  else if !held && decide ((b.queue i q).length + us.length ≤ b.credit i q) then some (b.setQueue i q (b.queue i q ++ us))
  else none

/-- Inject the request at the head of a port's ingress queue: it leaves the queue and is in transit (R172). -/
def injectHead (x p l : Nat) (s : State) : State :=
  match (s.port p).ingress with
  | [] => s
  | r :: rest =>
    match reqChan s r with
    | none => s
    | some c =>
      let chain := r.res && 0 < flowLength s 0 p c
      match (s.xbar x).inject (4 + l) 0 chain (s.net.hold.contains 0) (unitsOf r c chain) with
      | some b =>
        let s := (s.modPort p (fun v => { v with ingress := rest })).setXbar x b
        { s with transit := tput s.transit c (tget s.transit c [] ++ [r]) [] }
      | none => s

/-- The units of a response (R41, R58): a header and its data units, from its channel's Crossing to its port's. -/
def unitsBack (b : Back) : List NetUnit :=
  let n := b.resp.units
  let at_ := (portAt b.resp.port).getD (0, 0)
  (List.range n).map (fun k =>
    { src := channelCrossing b.chan, dest := at_.1, localPos := at_.2, vnet := 1, dateline := false,
      port := b.resp.port, tag := b.resp.tag, cls := b.resp.cls, stamp := b.resp.stamp, deadline := b.resp.deadline,
      first := k == 0, last := k + 1 == n, chain := if b.chain then some b.chan else none, replayed := false, squall := false })

/-- Inject a waiting response of channel c at its Crossing's local position 0 (R68, R81). -/
def injectBack (c p : Nat) (s : State) : State :=
  match (s.port p).coming.find? (fun b => b.chan == c && !b.sent) with
  | none => s
  | some b =>
    let x := channelCrossing c
    match (s.xbar x).inject 4 2 b.chain (s.net.hold.contains 1) (unitsBack b) with
    | some v =>
      (s.setXbar x v).modPort p (fun w =>
        { w with coming := w.coming.map (fun y => if y.resp.tag == b.resp.tag && y.resp.stamp == b.resp.stamp then { y with sent := true } else y) })
    | none => s

/-! ### Output arbitration (R74-R79) -/

/-- A waiting unit that wants an output: where it stands, and the queue it enters next. -/
structure Head where
  input : Nat
  queue : Nat
  express : Bool
  unit : NetUnit
  next : Nat
  deriving DecidableEq, Repr

/-- The dateline of a unit after it leaves by an output (R72): a turn from X to Y resets it. -/
def nextDateline (x out input : Nat) (u : NetUnit) : Bool :=
  datelineAfter x out (decide (2 ≤ out) && decide (input < 2)) u.dateline

/-- A unit at an input that goes out by `out`. -/
def headOf (x out i q : Nat) (ex : Bool) (u : NetUnit) : Option Head :=
  if routeOut x u.dest u.localPos = out then
    some { input := i, queue := q, express := ex, unit := u, next := 2 * u.vnet + (if nextDateline x out i u then 1 else 0) : Head }
  else none

/-- The heads of queues that want output `out` of x: they arbitrate (R75). -/
def headsFor (s : State) (x out : Nat) : List Head :=
  let b := s.xbar x
  (List.range 56).filterMap (fun k => match (b.queue (k / 8) (k % 8)).head? with
    | some u => headOf x out (k / 8) (k % 8) false u
    | none => none)

/-- The bridge of a channel stack whose power state stops its clocks holds what is ejected there (R82, R155). -/
def bridgeShut (s : State) (x out : Nat) : Bool :=
  out == 4 && (List.range 16).any (fun c => channelCrossing c == x && (s.chan c).pstate == .deepSelfRefresh)

/-- The output's link is in service with no replay to come first (R83, R84); a shut bridge has one of its 16 places free. -/
def linkOk (s : State) (x out : Nat) : Bool :=
  if out < 4 then (let n := neighbour x out; !linkFailed s n.1 n.2 && (tfind (s.xbar n.1).redo n.2).isNone)
  else !(bridgeShut s x out && decide (16 ≤ (tget (s.xbar x).bridge 0 []).length))

/-- A credit downstream for the queue a head enters. -/
def hasCredit (s : State) (x out : Nat) (h : Head) : Bool :=
  if out < 4 then (let n := neighbour x out; decide (((s.xbar n.1).queue n.2 h.next).length < (s.xbar n.1).credit n.2 h.next)) else true

/-- The packet rule (R70): a header needs the queue unowned, a later unit needs it its own. A unit replayed off its chain is
no part of the packet its queue holds (R83). -/
def ownerAllows (s : State) (x out : Nat) (h : Head) : Bool :=
  h.unit.replayed || (match tfind (s.xbar x).owner (8 * out + h.next) with
  | some o => o == (h.unit.port, h.unit.tag)
  | none => h.unit.first)

/-- Network urgency of a unit (R31, R76). -/
def netUrgency (s : State) (u : NetUnit) : Nat :=
  s.obj (0x2200 + u.port) 5 + min (s.since u.stamp.absCycle / 40) 100 * s.obj (0x2200 + u.port) 6

/-- Requester number of a head among the 56 of an output. -/
def Head.req (h : Head) : Nat := 8 * h.input + h.queue

/-- The reserved entry of the following cycle at an output (R75 step 1, R77). -/
def nextEntry (s : State) (x out : Nat) : Nat := slotEntry s x 0x20 out ((s.cad.cyc64 + 1) % 64)

/-- Units of the packet at the front of a list. -/
def packetLength (l : List NetUnit) : Nat :=
  match l with
  | [] => 0
  | u :: _ => (l.takeWhile (fun v => v.port == u.port && v.tag == u.tag && v.vnet == u.vnet)).length

/-- The unit the reserved entry belongs to: the first on a chain of its flow at an input, a header at a run's start and a
later unit within it. At its injection point a packet takes a run at least as long as itself (R78). -/
def reservedHead (s : State) (x out : Nat) : Option Head :=
  let v := nextEntry s x out
  if bit v 31 then
    (List.range 7).findSome? (fun i =>
      let mine := ((s.xbar x).onChains i).filter (fun u =>
        u.chain == some (bits v 3 0) && u.port == bits v 10 4 && u.vnet == bits v 29 29)
      match mine.head? with
      | none => none
      | some u =>
        if u.first == bit v 30 || (decide (4 ≤ i) && u.first && decide (bits v 28 26 < packetLength mine)) then none
        else headOf x out i u.queue true u)
  else none

/-- The winner among heads that may move, by the mode of the Crossings (R75, R83, R124): replayed G units first; then the
highest network urgency among U units and rotating priority among the rest, or the earliest deadline and stamp. -/
def arbWinner (s : State) (ring : List Nat) (hs : List Head) : Option Head :=
  let byRing := fun (a b : Head) => decide (ringRank ring a.req < ringRank ring b.req)
  let byDeadline := fun (a b : Head) =>
    if a.unit.deadline = b.unit.deadline then stampLt a.unit.stamp b.unit.stamp else serialLt slotMod a.unit.deadline b.unit.deadline
  let replayed := hs.filter (fun h => h.unit.replayed)
  if !replayed.isEmpty then leastBy byRing replayed
  else if s.blk.mode = 0 then
    let us := hs.filter (fun h => h.unit.cls == .u)
    if us.isEmpty then leastBy byRing hs
    else leastBy (fun a b => if netUrgency s a.unit = netUrgency s b.unit then byRing a b else decide (netUrgency s b.unit < netUrgency s a.unit)) us
  else if s.blk.mode = 2 && hs.any (fun h => h.unit.squall) then leastBy byDeadline (hs.filter (fun h => h.unit.squall))
  else leastBy byDeadline hs

/-- The header unit of a request reaches its slice (R172). -/
def headerArrives (c p tag : Nat) (s : State) : State :=
  match (tget s.transit c []).find? (fun r => r.port == p && r.tag == tag) with
  | some r =>
    let s := { s with transit := tput s.transit c ((tget s.transit c []).filter (fun x => x.stamp != r.stamp)) [] }
    advanceHorizon c (arrive r s)
  | none => s

/-- A unit of a packet is still in the network. -/
def inNetwork (s : State) (u : NetUnit) : Bool :=
  let hit := fun (v : NetUnit) => v.port == u.port && v.tag == u.tag && v.vnet == u.vnet && v.stamp == u.stamp
  s.xbars.any (fun e => e.2.queues.any (fun q => q.2.any hit) || e.2.express.any (fun q => q.2.any hit) || e.2.redo.any (fun q => hit q.2.1))

/-- The last unit of a response reaches its port: the response enters the response buffer, or is lost (R73, R181). -/
def unitReturns (u : NetUnit) (s : State) : State :=
  if inNetwork s u then s
  else match (s.port u.port).coming.find? (fun b => b.resp.tag == u.tag && b.resp.stamp == u.stamp) with
  | some b => respond { b.resp with src := some u.src } (takeBack u.port u.tag u.stamp s)
  | none => s

/-- A unit leaves the network at x (R73, R172). -/
def ejectUnit (x : Nat) (u : NetUnit) (s : State) : State :=
  if u.vnet = 1 then unitReturns u s
  else if u.first && u.vnet == 0 then
    match (List.range 16).find? (fun c => channelCrossing c == x) with
    | some c => headerArrives c u.port u.tag s
    | none => s
  else s

/-- A unit comes to a local output: through, or into the bridge of a unit that is stopped, which it wakes (R82). -/
def reachBridge (x out : Nat) (u : NetUnit) (s : State) : State :=
  if bridgeShut s x out then
    let s := s.setXbar x { (s.xbar x) with bridge := tput (s.xbar x).bridge 0 (tget (s.xbar x).bridge 0 [] ++ [u]) [] }
    match (List.range 16).find? (fun c => channelCrossing c == x) with
    | some c => wakeChan c s
    | none => s
  else ejectUnit x u s

/-- A bridge whose unit runs again hands over what it held, in order (R82). -/
def openBridge (x : Nat) (s : State) : State :=
  if bridgeShut s x 4 then s
  else (tget (s.xbar x).bridge 0 []).foldl (fun t u => ejectUnit x u t) (s.setXbar x { (s.xbar x) with bridge := tdel (s.xbar x).bridge 0 })

/-! ### Link faults (R83, R84) -/

/-- A failed transfer at an input is replayed: counted there and at the sender (R83, R392). -/
def countReplay (x i : Nat) (s : State) : State :=
  let n := neighbour x i
  countCrossing n.1 8 n.2 1 (s.addObj (0x4000 + x) (2 + i) 1)

/-- The unit that failed is discarded at the input; its replay, from the sender's buffer, reaches it 6 cycles on. A G unit
leaves its chain, and goes ahead of every other from here on (R83). -/
def discardUnit (i due : Nat) (b : Xbar) : Xbar :=
  let again := fun (u : NetUnit) => (u.chain.isSome || u.cls == .g, { u with chain := none })
  let put := fun (u : NetUnit) (c : Xbar) =>
    let g := again u
    { c with redo := tins c.redo i ({ g.2 with replayed := u.replayed || g.1 }, due), arrived := tdel c.arrived i }
  match tfind b.redo i, tget b.arrived i 0 with
  | some r, _ => { b with redo := tins b.redo i (r.1, due) }
  | none, 0 => b
  | none, a =>
    let l := if a = 9 then b.onChains i else b.queue i (a - 1)
    match l.getLast? with
    | none => b
    | some u => put u (if a = 9 then b.setOnChains i l.dropLast else b.setQueue i (a - 1) l.dropLast)

/-- LINK_CRC_FAIL: the unit arriving at an input fails its CRC and is replayed. Sixteen failed replays in a row mark the link
Failed (R84). -/
def linkCrcFail (x i : Nat) (s : State) : State :=
  if linkFailed s x i then s
  else
    let b := s.xbar x
    let n := tget b.fails i 0 + 1
    let s := crossingCause x 0 0 (countReplay x i (s.setXbar x (discardUnit i ((s.cycleNow + 6) % cycleMod) { b with fails := tput b.fails i n 0 })))
    if 17 ≤ n then crossingCause x 1 3 (s.setObjBit (0x4000 + x) 6 i true) else s

/-- An armed injection of kind 4 names this input (R466). -/
def injectLink (s : State) (x i : Nat) : Bool :=
  injectArmed s 4 && bits (s.obj 0xB001 4) 5 0 == x && bits (s.obj 0xB001 4) 8 6 == i

/-- A unit reaches input i of x: its express register, or its queue; an armed injection fails its transfer. -/
def unitArrives (x i : Nat) (u : NetUnit) (s : State) : State :=
  let b := s.xbar x
  let b := if u.chain.isSome then { b.setOnChains i (b.onChains i ++ [u]) with arrived := tins b.arrived i 9 }
    else { b.setQueue i u.queue (b.queue i u.queue ++ [u]) with arrived := tins b.arrived i (u.queue + 1) }
  let s := s.setXbar x b
  if injectLink s x i then linkCrcFail x i (injectFired s) else s

/-- The replay of an input arrives: the unit that failed is there again. -/
def replayArrives (x i : Nat) (s : State) : State :=
  match tfind (s.xbar x).redo i with
  | some (u, _) => unitArrives x i u (s.setXbar x { (s.xbar x) with redo := tdel (s.xbar x).redo i })
  | none => s

/-- Replays due at the inputs of x (R83). -/
def replaysDue (x : Nat) (s : State) : State :=
  forN 4 s (fun i t => match tfind (t.xbar x).redo i with
    | some (_, due) => if !linkFailed t x i && serialLe cycleMod due t.cycleNow then replayArrives x i t else t
    | none => t)

/-- The last 8 units an output sent (R83). -/
def sentBuffer (l : List NetUnit) (u : NetUnit) : List NetUnit := (l ++ [u]).drop (l.length + 1 - 8)

/-- Take a head out of where it waits at x. A unit on a chain uses no queue, so it owns none. -/
def Xbar.take (b : Xbar) (out : Nat) (h : Head) : Xbar :=
  if h.express then b.setOnChains h.input ((b.onChains h.input).erase h.unit)
  else
    let b := b.setQueue h.input h.queue ((b.queue h.input h.queue).drop 1)
    if h.unit.replayed then b
    else { b with owner := if h.unit.last then tdel b.owner (8 * out + h.next) else tins b.owner (8 * out + h.next) (h.unit.port, h.unit.tag) }

/-- Move a head through an output: to the next input, or out of the network. -/
def sendHead (x out : Nat) (h : Head) (s : State) : State :=
  let s := s.setXbar x ((s.xbar x).take out h)
  if out < 4 then
    let n := neighbour x out
    let u := { h.unit with dateline := nextDateline x out h.input h.unit }
    let s := s.setXbar x { (s.xbar x) with sentUnits := tput (s.xbar x).sentUnits out (sentBuffer (tget (s.xbar x).sentUnits out []) u) [] }
    unitArrives n.1 n.2 u (s.setXbar n.1 { (s.xbar n.1) with fails := tdel (s.xbar n.1).fails n.2 })
  else reachBridge x out h.unit s

/-- Requests and responses at the local positions of x enter the network. -/
def injectAll (x : Nat) (s : State) : State :=
  let s := (injectors x).foldl (fun t e => injectHead x e.1 e.2 t) s
  match (List.range 16).find? (fun c => channelCrossing c == x) with
  | some c => s.activePorts.foldl (fun t p => injectBack c p t) s
  | none => s

/-- What comes to a cycle of output `out` of x before its arbitration: replays that are due, the bridge, injection. -/
def beforeCycle (x out : Nat) (s : State) : State :=
  let s := replaysDue x (if out < 4 then replaysDue (neighbour x out).1 s else s)
  injectAll x (openBridge x s)

/-- OUTPUT_ARBITRATION: one cycle of one output (R75). -/
def arbitrate (x out : Nat) (s : State) : State :=
  let s := beforeCycle x out s
  if !linkOk s x out then s
  else match reservedHead s x out with
    | some h => countCrossing x 2 out 1 (countCrossing x 1 out 1 (sendHead x out h s))
    | none =>
      let ring := tget (s.xbar x).rank out []
      let hs := headsFor s x out
      let movable := hs.filter (fun h => hasCredit s x out h && ownerAllows s x out h)
      match arbWinner s ring movable with
      | none => if hs.any (fun h => !hasCredit s x out h) then countCrossing x 6 out 1 s else s
      | some h =>
        let s := countCrossing x 7 out (movable.length - 1) (countCrossing x 1 out 1 s)
        let s := countCrossing x (if h.unit.cls == .u then 3 else 4) out 1 s
        let s := if bit (nextEntry s x out) 31 then countCrossing x 5 out 1 s else s
        let s := s.setXbar x { (s.xbar x) with rank := tput (s.xbar x).rank out (ringWin ring h.req) [] }
        sendHead x out h s

def execOutputArbitration (x : Fin 64) (out : Fin 7) (s : State) : Out := .next (arbitrate x out s)

def execLinkCrcFail (x : Fin 64) (input : Fin 4) (s : State) : Out := .next (linkCrcFail x input s)

/-- LINK_RETRY: the replay of a Failed link, once every 64 cycles; one that passes returns it to service (R84). -/
def linkRetry (x i : Nat) (pass : Bool) (s : State) : State :=
  if linkFailed s x i then
    let hit := injectLink s x i
    let s := (countReplay x i (if hit then injectFired s else s)).setObjBit (0x4000 + x) 1 0 true
    if pass && !hit then
      let s := s.setXbar x { (s.xbar x) with fails := tdel (s.xbar x).fails i }
      replayArrives x i (s.setObjBit (0x4000 + x) 6 i false)
    else s
  else s

def execLinkRetry (x : Fin 64) (input : Fin 4) (pass : Bool) (s : State) : Out := .next (linkRetry x input pass s)

/-! ### Swaps of slot tables and calendars (R80, R111) -/

/-- Copy a RECORD object onto another. -/
def copyRec (idx from_ to_ : Nat) (s : State) : State :=
  let src := s.recs.filter (fun e => e.1 / 2 ^ 20 == objKey idx from_)
  src.foldl (fun t e => { t with recs := sb t.recs (recAddr idx to_ (e.1 % 2 ^ 20)) e.2 }) (s.clearRec idx to_)

/-- Channels whose calendar change is pending. -/
def pendingCalendars (s : State) : List Nat := (List.range 16).filter (fun c => s.obj (arbIdx c) 1 == 1)

/-- A port's calendar entries or chains change under what is pending. -/
def changesPort (s : State) (p : Nat) : Bool :=
  (pendingCalendars s).any (fun c => portCalendar s c 0x10 p != portCalendar s c 0x11 p) ||
    (s.obj 0x2000 7 == 1 && portRunsAll s 0x10 p != portRunsAll s 0x20 p)

/-- A pending swap may happen: no port it changes has a reserved G request outstanding. -/
def swapReady (s : State) : Bool :=
  s.activePorts.all (fun p => !((s.port p).tags.any (fun u => u.req.res)) || !changesPort s p)

/-- Swap whatever is pending (R80, R111). A slot-table change and a calendar change that are pending swap together; two
calendar changes alone swap each by itself. -/
def swapCalendar (c : Nat) (s : State) : State := (copyRec (arbIdx c) 0x10 0x11 s).setObj (arbIdx c) 1 0

def swapTables (s : State) : State :=
  (forN 64 s (fun x t => forN 7 t (fun o u => copyRec (0x4000 + x) (0x10 + o) (0x20 + o) u))).setObj 0x2000 7 0

def calendarReady (s : State) (c : Nat) : Bool :=
  s.activePorts.all (fun p => !((s.port p).tags.any (fun u => u.req.res)) || portCalendar s c 0x10 p == portCalendar s c 0x11 p)

def swapPending (s : State) : State :=
  if s.obj 0x2000 7 = 1 then
    (if swapReady s then (pendingCalendars s).foldl (fun t c => swapCalendar c t) (swapTables s) else s)
  else (pendingCalendars s).foldl (fun t c => if calendarReady t c then swapCalendar c t else t) s

/-- SLOT_TABLE_SWAP and CALENDAR_SWAP: at a frame boundary, with their ports free. -/
def atBoundary (s : State) : Bool := s.now.slot == 0 && s.now.cycle == 0

def execSlotTableSwap (s : State) : Out := .next (if s.obj 0x2000 7 = 1 && atBoundary s then swapPending s else s)
def execCalendarSwap (s : State) : Out := .next (if (pendingCalendars s).isEmpty || !atBoundary s then s else swapPending s)

/-! ### Credit splits (R81) -/

/-- Queue sizes a CreditSplit names. -/
def splitSizes (v : Nat) : List Nat := (List.range 8).map (fun q => bits v (8 * q + 7) (8 * q))

/-- The sizes of a Crossing's queues that differ from those wanted: (8 × input + queue, new size). -/
def Xbar.diff (b : Xbar) (want : List Nat) : List (Nat × Nat) :=
  (List.range 56).filterMap (fun k => if want.getD (k % 8) 8 = b.size (k / 8) (k % 8) then none else some (k, want.getD (k % 8) 8))

/-- The virtual network of a queue of a Crossing (R70). -/
def queueVnet (k : Nat) : Nat := k % 8 / 2

/-- A committed CreditSplit takes effect at the frame boundary: injection held on the virtual networks that change. -/
def splitEffect (s : State) : State :=
  let s := forN 64 s (fun x t =>
    let b := t.xbar x
    let diff := b.diff (splitSizes (t.obj (0x4000 + x) 7))
    if diff.isEmpty && b.resize.isEmpty then t else t.setXbar x { b with resize := diff })
  let vs := ((s.xbars.flatMap (fun e => e.2.resize)).map (fun r => queueVnet r.1)).eraseDups
  if vs.isEmpty then s else { s with net := { hold := vs, split := some (s.now.frame, vs) } }

/-- No queue of virtual network v has still to adopt a size. -/
def splitDone (s : State) (v : Nat) : Bool := s.xbars.all (fun e => e.2.resize.all (fun r => queueVnet r.1 != v))

/-- CREDIT_QUEUE_RESIZE: the queue q of each input that is empty adopts its new size. -/
def adoptSize (x q : Nat) (s : State) : State :=
  let b := s.xbar x
  let now := b.resize.filter (fun e => e.1 % 8 == q && (tget b.queues e.1 []).isEmpty)
  if now.isEmpty then s
  else
    let sizes := now.foldl (fun t e => tput t e.1 e.2 8) b.sizes
    let s := s.setXbar x { b with sizes := sizes, resize := b.resize.filter (fun e => !now.contains e) }
    if splitDone s (q / 2) then { s with net := { s.net with hold := s.net.hold.filter (fun v => v != q / 2) } } else s

def execCreditQueueResize (x : Fin 64) (queue : Fin 8) (s : State) : Out := .next (adoptSize x queue s)

/-- CREDIT_CHANGE_TIMEOUT: 256 cycles after the boundary injection resumes; queues still not empty set cause bit 2. -/
def splitTimeout (v : Nat) (s : State) : State :=
  match s.net.split with
  | some (f, _) =>
    if s.net.hold.contains v && decide (256 ≤ s.since (7680 * f)) then
      let s := s.xbars.foldl (fun t e => if e.2.resize.any (fun r => queueVnet r.1 == v) then crossingCause e.1 2 0 t else t) s
      { s with net := { s.net with hold := s.net.hold.filter (fun w => w != v) } }
    else s
  | none => s

def execCreditChangeTimeout (vnet : Fin 4) (s : State) : Out := .next (splitTimeout vnet s)

end Sys2Proof.Machine
end

