-- ==== Sys2Proof/Machine/Sweeps.lean ====
section
/-! DEFINITION. The sweep and recovery engines: patrol scrub (R234, R235), page migration and the key roll (R214-R221),
the repair of lost ranges (R250), the rebuild of a replaced module (R292, R293), resync push and pull (R285-R287). A
burst of contexts 1 and 2 is carried out whole in the command that stands for it (log 35). -/

namespace Sys2Proof.Machine

/-! ### Patrol scrub (R234) -/

/-- ScrubRunInterval (R234): 260 416.67 frames a second, in frames; 0 while scrub is off. -/
def scrubInterval (s : State) (c : Nat) : Nat :=
  let h := s.obj (chIdx 0x3002 c) 1
  let r := scrubRuns s c
  if h = 0 || r = 0 then 0 else max 1 (h * 3600 * 26041667 / (100 * r))

/-- Scrub claims the pattern store for its runs, of every channel at once (R185; log 74). -/
def scrubClaim (s : State) : State × Bool := if s.obj 0x2F00 2 = 7 then (s, true) else claim 2 7 s

/-- The next scrub run of a channel can be presented: its time has come, none waits, and its 64 reads fit the queue (R107) and
the gate window (R119), and port 99 reaches the channel. -/
def scrubDue (s : State) (c : Nat) : Bool :=
  let ch := s.chan c
  let serving := match s.descOf c with | some (d, _) => (s.dist d).st.serving | none => false
  scrubInterval s c != 0 && serving && ch.st.grants && (tget ch.bursts 0 []).isEmpty && serialLe frameMod ch.scrubNext s.now.frame &&
    decide (ch.gate.length + 64 ≤ 128) && gateFits s c 64 && laneOpen s 99 c

/-- SCRUB_RUN: the next run's 64 reads enter the gate queue as one burst of context 0. Where the pattern store is held it
waits (R185). -/
def scrubRun (c : Nat) (s : State) : State :=
  let n := scrubInterval s c
  let own := scrubClaim s
  if !scrubDue s c then s
  else if !own.2 then own.1
  else
    let s := own.1
    let ch := s.chan c
    let run := s.obj (chIdx 0x3002 c) 3
    let ops := (List.range 64).map (fun k =>
      { mkEntry s (64 * run + k) false .scrub 99 (s.borrowedDeadline 99) (s.stampNow 99) with ctx := some 0 })
    let next := if serialLe frameMod ((ch.scrubNext + n) % frameMod) s.now.frame then (s.now.frame + n) % frameMod else (ch.scrubNext + n) % frameMod
    let s := s.setChan c { ch.wake with gate := ch.gate ++ ops, bursts := tput ch.bursts 0 [64] [], scrubNext := next }
    let was := ctxState s c 0
    runCtx c 0 64 (if was = 3 then setCtx c 0 0 s else s)

def execScrubRun (c : Fin 16) (s : State) : Out := .next (scrubRun c s)

/-! ### Migration (R213-R216) -/

/-- The engine of a context reaches channel c: port 97 copies for context 2, training is the channel's own, else port 99. -/
def engineOpen (s : State) (c k : Nat) : Bool := k == 3 || laneOpen s (if k = 2 then 97 else 99) c

/-- The channel may carry a maintenance burst of n line operations of context k, which fits the gate window (R119, R185). -/
def sweepReady (s : State) (c k n : Nat) : Bool :=
  (s.chan c).st.grants && ctxAllowed s c k && gateFits s c n && engineOpen s c k

/-- A burst that does not fit what is left of the open window waits for the next, and counts (R121). -/
def deferBurst (c k n : Nat) (s : State) : State :=
  if (s.chan c).st.grants && ctxAllowed s c k && !gateFits s c n && s.gateSlot c s.now.slot then s.addObj (chIdx 0x3025 c) 4 1 else s

/-- A burst of n line operations of context k of channel c: it takes the gate from the other contexts (R112 step 8, R120). -/
def noteBurst (c k n total : Nat) (s : State) : State :=
  addProgress c k n (runCtx c k total ((loseOthers c k s).modChan c (fun ch => { ch with ctxRing := ringWin ch.ctxRing k })))

/-- The plaintext of a line for a migration (R214 step 1): from the Plaza where it is, else its fill. -/
def migrationFill (d dline : Nat) (s : State) : State × Option (BitVec 512) :=
  let q := (s.dist d).desc.place (64 * dline) 0
  match s.pline q.1 q.2 with
  | some x =>
    if x.empty then
      let r := fillLine q.1 q.2 d dline 99 s
      (r.1, match r.2 with | .data v => some v | _ => none)
    else (s, some x.data)
  | none =>
    let r := fillLine q.1 q.2 d dline 99 s
    (r.1, match r.2 with | .data v => some v | _ => none)

/-- The counter block of a page, written back to the Ledger. -/
def putBlock (d page : Nat) (block : BitVec 512) (s : State) : State :=
  let x := (s.dist d).desc
  let q := x.place (x.carve.counterAddr page) 0
  putLedger (ledgerRun ledgerDepth) 99 q.1 q.2 block s

/-- Write a migrated line back under its target state; the Plaza's copy is Clean behind it. -/
def migrationWrite (d : Nat) (item : Nat × BitVec 512) (s : State) : State :=
  let q := (s.dist d).desc.place (64 * item.1) 0
  let r := storeData 99 q.1 q.2 d item.1 item.2 s
  if r.2 then
    match r.1.pline q.1 q.2 with
    | some x => if x.st == .dirty && !x.empty then r.1.setPline q.1 q.2 { x with st := .clean, wrote := false, gCharge := false, wbGranted := false } else r.1
    | none => r.1
  else r.1

/-- A migration is complete (R214, R216, R218). -/
def migrationDone (d page : Nat) (block : BitVec 512) (s : State) : State :=
  if 0xC0 ≤ nodeCursor block then
    putBlock d page (nodeSetCursor (nodeSetMajor (nodeSetGen block ((s.vault.gen + 1) % 2)) 0) 0) s
  else
    let m := nodeMajor block + 1
    let s := raiseCeiling d m (if m = 2 ^ 63 - 1 then sealPage d page s else s)
    putBlock d page (nodeSetCursor (nodeSetMajor block m) (if m = 2 ^ 63 - 1 then 0x40 else 0)) s

/-- One burst of 16 lines of a page whose cursor is busy (R214). -/
def migrate16 (d page : Nat) (block : BitVec 512) (s : State) : State :=
  let x := (s.dist d).desc
  let m := cursorM (nodeCursor block)
  let kind := nodeCursor block - m
  let c := (x.place (4096 * page + 64 * m) 0).1
  let got := (List.range 16).foldl (fun (acc : State × List (Nat × BitVec 512)) k =>
    let dl := 64 * page + m + k
    let r := migrationFill d dl acc.1
    match r.2 with
    | some v => (r.1, acc.2 ++ [(dl, v)])
    | none => (r.1, acc.2)) (s, [])
  let b := needReplaced (.node true d 0 page) d got.1
  match b.2 with
  | none => b.1
  | some blk =>
    let cleared := (List.range 16).foldl (fun n k => nodeSetMinor n (m + k) 0) blk
    let moved := if m + 16 = 64 then cleared else nodeSetCursor cleared (kind + m + 16)
    let s := if m + 16 = 64 then migrationDone d page moved b.1 else putBlock d page moved b.1
    let s := got.2.foldl (fun t e => migrationWrite d e t) s
    let s := noteBurst c 1 32 146 s
    if m + 16 = 64 then endCtx c 1 s else s

/-! ### Key roll (R219-R221) -/

/-- The district the roll sweeps. -/
def rollDistrict (s : State) : Option Nat := [0, 1, 2, 3].find? (fun d => !(s.vault.swept.getD d false))

/-- A district with nothing to sweep: Open, or with no formation (R219 step 2). -/
def rollSwept (s : State) (d : Nat) : Bool := (s.dist d).st == .unformed || (s.dist d).desc.mode == 2

/-- Every node of levels 1 to T under the successor MacKey, its GenBit set (R219 step 6). -/
def rollNodes (d : Nat) (s : State) : State :=
  let x := (s.dist d).desc
  let g := (s.vault.gen + 1) % 2
  if x.mode != 0 then s
  else forN x.carve.top s (fun j0 t =>
    let j := j0 + 1
    forN (x.carve.nodes j) t (fun i u =>
      let r := needReplaced (.node false d j i) d u
      match r.2 with
      | none => r.1
      | some n =>
        let p := parentTouch (ledgerRun ledgerDepth) 99 d j i r.1
        match p.2 with
        | .ctr pc => renewNode d j i pc (nodeSetGen n g) p.1
        | _ => p.1))

/-- The roll ends with its last district (R220): the sealed pages are open again (R217). -/
def rollEnd (s : State) : State :=
  if (List.range 4).all (fun d => s.vault.swept.getD d false) then
    let v := { s.vault with gen := (s.vault.gen + 1) % 2 ^ 16, check := s.vault.succCheck, succCheck := 0, rollActive := false,
                            swept := [false, false, false, false], checkpoints := [0, 0, 0, 0], epochs := [0, 0, 0, 0] }
    let s := publishVault (writeVault { s with vault := v, keys := { s.keys with cur := s.keys.succ, succ := none } })
    ((forN 4 s (fun d t => (unsealDistrict d t).setObj 0x5000 (0x30 + d) 0)).setObj 0x5000 0x0B 0).raise 0x025
  else s.setObj 0x5000 0x0B ((rollDistrict s).getD 0)

/-- A district is swept (R219 step 7). -/
def rollMark (d : Nat) (s : State) : State :=
  rollEnd (writeVault { s with vault := { s.vault with swept := set4 s.vault.swept d true } })

/-- Districts with nothing to sweep are marked at once (R219 step 2). -/
def rollSkip (s : State) : State :=
  forN 4 s (fun d t => if t.vault.rollActive && !(t.vault.swept.getD d false) && rollSwept t d then rollMark d t else t)

/-- A page has been swept: the checkpoint follows every 4 096 pages; after the last page the nodes (R219 steps 5 to 7). -/
def rollPage (d : Nat) (s : State) : State :=
  let n := s.obj 0x5000 (0x10 + d) + 1
  let s := s.setObj 0x5000 (0x10 + d) n
  let s := if n % 4096 = 0 then writeVault { s with vault := { s.vault with checkpoints := set4 s.vault.checkpoints d n } } else s
  if (s.dist d).desc.carve.pages ≤ n then rollMark d (rollNodes d s) else s

/-- MIGRATION_BURST (R214, R219): a burst of a page whose cursor is busy; a page the roll has reached starts its migration
to the successor generation, or is passed over where it has it. -/
def migrationBurst (d page : Nat) (s : State) : State :=
  let x := (s.dist d).desc
  let c := (x.place (4096 * page) 0).1
  if !(s.dist d).st.serving || x.mode = 2 || x.carve.pages ≤ page then s
  else if !sweepReady s c 1 32 then deferBurst c 1 32 s
  else
    let b := needReplaced (.node true d 0 page) d s
    match b.2 with
    | none => b.1
    | some block =>
      let reached := s.vault.rollActive && rollDistrict s == some d && s.obj 0x5000 (0x10 + d) == page
      if cursorBusy (nodeCursor block) then
        let s := migrate16 d page block b.1
        if reached && 0xC0 ≤ nodeCursor block && cursorM (nodeCursor block) = 48 then rollPage d s else s
      else if reached then
        if nodeGen block = (s.vault.gen + 1) % 2 then rollPage d b.1
        else migrate16 d page (nodeSetCursor block 0xC0) (putBlock d page (nodeSetCursor block 0xC0) b.1)
      else b.1

def execMigrationBurst (d : Fin 4) (page : Nat) (s : State) : Out := .next (migrationBurst d page s)

/-! ### Skips (R247, R250) -/

/-- The Plaza holds the line as R247 describes. -/
def plazaKeeps (s : State) (d dline : Nat) : Bool :=
  let q := (s.dist d).desc.place (64 * dline) 0
  match s.pline q.1 q.2 with
  | some x => keptLine d dline 1 x
  | none => false

/-- A write-back has stored the line since its replacement (R250). -/
def storedSince (e : Repair) (d dline : Nat) (s : State) : State × Bool :=
  if e.kind = 0 then (s, e.progress = 1)
  else if (s.dist d).desc.mode = 2 then (s, false)
  else if e.kind = 1 then
    let m := needLine (.mac d (dline / 8)) d s
    (m.1, match m.2 with | some v => macOf v dline != 0 | none => false)
  else
    let b := needLine (.node true d 0 (dline / 64)) d s
    (b.1, match b.2 with | some v => nodeMinor v (dline % 64) != 0 | none => false)

/-- A request for a line is outstanding. -/
def requested (s : State) (purpose d dline : Nat) : Bool :=
  s.mirror.reqs.any (fun r => r.purpose == purpose && r.dist == d && r.dline == dline)

/-- Ask the twin for a line an engine needs (R281). -/
def engineAsk (purpose d dline : Nat) (s : State) : State :=
  if requested s purpose d dline then s
  else
    let q := (s.dist d).desc.place (64 * dline) 0
    remoteRequest purpose d dline 1 (s.stampNow 97) 0 q.1 q.2 s

/-- The twin can serve an engine's line. -/
def twinServes (s : State) (d : Nat) : Bool := (s.dist d).mst == .inSync && s.keys.links.isSome

/-- Write the poison marker to a data line (R236). -/
def markPoison (d dline : Nat) (s : State) : State :=
  let q := (s.dist d).desc.place (64 * dline) 0
  writeDram q.1 q.2 poisonMarker s

/-- Bytes one more line of recovery takes fit in this frame's share (R287): RecoveryRateMax GB/s over 3 840 ns. -/
def recoveryRoom (s : State) (n : Nat) : Bool := decide (s.mirror.recovery + 64 * n ≤ s.obj 0x6000 0x0E * 3840)
def recoverySpend (n : Nat) (s : State) : State := { s with mirror := { s.mirror with recovery := s.mirror.recovery + 64 * n } }

/-! ### Repair (R250) -/

/-- One line of a repair: passed (skipped or marked), or waiting for the twin. -/
def repairLine (e : Nat) (dline : Nat) (s : State) : State × Bool :=
  let r := s.repairAt e
  let d := r.dist
  let q := (s.dist d).desc.place (64 * dline) 0
  if (s.dist d).desc.limit ≤ 64 * dline then (s, true)
  else if !sweepReady s q.1 2 1 then (deferBurst q.1 2 1 s, false)
  else if plazaKeeps s d dline then (s, true)
  else
    let st := storedSince r d dline s
    if st.2 then (st.1, true)
    else if r.state = 2 && twinServes st.1 d then (addProgress q.1 2 1 (engineAsk 1 d dline st.1), false)
    else
      let s := (markPoison d dline st.1).addObj 0x5104 5 1
      (addProgress q.1 2 1 (s.setRepair e { (s.repairAt e) with marked := true, state := 3 }), true)

/-- Lines of a burst in line order: progress passes those done before the first that waits. -/
def repairLines64 (e first : Nat) : Nat → Nat → Bool → State → State × Nat
  | 0, k, _, s => (s, k)
  | n + 1, k, lead, s =>
    let r := repairLine e (first + k) s
    let x := repairLines64 e first n (k + 1) (lead && r.2) r.1
    if lead && r.2 then x else (x.1, k)

/-- REPAIR_BURST: up to 64 lines of an entry (R250). The entry is freed when progress reaches the end of its range. -/
def repairBurst (e : Nat) (s : State) : State :=
  let r := s.repairAt e
  if r.state = 0 then s
  else
    let s := if r.state = 1 then s.setRepair e { r with state := repairState s r.dist } else s
    let n := repairLines r.kind
    let done := if r.kind = 0 then 0 else r.progress
    let w := repairLines64 e (r.firstLine + done) (min 64 (n - done)) 0 true s
    let s := w.1
    let p := done + w.2
    let r := s.repairAt e
    if n ≤ p then
      let marked := r.marked
      let s := storeRepair e (s.setRepair e Repair.free)
      s.raise (if marked then 0x033 else 0x032)
    else if r.kind = 0 then s
    else
      let s := s.setRepair e { r with progress := p }
      if p / 4096 != done / 4096 then storeRepair e s else s

def execRepairBurst (entry : Fin 256) (s : State) : Out := .next (repairBurst entry s)

/-! ### Rebuild (R292, R293) -/

/-- Line l lies in a bay of channel c whose module is being rebuilt. -/
def inRebuild (s : State) (c l : Nat) : Bool := s.obj (0x7100 + (2 * c + (s.coordOf c l).pos)) 9 == 1

/-- Pull a data line, or mark it where no twin serves (R292, R293): passed, or waiting. -/
def rebuildData (c d dline : Nat) (s : State) : State × Bool :=
  if plazaKeeps s d dline then (s, true)
  else if twinServes s d then
    (if recoveryRoom s 1 then recoverySpend 1 (engineAsk 2 d dline s) else s, false)
  else ((markPoison d dline s).addObj (0x6060 + c) 4 1, true)

/-- The data lines whose counters a lost block held are pulled, or marked (R292). -/
def rebuildPage (c d page : Nat) (s : State) : State × Bool :=
  (List.range 64).foldl (fun (acc : State × Bool) k =>
    let r := rebuildData c d (64 * page + k) acc.1
    (r.1, acc.2 && r.2)) (s, true)

/-- Write a Ledger line straight to DRAM. -/
def flushNow (c d l : Nat) (s : State) : State := flushLedger true c l (some d) s

/-- The surviving children of a replaced level-1 node, re-MACed under it (R215, R292). -/
def readopt (d idx : Nat) (s : State) : State :=
  let x := (s.dist d).desc
  let top := (s.dist d).ceiling + 1
  let s := raiseCeiling d top s
  let n := min 64 (x.carve.pages - 64 * idx)
  let node := (List.range n).foldl (fun v k => nodeSetMinor v k 1) (replacementNode s top)
  let s := forN n s (fun k t =>
    let q := x.place (x.carve.nodeAddr 0 (64 * idx + k) 0) 0
    let child := match tfind t.ledger (lineKey q.1 q.2) with
      | some ln => (t, some ln.data)
      | none => readSingle x (x.carve.nodeAddr 0 (64 * idx + k) 0) t
    match child.2 with
    | some v => renewNode d 0 (64 * idx + k) (itemCtr node k) v child.1
    | none => child.1)
  let q := x.place (x.carve.nodeAddr 1 idx 0) 0
  flushNow q.1 d q.2 (putLedger (ledgerRun ledgerDepth) 99 q.1 q.2 node s)

/-- The MAC line of eight data lines, recomputed from what they hold (R292). -/
def recomputeMac (d i : Nat) (s : State) : State :=
  let x := (s.dist d).desc
  let r := (List.range 8).foldl (fun (acc : State × BitVec 512) k =>
    let dl := 8 * i + k
    let q := x.place (64 * dl) 0
    let b := needLine (.node true d 0 (dl / 64)) d acc.1
    match b.2 with
    | some block =>
      let v := readDram q.1 q.2 false b.1
      (match v.2.data with
       | some ct =>
         let ctr := itemCtr block (dl % 64)
         (v.1, setMac acc.2 dl (dataMac (v.1.keyFor ctr.gen) d (v.1.epochFor d ctr.gen) dl ctr ct))
       | none => (v.1, acc.2))
    | none => (b.1, acc.2)) (s, 0)
  let q := x.place (x.carve.macBase + 64 * i) 0
  flushNow q.1 d q.2 (putLedger (ledgerRun ledgerDepth) 99 q.1 q.2 r.2 r.1)

/-- One line of a rebuilt bay, by its region (R292): passed, or waiting for the twin. -/
def rebuildLine (c l : Nat) (s : State) : State × Bool :=
  match (s.chan c).dist with
  | none => (s, true)
  | some d =>
    let x := (s.dist d).desc
    if x.channelBytes ≤ 64 * l then (s, true)
    else if !inRebuild s c l then (s, true)
    else
      let a := x.localOf c l
      match x.regionOf a with
      | .data => rebuildData c d (a / 64) s
      | .unused => (s, true)
      | .counter p =>
        if (tfind s.ledger (lineKey c l)).isSome then (flushNow c d l s, true)
        else
          let gone := match decodeLine (s.erasedDevice c (s.coordOf c l).sub (s.coordOf c l).rankSlot) (s.dramLine c l) with
            | .clean _ => false
            | _ => true
          let s := if gone || (tfind s.dram (lineKey c l)).isNone then flushNow c d l (installReplacement d 2 p s) else s
          rebuildPage c d p s
      | .mac i => if (tfind s.ledger (lineKey c l)).isSome then (flushNow c d l s, true) else (recomputeMac d i s, true)
      | .node j idx =>
        if j = 1 then
          (if (tfind s.ledger (lineKey c l)).isSome then (flushNow c d l s, true) else (readopt d idx s, true))
        else if 3 ≤ j then (writeDram c l (encodeLine (pinnedNode s d j idx)) s, true)
        else
          let v := readCopies d j idx s
          match v.2 with
          | some n => (writeDram c l (encodeLine n) v.1, true)
          | none => (lose d (lossKind j) idx c v.1, true)

/-- Lines of a burst in ascending order; the cursor passes those done before the first that waits. -/
def rebuildLines (c first : Nat) : Nat → Nat → Bool → State → State × Nat
  | 0, k, _, s => (s, k)
  | n + 1, k, lead, s =>
    let r := rebuildLine c (first + k) s
    let x := rebuildLines c first n (k + 1) (lead && r.2) r.1
    if lead && r.2 then x else (x.1, k)

/-- One past the last line of the channel below U. -/
def rebuildLast (s : State) (c : Nat) : Nat := match s.descOf c with | some (_, x) => x.channelBytes / 64 | none => 0

/-- The rebuild is complete (R293): the bays are in service, the channel Running, its gate claim released. -/
def rebuildDone (c : Nat) (s : State) : State :=
  let s := forN 2 s (fun p t =>
    let b := 2 * c + p
    if t.obj (0x7100 + b) 9 = 1 then
      (if (t.bay b).st = .rebuilding then bayInService b t else t).setObj (0x7100 + b) 9 0
    else t)
  let s := releaseOwn (0x10 + c) 10 (endCtx c 2 s)
  (unpinLines c (setChanState c .running s)).raiseChan c 0xE

/-- REBUILD_BURST: 64 lines from RebuildCursor on (R292). -/
def rebuildBurst (c : Nat) (s : State) : State :=
  let ch := s.chan c
  let own := if s.obj 0x2F00 (0x10 + c) = 10 then (s, true) else claim (0x10 + c) 10 s
  if ch.st != .rebuilding then s
  else if !own.2 then own.1
  else if !(gateFits s c 64 && engineOpen s c 2) then deferBurst c 2 64 own.1
  else
    let s := own.1
    let cur := s.obj (0x6060 + c) 1
    let last := rebuildLast s c
    let w := rebuildLines c cur (min 64 (last - cur)) 0 true (noteBurst c 2 0 last s)
    let s := addProgress c 2 w.2 w.1
    let n := cur + w.2
    let s := s.setObj (0x6060 + c) 1 n
    let s := if n / 2 ^ 20 != cur / 2 ^ 20 then { s with mram := sbNat s.mram (rebuildCursorAt c) 8 n } else s
    if last ≤ n then rebuildDone c s else s

def execRebuildBurst (c : Fin 16) (s : State) : Out := .next (rebuildBurst c s)

/-! ### Resync (R285-R287) -/

/-- Pages of a plan done: counted, saved every 2^20 pages (R285). -/
def resyncCount (d : Nat) (s : State) : State :=
  let n := s.obj (0x6010 + d) 8 + 1
  let s := s.setObj (0x6010 + d) 8 n
  if n % 2 ^ 20 = 0 then { s with mram := sbNat s.mram (resyncAt d) 8 n } else s

/-- The copy of one line of a push: a read of port 97 at its own stamp (R285). -/
def copyAccess (s : State) (d dline : Nat) : Access :=
  let q := (s.dist d).desc.place (64 * dline) 0
  { port := 97, tag := 0, stamp := s.stampNow 97, ord := s.stampNow 97, deadline := s.borrowedDeadline 97, chan := q.1, line := q.2,
    dist := d, gpos := none, dline := dline, k := dline % 64, kind := .rd, cls := .u, res := false, twin := false, group := false,
    engine := true, copy := true }

/-- RESYNC_PUSH_BURST: a Lead's next page (R285); copies wait while the replay store's free space is below a quarter
(R287). -/
def pushBurst (d : Nat) (s : State) : State :=
  let x := s.dist d
  let page := x.pushPage % max 1 (s.dataPages d)
  let chans := ((List.range 64).map (fun k => (x.desc.place (4096 * page + 64 * k) 0).1)).eraseDups
  if s.role d != 1 || x.mst != .resyncing || !x.push || !x.pull.isEmpty || 2 ^ 21 - (replayUsed s + rxUsed s) < 2 ^ 19 ||
      !recoveryRoom s 64 || !(chans.all (fun c => sweepReady s c 2 (64 / max 1 chans.length))) then s
  else if s.dataPages d = 0 then checkResync d (s.modDist d (fun y => { y with push := false }))
  else
    let s := (List.range 64).foldl (fun t k => enterOrder (copyAccess t d (64 * page + k)) t) (recoverySpend 64 s)
    let s := resyncCount d s
    let more := decide (s.obj (0x6010 + d) 8 < s.obj (0x6010 + d) 9)
    let s := s.modDist d (fun y => { y with pushPage := x.pushPage + 1, push := more })
    let s := chans.foldl (fun t c => advanceHorizon c (addProgress c 2 (64 / max 1 chans.length) t)) s
    checkResync d s

def execResyncPushBurst (d : Fin 4) (s : State) : Out := .next (pushBurst d s)

/-- A pulled page is done: it leaves its range (R285). -/
def pullPageDone (d : Nat) (s : State) : State :=
  let s := s.modDist d (fun y => { y with pull := match y.pull with
    | [] => []
    | r :: rest => if r.count ≤ 1 then rest else { first := r.first + 1, count := r.count - 1 } :: rest })
  let x := s.dist d
  let s := if x.pull.isEmpty then s.setObj (0x6010 + d) 7 (if x.push then 1 else 0) else s
  checkResync d (resyncCount d s)

/-- RESYNC_PULL_BURST: the next page of the ranges to pull (R285), with the skip rules of R250. -/
def pullBurst (d : Nat) (s : State) : State :=
  let x := s.dist d
  match x.pull with
  | [] => s
  | r :: _ =>
    if x.mst != .resyncing || s.mirror.reqs.any (fun q => q.dist == d && q.purpose == 3) || !recoveryRoom s 64 then s
    else
      let want := (List.range 64).filter (fun k => !plazaKeeps s d (64 * r.first + k))
      if want.isEmpty then pullPageDone d s
      else want.foldl (fun t k => engineAsk 3 d (64 * r.first + k) t) (recoverySpend want.length s)

def execResyncPullBurst (d : Fin 4) (s : State) : Out := .next (pullBurst d s)

end Sys2Proof.Machine
end

