-- ==== Sys2Proof/Machine/MirrorRx.lean ====
section
/-! DEFINITION. The receiving side of the mirror and its timers (R270-R291): frames of each kind, acknowledgements,
remote service, paths, promotion and demotion. -/

namespace Sys2Proof.Machine

/-! ### Frame fields (R262-R267) -/

def byteAt (bs : List Byte) (i : Nat) : Nat := (bs.getD i 0).toNat
def fieldAt (bs : List Byte) (o n : Nat) : Nat := leNat ((bs.drop o).take n)

/-- Form of a frame of a kind (R263, R270 step 1). -/
def frameForm (kind : Nat) (bs : List Byte) : Bool :=
  decide (32 ≤ bs.length) && bs.length == 48 + 64 * fieldAt bs 4 2 && byteAt bs 0 == 1 && byteAt bs 1 / 16 == kind &&
    decide (kind ≤ 4) && fieldAt bs 6 2 == 0 && ((bs.drop 16).take 16).all (fun b => b == 0)

/-- A record from its slots and its data block (R264): the record, the slots it took. -/
def parseRecords (slots blocks : List Byte) : Nat → List MRec
  | 0 => []
  | n + 1 =>
    let op := byteAt slots 9
    let masked := op % 4 == 1
    let st := stampOfWord (fieldAt slots 0 9)
    let r : MRec := { stamp := st, op := op % 4, group := bit op 2, durable := bit op 3, dline := fieldAt slots 10 5 % 2 ^ 38,
                      mask := if masked then BitVec.ofNat 64 (fieldAt slots 16 8) else 0,
                      data := bytesBv 512 (blocks.take 64), tag := 0 }
    r :: parseRecords (slots.drop (if masked then 32 else 16)) (blocks.drop 64) n

/-- A Data frame's payload (R264). -/
def parseData (seq : Nat) (p : List Byte) : RxFrame :=
  let recs := parseRecords ((p.drop 64).take (64 * byteAt p 11)) (p.drop (64 + 64 * byteAt p 11)) (byteAt p 10)
  { seq := seq, dist := byteAt p 9 % 4, cut := stampOfWord (fieldAt p 0 9), recs := recs, left := recs }

/-! ### Paths (R275) -/

def pathUp (s : State) (path : Nat) : Bool := ((s.mirror.up.drop (8 * path)).take 8).any id

/-- The port states as their object shows them. -/
def showPorts (s : State) : State :=
  s.setObj 0x6000 4 ((List.range 16).foldl (fun a k => if s.mirror.up.getD k false then a + 2 ^ k else a) 0)

/-- A frame passed step 2 at a port: it is Up. -/
def portHeard (k : Nat) (s : State) : State :=
  let was := pathUp s (k / 8)
  let s := showPorts { s with mirror := { s.mirror with up := s.mirror.up.set k true } }
  if was then s else s.raise 0x03B

/-- PATH_SILENT_TIMEOUT: no frame on a port for PathSilentTimeout. -/
def portSilent (k : Nat) (s : State) : State :=
  let was := pathUp s (k / 8)
  let s := showPorts { s with mirror := { s.mirror with up := s.mirror.up.set k false } }
  if was && !pathUp s (k / 8) then s.raise 0x03A else s

def execPathSilentTimeout (port : Fin 16) (s : State) : Out := .next (portSilent port s)

/-! ### Kinds (R271-R274, R281, R282) -/

/-- The local Follower district that a frame's lead district feeds. -/
def followerFor (s : State) (lead : Nat) : Option Nat := [0, 1, 2, 3].find? (fun d => s.role d == 2 && s.twinOf d == lead)

/-- Accept the frame expected next and every consecutive one held (R271). -/
def acceptRx (k : Nat) : Nat → State → State
  | 0, s => s
  | n + 1, s =>
    let r := s.rx k
    let want := s.obj (0x6040 + k) 3
    match r.held.find? (fun f => f.seq == want) with
    | some f =>
      let s := s.setRx k { r with held := r.held.filter (fun g => g.seq != want), fwd := r.fwd ++ [f], cut := some f.cut, dist := f.dist }
      acceptRx k n (s.setObj (0x6040 + k) 3 (want + 1))
    | none => s

/-- A frame that repeats one already handled is discarded, counted in DuplicateDiscards (R270, R271; log 91). -/
def discardRepeat (s : State) : State := s.addObj 0x6000 0x23 1

/-- A Data frame of stream k (R271, R278). -/
def takeData (k seq : Nat) (payload : List Byte) (s : State) : State :=
  let f := parseData seq payload
  let want := s.obj (0x6040 + k) 3
  if (followerFor s f.dist).isNone then s
  else if seq < want then discardRepeat s
  else if want + 31 < seq || 2 ^ 21 < rxUsed s + replayUsed s + frameBytesOf f.recs then s.addObj 0x6000 0x24 1
  else if (s.rx k).held.any (fun g => g.seq == seq) then discardRepeat s
  else
    let r := s.rx k
    let s := s.setRx k { r with held := sortedInsert (fun (a b : RxFrame) => decide (a.seq ≤ b.seq)) f r.held, dist := f.dist }
    let s := acceptRx k 33 s
    -- a frame with no records is passed once accepted (R278)
    (advanceCum k s).1

/-- Note that a frame was sent again now. -/
def TxFrame.resent (now : Nat) (hit : TxFrame → Bool) (f : TxFrame) : TxFrame := if hit f then { f with sent := now } else f

/-- Held frames that were sent again. -/
def noteResent (hit : TxFrame → Bool) (s : State) : State :=
  { s with mirror := { s.mirror with replay := s.mirror.replay.map (TxFrame.resent s.cycleNow hit) } }

/-- Send the frames a Nak entry names again, once each, in sequence order (R274). -/
def answerNak (k first count : Nat) (s : State) : State :=
  let fs := s.mirror.replay.filter (fun f => f.stream == k && decide (first ≤ f.seq) && decide (f.seq < first + count))
  fs.foldl (fun t f =>
    let t := sendData f t
    let t := noteResent (fun g => g.stream == f.stream && g.seq == f.seq) t
    t.addObj 0x6000 0x21 1) s

/-- What an acknowledgement may end: demotions and resyncs. -/
def afterAck (s : State) : State := forN 4 s (fun d t => finishDemote d (checkResync d t))

/-- An Ack (R265, R271, R274). -/
def takeAck (seq : Nat) (p : List Byte) (s : State) : State :=
  let old := match s.mirror.lastAck with | some n => decide (seq ≤ n) | none => false
  if old then discardRepeat s
  else
    let s := { s with mirror := { s.mirror with lastAck := some seq } }
    let s := forN 16 s (fun k t => acknowledge k (min (fieldAt p (8 * k) 8) (t.obj (0x6040 + k) 1)) t)
    let s := forN 4 s (fun e t =>
      let o := 128 + 16 * e
      if fieldAt p (o + 2) 2 = 0 then t else answerNak (byteAt p o) (fieldAt p (o + 8) 8) (fieldAt p (o + 2) 2) t)
    afterAck s

/-- A Hello (R266, R270 step 3, R271, R283). -/
def takeHello (seq session : Nat) (p : List Byte) (s : State) : State :=
  let ahead := s.mirror.havePeer && serialLt (2 ^ 16) (s.obj 0x6000 3) session
  let adopt := !s.mirror.havePeer || ahead
  let s := if adopt then
      let s := forN 16 s (fun k t => (t.setRx k { (t.rx k) with held := [], fwd := [], cut := none, cum := 0 }).setObj (0x6040 + k) 3 0)
      let m := { s.mirror with havePeer := true, lastHello := none, lastAck := none, recent := [] }
      { s with mirror := m }.setObj 0x6000 3 session
    else s
  let old := match s.mirror.lastHello with | some n => decide (seq ≤ n) | none => false
  if old then discardRepeat s
  else
    let id := fieldAt p 0 6
    let peers := (List.range 4).map (fun d =>
      let b := byteAt p (8 + d)
      { role := b % 4, twin := b / 4 % 4, mst := b / 16 % 8, epoch := fieldAt p (16 + 4 * d) 4, limit := fieldAt p (32 + 8 * d) 8 : PeerDist })
    let was := s.mirror.peers
    let idWas := s.obj 0x6000 1
    let insync := (List.range 4).any (fun d => s.role d == 1 && (s.dist d).mst == .inSync)
    let s := { s with mirror := { s.mirror with lastHello := some seq, peers := peers } }.setObj 0x6000 1 id
    let s := if ahead && insync then reframe s else s
    forN 4 s (fun d t =>
      let k := t.twinOf d
      let a := was.getD k { role := 0, twin := 0, mst := 0, epoch := 0, limit := 0 }
      let b := peers.getD k { role := 0, twin := 0, mst := 0, epoch := 0, limit := 0 }
      pairDistrict (a.role != b.role || a.twin != b.twin || idWas != id) d t)

/-- A RemoteRequest (R267, R271). -/
def takeRequest (seq : Nat) (p : List Byte) (s : State) : State :=
  if s.mirror.recent.contains seq then discardRepeat s
  else
    let s := { s with mirror := { s.mirror with recent := (seq :: s.mirror.recent).take 256 } }
    serveRequest { seq := seq, purpose := byteAt p 11, dist := byteAt p 9 % 4, dline := fieldAt p 16 5 % 2 ^ 38,
                   lines := max 1 (min 4 (byteAt p 10)), asOf := stampOfWord (fieldAt p 0 9),
                   deadline := deadlineSlot s.slotNow (fieldAt p 12 4), queued := false, got := [] } s

/-- A later write of the line is on its way to the twin: the engine's older line does not replace it (R18, R250). -/
def laterRecord (s : State) (d dline : Nat) (t : Stamp) : Bool :=
  recordWaits s (fun r => r.dline == dline && stampLt t r.stamp) && s.role d == 1

/-- The line of an engine's request arrives: applied as a full-line write at the request's stamp, or marked (R250, R281,
R292). -/
def engineLine (r : RemReq) (dline status : Nat) (v : BitVec 512) (s : State) : State :=
  let q := (s.dist r.dist).desc.place (64 * dline) 0
  if plazaKeeps s r.dist dline || laterRecord s r.dist dline r.asOf then s
  else if status = 0 then
    let a : Access := { port := 97, tag := 0, stamp := r.asOf, ord := r.asOf, deadline := s.borrowedDeadline 97, chan := q.1,
                        line := q.2, dist := r.dist, gpos := none, dline := dline, k := 0, kind := .full v, cls := .u,
                        res := false, twin := false, group := false, engine := true, copy := false }
    let s := advanceHorizon q.1 (enterOrder a s)
    if r.purpose = 1 then s.addObj 0x5104 4 1 else if r.purpose = 2 then s.addObj (0x6060 + q.1) 3 1 else s
  else
    let s := markPoison r.dist dline s
    if r.purpose = 2 then s.addObj (0x6060 + q.1) 4 1
    else
      let s := s.addObj 0x5104 5 1
      { s with repair := s.repair.map (fun e =>
          if e.2.state != 0 && e.2.dist == r.dist && e.2.firstLine + (if e.2.kind = 0 then 0 else e.2.progress) == dline then
            (e.1, { e.2 with marked := true, progress := e.2.progress + 1 })
          else e) }

/-- A RemoteResponse (R267, R271, R281). -/
def takeResponse (p : List Byte) (s : State) : State :=
  match s.mirror.reqs.find? (fun r => r.seq == fieldAt p 0 8) with
  | none => discardRepeat s
  | some r =>
    let s := { s with mirror := { s.mirror with reqs := s.mirror.reqs.filter (fun x => x.seq != r.seq) } }
    let line := fun k => (byteAt p (9 + k), bytesBv 512 ((p.drop (64 + 64 * k)).take 64))
    if r.purpose = 0 then
      let x := line 0
      if x.1 = 0 then advanceHorizon r.chan (fillOk r.chan r.line x.2 1 (s.addObj (chIdx 0x3080 r.chan) 0x0C 1))
      else fillError r.chan r.line x.1 s
    else
      let s := (List.range r.lines).foldl (fun t k => engineLine r (r.dline + k) (line k).1 (line k).2 t) s
      if r.purpose = 3 && !(s.mirror.reqs.any (fun q => q.dist == r.dist && q.purpose == 3)) then pullPageDone r.dist s else s

/-! ### Loopback frames (R464, R465) -/

/-- Loopback frame n of a mirror port: a Data frame of stream 0, session 0xFFFF, under the all-zero key. -/
def loopFrame (port n : Nat) : List Byte :=
  let blocks := 1 + Config.loopBlocks % 64
  sealFrame 0 (frameHeader 0 0 0xFFFF blocks n) ((List.range (64 * blocks)).map (Config.loopByte port n))

/-- Count loopback frames of a port: sent, received intact, discarded. -/
def countLoop (port a b d : Nat) (s : State) : State :=
  let r := tget s.blk.loops port (0, 0, 0)
  { s with blk := { s.blk with loops := tput s.blk.loops port (r.1 + a, r.2.1 + b, r.2.2 + d) (0, 0, 0) } }

/-- A frame arrives at a port under test: steps 1 and 2 of R270 under the all-zero key, and nothing after them. -/
def loopArrive (kind port : Nat) (bs : List Byte) (s : State) : State :=
  if !frameForm kind bs then countLoop port 0 0 1 (s.addObj 0x6000 0x26 1)
  else if injectArmed s 5 && s.obj 0xB001 4 == port then countLoop port 0 0 1 ((injectFired s).addObj 0x6000 0x25 1)
  else if (openFrame 0 bs).isSome then countLoop port 0 1 0 s
  else countLoop port 0 0 1 (s.addObj 0x6000 0x25 1)

/-- Send loopback frame n of a port: to its own receiver inside the engine, or out to the link layer. -/
def loopSend (inside : Bool) (port n : Nat) (s : State) : State :=
  let f := loopFrame port n
  let s := countLoop port 1 0 0 s
  if inside then loopArrive 0 port f s else { s with mirror := { s.mirror with sent := tins s.mirror.sent port f } }

/-- Tests 5 and 6: every port of the mask sends LoopFrames frames (R463). -/
def runLoops (inside : Bool) (s : State) : State :=
  let mask := s.obj 0xB000 5
  let n := s.obj 0xB000 6
  forN 16 { s with blk := { s.blk with loops := [] } } (fun k t => if bit mask k then forN n t (fun i u => loopSend inside k i u) else t)

/-- A port loops frames back through the link layer (test 6). -/
def looping (s : State) (port : Nat) : Bool := s.blk.test == 6 && bit (s.obj 0xB000 5) port

/-- A frame of a kind arrives at a mirror port (R270). -/
def receiveFrame (kind port : Nat) (bs : List Byte) (s : State) : State :=
  if looping s port then loopArrive kind port bs s
  else if !frameForm kind bs then s.addObj 0x6000 0x26 1
  else if injectArmed s 5 && s.obj 0xB001 4 == port then (injectFired s).addObj 0x6000 0x25 1
  else
    let open_ := match s.keys.links with
      | some k => openFrame (rxKey k port) bs
      | none => none
    match open_ with
    | none => s.addObj 0x6000 0x25 1
    | some p =>
      let s := portHeard port s
      let session := fieldAt bs 2 2
      let seq := fieldAt bs 8 8
      if kind != 4 && (!s.mirror.havePeer || session != s.obj 0x6000 3) then s.addObj 0x6000 0x27 1
      else
        let s := s.addObj 0x6000 0x22 1
        match kind with
        | 0 => takeData (byteAt bs 1 % 16) seq p s
        | 1 => takeAck seq p s
        | 2 => takeRequest seq p s
        | 3 => takeResponse p s
        | _ => takeHello seq session p s

/-- DATA, ACK, REMOTE_REQUEST, REMOTE_RESPONSE, HELLO: a frame of that kind; RESERVED_KIND_FRAME: of none of them. -/
def execData (port : Fin 16) (bytes : List (BitVec 8)) (s : State) : Out := .next (receiveFrame 0 port bytes s)
def execAck (port : Fin 16) (bytes : List (BitVec 8)) (s : State) : Out := .next (receiveFrame 1 port bytes s)
def execRemoteRequest (port : Fin 16) (bytes : List (BitVec 8)) (s : State) : Out := .next (receiveFrame 2 port bytes s)
def execRemoteResponse (port : Fin 16) (bytes : List (BitVec 8)) (s : State) : Out := .next (receiveFrame 3 port bytes s)
def execHello (port : Fin 16) (bytes : List (BitVec 8)) (s : State) : Out := .next (receiveFrame 4 port bytes s)
def execReservedKindFrame (port : Fin 16) (bytes : List (BitVec 8)) (s : State) : Out := .next (receiveFrame 5 port bytes s)

/-! ### Timers of the sending side (R260, R274, R276) -/

/-- FRAME_CLOSE_TIMEOUT: FrameCloseCycles since the open frame's first record. -/
def frameTimeout (k : Nat) (s : State) : State :=
  if !readyFrame s k || s.since (s.tx k).since < s.obj 0x6000 9 then s else closeFrame k s

def execFrameCloseTimeout (stream : Fin 16) (s : State) : Out := .next (frameTimeout stream s)

/-- HEARTBEAT: an empty frame of a stream that has closed none for HeartbeatSlots slots. -/
def heartbeatFrame (k : Nat) (s : State) : State :=
  match (s.chan k).dist with
  | some d =>
    if feeds s d && (s.tx k).open_.isEmpty && decide (s.obj 0x6000 8 ≤ (s.slotNow + slotMod - (s.tx k).lastClose % slotMod) % slotMod) then closeFrame k s else s
  | none => s

def execHeartbeat (stream : Fin 16) (s : State) : Out := .next (heartbeatFrame stream s)

/-- REPLAY_TIMEOUT: the frame at the mark is unacknowledged for ReplayTimeout since it was last sent: every unacknowledged frame
from the mark on is sent again (R183, R274). -/
def replayAll (s : State) : State :=
  match s.mirror.replay.head? with
  | none => s
  | some f =>
    if s.since f.sent < 2 * s.obj 0x6000 5 then s
    else
      let fs := s.unacked
      let s := fs.foldl (fun t g => sendData g t) s
      let s := noteResent (fun g => !g.acked s) s
      (s.addObj 0x6000 0x21 fs.length).raise 0x03F

def execReplayTimeout (s : State) : Out := .next (replayAll s)

/-- BREAK_TIMEOUT: a Lead district has frames and no acknowledgement for BreakTimeout (R276). -/
def breakTimeout (d : Nat) (s : State) : State :=
  if s.sup.squall == .idle && s.obj 0x6000 6 != 0 && feeds s d && !allAcked s d then breakMirror d 1 s else s

def execBreakTimeout (d : Fin 4) (s : State) : Out := .next (breakTimeout d s)

/-! ### Timers of the receiving side (R266, R272, R273, R281-R283, R291) -/

/-- NAK_DELAY: the gap of a stream persists (R272). -/
def nakStream (k : Nat) (s : State) : State :=
  match gapOf s k with
  | some g => sendAck [(k, g.1, g.2)] s
  | none => s

def execNakDelay (stream : Fin 16) (s : State) : Out := .next (nakStream stream s)

/-- ACK_INTERVAL: a CumAck has advanced since the last Ack (R273). -/
def ackDue (s : State) : State :=
  if (List.range 16).any (fun k => cumAck s k != s.obj (0x6040 + k) 4) then sendAck [] s else s

def execAckInterval (s : State) : Out := .next (ackDue s)

/-- HELLO_INTERVAL: a Hello on every port, and an Ack (R266, R273). -/
def execHelloInterval (s : State) : Out := .next (sendAck [] (sendHello s))

/-- REMOTE_REQUEST_RESEND: purposes 1 to 3, unanswered for ReplayTimeout (R281). -/
def resend (seq : Nat) (s : State) : State :=
  match s.mirror.reqs.find? (fun r => r.seq == seq) with
  | some r =>
    if r.purpose = 0 then s
    else
      let payload := natLe 9 r.asOf.word ++ natLe 1 (s.twinOf r.dist) ++ natLe 1 r.lines ++ natLe 1 r.purpose ++
        natLe 4 (2 ^ 32 - 1) ++ natLe 5 (r.dline % 2 ^ 38) ++ List.replicate 43 0
      sendPaths seq (frameHeader 2 0 s.vault.session 1 seq) payload s
  | none => s

def execRemoteRequestResend (seq : Nat) (s : State) : Out := .next (resend seq s)

/-- REMOTE_SERVICE_EXPIRY: a purpose 0 request that can no longer be answered in time is dropped (R282). -/
def serveExpiry (seq : Nat) (s : State) : State :=
  match s.mirror.serving.find? (fun v => v.seq == seq) with
  | some v => if serveLate s v then endServe v s else s
  | none => s

def execRemoteServiceExpiry (seq : Nat) (s : State) : Out := .next (serveExpiry seq s)

/-- REMOTE_ANSWER_TIMEOUT: no answer 40 ns before the deadline leaves the read FROZEN or ABSENT (R240, R281). -/
def answerTimeout (seq : Nat) (s : State) : State :=
  match s.mirror.reqs.find? (fun r => r.seq == seq) with
  | some r =>
    if r.purpose = 0 && serialLe cycleMod ((40 * r.deadline + cycleMod - 80) % cycleMod) s.cycleNow then
      let s := { s with mirror := { s.mirror with reqs := s.mirror.reqs.filter (fun x => x.seq != seq) } }
      fillError r.chan r.line (heldStatus (s.chan r.chan).st) s
    else s
  | none => s

def execRemoteAnswerTimeout (seq : Nat) (s : State) : Out := .next (answerTimeout seq s)

/-- PAIRING_TIMEOUT: sixteen HelloIntervals of Hellos that do not name the district (R283). -/
def pairingTimeout (d : Nat) (s : State) : State :=
  if (s.dist d).mst == .connecting && (s.dist d).mismatch then enterConflict d 9 s else s

def execPairingTimeout (d : Fin 4) (s : State) : Out := .next (pairingTimeout d s)

/-- TWIN_SILENT (R291). -/
def twinSilent (d : Nat) (s : State) : State :=
  if s.obj 0x6000 7 != 0 && s.role d == 2 then promoteDistrict d (s.raise 0x03C) else s

def execTwinSilent (d : Fin 4) (s : State) : Out := .next (twinSilent d s)

/-- Requests of the twin that A_d has passed are served (R282). -/
def serveWaiting (d : Nat) (s : State) : State :=
  (s.mirror.serving.filter (fun v => v.dist == d && !v.queued && stampLt v.asOf (s.dist d).applyA)).foldl (fun t v =>
    if servable t v then serveStart v t else sendAnswer v true t) s

/-- APPLY_HORIZON_ADVANCE (R277, R278). -/
def execApplyHorizonAdvance (d : Fin 4) (s : State) : Out := .next (serveWaiting d (applyHorizon d s))

/-- DEMOTE_COMPLETE (R288). -/
def execDemoteComplete (d : Fin 4) (s : State) : Out := .next (finishDemote d s)

/-! ### MirrorCommand (R283, R286, R288, R289) -/

/-- The command in a state that takes it: the result code of the dictionary (0x00, or 0x06 WrongState). -/
def mirrorCommand (d v : Nat) (s : State) : State × Nat :=
  let st := (s.dist d).mst
  if v = 1 then (if s.role d = 2 then (promoteDistrict d s, 0) else (s, 6))
  else if v = 2 then
    (if s.role d = 1 && st == .inSync then (finishDemote d (s.modDist d (fun x => { x with demoting := true, stopWrites := true })), 0) else (s, 6))
  else if v = 3 then (if st == .inSync || st == .resyncing then (breakMirror d 3 s, 0) else (s, 6))
  else if v = 4 then
    (if s.role d = 1 then
      (match st with
       | .inSync => (enterResync d ((s.modDist d (fun x => { x with push := true, pushPage := 0, pull := [] })).setObj (0x6010 + d) 8 0), 0)
       | .resyncing =>
         let s := if (s.dist d).push then s else s.modDist d (fun x => { x with push := true, pushPage := 0 })
         (s.setObj (0x6010 + d) 9 (s.obj (0x6010 + d) 9 + s.dataPages d), 0)
       | .broken => (s, 0)
       | _ => (s, 6))
    else (s, 6))
  else (s, 7)

end Sys2Proof.Machine
end

