-- ==== Sys2Proof/Machine/Formation.lean ====
section
/-! DEFINITION. Forming a district (R88-R90, R100, R101, R201, R475): the checks of a COMMIT, Formatting, its end. -/

namespace Sys2Proof.Machine

/-- Whether two half-open ranges meet (R6); an empty one meets none. -/
def rangesMeet (a n b m : Nat) : Bool := decide (0 < n) && decide (0 < m) && decide (a < b + m) && decide (b < a + n)

/-- A district that has a formation, complete or under way. -/
def DistSt.hasFormation : DistSt → Bool
  | .unformed => false
  | _ => true

/-- A configuration value of a formed district, by the subindex of its object: what its descriptor holds. None where the
district has no formation, or its stored descriptor failed its CRC (R475). -/
def formedValue (s : State) (d k : Nat) : Option Nat :=
  let x := s.dist d
  if x.st.hasFormation && !(x.st == .mismatch && bit (s.obj (0x2100 + d) 0x0E) 4) then
    some (if k = 2 then x.desc.width else if k = 3 then x.desc.first else if k = 4 then x.desc.base
      else if k = 5 then x.desc.order else if k = 6 then x.desc.mode else if x.desc.format then 1 else 0)
  else none

/-- An object of the district is staged. -/
def stagesDist (s : State) (d k : Nat) : Bool := s.mgmt.staged.any (fun e => e.1 == 256 * (0x2100 + d) + k)

/-- What the configuration t makes of a district's value, staged in s: a formed district keeps what is not staged. -/
def wantValue (s t : State) (d k : Nat) : Nat :=
  match formedValue s d k with
  | some v => if stagesDist s d k then t.obj (0x2100 + d) k else v
  | none => t.obj (0x2100 + d) k

/-- A value changes: from the formed district's, or from the object's. -/
def distChange (s t : State) (d k : Nat) : Bool := wantValue s t d k != (formedValue s d k).getD (s.obj (0x2100 + d) k)

/-- The descriptor that values of a district ask for, on the modules present. -/
def wantedDesc (s : State) (v : Nat → Nat) : Desc :=
  let g := s.channelGeometry (v 3)
  let x : Desc := { width := v 2, first := v 3, order := v 5, mode := v 6, format := v 7 == 1, density := g.1,
                    ranks := g.2.1, modules := g.2.2, base := v 4, span := 0, limit := 0, retired := [] }
  let x := { x with span := x.formedSpan }
  { x with limit := x.carve.q * x.granule }

/-- Channel c's modules agree with a geometry (R89), and its refresh placements are short enough (R145). Position 0 holds a
module, since lines of a channel with one decode to position 0 (R92; DEDUCED, log 75). -/
def geometryOk (s : State) (c : Nat) (g : Nat × Nat × Nat) : Bool :=
  let ms := [0, 1].filterMap (fun p => s.moduleAt (2 * c + p))
  (s.moduleAt (2 * c)).isSome && ms.length == g.2.2 && ms.all (fun m => m.density == g.1 && m.ranks == g.2.1) &&
    decide (s.refreshK c ≤ 8)

/-- The COMMIT re-forms a formed district, or forms one (R88, R100 bit 3). FormatOnForm of a formed district, and its base,
change without that (FormatOnForm: DEDUCED, log 75). -/
def formChanges (s t : State) (d : Nat) : Bool :=
  (if (s.dist d).st.hasFormation then [2, 3, 5, 6] else [2, 3, 4, 5, 6, 7]).any (distChange s t d)

/-- Any value of the district changes. -/
def distChanges (s t : State) (d : Nat) : Bool := [2, 3, 4, 5, 6, 7].any (distChange s t d)

/-- The channels district e has once the COMMIT from s to t is in force. -/
def nextChannels (s t : State) (e : Nat) : List Nat :=
  if (s.dist e).st.hasFormation || formChanges s t e then
    (List.range (wantValue s t e 2)).map (fun i => wantValue s t e 3 + i)
  else []

/-- The window district e has then: its base, and the span of its formation, the one it has or the one to come. -/
def nextWindow (s t : State) (e : Nat) : Nat × Nat :=
  if formChanges s t e then (wantValue s t e 4, (wantedDesc t (wantValue s t e)).span)
  else if (s.dist e).st.hasFormation then (wantValue s t e 4, (s.pendingWindow e).2)
  else (0, 0)

/-- DistrictRejectReason of district d for a COMMIT that leads from s to the configuration t (R100, R201). -/
def districtReject (s t : State) (d : Nat) : Nat :=
  if !distChanges s t d then 0
  else
    let v := wantValue s t d
    let w := v 2
    let f := v 3
    let forming := formChanges s t d
    let cs := (List.range w).map (fun i => f + i)
    let others := [0, 1, 2, 3].filter (fun e => e != d)
    let badSet := w != 0 && (f % w != 0 || decide (16 < f + w) || others.any (fun e => (nextChannels s t e).any (fun c => cs.contains c)))
    let win := nextWindow s t d
    let badWin := w != 0 && (win.1 % 2 ^ 30 != 0 || decide (2 ^ 46 < win.1 + win.2) ||
      others.any (fun e => let o := nextWindow s t e; rangesMeet win.1 win.2 o.1 o.2))
    let badMod := w != 0 && !(cs.all (fun c => geometryOk t c (t.channelGeometry f)))
    let locked := (s.dist d).st.hasFormation && forming && !bit (s.obj 0x21F0 1) d
    let badFmt := w != 0 && v 7 == 0 && v 6 != 2
    let spent := w != 0 && forming && v 6 != 2 && decide (32766 ≤ s.vault.epochs.getD d 0)
    (if badSet then 1 else 0) + (if badWin then 2 else 0) + (if badMod then 4 else 0) + (if locked then 8 else 0) +
      (if badFmt then 16 else 0) + (if spent then 32 else 0)

/-- What a formation leaves behind of an earlier one of the district: its channels, lines, nodes, seals and repairs. -/
def forgetDistrict (d : Nat) (s : State) : State :=
  let cs := (s.dist d).desc.channels
  let mine := fun (k : Nat) => cs.contains (k / 2 ^ 40)
  let s := { s with
    plaza := s.plaza.filter (fun e => e.2.dist != d)
    ledger := s.ledger.filter (fun e => !mine e.1)
    pinned := s.pinned.filter (fun e => e.1 / 2 ^ 48 != d)
    dram := s.dram.filter (fun e => !mine e.1) }
  let s := forN 256 s (fun e t => if (t.repairAt e).state != 0 && (t.repairAt e).dist == d then storeRepair e (t.setRepair e Repair.free) else t)
  let s := unsealDistrict d s
  cs.foldl (fun t c => t.modChan c (fun ch => if ch.dist = some d then { ch with dist := none } else ch)) s

/-- Unform a district: width 0. Its stored descriptor counts as none, and no mismatch of it stands (DESIGN CHOICE, log 75). -/
def unformDistrict (d : Nat) (s : State) : State :=
  let s := writeDescState d 0 (forgetDistrict d s)
  publishCarve d ((s.setDist d { District.reset with mst := (s.dist d).mst }).setObj (0x2100 + d) 0x0E 0)

/-- The bays of a list of channels hold what formatting writes, whatever they held. -/
def clearBlank (cs : List Nat) (s : State) : State :=
  cs.foldl (fun t c => forN 2 t (fun p u => u.modBay (2 * c + p) (fun y => { y with blank := false }))) s

/-- The end of formatting (R101): root slot, DescriptorState, Formed. -/
def formatDone (d : Nat) (s : State) : State :=
  if (s.dist d).st != .formatting then s
  else
    let s := s.modDist d (fun x => { x with flags := if x.desc.mode = 0 then 3 else 1, rootOk := x.desc.mode == 0, formatGen := s.vault.gen })
    let s := writeDescState d 2 (commitFormation d s)
    let x := (s.dist d).desc
    let s := s.setObj (0x2100 + d) 0x0D (if x.granule = 0 then 0 else x.span / x.granule)
    refreshDistrict d ((if x.format then clearBlank x.channels s else s).modDist d (fun y => { y with st := .formed }))

/-- FORMAT_COMPLETE. -/
def execFormatComplete (d : Fin 4) (s : State) : Out := .next (formatDone d s)

/-- A formation begins (R101, R197, R201): the epoch and the vault header, the descriptor with DescriptorState 1,
Formatting. An Open district with FormatOnForm 0 is formed at once. No mismatch of an earlier formation stands
(DESIGN CHOICE, log 75). -/
def formDistrict (d : Nat) (x : Desc) (s : State) : State :=
  let s := forgetDistrict d s
  let v := s.vault
  let s := publishVault (writeVault (if x.mode = 2 then s else { s with vault := { v with
      epochs := set4 v.epochs d (v.epochs.getD d 0 + 1), ceilings := set4 v.ceilings d 0 } }))
  let old := s.dist d
  let s := s.setDist d { District.reset with st := .formatting, desc := x, mst := old.mst, demoting := old.demoting }
  let s := x.channels.foldl (fun t c => t.modChan c (fun ch => { ch with dist := some d })) s
  let s := writeDescState d 1 (writeDesc d (clearBlank x.channels s))
  let s := publishCarve d (((s.setObj (0x2100 + d) 0x0D 0).setObj 0x5104 (0x10 + d) 0).setObj (0x2100 + d) 0x0E 0)
  if x.mode = 2 && !x.format then formatDone d s else s

/-- The district objects take effect at the boundary of their COMMIT (R100): a formation, a new base, or none. A district
whose descriptor failed its CRC has none that a new base could be written in (DESIGN CHOICE, log 75). -/
def applyDistrict (s0 : State) (d : Nat) (s : State) : State :=
  let v := wantValue s0 s d
  if formChanges s0 s d then
    (if v 2 = 0 then (if (s0.dist d).st.hasFormation then unformDistrict d s else s) else formDistrict d (wantedDesc s v) s)
  else if distChange s0 s d 4 && (formedValue s0 d 4).isSome then
    writeDesc d (s.modDist d (fun y => { y with desc := { y.desc with base := v 4 } }))
  else s

end Sys2Proof.Machine
end

