-- ==== Sys2Proof/Machine/Thaw.lean ====
section
/-! DEFINITION. Leaving a freeze or a fence (R176, R244, R245, R371), fences and absence (R371, R372), device error counts
(R230) and the erasure map (R231); bays as other chapters move them (R368). -/

namespace Sys2Proof.Machine

/-! ### Bays (R368) -/

/-- Channel and position of a bay. -/
def bayChan (b : Nat) : Nat := b / 2

/-- A bay enters Fault with a cause. -/
def bayFault (b cause : Nat) (s : State) : State :=
  (s.modBay b (fun y => { y with st := .fault, allow := false })).setObj (0x7100 + b) 5 cause

/-- NeedsRebuild of a bay; a rebuild that begins with it starts at its first line (R292). -/
def setNeeds (b : Nat) (v : Bool) (s : State) : State :=
  let s := if v then
      let t := s.setObj (0x6060 + b / 2) 1 0
      { t with mram := sbNat t.mram (rebuildCursorAt (b / 2)) 8 0 }
    else s
  s.setObj (0x7100 + b) 9 (if v then 1 else 0)
def needsRebuild (s : State) (b : Nat) : Bool := s.obj (0x7100 + b) 9 == 1

/-! ### Lent lines (R176) -/

/-- A lent line of channel c moves into an Invalid way of its own slice. -/
def returnLine (c : Nat) (key : Nat) (s : State) : State :=
  match tfind s.plaza key with
  | some x =>
    let used := setLines s c (plazaSet (key % 2 ^ 40))
    match (List.range 20).find? (fun w => used.all (fun e => e.2.way != w)) with
    | some w => { s with plaza := tins s.plaza key { x with slice := c, way := w } }
    | none => s
  | none => s

/-- Lines of channel c that other slices hold. -/
def lentLines (s : State) (c : Nat) : List Nat :=
  (s.plaza.filter (fun e => e.1 / 2 ^ 40 == c && e.2.slice != c)).map (·.1)

/-- Lent lines move back as ways free, once the channel grants again. -/
def returnLent (c : Nat) (s : State) : State :=
  if (s.chan c).st.grants then (lentLines s c).foldl (fun t k => returnLine c k t) s else s

/-! ### Resume (R244, R245) -/

/-- The state a channel goes on in after a freeze or a fence: Rebuilding or Retired where it was, else Running. -/
def ChanSt.after (st : ChanSt) : ChanSt := match st with
  | .rebuilding => .rebuilding
  | .retired => .retired
  | _ => .running

/-- The channel resumes: pins end, lent lines return, queued entries proceed. -/
def resumeChannel (c : Nat) (s : State) : State :=
  let next := (s.chan c).before.after
  let s := s.modChan c (fun ch => { ch.wake with fromFrozen := false })
  let s := stopHelper c (setChanState c next s)
  if next = .retired then s else returnLent c (unpinLines c s)

/-- A Resume from Frozen: the thaw is done. -/
def thawChannel (c : Nat) (s : State) : State :=
  ((resumeChannel c s).setObj (chIdx 0x3080 c) 0x12 1).raiseChan c 0xB

/-- The slot boundary at which an accepted Resume takes effect. -/
def resumeDue (c : Nat) (s : State) : State :=
  let i := chIdx 0x3080 c
  if s.obj i 0x10 = 1 then
    (if (s.chan c).st = .frozen then thawChannel c (s.setObj i 0x10 0) else s.setObj i 0x10 0)
  else s

/-- Two modules, or a 4-rank module (R303). -/
def multiRank (s : State) (c : Nat) : Bool :=
  let g := s.channelGeometry c
  g.2.2 == 2 || g.2.1 == 4

/-- CalibrationState of a channel that trains (R303, R310, R311): 1 awaits firmware, 2 hardware training. -/
def trainState (s : State) (c : Nat) (frozen : Bool) : Nat :=
  let i := chIdx 0x3040 c
  if frozen then (if s.obj i 3 = 1 then 1 else 2) else if s.obj i 2 = 1 && multiRank s c then 1 else 2

/-- Training begins (R303, R305, R311); the banks and buses of the channel start anew. -/
def startTraining (c : Nat) (frozen quick : Bool) (s : State) : State :=
  let s := exitNow c (s.setObj (chIdx 0x3040 c) 1 (if quick then 2 else trainState s c frozen))
  stopHelper c (setChanState c .training (s.modChan c (fun ch => { ch with
    fromFrozen := frozen, quick := quick, verified := none, subs := [], banks := [], calm := 0 })))

/-- RetireRank (R244): the descriptor names the rank slot, the channel is Retired, its bay shows a fault. -/
def retireRank (c r : Nat) (s : State) : State :=
  let s := match (s.chan c).dist with
    | some d =>
      let k := c - (s.dist d).desc.first
      writeDesc d (s.modDist d (fun x =>
        let y : Desc := { x.desc with retired := (fit16 x.desc.retired).set k (setBit (x.desc.retired.getD k 0) r true) }
        { x with desc := y }))
    | none => s
  (bayFault (2 * c + r / 4) 9 (serveHeld c (stopHelper c (setChanState c .retired s)))).setObj (chIdx 0x3080 c) 0x12 1
where
  /-- A list of sixteen bytes. -/
  fit16 (l : List Nat) : List Nat := (l ++ List.replicate (16 - l.length) 0).take 16

/-- A write of ThawAction (R244): the state and the result code. -/
def thawAction (c v : Nat) (s : State) : State × Nat :=
  let i := chIdx 0x3080 c
  if v = 0 || 3 < v then (s, 7)
  else if (s.chan c).st != .frozen then (s.setObj i 0x12 2, 6)
  else if v = 1 then (s.setObj i 0x10 1, 0)
  else if v = 2 then (startTraining c true false s, 0)
  else
    let r := s.obj i 0x11
    if (rankSlots s c).contains r then (retireRank c r s, 0) else (s.setObj i 0x12 2, 7)

/-- A write of FreezeRequest (R238). -/
def freezeRequest (c v : Nat) (s : State) : State × Nat :=
  if v = 0 then (s, 0)
  else if (s.chan c).st.grants then (serveHeld c (freezeChannel c 4 none none 0 s), 0)
  else (s, 6)

/-! ### Fences and absence (R370-R374) -/

/-- The state a channel goes back to when a fence or an absence ends. -/
def fenceBefore (ch : Chan) : ChanSt := match ch.st with
  | .running => .running
  | .rebuilding => .rebuilding
  | .retired => .retired
  | _ => ch.before

/-- A fenced channel whose granted bursts and lock are done enters self-refresh on every module. -/
def fenceSettle (c : Nat) (s : State) : State :=
  let ch := s.chan c
  if ch.st = .fenced && ch.pstate != .selfRefresh && ch.lock.isNone && ch.granted.isEmpty then enterPower c .selfRefresh s else s

/-- A fence of channel c (R371): Fenced, lines Pinned, bursts aborted, granted bursts and a lock completed, then
self-refresh on every module. -/
def fenceChannel (c : Nat) (s : State) : State :=
  if (s.chan c).st = .fenced || (s.chan c).st = .absent then s
  else
    let s := s.modChan c (fun ch => { ch.wake with before := fenceBefore ch })
    fenceSettle c (serveHeld c (pinLines c (abortBursts c (stopHelper c (setChanState c .fenced s)))))

/-- Loss of presence (R372): Absent at once; what the modules held is lost with them. -/
def absentChannel (c : Nat) (s : State) : State :=
  if (s.chan c).st = .absent then s
  else
    let s := s.modChan c (fun ch => { ch with before := fenceBefore ch, lock := none })
    serveHeld c (pinLines c (abortBursts c (stopHelper c (setChanState c .absent s))))

/-- Drop what the module of a bay held (R372): its lines read as a module's at power-up. -/
def blankBay (b : Nat) (s : State) : State :=
  let c := bayChan b
  let keep := s.dram.filter (fun e => !(e.1 / 2 ^ 40 == c && (s.coordOf c (e.1 % 2 ^ 40)).pos == b % 2))
  { s with dram := keep }.modBay b (fun y => { y with blank := true })

/-! ### Device errors (R230, R231) -/

/-- DEVICE_ERROR_LEAK (R230): every count that is not zero drops by one. -/
def deviceErrorLeak (c : Nat) (s : State) : State :=
  s.modChan c (fun ch => { ch with devCounts := ch.devCounts.filterMap (fun e => if e.2 ≤ 1 then none else some (e.1, e.2 - 1)) })

def execDeviceErrorLeak (c : Fin 16) (s : State) : Out := .next (deviceErrorLeak c s)

/-- A write of ErasedDevice (R231): a device is erased, or with 0xFF the erasure of that rank slot ends. -/
def eraseWrite (c entry v : Nat) (s : State) : State :=
  let s := if v = 0xFF then s.modChan c (fun ch => { ch with devStopped := ch.devStopped.filter (fun k => k != entry) }) else s
  setErased c (entry / 8) (entry % 8) (if v = 0xFF then none else some v) s

end Sys2Proof.Machine
end

