-- ==== Sys2Proof/Machine/KeyCmds.lean ====
section
/-! DEFINITION. The key port, the intake decisions and KeyAdopt (R190-R197, R219); the stages of start-up (R442). -/

namespace Sys2Proof.Machine

/-! ### Stages (R442, R458) -/

/-- A stage ends: the time it took is a free value, which StageTimes records; the next stage begins. -/
def endStage (k : Nat) (s : State) : State :=
  let s := s.setRec 0x1200 0x22 (4 * k) (natLe 4 (Config.freeNat s.freeCtr))
  { s.tickFree with blk := { s.blk with stage := k + 1 } }

/-- Set a bit of StartResult. -/
def startResult (b : Nat) (s : State) : State := s.setObjBit 0x1200 0x26 b true

/-! ### Key records (R190) -/

/-- A 32-bit word as the four bytes of the CRC. -/
def wordBytes (w : BitVec 32) : List Byte := natLe 4 w.toNat

/-- Eight words, most significant first, from word k on. -/
def keyAt (ws : List (BitVec 32)) (k : Nat) : BitVec 256 :=
  BitVec.ofNat 256 (((ws.drop k).take 8).foldl (fun a w => 2 ^ 32 * a + w.toNat) 0)

/-- What a record brings: its pair, its link keys, its successor pair. -/
structure KeyRec where
  pair : KeyPair
  links : LinkKeys
  succ : Option KeyPair
  deriving DecidableEq, Repr

/-- The MacKey of a pair gives a hash key, which is never 0 (R199). -/
def KeyPair.hashes (k : KeyPair) : Bool := hashKey k.macKey != 0

/-- A record that the port does not discard (R191, R199). -/
def readKeyRec (ws : List (BitVec 32)) : Option KeyRec :=
  let h := (ws.getD 0 0).toNat
  let two := bit h 16
  let n := if two then 66 else 50
  if ws.length = n && bits h 31 24 == 1 &&
      crc32c ((ws.take (n - 1)).flatMap wordBytes) == (ws.getD (n - 1) 0).toNat then
    let g := bits h 15 0
    let r : KeyRec :=
      { pair := { gen := g, dataKey := keyAt ws 1, macKey := keyAt ws 9 },
        links := { aTx := keyAt ws 17, aRx := keyAt ws 25, bTx := keyAt ws 33, bRx := keyAt ws 41 },
        succ := if two then some { gen := (g + 1) % 2 ^ 16, dataKey := keyAt ws 49, macKey := keyAt ws 57 } else none }
    if r.pair.hashes && r.succ.all KeyPair.hashes then some r else none
  else none

/-! ### Intake (R193, R194) -/

/-- Store a key identity in the vault. -/
def adoptKeys (pair : KeyPair) (source : Nat) (s : State) : State :=
  publishVault (writeVault { s with vault := { s.vault with source := source, gen := pair.gen, check := keyCheck pair } })

/-- The link keys of an accepted record: SessionEpoch restarts at 0 where their LinkKeyCheck is new (R269). -/
def noteLinks (links : Option LinkKeys) (s : State) : State :=
  match links with
  | some l =>
    if linkKeyCheck l = s.vault.linkCheck then s
    else writeVault { s with vault := { s.vault with linkCheck := linkKeyCheck l, session := 0 } }
  | none => s

/-- Load keys into the yards and the mirror engines. -/
def loadKeys (cur : KeyPair) (succ : Option KeyPair) (links : Option LinkKeys) (s : State) : State :=
  noteLinks links { s with keys := { s.keys with cur := some cur, succ := succ, links := links } }

/-- Sealed and Private districts enter Mismatch (R194). -/
def keyMismatchDistricts (s : State) : State :=
  forN 4 s (fun d t =>
    if (t.dist d).st.hasFormation && (t.dist d).desc.mode != 2 then
      (t.modDist d (fun x => { x with st := .mismatch })).setObjBit (0x2100 + d) 0x0E 5 true
    else t)

/-- The intake ends in failure (R191, R194). -/
def intakeFails (s : State) : State :=
  (startResult 3 ((keyMismatchDistricts s).setObj 0x5000 5 2)).raise 0x020

/-- The intake ends in KeyMismatch; what it found is held for KeyAdopt (R194, R195). -/
def intakeMismatch (found : Option Intake) (s : State) : State :=
  let s := { s with keys := { s.keys with intake := found, mismatched := true } }
  (startResult 3 ((keyMismatchDistricts s).setObj 0x5000 5 3)).raise 0x021

/-- A key roll starts (R219 step 1, R220). -/
def startRoll (succ : KeyPair) (s : State) : State :=
  let v := { s.vault with rollActive := true, succCheck := keyCheck succ, swept := [false, false, false, false],
                          checkpoints := [0, 0, 0, 0] }
  let s := publishVault (writeVault { s with vault := v })
  (rollSkip (forN 4 s (fun d t => t.setObj 0x5000 (0x10 + d) 0))).raise 0x024

/-- The decision with a record (R194). -/
def intakeRecord (r : KeyRec) (s : State) : State :=
  let v := s.vault
  let ok := fun (t : State) => t.setObj 0x5000 5 0
  let mism := intakeMismatch (some { pair := r.pair, links := some r.links, derived := false }) s
  let same := r.pair.gen == v.gen && keyCheck r.pair == v.check
  if v.source = 0 then ok (adoptKeys r.pair 2 (loadKeys r.pair none (some r.links) s))
  else if v.source != 2 then mism
  else match v.rollActive, r.succ with
    | false, none => if same then ok (loadKeys r.pair none (some r.links) s) else mism
    | false, some n =>
      if same then startRoll n (ok (loadKeys r.pair (some n) (some r.links) s))
      else if n.gen == v.gen && keyCheck n == v.check then ok (loadKeys n none (some r.links) s)
      else mism
    | true, some n =>
      if same && keyCheck n == v.succCheck then
        rollSkip (ok (loadKeys r.pair (some n) (some r.links) s))
      else mism
    | true, none => mism

/-- The decision with no record: derived keys where the vault allows them, the secret is fused and their hash key is not 0
(R192, R194, R199). -/
def intakeNone (s : State) : State :=
  let v := s.vault
  let usable := Config.secretFused && derivedKeys.hashes
  let derived : Option Intake := if usable then some { pair := derivedKeys, links := none, derived := true } else none
  let take := fun (t : State) => startResult 4 ((loadKeys derivedKeys none none t).setObj 0x5000 5 1)
  if v.source = 0 then (if usable then take (adoptKeys derivedKeys 1 s) else intakeFails s)
  else if v.source = 1 then
    (if !usable then intakeFails s
     else if keyCheck derivedKeys == v.check then take s
     else intakeMismatch derived s)
  else intakeMismatch derived s

/-- Stage S5 ends: the key port stops taking records, and stage S6 begins in Recovery (R441, R442). -/
def intakeEnds (s : State) : State :=
  let s := endStage 5 { s with keys := { s.keys with portOpen := false } }
  { s with blk := { s.blk with st := .recovery } }

/-- KEY_RECORD (R191): a record that fails its checks is discarded, the third one ends the intake. -/
def keyRecord (ws : List (BitVec 32)) (s : State) : State :=
  if !s.keys.portOpen || s.keys.closed then s
  else match readKeyRec ws with
    | some r => intakeEnds (intakeRecord r s)
    | none =>
      let n := s.keys.discards + 1
      let s := { s with keys := { s.keys with discards := n } }
      if 3 ≤ n then intakeEnds (intakeFails s) else s

def execKeyRecord (words : List (BitVec 32)) (s : State) : Out := .next (keyRecord words s)

/-- KEY_INTAKE_TIMEOUT. -/
def keyTimeout (s : State) : State :=
  if !s.keys.portOpen || s.keys.closed then s else intakeEnds (intakeNone s)

def execKeyIntakeTimeout (s : State) : Out := .next (keyTimeout s)

/-- A transmit session starts, and the districts with a role enter Connecting (R269, R283, R449). -/
def startMirror (s : State) : State := forN 4 (startSession s) (fun d t => if t.role d = 0 then t else roleEffect d t)

/-! ### KeyAdopt (R195) -/

/-- A district that the last intake put in Mismatch. -/
def keyMismatched (s : State) (d : Nat) : Bool := (s.dist d).st == .mismatch && bit (s.obj (0x2100 + d) 0x0E) 5

/-- A write of KeyAdopt: the state and the result code. -/
def keyAdopt (v : Nat) (s : State) : State × Nat :=
  if v = 0 then (s, 0)
  else
    let bad := (List.range 4).filter (keyMismatched s)
    match s.keys.intake with
    | some i =>
      if s.blk.st != .config || !s.keys.mismatched || !(bad.all (fun d => bit (s.obj 0x21F0 1) d)) then (s, 6)
      else
        let s := loadKeys i.pair none i.links s
        let s := { s with
          keys := { s.keys with intake := none, mismatched := false }
          vault := { s.vault with epochs := [0, 0, 0, 0], rollActive := false, succCheck := 0,
                                  swept := [false, false, false, false], checkpoints := [0, 0, 0, 0] } }
        let s := adoptKeys i.pair (if i.derived then 1 else 2) s
        let s := s.setObj 0x5000 5 (if i.derived then 1 else 0)
        let s := bad.foldl (fun t d => formDistrict d (wantedDesc t (wantValue t t d)) t) s
        -- new link keys open a transmit session of their own
        (if i.links.isSome then startMirror s else s, 0)
    | none => (s, 6)

end Sys2Proof.Machine
end

