-- ==== Sys2Proof/Machine/Calib.lean ====
section
/-! DEFINITION. Training and live calibration (R298-R331): the sweeps' centres, stored trim sets and their baselines, cross
scans and swaps, runs, write tracking and retrains, reference calibration, eye scans. -/

namespace Sys2Proof.Machine

/-! ### Trims (R298, R326, R329) -/

/-- A delay code in fine steps: coarse in bits [11:8], one of which is 128 fine steps, and fine in bits [7:0]. -/
def delaySteps (code : Nat) : Nat := 128 * bits code 11 8 + bits code 7 0
/-- The code of a number of fine steps, held in the converter's range; the fine field stays below one UI where it can. -/
def delayCode (n : Int) : Nat :=
  let v := (max 0 (min n 2175)).toNat
  let c := min 15 (v / 128)
  256 * c + (v - 128 * c)

/-- How a trim's bytes are read. -/
inductive TrimKind where
  | s8 | u8 | delay
  deriving DecidableEq, Repr

def TrimKind.value (k : TrimKind) (bs : List Byte) : Int := match k with
  | .s8 => toSigned 8 (leNat (bs.take 1))
  | .u8 => (leNat (bs.take 1) : Nat)
  | .delay => (delaySteps (leNat (bs.take 2)) : Nat)

def TrimKind.size : TrimKind → Nat
  | .delay => 2
  | _ => 1

/-- The bytes of a value, held in the field's range. -/
def TrimKind.bytes (k : TrimKind) (v : Int) : List Byte := match k with
  | .s8 => natLe 1 (ofSigned 8 (max (-128) (min v 127)))
  | .u8 => natLe 1 (max 0 (min v 255)).toNat
  | .delay => natLe 2 (delayCode v)

/-- Trims kept per temperature point, by offset in a subchannel's point block; the byte lane each belongs to, and whether
it is a write delay (R326). -/
structure PointTrim where
  off : Nat
  kind : TrimKind
  lane : Nat
  write : Bool
  deriving DecidableEq, Repr

def pointTrims : List PointTrim :=
  (List.range 40).map (fun j => ⟨j, .s8, j / 8, false⟩) ++
  (List.range 5).map (fun l => ⟨0x28 + l, .u8, l, false⟩) ++
  (List.range 10).map (fun k => ⟨0x30 + 2 * k, .delay, k / 2, false⟩) ++
  (List.range 10).map (fun k => ⟨0x44 + 2 * k, .delay, k / 2, false⟩) ++
  (List.range 10).map (fun k => ⟨0x58 + 2 * k, .delay, k / 2, true⟩)

/-- The in-force value at an offset of ActiveTrims. -/
def trimAtOff (s : State) (c o : Nat) (k : TrimKind) : Int := k.value (s.recN (calIdx c) 0x20 o k.size)

/-- Bytes to load for a value. -/
def trimLoad (o : Nat) (k : TrimKind) (v : Int) : List (Nat × Byte) := (k.bytes v).zipIdx.map (fun e => (o + e.2, e.1))

/-! ### The stored set (R320, R326, R327) -/

/-- ConfigHash of a channel's modules (R326). -/
def configHash (s : State) (c : Nat) : Nat :=
  match s.moduleAt (2 * c), s.moduleAt (2 * c + 1) with
  | some a, some b => (Config.hashPair a.serial b.serial).toNat
  | some a, none => a.serial % 2 ^ 32
  | none, some b => b.serial % 2 ^ 32
  | none, none => 0

/-- The 2 048 bytes with their Crc. -/
def sealTrims (bs : List Byte) : List Byte :=
  patch bs 0x1C (natLe 4 (crc32c (bs.take 0x1C ++ bs.drop 0x20)))

def storedTrims (s : State) (c : Nat) : List Byte := ldN s.mram (trimAt c) 2048

def trimsValid (s : State) (c : Nat) : Bool :=
  let b := storedTrims s c
  crc32c (b.take 0x1C ++ b.drop 0x20) == leNat ((b.drop 0x1C).take 4) && leNat (b.take 2) == 1

/-- Write channel c's set: its header, the common blocks in force, the points given. -/
def writeTrims (c mask : Nat) (points : List Byte) (s : State) : State :=
  let i := calIdx c
  let ranks := (rankSlots s c).foldl (fun a r => a + 2 ^ r) 0
  let frame := if mask = 0 then s.now.frame else ldNat s.mram (trimAt c + 8) 8
  let head := natLe 2 1 ++ natLe 2 (s.rate c) ++ natLe 4 (configHash s c) ++ natLe 8 frame ++ natLe 1 mask ++
    natLe 1 ranks ++ natLe 1 (s.obj i 3) ++ natLe 1 0 ++ natLe 2 (s.obj i 0x0A) ++ List.replicate 10 0
  let body := head ++ s.recN i 0x20 0 816 ++ fit 1120 points ++ List.replicate 80 0
  { s with mram := sbN s.mram (trimAt c) (sealTrims body) }

/-- After training: every point holds the trained values, PointMask 0 (R327). -/
def storeTrained (c : Nat) (s : State) : State :=
  let p := s.recN (calIdx c) 0x20 816 224
  writeTrims c 0 (List.replicate 5 p).flatten s

def storedPoints (s : State) (c : Nat) : List Byte := ldN s.mram (trimAt c + 0x350) 1120

/-- The temperature points in 0.25 °C. -/
def calPoints : List Int := [80, 180, 280, 380, 440]

/-- Nearest integer, halves away from zero. -/
def roundAway (num den : Int) : Int :=
  let n := (2 * num.natAbs + den.natAbs) / (2 * den.natAbs)
  if (num < 0) != (den < 0) then -(n : Int) else n

/-- Nearest integer, halves toward zero. -/
def roundToward (num den : Int) : Int :=
  let n := (2 * num.natAbs + den.natAbs - 1) / (2 * den.natAbs)
  if (num < 0) != (den < 0) then -(n : Int) else n

/-- The two points around T: index, and weight of the upper one as a fraction (R320). -/
def bracket (t : Int) : Nat × Nat × Int × Int :=
  let p := fun (i : Nat) => calPoints.getD i 0
  if t ≤ 80 then (0, 0, 0, 1)
  else if 440 ≤ t then (4, 4, 0, 1)
  else match [0, 1, 2, 3].find? (fun i => decide (p i < t) && decide (t ≤ p (i + 1))) with
    | some i => (i, i + 1, t - p i, p (i + 1) - p i)
    | none => (4, 4, 0, 1)

/-- Stored value of a trim at point i, from the 1 120 bytes of the points. -/
def pointValue (pts : List Byte) (i sub : Nat) (x : PointTrim) : Int :=
  x.kind.value ((pts.drop (224 * i + 112 * sub + x.off)).take x.kind.size)

/-- B(T) of a trim (R320). -/
def baseline (pts : List Byte) (sub : Nat) (x : PointTrim) (t : Int) : Int :=
  let b := bracket t
  let va := pointValue pts b.1 sub x
  let vb := pointValue pts b.2.1 sub x
  roundAway (va * b.2.2.2 + (vb - va) * b.2.2.1) b.2.2.2

/-- CalTemperature (R320): the last ModuleTempMax that a reading gave. -/
def calTemp (s : State) (c : Nat) : Int := toSigned 16 (s.obj (calIdx c) 9)

/-- Interpolated points as the in-force point blocks (R305). -/
def interpolated (pts : List Byte) (t : Int) : List (Nat × Byte) :=
  [0, 1].flatMap (fun sub => pointTrims.flatMap (fun x => trimLoad (pointOff sub + x.off) x.kind (baseline pts sub x t)))

/-! ### Centres of a sweep (R307) -/

/-- VDDQ as sensed, mV. -/
def vddqMv (s : State) : Nat := s.obj 0x7004 6

def rowWidth (r : EyeRow) : Int := match r.bits.map (fun b => b.2 - b.1) with
  | [] => 0
  | x :: xs => xs.foldl (fun a b => if b < a then b else a) x

/-- What the sweep of one lane gives: its Vref, its bits' delays, its least width and its Vref range in codes. -/
structure Centre where
  vref : Nat
  delays : List Int
  width : Int
  range : Nat
  deriving DecidableEq, Repr

/-- The centre of a lane; among Vrefs equal in width and distance from the middle of the sweep, a free one. -/
def eyeCentre (rows : List EyeRow) (free : Nat) : Option Centre :=
  let top := rows.foldl (fun (m : Option Int) r => some (match m with | some x => max x (rowWidth r) | none => rowWidth r)) none
  match top with
  | none => none
  | some w =>
    let lo := rows.foldl (fun a r => min a r.vref) 255
    let hi := rows.foldl (fun a r => max a r.vref) 0
    let off := fun (r : EyeRow) => if lo + hi ≤ 2 * r.vref then 2 * r.vref - (lo + hi) else (lo + hi) - 2 * r.vref
    let best := rows.filter (fun r => rowWidth r == w)
    let near := best.foldl (fun a r => min a (off r)) 1024
    let ties := best.filter (fun r => off r == near)
    match ties[free % max 1 ties.length]? with
    | none => none
    | some r =>
      let ds := r.bits.map (fun b => (b.1 + b.2) / 2)
      let pass := rows.filter (fun q => (q.bits.zip ds).all (fun e => decide (e.1.1 ≤ e.2) && decide (e.2 ≤ e.1.2)))
      let a := pass.foldl (fun m q => min m q.vref) 255
      let b := pass.foldl (fun m q => max m q.vref) 0
      some { vref := if pass.isEmpty then r.vref else (a + b) / 2, delays := ds, width := w, range := b - a }

/-- A lane's centre meets the eye limits; `step` hundredths of a percent of VDDQ to a Vref code. -/
def centreOk (s : State) (c : Nat) (step : Nat) (x : Option Centre) : Bool := match x with
  | some y => decide ((s.obj (calIdx c) 0x0C : Int) ≤ y.width) &&
      decide (s.obj (calIdx c) 0x0D * 1000 ≤ y.range * step * vddqMv s)
  | none => false

/-- A device's base: the mean of its bits' centres, halves toward lo. -/
def deviceBase (ds : List Int) : Int := (2 * ds.foldl (· + ·) 0 + 3) / 8

/-- Trims of the read eyes: byte lanes 5 × subchannel + lane. -/
def readTrims (cs : List (Option Centre)) : List (Nat × Byte) :=
  cs.zipIdx.flatMap (fun e => match e.1 with
    | none => []
    | some x =>
      let sub := e.2 / 5
      let lane := e.2 % 5
      let p := pointOff sub
      trimLoad (p + 0x28 + lane) .u8 x.vref ++
        [0, 1].flatMap (fun h =>
          let ds := (x.delays.drop (4 * h)).take 4
          let b := deviceBase ds
          trimLoad (p + 0x30 + 2 * (2 * lane + h)) .delay b ++
            ds.zipIdx.flatMap (fun q => trimLoad (p + 8 * lane + 4 * h + q.2) .s8 (q.1 - b))))

/-- Trims of the write eyes: devices 10 × subchannel + device, of rank slot r. -/
def writeTrimsOf (r : Nat) (cs : List (Option Centre)) : List (Nat × Byte) :=
  cs.zipIdx.flatMap (fun e => match e.1 with
    | none => []
    | some x =>
      let sub := e.2 / 10
      let dev := e.2 % 10
      let b := deviceBase x.delays
      trimLoad (pointOff sub + 0x58 + 2 * dev) .delay b ++ trimLoad (commonOff sub + 0x58 + 10 * r + dev) .u8 x.vref ++
        x.delays.zipIdx.flatMap (fun q => trimLoad (commonOff sub + 8 + 4 * dev + q.2) .s8 (q.1 - b)))

/-- The 80 entries of Quality: width in 0.1 ps, height in 0.1 mV, residual errors (R328). -/
def qualityBytes (q : List (Nat × Nat × Nat)) : List Byte :=
  q.flatMap (fun e => natLe 2 (min 65535 e.1) ++ natLe 2 (min 65535 e.2.1) ++ natLe 4 (min (2 ^ 32 - 1) e.2.2))

/-- The centres a sweep chose; the counter of free values advances once a lane. -/
def sweepCentres (s : State) (eyes : List (List EyeRow)) (k : Nat) : List (Option Centre) :=
  eyes.zipIdx.map (fun e => eyeCentre e.1 (Config.freeNat (s.freeCtr + k + e.2)))

/-- End a sweep in failure at a step of R306, or in verification (step 0). -/
def sweepFails (c step : Nat) (s : State) : State :=
  let i := calIdx c
  let s := (s.setObj i 4 (if step = 0 then 2 else 3)).setObj i 5 step
  s.modChan c (fun ch => { ch with verified := some false })

/-- Write retrain and tracking start from the trims just set (R323). -/
def newBase (c : Nat) (s : State) : State := s.modChan c (fun ch => { ch with osc := [], drift := [] })

/-- A sweep of rank slots `first` on: its trims in force at `rate`, stored, unless a step or the verification failed. -/
def sweepResult (c rate kind : Nat) (r : SweepResult) (s : State) : State :=
  let i := calIdx c
  let rd := sweepCentres s r.readEyes 0
  let wr := sweepCentres s r.writeEyes 16
  let s := { s with freeCtr := s.freeCtr + 64 }
  let s := if r.failStep = 1 then calCause c 6 s else s
  if r.failStep != 0 then sweepFails c r.failStep s
  else if !(rd.all (centreOk s c 25)) || rd.length != 10 then sweepFails c 5 s
  else if !(wr.all (centreOk s c 50)) || wr.length != 20 then sweepFails c 7 s
  else
    let frozen := (s.chan c).fromFrozen
    let s := s.setRec i 0x20 0 (fit 1040 r.trims)
    let s := setTrims c (readTrims rd ++ writeTrimsOf ((rankSlots s c).headD 0) wr) s
    let s := newBase c ((s.setRec i 0x23 0 (qualityBytes (r.quality.take 80))))
    if !r.verified then sweepFails c 0 s
    else
      let s := if frozen then s else (s.setObj (timIdx c) 2 rate).setObj i 3 kind
      let s := (s.setObj i 4 (if kind = 2 && !frozen then 4 else 1)).setObj i 5 0
      storeTrained c (s.modChan c (fun ch => { ch with verified := some true }))

/-- HARDWARE_SWEEP (R306): of a channel in Training whose method it is. -/
def hardwareSweep (c : Nat) (r : SweepResult) (s : State) : State :=
  let ch := s.chan c
  let mine := if ch.fromFrozen then s.obj (calIdx c) 3 == 0 else !multiRank s c
  if ch.st != .training || ch.quick || s.obj (calIdx c) 1 != 2 || ch.verified.isSome || !mine then s
  else
    let rate := if ch.fromFrozen then s.rate c else s.obj (timIdx c) 1
    let s := ((s.setObj (timIdx c) 0x20 (min 5000 r.gaps.1)).setObj (timIdx c) 0x21 (min 5000 r.gaps.2))
    sweepResult c rate 0 r s

def execHardwareSweep (c : Fin 16) (r : SweepResult) (s : State) : Out := .next (hardwareSweep c r s)

/-- Rate of the rank-0 fallback (R308). -/
def fallbackRate (s : State) (c : Nat) : Nat := if s.obj (timIdx c) 3 = 2 then 8800 else 6400

/-- The trained rank slot of the module of rank slot k, or of its pseudo-channel on an MRDIMM (R135, R308). -/
def trainedSlot (s : State) (c k : Nat) : Nat :=
  let n := (s.channelGeometry c).2.1
  4 * (k / 4) + (if s.obj (timIdx c) 3 = 2 && n ≤ 2 * (k % 4) then n / 2 else 0)

/-- Every other rank slot takes the VrefDQ codes of its trained one, its rank deltas at 0 (R308). -/
def copyTrained (c : Nat) (s : State) : State :=
  forN 2 s (fun sub t => (rankSlots t c).foldl (fun u k =>
    let r := trainedSlot u c k
    if k = r then u
    else
      let u := u.setRec (calIdx c) 0x20 (commonOff sub + 0x58 + 10 * k) (u.recN (calIdx c) 0x20 (commonOff sub + 0x58 + 10 * r) 10)
      forN 3 u (fun i v => v.setRec (calIdx c) 0x20 (commonOff sub + 0xA8 + 80 * i + 10 * k) (List.replicate 10 0))) t)

/-- RANK0_FALLBACK (R308). -/
def rank0Fallback (c : Nat) (r : SweepResult) (s : State) : State :=
  let ch := s.chan c
  let mine := if ch.fromFrozen then s.obj (calIdx c) 3 == 2 else multiRank s c
  if ch.st != .training || ch.quick || s.obj (calIdx c) 1 != 2 || ch.verified.isSome || !mine then s
  else
    let s := (s.setObj (timIdx c) 0x20 5000).setObj (timIdx c) 0x21 5000
    let s := calCause c 1 s
    let t := sweepResult c (fallbackRate s c) 2 r s
    if (t.chan c).verified = some true then storeTrained c (copyTrained c t) else t

def execRank0Fallback (c : Fin 16) (r : SweepResult) (s : State) : Out := .next (rank0Fallback c r s)

/-! ### Firmware training (R310, R311) -/

/-- A write of TrainingDone: the shadow trims are loaded and verified; the state and the result code. -/
def trainingDone (c v : Nat) (verified : Bool) (s : State) : State × Nat :=
  let i := calIdx c
  if v = 0 then (s, 0)
  else if (s.chan c).st != .training || s.obj i 1 != 1 then (s, 6)
  else
    let s := newBase c (s.setRec i 0x20 0 (s.recN i 0x21 0 1040))
    if !verified then (s.setObj i 4 2, 0)
    else
      let s := if (s.chan c).fromFrozen then s else (s.setObj (timIdx c) 2 (s.obj (timIdx c) 1)).setObj i 3 1
      let s := (s.setObj i 4 1).setObj i 5 0
      (storeTrained c (s.modChan c (fun ch => { ch with verified := some true })), 0)

/-- FIRMWARE_TRAIN_TIMEOUT (R310, R311). -/
def firmwareTimeout (c : Nat) (s : State) : State :=
  let ch := s.chan c
  if ch.st != .training || s.obj (calIdx c) 1 != 1 || ch.verified.isSome then s
  else if ch.fromFrozen then s.setChan c { ch with verified := some false }
  else stopHelper c (s.setObj (calIdx c) 1 2)

def execFirmwareTrainTimeout (c : Fin 16) (s : State) : Out := .next (firmwareTimeout c s)

/-- A write of TrainRequest (R304, R457). -/
def trainRequest (c v : Nat) (s : State) : State × Nat :=
  let ch := s.chan c
  if v = 0 then (s, 0)
  else if ch.st != .untrained && ch.st != .fenced then (s, 6)
  else if (rankSlots s c).isEmpty then (s, 6)
  else (startTraining c false false s, 0)

/-! ### Leaving Training (R245, R303-R305, R368, R457) -/

/-- Sampler paths of a channel (R187): live calibration claims each; of one that another holds it is refused (R184). -/
def claimPaths (c : Nat) (s : State) : State :=
  forN 10 s (fun l t => if t.obj 0x2F00 (laneSub c l) = 8 then t else (claim (laneSub c l) 8 t).1)

/-- A round of cross scans begins (R322). -/
def startRun (c : Nat) (s : State) : State :=
  let ch := s.chan c
  match ch.run with
  | some r => s.setChan c { ch with run := some { r with again := true } }
  | none => s.setChan c ((List.range 10).foldl (fun h l => h.setLane l { (h.lane l) with scanned := false })
      { ch with run := some { temp := calTemp s c, again := false } })

/-- The baseline stands applied at the present temperature. -/
def applyNow (c : Nat) (s : State) : State :=
  let t := calTemp s c
  s.modChan c (fun ch => (List.range 10).foldl (fun h l => h.setLane l { (h.lane l) with applied := t, loaded := [] }) { ch with applied := t })

/-- A channel enters Running or Rebuilding after training: its bays follow, live calibration begins (R185, R368, R373). -/
def trainedChannel (c : Nat) (quick : Bool) (s : State) : State :=
  let rebuild := (s.chan c).dist.isSome && (needsRebuild s (2 * c) || needsRebuild s (2 * c + 1))
  let s := forN 2 s (fun p t =>
    let b := 2 * c + p
    if (t.bay b).st = .training then
      (if needsRebuild t b && (t.chan c).dist.isSome then t.modBay b (fun y => { y with st := .rebuilding }) else bayInService b t)
    else t)
  let s := (claimPaths c (applyNow c s)).setObj (calIdx c) 1 3
  let s := s.modChan c (fun ch => { ch with before := if rebuild then .rebuilding else .running })
  let s := resumeChannel c s
  let s := if rebuild then (claim (0x10 + c) 10 s).1 else s
  if quick then startRun c s else s

/-- Training fails: Frozen again, or Untrained; its bays show the fault (R304, R368, R446). -/
def trainingFailed (c : Nat) (s : State) : State :=
  let frozen := (s.chan c).fromFrozen
  let s := (calCause c 0 s).setObj (calIdx c) 1 0
  if frozen then (stopHelper c (setChanState c .frozen (s.modChan c (fun ch => { ch with fromFrozen := false })))).setObj (chIdx 0x3080 c) 0x12 3
  else
    let s := stopHelper c (setChanState c .untrained (s.setObj (timIdx c) 2 0))
    forN 2 s (fun p t => if (t.bay (2 * c + p)).st = .training then bayFault (2 * c + p) 6 t else t)

/-- The quick start (R305): the stored set, interpolated, in force; verified, the channel leaves Training; else it trains
as after a power-on. -/
def quickStart (c : Nat) (verified : Bool) (s : State) : State :=
  let i := calIdx c
  let s := s.modChan c (fun ch => { ch with quick := false })
  let b := storedTrims s c
  let fits := trimsValid s c && leNat ((b.drop 4).take 4) == configHash s c && leNat ((b.drop 2).take 2) == s.obj (timIdx c) 1
  let s := if fits then
      setTrims c (interpolated (storedPoints s c) (calTemp s c)) (s.setRec i 0x20 0 ((b.drop 0x20).take 816))
    else s
  if fits && verified then
    let s := ((s.setObj (timIdx c) 2 (leNat ((b.drop 2).take 2))).setObj i 3 (leNat ((b.drop 0x12).take 1))).setObj i 0x0A (leNat ((b.drop 0x14).take 2))
    trainedChannel c true (newBase c (s.setObj i 4 1))
  else (calCause c 2 s).setObj i 1 (trainState s c false)

/-- TRAINING_COMPLETE: a quick start with its verification, or the outcome of the sweep, the fallback or the firmware. -/
def trainingComplete (c : Nat) (verified : Bool) (s : State) : State :=
  let ch := s.chan c
  if ch.st != .training then s
  else if ch.quick then quickStart c verified s
  else match ch.verified with
    | none => s
    | some false => trainingFailed c s
    | some true =>
      if ch.fromFrozen then
        let s := (claimPaths c (applyNow c s)).setObj (calIdx c) 1 3
        thawChannel c s
      else trainedChannel c false s

def execTrainingComplete (c : Fin 16) (verified : Bool) (s : State) : Out := .next (trainingComplete c verified s)

/-! ### Live calibration (R315-R322, R325) -/

/-- CalibrationState as it reads: Live reads suspended while R325 holds it. -/
def calState (s : State) (c : Nat) : Nat := if s.obj (calIdx c) 1 = 3 && !calLive s c then 4 else s.obj (calIdx c) 1

/-- Load trims into a lane's spare path; a later load of a byte replaces an earlier one. -/
def loadLane (c l : Nat) (bs : List (Nat × Byte)) (s : State) : State :=
  s.modChan c (fun ch =>
    let x := ch.lane l
    ch.setLane l { x with loaded := x.loaded.filter (fun e => !(bs.any (fun q => q.1 == e.1))) ++ bs })

/-- The value a lane's spare path holds, or the one in force. -/
def pendingTrim (s : State) (c l o : Nat) (k : TrimKind) : Int :=
  let x := ((s.chan c).lane l).loaded
  k.value ((s.recN (calIdx c) 0x20 o k.size).zipIdx.map (fun e => tget x (o + e.2) e.1))

def overShift (s : State) (c : Nat) (m : Int) : Bool := decide ((s.obj (calIdx c) 0x0F : Int) < m.natAbs)
def clampShift (s : State) (c : Nat) (m : Int) : Int :=
  let lim : Int := s.obj (calIdx c) 0x0F
  max (-lim) (min m lim)

/-- CROSS_SCAN_COMPLETE (R316, R317, R328): new trims for a lane, 5 × subchannel + byte lane. -/
def crossScan (c l : Nat) (x : LaneScan) (s : State) : State :=
  if !calLive s c || !laneHeld s c l || (s.chan c).pstate != .active || x.edges.length != 8 || x.strobe.length != 2 then s
  else
    let i := calIdx c
    let sub := l / 5
    let lane := l % 5
    let p := pointOff sub
    let val := fun (o : Nat) (k : TrimKind) => trimAtOff s c o k
    let raw := x.edges.map (fun e => roundToward (e.1 + e.2.1) 2)
    let minT := x.edges.foldl (fun m e => min m e.2.2.1) 40
    let maxB := x.edges.foldl (fun m e => max m e.2.2.2) (-40)
    let rawV := roundToward (minT + maxB) 2
    let big := (rawV :: x.strobe ++ raw).any (fun m => decide (s.obj i 0x0E ≤ m.natAbs))
    let moves := raw.map (clampShift s c)
    let base := fun (h : Nat) => roundToward (((moves.drop (4 * h)).take 4).foldl (· + ·) 0) 4
    let desk := fun (j : Nat) => val (p + 8 * lane + j) .s8 + moves.getD j 0 - base (j / 4)
    let clamped := (rawV :: x.strobe ++ raw).any (overShift s c) ||
      (List.range 8).any (fun j => decide (desk j < -128) || decide (127 < desk j))
    let new := trimLoad (p + 0x28 + lane) .u8 (val (p + 0x28 + lane) .u8 + clampShift s c rawV) ++
      (List.range 8).flatMap (fun j => trimLoad (p + 8 * lane + j) .s8 (desk j)) ++
      [0, 1].flatMap (fun h =>
        let o := p + 0x30 + 2 * (2 * lane + h)
        let e := p + 0x44 + 2 * (2 * lane + h)
        trimLoad o .delay (val o .delay + base h) ++
          trimLoad e .delay (val e .delay + clampShift s c (x.strobe.getD h 0)))
    let width := fun (e : Int × Int × Int × Int) => (e.2.1 - e.1).toNat
    let height := fun (e : Int × Int × Int × Int) => (e.2.2.1 - e.2.2.2).toNat
    let small := x.edges.any (fun e => decide (width e < s.obj i 0x0C) || decide (height e * vddqMv s < 40 * s.obj i 0x0D))
    let rate := max 1 (s.rate c)
    let q := x.edges.zipIdx.flatMap (fun e => qualityBytes [(width e.1 * 10 ^ 7 / (128 * rate), height e.1 * vddqMv s / 40, x.residual.getD e.2 0)])
    let s := s.setRec i 0x23 (8 * (40 * sub + 8 * lane)) q
    let s := s.modChan c (fun ch => ch.setLane l { (ch.lane l) with scanned := true })
    let s := if big then loadLane c l new s else s
    let s := if big && clamped then calCause c 4 s else s
    if small then calCause c 3 s else s

def execCrossScanComplete (c : Fin 16) (lane : Fin 10) (scan : LaneScan) (s : State) : Out := .next (crossScan c lane scan s)

/-- A swap slot of the channel (R318). -/
def isSwapSlot (s : State) (c : Nat) : Bool := s.swapSlot c s.slotNow

/-- CALIBRATION_SWAP (R318, R319). -/
def calSwap (c : Nat) (s : State) : State :=
  let ch := s.chan c
  let i := calIdx c
  let ready := (List.range 10).any (fun l => !(ch.lane l).loaded.isEmpty && laneHeld s c l)
  if !calLive s c || !isSwapSlot s c || !ready then s
  else if ch.lock.isSome || ch.subs.any (fun e => e.2.alert.isSome) || s.inRefresh c (s.refreshDoubled c) s.slotNow then
    let n := ch.deferrals + 1
    let s := (s.setChan c { ch with deferrals := n }).addObj i 0x14 1
    if n = 16 then calCause c 7 s else s
  else
    let s := (s.setChan c { ch with deferrals := 0 }).addObj i 0x13 1
    swapAll c s

def execCalibrationSwap (c : Fin 16) (s : State) : Out := .next (calSwap c s)

/-- The baseline's move of a lane's trims, or of the write delays, from one temperature to another (R321). -/
def baselineMoves (s : State) (c sub lane : Nat) (write : Bool) (fromT toT : Int) (l : Nat) : List (Nat × Byte) :=
  let pts := storedPoints s c
  (pointTrims.filter (fun x => x.lane == lane && x.write == write)).flatMap (fun x =>
    let d := baseline pts sub x toT - baseline pts sub x fromT
    if d = 0 then [] else
      let o := pointOff sub + x.off
      trimLoad o x.kind (pendingTrim s c l o x.kind + d))

/-- Apply the baseline at temperature t: read trims into the spare paths that live calibration holds, write delays under
lane 10 for the next refresh placement. -/
def applyBaseline (c : Nat) (t : Int) (s : State) : State :=
  let s := forN 10 s (fun l u =>
    if laneHeld u c l then
      let x := (u.chan c).lane l
      let v := loadLane c l (baselineMoves u c (l / 5) (l % 5) false x.applied t l) u
      v.modChan c (fun ch => ch.setLane l { (ch.lane l) with applied := t })
    else u)
  let ch := s.chan c
  let s := loadLane c 10 ((List.range 10).flatMap (fun l => baselineMoves s c (l / 5) (l % 5) true ch.applied t 10)) s
  s.modChan c (fun h => { h with applied := t })

/-- TEMP_BASELINE_ADJUST (R321): CalTemperature moved by 1 °C or more since the baseline was last applied. -/
def tempAdjust (c : Nat) (s : State) : State :=
  let t := calTemp s c
  let ch := s.chan c
  let moved := decide (4 ≤ (t - ch.applied).natAbs) ||
    (List.range 10).any (fun l => laneHeld s c l && decide (4 ≤ (t - (ch.lane l).applied).natAbs))
  if calLive s c && moved then applyBaseline c t s else s

def execTempBaselineAdjust (c : Fin 16) (s : State) : Out := .next (tempAdjust c s)

/-- The adjustment at an exit from self-refresh and at Thaw: at once, without swaps (R321). -/
def adjustNow (c : Nat) (s : State) : State :=
  if calLive s c then applyPending c (swapAll c (applyBaseline c (calTemp s c) s)) else s

/-- POWER_EXIT_COMPLETE: the channel's clocks run, and its bridge opens (R82, R158); out of self-refresh the baseline is
adjusted before the first command (R321). -/
def execPowerExitComplete (c : Fin 16) (s : State) : Out :=
  let low := (s.chan c).pstate == .selfRefresh || (s.chan c).pstate == .deepSelfRefresh
  let t := openBridge (channelCrossing c) (powerExitDone c s)
  .next (if low && (t.chan c).pstate == .active then adjustNow c t else t)

/-- A write of CalRunRequest (R322). -/
def calRunRequest (c v : Nat) (s : State) : State × Nat := if v = 0 then (s, 0) else (startRun c s, 0)

/-- A run the temperature asks for (R322). -/
def calRunTrigger (c : Nat) (s : State) : State :=
  let far := decide (4 * s.obj (calIdx c) 0x0B < (calTemp s c - toSigned 16 (s.obj (calIdx c) 0x0A)).natAbs)
  if calLive s c && far && (s.chan c).run.isNone then startRun c s else s

/-- The point nearest T and its weight; of two equally near, a free one (R322). -/
def runPoint (t : Int) (free : Bool) : Nat × Int × Int :=
  let b := bracket t
  let hi := b.2.2.1
  let lo := b.2.2.2 - b.2.2.1
  if hi < lo || (hi = lo && free) then (b.1, lo, b.2.2.2) else (b.2.1, hi, b.2.2.2)

/-- MEASUREMENT_RUN_END (R322): the nearest point takes up what the scans found. -/
def runEnd (c : Nat) (s : State) : State :=
  let ch := s.chan c
  match ch.run with
  | none => s
  | some r =>
    let held := (List.range 10).filter (laneHeld s c)
    if !calLive s c || !(held.all (fun l => (ch.lane l).scanned && (ch.lane l).loaded.isEmpty)) then s
    else
      let i := calIdx c
      let pts := storedPoints s c
      let p := runPoint r.temp (Config.freeBit s.freeCtr)
      let new := held.foldl (fun (acc : List Byte) l =>
        let sub := l / 5
        (pointTrims.filter (fun x => x.lane == l % 5)).foldl (fun a x =>
          let v := pointValue pts p.1 sub x
          let d := trimAtOff s c (pointOff sub + x.off) x.kind - baseline pts sub x r.temp
          patch a (224 * p.1 + 112 * sub + x.off) (x.kind.bytes (roundAway (v * p.2.1 + d * p.2.2) p.2.1))) acc) pts
      let mask := setBit (ldNat s.mram (trimAt c + 0x10) 1) p.1 true
      let s := s.tickFree.setObj i 0x0A (ofSigned 16 r.temp)
      let s := writeTrims c mask new (s.modChan c (fun h => { h with run := none }))
      if r.again then startRun c s else s

def execMeasurementRunEnd (c : Fin 16) (s : State) : Out := .next (runEnd c s)

/-! ### Write side (R323, R324) -/

/-- One device's oscillator count (R323), e = (count, device): the first is its base; a later one gives the drift of its write
delay, whose change waits under lane 10. Without a quotient (a count of 0) the drift is a free value. -/
def trackOne (c rs runtime : Nat) (t : State) (e : Nat × Nat) : State :=
  if 20 ≤ e.2 then t
  else
    let ch := t.chan c
    let key := 20 * rs + e.2
    match tfind ch.osc key with
    | none => t.setChan c { ch with osc := tins ch.osc key e.1 }
    | some b =>
      let old := tget ch.drift key 0
      let den : Int := 2 * e.1 * b * 10 ^ 6
      let total : Int := if e.1 = 0 || b = 0 then toSigned 8 (Config.freeNat t.freeCtr)
        else roundAway ((runtime : Int) * ((b : Int) - e.1) * (128 * t.rate c)) den
      let t := if e.1 = 0 || b = 0 then t.tickFree else t
      let o := commonOff (e.2 / 10) + 0xF8 + 10 * rs + e.2 % 10
      let t := loadLane c 10 (trimLoad o .s8 (pendingTrim t c 10 o .s8 + (total - old))) t
      t.modChan c (fun h => { h with drift := tput h.drift key total 0 })

/-- WRITE_TRACK (R323): oscillator counts of the 20 devices of a rank slot, run for `runtime` ps. -/
def writeTrack (c rs runtime : Nat) (counts : List Nat) (s : State) : State :=
  if !calLive s c || !(rankSlots s c).contains rs then s
  else
    let s := counts.zipIdx.foldl (trackOne c rs runtime) s
    if (s.chan c).drift.any (fun e => decide (s.obj (calIdx c) 0x16 < e.2.natAbs)) then calCause c 5 s else s

def execWriteTrack (c : Fin 16) (rankSlot : Fin 8) (runtime : Nat) (counts : List Nat) (s : State) : Out :=
  .next (writeTrack c rankSlot runtime counts s)

/-- Line operations of a retrain on a rank slot: at each of 17 steps 8 lines are written and read back (R324). -/
def retrainLines : Nat := 17 * 16

/-- WRITE_RETRAIN (R324): a burst of maintenance context 3, which waits for a gate window that it fits; the centres found
about the in-force values, 20 for each rank slot in turn. -/
def writeRetrain (c : Nat) (centres : List Int) (s : State) : State :=
  if !calLive s c then s
  else
    let own := claim (0x10 + c) 4 s
    if !own.2 then own.1
    else if !sweepReady own.1 c 3 16 then releaseOwn (0x10 + c) 4 (deferBurst c 3 16 own.1)
    else
      let n := retrainLines * (rankSlots own.1 c).length
      let s := applyPending c (noteBurst c 3 n n own.1)
      let s := ((rankSlots s c).zipIdx).foldl (fun t r => forN 20 t (fun k u =>
        let o := commonOff (k / 10) + 0xF8 + 10 * r.1 + k % 10
        setTrims c (trimLoad o .s8 (trimAtOff u c o .s8 + centres.getD (20 * r.2 + k) 0)) u)) s
      let s := (newBase c s).addObj (calIdx c) 0x18 1
      releaseOwn (0x10 + c) 4 (endCtx c 3 (writeTrims c (ldNat s.mram (trimAt c + 0x10) 1) (storedPoints s c) s))

def execWriteRetrain (c : Fin 16) (centres : List Int) (s : State) : Out := .next (writeRetrain c centres s)

/-- REF_CALIBRATION (R300): each impedance code moves by at most one toward the code measured, 4 a subchannel. -/
def refCalibrate (c : Nat) (targets : List Int) (s : State) : State :=
  if !calLive s c then s
  else
    let r := forN 8 (s, false) (fun k x =>
      let o := commonOff (k / 4) + k % 4
      let v := trimAtOff x.1 c o .u8
      let w := targets.getD k v
      let n := if v < w then v + 1 else if w < v then v - 1 else v
      if n < 0 || 63 < n then (x.1, true) else (setTrims c (trimLoad o .u8 n) x.1, x.2))
    if r.2 then calCause c 6 r.1 else r.1

def execRefCalibration (c : Fin 16) (targets : List Int) (s : State) : Out := .next (refCalibrate c targets s)

/-! ### Eye scans (R325) -/

/-- A write of EyeScanRequest: 1 + lane. A path that is held answers ClaimRefused (R184). -/
def eyeScanRequest (c v : Nat) (s : State) : State × Nat :=
  let r := claim (laneSub c (v - 1)) 9 s
  (r.1, if r.2 then 0 else 9)

/-- EYE_SCAN_COMPLETE: the map is written, the path goes back to live calibration. -/
def eyeScanDone (c l : Nat) (map : List Byte) (s : State) : State :=
  if s.obj 0x2F00 (laneSub c l) != 9 then s
  else
    let s := s.setRec (calIdx c) 0x24 0 (fit 3977 map)
    s.setObj 0x2F00 (laneSub c l) (if s.obj (calIdx c) 1 = 3 then 8 else 0)

def execEyeScanComplete (c : Fin 16) (lane : Fin 10) (map : List (BitVec 8)) (s : State) : Out := .next (eyeScanDone c lane map s)

end Sys2Proof.Machine
end

