-- ==== Sys2Proof/Machine/Helper.lean ====
section
/-! DEFINITION. The training helper (R312-R314, R330). -/

namespace Sys2Proof.Machine

/-! ### Helper operations -/

/-- Operations that may take the capture store (R314). -/
def helperCapture (s : State) (c op : Nat) : Bool :=
  (op == 5 || op == 6 || op == 9) && decide (0 < s.obj (0xA000 + c) 0x12)

/-- The command an operation puts on the channel first, for the history (R243). -/
def helperCmd (op : Nat) : Nat := if op = 1 then 8 else if op = 2 then 9 else if op = 3 then 10 else if op = 4 then 11 else 10

/-- A write of HelperOp: the state and the result code. `owned`: the write names a field the D16 owns (R312). -/
def helperStart (c op : Nat) (owned : Bool) (s : State) : State × Nat :=
  let i := 0xA000 + c
  if (s.chan c).helper.isSome then (s, 6)
  else if !helperAllowed s c op || (owned && (op == 2 || op == 3 || op == 4)) then (s.setObj i 2 3, 0)
  else
    let p := if helperPattern op then claim 2 5 s else (s, true)
    if !p.2 then (p.1.setObj i 2 4, 0)
    else
      let q := if helperCapture s c op then claim 1 4 p.1 else (p.1, true)
      if !q.2 then ((if helperPattern op then releaseOwn 2 5 q.1 else q.1).setObj i 2 4, 0)
      else
        let s := q.1.modChan c (fun ch => { ch with helper := some op })
        let rs := s.obj i 4
        let x : Coord := { sub := if bit (s.obj i 3) 0 then 0 else 1, bg := s.obj i 6, bank := s.obj i 7, col := s.obj i 8,
                           rank := rs % 4, pos := rs / 4, row := 0 }
        (noteCmd c (histOf s (helperCmd op) x) (s.setObj i 2 1), 0)

/-- What an operation brought back is written (R313, R314). -/
def helperResults (c op : Nat) (r : HelperResult) (s : State) : State :=
  let i := 0xA000 + c
  let s := if op = 1 then forN 20 s (fun k t => if bit (t.obj i 3) (k / 10) then t.setRec i 0x0A k [r.mrData.getD k 0] else t) else s
  let s := if op = 5 || op = 6 || op = 8 || op = 9 then
      r.errors.foldl (fun t e => if e.1 < 5120 then t.setRec i 0x13 (2 * e.1) (natLe 2 (min 65535 e.2)) else t) (s.clearRec i 0x13)
    else s
  if helperCapture s c op then
    let cs := r.captures.take (s.obj i 0x12)
    let s := cs.zipIdx.foldl (fun t e => (setCapture e.2 e.1 t).setRec 0xA0F0 2 (64 * e.2) (fit 64 e.1)) (s.clearRec 0xA0F0 2)
    s.setObj i 0x14 cs.length
  else s

/-- HELPER_OP_COMPLETE (R312): done, or stopped where its state has been left, or no device answered. Every operation
ends with all rows precharged. -/
def helperDone (c : Nat) (r : HelperResult) (s : State) : State :=
  match (s.chan c).helper with
  | none => s
  | some op =>
    let i := 0xA000 + c
    let ok := helperAllowed s c op
    let s := if ok && r.responded then helperResults c op r s else s
    let s := match sweptTrim s c op with
      | some t => restoreSwept c t s
      | none => s
    let s := helperRelease op (closeAll c (s.modChan c (fun ch => { ch with helper := none })))
    s.setObj i 2 (if !ok then 3 else if r.responded then 2 else 5)

def execHelperOpComplete (c : Fin 16) (r : HelperResult) (s : State) : Out := .next (helperDone c r s)

end Sys2Proof.Machine
end

