-- ==== Sys2Proof/Machine/Bays.lean ====
section
/-! DEFINITION. The service bay (R133, R138, R359-R378): the chain scan, presses, removals, discovery of an inserted module,
the timing defaults from SPD, restores and temperature polls. -/

namespace Sys2Proof.Machine

/-! ### What a bay shows -/

/-- ATTN_LED pattern of a bay (R362): 0 off, 1 fast blink, 2 slow blink, 3 steady, 4 double blink. -/
def ledState (y : Bay) : Nat :=
  if y.ledTest then 3
  else if y.refusedBlink then 1
  else match y.st with
    | .empty | .inService => 0
    | .discovering | .training | .rebuilding | .latchFenced => 1
    | .preparing => 2
    | .safeToRemove => 3
    | .fault => 4

/-- ModuleGeometry of a bay (R376). -/
def moduleGeometry (m : ModuleInfo) : Nat :=
  m.density + 4 * rankBits m.ranks + (if m.kind = 2 then 16 else 0) + (if m.energyBacked then 32 else 0)

/-- Write the energy-backed and serial fields of a bay's save flags (R367). -/
def writeSaveFlags (b flags serial : Nat) (s : State) : State :=
  { s with mram := sbN s.mram (saveFlagsAt b) (natLe 1 flags ++ List.replicate 3 0 ++ natLe 4 serial) }

/-- The chain is in Fault (R360). -/
def chainFault (s : State) : Bool := s.obj 0x7000 0x10 == 1

/-- From the cut-off until Thaw completes only Empty and LatchFenced are entered (R375). -/
def baysHeld (s : State) : Bool := s.sup.squall != .idle || s.blk.st == .off

/-! ### Timing defaults (R134, R138) -/

def rdimmRates : List Nat := [4800, 5200, 5600, 6000, 6400, 6800, 7200, 7600, 8000]
def mrdimmRates : List Nat := [8800, 12800]
def kindRates (kind : Nat) : List Nat := if kind = 2 then mrdimmRates else rdimmRates

/-- Modules a channel is timed and run with: those of its bays not in Fault. -/
def timedModules (s : State) (c : Nat) : List ModuleInfo :=
  [0, 1].filterMap (fun p => if (s.bay (2 * c + p)).st = .fault then none else s.moduleAt (2 * c + p))

/-- The highest rate of the kind that every module supports. -/
def defaultRate (ms : List ModuleInfo) : Nat :=
  let lim := ms.foldl (fun a m => min a m.rate) 12800
  ((kindRates ((ms.map (·.kind)).headD 1)).filter (fun r => decide (r ≤ lim))).foldl max 0

/-- The largest of a parameter over the modules. -/
def spdMax (ms : List ModuleInfo) (f : SpdTimes → Nat) : Nat := ms.foldl (fun a m => max a (f m.spd)) 0

/-- The least CAS latency that each module supports at or above its tAA at a data rate, the larger of two modules' (R138);
0 where a module supports none that CasLatency can hold. -/
def defaultCl (ms : List ModuleInfo) (rate : Nat) : Nat :=
  let least := fun (m : ModuleInfo) => leastBy (fun a b => decide (a < b)) (m.spd.cls.filter (fun k =>
    decide (cdiv (m.spd.tAA * rate) 2000000 ≤ k) && k % 2 == 0 && decide (20 ≤ k) && decide (k ≤ 128)))
  if ms.any (fun m => (least m).isNone) then 0 else ms.foldl (fun a m => max a ((least m).getD 0)) 0

/-- The defaults of the timing objects: subindex and value. -/
def timingDefaults (ms : List ModuleInfo) (rate : Nat) : List (Nat × Nat) :=
  let m := spdMax ms
  [(5, defaultCl ms rate), (7, m (·.tRcd)), (8, m (·.tRp)), (9, m (·.tRas)), (0x0A, m (·.tRc)), (0x0B, m (·.tWr)),
   (0x0C, 7500), (0x0D, 0), (0x0E, m (·.tRrdL)), (0x0F, m (·.tFaw)), (0x10, 0), (0x11, m (·.tCcdL)),
   (0x12, m (·.tCcdLWr)), (0x13, m (·.tWtrS)), (0x14, m (·.tWtrL)), (0x15, m (·.tRfc1)), (0x16, m (·.tRfcSb)),
   (0x17, m (·.tRefSbRd)), (0x18, m (·.tRfmSb)), (0x1A, 7500), (0x1B, m (·.tRfc1) + 10000), (0x1C, 1000000),
   (0x1D, 30000), (0x1E, 0), (0x1F, 0), (0x22, if m (·.tAlert) = 0 then 10000 else m (·.tAlert))]

/-- A module whose SPD can be used (R138): it answered, and no value is outside its object's range. -/
def spdUsable (m : ModuleInfo) : Bool :=
  let t := m.spd
  let cl := defaultCl [m] (defaultRate [m])
  m.spdOk && (m.kind == 1 || m.kind == 2) && m.width == 4 && m.devices == 10 && (m.ranks == 1 || m.ranks == 2 || m.ranks == 4) && decide (m.density ≤ 2) &&
    !(m.kind == 2 && m.ranks == 1) && defaultRate [m] != 0 && cl != 0 &&
    [(t.tRcd, 8000, 40000), (t.tRp, 8000, 40000), (t.tRas, 24000, 80000), (t.tRc, 32000, 120000), (t.tWr, 20000, 60000),
     (t.tRfcSb, 0, 250000), (t.tRfmSb, 0, 250000)].all (fun r => decide (r.2.1 ≤ r.1) && decide (r.1 ≤ r.2.2))

/-- Compute the defaults of a channel (R138); a value the configuration in force holds already stays. -/
def computeTiming (c : Nat) (s : State) : State :=
  let ms := timedModules s c
  let i := timIdx c
  match ms with
  | [] => s.setObj i 3 0
  | m :: _ =>
    let s := s.setObj i 3 m.kind
    let rate := if s.obj i 1 = 0 then defaultRate ms else s.obj i 1
    let s := s.setObj i 1 rate
    (timingDefaults ms rate).foldl (fun t e => if t.obj i e.1 = 0 then t.setObj i e.1 e.2 else t) s

/-! ### Leaving and entering service (R368-R374) -/

/-- No bay of c is in a state that keeps the channel from service (R373). -/
def baysClear (s : State) (c : Nat) : Bool :=
  [0, 1].all (fun p => match (s.bay (2 * c + p)).st with
    | .preparing | .safeToRemove | .latchFenced | .fault => false
    | _ => true)

/-- Every bay the channel needs holds a module ready to train, or one in service (R373). -/
def baysReady (s : State) (c : Nat) : Bool :=
  let n := ([0, 1].filter (fun p => match (s.bay (2 * c + p)).st with
    | .training | .inService | .rebuilding => true
    | _ => false)).length
  match s.descOf c with
  | some (_, d) => decide (d.modules ≤ n)
  | none => decide (0 < n)

/-- A Fenced or Absent channel trains once its bays are ready (R373). -/
def retrainFenced (c : Nat) (s : State) : State :=
  let st := (s.chan c).st
  let some_ := [0, 1].any (fun p => (s.bay (2 * c + p)).st == .training)
  if (st == .fenced || st == .absent) && some_ && baysReady s c && baysClear s c then startTraining c false false s else s

/-- Discovery's claim on the bay's sideband bus (R364). -/
def busSub (b : Nat) : Nat := 3 + b / 8

/-- A bay in Discovering ends in Fault: cause, event. -/
def discoveryFault (b cause ev : Nat) (s : State) : State := (bayFault b cause (releaseOwn (busSub b) 11 s)).raise ev

/-- Loss of presence (R372). -/
def presenceLost (b : Nat) (s : State) : State :=
  let c := bayChan b
  let all := match (s.bay b).st with
    | .inService | .training | .rebuilding | .latchFenced => true
    | _ => false
  let s := if (s.bay b).st = .discovering then releaseOwn (busSub b) 11 s else s
  let s := setNeeds b true s
  let s := if all then setNeeds (b ^^^ 1) ((s.bay (b ^^^ 1)).st != .empty || needsRebuild s (b ^^^ 1)) s else s
  let s := blankBay b (absentChannel c s)
  let s := s.modBay b (fun y => { y with st := .empty, module := none, allow := false, pmic := false, polls := 0, powerKept := false })
  let s := setTemps c (tdel (s.chan c).temps (b % 2)) (s.setObj (0x7100 + b) 5 0)
  let s := { s with sup := { s.sup with restored := s.sup.restored.filter (fun x => x != b) } }
  (writeSaveFlags b 0 0 s).raise 0x1F4

/-- The latch opens in service (R371). -/
def latchOpened (b : Nat) (s : State) : State :=
  let s := fenceChannel (bayChan b) s
  (s.modBay b (fun y => { y with st := .latchFenced, powerKept := true })).raise 0x1F3

/-- The latch of a LatchFenced bay closes with its power kept (R371): the channel is verified, with an outcome this model
leaves free, and resumes where no other bay keeps it fenced. -/
def latchClosed (b : Nat) (s : State) : State :=
  let c := bayChan b
  let pass := Config.freeBit s.freeCtr
  let s := s.tickFree
  if !pass then setNeeds b true (bayFault b 6 s)
  else
    let s := bayInService b s
    if (s.chan c).st = .fenced && baysClear s c then
      let rebuild := (s.chan c).dist.isSome && (needsRebuild s (2 * c) || needsRebuild s (2 * c + 1))
      let s := exitNow c (s.modChan c (fun ch => { ch with before := if rebuild then .rebuilding else ch.before }))
      adjustNow c (resumeChannel c s)
    else s

/-- MOD_PG falls in service (R368). -/
def powerLost (b : Nat) (s : State) : State :=
  let s := fenceChannel (bayChan b) s
  (setNeeds b true (blankBay b (bayFault b 5 s))).raise 0x1F7

/-- A Preparing bay whose PMIC is off and whose power is gone is safe to remove (R368). -/
def safeToRemove (b : Nat) (s : State) : State :=
  ((s.modBay b (fun y => { y with st := .safeToRemove })).addObj (0x7100 + b) 0x0A 1).raise 0x1F2

/-- Channel c's modules are in self-refresh, or have no clocked bus at all. -/
def modulesParked (s : State) (c : Nat) : Bool := (s.chan c).pstate == .selfRefresh || (s.chan c).st == .absent

/-- What one bay's inputs do (R361, R368), in row order; `held` under R375. -/
def bayInput (b : Nat) (held : Bool) (s : State) : State :=
  let y := s.bay b
  let pg := bit y.inputs 0
  let open_ := bit y.inputs 2
  let away := bit y.inputs 3
  if y.st = .empty then s
  else if away then presenceLost b s
  else
    let latch := match y.st with
      | .inService | .training | .rebuilding | .preparing => open_
      | _ => false
    if latch then latchOpened b s
    else if held then s
    else match y.st with
      | .latchFenced =>
        let kept := y.powerKept && pg
        if !open_ && kept then latchClosed b s else s.setBay b { y with powerKept := kept }
      | .inService => if pg then s else powerLost b s
      | .preparing =>
        let s := if modulesParked s (bayChan b) then s.modBay b (fun z => { z with pmic := false }) else s
        if !(s.bay b).pmic && !pg then safeToRemove b s else s
      | _ => s

/-- The six bits of bay b's group in a scan; bay 0 first, most significant bit first (R359). -/
def scanGroup (v : BitVec 192) (b : Nat) : Nat := bits v.toNat (191 - 6 * b) (186 - 6 * b)

/-- BAY_CHAIN_SCAN (R359, R360): the markers are checked; a good scan's inputs act; the LED latches follow their patterns,
which a blinking one shows at an instant this model leaves free. -/
def chainScan (v : BitVec 192) (s : State) : State :=
  if s.blk.st = .off then s
  else
    let good := (List.range 32).all (fun b => bits (scanGroup v b) 5 4 == 2)
    if !good then
      let n := s.sup.chainBad + 1
      let s := { s with sup := { s.sup with chainBad := n, chainGood := 0 } }
      let s := s.addObj 0x7000 0x11 1
      if n = 3 && !chainFault s then (s.setObj 0x7000 0x10 1).raise 0x1F8 else s
    else
      let n := s.sup.chainGood + 1
      let s := { s with sup := { s.sup with chainBad := 0, chainGood := n } }
      let s := if 3 ≤ n then s.setObj 0x7000 0x10 0 else s
      if chainFault s then s
      else
        let s := forN 32 s (fun b t => t.modBay b (fun y => { y with inputs := scanGroup v b % 16 }))
        let s := forN 32 s (fun b t => bayInput b (baysHeld t) t)
        let blink := Config.freeBit s.freeCtr
        forN 32 s.tickFree (fun b t => t.modBay b (fun y =>
          { y with led := if ledState y = 0 then false else if ledState y = 3 then true else blink }))

def execBayChainScan (bits : BitVec 192) (s : State) : Out := .next (chainScan bits s)

/-! ### Presses and BayCommand (R361, R362, R368, R370) -/

/-- A removal may start (R370). -/
def removalOk (s : State) (b : Nat) : Bool :=
  let c := bayChan b
  let ok := match (s.chan c).st with
    | .running | .frozen | .retired | .fenced | .absent => true
    | _ => false
  let safe := match (s.chan c).dist with
    | some d => (s.dist d).mst == .inSync || !(s.dist d).st.hasFormation
    | none => true
  ok && (safe || (s.bay b).allow) && !chainFault s && !baysHeld s && s.blk.st != .draining && s.blk.st != .thawing

/-- A removal asked for in InService or Fault; the fence follows at the next slot boundary (R371). -/
def askRemoval (b : Nat) (s : State) : State :=
  if removalOk s b then
    ((s.modBay b (fun y => { y with st := .preparing, pmic := true })).setObj (0x7100 + b) 5 0).raise 0x1F0
  else (s.modBay b (fun y => { y with refusedBlink := true })).raise 0x1F1

/-- The slot boundary at which an accepted press fences its channel. -/
def fenceDue (c : Nat) (s : State) : State :=
  let s := if [0, 1].any (fun p => (s.bay (2 * c + p)).st == .preparing) then fenceChannel c s else s
  fenceSettle c s

/-- Discovery starts (R364, R368): the bus is claimed and the module powered. -/
def startDiscovery (b : Nat) (s : State) : State :=
  let own := claim (busSub b) 11 s
  if own.2 then own.1.modBay b (fun y => { y with st := .discovering, pmic := true, module := none }) else own.1

/-- BUTTON_PRESS (R361, R368). -/
def buttonPress (b : Nat) (s : State) : State :=
  match (s.bay b).st with
  | .inService | .fault => askRemoval b s
  | .safeToRemove => if chainFault s || baysHeld s then s else startDiscovery b s
  | _ => s

def execButtonPress (b : Fin 32) (s : State) : Out := .next (buttonPress b s)

/-- A write of BayCommand: 1 StartRemoval, 2 AllowRemoval, 3 LedTest; the state and the result code. -/
def bayCommand (b v : Nat) (s : State) : State × Nat :=
  if v = 1 then
    (match (s.bay b).st with
     | .inService | .fault => (askRemoval b s, 0)
     | _ => (s, 0))
  else if v = 2 then (s.modBay b (fun y => { y with allow := true }), 0)
  else if v = 3 then (s.modBay b (fun y => { y with ledTest := true }), 0)
  else (s, 7)

/-- LED_TEST_EXPIRY. -/
def execLedTestExpiry (b : Fin 32) (s : State) : Out := .next (s.modBay b (fun y => { y with ledTest := false }))

/-- REFUSED_PRESS_BLINK_END. -/
def execRefusedPressBlinkEnd (b : Fin 32) (s : State) : Out := .next (s.modBay b (fun y => { y with refusedBlink := false }))

/-! ### Insertion and discovery (R361, R364-R368) -/

/-- INSERTION: presence and a closed latch have held for PresenceDebounce. -/
def insertion (b : Nat) (s : State) : State :=
  let y := s.bay b
  let seen := !bit y.inputs 3 && !bit y.inputs 2
  let up := match s.blk.st with
    | .running | .recovery | .config | .test => true
    | _ => false
  if y.st = .empty && seen && up && !chainFault s && !baysHeld s then
    let own := claim (busSub b) 11 s
    if own.2 then (own.1.modBay b (fun z => { z with st := .discovering, pmic := true })).raise 0x1F5 else own.1
  else s

def execInsertion (b : Fin 32) (s : State) : Out := .next (insertion b s)

/-- The other module of the channel. -/
def mate (s : State) (b : Nat) : Option ModuleInfo := if (s.bay (b ^^^ 1)).st = .fault then none else s.moduleAt (b ^^^ 1)

/-- The inserted module's geometry fits the district's descriptor (R89), whose modules take positions 0 up (R92). -/
def fitsDesc (s : State) (b : Nat) (m : ModuleInfo) : Bool :=
  match s.descOf (bayChan b) with
  | some (_, d) => m.density == d.density && m.ranks == d.ranks && decide (b % 2 < d.modules)
  | none => true

/-- The module of a bay is taken into use as a new one: its erasure bytes and its content are cleared, NeedsRebuild is set
(R231, R368); an energy-backed one is rearmed (R369). -/
def newModule (b : Nat) (m : ModuleInfo) (s : State) : State :=
  let c := bayChan b
  let s := s.modBay b (fun y => { y with module := some { m with saveStatus := m.saveStatus &&& 0xFA }, polls := 0, pmic := true })
  let s := forN 2 s (fun sub t => forN 4 t (fun r u => setErased c sub (4 * (b % 2) + r) none u))
  let s := s.modChan c (fun ch => { ch with devStopped := ch.devStopped.filter (fun k => k % 8 / 4 != b % 2),
                                            devCounts := ch.devCounts.filter (fun e => e.1 / 10 % 8 / 4 != b % 2) })
  let s := (writeSaveFlags b (if m.energyBacked then 1 else 0) m.serial s).setObj (0x7100 + b) 8 m.saveStatus.toNat
  setNeeds b true (blankBay b s)

/-- DISCOVERY_COMPLETE (R368). -/
def discovered (b : Nat) (m : ModuleInfo) (s : State) : State :=
  let c := bayChan b
  if (s.bay b).st != .discovering then s
  else if !spdUsable m then discoveryFault b 2 0x1F6 s
  else if (match mate s b with | some o => o.kind != m.kind | none => false) then
    (discoveryFault b 1 0x1F6 s).modBay b (fun y => { y with pmic := false })
  else if !fitsDesc s b m then discoveryFault b 1 0x1F6 s
  else if !m.powerGood then discoveryFault b 3 0x1F7 s
  else
    let s := newModule b m (releaseOwn (busSub b) 11 s)
    let s := computeTiming c (s.modBay b (fun y => { y with st := .training }))
    retrainFenced c s

def execDiscoveryComplete (b : Fin 32) (m : ModuleInfo) (s : State) : Out := .next (discovered b m s)

/-- PMIC_ON_TIMEOUT. -/
def pmicOnTimeout (b : Nat) (s : State) : State :=
  if (s.bay b).st = .discovering && !bit (s.bay b).inputs 0 then discoveryFault b 3 0x1F7 s else s

def execPmicOnTimeout (b : Fin 32) (s : State) : Out := .next (pmicOnTimeout b s)

/-- PMIC_OFF_TIMEOUT. -/
def pmicOffTimeout (b : Nat) (s : State) : State :=
  if (s.bay b).st = .preparing && bit (s.bay b).inputs 0 then bayFault b 4 s else s

def execPmicOffTimeout (b : Fin 32) (s : State) : Out := .next (pmicOffTimeout b s)

/-! ### Restores (R350, R365, R366) -/

/-- A restore that failed or timed out: the bay's content is untrusted (R366). -/
def restoreFailed (b : Nat) (s : State) : State := setNeeds b true (bayFault b 7 s)

/-- RESTORE_COMPLETE: SaveStatus as read; with RestoreComplete and EnergyReady the bay has reported, and is rearmed. -/
def restoreComplete (b : Nat) (status : Nat) (s : State) : State :=
  let known := match s.moduleAt b with
    | some m => m.energyBacked
    | none => s.blk.stage == 3 && s.blk.st == .resetPhase
  if !known then s
  else
    let s := s.setObj (0x7100 + b) 8 status
    if bit status 4 then restoreFailed b s
    else if bit status 1 && bit status 3 then
      let s := setSaveFlag b 3 true (s.modBay b (fun y => { y with
        module := y.module.map (fun m => { m with saveStatus := m.saveStatus &&& 0xFA }) }))
      { s with sup := { s.sup with restored := b :: s.sup.restored.filter (fun x => x != b) } }
    else s

def execRestoreComplete (b : Fin 32) (status : BitVec 8) (s : State) : Out := .next (restoreComplete b status.toNat s)

/-- RESTORE_TIMEOUT (R366): in stage S3, of a bay that has not reported. -/
def restoreTimeout (b : Nat) (s : State) : State :=
  if s.blk.st = .resetPhase && s.blk.stage = 3 && !s.sup.restored.contains b then (restoreFailed b s).raise 0x1FA else s

def execRestoreTimeout (b : Fin 32) (s : State) : Out := .next (restoreTimeout b s)

/-! ### Temperature polls (R148, R364) -/

/-- SIDEBAND_TEMP_POLL: a reading in 0.25 °C, or no answer; the third missing one raises SidebandFault. -/
def tempPoll (b : Nat) (reading : Option Int) (s : State) : State :=
  if (s.moduleAt b).isNone then s
  else match reading with
    | some t => noteTemp (bayChan b) (b % 2) t (s.modBay b (fun y => { y with polls := 0 }))
    | none =>
      let n := (s.bay b).polls + 1
      let s := s.modBay b (fun y => { y with polls := n })
      if n = 3 then (setTemps (bayChan b) (tdel (s.chan (bayChan b)).temps (b % 2)) s).raise 0x1FB else s

def execSidebandTempPoll (b : Fin 32) (reading : Option Int) (s : State) : Out := .next (tempPoll b reading s)

end Sys2Proof.Machine
end

