-- ==== Sys2Proof/Machine/Reset.lean ====
section
/-! DEFINITION. What each reset keeps and clears (R196, R409, R453, R454, R456), and the power figures a COMMIT and a
cut-off recompute (R345, R346, R354). -/

namespace Sys2Proof.Machine

/-- Reset kinds (R458): 1 power-on, 2 block, 3 test. Which objects a reset keeps (R453): the supervision and sense objects, the
last reading of each sense input even over a power-on reset, and, over a block reset, the I3C address, ENEC and lengths; what a bay still needs rebuilt is kept over block and test
resets (log 39). -/
def keptObject (kind key : Nat) : Bool :=
  let idx := key / 256
  let sub := key % 256
  (decide (0x7001 ≤ idx) && decide (idx < 0x7007) && (sub == 6 || sub == 7)) ||
  kind != 1 && ((decide (0x7000 ≤ idx) && decide (idx < 0x7007)) || (decide (0x7100 ≤ idx) && decide (idx < 0x7120) && sub == 9)) ||
    kind == 2 && idx == 0x1100 && decide (sub ≤ 4)

/-- A bay after a reset: rediscovered at stage S3, its last inputs and LED kept. -/
def resetBay (y : Bay) : Bay := { Bay.reset with inputs := y.inputs, led := y.led, blank := y.blank }

/-- Everything staged is discarded and ownership freed (R423). -/
def discardStaged (s : State) : State :=
  { s with mgmt := { s.mgmt with staged := [], stagedRecs := [], stagedKeys := [], owner := 0, pendingFrame := none } }

/-- A pending COMMIT is cancelled by a cut-off or a reset (R426). -/
def cancelCommit (s : State) : State :=
  if s.mgmt.pendingFrame.isSome then (discardStaged s).setObj 0x1200 8 4 else s

/-- The logic outside the supervisor and its rails after a reset (R453). A COMMIT that the reset, or the cut-off before it,
cancelled still shows as cancelled (R426; log 45). -/
def resetLogic (kind : Nat) (s : State) : State :=
  let fresh := State.reset
  let objs := s.objs.filter (fun e => keptObject kind e.1)
  let mgmt := if kind = 2 then { Mgmt.reset with hdrMode := s.mgmt.hdrMode, crcSeen := s.mgmt.crcSeen } else Mgmt.reset
  let blk := { Blk.reset with inst := s.blk.inst, dramTest := s.blk.dramTest, scan := s.blk.scan }
  -- what formation wrote, under the key of its time, is content of the modules
  let dists := s.dists.foldl (fun t e => tput t e.1 { District.reset with formatGen := e.2.formatGen } District.reset) []
  let bays := s.bays.foldl (fun t e => tput t e.1 (resetBay e.2) Bay.reset) []
  { fresh with
    pending := s.pending, dram := s.dram, mram := s.mram, dists := dists, bays := bays, sup := s.sup, mgmt := mgmt, blk := blk,
    objs := objs, freeCtr := s.freeCtr }.setObj 0x1200 0x21 kind |>.setObj 0x1200 8 (if (cancelCommit s).obj 0x1200 8 = 4 then 4 else 0)

/-- A start from stage S1 after a block or test reset (R441, R454, R456). -/
def startAtS1 (kind : Nat) (s : State) : State :=
  let s := resetLogic kind s
  { s with blk := { s.blk with st := .resetPhase, stage := 1 }, sup := { s.sup with squall := .idle, parked := false, unlimited := false } }

/-- A start from stage S0 (R336, R352, R441): the supervisor sequences the rails. -/
def startAtS0 (s : State) : State :=
  let s := resetLogic 1 s
  let sup : Sup := { Sup.reset with st := .rampVaa, enVaa := true, senses := s.sup.senses, logSeq := s.sup.logSeq }
  { s with blk := { s.blk with st := .sequencing, stage := 0, dramTest := false }, sup := sup }

/-! ### Power figures -/

/-- A channel counts as trained. -/
def trained (s : State) (c : Nat) : Bool :=
  s.rate c != 0 && (match (s.chan c).st with
    | .untrained | .training | .absent => false
    | _ => true)

def trainedCount (s : State) : Nat := ((List.range 16).filter (trained s)).length

/-- PowerFloor in units of 1/3 840 mW (R346). -/
def powerFloorU (s : State) : Nat :=
  let n := trainedCount s
  3840 * (s.obj 0x7011 7 * n + s.obj 0x7011 8) + n * 2 * s.obj 0x7011 9

def powerFloor (s : State) : Nat := powerFloorU s / 3840

/-- ReserveEnergy in pJ (R345). -/
def reservePj (s : State) : Nat :=
  1148 * s.obj 0x7011 5 + 1148 * 40 * s.obj 0x7011 8 + trainedCount s * s.obj 0x7011 6

/-- Usable energy at a SNS_HOLD pin voltage, nJ (R344); none where HoldCapacitance is 0: unlimited. -/
def holdEnergy (s : State) (pin : Nat) : Option Nat :=
  let c := s.obj 0x7010 4
  let f := s.obj 0x7010 6
  if c = 0 then none
  else
    let v2 := (pin * s.obj 0x7006 0x0A) ^ 2
    let f2 := (f * 65536) ^ 2
    some (c * s.obj 0x7010 5 * (v2 - f2) / (2 * 10 ^ 8 * 65536 ^ 2))

/-- ReservePinVoltage: the pin voltage whose energy is the reserve, rounded up to 1 mV; free where HoldCapacitance is 0. -/
def reservePin (s : State) : Nat :=
  let k := s.obj 0x7010 4 * s.obj 0x7010 5
  let r := s.obj 0x7006 0x0A
  if s.obj 0x7010 4 = 0 || r = 0 then Config.freeNat s.freeCtr % 65536
  else
    let n := cdiv (reservePj s * (2 * 10 ^ 8) * 65536 ^ 2) 1000 + k * (s.obj 0x7010 6 * 65536) ^ 2
    let q := cdiv n (k * r ^ 2)
    min 65535 (if Nat.sqrt q ^ 2 = q then Nat.sqrt q else Nat.sqrt q + 1)

/-- Recompute ReserveEnergy, ReservePinVoltage and PowerFloor (R345, R346). -/
def recomputePower (s : State) : State :=
  let pin := reservePin s
  ((s.tickFree.setObj 0x7010 8 (min (reservePj s / 1000) (2 ^ 32 - 1))).setObj 0x7010 0x0A pin).setObj 0x7030 2 (min (powerFloor s) (2 ^ 32 - 1))

/-- The G pre-budget of a frame, pJ (R354): the calendars' G positions at CapLineEnergy. -/
def gPreBudget (s : State) : Nat := (List.range 16).foldl (fun a c => a + gCount s c) 0 * s.obj 0x7011 0x0A

end Sys2Proof.Machine
end

