-- ==== Sys2Proof/Machine/Supply.lean ====
section
/-! DEFINITION. The Squall drain (R341-R353, R452-R456): the cut-off, the planner, the commit, self-refresh, the save
hand-off and Thaw. -/

namespace Sys2Proof.Machine

/-! ### The planner (R347-R349) -/

/-- A Plaza line that holds an accepted write, or has one waiting on its fill. -/
def holdsWrite (x : PLine) : Bool := match x.st with
  | .dirty | .pinned => true
  | .filling => x.wrote || x.valid != 0 || x.waiting.any (fun a => !a.kind.isRead)
  | .clean => false

/-- Tier 1 or 2 of a line (R347). -/
def lineTier (s : State) (x : PLine) : Nat :=
  let m := (s.dist x.dist).mst
  let role := s.role x.dist
  if role = 1 then
    (if x.twinPending || m == .off || !(m == .inSync || m == .resyncing) then 1 else 2)
  else if role = 2 then (if m == .inSync then 2 else 1)
  else 1

/-- Channels whose lines the planner leaves (R348). -/
def planLeaves (s : State) (c : Nat) : Bool :=
  (s.chan c).st.held || s.sup.vddpCut || (List.range 7).any (fun i => linkFailed s (channelCrossing c) i)

/-- A group: tier, district, page (or the key of a Ledger line), and its lines (channel, line). -/
structure DrainGroup where
  tier : Nat
  dist : Nat
  page : Nat
  lines : List (Nat × Nat)
  deriving DecidableEq, Repr

/-- Add a line to its group. -/
def addToGroup (tier d page c l : Nat) : List DrainGroup → List DrainGroup
  | [] => [{ tier := tier, dist := d, page := page, lines := [(c, l)] }]
  | g :: gs => if g.tier = tier && g.dist == d && g.page == page then { g with lines := g.lines ++ [(c, l)] } :: gs
               else g :: addToGroup tier d page c l gs

/-- The groups of what the persistence domain holds and the planner has not considered yet. -/
def drainGroups (s : State) : List DrainGroup :=
  let meta_ := (s.ledger.filter (fun e => e.2.dirty && !s.sup.touched.contains e.1 && !s.sup.leftMeta.contains e.1)).filterMap (fun e =>
    ((s.chan (e.1 / 2 ^ 40)).dist).map (fun d =>
      ({ tier := 0, dist := d, page := e.1, lines := [(e.1 / 2 ^ 40, e.1 % 2 ^ 40)] } : DrainGroup)))
  let lines := s.plaza.filter (fun e => holdsWrite e.2 && !s.sup.planned.contains (e.1 / 2 ^ 40, e.1 % 2 ^ 40))
  meta_ ++ lines.foldl (fun gs e => addToGroup (lineTier s e.2) e.2.dist (e.2.dline / 64) (e.1 / 2 ^ 40) (e.1 % 2 ^ 40) gs) []

/-- Key of a metadata line in the planner: the Ledger's line key, or above 2^60 a pinned node's. -/
def metaKey (s : State) (d j idx : Nat) : Nat :=
  let x := (s.dist d).desc
  if 3 ≤ j then 2 ^ 60 + pinnedKey d j idx
  else let p := x.place (x.carve.nodeAddr j idx 0) 0; lineKey p.1 p.2

/-- The nodes above an item of level j, up to the root. -/
def chainAbove (s : State) (d j idx : Nat) : List Nat :=
  let x := (s.dist d).desc
  (List.range (x.carve.top - j)).map (fun k => metaKey s d (j + 1 + k) (idx / 64 ^ (k + 1)))

/-- The metadata lines a group makes Dirty, up to the root (R348). -/
def groupMeta (s : State) (g : DrainGroup) : List Nat :=
  let x := (s.dist g.dist).desc
  if x.mode = 2 then []
  else if g.tier = 0 then
    g.page :: (match g.lines.head? with
      | some (c, l) => (match x.regionOf (x.localOf c l) with
        | .counter p => if x.mode = 0 then chainAbove s g.dist 0 p else []
        | .node j idx => chainAbove s g.dist j idx
        | _ => [])
      | none => [])
  else
    let base := [metaKey s g.dist 0 g.page]
    if x.mode = 1 then base
    else
      let macs := (g.lines.map (fun e => x.localOf e.1 e.2 / 64 / 8)).eraseDups
      base ++ macs.map (fun i => let p := x.place (x.carve.macBase + 64 * i) 0; lineKey p.1 p.2) ++ chainAbove s g.dist 0 g.page

/-- Line operations and energy (pJ) of a group, given the metadata lines touched so far (R348). -/
def groupCost (s : State) (touched : List Nat) (g : DrainGroup) : Nat × Nat :=
  let x := (s.dist g.dist).desc
  let e := fun (k : Nat) => s.obj 0x7011 k
  let wb := if x.mode = 2 then e 3 else e 2
  let data := if g.tier = 0 then (0, 0) else g.lines.foldl (fun a q => match s.pline q.1 q.2 with
    | some y => if y.st == .filling || y.wasFilling then (a.1 + 2, a.2 + e 1 + wb) else (a.1 + 1, a.2 + wb)
    | none => a) (0, 0)
  let ms := (groupMeta s g).eraseDups
  let miss := ms.filter (fun k => decide (k < 2 ^ 60) && (tfind s.ledger k).isNone)
  let close := (ms.filter (fun k => !touched.contains k)).foldl (fun n k => n + (if k < 2 ^ 60 then 1 else 3)) 0
  (data.1 + miss.length + close, data.2 + miss.length * e 1 + close * e 4)

/-- The planner's unit: fJ × 3 840 × N_t, in which static energy is whole (R346, R348). -/
def planUnit (s : State) : Nat := 3840 * max 1 (trainedCount s)

def planCost (s : State) (touched : List Nat) (g : DrainGroup) : Nat :=
  let k := groupCost s touched g
  let t := match g.lines.head? with | some (c, _) => s.posPs c | none => 0
  k.2 * 1000 * planUnit s + k.1 * powerFloorU s * t

/-- Energy left to the planner, in its unit; none where the budget is unlimited. -/
def planLeft (s : State) : Option Nat :=
  if s.sup.unlimited then none
  else some ((s.obj 0x7010 7 - s.obj 0x7010 8) * 10 ^ 6 * planUnit s - s.sup.spent)

/-- Plan order: tier, ascending cost per line, district, page. -/
def planBefore (a b : DrainGroup × Nat) : Bool :=
  if a.1.tier != b.1.tier then decide (a.1.tier < b.1.tier)
  else
    let x := a.2 * b.1.lines.length
    let y := b.2 * a.1.lines.length
    if x != y then decide (x < y)
    else if a.1.dist != b.1.dist then decide (a.1.dist < b.1.dist) else decide (a.1.page ≤ b.1.page)

/-- Queue the write-back of a committed line for port 98; a line whose fill is awaited waits for it, its fill going first
(R124, R348). -/
def squallWriteBack (c l : Nat) (s : State) : State :=
  match s.pline c l with
  | some x =>
    let tag := fun (q : List Entry) => q.map (fun e => if e.line == l && !e.wr then { e with port := 98 } else e)
    let drop := fun (q : List Entry) => q.filter (fun e => !(e.line == l && e.wr && e.kind == .writeBack))
    if x.st == .filling then s.modChan c (fun ch => { ch with gRead := tag ch.gRead, gWb := tag ch.gWb, openU := tag ch.openU,
                                                              gate := tag ch.gate, bq := tag ch.bq })
    else if x.st == .dirty && !x.wbGranted then
      let s := s.modChan c (fun ch => { ch with gWb := drop ch.gWb, openU := drop ch.openU, gate := drop ch.gate, bq := drop ch.bq })
      let s := s.setPline c l { x with wbQueued := true }
      let e := mkEntry s l true .writeBack 98 (s.borrowedDeadline 98) (s.stampNow 98)
      queueMetaReads .u e x.dist x.dline (enqueue c .u e s)
    else s
  | none => s

/-- Write a Dirty Ledger line back. -/
def flushKey (k : Nat) (s : State) : State :=
  match tfind s.ledger k with
  | some ln => if ln.dirty then flushLedger false (k / 2 ^ 40) (k % 2 ^ 40) (s.chan (k / 2 ^ 40)).dist s else s
  | none => s

/-- Commit a group: it is drained whole (R348). -/
def commitGroup (g : DrainGroup) (cost : Nat) (s : State) : State :=
  let ms := (groupMeta s g).filter (fun k => !s.sup.touched.contains k)
  let sup := { s.sup with touched := ms.eraseDups ++ s.sup.touched, spent := s.sup.spent + cost,
                          leftMeta := s.sup.leftMeta.filter (fun k => !ms.contains k),
                          drained := tput s.sup.drained g.dist (tget s.sup.drained g.dist 0 + (if g.tier = 0 then 0 else g.lines.length)) 0 }
  let s := { s with sup := sup }
  if g.tier = 0 then flushKey g.page s
  else
    let s := { s with sup := { s.sup with planned := s.sup.planned ++ g.lines, committed := s.sup.committed ++ g.lines } }
    g.lines.foldl (fun t q => squallWriteBack q.1 q.2 t) s

/-- Leave a group (R349). -/
def leaveGroup (g : DrainGroup) (s : State) : State :=
  let n := if g.tier = 0 then 1 else g.lines.length
  let page := if g.tier = 0 then 0 else g.page
  { s with sup := { s.sup with
    left := s.sup.left ++ [(g.tier, g.dist, page, n)]
    planned := if g.tier = 0 then s.sup.planned else s.sup.planned ++ g.lines
    leftMeta := if g.tier = 0 then g.page :: s.sup.leftMeta else s.sup.leftMeta } }

/-- Split a group into the lines whose channels the planner leaves and the others. -/
def splitGroup (s : State) (g : DrainGroup) : List DrainGroup × List DrainGroup :=
  let a := g.lines.filter (fun q => planLeaves s q.1)
  let b := g.lines.filter (fun q => !planLeaves s q.1)
  (if a.isEmpty then [] else [{ g with lines := a }], if b.isEmpty then [] else [{ g with lines := b }])

/-- The planner looks at every group not considered yet, in plan order (R348). -/
def planDrain (s : State) : State :=
  let gs := (drainGroups s).map (splitGroup s)
  let s := (gs.flatMap (·.1)).foldl (fun t g => leaveGroup g t) s
  let plan := isort planBefore ((gs.flatMap (·.2)).map (fun g => (g, planCost s s.sup.touched g)))
  plan.foldl (fun t e =>
    let stop := t.sup.hardStop || (!t.sup.unlimited && decide (t.obj 0x7006 6 ≤ t.obj 0x7010 0x0A))
    if stop then leaveGroup e.1 { t with sup := { t.sup with hardStop := true } }
    else
      let cost := planCost t t.sup.touched e.1
      match planLeft t with
      | none => commitGroup e.1 cost t
      | some n => if cost ≤ n then commitGroup e.1 cost t else leaveGroup e.1 t) s

/-- While draining: lines of committed groups that became Dirty since get their write-back, later writes are planned. -/
def drainStep (s : State) : State :=
  if s.sup.squall != .draining then s
  else
    let s := s.sup.committed.foldl (fun t q => match t.pline q.1 q.2 with
      | some x => if x.st == .dirty && !x.wbQueued && !x.wbGranted then squallWriteBack q.1 q.2 t else t
      | none => t) s
    planDrain s

/-! ### The cut-off (R341, R342) -/

/-- The request of a tag has its response, or one waits for the twin. -/
def answered (s : State) (p tag : Nat) (t : Stamp) : Bool :=
  let q := s.port p
  q.resp.any (fun r => r.tag == tag && r.stamp == t) || q.coming.any (fun b => b.resp.tag == tag && b.resp.stamp == t) ||
    (match q.egress with | some r => r.tag == tag && r.stamp == t | none => false) ||
    s.mirror.waits.any (fun w => w.resp.port == p && w.resp.tag == tag && w.resp.stamp == t)

/-- A line of a read that is still to come will come: its fill or its own operation is granted (R342). -/
def lineComing (s : State) (c l : Nat) : Bool :=
  (match s.pline c l with | some x => x.fillGranted | none => false) ||
    (s.chan c).granted.any (fun e => e.line == l && !e.wr && (match e.kind with | .serve _ _ => false | _ => true))

/-- A read keeps its data at the cut-off (R342): every line is taken, or granted. -/
def readSurvives (s : State) (r : Req) : Bool :=
  match s.gathers.find? (fun g => g.req.stamp == r.stamp) with
  | none => false
  | some g =>
    match s.target r.addr with
    | none => false
    | some (_, _, d, dl) => (List.range g.n).all (fun k =>
        g.parts.any (fun e => e.1 == k) || (let q := (s.dist d).desc.place (64 * (dl + k)) 0; lineComing s q.1 q.2))

/-- Remove every trace of a request on its way to its lines. -/
def withdraw (r : Req) (s : State) : State :=
  let here := fun (a : Access) => a.stamp == r.stamp && a.port == r.port
  let raw := fun (q : List Entry) => q.filter (fun e => !(e.stamp == r.stamp && (match e.kind with | .raw _ _ _ _ => true | _ => false)))
  let s := s.modPort r.port (fun q => { q with ingress := q.ingress.filter (fun x => x.stamp != r.stamp) })
  let s := { s with
    gathers := s.gathers.filter (fun g => g.req.stamp != r.stamp)
    transit := s.transit.filterMap (fun e => let l := e.2.filter (fun x => x.stamp != r.stamp); if l.isEmpty then none else some (e.1, l))
    order := s.order.filterMap (fun e => let l := e.2.filter (fun a => !here a); if l.isEmpty then none else some (e.1, l))
    plaza := s.plaza.map (fun e => (e.1, { e.2 with waiting := e.2.waiting.filter (fun a => !here a) })) }
  forN 16 s (fun c t => if (t.chan c).entries.isEmpty then t else t.modChan c (fun ch =>
    { ch with gRead := raw ch.gRead, openU := raw ch.openU, gate := raw ch.gate, bq := raw ch.bq }))

/-- Reads that cannot complete are answered POWERFAIL (R342). -/
def failReads (s : State) : State :=
  s.ports.foldl (fun t e => e.2.tags.foldl (fun u g =>
    if isRead g.req.cmd && !g.lost && !answered u g.req.port g.tag g.req.stamp && !readSurvives u g.req then
      respond (plainResp g.req 0x33) (withdraw g.req u)
    else u) t) s

/-- Each stream closes its open Data frame and sends it (R342). -/
def closeAllFrames (s : State) : State := forN 16 s (fun k t => if readyFrame t k then closeFrame k t else t)

/-- Forwarded records not yet registered are discarded (R342). -/
def discardForwarded (s : State) : State :=
  forN 16 s (fun k t => if (t.rx k).fwd.isEmpty && (t.rx k).held.isEmpty then t else t.setRx k { (t.rx k) with fwd := [], held := [] })

/-- EnergyAtCutoff, the reserve, and whether the budget is unlimited (R341, R344). -/
def setEnergy (cause : Nat) (s : State) : State :=
  let s := recomputePower s
  match (if cause = 4 then none else holdEnergy s (s.obj 0x7006 6)) with
  | some e => { s with sup := { s.sup with unlimited := false } }.setObj 0x7010 7 (min e (2 ^ 32 - 1))
  | none => { s with sup := { s.sup with unlimited := true } }.setObj 0x7010 7 0

/-- The cut-off cycle (R341, R342): requests of the twin in hand are answered ABSENT; `after` says what follows a cause-4 drain, 0 block reset, 1 test reset, 2 Test. -/
def cutOff (cause input after : Nat) (s : State) : State :=
  let s := cancelCommit (discardForwarded (closeAllFrames s))
  let st := match s.blk.st with
    | .running | .recovery | .config | .thawing => BlockSt.draining
    | x => x
  let s := { s with
    blk := { s.blk with st := st, pend := 0, admission := false, mode := 2 }
    sup := { s.sup with
      squall := .draining, cutoff := s.stampNow 0, after := after, committed := [], planned := [], left := [], leftMeta := [],
      touched := [], drained := [], spent := 0, hardStop := false, failInput := input, words := [], returned := false, parked := false } }
  let s := (((s.setObj 0x7010 2 cause).setObj 0x7010 0x0B 0).setObj 0x7010 9 0).setObj 0x7010 0x0C 0
  let s := ((s.setObj 0x7010 0x0D 0).setObj 0x7010 0x0E 0).raise 0x1E3
  let s := forN 16 s (fun c t => if (t.chan c).burst.isSome || !(t.chan c).bursts.isEmpty then abortBursts c t else t)
  let s := s.mirror.serving.foldl (fun t v => sendAnswer v true t) s
  planDrain (failReads (setEnergy cause s))

/-! ### Step 6: the commit (R349-R351) -/

/-- Ranges of adjacent pages. -/
def pageRuns : List Nat → List (Nat × Nat)
  | [] => []
  | p :: ps => match pageRuns ps with
    | (q, n) :: rest => if q = p + 1 then (p, n + 1) :: rest else if q = p then (q, n) :: rest else (p, 1) :: (q, n) :: rest
    | [] => [(p, 1)]

/-- The stale ranges of a district, Lost ones first (R349). -/
def staleOf (s : State) (d : Nat) : List (Nat × Nat × Bool) :=
  let pages := fun (tier : Nat) => isort (fun a b => decide (a ≤ b))
    ((s.sup.left.filter (fun e => e.1 == tier && e.2.1 == d)).map (fun e => e.2.2.1)).eraseDups
  let lost := pages 1
  let safe := (pages 2).filter (fun p => !lost.contains p)
  (pageRuns lost).map (fun r => (r.1, r.2, true)) ++ (pageRuns safe).map (fun r => (r.1, r.2, false))

/-- The entries of the stale-local list that fit, and the districts whose entries did not. -/
def staleList (s : State) : List Nat × List Nat :=
  (List.range 4).foldl (fun (acc : List Nat × List Nat) d =>
    let ws := (staleOf s d).map (fun r => staleWord d r.1 r.2.1 r.2.2)
    let room := 1024 - acc.1.length
    (acc.1 ++ ws.take room, if room < ws.length then acc.2 ++ [d] else acc.2)) ([], [])

/-- Lines left of a district, and those of tiers 0 and 1. -/
def leftOf (s : State) (d : Nat) : Nat × Nat :=
  let l := s.sup.left.filter (fun e => e.2.1 == d)
  (l.foldl (fun n e => n + e.2.2.2) 0, (l.filter (fun e => decide (e.1 ≤ 1))).foldl (fun n e => n + e.2.2.2) 0)

/-- Every frame of the district's streams is acknowledged, or it is not Lead (R351). -/
def mirrorAcked (s : State) (d : Nat) : Bool :=
  s.role d != 1 || (!(s.unacked.any (fun f => f.dist == d)) &&
    (s.dist d).desc.channels.all (fun c => (s.tx c).open_.isEmpty))

/-- A request that has not reached its slice waits behind a Failed link (R84). -/
def reqBehind (s : State) (r : Req) : Bool :=
  match reqChan s r with
  | none => false
  | some c => if (s.port r.port).ingress.any (fun q => q.stamp == r.stamp) then routeFailed s r.port c else transitBehind s c r

/-- Requests that have not reached their slices. -/
def crossing (s : State) : List Req := s.ports.flatMap (fun e => e.2.ingress) ++ s.transit.flatMap (fun e => e.2)

/-- Districts that what waits behind a Failed link addresses (R84). -/
def stuckDistricts (s : State) : List Nat :=
  (((crossing s).filter (reqBehind s)).filterMap (fun r => (s.target r.addr).map (fun x => x.2.2.1))).eraseDups

/-- At the end of the drain what waits behind a Failed link is lost, with its units (R84). -/
def loseBehind (s : State) : State :=
  ((crossing s).filter (reqBehind s)).foldl (fun t r => dropUnits 0 r.port r.tag (withdraw r t)) s

/-- Flags of a district's block at the commit (R351). Ranges that a plan had still to pull make the next plan a full one (log 53). -/
def commitFlags (s : State) (full : List Nat) (d : Nat) : Nat :=
  let x := s.dist d
  let left := leftOf s d
  let stale := staleOf s d
  (if x.st.hasFormation then 1 else 0) + (if x.desc.mode = 0 && x.rootOk then 2 else 0) + (if left.1 = 0 then 4 else 0) +
    (if mirrorAcked s d then 8 else 0) + (if full.contains d || !x.pull.isEmpty then 16 else 0) +
    (if stale.any (fun r => !r.2.2) then 32 else 0) + (if stale.any (fun r => r.2.2) then 64 else 0)

/-- Words of 8 bytes in which two byte stores differ, ascending, with their new bytes. -/
def wordDiff (a b : List Host.Cell) : List (Nat × List Byte) :=
  let ks := (isort (fun x y => decide (x ≤ y)) ((a ++ b).map (fun e => e.1 / 8))).eraseDups
  (ks.filter (fun k => ldN a (8 * k) 8 != ldN b (8 * k) 8)).map (fun k => (8 * k, ldN b (8 * k) 8))

/-- Write MRAM words in order. -/
def writeWords (ws : List (Nat × List Byte)) (m : List Host.Cell) : List Host.Cell := ws.foldl (fun t w => sbN t w.1 w.2) m

/-- The cursors of R234, R285 and R292 (R350); a district with no plan in progress saves 0 (log 53). -/
def storeCursors (s : State) : State :=
  let s := forN 16 s (fun c t => { t with
    mram := sbNat (sbNat t.mram (scrubCursorAt c) 8 (t.obj (chIdx 0x3002 c) 3)) (rebuildCursorAt c) 8 (t.obj (0x6060 + c) 1) })
  forN 4 s (fun d t => { t with mram := sbNat t.mram (resyncAt d) 8 (if (t.dist d).mst = .resyncing then t.obj (0x6010 + d) 8 else 0) })

/-- The log entry of the Squall (R339). -/
def squallLog (cause : Nat) (s : State) : State :=
  writeFailure 4 s.sup.failInput s.sup.cutoff
    (failureFields s.sup.failInput cause (s.obj 0x7010 7) (s.obj 0x7010 9) (s.obj 0x7010 0x0D) (s.obj 0x7010 0x0E) (s.obj 0x7010 0x0B) s) s

/-- The stages S1 to S7: nothing was accepted yet (R452). -/
def beforeAdmission (s : State) : Bool := decide (s.blk.stage < 8)

/-- DrainResult and the counts of the drain. -/
def reportDrain (tooMany : Bool) (entries : Nat) (s : State) : State :=
  let all := s.sup.left.foldl (fun n e => n + e.2.2.2) 0
  let short := s.sup.left.any (fun e => decide (e.1 ≤ 1))
  let res := (if all = 0 then 1 else 0) + (if s.sup.hardStop then 2 else 0) + (if short then 4 else 0) + (if tooMany then 8 else 0) +
    (if s.sup.vddpCut then 16 else 0)
  let spent := s.sup.spent / (10 ^ 6 * planUnit s)
  let s := (((s.setObj 0x7010 0x0B res).setObj 0x7010 9 (min spent (2 ^ 32 - 1))).setObj 0x7010 0x0D all).setObj 0x7010 0x0E entries
  let s := s.setObj 0x7010 0x0C (s.sup.drained.foldl (fun n e => n + e.2) 0)
  let s := if tooMany then s.raise 0x1E5 else s
  if short then s.raise 0x1E4 else s

/-- Precharge power-down, then self-refresh, on every trained channel (R350). -/
def parkChannels (p : PowSt) (s : State) : State :=
  if s.sup.vddpCut then s else forN 16 s (fun c t => if trained t c then enterPower c p t else t)

/-- Step 6 begins: the words of the commit are made up and written in order, the last at ROOT_COMMIT_COMPLETE. -/
def beginCommit (s : State) : State :=
  let cause := s.obj 0x7010 2
  let s := forN s.ledger.length s (fun i t => match t.ledger[i]? with
    | some e => if e.2.dirty && !t.sup.leftMeta.contains e.1 && !planLeaves t (e.1 / 2 ^ 40) then flushKey e.1 t else t
    | none => t)
  let s := parkChannels .powerDown s
  let m0 := s.mram
  if beforeAdmission s then
    let t := squallLog cause (reportDrain false 0 s)
    { t with mram := m0, sup := { t.sup with squall := .committing, words := wordDiff m0 t.mram } }
  else
    let list := staleList s
    let full := (list.2 ++ stuckDistricts s).eraseDups
    let s := reportDrain (!list.2.isEmpty) list.1.length (loseBehind s)
    let bytes := list.1.flatMap (natLe 8)
    let s1 := { s with mram := sbN s.mram 0x1000 bytes }
    let s2 := storeCursors s1
    let s2 := forN 4 s2 (fun d t => t.modDist d (fun x => { x with flags := commitFlags s full d }))
    let blocks := (List.range 4).map (fun d => districtBlock s2 d (tget s.sup.drained d 0) (leftOf s d).1 (leftOf s d).2)
    let s3 := writeRootSlot cause blocks list.1.length (crc32c bytes) (s.obj 0x7010 7) (s2.obj 0x7010 9) s2
    let s4 := writeVault { s3 with vault := { s3.vault with lastFrame := s.now.frame, marker := false } }
    let s5 := squallLog cause s4
    let ws := wordDiff m0 s1.mram ++ wordDiff s1.mram s2.mram ++ wordDiff s2.mram s3.mram ++ wordDiff s3.mram s4.mram ++
      wordDiff s4.mram s5.mram
    { s5 with mram := m0, sup := { s5.sup with squall := .committing, words := ws } }

/-- Writes still on their way to the Plaza (R342): they take effect under the drain. -/
def writesUnderway (s : State) : Bool :=
  s.order.any (fun e => e.2.any (fun a => !a.kind.isRead && !a.engine)) ||
    (crossing s).any (fun r => isWrite r.cmd && !reqBehind s r)

/-- DRAIN_COMPLETE: every committed operation has completed (R350). -/
def drainComplete (s : State) : State :=
  if s.sup.squall != .draining then s
  else
    let s := drainStep s
    if !s.sup.committed.isEmpty || writesUnderway s || s.chans.any (fun e => e.2.lock.isSome) then s else beginCommit s

def execDrainComplete (s : State) : Out := .next (drainComplete s)

/-- ROOT_COMMIT_COMPLETE: the last word is written, and self-refresh begins (R350, R352). -/
def commitComplete (s : State) : State :=
  if s.sup.squall != .committing then s
  else
    let s := { s with mram := writeWords s.sup.words s.mram, sup := { s.sup with squall := .selfRefresh, words := [] } }
    parkChannels .selfRefresh (s.raise 0x1E6)

def execRootCommitComplete (s : State) : Out := .next (commitComplete s)

/-! ### Steps 7 to 9 (R350, R352) -/

/-- Eligible bays (R350): SaveLineEnable, a module present, restore complete reported since its last save. -/
def eligibleBays (s : State) : List Nat :=
  (List.range 32).filter (fun b => bit (s.obj 0x7020 1) b && (s.moduleAt b).isSome && s.sup.restored.contains b)

/-- SAVE_N goes low on the eligible bays; `note` writes their save flags. -/
def assertSave (note : Bool) (s : State) : State :=
  let bs := eligibleBays s
  let s := s.setObj 0x7020 2 (bs.foldl (fun v b => setBit v b true) (s.obj 0x7020 2))
  let s := if note then bs.foldl (fun t b => setSaveFlag b 2 false (setSaveFlag b 1 true t)) s else s
  { s with sup := { s.sup with restored := s.sup.restored.filter (fun b => !bs.contains b) } }

/-- Step 9: the shutdown of the rails begins. -/
def beginShutdown (s : State) : State :=
  let sup := if s.sup.st = .good then { s.sup with st := .downVddq, enVddq := false } else s.sup
  { s with sup := { sup with squall := .sequencing } }

/-- Steps 8 and 9. -/
def beginSaving (s : State) : State := beginShutdown ((assertSave true s).raise 0x1E8)

/-- A cause of R341 arrives: it starts a Squall, turns a cause-4 drain into its own, whose steps 8 and 9 then run (R455), or
changes nothing. -/
def startSquall (cause input after : Nat) (s : State) : State :=
  if s.sup.squall = .idle || s.sup.squall = .thawing then cutOff cause input after s
  else if s.obj 0x7010 2 != 4 || cause = 4 then s
  else
    let t := (setEnergy cause { s with sup := { s.sup with failInput := input, parked := false } }).setObj 0x7010 2 cause
    if s.sup.squall = .draining then planDrain t
    else if s.sup.parked then beginSaving t
    else if s.sup.squall = .committing || s.sup.squall = .selfRefresh then t
    else s

/-- Entry into Test (R196, R456): the keys cleared, admission closed. -/
def enterTestState (s : State) : State :=
  { s with keys := Keys.reset, blk := { s.blk with st := .test, admission := false },
           sup := { s.sup with squall := .idle, parked := false, unlimited := false } }

/-- What a cause-4 drain was for (R454, R456). -/
def afterDrain (s : State) : State :=
  if s.sup.after = 2 then enterTestState s else startAtS1 (if s.sup.after = 1 then 3 else 2) s

/-- The logic reset of a cause-4 drain begins once every tag accepted before the cut-off is answered at egress or has reached
its deadline (R454). -/
def resetDue (s : State) : State := if s.sup.parked && s.ports.all (fun e => e.2.tags.isEmpty) then afterDrain s else s

/-- SQUALL_SELF_REFRESH_DONE; `vinIn`: SNS_VIN is in its window now. -/
def selfRefreshDone (vinIn : Bool) (s : State) : State :=
  if s.sup.squall != .selfRefresh then s
  else
    let cause := s.obj 0x7010 2
    if cause = 4 then resetDue { s with sup := { s.sup with parked := true } }
    else if cause = 1 && vinIn then
      let s := s.setSense 4 { (s.sense 4) with inWindow := true }
      { s.setObj 0x7005 7 1 with sup := { (s.setObj 0x7005 7 1).sup with squall := .holding } }.raise 0x1E7
    else beginSaving s

def execSquallSelfRefreshDone (vinIn : Bool) (s : State) : Out := .next (selfRefreshDone vinIn s)

/-! ### Thaw (R352, R353) -/

/-- Root slot k of m with an empty stale list. -/
def staleCleared (m : List Host.Cell) (k : Nat) : List Host.Cell :=
  let b := rootBase k
  let body := patch (ldN m b 0x1FC) 0x1A0 (natLe 2 0)
  sbN m b (body ++ natLe 4 (crc32c body))

/-- The StaleCount of the slot in force becomes 0 (R353). -/
def clearStale (s : State) : State :=
  match rootNewest s.mram with
  | some k =>
    { s with mram := staleCleared s.mram k }
  | none => s

/-- Thawing begins (R353): the stale list is dropped, the channels leave self-refresh, the mirror goes on. -/
def beginThaw (s : State) : State :=
  let s := clearStale s
  let s := { s with sup := { s.sup with squall := .thawing }, blk := { s.blk with st := .thawing } }
  forN 16 s (fun c t => if trained t c && (t.chan c).st != .fenced then
      adjustNow c (t.modChan c (fun ch => if ch.pstate == .active then ch else { ch with exiting := some none }))
    else t)

/-- AwaitSave ends: SAVE_N is released and the start begins at S0 (R352). -/
def saveEnds (s : State) : State := startAtS0 (s.setObj 0x7020 2 0)

/-- Every bay with SAVE_N low has reported. -/
def allSaved (s : State) : Bool := (List.range 32).all (fun b => !bit (s.obj 0x7020 2) b || saveFlag s b 2)

/-- Sequencing goes on to AwaitSave, which ends at once where no report is missing. -/
def awaitSave (s : State) : State :=
  if allSaved s then saveEnds s else { s with sup := { s.sup with squall := .awaitSave } }

/-- The rails are down, or VDDQ is stuck: the block is Off, or waits for its saves (R352). -/
def sequencingEnds (s : State) : State :=
  if s.sup.squall = .sequencing && (s.sup.st = .down || s.sup.st = .incomplete) then
    (if s.sup.returned then awaitSave s
     else { s with sup := { s.sup with squall := .idle }, blk := { s.blk with st := .off, admission := false } })
  else s

/-- THAW_QUALIFY: SNS_VIN has been in window for ThawQualify. -/
def thawQualify (s : State) : State :=
  let s := (s.setSense 4 { (s.sense 4) with inWindow := true }).setObj 0x7005 7 1
  let s := { s with sup := { s.sup with returned := true } }
  if s.sup.squall = .holding then beginThaw s else sequencingEnds s

def execThawQualify (s : State) : Out := .next (thawQualify s)

/-- THAW_COMPLETE (R353): the channels are ready, admission reopens, the episode marker is set again. -/
def thawComplete (s : State) : State :=
  let ready := (List.range 16).all (fun c => !trained s c || (s.chan c).st == .fenced || (s.chan c).pstate == .active)
  if s.sup.squall = .thawing && ready then
    let s := { s with sup := { s.sup with squall := .idle, unlimited := false, committed := [], planned := [], left := [],
                                          leftMeta := [], touched := [], drained := [] },
                      blk := { s.blk with st := .running, admission := true } }
    writeVault { s with vault := { s.vault with marker := true } }
  else s

def execThawComplete (s : State) : Out := .next (thawComplete s)

/-! ### Save reports (R350, R352, R366) -/

/-- SAVE_COMPLETE: the bays that report. -/
def saveComplete (bays : Nat) (s : State) : State :=
  let live := match s.sup.squall with
    | .saving | .sequencing | .awaitSave => true
    | _ => false
  if !live then s
  else
    let done := (List.range 32).filter (fun b => bit (s.obj 0x7020 2) b && bit bays b)
    let s := done.foldl (fun t b => (setSaveFlag b 2 true t).setObjBit (0x7100 + b) 8 0 true) s
    if s.sup.squall = .awaitSave && allSaved s then saveEnds s else s

def execSaveComplete (bays : BitVec 32) (s : State) : Out := .next (saveComplete bays.toNat s)

/-- SAVE_COMPLETE_TIMEOUT (R352, R366): the bays that have not reported are flagged. -/
def saveTimeout (s : State) : State :=
  if s.sup.squall != .awaitSave then s
  else
    let late := (List.range 32).filter (fun b => bit (s.obj 0x7020 2) b && !saveFlag s b 2)
    let s := late.foldl (fun t b => (setSaveFlag b 4 true t).raise 0x1F9) s
    saveEnds s

def execSaveCompleteTimeout (s : State) : Out := .next (saveTimeout s)

/-- HOLD_HARD_STOP: SNS_HOLD at or below ReservePinVoltage (R348, R352). -/
def holdStop (mv : Nat) (s : State) : State :=
  let s := s.setObj 0x7006 6 mv
  if mv ≤ s.obj 0x7010 0x0A && s.obj 0x7010 4 != 0 then
    (if s.sup.squall = .draining && !s.sup.unlimited then planDrain { s with sup := { s.sup with hardStop := true } }
     else if s.sup.squall = .holding then beginSaving s
     else s)
  else s

def execHoldHardStop (mv : Nat) (s : State) : Out := .next (holdStop mv s)

/-- COLLAPSE (R343): SAVE_N falls on the eligible bays, no further MRAM word is written; of a commit in progress a free
number of words had been. Everything that VDDC kept is lost at the next power-on reset. -/
def collapse (s : State) : State :=
  let n := Config.freeNat s.freeCtr % (s.sup.words.length + 1)
  let s := assertSave false s
  let sup := { s.sup with squall := .idle, st := .off, enVaa := false, enVddp := false, enVddq := false, words := [] }
  { s.tickFree with mram := writeWords (s.sup.words.take n) s.mram, sup := sup, blk := { s.blk with st := .off, admission := false } }

def execCollapse (s : State) : Out := .next (collapse s)

end Sys2Proof.Machine
end

