-- ==== Sys2Proof/Machine/Sense.lean ====
section
/-! DEFINITION. Sense inputs and rail sequencing (R334-R339, R341, R343, R352). Rails 0, 1, 2 are VAA, VDDP, VDDQ, whose
sense inputs are 1, 2, 3; SNS_VDDC is 0, SNS_VIN 4, SNS_HOLD 5. -/

namespace Sys2Proof.Machine

/-- A pin voltage lies in the window of input i (R334). -/
def inWindow (s : State) (i mv : Nat) : Bool :=
  decide (5 * s.obj (0x7001 + i) 1 ≤ mv) && decide (mv ≤ 5 * s.obj (0x7001 + i) 2)

/-- Record the state of an input. -/
def recordSense (i mv : Nat) (isIn good : Bool) (s : State) : State :=
  ((s.setSense i { inWindow := isIn, good := good }).setObj (0x7001 + i) 6 (min mv 65535)).setObj (0x7001 + i) 7 (if isIn then 1 else 0)

/-! ### The failure log (R339) -/

/-- Write an entry now; while a commit writes its words, the entry follows them. -/
def logFailure (kind input cause : Nat) (s : State) : State :=
  let write := fun (t : State) => writeFailure kind input (t.stampNow 0) (failureFields input cause 0 0 0 0 0 t) t
  if s.sup.squall = .committing then
    let m := writeWords s.sup.words s.mram
    let t := write { s with mram := m }
    { t with mram := s.mram, sup := { t.sup with words := t.sup.words ++ wordDiff m t.mram } }
  else write s

/-! ### Sequencing (R336) -/

/-- The rail being qualified, as its sense input. -/
def qualifying (st : SupSt) : Option Nat := match st with
  | .off => some 0
  | .rampVaa => some 1
  | .rampVddp => some 2
  | .rampVddq => some 3
  | _ => none

/-- Deassert the next enable of a shutdown: VDDQ, then VDDP, then VAA. -/
def dropNext (u : Sup) : Sup :=
  if u.enVddq then { u with enVddq := false } else if u.enVddp then { u with enVddp := false } else { u with enVaa := false }

/-- Aborted: logged, raised, and the shutdown of the rails enabled so far begins. -/
def abortRails (i : Nat) (s : State) : State :=
  let s := (logFailure 2 i 0 s).raise 0x1E1
  { s with sup := dropNext { s.sup with st := .aborted } }

/-- Off with VDDC good: EN_VAA is asserted. -/
def startRails (s : State) : State :=
  if s.sup.st = .off && (s.sense 0).good then { s with sup := { s.sup with st := .rampVaa, enVaa := true } } else s

/-- An input that is good moves power-up sequencing on. -/
def railGood (i : Nat) (s : State) : State :=
  let u := s.sup
  if u.st = .off && i = 0 && s.blk.st = .sequencing then startRails s
  else if u.st = .rampVaa && i = 1 then { s with sup := { u with st := .rampVddp, enVddp := true } }
  else if u.st = .rampVddp && i = 2 then { s with sup := { u with st := .rampVddq, enVddq := true } }
  else if u.st = .rampVddq && i = 3 then
    let s := { s with sup := { u with st := .good } }
    if s.blk.st = .sequencing then let t := endStage 0 s; { t with blk := { t.blk with st := .resetPhase } } else s
  else s

/-- SENSE_QUALIFIED (R335): the input has been in window for QualifyTime. -/
def senseQualified (i mv : Nat) (s : State) : State :=
  if inWindow s i mv then railGood i (recordSense i mv true true s) else recordSense i mv false false s

def execSenseQualified (i : Fin 6) (mv : Nat) (s : State) : Out := .next (senseQualified i mv s)

/-! ### VDDP below 400 mV (R337) -/

/-- Committed lines whose write-back has not happened are left, in their tier (R348). -/
def leaveCommitted (s : State) : State :=
  let gs := s.sup.committed.foldl (fun gs q => match s.pline q.1 q.2 with
    | some x => addToGroup (lineTier s x) x.dist (x.dline / 64) q.1 q.2 gs
    | none => gs) []
  gs.foldl (fun t g => leaveGroup g t) { s with sup := { s.sup with committed := [] } }

/-- VDDP_LOW_CUTOFF: EN_VDDQ is deasserted, and no channel carries a command from now on. -/
def vddpCutoff (s : State) : State :=
  let s := { s with sup := { s.sup with vddpCut := true, enVddq := false } }
  if s.sup.squall = .draining then leaveCommitted s else s

/-! ### Excursions (R334, R335, R338) -/

/-- An excursion of a rail in power-up sequencing: one more ChatterCount, and Aborted at ChatterLimit. -/
def chatter (i : Nat) (s : State) : State :=
  match qualifying s.sup.st with
  | none => s
  | some q =>
    if 3 < i then s
    else
      let n := min 255 (s.obj (0x7001 + i) 8 + 1)
      let s := s.setObj (0x7001 + i) 8 n
      if i = q && s.obj 0x7000 2 ≤ n then abortRails i s else s

/-- What an excursion with SupplyState Good starts (R338, R341, R352). -/
def goodExcursion (i : Nat) (s : State) : State :=
  if s.blk.st = .test || !(1 ≤ i && i ≤ 4) then s
  else if i = 4 && s.sup.squall = .holding then beginSaving s
  else
    let cause := if i = 4 then 1 else 2
    if s.obj 0x7010 3 = 0 then logFailure 4 i cause (s.raise 0x1E3)
    else startSquall cause i 0 s

/-- SENSE_EXCURSION (R334): the input is out of window. Below its low threshold VDDC has collapsed, and no MRAM word is
written any more (R343). VDDP read below 400 mV drops EN_VDDQ (R337). -/
def senseExcursion (i mv : Nat) (s : State) : State :=
  let s := (recordSense i mv false false s).addObj (0x7001 + i) 9 1
  let s := if i = 4 then { s with sup := { s.sup with returned := false } } else s
  let s := s.raise (if i = 5 then 0x1EB else 0x1E0)
  if i = 0 && decide (mv < 5 * s.obj 0x7001 1) then collapse s
  else
    let s := if i = 2 && decide (mv < 400) then vddpCutoff s else s
    let s := if s.sup.firstLogged then s else logFailure 1 i 0 { s with sup := { s.sup with firstLogged := true } }
    if s.sup.st = .good then goodExcursion i s else chatter i s

def execSenseExcursion (i : Fin 6) (mv : Nat) (s : State) : Out := .next (senseExcursion i mv s)

/-! ### Timers and discharge (R336) -/

/-- RAMP_TIMEOUT. -/
def rampTimeout (s : State) : State :=
  match s.sup.st with
  | .rampVaa => abortRails 1 s
  | .rampVddp => abortRails 2 s
  | .rampVddq => abortRails 3 s
  | _ => s

def execRampTimeout (s : State) : Out := .next (rampTimeout s)

/-- The shutdown waits for this rail to discharge. -/
def awaitsDischarge (u : Sup) (rail : Nat) : Bool := match u.st with
  | .downVddq | .incomplete => rail == 2
  | .downVddp => rail == 1
  | .downVaa => rail == 0
  | .aborted => (rail == 2 && !u.enVddq && u.enVddp) || (rail == 1 && !u.enVddq && !u.enVddp && u.enVaa)
  | _ => false

/-- The next row of the shutdown after this rail. -/
def nextRail (u : Sup) (rail : Nat) : Sup :=
  if u.st = .aborted then dropNext u
  else if rail = 2 then { u with st := .downVddp, enVddp := false }
  else if rail = 1 then { u with st := .downVaa, enVaa := false }
  else { u with st := .down }

/-- RAIL_DISCHARGED. -/
def railDischarged (rail : Nat) (s : State) : State :=
  if awaitsDischarge s.sup rail then sequencingEnds { s with sup := nextRail s.sup rail } else s

def execRailDischarged (rail : Fin 3) (s : State) : Out := .next (railDischarged rail s)

/-- DISCHARGE_TIMEOUT: RailStuck; only a stuck VDDQ holds the sequence. -/
def dischargeTimeout (rail : Nat) (s : State) : State :=
  if awaitsDischarge s.sup rail && s.sup.st != .incomplete then
    let s := ((logFailure 3 (rail + 1) 0 s).setObjBit 0x7000 5 (rail + 1) true).raise 0x1E2
    if rail = 2 then sequencingEnds (if s.sup.st = .downVddq then { s with sup := { s.sup with st := .incomplete } } else s)
    else sequencingEnds { s with sup := nextRail s.sup rail }
  else s

def execDischargeTimeout (rail : Fin 3) (s : State) : Out := .next (dischargeTimeout rail s)

/-- A write of SupplyCommand (R336): Retry, in Aborted only. -/
def supplyCommand (v : Nat) (s : State) : State × Nat :=
  if v != 1 then (s, 7)
  else if s.sup.st != .aborted then (s, 6)
  else
    let s := forN 6 s (fun i t => t.setObj (0x7001 + i) 8 0)
    (startRails { s with sup := { s.sup with st := .off } }, 0)

def execVddpLowCutoff (s : State) : Out := .next (vddpCutoff s)

end Sys2Proof.Machine
end

