-- ==== Sys2Proof/Machine/MgmtOps.lean ====
section
/-! DEFINITION. What a write of an event, snapshot, sampling, claim, memory access or translation object does (R183-R187,
R383, R386, R387, R395, R398, R438, R439). Each operation answers the state and the result code of R415. -/

namespace Sys2Proof.Machine

/-! ### Events (R383, R386, R387) -/

/-- The event number of an index, where it is a source's. -/
def sourceAt (idx : Nat) : Nat := idx - 0x8000

/-- Bytes of PendingSummary: bit n is EventPending of source n (R402). -/
def pendingBytes (s : State) : List Byte := natLe 64 ((pendingSources s).foldl (fun a n => a + 2 ^ n) 0)

/-- A write of bytes of PendingSummary from an offset on: 0 clears a source's pending bit, 1 leaves it (R383). -/
def writeSummary (off : Nat) (bs : List Byte) (s : State) : State :=
  (pendingSources s).foldl (fun t n =>
    if off ≤ n / 8 && n / 8 < off + bs.length && !(bit (bs.getD (n / 8 - off) 0).toNat (n % 8)) then clearPending n t else t) s

/-- A read of EventQueueRead: the entry at the read pointer, which advances. An empty queue gives the last entry read and
sets the Underrun bit; what is read before any entry was is a free value (R183, R386). -/
def readEventQueue (s : State) : State × List Byte :=
  match s.ev.queue[s.ev.rd]? with
  | some e => ({ s with ev := { s.ev with rd := s.ev.rd + 1, last := some e } }, evBytes e)
  | none =>
    let t := s.setObj 0x5102 0x32 1
    match s.ev.last with
    | some e => (t, evBytes e)
    | none => (t.tickFree, natLe 16 (Config.freeNat s.freeCtr))

/-- A write of EventQueueControl (R183): 1 mark, 2 rewind, 3 release. -/
def eventControl (v : Nat) (s : State) : State × Nat :=
  let e := s.ev
  if v = 1 then ({ s with ev := { e with mark := e.rd } }, 0)
  else if v = 2 then ({ s with ev := { e with rd := e.mark } }, 0)
  else if v = 3 then ({ s with ev := { e with queue := e.queue.drop e.mark, rd := e.rd - e.mark, mark := 0 } }, 0)
  else (s, 7)

/-- A write of EventLogClear (R387). -/
def clearEventLog (v : Nat) (s : State) : State × Nat :=
  if v = 1 then ({ s with mram := sbN s.mram logBase (List.replicate 2048 0) }, 0) else (s, 0)

/-! ### Snapshots (R395) -/

/-- Frames from now to frame f, when f lies ahead (R8). -/
def framesAhead (s : State) (f : Nat) : Nat := (f + frameMod - s.now.frame % frameMod) % frameMod

/-- A write of SnapshotAtFrame: f must lie ahead by at most 2^20 frames. -/
def armSnapshot (f : Nat) (s : State) : State × Nat :=
  let n := framesAhead s f
  if 0 < n && n ≤ 2 ^ 20 then
    ({ s with mgmt := { s.mgmt with snapArmed := some f } }.setObj 0x9010 1 f |>.setObj 0x9010 2 1, 0)
  else (s, 7)

/-- Every counter object copies to its shadow (R395). -/
def counterObjs (s : State) : Tbl Nat :=
  s.objs.filter (fun e => match objRow (e.1 / 256) (e.1 % 256) with | some r => r.counts | none => false)

/-- The armed snapshot is taken. -/
def takeSnapshot (skipped : Bool) (s : State) : State :=
  match s.mgmt.snapArmed with
  | none => s
  | some f =>
    let s := { s with shadowObjs := counterObjs s, mgmt := { s.mgmt with snapArmed := none } }
    let s := ((s.setObj 0x9010 2 2).setObj 0x9010 3 f).setObj 0x9010 4 ((s.obj 0x9010 4 + 1) % 2 ^ 32)
    (s.setObj 0x9010 5 (if skipped then 1 else 0)).raise 0x016

/-! ### Sampling (R398) -/

/-- A write of SamplingEnable: sampling claims the capture store, or releases it. -/
def enableSampling (v : Nat) (s : State) : State × Nat :=
  if v = s.obj 0x9020 1 then (s, 0)
  else if v = 1 then
    let r := claim 1 2 (s.setObj 0x9020 1 1)
    (r.1.setObj 0x9020 2 (if r.2 then 1 else 3), 0)
  else (releaseOwn 1 2 ((s.setObj 0x9020 1 0).setObj 0x9020 2 0), 0)

/-- A write of SampleReleaseIndex: within the span from the present value to SampleWriteIndex, modulo 4 096. -/
def releaseSamples (v : Nat) (s : State) : State × Nat :=
  let rel := s.obj 0x9020 4
  let ahead := (v + 4096 - rel % 4096) % 4096
  if v < 4096 && ahead ≤ samplesHeld s then
    let t := s.setObj 0x9020 4 v
    (if s.obj 0x9020 2 = 4 && 0 < ahead then t.setObj 0x9020 2 1 else t, 0)
  else (s, 7)

/-- SamplingState as it reads: Suspended while a freeze dump holds the capture store (R186, R398). -/
def samplingState (s : State) : Nat :=
  let v := s.obj 0x9020 2
  if s.obj 0x9020 1 = 1 && s.obj 0x2F00 1 == 3 && (v == 1 || v == 4) then 2 else v

/-! ### Claims by management (R184-R187) -/

/-- The channel of a sampler path's claim. -/
def pathChannel (sub : Nat) : Nat := (sub - 0x20) / 10

/-- What happens when a resource is free again: sampling and live calibration claim what they use. -/
def resourceFree (sub : Nat) (s : State) : State :=
  if sub = 1 then reclaimCapture s
  else if 0x20 ≤ sub && s.obj (calIdx (pathChannel sub)) 1 = 3 then s.setObj 0x2F00 sub 8
  else s

/-- A management write to a claims object (R185-R187): 1 claims, 0 releases. Management may write 0 to the claims of
holders 1, 2 and 8, and, to release a freeze dump, to the capture store's holder 3 (log 40). -/
def writeClaim (sub v : Nat) (s : State) : State × Nat :=
  let h := s.obj 0x2F00 sub
  if 1 < v then (s, 7)
  else if v = 1 then (if h = 0 then (s.setObj 0x2F00 sub 1, 0) else (s.addObj 0x2F00 0xC0 1, 9))
  else if h = 0 then (s, 0)
  else if h = 1 || (h = 3 && sub = 1) then
    (let s := resourceFree sub (s.setObj 0x2F00 sub 0)
     if 0x10 ≤ sub && sub < 0x20 then stopHelper (sub - 0x10) s else s, 0)
  else if h = 2 || h = 8 then (s.setObj 0x2F00 sub 0, 0)
  else (s, 9)

/-! ### Memory access from port 100 (R438) -/

/-- The window's request is under way. -/
def memBusy (s : State) : Bool := s.obj 0x1220 5 == 1

/-- A write of MemGo: one request from port 100 (R438). -/
def memGo (v : Nat) (s : State) : State × Nat :=
  if memBusy s then (s, 10)
  else if v = 0 then (s, 0)
  else
    let cmd := s.obj 0x1220 1
    let n := s.obj 0x1220 3
    let data := if cmd = 0x10 then (List.range n).map (fun k => bytesBv 512 (s.recN 0x1220 8 (64 * k) 64)) else []
    (issue 100 (mkHeader cmd 0 n (s.obj 0x1220 2) false false 0 0) data (s.setObj 0x1220 5 1), 0)

/-! ### Translation (R439) -/

/-- The values of a translation: result, domain, channel, line, bay. -/
def translated (s : State) (a : Nat) : Option (Nat × Nat × Nat × Nat × Nat) :=
  let of := fun (res d l : Nat) =>
    let q := (s.dist d).desc.placeAny l
    (res, d * 2 ^ 62 + l, q.1, q.2, 2 * q.1 + (s.coordOf q.1 q.2).pos)
  match s.decode a with
  | .data d l => some (of 0 d l)
  | .window d l => some (of 1 d l)
  | _ => none

/-- A write of TranslateAddress. Where no formed district holds the address, the channel, line and bay are free values. -/
def translate (a : Nat) (s : State) : State × Nat :=
  match translated s a with
  | some (r, dom, c, l, b) =>
    (((((s.setObj 0x1230 2 r).setObj 0x1230 3 dom).setObj 0x1230 4 c).setObj 0x1230 5 l).setObj 0x1230 6 b, 0)
  | none =>
    let f := fun k => Config.freeNat (s.freeCtr + k)
    let t := ((((s.setObj 0x1230 2 2).setObj 0x1230 3 0).setObj 0x1230 4 (f 0 % 16)).setObj 0x1230 5 (f 1 % 2 ^ 64)).setObj 0x1230 6 (f 2 % 32)
    (((t.tickFree).tickFree).tickFree, 0)

/-! ### Rights and locks (R53, R420) -/

/-- A write of LinkRightsConfig from a link (R420). -/
def linkRights (link v : Nat) (s : State) : State × Nat :=
  if link = 1 then (s, 4)
  else if s.blk.st != .resetPhase then (s, 6)
  else if s.mgmt.locked then (s, 11)
  else
    let a := bits v 1 0
    let b := bits v 9 8
    if (a = 3 || b = 3) && Config.productionFuse then (s, 7)
    else (({ s with mgmt := { s.mgmt with locked := true } }.setObj 0x1100 5 a).setObj 0x1100 6 b |>.setObj 0x1100 8 1, 0)

/-- Ports with a profile of their own: 0 to 95 and 100 (R53). -/
def hasProfile (p : Nat) : Bool := decide (p < 96) || p == 100

/-- A write of ProfileLock (R53). -/
def lockProfile (p v : Nat) (s : State) : State × Nat :=
  if v = 0 then (s, 0)
  else ({ s with mgmt := { s.mgmt with profiles := sortedInsert (fun a b => decide (a ≤ b)) p s.mgmt.profiles } }.setObj (0x2300 + p) 1 1, 0)

/-! ### Block commands (R437, R441, R454, R456) -/

/-- Running or Recovery (R441). -/
def inService (s : State) : Bool := s.blk.st == .running || s.blk.st == .recovery

/-- The test reset: at once from Test, else after a drain (R456). -/
def testResetNow (s : State) : State :=
  if s.blk.st = .test then startAtS1 3 s
  else if inService s || s.blk.st == .config then startSquall 4 255 1 s
  else s

/-- A write of BlockCommand, its rights checked already (R437, R441). -/
def blockCommand (v : Nat) (s : State) : State × Nat :=
  match v with
  | 1 => if inService s then ({ s with blk := { s.blk with pend := 1 } }, 0) else (s, 6)
  | 2 =>
    if s.blk.st != .config then (s, 6)
    else if s.mgmt.pendingFrame.isSome then (s, 10)
    else ({ s with blk := { s.blk with pend := 2 } }, 0)
  | 3 => if inService s || s.blk.st == .config then (startSquall 4 255 0 s, 0) else (s, 6)
  | 4 => if inService s || s.blk.st == .config || s.blk.st == .test then (testResetNow s, 0) else (s, 6)
  | 5 => if s.blk.st == .config then (startSquall 4 255 2 s, 0) else (s, 6)
  | _ => (s, 7)

end Sys2Proof.Machine
end

