-- ==== Sys2Proof/Machine/TestOps.lean ====
section
/-! DEFINITION. Boundary scan, the test selections and error injection (R461-R467). -/

namespace Sys2Proof.Machine

/-! ### Boundary scan (R461, R462) -/

/-- BYPASS. -/
def execBypass (s : State) : Out := .next { s with blk := { s.blk with scan := 0 } }

/-- SAMPLE/PRELOAD: the cells sample, the pins stay functional. -/
def execSamplePreload (s : State) : Out := .next { s with blk := { s.blk with scan := 1 } }

/-- EXTEST: takes the pins in Test, a DRAM test mode where it drives a DRAM pin; outside Test it is blocked (R462). -/
def extest (drivesDram : Bool) (s : State) : State :=
  let s := { s with blk := { s.blk with scan := 2 } }
  if s.blk.st = .test then { s with blk := { s.blk with dramTest := s.blk.dramTest || drivesDram } }
  else s.setObj 0xB000 8 1

def execExtest (drivesDram : Bool) (s : State) : Out := .next (extest drivesDram s)

/-! ### Tests (R463, R464) -/

/-- Test n may start in this state. -/
def testAllowed (s : State) (n : Nat) : Bool :=
  match n with
  | 3 => !(s.blk.st == .draining || s.blk.st == .thawing)
  | 4 => s.blk.st == .test && !Config.productionFuse
  | 1 | 2 | 5 | 6 => s.blk.st == .test
  | _ => false

/-- What the modules of the channels in the mask hold is lost (R463). -/
def loseChannels (mask : Nat) (s : State) : State :=
  { s with dram := s.dram.filter (fun e => !bit mask (e.1 / 2 ^ 40)) } |> forN 32 (f := fun b t =>
    if bit mask (b / 2) then t.modBay b (fun y => { y with blank := true }) else t)

/-- Every on-chip store is emptied (R463, test 2): Plaza, Ledger, ingress and response buffers, queues, the capture and
pattern stores. -/
def emptyStores (s : State) : State :=
  let ports : Tbl Port := s.ports.filterMap (fun (e : Nat × Port) =>
    let q : Port := { e.2 with ingress := [], coming := [], resp := [], bridge := [], egress := none, egressLeft := 0, out := [], tags := [] }
    if q = Port.reset e.1 then none else some (e.1, q))
  let s := { s with
    plaza := [], plazaLru := [], ledger := [], ledgerLru := [], pinned := [], order := [], transit := [], gathers := [], samples := [],
    mirror := { s.mirror with replay := [], waits := [] }
    ports := ports
    ev := { s.ev with queue := [], staging := [], rd := 0, mark := 0 } }
  (s.clearRec 0x9020 7).clearRec 0xA0F0 1 |>.clearRec 0xA0F0 2

/-- The effect a test has on what the block holds. -/
def testEffect (n : Nat) (s : State) : State :=
  match n with
  | 1 => loseChannels (s.obj 0xB000 4) { s with blk := { s.blk with dramTest := true } }
  | 2 => emptyStores s
  | 4 => { s with mram := [] }
  | 5 => runLoops true s
  | 6 => runLoops false s
  | _ => s

/-- A write of TestGo (R463). -/
def testGo (v : Nat) (s : State) : State × Nat :=
  if v = 0 then (s, 0)
  else if s.blk.test != 0 then (s.setObj 0xB000 3 4, 10)
  else
    let n := s.obj 0xB000 1
    if testAllowed s n then
      (testEffect n { s.setObj 0xB000 3 1 with blk := { s.blk with test := n } }, 0)
    else (s.setObj 0xB000 3 4, 6)

/-- A number of n bytes of a findings record. -/
def findAt (bs : List Byte) (o n : Nat) : Nat := leNat ((bs.drop o).take n)

/-- The findings of a test fail it (R464): any bit or count, or a loopback port that got fewer frames than it sent. -/
def findingsFail (n portMask : Nat) (bs : List Byte) : Bool :=
  if n = 5 || n = 6 then
    (List.range 16).any (fun k => bit portMask k &&
      (findAt bs (12 * k + 8) 4 != 0 || findAt bs (12 * k) 4 != findAt bs (12 * k + 4) 4))
  else bs.any (fun b => b != 0)

/-- The findings of a test: of a loopback the frames counted at each port, of another what its hardware reports (R464). -/
def findingsOf (s : State) (bs : List Byte) : List Byte :=
  if s.blk.test = 5 || s.blk.test = 6 then
    fit 256 ((List.range 16).flatMap (fun k =>
      let r := tget s.blk.loops k (0, 0, 0)
      natLe 4 r.1 ++ natLe 4 r.2.1 ++ natLe 4 r.2.2))
  else fit 256 bs

/-- TEST_COMPLETE: the running test ends in Pass or Fail, its findings in TestResult. -/
def testComplete (bs : List Byte) (s : State) : State :=
  let n := s.blk.test
  if n = 0 then s
  else
    let found := findingsOf s bs
    let s := (s.clearRec 0xB000 7).setRec 0xB000 7 0 found
    { s.setObj 0xB000 3 (if findingsFail n (s.obj 0xB000 5) found then 3 else 2) with blk := { s.blk with test := 0 } }

def execTestComplete (findings : List (BitVec 8)) (s : State) : Out := .next (testComplete findings s)

/-! ### Error injection (R466) -/

/-- Disarm: InjectKind 0 is written. -/
def injectOff (s : State) : State :=
  match s.blk.inj with
  | some (k, _) =>
    let s := { s with blk := { s.blk with inj := none } }
    let s := if k = 1 || k = 2 then releaseOwn 2 6 s else s
    s.setObj 0xB001 8 0
  | none => s

/-- A write of InjectKind. -/
def injectKind (v : Nat) (s : State) : State × Nat :=
  if 5 < v then (s, 7)
  else
    let s := s.setObj 0xB001 1 v
    if v = 0 then (injectOff s, 0) else (s, 0)

/-- States that accept an injection (R466). -/
def injectAllowed (s : State) : Bool := match s.blk.st with
  | .running | .recovery | .config | .test => true
  | _ => false

/-- A write of InjectGo (R466): arms the kind in InjectKind; kinds 1 and 2 claim the pattern store as holder 6. An
injection armed before is replaced. -/
def injectGo (v : Nat) (s : State) : State × Nat :=
  if v = 0 then (s, 0)
  else if !injectAllowed s then (s.setObj 0xB001 8 3, 6)
  else
    let k := s.obj 0xB001 1
    if k = 0 then (s, 0)
    else
      let s := injectOff s
      let r := if k = 1 || k = 2 then claim 2 6 s else (s, true)
      if r.2 then ({ r.1 with blk := { r.1.blk with inj := some (k, r.1.obj 0xB001 6) } }.setObj 0xB001 8 1, 0)
      else (r.1.setObj 0xB001 8 4, 0)

/-- One core cycle of an armed kind 3 injection: the queue InjectQueue names mismatches (R182, R466). Of a channel its
queue InjectUnit / 256 is taken. -/
def injectCycle (s : State) : State :=
  if injectArmed s 3 then
    let q := s.obj 0xB001 3
    if 1 ≤ q && q ≤ 5 then
      let u := s.obj 0xB001 4
      pointerMismatch (q - 1) (if q = 3 then u % 256 else u) (u / 256) (injectFired s)
    else s
  else s

end Sys2Proof.Machine
end

