-- ==== Sys2Proof/Machine/Commit.lean ====
section
/-! DEFINITION. Staging and COMMIT (R30, R36, R79-R81, R100, R111, R138, R146, R165, R258, R389, R421-R426, R473): the
configuration that would be in force, its checks, and what happens when it takes effect. -/

namespace Sys2Proof.Machine

/-! ### The configuration that would be in force -/

/-- Copy a RECORD object's cells from another store. -/
def installRec (src : List Host.Cell) (k : Nat) (s : State) : State :=
  let s := s.clearRec (k / 256) (k % 256)
  { s with recs := (src.filter (fun e => e.1 / 2 ^ 20 == k)).foldl (fun m e => sb m e.1 e.2) s.recs }

/-- The active values overlaid with the staged ones (R424). -/
def withStaged (s : State) : State :=
  let objs := s.mgmt.staged.foldl (fun (t : Tbl Nat) (e : Nat × Nat) => tput t e.1 e.2 (objDefault (e.1 / 256) (e.1 % 256))) s.objs
  s.mgmt.stagedKeys.foldl (fun t k => installRec s.mgmt.stagedRecs k t) { s with objs := objs }

/-- A configuration with every shadow calendar taken for the one in force, as the checks of R30 read it. -/
def shadowCalendars (s : State) : State := forN 16 s (fun c t => copyRec (arbIdx c) 0x10 0x11 t)

/-- A key of staged or stored objects is of a page (any unit). -/
def keyPage (k : Nat) : Nat := (pageOf (k / 256)).1
def keyUnit (k : Nat) : Nat := (pageOf (k / 256)).2

/-- A shadow slot table is staged; a shadow calendar is staged. -/
def stagesTables (s : State) : Bool := s.mgmt.stagedKeys.any (fun k => keyPage k == 0x4000)
def stagesCalendar (s : State) : Bool := s.mgmt.stagedKeys.any (fun k => keyPage k == 0x3020)

/-! ### The chains of R78 and R79 -/

/-- The continuation value of a run's first entry. -/
def contValue (v : Nat) : Nat := v + 2 ^ 30

/-- A run is whole at an output: a length of 1 to 5, and its later entries follow it (R77). -/
def runWhole (t : State) (x o e : Nat) : Bool :=
  let v := slotEntry t x 0x10 o e
  let l := bits v 28 26
  decide (1 ≤ l) && decide (l ≤ 5) && (List.range (l - 1)).all (fun k => slotEntry t x 0x10 o ((e + k + 1) % 64) == contValue v)

/-- Every entry of an output belongs to one run (R79): the runs are whole, and they hold as many entries as are valid. -/
def tableClean (t : State) (x o : Nat) : Bool :=
  let starts := (List.range 64).filter (fun e => let v := slotEntry t x 0x10 o e; bit v 31 && !bit v 30)
  let valid := ((List.range 64).filter (fun e => bit (slotEntry t x 0x10 o e) 31)).length
  starts.all (runWhole t x o) && starts.foldl (fun a e => a + bits (slotEntry t x 0x10 o e) 28 26) 0 == valid

/-- No entry of any output belongs to two runs (R79). -/
def allClean (t : State) : Bool := (List.range 64).all (fun x => (List.range 7).all (tableClean t x))

/-- The largest cyclic gap between run starts. -/
def chainGap (starts : List Nat) : Nat :=
  match starts with
  | [] => 64
  | a :: _ => ((starts.zip (starts.drop 1 ++ [a + 64])).map (fun (g : Nat × Nat) => g.2 - g.1)).foldl max 0

/-- One flow of port p and channel c conforms to R78 and R79 in the shadow tables. Its runs are all of one length, the flow's
RunLength (DEDUCED, log 82). -/
def flowOk (t : State) (p c net : Nat) : Bool :=
  match portAt p with
  | none => false
  | some (src, lp) =>
    let hops := if net = 0 then route src (channelCrossing c) 0 else route (channelCrossing c) src lp
    match hops with
    | [] => false
    | (x0, o0) :: _ =>
      let runs := flowRuns t 0x10 x0 o0 net p c
      let l := runs.foldl (fun m (e : Nat × Nat) => min m e.2) 7
      let h := hops.length - 1
      !runs.isEmpty && runs.all (fun e => e.2 == l) && decide (chainGap (runs.map (·.1)) - 1 + (l - 1) + 2 * h + 8 ≤ 48) &&
        (List.range hops.length).all (fun j =>
          let q := hops.getD j (0, 0)
          runs.all (fun e => slotEntry t q.1 0x10 q.2 ((e.1 + 2 * j) % 64) == slotEntry t x0 0x10 o0 e.1))

/-! ### The checks of Forecast (R30 and the bits other chapters add) -/

/-- G positions of a slot. -/
def slotPositions (cal : List (Nat × Nat × Nat)) (t : Nat) : Nat :=
  cal.foldl (fun a (e : Nat × Nat × Nat) => if e.1 = t then a + e.2.1 else a) 0

/-- A lock fits between consecutive G positions (R30 bit 5): from the end of a slot's last G position to the next slot
that holds one there are at least 352 ns (DEDUCED, log 46). -/
def locksFit (v : State) (c : Nat) (cal : List (Nat × Nat × Nat)) : Bool :=
  let slots := (List.range 192).filter (fun t => slotPositions cal t != 0)
  match slots with
  | [] => true
  | a :: _ => (slots.zip (slots.drop 1 ++ [a + 192])).all (fun (g : Nat × Nat) =>
      decide (352000 + slotPositions cal g.1 * v.posPs c ≤ (g.2 - g.1) * 20000))

/-- Bits 0, 1, 2, 3, 5, 6 and 12 of one channel's calendar. -/
def calendarReject (v : State) (c : Nat) : Nat :=
  let cal := v.calendar c
  let ports := ((cal.map (fun (e : Nat × Nat × Nat) => e.2.2)).eraseDups).filter (fun p => v.obj (0x2200 + p) 1 == 0)
  let b0 := cal.any (fun e => decide (v.obj 0x2000 4 * v.pSlot c < 100 * slotPositions cal e.1))
  let b1 := cal.any (fun e => v.inRefresh c true e.1)
  let b2 := cal.any (fun e => decide ((e.1 + 192 - v.gateStart c % 192) % 192 < v.obj (arbIdx c) 4))
  let b3 := !ports.isEmpty && (!allClean v || ports.any (fun p => !(flowOk v p c 0 && flowOk v p c 1)))
  let b5 := v.obj (0x2040 + c) 5 == 1 && !locksFit v c cal
  let b6 := ports.any (fun p => decide (192 < spanOf (portSlots v c p) 4))
  let b12 := cal.any (fun e => decide (191 < e.1) || e.2.1 == 0 || decide (24 < e.2.1) || decide (96 ≤ e.2.2) || v.obj (0x2200 + e.2.2) 1 != 0)
  (if b0 then 1 else 0) ||| (if b1 then 2 else 0) ||| (if b2 then 4 else 0) ||| (if b3 then 8 else 0) |||
    (if b5 then 32 else 0) ||| (if b6 then 64 else 0) ||| (if b12 then 2 ^ 12 else 0)

/-- A CreditSplit breaks R70. -/
def splitBad (v : Nat) : Bool :=
  let q := splitSizes v
  q.any (fun n => decide (n < 5) || decide (32 < n)) || decide (64 < q.foldl (· + ·) 0)

/-- Bit 14 for a channel (R138): a changed timing object below its default, or a rate its modules do not allow. -/
def timingReject (s t : State) (c : Nat) : Bool :=
  let i := timIdx c
  let ms := timedModules s c
  let rate := t.obj i 1
  let low := (timingDefaults ms rate).any (fun e => t.obj i e.1 != s.obj i e.1 && decide (t.obj i e.1 < e.2))
  let kinds := match ms with
    | m :: _ => kindRates m.kind
    | [] => rdimmRates ++ mrdimmRates
  let bad := rate != s.obj i 1 && !kinds.contains rate
  t.obj i 0x23 == 0 && (low || bad)

/-- Bit 15 (R258): a role other than Off is staged, and no link keys are held. -/
def roleReject (s : State) : Bool :=
  s.keys.links.isNone && s.mgmt.staged.any (fun e => keyPage e.1 == 0x6010 && e.1 % 256 == 1 && e.2 != 0)

/-- ForecastRejectReason of the configuration t that a COMMIT in s would put in force. -/
def forecastReject (s t : State) : Nat :=
  let v := shadowCalendars t
  let cals := (List.range 16).foldl (fun a c => a ||| calendarReject v c) 0
  let gs := (List.range 16).foldl (fun a c => a + gCount v c) 0
  let b4 := decide (t.obj 0x7030 1 * 3840 < gs * t.obj 0x7011 0x0A + powerFloorU t)
  let b7 := decide (4 < ((List.range 96).filter (fun p => t.obj (0x2200 + p) 9 == 1)).length)
  let b8 := (List.range 64).any (fun x => (List.range 7).any (fun o =>
    decide (48 < ((List.range 64).filter (fun e => bit (slotEntry t x 0x10 o e) 31)).length)))
  let b9 := s.mgmt.staged.any (fun e => keyPage e.1 == 0x4000 && e.1 % 256 == 7 && splitBad e.2)
  let b10 := stagesTables s && s.obj 0x2000 7 == 1
  let b11 := (List.range 4).any (fun d => districtReject s t d != 0)
  let b13 := stagesCalendar s && !(pendingCalendars s).isEmpty
  let b14 := (List.range 16).any (timingReject s t)
  cals ||| (if b4 then 16 else 0) ||| (if b7 then 2 ^ 7 else 0) ||| (if b8 then 2 ^ 8 else 0) ||| (if b9 then 2 ^ 9 else 0) |||
    (if b10 then 2 ^ 10 else 0) ||| (if b11 then 2 ^ 11 else 0) ||| (if b13 then 2 ^ 13 else 0) |||
    (if b14 then 2 ^ 14 else 0) ||| (if roleReject s then 2 ^ 15 else 0)

/-- DistrictRejectReason: the bits of every district. -/
def districtReasons (s t : State) : Nat := (List.range 4).foldl (fun a d => a ||| districtReject s t d) 0

/-! ### Counter selections (R389-R392) and related ranges (R473) -/

/-- A CounterSelect value is acceptable on its page. -/
def selectOk (page v : Nat) : Bool :=
  let q := bits v 11 8
  let k := v % 256
  if bit v 15 then !reservedSource (v % 512)
  else if page = 0x3060 then decide (q ≤ 2) && (decide (k ≤ 0x1E) || (decide (0x20 ≤ k) && decide (k ≤ 0x27)))
  else if page = 0x2200 then q == 0 && decide (k ≤ 0x0F)
  else decide (q ≤ 7) && decide (k ≤ 8)

/-- Objects that select what a counter counts. -/
def isSelect (page sub : Nat) : Bool :=
  (page == 0x3060 && decide (1 ≤ sub) && decide (sub ≤ 8)) || (page == 0x2200 && decide (0x40 ≤ sub) && decide (sub ≤ 0x43)) ||
    (page == 0x4000 && decide (0x30 ≤ sub) && decide (sub ≤ 0x31))

/-- Bit 0 of CounterRejectReason. -/
def counterReject (s : State) : Bool :=
  s.mgmt.staged.any (fun e => isSelect (keyPage e.1) (e.1 % 256) && !selectOk (keyPage e.1) e.2)

/-- A relation between two frame-staged objects is broken (R473). -/
def relationBad (t : State) : Bool :=
  (List.range 16).any (fun c => decide (t.obj (arbIdx c) 5 < t.obj (arbIdx c) 4) ||
    decide (t.obj (chIdx 0x3012 c) 3 ≤ t.obj (chIdx 0x3012 c) 4))

/-- The Detail of a COMMIT's refusal; 0 accepts it (R424). -/
def commitReasons (s t : State) : Nat :=
  forecastReject s t + (if counterReject s then 2 ^ 16 else 0) + (if relationBad t then 2 ^ 17 else 0)

/-! ### Taking effect (R35, R36, R80, R81, R100, R111, R126) -/

/-- What is outstanding at a port. -/
def portBusy (q : Port) : Bool := !q.tags.isEmpty

/-- A committed class change (R36): at once where nothing is outstanding, else pending. A port whose PortClass is 1 is of
class U whatever its Privileged says (DESIGN CHOICE, log 80). -/
def classEffect (p : Nat) (s : State) : State :=
  let want := Cls.ofCode (s.obj (0x2200 + p) 1)
  let q := s.port p
  if q.cls = want then s.setObj (0x2200 + p) 0x0F 0
  else if portBusy q then s.setObj (0x2200 + p) 0x0F 1
  else (s.setPort p { q with cls := want }).setObj (0x2200 + p) 0x0F 0

/-- Objects a COMMIT staged on a page: their keys. -/
def stagedOn (s : State) (page : Nat) : List Nat := (s.mgmt.staged.filter (fun e => keyPage e.1 == page)).map (·.1)

/-- The effect of one staged object beyond its value: a shaper's tokens (R34), a counter's selection (R388), RefreshSlot
(R146), the power states that are disabled (R155), the open allowance. -/
def stagedEffect (s0 : State) (k v : Nat) (s : State) : State :=
  let page := keyPage k
  let u := keyUnit k
  let sub := k % 256
  let same := s0.obj (k / 256) sub == v
  if page = 0x2200 && (sub = 7 || sub = 8) && !same then s.modPort u (fun q => { q with tokens := 0 })
  else if isSelect page sub && !same then
    s.setObj (k / 256) (if page = 0x3060 then sub + 0x10 else sub + 8) 0
  else if page = 0x3011 && sub = 1 && !same then s.modChan u (fun ch => { ch with bothSets := true })
  else if page = 0x3013 && sub = 2 then powerDisabled u s
  else s

/-- A commit changes a district's role or, in Conflict, its TwinDistrict or TwinPeerId (R283). -/
def mirrorChange (s t : State) (d : Nat) : Bool :=
  s.role d != t.role d || ((t.dist d).mst == .conflict && (s.twinOf d != t.twinOf d || s.obj 0x6000 0x10 != t.obj 0x6000 0x10))

/-- Everything staged takes effect together (R424). A rights value staged before ProfileLock was written takes effect too
(DESIGN CHOICE, log 81). -/
def applyCommit (s0 : State) : State :=
  let s := withStaged s0
  let staged := s0.mgmt.staged
  let keys := s0.mgmt.stagedKeys
  let s := staged.foldl (fun t e => stagedEffect s0 e.1 e.2 t) s
  let s := forN 112 s (fun p t =>
    if Cls.ofCode (t.obj (0x2200 + p) 1) = (t.port p).cls && t.obj (0x2200 + p) 0x0F = 0 then t else classEffect p t)
  let s := if stagesTables s0 then s.setObj 0x2000 7 1 else s
  let s := keys.foldl (fun t k => if keyPage k = 0x3020 then t.setObj (arbIdx (keyUnit k)) 1 1 else t) s
  let s := if staged.any (fun e => keyPage e.1 == 0x4000 && e.1 % 256 == 7) then splitEffect s else s
  let s := forN 4 s (fun d t => applyDistrict s0 d t)
  let s := forN 4 s (fun d t => if mirrorChange s0 t d then roleEffect d t else t)
  let s := recomputePower (discardStaged s)
  ((s.setObj 0x1200 7 s.now.frame).setObj 0x1200 8 1).addObj 0x1200 9 1

/-- A COMMIT that is pending takes effect at frame f or at the skip over it (R12, R424, R425). -/
def commitDue (s : State) : Bool :=
  match s.mgmt.pendingFrame with
  | some f => serialLe frameMod f s.now.frame
  | none => false

def commitBoundary (s : State) : State := if commitDue s then applyCommit s else s

/-! ### COMMIT, ABORT and the idle timeout (R422-R425) -/

/-- Staging belongs to the other link. -/
def stagedByOther (s : State) (link : Nat) : Bool := s.mgmt.owner != 0 && s.mgmt.owner != link + 1

/-- Some staged object is writable only in Config. -/
def stagesRwc (s : State) : Bool :=
  s.mgmt.staged.any (fun e => match objRow (e.1 / 256) (e.1 % 256) with
    | some r => r.acc == 3
    | none => false)

/-- Objects staged. -/
def stagedCount (s : State) : Nat := s.mgmt.staged.length + s.mgmt.stagedKeys.length

/-- The link that holds staging after a frame-staged write or a COMMIT. -/
def ownStaging (link : Nat) (s : State) : State := { s with mgmt := { s.mgmt with owner := link + 1 } }

/-- Validate, and accept or refuse (R424): the result and Detail. ReformEnable clears either way (R100). -/
def commitNow (link target : Nat) (s : State) : State × Nat × Nat :=
  let t := withStaged s
  let why := commitReasons s t
  let s := (s.setObj 0x2000 5 (if why % 2 ^ 16 = 0 then 0 else 1)).setObj 0x2000 6 (why % 2 ^ 16)
  let s := ((s.setObj 0x21F0 2 (districtReasons s t)).setObj 0x9000 0x0C (bits why 16 16)).setObj 0x21F0 1 0
  if why = 0 then
    let s := if s.mgmt.owner = 0 then ownStaging link s else s
    ({ s with mgmt := { s.mgmt with pendingFrame := some target } }.setObj 0x1200 6 target, 0, target % 2 ^ 32)
  else (s.setObj 0x1200 8 2, 0x0C, why)

/-- COMMIT from a link (R422, R424, R425): target is the FRAME it names, if any. -/
def commitCmd (link : Nat) (target : Option Nat) (s : State) : State × Nat × Nat :=
  if s.mgmt.pendingFrame.isSome || stagedByOther s link then (s, 0x0A, 0)
  else if stagesRwc s && s.blk.st != .config then (s, 6, 0)
  else
    match target with
    | none => commitNow link ((s.now.frame + 1) % frameMod) s
    | some f =>
      let n := framesAhead s f
      if f < frameMod && 16 ≤ n && n ≤ 2 ^ 20 then commitNow link f s else (s, 7, 0)

/-- ABORT from a link whose level is given (R422, R423). -/
def abortCmd (link level : Nat) (s : State) : State × Nat × Nat :=
  if stagedByOther s link && level < 2 then (s, 0x0A, 0)
  else
    let n := stagedCount s
    let t := discardStaged s
    (if s.mgmt.pendingFrame.isSome then t.setObj 0x1200 8 3 else t, 0, n)

/-- STAGING_IDLE_TIMEOUT: the owner has been idle for StagingIdleTimeout, with no COMMIT pending (R422). -/
def stagingIdle (s : State) : State :=
  if s.mgmt.owner = 0 || s.mgmt.pendingFrame.isSome then s else (discardStaged s).addObj 0x1200 0x0B 1

def execStagingIdleTimeout (s : State) : Out := .next (stagingIdle s)

/-- CLASS_CHANGE_EFFECT: at a frame boundary, the first at which the port has nothing outstanding (R36). -/
def execClassChangeEffect (port : Fin 112) (s : State) : Out :=
  .next (if s.obj (0x2200 + port) 0x0F = 1 && atBoundary s then classEffect port s else s)

end Sys2Proof.Machine
end

