-- ==== Sys2Proof/Machine/Dictionary.lean ====
section
/-! DEFINITION. Reading and writing the objects of the dictionary (R5, R39, R53, R183, R388, R396, R405, R415-R422, R427,
R433-R440, R473). -/

namespace Sys2Proof.Machine

/-! ### Access and rights (R39, R53, R418, R419) -/

/-- Objects that are read-only whatever their table says: the profiles of ports 96 to 99 and 101 to 111, and Privileged of
the internal ports. -/
def fixedObject (idx sub : Nat) : Bool :=
  (decide (0x2360 ≤ idx) && decide (idx < 0x2370) && idx != 0x2364) ||
    (decide (0x2260 ≤ idx) && decide (idx < 0x2270) && sub == 9)

/-- 0 RO, 1 RW, 2 WO, 3 RWC. -/
def accessOf (idx sub : Nat) (r : ObjRow) : Nat := if fixedObject idx sub then 0 else r.acc

/-- The level a write of v needs (R419): BlockCommand 4 and 5 need Factory. -/
def levelOf (idx sub v : Nat) (r : ObjRow) : Nat := if idx = 0x1200 && sub = 2 && (v = 4 || v = 5) then 3 else r.lvl

/-- The rights level of a link (R420). -/
def State.level (s : State) (link : Nat) : Nat := s.obj 0x1100 (5 + link)

/-! ### Values that follow from the state (R38, R39, R129, R138, R434, R437, R440) -/

/-- A fraction in units of 1/65 536, as a U16 (R38): floored, and a whole one shows 65 535 (DESIGN CHOICE, log 79). -/
def fraction16 (a : Nat × Nat) : Nat := if a.2 = 0 then 0 else min 65535 (a.1 * 65536 / a.2)

def boolNat (b : Bool) : Nat := if b then 1 else 0

/-- Plaza lines of a slice that a test accepts. -/
def plazaCount (s : State) (sl : Nat) (hit : PLine → Bool) : Nat := (s.plaza.filter (fun e => e.2.slice == sl && hit e.2)).length

/-- Pinned lines of channel c, those that other slices lend it included (R176, R188). -/
def pinnedLines (s : State) (c : Nat) : Nat := (s.plaza.filter (fun e => e.1 / 2 ^ 40 == c && e.2.st == .pinned)).length

/-- Entries of the repair table in use (R256). -/
def repairUsed (s : State) : Nat := (s.repair.filter (fun e => e.2.state != 0)).length

/-- Bytes of the pinned part of slice c (R177): nodes of levels 3 to T of its Sealed district with copy 0 on its channel. -/
def pinnedNodeBytes (s : State) (c : Nat) : Nat :=
  match s.descOf c with
  | none => 0
  | some (_, x) =>
    let v := x.carve
    if x.mode != 0 then 0
    else 64 * (List.range (v.top - 2)).foldl (fun a i =>
      a + ((List.range (v.nodes (3 + i))).filter (fun k => (x.place (v.nodeAddr (3 + i) k 0) 0).1 == c)).length) 0

/-- EffectiveCap in mW (R355): the cap of the thermal step, never below PowerFloor and the G pre-budget. -/
def effectiveCap (s : State) : Nat :=
  let cap := s.obj 0x7030 1
  let least := cdiv (powerFloorU s + gPreBudget s) 3840
  let step := s.obj 0x7030 4
  if step = 0 then cap else if step = 3 then least else max least (cap - 10000 * step)

/-- Values of the block, cadence and Forecast pages. -/
def blockValue (s : State) (page u sub : Nat) : Option Nat :=
  if page = 0x1000 then
    (if sub = 1 then some (provisionedId s) else if sub = 4 then some (Config.siliconStep % 256)
     else if sub = 5 then some (Config.serialHigh % 2 ^ 8 * 2 ^ 32 + Config.serialLow % 2 ^ 32)
     else if sub = 6 then some (s.blk.inst % 16) else if sub = 8 then some (objectCount % 2 ^ 16) else none)
  else if page = 0x1200 then
    (if sub = 1 then some s.blk.st.code else if sub = 3 then some s.mgmt.owner else if sub = 4 then some (min 65535 (stagedCount s))
     else if sub = 5 then some (boolNat s.mgmt.pendingFrame.isSome) else if sub = 6 then some (s.mgmt.pendingFrame.getD 0)
     else if sub = 0x20 then some s.blk.stage else none)
  else if page = 0x1300 then
    (if sub = 1 then some s.cad.st.code else if sub = 2 then some s.now.frame else if sub = 3 then some (s.stampNow 100).word
     else if sub = 5 then some (if s.cad.st = .slewing then s.cad.d.natAbs else 0) else none)
  else if page = 0x2040 then
    (if sub = 1 then some (fraction16 (availB s u)) else if sub = 2 then some (fraction16 (availU s u))
     else if sub = 3 then some (backlogBAll s u) else if sub = 4 then some (activeWeight s u none) else none)
  else if page = 0x2100 then (if sub = 1 then some (s.dist u).st.code else none)
  else if page = 0x2200 then
    (if sub = 0x0C then some (s.port u).tags.length
     else if 0x20 ≤ sub && sub ≤ 0x2F then some (gBound s (sub - 0x20) u 1)
     else if 0x30 ≤ sub && sub ≤ 0x3F then some (gBound s (sub - 0x30) u 4) else none)
  else none

/-- Values of the channel pages. -/
def channelValue (s : State) (page c sub : Nat) : Option Nat :=
  if page = 0x3000 then
    (if sub = 1 then some (s.chan c).st.code else if sub = 2 then some ((s.chan c).dist.getD 0xFF) else none)
  else if page = 0x3001 then
    (if 0x10 ≤ sub && sub ≤ 0x1F then some ((s.erasedDevice c ((sub - 0x10) / 8) (sub % 8)).getD 0xFF) else none)
  else if page = 0x3002 then (if sub = 2 then some (scrubInterval s c) else none)
  else if page = 0x3010 then
    (if sub = 4 then some (if s.rate c = 0 then 0 else 2 * 10 ^ 9 / s.rate c)
     else if sub = 6 then some (s.obj (timIdx c) 5 - 2) else if sub = 0x24 then some (decisionLead s c) else none)
  else if page = 0x3011 then
    (if sub = 2 then some (s.refreshK c) else if sub = 3 then some (boolNat (s.obj (chIdx 0x3011 c) 3 == 1 || s.cad.skipDouble))
     else none)
  else if page = 0x3013 then
    (if sub = 1 then some (s.chan c).pstate.code else if sub = 4 then some (latencyOf s c .powerDown)
     else if sub = 5 then some (latencyOf s c .selfRefresh) else if sub = 6 then some (latencyOf s c .deepSelfRefresh) else none)
  else if page = 0x3020 then
    (if sub = 2 then some (s.pSlot c) else if sub = 9 then some (s.arbMode c) else none)
  else if page = 0x3040 then
    (if sub = 1 then some (calState s c) else if sub = 9 then some (ofSigned 16 (calTemp s c)) else none)
  else if page = 0x3080 then (if sub = 0x0B then some (pinnedBytes s c) else none)
  else none

/-- Values of the stores, the mirror, supervision, bays, events and sampling. -/
def storeValue (s : State) (page u sub : Nat) : Option Nat :=
  if page = 0x5000 then
    (if sub = 7 then some (boolNat Config.productionFuse) else if sub = 8 then some (boolNat Config.secretFused) else none)
  else if page = 0x5100 then
    (if 0x10 ≤ sub && sub ≤ 0x1F then some (plazaCount s (sub - 0x10) (fun x => x.st == .dirty || x.st == .filling))
     else if 0x20 ≤ sub && sub ≤ 0x2F then some (pinnedLines s (sub - 0x20))
     else if 0x30 ≤ sub && sub ≤ 0x3F then some (plazaCount s (sub - 0x30) (fun x => x.twinPending)) else none)
  else if page = 0x5101 then
    (if 0x10 ≤ sub && sub ≤ 0x1F then some (s.ledger.filter (fun e => e.1 / 2 ^ 40 == sub - 0x10 && e.2.dirty)).length
     else if 0x20 ≤ sub && sub ≤ 0x2F then some (pinnedNodeBytes s (sub - 0x20)) else none)
  else if page = 0x5104 then (if sub = 1 then some (repairUsed s) else none)
  else if page = 0x6000 then (if sub = 0x0F then some (replayUsed s) else none)
  else if page = 0x6010 then (if sub = 3 then some (s.dist u).mst.code else none)
  else if page = 0x7000 then (if sub = 1 then some s.sup.st.code else none)
  else if page = 0x7010 then (if sub = 1 then some s.sup.squall.code else none)
  else if page = 0x7030 then
    (if sub = 3 then some (effectiveCap s) else if sub = 0x0A then some (min (s.sup.budget / 1000) (2 ^ 32 - 1)) else none)
  else if page = 0x7100 then
    (if sub = 1 then some (s.bay u).st.code else if sub = 2 then some (s.bay u).inputs else if sub = 3 then some (ledState (s.bay u))
     else if sub = 6 then some (match (s.bay u).module with | some m => m.serial | none => 0)
     else if sub = 7 then some (match (s.bay u).module with | some m => moduleGeometry m | none => 0) else none)
  else if page = 0x9000 then
    (if sub = 1 then some (boolNat s.ev.evtLow) else if sub = 5 then some s.ev.queue.length else none)
  else if page = 0x9020 then (if sub = 2 then some (samplingState s) else none)
  else none

/-- The active value of a non-RECORD object. -/
def objValue (s : State) (idx sub : Nat) : Nat :=
  let pu := pageOf idx
  match blockValue s pu.1 pu.2 sub with
  | some v => v
  | none =>
    match channelValue s pu.1 pu.2 sub with
    | some v => v
    | none => (storeValue s pu.1 pu.2 sub).getD (s.obj idx sub)

/-- FormatProgress while Formatting: how far formatting has come is not part of this model, so it reads a free value of at
most the district's granules (log 47). -/
def formatting (s : State) (idx sub : Nat) : Bool :=
  decide (0x2100 ≤ idx) && decide (idx < 0x2104) && sub == 0x0D && (s.dist (idx - 0x2100)).st == .formatting

def formatProgress (s : State) (d : Nat) : Nat :=
  let x := (s.dist d).desc
  Config.freeNat s.freeCtr % ((if x.granule = 0 then 0 else x.span / x.granule) + 1)

/-- A read of a non-RECORD object on a link: its staged value, its shadow, or its active value (R396, R418). -/
def readObject (link idx sub : Nat) (r : ObjRow) (shadow : Bool) (s : State) : State × Nat :=
  let k := objKey idx sub
  if formatting s idx sub then (s.tickFree, formatProgress s (idx - 0x2100))
  else if shadow && r.staged && (tfind s.mgmt.staged k).isSome then (s, tget s.mgmt.staged k 0)
  else if r.linkOwn then (s, boolNat (s.link link).shadow)
  else if r.counts && (s.link link).shadow then (s, tget s.shadowObjs k 0)
  else (s, objValue s idx sub)

/-! ### Records -/

/-- Bytes of the directory entry of an object (R435). -/
def directoryEntry (o : Nat × Nat × ObjRow) : List Byte :=
  let r := o.2.2
  let acc := accessOf o.1 o.2.1 r
  natLe 2 o.1 ++ natLe 1 o.2.1 ++ natLe 1 r.ty ++ natLe 1 acc ++ natLe 1 (r.fl % 8) ++
    natLe 1 (if acc = 0 then 0xFF else r.lvl) ++ natLe 1 0 ++
    natLe 4 (if o.1 = 0x1000 && o.2.1 = 0x10 then 16 * objectCount else r.size) ++ natLe 4 0

/-- Bytes of the directory from an offset on. -/
def directoryBytes (off n : Nat) : List Byte :=
  ((((allObjects.drop (off / 16)).take (n / 16 + 2)).flatMap directoryEntry).drop (off % 16)).take n

/-- The size of a RECORD object. -/
def recordSize (idx sub : Nat) (r : ObjRow) : Nat := if idx = 0x1000 && sub = 0x10 then 16 * objectCount else r.size

/-- DeviceErrorCounts of channel c (R253). -/
def deviceCountBytes (s : State) (c : Nat) : List Byte :=
  (List.range 16).flatMap (fun k => (List.range 10).flatMap (fun dev => natLe 2 (tget (s.chan c).devCounts (devKey (k / 8) (k % 8) dev) 0)))

/-- The bytes of the repair table (R248). -/
def repairBytes (s : State) : List Byte := (List.range 256).flatMap (fun e => (s.repairAt e).bytes)

/-- Active bytes of a RECORD object. -/
def recordBytes (s : State) (idx sub off n : Nat) : List Byte :=
  let pu := pageOf idx
  if idx = 0x1000 then directoryBytes off n
  else if pu.1 = 0x3001 then ((deviceCountBytes s pu.2).drop off).take n
  else if pu.1 = 0x3040 && sub = 0x22 then ldN s.mram (trimAt pu.2 + off) n
  else if idx = 0x5104 then ((repairBytes s).drop off).take n
  else if idx = 0x7040 then ldN s.mram (failBase 0 + off) n
  else if idx = 0x9000 && sub = 2 then ((pendingBytes s).drop off).take n
  else if idx = 0x9000 && sub = 6 then ldN s.mram (logBase + off) n
  else if idx = 0xA0F0 && sub = 2 then ldN s.recs (captureBase + off) n
  else s.recN idx sub off n

/-- A READ_BLOCK: reading EventQueueRead moves the read pointer (R386). -/
def readRecord (idx sub off n : Nat) (shadow : Bool) (s : State) : State × List Byte :=
  let k := objKey idx sub
  if idx = 0x9000 && sub = 3 then
    let r := readEventQueue s
    (r.1, (r.2.drop off).take n)
  else if shadow && s.mgmt.stagedKeys.contains k then (s, ldN s.mgmt.stagedRecs (recAddr idx sub off) n)
  else (s, recordBytes s idx sub off n)

/-! ### Writes (R415, R421, R422, R427) -/

/-- Draining or Thawing (R427). -/
def drains (s : State) : Bool := s.blk.st == .draining || s.blk.st == .thawing

/-- Objects whose writes only clear bits (R64, R87, R331, R402). -/
def clearsOnly (page sub : Nat) : Bool :=
  (page == 0x2200 && sub == 0x11) || (page == 0x4000 && sub == 1) || (page == 0x3040 && sub == 0x1B)

/-- Writes that R427 lets through while the block drains or thaws. -/
def drainAllows (page sub v : Nat) (s : State) : Bool :=
  clearsOnly page sub || (page == 0x8000 && sub == 5 && v == 0) || (page == 0x9000 && (sub == 2 || sub == 4)) ||
    (page == 0x9010 && sub == 6) || (page == 0x9020 && sub == 4) ||
    (page == 0x2F00 && v == 0 && (s.obj 0x2F00 sub ≤ 3 || s.obj 0x2F00 sub == 8))

/-- The other object of an Immediate pair would be left outside its relation (R334, R473). -/
def pairBroken (s : State) (page idx sub v : Nat) : Bool :=
  if page = 0x3011 && sub = 5 then decide (v ≤ s.obj idx 6)
  else if page = 0x3011 && sub = 6 then decide (s.obj idx 5 ≤ v)
  else if page = 0x7001 && sub = 1 then decide (s.obj idx 2 ≤ v)
  else if page = 0x7001 && sub = 2 then decide (v ≤ s.obj idx 1)
  else page == 0x1220 && sub == 3 && s.obj 0x1220 1 == 2 && decide (2 < v)

/-- Objects whose write is an operation: the block's and the ports'. -/
def blockHook (link idx sub v : Nat) (s : State) : Option (State × Nat) :=
  if idx = 0x1100 then some (linkRights link v s)
  else if idx = 0x1200 && sub = 2 then some (blockCommand v s)
  else if idx = 0x1220 && sub = 4 then some (memGo v s)
  else if idx = 0x1220 && memBusy s then some (s, 10)
  else if idx = 0x1230 then some (translate v s)
  else if 0x2300 ≤ idx && idx < 0x2370 && sub = 1 then some (lockProfile (idx - 0x2300) v s)
  else if idx = 0x2F00 then some (writeClaim sub v s)
  else none

/-- Those of the channels. `hint`: what the modules or the check answer (R310, R312). -/
def channelHook (hint : Bool) (page c sub v : Nat) (s : State) : Option (State × Nat) :=
  if page = 0x3001 && 0x10 ≤ sub then some (eraseWrite c (sub - 0x10) v s, 0)
  else if page = 0x3040 && sub = 6 then some (trainRequest c v s)
  else if page = 0x3040 && sub = 7 then some (trainingDone c v hint s)
  else if page = 0x3040 && sub = 0x1A then some (calRunRequest c v s)
  else if page = 0x3040 && sub = 0x1C then some (eyeScanRequest c v s)
  else if page = 0x3080 && sub = 0x10 then some (thawAction c v s)
  else if page = 0x3080 && sub = 0x15 then some (freezeRequest c v s)
  else if page = 0xA000 && sub = 1 then some (helperStart c v hint s)
  else none

/-- Those of the keys, the mirror, the supplies, the bays, the events, snapshots, sampling and test. -/
def unitHook (link page u idx sub v : Nat) (s : State) : Option (State × Nat) :=
  if idx = 0x5000 && sub = 9 then some (keyAdopt v s)
  else if page = 0x6010 && sub = 6 then some (mirrorCommand u v s)
  else if idx = 0x7000 && sub = 4 then some (supplyCommand v s)
  else if page = 0x7100 && sub = 4 then some (bayCommand u v s)
  else if page = 0x8000 && sub = 5 then some (clearPending u s, 0)
  else if page = 0x8000 && sub ≤ 3 then some (evtSync (s.setObj idx sub v), 0)
  else if idx = 0x9000 && sub = 4 then some (eventControl v s)
  else if idx = 0x9000 && sub = 7 then some (clearEventLog v s)
  else if idx = 0x9010 && sub = 1 then some (armSnapshot v s)
  else if idx = 0x9010 && sub = 6 then some (s.setLink link { s.link link with shadow := v == 1 }, 0)
  else if idx = 0x9020 && sub = 1 then some (enableSampling v s)
  else if idx = 0x9020 && sub = 4 then some (releaseSamples v s)
  else if idx = 0xB000 && sub = 2 then some (testGo v s)
  else if idx = 0xB001 && sub = 1 then some (injectKind v s)
  else if idx = 0xB001 && sub = 7 then some (injectGo v s)
  else none

/-- An Immediate object takes its value (R421): an operation, bits cleared, or the value stored. -/
def writeNow (hint : Bool) (link idx sub v : Nat) (s : State) : State × Nat :=
  let pu := pageOf idx
  if pairBroken s pu.1 idx sub v then (s, 7)
  else
    match blockHook link idx sub v s with
    | some r => r
    | none =>
      match channelHook hint pu.1 pu.2 sub v s with
      | some r => r
      | none =>
        match unitHook link pu.1 pu.2 idx sub v s with
        | some r => r
        | none => (s.setObj idx sub (if clearsOnly pu.1 sub then s.obj idx sub &&& v else v), 0)

/-- Staging is not open to the link: a COMMIT is pending, or the other link owns it (R422, R424). -/
def stagingClosed (s : State) (link : Nat) : Bool := s.mgmt.pendingFrame.isSome || stagedByOther s link

/-- A frame-staged write goes to the shadow (R421, R422). -/
def stageValue (link idx sub v : Nat) (s : State) : State × Nat :=
  if stagingClosed s link then (s, 10)
  else (ownStaging link { s with mgmt := { s.mgmt with staged := tins s.mgmt.staged (objKey idx sub) v } }, 0)

/-- CounterSelect values with a reserved bit set are refused at the write (R5, R389). -/
def selectReserved (v : Nat) : Bool := bits v 14 12 != 0 || (bit v 15 && bits v 11 9 != 0)

/-- The value is one the object accepts (R417). -/
def valueOk (idx sub v : Nat) (r : ObjRow) : Bool :=
  r.typeOk v && r.rng.has v && !(isSelect (pageOf idx).1 sub && selectReserved v)

/-- The refusal of a write of v by a link, before the object's own rule (R415, R418-R420, R427); 0 where there is none. -/
def writeRefusal (link idx sub v : Nat) (r : ObjRow) (s : State) : Nat :=
  let page := (pageOf idx).1
  let acc := accessOf idx sub r
  if acc = 0 then 4
  else if idx = 0x1100 then (if valueOk idx sub v r || link = 1 || s.blk.st != .resetPhase || s.mgmt.locked then 0 else 7)
  else if s.level link < levelOf idx sub v r then 5
  else if page = 0x2300 && s.obj idx 1 == 1 then 11
  else if drains s && !drainAllows page sub v s then 6
  else if acc = 3 && s.blk.st != .config then 6
  else if !valueOk idx sub v r then 7
  else 0

/-- A write of a non-RECORD object by a link. -/
def writeObject (hint : Bool) (link idx sub v : Nat) (r : ObjRow) (s : State) : State × Nat :=
  let e := writeRefusal link idx sub v r s
  if e != 0 then (s, e)
  else if r.staged then stageValue link idx sub v s
  else writeNow hint link idx sub v s

/-! ### Writes of records -/

/-- Reserved bits of a byte of ShadowTrims (R326, R329): two common blocks, then two halves of a point block. Of a delay only
bits [11:0] are used. -/
def trimReserved (o : Nat) : Nat :=
  if o < 816 then (if o % 408 = 6 || o % 408 = 7 then 0xFF else 0)
  else
    let q := (o - 816) % 112
    if (0x2D ≤ q && q < 0x30) || 0x6C ≤ q then 0xFF else if 0x30 ≤ q && q % 2 = 1 then 0xF0 else 0

/-- Reserved bits of the byte at offset o of a calendar or slot-table entry or of a trim set (R77, R110, R326). -/
def reservedBits (page o : Nat) : Nat :=
  if page = 0x3040 then trimReserved o
  else if page = 0x3020 then [0x80, 0x07, 0x00, 0x7F].getD (o % 4) 0
  else if page = 0x4000 then [0x00, 0xF8, 0xFF, 0x03].getD (o % 4) 0
  else 0

def recordValueOk (page off : Nat) (bs : List Byte) : Bool :=
  (List.range bs.length).all (fun i => (bs.getD i 0).toNat &&& reservedBits page (off + i) == 0)

/-- Stage bytes of a RECORD object; its other bytes keep their active content. -/
def stageRecord (link idx sub off : Nat) (bs : List Byte) (s : State) : State × Nat :=
  let k := objKey idx sub
  if stagingClosed s link then (s, 10)
  else
    let base := if s.mgmt.stagedKeys.contains k then s.mgmt.stagedRecs
      else (s.recs.filter (fun e => e.1 / 2 ^ 20 == k)).foldl (fun m e => sb m e.1 e.2) s.mgmt.stagedRecs
    let keys := if s.mgmt.stagedKeys.contains k then s.mgmt.stagedKeys
      else sortedInsert (fun a b => decide (a ≤ b)) k s.mgmt.stagedKeys
    (ownStaging link { s with mgmt := { s.mgmt with stagedRecs := sbN base (recAddr idx sub off) bs, stagedKeys := keys } }, 0)

/-- The refusal of a WRITE_BLOCK before the object's own rule. -/
def blockRefusal (link idx sub off : Nat) (bs : List Byte) (r : ObjRow) (s : State) : Nat :=
  let page := (pageOf idx).1
  if accessOf idx sub r = 0 then 4
  else if s.level link < r.lvl then 5
  else if drains s && !drainAllows page sub 0 s then 6
  else if idx = 0xA0F0 && s.obj 0x2F00 2 != 1 then 6
  else if idx = 0x1220 && memBusy s then 10
  else if !recordValueOk page off bs then 7
  else 0

/-- A write of bytes of a RECORD object by a link. -/
def writeRecord (link idx sub off : Nat) (bs : List Byte) (r : ObjRow) (s : State) : State × Nat :=
  let e := blockRefusal link idx sub off bs r s
  if e != 0 then (s, e)
  else if r.staged then stageRecord link idx sub off bs s
  else if idx = 0x9000 then (writeSummary off bs s, 0)
  else (s.setRec idx sub off bs, 0)

/-! ### The stored configuration (R428-R432) -/

/-- MRAM offset of copy k. -/
def copyBase (k : Nat) : Nat := if k = 0 then 0x3200 else 0x4D00

/-- A copy is valid (R429). -/
def copyValid (m : List Host.Cell) (k : Nat) : Bool :=
  let n := ldNat m (copyBase k + 8) 4
  decide (n ≤ 6880) && ldNat m (copyBase k + 4) 2 == 1 &&
    crc32c (ldN m (copyBase k) 0x1C ++ ldN m (copyBase k + 0x20) n) == ldNat m (copyBase k + 0x1C) 4

/-- The newer valid copy. -/
def copyNewest (m : List Host.Cell) : Option Nat :=
  match copyValid m 0, copyValid m 1 with
  | true, true => some (if seq32Lt (ldNat m (copyBase 0) 4) (ldNat m (copyBase 1) 4) then 1 else 0)
  | true, false => some 0
  | false, true => some 1
  | false, false => none

/-- Bytes of an entry. -/
def entryBytes (idx sub size v : Nat) : List Byte :=
  natLe 2 idx ++ natLe 1 sub ++ natLe 1 size ++ natLe (if size ≤ 4 then 4 else 8) v

/-- Entries of a copy: (index, subindex, size, value). -/
def parseEntries : Nat → List Byte → List (Nat × Nat × Nat × Nat)
  | 0, _ => []
  | n + 1, bs =>
    if bs.length < 8 then []
    else
      let size := leNat ((bs.drop 3).take 1)
      let w := if size ≤ 4 then 4 else 8
      (leNat (bs.take 2), leNat ((bs.drop 2).take 1), size, leNat (((bs.drop 4).take w).take size)) :: parseEntries n (bs.drop (4 + w))

def copyEntries (m : List Host.Cell) (k : Nat) : List (Nat × Nat × Nat × Nat) :=
  parseEntries (ldNat m (copyBase k + 6) 2) (ldN m (copyBase k + 0x20) (ldNat m (copyBase k + 8) 4))

/-- Every persistent object. -/
def persistentObjects : List (Nat × Nat × ObjRow) := allObjects.filter (fun o => o.2.2.persistent)

/-- STORE (R430): the result, and Detail. -/
def storeConfig (s : State) : State × Nat × Nat :=
  let items := persistentObjects.filter (fun o => s.obj o.1 o.2.1 != objDefault o.1 o.2.1)
  let body := items.flatMap (fun o => entryBytes o.1 o.2.1 o.2.2.size (s.obj o.1 o.2.1))
  if 6880 < body.length then (s.setObj 0x1200 0x10 2, 0x0D, 0)
  else
    let newest := copyNewest s.mram
    let k := if newest = some 0 then 1 else 0
    let sq := match newest with
      | some j => (ldNat s.mram (copyBase j) 4 + 1) % 2 ^ 32
      | none => 1
    let head := natLe 4 sq ++ natLe 2 1 ++ natLe 2 items.length ++ natLe 4 body.length ++ natLe 2 1 ++ List.replicate 14 0
    let m := sbN (sbN s.mram (copyBase k + 0x20) body) (copyBase k) head
    let s := { s with mram := sbNat m (copyBase k + 0x1C) 4 (crc32c (head ++ body)) }
    (((s.setObj 0x1200 0x10 1).setObj 0x1200 0x11 sq).setObj 0x1200 0x12 items.length, 0, items.length)

/-- An entry names a persistent object and a value of its own range (R431). -/
def entryOk (e : Nat × Nat × Nat × Nat) : Bool :=
  match objRow e.1 e.2.1 with
  | some r => r.persistent && r.size == e.2.2.1 && valueOk e.1 e.2.1 e.2.2.2 r
  | none => false

/-- Restore one object: at once, or staged (R431). The count says whether it was. -/
def restoreOne (link : Nat) (x : State × Nat) (e : Nat × Nat × Nat × Nat) : State × Nat :=
  let s := x.1
  match objRow e.1 e.2.1 with
  | none => x
  | some r =>
    if !entryOk e || pairBroken s (pageOf e.1).1 e.1 e.2.1 e.2.2.2 || (r.acc == 3 && s.blk.st != .config) then x
    else if r.staged then ((stageValue link e.1 e.2.1 e.2.2.2 s).1, x.2 + 1)
    else ((writeNow false link e.1 e.2.1 e.2.2.2 s).1, x.2 + 1)

/-- RESTORE (R431): source 0 the newer valid copy, 1 the defaults. -/
def restoreConfig (link source : Nat) (s : State) : State × Nat × Nat :=
  let items : Option (List (Nat × Nat × Nat × Nat)) :=
    if source = 1 then some (persistentObjects.map (fun o => (o.1, o.2.1, o.2.2.size, objDefault o.1 o.2.1)))
    else (copyNewest s.mram).map (copyEntries s.mram)
  match items with
  | none => (s, 0x0D, 0)
  | some es =>
    if stagingClosed s link then (s, 10, 0)
    else
      let r := es.foldl (restoreOne link) (s, 0)
      (r.1, 0, r.2)

/-- The stored configuration is installed at stage S2 as the active values, with no COMMIT (R432). -/
def installConfig (s : State) : State :=
  match copyNewest s.mram with
  | none => s.setObj 0x1200 0x13 0
  | some k =>
    let s := (s.setObj 0x1200 0x11 (ldNat s.mram (copyBase k) 4)).setObj 0x1200 0x12 (ldNat s.mram (copyBase k + 6) 2)
    let t := (copyEntries s.mram k).foldl (fun u e => if entryOk e then u.setObj e.1 e.2.1 e.2.2.2 else u) s
    if commitReasons s t = 0 then t.setObj 0x1200 0x13 1
    else
      let back := persistentObjects.filter (fun o => o.2.2.staged || o.2.2.acc == 3)
      let t := back.foldl (fun u o => u.setObj o.1 o.2.1 (objDefault o.1 o.2.1)) t
      (t.setObj 0x1200 0x13 2).setObjBit 0x1200 0x26 6 true

end Sys2Proof.Machine
end

