-- ==== Sys2Proof/Machine/Frames.lean ====
section
/-! DEFINITION. The management links (R404-R416, R384, R386): the I3C target and its common command codes, the in-band
window, request and response frames. -/

namespace Sys2Proof.Machine

/-! ### What runs (R427, R406) -/

/-- The management unit answers: the block is powered and VDDC is in window. -/
def mgmtLive (s : State) : Bool := s.blk.st != .off && s.obj 0x7001 7 == 1

/-- The dynamic address in force; 0 none. -/
def dynAddress (s : State) : Nat := s.obj 0x1100 1

/-- Data bytes that fit on a link (R413). -/
def linkData (link : Nat) : Nat := if link = 1 then 1024 else 3968

/-! ### Executing a request (R413-R415) -/

/-- What a request asks for. -/
structure MgmtReq where
  op : Nat
  hdr : ReqHdr
  bytes : List Byte
  /-- what the modules or a verification answer, where the request needs it (R310, R312). -/
  hint : Bool
  deriving DecidableEq, Repr

/-- The state, the result, Detail and data. -/
structure MgmtOut where
  st : State
  result : Nat
  detail : Nat
  data : List Byte
  deriving DecidableEq, Repr

def MgmtOut.refuse (s : State) (result : Nat) (detail : Nat := 0) : MgmtOut := ⟨s, result, detail, []⟩

/-- READ. -/
def doRead (link idx sub len : Nat) (shadow : Bool) (s : State) : MgmtOut :=
  match objRow idx sub with
  | none => .refuse s 3
  | some r =>
    if r.record || len != r.size then .refuse s 8
    else if r.acc = 2 then .refuse s 4
    else if shadow && !r.staged then .refuse s 7
    else
      let x := readObject link idx sub r shadow s
      ⟨x.1, 0, 0, natLe r.size x.2⟩

/-- WRITE. -/
def doWrite (hint : Bool) (link idx sub : Nat) (bytes : List Byte) (s : State) : MgmtOut :=
  match objRow idx sub with
  | none => .refuse s 3
  | some r =>
    if r.record || bytes.length != r.size then .refuse s 8
    else
      let x := writeObject hint link idx sub (leNat bytes) r s
      ⟨x.1, x.2, 0, []⟩

/-- READ_BLOCK. -/
def doReadBlock (idx sub off len : Nat) (shadow : Bool) (s : State) : MgmtOut :=
  match objRow idx sub with
  | none => .refuse s 3
  | some r =>
    let n := recordSize idx sub r
    if !r.record then .refuse s 8
    else if n < off + len then .refuse s 8 n
    else if shadow && !r.staged then .refuse s 7 n
    else
      let x := readRecord idx sub off len shadow s
      ⟨x.1, 0, n, x.2⟩

/-- WRITE_BLOCK. -/
def doWriteBlock (link idx sub off : Nat) (bytes : List Byte) (s : State) : MgmtOut :=
  match objRow idx sub with
  | none => .refuse s 3
  | some r =>
    let n := recordSize idx sub r
    if !r.record then .refuse s 8
    else if n < off + bytes.length then .refuse s 8 n
    else
      let x := writeRecord link idx sub off bytes r s
      ⟨x.1, x.2, n, []⟩

/-- COMMIT, ABORT, STORE and RESTORE (R419, R422-R427, R430, R431). -/
def doBlockOp (link op : Nat) (bytes : List Byte) (s : State) : MgmtOut :=
  let level := s.level link
  let out := fun (x : State × Nat × Nat) => (⟨x.1, x.2.1, x.2.2, []⟩ : MgmtOut)
  if op = 5 then
    (if level < 1 then .refuse s 5
     else if drains s then .refuse s 6
     else if bytes.length = 0 then out (commitCmd link none s)
     else if bytes.length = 8 then out (commitCmd link (some (leNat bytes)) s)
     else .refuse s 8)
  else if op = 6 then
    (if bytes.length != 0 then .refuse s 8 else if level < 1 then .refuse s 5 else out (abortCmd link level s))
  else if op = 7 then
    (if bytes.length != 0 then .refuse s 8 else if level < 2 then .refuse s 5 else if drains s then .refuse s 6
     else out (storeConfig s))
  else
    (if bytes.length != 1 then .refuse s 8 else if level < 2 then .refuse s 5 else if drains s then .refuse s 6
     else if 1 < leNat bytes then .refuse s 7 else out (restoreConfig link (leNat bytes) s))

/-- Execute a whole, well-received request. -/
def runRequest (link : Nat) (q : MgmtReq) (s : State) : MgmtOut :=
  let h := q.hdr
  let idx := h.index.toNat
  let sub := h.sub.toNat
  let off := h.offset.toNat
  let len := h.length.toNat
  let shadow := h.flags == 1
  let reads := q.op == 1 || q.op == 3
  if linkData link < len || (if reads then q.bytes.length != 0 else q.bytes.length != len) then .refuse s 8
  else if 1 < h.flags.toNat || h.reserved != 0 || (shadow && !reads) then .refuse s 7
  else if 5 ≤ q.op && (idx != 0 || sub != 0 || off != 0) then .refuse s 7
  else if (q.op == 1 || q.op == 2) && off != 0 then .refuse s 7
  else if q.op = 1 then doRead link idx sub len shadow s
  else if q.op = 2 then doWrite q.hint link idx sub q.bytes s
  else if q.op = 3 then doReadBlock idx sub off len shadow s
  else if q.op = 4 then doWriteBlock link idx sub off q.bytes s
  else doBlockOp link q.op q.bytes s

/-! ### Responses (R410, R412, R413, R416) -/

/-- The bytes of a response frame. -/
def RspFrame.bytes (f : RspFrame) : List Byte :=
  let body := natLe 1 f.opcode ++ natLe 1 f.tag ++ natLe 2 f.index ++ natLe 1 f.sub ++ natLe 1 f.result ++
    natLe 2 f.data.length ++ natLe 4 f.offset ++ natLe 4 f.detail ++ f.data
  body ++ natLe 2 (crc16 body)

/-- A request frame has arrived: counted, and an unread response of its link is discarded (R416, R436). -/
def beginFrame (link : Nat) (s : State) : State :=
  let l := s.link link
  let s := if l.held.isSome && l.unread then s.addObj 0x1100 (0x16 + link) 1 else s
  (s.setLink link { l with held := none, unread := false }).addObj 0x1100 (0x10 + link) 1

/-- The response is held on its link; on the window it is in the buffer, and WindowStatus is Done (R412). A response
longer than the link's read length is replaced (R410). -/
def endFrame (link op : Nat) (h : ReqHdr) (o : MgmtOut) : State :=
  let s := o.st
  let long := link == 1 && decide (s.obj 0x1100 4 < 18 + o.data.length)
  let result := if long then 8 else o.result
  let f : RspFrame := { opcode := (op + 0x80) % 256, tag := h.tag.toNat, index := h.index.toNat, sub := h.sub.toNat,
                        result := result, offset := h.offset.toNat, detail := o.detail, data := if result = 0 then o.data else [] }
  let s := if result = 0 then s else s.addObj 0x1100 (0x14 + link) 1
  let s := s.setLink link { s.link link with held := some f, unread := link == 1 }
  if link = 0 then
    { s with mgmt := { s.mgmt with winStatus := 2, winLength := f.bytes.length, winBuf := sbN [] 0 f.bytes } }
  else s

/-- A request can arrive on the link: the window while it is not Busy, the target with an address. -/
def linkOpen (link : Nat) (s : State) : Bool := mgmtLive s && (link == 0 || dynAddress s != 0)

/-- One transaction on a link (R404, R412). A test reset in Test restarts the logic, and no response comes of it. -/
def transact (link : Nat) (q : MgmtReq) (s : State) : State :=
  if !linkOpen link s then s
  else if link = 0 && s.mgmt.winStatus = 1 then s.addObj 0x1100 0x18 1
  else
    let t := beginFrame link s
    let long := link == 1 && decide (s.obj 0x1100 3 < 18 + q.bytes.length)
    let o := if long then MgmtOut.refuse t 8 else runRequest link q t
    if s.blk.st == .test && o.st.blk.st == .resetPhase then o.st else endFrame link q.op q.hdr o

/-! ### The frame rows -/

def execObjectRead (link : Fin 2) (hdr : ReqHdr) (s : State) : Out := .next (transact link ⟨1, hdr, [], false⟩ s)

/-- OBJECT_WRITE: where the object's own rule asks what modules or a verification answer, the answer is free (log 1). -/
def execObjectWrite (link : Fin 2) (hdr : ReqHdr) (bytes : List (BitVec 8)) (s : State) : Out :=
  .next (transact link ⟨2, hdr, bytes, Config.freeBit s.freeCtr⟩ s.tickFree)

def execReadBlock (link : Fin 2) (hdr : ReqHdr) (s : State) : Out := .next (transact link ⟨3, hdr, [], false⟩ s)
def execWriteBlock (link : Fin 2) (hdr : ReqHdr) (bytes : List (BitVec 8)) (s : State) : Out :=
  .next (transact link ⟨4, hdr, bytes, false⟩ s)
def execCommit (link : Fin 2) (hdr : ReqHdr) (bytes : List (BitVec 8)) (s : State) : Out :=
  .next (transact link ⟨5, hdr, bytes, false⟩ s)
def execAbort (link : Fin 2) (hdr : ReqHdr) (s : State) : Out := .next (transact link ⟨6, hdr, [], false⟩ s)
def execStore (link : Fin 2) (hdr : ReqHdr) (s : State) : Out := .next (transact link ⟨7, hdr, [], false⟩ s)
def execRestore (link : Fin 2) (hdr : ReqHdr) (bytes : List (BitVec 8)) (s : State) : Out :=
  .next (transact link ⟨8, hdr, bytes, false⟩ s)

/-- BAD_OPCODE: answered with result 0x02 (R414, R415). -/
def badOpcode (link op : Nat) (h : ReqHdr) (s : State) : State :=
  if !linkOpen link s || (1 ≤ op && op ≤ 8) then s
  else if link = 0 && s.mgmt.winStatus = 1 then s.addObj 0x1100 0x18 1
  else endFrame link op h (.refuse (beginFrame link s) 2)

def execBadOpcode (link : Fin 2) (opcode : BitVec 8) (hdr : ReqHdr) (s : State) : Out :=
  .next (badOpcode link opcode.toNat hdr s)

/-- FRAME_CRC_ERROR: kind 0, the CRC failed (0x01); kind 1, a write ended early by STOP or HDR exit, discarded and
counted; kind 2, longer than the link takes (0x08) (R410, R412, R415). Its header fields, the opcode among them, are echoed as received. Only the I3C target sees a
frame ended early. -/
def frameError (link kind op : Nat) (h : ReqHdr) (s : State) : State :=
  if !linkOpen link s then s
  else if link = 0 && s.mgmt.winStatus = 1 then s.addObj 0x1100 0x18 1
  else if kind = 1 then (if link = 1 then s.addObj 0x1100 0x13 1 else s)
  else
    let t := beginFrame link s
    let t := if kind = 0 then t.addObj 0x1100 (0x12 + link) 1 else t
    let t := if kind = 0 && link = 1 then { t with mgmt := { t.mgmt with crcSeen := true } } else t
    endFrame link op h (.refuse t (if kind = 0 then 1 else 8))

def execFrameCrcError (link : Fin 2) (fault : FrameFault) (hdr : ReqHdr) (s : State) : Out :=
  .next (frameError link fault.kind fault.opcode.toNat hdr s)

/-! ### The in-band window (R411, R412) -/

/-- The header a frame's first 16 bytes spell. -/
def parseHeader (b : List Byte) : ReqHdr :=
  let at_ := fun (o n : Nat) => leNat ((b.drop o).take n)
  { tag := BitVec.ofNat 8 (at_ 1 1), index := BitVec.ofNat 16 (at_ 2 2), sub := BitVec.ofNat 8 (at_ 4 1),
    flags := BitVec.ofNat 8 (at_ 5 1), length := BitVec.ofNat 16 (at_ 6 2), offset := BitVec.ofNat 32 (at_ 8 4),
    reserved := BitVec.ofNat 32 (at_ 12 4) }

/-- Execute the frame in the buffer: its length, its CRC, its opcode, then the request (R412-R415). It goes on Alley, so it
waits while Alley injection is held (R69, R81). -/
def windowRun (s : State) : State :=
  if s.mgmt.winStatus != 1 || s.net.hold.contains 3 then s
  else
    let n := s.mgmt.winLength
    let b := ldN s.mgmt.winBuf 0 n
    let h := parseHeader b
    let op := leNat (b.take 1)
    let s := { s with mgmt := { s.mgmt with winStatus := 0 } }
    if n < 18 || 3986 < n then endFrame 0 op h (.refuse (beginFrame 0 s) 8)
    else if leNat (b.drop (n - 2)) != crc16 (b.take (n - 2)) then
      endFrame 0 op h (.refuse ((beginFrame 0 s).addObj 0x1100 0x12 1) 1)
    else if op = 0 || 8 < op then badOpcode 0 op h s
    else transact 0 ⟨op, h, (b.drop 16).take (n - 18), Config.freeBit s.freeCtr⟩ s.tickFree

/-- WINDOW_DOORBELL: 1 submits the frame, other values are ignored; while Busy it is discarded and counted. The frame is executed in the next core
cycle that passes (log 48). -/
def doorbell (v : Nat) (s : State) : State :=
  if !mgmtLive s then s
  else if s.mgmt.winStatus = 1 then s.addObj 0x1100 0x18 1
  else if v = 1 then { s with mgmt := { s.mgmt with winStatus := 1 } }
  else s

def execWindowDoorbell (value : BitVec 32) (s : State) : Out := .next (doorbell value.toNat s)

/-- WINDOW_BUFFER_WRITE: an aligned 32-bit or 64-bit write to WindowFrameLength or WindowBuffer; others are ignored. -/
def windowWrite (o : Nat) (bs : List Byte) (s : State) : State :=
  let n := bs.length
  if !mgmtLive s || !(n == 4 || n == 8) || o % n != 0 || (0x0C ≤ o && o < 0x40) then s
  else if o < 8 then
    -- a write of the doorbell's word, alone or with WindowStatus
    (if o = 0 then doorbell (leNat (bs.take 4)) s else s)
  else if s.mgmt.winStatus = 1 then s.addObj 0x1100 0x18 1
  else if o = 8 then { s with mgmt := { s.mgmt with winLength := leNat (bs.take 4) } }
  else { s with mgmt := { s.mgmt with winBuf := sbN s.mgmt.winBuf (o - 0x40) bs, winStatus := 0 } }

def execWindowBufferWrite (offset : BitVec 12) (bytes : List (BitVec 8)) (s : State) : Out :=
  .next (windowWrite offset.toNat bytes s)

/-! ### The I3C target (R406-R410) -/

/-- ENTDAA: takes part while it holds no address. With a second target of the same provisioned ID the assignment is
undefined: the address is free (R407; log 1). -/
def entdaa (addr : Nat) (twin : Bool) (s : State) : State :=
  if !mgmtLive s || dynAddress s != 0 then s
  else if twin then (s.setObj 0x1100 1 (Config.freeNat s.freeCtr % 128)).tickFree
  else s.setObj 0x1100 1 addr

def execEntdaa (addr : BitVec 7) (twinPid : Bool) (s : State) : Out := .next (entdaa addr.toNat twinPid s)

def execRstdaa (s : State) : Out := .next (if mgmtLive s then s.setObj 0x1100 1 0 else s)

/-- A direct CCC reaches the target at its dynamic address. -/
def addressed (s : State) : Bool := mgmtLive s && dynAddress s != 0

def execSetnewda (addr : BitVec 7) (s : State) : Out := .next (if addressed s then s.setObj 0x1100 1 addr.toNat else s)

/-- ENEC and DISEC, broadcast or direct: bit 0 is honoured. -/
def setEnec (on : Bool) (bits' : BitVec 8) (s : State) : State :=
  if mgmtLive s && bit bits'.toNat 0 then s.setObj 0x1100 2 (boolNat on) else s

def execEnec (bits : BitVec 8) (s : State) : Out := .next (setEnec true bits s)
def execDisec (bits : BitVec 8) (s : State) : Out := .next (setEnec false bits s)

/-- The bytes a GET CCC returns, most significant first. -/
def ccc (n v : Nat) (s : State) : State := { s with mgmt := { s.mgmt with cccOut := (natLe n v).reverse } }

def execGetpid (s : State) : Out := .next (if addressed s then ccc 6 (provisionedId s) s else s)
def execGetbcr (s : State) : Out := .next (if addressed s then ccc 1 0x06 s else s)
def execGetdcr (s : State) : Out := .next (if addressed s then ccc 1 0x00 s else s)

/-- GETSTATUS: bits [3:0] waiting interrupt requests, bit 5 a CRC error since the last (R408). -/
def getStatus (s : State) : State :=
  if !addressed s then s
  else
    let v := min 15 s.ev.ibi.length + (if s.mgmt.crcSeen then 32 else 0)
    let t := ccc 2 v s
    { t with mgmt := { t.mgmt with crcSeen := false } }

def execGetstatus (s : State) : Out := .next (getStatus s)

/-- SETMWL and SETMRL: a length of 18 to 1 042; another is not taken (log 49). -/
def setLength (sub v : Nat) (s : State) : State :=
  if addressed s && decide (18 ≤ v) && decide (v ≤ 1042) then s.setObj 0x1100 sub v else s

def execSetmwl (len : BitVec 16) (s : State) : Out := .next (setLength 3 len.toNat s)
def execSetmrl (len : BitVec 16) (s : State) : Out := .next (setLength 4 len.toNat s)

def execGetmwl (s : State) : Out := .next (if addressed s then ccc 2 (s.obj 0x1100 3) s else s)
/-- GETMRL: the length, then the interrupt payload of 3. -/
def execGetmrl (s : State) : Out := .next (if addressed s then ccc 3 (s.obj 0x1100 4 * 256 + 3) s else s)
/-- GETCAPS: HDR-DDR supported: bit 0 of the first byte, HDR mode 0 (log 50). -/
def execGetcaps (s : State) : Out := .next (if addressed s then ccc 1 0x01 s else s)

def execEnthdr0 (s : State) : Out := .next (if mgmtLive s then { s with mgmt := { s.mgmt with hdrMode := true } } else s)

/-- HDR_EXIT: back to SDR; a frame that the exit cut short is FRAME_CRC_ERROR of kind 1. -/
def execHdrExit (s : State) : Out := .next { s with mgmt := { s.mgmt with hdrMode := false } }

/-- I3C_PRIVATE_READ: the held response; with none ready the target does not acknowledge. In HDR-DDR an odd frame is
padded with one 0x00 byte (R410). -/
def privateRead (s : State) : State :=
  if !addressed s then s
  else
    match (s.link 1).held with
    | none => { s with mgmt := { s.mgmt with i3cOut := [] } }
    | some f =>
      let b := f.bytes
      let b := if s.mgmt.hdrMode && b.length % 2 = 1 then b ++ [0] else b
      let s := s.setLink 1 { s.link 1 with unread := false }
      { s with mgmt := { s.mgmt with i3cOut := b } }

def execI3cPrivateRead (s : State) : Out := .next (privateRead s)

/-- IBI_SENT: the waiting request of the least source number, its three bytes; one whose source is no longer pending is
dropped (R384, R409). -/
def ibiSent (s : State) : State :=
  if !addressed s || s.obj 0x1100 2 != 1 then s
  else
    let live := s.ev.ibi.filter (fun n => s.obj (evIdx n) 5 == 1)
    match live with
    | [] => { s with ev := { s.ev with ibi := [] } }
    | n :: rest =>
      let sev := max (s.obj (evIdx n) 2) (if s.ev.fatal.contains n then 3 else 0)
      { s with ev := { s.ev with ibi := rest, lastIbi := [BitVec.ofNat 8 (0xD0 + sev), BitVec.ofNat 8 (n / 256), BitVec.ofNat 8 n] } }

def execIbiSent (s : State) : Out := .next (ibiSent s)

/-! ### Rows that are the write or the read of one object -/

/-- A frame that writes one object: the bytes are its value, least significant first. -/
def writeOf (link : Nat) (tag : BitVec 8) (idx sub v : Nat) (hint : Bool) (s : State) : State :=
  let n := match objRow idx sub with
    | some r => r.size
    | none => 1
  transact link ⟨2, ⟨tag, BitVec.ofNat 16 idx, BitVec.ofNat 8 sub, 0, BitVec.ofNat 16 n, 0, 0⟩, natLe n v, hint⟩ s

def execClaimResource (link : Fin 2) (tag : BitVec 8) (sub : BitVec 8) (s : State) : Out :=
  .next (writeOf link tag 0x2F00 sub.toNat 1 false s)
def execReleaseClaim (link : Fin 2) (tag : BitVec 8) (sub : BitVec 8) (s : State) : Out :=
  .next (writeOf link tag 0x2F00 sub.toNat 0 false s)
def execKeyAdopt (link : Fin 2) (tag : BitVec 8) (s : State) : Out := .next (writeOf link tag 0x5000 9 1 false s)
def execErasedDeviceWrite (link : Fin 2) (tag : BitVec 8) (c : Fin 16) (entry : Fin 16) (value : BitVec 8) (s : State) : Out :=
  .next (writeOf link tag (chIdx 0x3001 c) (0x10 + entry) value.toNat false s)
def execFreezeRequest (link : Fin 2) (tag : BitVec 8) (c : Fin 16) (s : State) : Out :=
  .next (writeOf link tag (chIdx 0x3080 c) 0x15 1 false s)
def execResume (link : Fin 2) (tag : BitVec 8) (c : Fin 16) (s : State) : Out :=
  .next (writeOf link tag (chIdx 0x3080 c) 0x10 1 false s)
def execRetrainResume (link : Fin 2) (tag : BitVec 8) (c : Fin 16) (s : State) : Out :=
  .next (writeOf link tag (chIdx 0x3080 c) 0x10 2 false s)
def execRetireRank (link : Fin 2) (tag : BitVec 8) (c : Fin 16) (s : State) : Out :=
  .next (writeOf link tag (chIdx 0x3080 c) 0x10 3 false s)
def execPromote (link : Fin 2) (tag : BitVec 8) (d : Fin 4) (s : State) : Out := .next (writeOf link tag (0x6010 + d) 6 1 false s)
def execDemote (link : Fin 2) (tag : BitVec 8) (d : Fin 4) (s : State) : Out := .next (writeOf link tag (0x6010 + d) 6 2 false s)
def execMirrorBreak (link : Fin 2) (tag : BitVec 8) (d : Fin 4) (s : State) : Out :=
  .next (writeOf link tag (0x6010 + d) 6 3 false s)
def execFullPush (link : Fin 2) (tag : BitVec 8) (d : Fin 4) (s : State) : Out := .next (writeOf link tag (0x6010 + d) 6 4 false s)
def execTrainingDone (link : Fin 2) (tag : BitVec 8) (c : Fin 16) (verified : Bool) (s : State) : Out :=
  .next (writeOf link tag (calIdx c) 7 1 verified s)
def execTrainRequest (link : Fin 2) (tag : BitVec 8) (c : Fin 16) (s : State) : Out := .next (writeOf link tag (calIdx c) 6 1 false s)
def execMrr (link : Fin 2) (tag : BitVec 8) (c : Fin 16) (s : State) : Out := .next (writeOf link tag (0xA000 + c) 1 1 false s)
def execMrw (link : Fin 2) (tag : BitVec 8) (c : Fin 16) (owned : Bool) (s : State) : Out :=
  .next (writeOf link tag (0xA000 + c) 1 2 owned s)
def execMpc (link : Fin 2) (tag : BitVec 8) (c : Fin 16) (owned : Bool) (s : State) : Out :=
  .next (writeOf link tag (0xA000 + c) 1 3 owned s)
def execControlWordWrite (link : Fin 2) (tag : BitVec 8) (c : Fin 16) (owned : Bool) (s : State) : Out :=
  .next (writeOf link tag (0xA000 + c) 1 4 owned s)
def execReadSweep (link : Fin 2) (tag : BitVec 8) (c : Fin 16) (s : State) : Out := .next (writeOf link tag (0xA000 + c) 1 5 false s)
def execWriteReadSweep (link : Fin 2) (tag : BitVec 8) (c : Fin 16) (s : State) : Out :=
  .next (writeOf link tag (0xA000 + c) 1 6 false s)
def execWritePattern (link : Fin 2) (tag : BitVec 8) (c : Fin 16) (s : State) : Out :=
  .next (writeOf link tag (0xA000 + c) 1 7 false s)
def execLevelingSweep (link : Fin 2) (tag : BitVec 8) (c : Fin 16) (s : State) : Out :=
  .next (writeOf link tag (0xA000 + c) 1 8 false s)
def execEnableSweep (link : Fin 2) (tag : BitVec 8) (c : Fin 16) (s : State) : Out :=
  .next (writeOf link tag (0xA000 + c) 1 9 false s)
def execCalRunRequest (link : Fin 2) (tag : BitVec 8) (c : Fin 16) (s : State) : Out :=
  .next (writeOf link tag (calIdx c) 0x1A 1 false s)
def execEyeScanRequest (link : Fin 2) (tag : BitVec 8) (c : Fin 16) (value : BitVec 8) (s : State) : Out :=
  .next (writeOf link tag (calIdx c) 0x1C value.toNat false s)
def execSupplyRetry (link : Fin 2) (tag : BitVec 8) (s : State) : Out := .next (writeOf link tag 0x7000 4 1 false s)
def execStartRemoval (link : Fin 2) (tag : BitVec 8) (b : Fin 32) (s : State) : Out := .next (writeOf link tag (0x7100 + b) 4 1 false s)
def execAllowRemoval (link : Fin 2) (tag : BitVec 8) (b : Fin 32) (s : State) : Out := .next (writeOf link tag (0x7100 + b) 4 2 false s)
def execLedTest (link : Fin 2) (tag : BitVec 8) (b : Fin 32) (s : State) : Out := .next (writeOf link tag (0x7100 + b) 4 3 false s)
def execEventPendingClear (link : Fin 2) (tag : BitVec 8) (n : Fin 512) (s : State) : Out :=
  .next (writeOf link tag (evIdx n) 5 0 false s)
/-- EVENT_QUEUE_READ: a READ_BLOCK of the 16 bytes of EventQueueRead. -/
def execEventQueueRead (link : Fin 2) (tag : BitVec 8) (s : State) : Out :=
  .next (transact link ⟨3, ⟨tag, 0x9000, 3, 0, 16, 0, 0⟩, [], false⟩ s)
def execEventQueueMark (link : Fin 2) (tag : BitVec 8) (s : State) : Out := .next (writeOf link tag 0x9000 4 1 false s)
def execEventQueueRewind (link : Fin 2) (tag : BitVec 8) (s : State) : Out := .next (writeOf link tag 0x9000 4 2 false s)
def execEventQueueRelease (link : Fin 2) (tag : BitVec 8) (s : State) : Out := .next (writeOf link tag 0x9000 4 3 false s)
def execEventLogClear (link : Fin 2) (tag : BitVec 8) (s : State) : Out := .next (writeOf link tag 0x9000 7 1 false s)
def execSnapshotArm (link : Fin 2) (tag : BitVec 8) (frame : BitVec 64) (s : State) : Out :=
  .next (writeOf link tag 0x9010 1 frame.toNat false s)
def execSampleRelease (link : Fin 2) (tag : BitVec 8) (index : BitVec 16) (s : State) : Out :=
  .next (writeOf link tag 0x9020 4 index.toNat false s)
def execLinkRightsConfig (link : Fin 2) (tag : BitVec 8) (value : BitVec 16) (s : State) : Out :=
  .next (writeOf link tag 0x1100 7 value.toNat false s)
def execProfileLock (link : Fin 2) (tag : BitVec 8) (port : Fin 112) (s : State) : Out :=
  .next (writeOf link tag (0x2300 + port) 1 1 false s)
def execEnterConfig (link : Fin 2) (tag : BitVec 8) (s : State) : Out := .next (writeOf link tag 0x1200 2 1 false s)
def execLeaveConfig (link : Fin 2) (tag : BitVec 8) (s : State) : Out := .next (writeOf link tag 0x1200 2 2 false s)
def execBlockReset (link : Fin 2) (tag : BitVec 8) (s : State) : Out := .next (writeOf link tag 0x1200 2 3 false s)
/-- TEST_RESET: BlockCommand 4 of a link, or the chip's test-reset control. -/
def execTestReset (link : Option (Fin 2)) (tag : BitVec 8) (s : State) : Out :=
  .next (match link with
    | some l => writeOf l tag 0x1200 2 4 false s
    | none => testResetNow s)
def execEnterTest (link : Fin 2) (tag : BitVec 8) (s : State) : Out := .next (writeOf link tag 0x1200 2 5 false s)
def execMemGo (link : Fin 2) (tag : BitVec 8) (s : State) : Out := .next (writeOf link tag 0x1220 4 1 false s)
def execTranslateAddress (link : Fin 2) (tag : BitVec 8) (addr : BitVec 64) (s : State) : Out :=
  .next (writeOf link tag 0x1230 1 addr.toNat false s)

/-- A test row: TestSelect, then TestGo (R463). -/
def testOf (link : Nat) (tag : BitVec 8) (n : Nat) (s : State) : State :=
  writeOf link tag 0xB000 2 1 false (writeOf link tag 0xB000 1 n false s)

def execDdrConnectivity (link : Fin 2) (tag : BitVec 8) (s : State) : Out := .next (testOf link tag 1 s)
def execSramBist (link : Fin 2) (tag : BitVec 8) (s : State) : Out := .next (testOf link tag 2 s)
def execMramReadCheck (link : Fin 2) (tag : BitVec 8) (s : State) : Out := .next (testOf link tag 3 s)
def execMramBist (link : Fin 2) (tag : BitVec 8) (s : State) : Out := .next (testOf link tag 4 s)
def execMirrorLoopInternal (link : Fin 2) (tag : BitVec 8) (s : State) : Out := .next (testOf link tag 5 s)
def execMirrorLoopExternal (link : Fin 2) (tag : BitVec 8) (s : State) : Out := .next (testOf link tag 6 s)

/-- An injection row: InjectKind, then InjectGo (R466). -/
def injectOf (link : Nat) (tag : BitVec 8) (k : Nat) (s : State) : State :=
  writeOf link tag 0xB001 7 1 false (writeOf link tag 0xB001 1 k false s)

def execInjectEcc (link : Fin 2) (tag : BitVec 8) (s : State) : Out := .next (injectOf link tag 1 s)
def execInjectMac (link : Fin 2) (tag : BitVec 8) (s : State) : Out := .next (injectOf link tag 2 s)
def execInjectPointer (link : Fin 2) (tag : BitVec 8) (s : State) : Out := .next (injectOf link tag 3 s)
def execInjectCrossingLink (link : Fin 2) (tag : BitVec 8) (s : State) : Out := .next (injectOf link tag 4 s)
def execInjectMirrorFrame (link : Fin 2) (tag : BitVec 8) (s : State) : Out := .next (injectOf link tag 5 s)
def execInjectDisarm (link : Fin 2) (tag : BitVec 8) (s : State) : Out := .next (writeOf link tag 0xB001 1 0 false s)

end Sys2Proof.Machine
end

