-- ==== Sys2Proof/Machine/Startup.lean ====
section
/-! DEFINITION. The start sequence (R441-R452, R459): power-on reset, the stages S1 to S8 as the commands that end them. -/

namespace Sys2Proof.Machine

/-- The block is in stage k of its Reset phase. -/
def inStage (s : State) (k : Nat) : Bool := s.blk.st == .resetPhase && s.blk.stage == k

/-- POWER_ON_RESET: VDDC is good (R335, R441). The pins of the instance straps are sampled (R406). -/
def powerOnReset (straps : Nat) (s : State) : State :=
  if s.blk.st != .off then s
  else
    let s := startAtS0 s
    let s := (s.setSense 0 { inWindow := true, good := true }).setObj 0x7001 7 1
    { s with blk := { s.blk with inst := straps } }

def execPowerOnReset (straps : BitVec 4) (s : State) : Out := .next (powerOnReset straps.toNat s)

/-- REFCLK_PLL_LOCK: the window of R11 begins. -/
def execRefclkPllLock (s : State) : Out :=
  .next (if inStage s 1 then { s with cad := { s.cad with pllLocked := true } } else s)

/-! ### S2: the MRAM read (R443) -/

/-- 1: the vault header. -/
def readVault (s : State) : State :=
  match vaultNewest s.mram with
  | some k =>
    let s := publishVault { s with vault := vaultRead s.mram k }
    forN 4 s (fun d t => t.setObj 0x5000 (0x10 + d) (t.vault.checkpoints.getD d 0))
  | none => s

/-- 2: torn entries of the failure log are freed; a set marker makes a collapse entry, stamped at the last LastFrame stored
(R339, R340). -/
def readFailureLog (s : State) : State :=
  let s := forN 16 s (fun k t =>
    if ldNat t.mram (failBase k) 1 = 0xA5 then { t with mram := sbNat t.mram (failBase k) 1 0 }.raise 0x1EE else t)
  if s.vault.stored && s.vault.marker then
    (writeFailure 5 255 ⟨s.vault.lastFrame, 0, 0, 0⟩ (failureFields 255 0 0 0 0 0 0 s) s).raise 0x1ED
  else s

/-- 4: the descriptor of a district, with its root from the slot in force (R351, R475). A descriptor whose Crc fails leaves
the district in Mismatch. -/
def readDistrict (d : Nat) (s : State) : State :=
  let st := descState s.mram d
  if st != 1 && st != 2 then s
  else if !descCrcOk s.mram d then
    (s.modDist d (fun x => { x with st := .mismatch })).setObjBit (0x2100 + d) 0x0E 4 true
  else
    let b := storedBlock s.mram d
    let desc := readDesc s.mram d
    let s := s.modDist d (fun x => { x with
      st := if st = 1 then .formatting else .formed, desc := desc, rootMajor := leNat (b.take 8) % 2 ^ 63,
      rootCursor := leNat ((b.drop 8).take 1), flags := leNat ((b.drop 9).take 1), rootMinors := unpackMinors ((b.drop 0x10).take 48) })
    let s := desc.channels.foldl (fun t c => t.modChan c (fun ch => { ch with dist := some d })) s
    let q := if desc.granule = 0 then 0 else desc.span / desc.granule
    publishCarve d (if st = 2 then s.setObj (0x2100 + d) 0x0D q else s)

/-- 4: the repair table and the sealed page list. A zero word of the list region is no entry (log 52). -/
def readTables (s : State) : State :=
  let s := forN 256 s (fun e t =>
    let r := repairOfBytes (ldN t.mram (repairAtMram e) 16)
    if r.state = 0 then t else t.setRepair e r)
  let words := ((List.range 128).map (fun i => ldNat s.mram (sealedAt i) 8)).filter (fun w => w != 0)
  let l := words.map (fun w => (bits w 63 62, bits w 37 0, Stamp.zero))
  let s := { s with sealedList := l }
  forN 4 (s.setObj 0x5000 0x40 l.length) (fun d t =>
    t.setObj 0x5000 (0x30 + d) (l.filter (fun e => e.1 == d)).length)

/-- 5: MajorCeiling of each formed Sealed or Private district, as stored plus 2^20, written back (R249). -/
def readCeilings (s : State) : State :=
  let has := fun (t : State) (d : Nat) => (t.dist d).st.hasFormation && (t.dist d).desc.mode != 2
  let s := forN 4 s (fun d t =>
    if has t d then
      let v := min (t.vault.ceilings.getD d 0 + 2 ^ 20) (2 ^ 63 - 1)
      let t := { t with vault := { t.vault with ceilings := set4 t.vault.ceilings d v } }
      (t.modDist d (fun x => { x with ceiling := v })).setObj 0x5104 (0x10 + d) v
    else t)
  if s.vault.stored && (List.range 4).any (has s) then writeVault s else s

/-- 6: the stored configuration, what follows from it at once (the classes, the buckets, the queue sizes), the cursors. -/
def readConfig (s : State) : State :=
  let s := installConfig s
  let s := forN 112 s (fun p t =>
    let i := 0x2200 + p
    let want := Cls.ofCode (t.obj i 1)
    let full := 256 * t.obj i 8
    if (t.port p).cls = want && (t.port p).tokens = full then t else t.modPort p (fun q => { q with cls := want, tokens := full }))
  let s := forN 64 s (fun x t =>
    let want := splitSizes (t.obj (0x4000 + x) 7)
    let d := (t.xbar x).diff want
    if d.isEmpty then t else t.setXbar x { (t.xbar x) with sizes := d.foldl (fun l e => tput l e.1 e.2 8) (t.xbar x).sizes })
  let s := forN 16 s (fun c t =>
    (t.setObj (chIdx 0x3002 c) 3 (ldNat t.mram (scrubCursorAt c) 8)).setObj (0x6060 + c) 1 (ldNat t.mram (rebuildCursorAt c) 8))
  forN 4 s (fun d t => t.setObj (0x6010 + d) 8 (ldNat t.mram (resyncAt d) 8))

/-- MRAM_READ: the items of R443 in order. The trim sets are checked where they are used (R305, R327), the save flags and
the erasure map read where they are needed. -/
def mramRead (s : State) : State :=
  if !inStage s 2 then s
  else
    let s := readFailureLog (readVault s)
    let s := readTables (forN 4 s (fun d t => readDistrict d t))
    endStage 2 (readConfig (readCeilings s))

def execMramRead (s : State) : Out := .next (mramRead s)

/-! ### S3: discovery (R102, R133, R138, R363-R367, R444, R445) -/

/-- The module discovery finds in bay b: presence and a closed latch are needed. -/
def foundModule (s : State) (mods : List (Option ModuleInfo)) (b : Nat) : Option ModuleInfo :=
  if bit (s.bay b).inputs 3 || bit (s.bay b).inputs 2 then none else (mods[b]?).join

/-- One bay is read: its module ready to train, or a fault with its cause. -/
def discoverBay (mods : List (Option ModuleInfo)) (b : Nat) (s : State) : State :=
  match foundModule s mods b with
  | none => writeSaveFlags b 0 0 s
  | some m =>
    let other := if b % 2 = 1 then foundModule s mods (b - 1) else none
    let mixed := match other with | some o => spdUsable o && o.kind != m.kind | none => false
    if !spdUsable m then (bayFault b 2 s).raise 0x1F6
    else if mixed then (bayFault b 1 s).raise 0x1F6
    else if !m.powerGood then (bayFault b 3 s).raise 0x1F7
    else (s.modBay b (fun y => { y with st := .training, module := some m, pmic := true })).setObj (0x7100 + b) 8 m.saveStatus.toNat

/-- What the modules of a district's channels differ in from its descriptor: bits of MismatchCause (R102). -/
def descMismatch (s : State) (x : Desc) : Nat :=
  let ms := fun (c : Nat) => [0, 1].filterMap (fun p => s.moduleAt (2 * c + p))
  let any_ := fun (f : List ModuleInfo → Bool) => x.channels.any (fun c => f (ms c))
  let apart := x.channels.any (fun c => (s.moduleAt (2 * c)).isNone && (s.moduleAt (2 * c + 1)).isSome)
  (if apart || any_ (fun l => !l.isEmpty && l.length != x.modules) then 1 else 0) + (if any_ (fun l => l.any (fun m => m.ranks != x.ranks)) then 2 else 0) +
    (if any_ (fun l => l.any (fun m => m.density != x.density)) then 4 else 0) + (if any_ List.isEmpty then 8 else 0)

/-- A stored descriptor is compared with the modules found. -/
def compareDistrict (d : Nat) (s : State) : State :=
  if (s.dist d).st != .formed && (s.dist d).st != .formatting then s
  else
    let v := descMismatch s (s.dist d).desc
    if v = 0 then s else (s.modDist d (fun x => { x with st := .mismatch })).setObj (0x2100 + d) 0x0E v

/-- The bay trust table of R444, with the fault cause its row names. -/
inductive Trust where
  | trusted
  | untrusted
  | restoreFault
  | saveFault
  deriving DecidableEq, Repr

def bayTrust (s : State) (b : Nat) (m : ModuleInfo) : Trust :=
  let same := ldNat s.mram (saveFlagsAt b + 4) 4 == m.serial
  let image := bit m.saveStatus.toNat 2
  if s.blk.dramTest || !same then .untrusted
  else if s.obj 0x1200 0x21 != 1 then .trusted
  else if saveFlag s b 4 then .saveFault
  else if !m.energyBacked then .untrusted
  else if image then (if s.sup.restored.contains b then .trusted else .restoreFault)
  else if saveFlag s b 1 then .restoreFault
  else if saveFlag s b 5 then .untrusted
  else .trusted

/-- A bay's status register as it was read counts as its report (R365, R366). -/
def reportBay (b : Nat) (s : State) : State :=
  match s.moduleAt b with
  | some m =>
    let v := m.saveStatus.toNat
    if m.energyBacked && bit v 1 && bit v 3 && !bit v 4 && !s.sup.restored.contains b then restoreComplete b v s else s
  | none => s

/-- What a bay holds is trusted, or is not and is rebuilt where its district is formed (R444); the save flags of this
discovery follow (R367). `late`: its restore had failed or timed out before. -/
def trustBay (late : List Nat) (b : Nat) (s : State) : State :=
  match s.moduleAt b with
  | none => s
  | some m =>
    let t := if late.contains b then Trust.restoreFault else bayTrust s b m
    let replaced := ldNat s.mram (saveFlagsAt b + 4) 4 != m.serial
    let formed := match (s.chan (bayChan b)).dist with | some d => (s.dist d).st.serving | none => false
    let lostRestore := t == .restoreFault && bit m.saveStatus.toNat 2 && !late.contains b && !saveFlag s b 1
    let s := if replaced then forN 2 s (fun sub u => forN 4 u (fun r v => setErased (bayChan b) sub (4 * (b % 2) + r) none v)) else s
    let s := if t = .trusted then s
      else
        let s := blankBay b s
        if formed then setNeeds b true s else s
    let s := if t = .restoreFault then setNeeds b true (bayFault b 7 s) else if t = .saveFault then setNeeds b true (bayFault b 8 s) else s
    let s := if lostRestore then s.raise 0x1FA else s
    writeSaveFlags b ((if m.energyBacked then 1 else 0) + (if s.sup.restored.contains b then 8 else 0)) m.serial s

/-- MODULE_DISCOVERY_DONE: the modules as read, bay by bay. Discovery's claims on the sideband buses end with the stage. -/
def discoveryDone (mods : List (Option ModuleInfo)) (s : State) : State :=
  if !inStage s 3 then s
  else
    let late := (List.range 32).filter (fun b => (s.bay b).st == .fault)
    let s := forN 32 s (fun b t => reportBay b (discoverBay mods b t))
    let s := forN 16 s (fun c t => if (timedModules t c).isEmpty then t else computeTiming c t)
    let s := forN 4 s (fun d t => compareDistrict d t)
    let s := forN 32 s (fun b t => trustBay late b t)
    let quick := s.obj 0x1200 0x21 == 2
    let s := forN 16 s (fun c t =>
      if (t.moduleAt (2 * c)).isSome || (t.moduleAt (2 * c + 1)).isSome then startTraining c false quick t else t)
    endStage 3 s

def execModuleDiscoveryDone (mods : List (Option ModuleInfo)) (s : State) : Out := .next (discoveryDone mods s)

/-! ### S4 and S5 (R446, R447) -/

/-- TRAINING_STAGE_END: every channel has finished training; the key port opens. -/
def trainingStageEnd (s : State) : State :=
  if !inStage s 4 || s.chans.any (fun e => e.2.st == .training) then s
  else
    let s := endStage 4 s
    { s with keys := { s.keys with portOpen := true, discards := 0 } }

def execTrainingStageEnd (s : State) : Out := .next (trainingStageEnd s)

/-! ### S6: the metadata check (R448, R459) -/

/-- A repair entry names exactly this item. -/
def entryFor (s : State) (d kind idx : Nat) : Bool :=
  s.repair.any (fun e => e.2.state != 0 && e.2.dist == d && e.2.kind == kind && e.2.index == idx)

/-- Counters that a node of level j is verified under, its parent being the root or pinned (R205, R207). -/
def pinnedParent (s : State) (d j idx : Nat) : Ctr :=
  if (s.dist d).desc.carve.top ≤ j then rootCtr (s.dist d) idx else itemCtr (pinnedNode s d (j + 1) (idx / 64)) (idx % 64)

/-- Read a node of level 3 or above by vote, verify it and pin it; a node that fails is lost (R246, R448). Under a lost
ancestor it is the replacement that is pinned (R249). -/
def pinNode (d j idx : Nat) (s : State) : State :=
  let x := (s.dist d).desc
  let pc := pinnedParent s d j idx
  let q := x.place (x.carve.nodeAddr j idx 0) 0
  if nodeUnderRepair s d j idx && pc.minor = 0 then renewNode d j idx pc (replacementNode s pc.major) s
  else
    let r := readCopies d j idx (countNodeRead d j idx s)
    let s := r.1
    let ok : Option (BitVec 512) := r.2.filter (fun v => cursorValid (nodeCursor v) &&
      nodeMac v == nodeMacOf (s.keyFor (nodeGen v)) d (s.epochFor d (nodeGen v)) (x.carve.nodeAddr j idx 0 / 64) pc v)
    match ok with
    | some v => { s with pinned := tins s.pinned (pinnedKey d j idx) v }
    | none =>
      startResult 5 (if entryFor s d (lossKind j) idx then installReplacement d (lossKind j) idx s else lose d (lossKind j) idx q.1 s)

/-- Levels `top` down to 3, each node in order. -/
def pinLevels (d : Nat) (s : State) : Nat → State
  | 0 => s
  | j + 1 => if j + 1 < 3 then s else pinLevels d (forN ((s.dist d).desc.carve.nodes (j + 1)) s (fun i t => pinNode d (j + 1) i t)) j

/-- Nodes of a top level below 3 are verified against the root and not pinned. -/
def checkTop (d : Nat) (s : State) : State :=
  let c := (s.dist d).desc.carve
  forN (c.nodes c.top) s (fun i t =>
    let r := needLine (.node false d c.top i) d t
    match r.2 with
    | some _ => r.1
    | none => startResult 5 r.1)

/-- The stored root of a district can be used (R351, R448). -/
def rootUsable (s : State) (d : Nat) : Bool :=
  let b := storedBlock s.mram d
  (rootNewest s.mram).isSome && bit (s.dist d).flags 1 && leNat ((b.drop 10).take 2) == s.vault.gen &&
    leNat ((b.drop 12).take 2) == s.vault.epochs.getD d 0

/-- A root that cannot be used is replaced under the next MajorCeiling, and every level-T node is lost. -/
def replaceRoot (d : Nat) (s : State) : State :=
  let s := raiseCeiling d ((s.dist d).ceiling + 1) s
  let s := s.modDist d (fun x => { x with rootMajor := x.ceiling, rootMinors := [], rootCursor := 0, rootOk := true })
  startResult 5 (loseRoot d s)

/-- The check of one formed Sealed district. -/
def checkDistrict (d : Nat) (s : State) : State :=
  let x := s.dist d
  if !x.st.serving || x.desc.mode != 0 then s
  else
    let top := x.desc.carve.top
    if rootUsable s d then
      let s := s.modDist d (fun y => { y with rootOk := true })
      if top < 3 then checkTop d s else pinLevels d s top
    else pinLevels d (replaceRoot d s) (top - 1)

/-- The district's objects, as if it had none formed: their width still to be set. -/
def asUnformed (s : State) (d : Nat) : State := s.setObj (0x2100 + d) 2 0

/-- A district with no stored descriptor is formed from its objects where a COMMIT would accept them (R459); without keys
only an Open one. -/
def autoForm (d : Nat) (s : State) : State :=
  let i := 0x2100 + d
  let keyed := s.obj i 6 == 2 || s.keys.cur.isSome
  if s.obj 0x1200 0x25 = 1 && (s.dist d).st = .unformed && s.obj i 2 != 0 && keyed && districtReject (asUnformed s d) s d = 0 then
    startResult 7 (formDistrict d (wantedDesc s (s.obj i)) s)
  else s

/-! ### S7: mirror start (R269, R285, R449) -/

/-- The resync plan of a mirrored district. -/
def planDistrict (d : Nat) (s : State) : State :=
  let x := s.dist d
  if s.role d = 0 || !x.st.hasFormation then s
  else
    let pages := s.dataPages d
    let full := bit x.flags 4 || ((rootNewest s.mram).isSome && !(staleTrusted s.mram).2)
    let mine := (staleEntries s.mram).filter (fun e => e.1 == d)
    let pull : List PageRange := if full then [{ first := 0, count := pages }]
      else mine.map (fun e => { first := e.2.1, count := e.2.2.1 })
    let push := s.role d == 1 && !bit x.flags 3
    let at_ := s.obj (0x6010 + d) 8
    s.setDist d { x with pull := pull, push := push, pushPage := if push && pull.isEmpty && at_ < pages then at_ else 0 }

/-- Lost ranges of a district with no mirror role: port 97 marks them from S8 on (R349, R449). -/
def lostRanges (d : Nat) (s : State) : State :=
  if s.role d != 0 || !(s.dist d).st.serving then s
  else
    let mine := (staleEntries s.mram).filter (fun e => e.1 == d && e.2.2.2)
    s.modDist d (fun x => { x with lost := mine.map (fun e => { first := e.2.1, count := e.2.2.1 }) })

/-- METADATA_CHECK: stage S6, and what stage S7 begins with. -/
def metadataCheck (s : State) : State :=
  if s.blk.st != .recovery || s.blk.stage != 6 then s
  else
    let s := forN 4 s (fun d t => checkDistrict d t)
    let s := endStage 6 (forN 4 s (fun d t => autoForm d t))
    startMirror (forN 4 s (fun d t => lostRanges d (planDistrict d t)))

def execMetadataCheck (s : State) : Out := .next (metadataCheck s)

/-- A channel still Untrained in a formed district is Fenced, its bays in Fault (R446). -/
def fenceUntrained (c : Nat) (s : State) : State :=
  let formed := match (s.chan c).dist with | some d => (s.dist d).st.serving | none => false
  if formed && (s.chan c).st = .untrained then
    let s := setChanState c .fenced s
    forN 2 s (fun p t => if (t.moduleAt (2 * c + p)).isSome then bayFault (2 * c + p) 6 t else t)
  else s

/-- MIRROR_START_END: every mirrored district has left Connecting, or TwinPairWait has elapsed; stage S8 begins. -/
def mirrorStartEnd (s : State) : State :=
  if s.blk.st != .recovery || s.blk.stage != 7 then s
  else
    let s := if (List.range 4).any (fun d => (s.dist d).mst == .connecting) then startResult 8 s else s
    let s := forN 16 (endStage 7 s) (fun c t => fenceUntrained c t)
    let s := if s.cad.st = .holdover then startResult 0 s else s
    let s := if (List.range 16).any (fun c => (s.chan c).st == .untrained || (s.chan c).st == .fenced) then startResult 1 s else s
    if (List.range 4).any (fun d => (s.dist d).st == .mismatch) then startResult 2 s else s

def execMirrorStartEnd (s : State) : Out := .next (mirrorStartEnd s)

end Sys2Proof.Machine
end

