-- ==== Sys2Proof/Machine/Cadence.lean ====
section
/-! DEFINITION. The cadence and time (R7-R14, R474): received frames, skips, the ends of slots and frames with the work
that falls on them, the vote of the slot count, the checkpoint of LastFrame. -/

namespace Sys2Proof.Machine

/-! ### The frame word (R7, R8) -/

/-- The bit of slot i: bits are sent most significant first. -/
def frameBit (w : BitVec 192) (i : Nat) : Bool := w.toNat.testBit (191 - i)

/-- A field of eight bits from slot i on. -/
def frameByte (w : BitVec 192) (i : Nat) : Nat := (List.range 8).foldl (fun a k => 2 * a + (if frameBit w (i + k) then 1 else 0)) 0

/-- The number of a valid frame: its sync in place, its stuffing bits 0, its CRC right. -/
def frameNumber (w : BitVec 192) : Option Nat :=
  let sync := (List.range 11).all (frameBit w) && !frameBit w 11
  let stuff := (List.range 8).all (fun k => !frameBit w (20 + 9 * k))
  let bytes := (List.range 6).map (fun k => frameByte w (12 + 9 * k))
  let crc := 256 * frameByte w 66 + frameByte w 75
  if sync && stuff && crc == crc16 (bytes.map (BitVec.ofNat 8)) then some (bytes.foldl (fun a b => 256 * a + b) 0) else none

/-! ### Changes of state (R11) -/

/-- Into Holdover from Locked or Slewing. -/
def loseCadence (s : State) : State :=
  let s := { s with cad := { s.cad with st := .holdover, run := 0, lastRx := none, bad := 0, differ := 0, d := 0, dOff := 0 } }
  (s.addObj 0x1300 7 1).raise 0x001

/-- Into Locked. -/
def relock (s : State) : State :=
  { s with cad := { s.cad with st := .locked, run := 0, bad := 0, differ := 0, d := 0, dOff := 0 } }

/-- Core cycles from count a to count b, negative where b lies behind (R8, R11). -/
def cyclesBetween (a b : Count) : Int :=
  let n := (b.absCycle + cycleMod - a.absCycle % cycleMod) % cycleMod
  if 2 * n < cycleMod then (n : Int) else (n : Int) - (cycleMod : Int)

/-! ### A frame begins (R12, R17, R118, R125, R146, R148, R322, R354, R355, R395, R424, R441, R451) -/

/-- The thermal step for a junction temperature in 0.25 °C (R355): entered at its temperature, left 3 °C below it. -/
def thermalStep (s : State) (tj : Int) : Nat :=
  let temp := fun (k : Nat) => (s.obj 0x7030 (4 + k) : Int)
  let old := s.obj 0x7030 4
  let up := (List.range 4).foldl (fun a k => if 0 < k && decide (4 * temp k ≤ tj) then k else a) 0
  let kept := (List.range 4).foldl (fun a k => if 0 < k && k ≤ old && decide (4 * (temp k - 3) ≤ tj) then k else a) 0
  max up kept

/-- The junction temperature is read, the step follows, a trip starts a Squall with cause 3. -/
def thermal (tj : Int) (s : State) : State :=
  let s := s.setObj 0x7000 6 (ofSigned 16 tj)
  let k := thermalStep s tj
  let s := if k = s.obj 0x7030 4 then s else (s.setObj 0x7030 4 k).raise 0x1E9
  let may := s.blk.st != .test && (s.sup.squall == .idle || s.sup.squall == .thawing || ((s.sup.squall == .draining || s.sup.squall == .committing || s.sup.squall == .selfRefresh) && s.obj 0x7010 2 == 4))
  if may && decide (4 * (s.obj 0x7030 8 : Int) ≤ tj) then (startSquall 3 255 0 s).raise 0x1EA else s

/-- The energy budget of the frame, pJ (R354). -/
def renewBudget (s : State) : State :=
  { s with sup := { s.sup with budget := 3840 * effectiveCap s - powerFloorU s - gPreBudget s, capRun := s.sup.capFailed, capFailed := false } }

/-- Work that keeps the block in Recovery (R441). -/
def recovering (s : State) : Bool :=
  (List.range 4).any (fun d => (s.dist d).mst == .resyncing) || s.chans.any (fun e => e.2.st == .rebuilding) ||
    s.repair.any (fun e => e.2.state != 0)

/-- Lines of the Lost ranges of a district with no mirror role are marked (R349). -/
def markLost (d : Nat) (s : State) : State :=
  let lost := (s.dist d).lost
  let s := s.modDist d (fun x => { x with lost := [] })
  lost.foldl (fun t r => forN (64 * r.count) t (fun k u =>
    if 64 * (64 * r.first + k) < (u.dist d).desc.limit then markPoison d (64 * r.first + k) u else u)) s

/-- Admission opens at S8 (R451): the key port closes for good, link rights lock, the episode marker is set. -/
def openAdmission (s : State) : State :=
  let s := endStage 8 s
  let s := { s with blk := { s.blk with admission := true }, keys := { s.keys with closed := true, portOpen := false },
                    mgmt := { s.mgmt with locked := true } }.setObj 0x1100 8 1
  let s := writeVault { s with vault := { s.vault with marker := true } }
  let s := recomputePower (forN 4 s (fun d t => markLost d t))
  { s with blk := { s.blk with st := if s.obj 0x1200 0x23 = 1 then .config else if recovering s then .recovery else .running } }

/-- The rows of R441 that a frame boundary takes. -/
def blockRows (s : State) : State :=
  let serve : BlockSt := if recovering s then .recovery else .running
  match s.blk.st with
  | .recovery =>
    if s.blk.stage = 8 then openAdmission s
    else if s.blk.stage < 8 then s
    else if s.blk.pend = 1 then { s with blk := { s.blk with st := .config, pend := 0 } }
    else { s with blk := { s.blk with st := serve } }
  | .running =>
    if s.blk.pend = 1 then { s with blk := { s.blk with st := .config, pend := 0 } }
    else { s with blk := { s.blk with st := serve } }
  | .config => if s.blk.pend = 2 then { s with blk := { s.blk with st := serve, pend := 0 } } else s
  | _ => s

/-- The arbiter mode of a block state (R124). -/
def BlockSt.mode : BlockSt → Nat
  | .running => 0
  | .draining => 2
  | _ => 1

/-- What a frame boundary does on a channel: refresh, calibration runs, the open allowance. -/
def frameChannel (c : Nat) (s : State) : State :=
  let s := calRunTrigger c (refreshFrame c s)
  let n := s.obj (arbIdx c) 6
  if s.obj (arbIdx c) 0x0C = n then s else s.setObj (arbIdx c) 0x0C n

/-- A frame begins: shadows take the values of the cycle before, then staged values take effect. -/
def frameStart (s : State) : State :=
  let s := match s.mgmt.snapArmed with
    | some f => if serialLe frameMod f s.now.frame then takeSnapshot (f != s.now.frame) s else s
    | none => s
  let once : Tbl Chan := (s.chans.map (fun e => (e.1, { e.2 with bothSets := false }))).filter (fun e => e.2 != Chan.reset)
  let s := { s with chans := once }
  commitBoundary { s with cad := { s.cad with skipDouble := s.cad.skipDouble && s.cad.workedFrame.isNone, workedFrame := some s.now.frame } }

/-- The work of the frame that begins now, with the junction temperature read at it where a command brings one (log 20). -/
def frameWork (tj : Option Int) (s : State) : State :=
  let s := forN 16 (frameStart s) (fun c t => frameChannel c t)
  let s := { s with mirror := { s.mirror with recovery := 0 } }
  let s := forN 4 s (fun d t => if (t.dist d).stopWrites && !(t.dist d).demoting then t.modDist d (fun x => { x with stopWrites := false }) else t)
  let s := renewBudget (match tj with | some x => thermal x s | none => s)
  let s := if s.cad.st = .holdover || s.cad.st = .conflict then s.addObj 0x1300 9 1 else s
  let s := blockRows s
  { s with blk := { s.blk with mode := s.blk.st.mode } }

/-- The slot count stands at a frame boundary whose work is still to do. -/
def frameDue (s : State) : Bool := atBoundary s && s.cad.workedFrame != some s.now.frame

/-! ### The skip (R12) -/

/-- A deadline k slots and n core cycles later. -/
def Req.later (k : Nat) (r : Req) : Req := { r with deadline := r.deadline + k, pos := r.pos.map (fun x => (x.1 + k, x.2)) }
def Resp.later (k : Nat) (r : Resp) : Resp := { r with deadline := r.deadline + k }
def Access.later (k : Nat) (a : Access) : Access :=
  { a with deadline := a.deadline + k, gpos := a.gpos.map (fun x => (x.1 + k, x.2)) }
def Entry.later (k n : Nat) (e : Entry) : Entry :=
  let group : List Member := e.group.map (fun m => { m with enq := m.enq + n })
  { e with deadline := e.deadline + k, enq := e.enq + n, at_ := e.at_ + n, gpos := e.gpos.map (fun x => (x.1 + k, x.2)), group := group }
def NetUnit.later (k : Nat) (u : NetUnit) : NetUnit := { u with deadline := u.deadline + k }

def Port.later (k n : Nat) (q : Port) : Port :=
  let lock : Option LockSeq := q.lock.map (fun l => { l with deadline := l.deadline + k, last := l.last + n, members := l.members.map (Req.later k) })
  let tags : List TagUse := q.tags.map (fun u => { u with req := u.req.later k })
  let bridge : List Packet := q.bridge.map (fun p => { p with at_ := p.at_ + n })
  { q with tags := tags, ingress := q.ingress.map (Req.later k), coming := q.coming.map (fun b => { b with resp := b.resp.later k }), resp := q.resp.map (Resp.later k), egress := q.egress.map (Resp.later k),
           lock := lock, bridge := bridge, lastReg := q.lastReg.map (· + n), gAsg := q.gAsg.map (fun x => (x.1, x.2.1 + k, x.2.2)) }

def Xbar.later (k n : Nat) (b : Xbar) : Xbar :=
  let go : Tbl (List NetUnit) → Tbl (List NetUnit) := fun l => l.map (fun e => (e.1, e.2.map (NetUnit.later k)))
  { b with queues := go b.queues, express := go b.express, bridge := go b.bridge, sentUnits := go b.sentUnits,
           redo := b.redo.map (fun e => (e.1, e.2.1.later k, e.2.2 + n)) }

/-- No time passes at the DRAM in a skip: its times move by n core cycles, given as DCK, its positions by k slots. -/
def Sub.later (k n dck pos : Nat) (b : Sub) : Sub :=
  let cas : List Cas := b.cas.map (fun e => { e with at_ := e.at_ + dck, pos := e.pos + pos, dataEnd := e.dataEnd + dck, coreEnd := e.coreEnd + dck })
  let alert : Option Alert := b.alert.map (fun a => { a with at_ := a.at_ + n, uncertain := a.uncertain.map (Entry.later k n) })
  { b with busEnd := if b.busEnd = 0 then 0 else b.busEnd + dck, cas := cas, alert := alert,
           acts := b.acts.map (fun x => (x.1, x.2.1, x.2.2 + dck)), ca := b.ca.map (· + dck), refs := b.refs.map (fun x => (x.1, x.2 + dck)) }

def Bank.later (dck pos : Nat) (b : Bank) : Bank :=
  { b with last := b.last + pos, actAt := b.actAt + dck, preMin := b.preMin + dck, preAt := b.preAt + dck, refUntil := b.refUntil + dck }

def LockRun.later (n dck : Nat) (r : LockRun) : LockRun :=
  let rest : List Member := r.rest.map (fun m => { m with enq := m.enq + n })
  { r with rest := rest, due := r.due.map (· + dck), until_ := r.until_ + dck }

def Chan.later (k n pSlot : Nat) (ch : Chan) : Chan :=
  let dck := n * pSlot / 10
  let go := fun (l : List Entry) => l.map (Entry.later k n)
  let subs : Tbl Sub := ch.subs.map (fun e => (e.1, e.2.later k n dck (k * pSlot)))
  let banks : Tbl Bank := ch.banks.map (fun e => (e.1, e.2.later dck (k * pSlot)))
  { ch with gRead := go ch.gRead, gWb := go ch.gWb, openU := go ch.openU, gate := go ch.gate, bq := go ch.bq,
            rewrites := go ch.rewrites, granted := go ch.granted, subs := subs, banks := banks,
            exiting := ch.exiting.map (fun x => x.map (· + n)), lock := ch.lock.map (LockRun.later n dck), yardAt := ch.yardAt + n,
            chores := ch.chores.map (fun e => if e.1 = 10 || e.1 = 11 then (e.1, e.2 + dck) else e) }

def PLine.later (k : Nat) (x : PLine) : PLine := { x with waiting := x.waiting.map (Access.later k) }

def Mirror.later (k n : Nat) (m : Mirror) : Mirror :=
  let tx : Tbl TxStream := m.tx.map (fun e => (e.1, { e.2 with since := e.2.since + n, lastClose := e.2.lastClose + k }))
  let replay : List TxFrame := m.replay.map (fun f => { f with sent := f.sent + n })
  let reqs : List RemReq := m.reqs.map (fun r => { r with deadline := r.deadline + k })
  let serving : List Serve := m.serving.map (fun r => { r with deadline := r.deadline + k })
  let waits : List TwinWait := m.waits.map (fun w => { w with resp := w.resp.later k })
  { m with tx := tx, replay := replay, reqs := reqs, serving := serving, waits := waits }

/-- Every deadline and G position assignment moves by the skipped duration in whole slots, rounded up (R12). -/
def delayAll (n : Nat) (s : State) : State :=
  let k := cdiv n 40
  let ports : Tbl Port := s.ports.map (fun e => (e.1, e.2.later k n))
  let xbars : Tbl Xbar := s.xbars.map (fun e => (e.1, e.2.later k n))
  let chans : Tbl Chan := s.chans.map (fun e => (e.1, e.2.later k n (s.pSlot e.1)))
  let plaza : Tbl PLine := s.plaza.map (fun e => (e.1, e.2.later k))
  let order : Tbl (List Access) := s.order.map (fun e => (e.1, e.2.map (Access.later k)))
  let transit : Tbl (List Req) := s.transit.map (fun e => (e.1, e.2.map (Req.later k)))
  let gathers : List Gather := s.gathers.map (fun g => { g with req := g.req.later k })
  let samples : List Sample := s.samples.map (fun x => { x with req := x.req.later k, ts := x.ts.map (fun t => if t = 0 then 0 else t + n) })
  { s with ports := ports, xbars := xbars, chans := chans, plaza := plaza, order := order, transit := transit, gathers := gathers,
           samples := samples, mirror := s.mirror.later k n }

/-- The local count becomes the received one, n core cycles ahead, and the frame it begins has its work done in that cycle:
the commits and the snapshot due at the skipped boundaries among it. -/
def skipTo (r : Count) (n : Nat) (s : State) : State :=
  let s := (delayAll n s).setNow r
  let s := { s with cad := { s.cad with hold := false, slotLen := 40, adjusted := false, workedFrame := none, skipDouble := true } }
  frameWork none ((s.addObj 0x1300 4 (n / 7680)).raise 0x005)

/-! ### A frame received (R11) -/

/-- The third of three consecutive frames, while acquiring or in Holdover. -/
def acquire (r : Count) (s : State) : State :=
  match s.cad.st with
  | .acquiring =>
    if inStage s 1 then
      let s := relock (s.setNow r)
      endStage 1 (frameWork none { s with cad := { s.cad with hold := false, slotLen := 40, adjusted := false, workedFrame := none } })
    else s
  | _ =>
    let d := cyclesBetween s.now r
    if r.frame != s.now.frame && (frameAhead s.now.frame r.frame).isNone then
      { s with cad := { s.cad with st := .conflict, run := 0 } }.raise 0x003
    else if 0 < d then (relock (skipTo r d.toNat s)).raise 0x002
    else if d = 0 then (relock s).raise 0x002
    else if d.natAbs ≤ 7680 * s.obj 0x1300 6 then
      { s with cad := { s.cad with st := .slewing, run := 0, bad := 0, d := d, dOff := 0 } }.raise 0x006
    else { s with cad := { s.cad with st := .conflict, run := 0 } }.raise 0x003

/-- A valid frame while Locked: its phase against the nearest local frame boundary, and its number. -/
def trackFrame (r : Count) (s : State) : State :=
  let d := cyclesBetween s.now r
  let phase := (d + 3840) % 7680 - 3840
  if 8 < phase.natAbs then loseCadence s
  else if d = phase then { s with cad := { s.cad with differ := 0 } }
  else if 1 ≤ s.cad.differ then loseCadence s
  else { s with cad := { s.cad with differ := s.cad.differ + 1 } }

/-- A valid frame while Slewing: D is measured again. -/
def remeasure (r : Count) (s : State) : State :=
  let d := cyclesBetween s.now r
  let off := decide (8 < (d - s.cad.d).natAbs)
  if off && decide (1 ≤ s.cad.dOff) then loseCadence s
  else { s with cad := { s.cad with d := d, dOff := if off then s.cad.dOff + 1 else 0 } }

/-- CADENCE_FRAME_RECEIVED, at the boundary that ends the frame. -/
def frameReceived (w : BitVec 192) (s : State) : State :=
  if !s.cad.pllLocked then s
  else match frameNumber w with
    | none =>
      let s := s.addObj 0x1300 0x0A 1
      let s := { s with cad := { s.cad with run := 0, lastRx := none, bad := s.cad.bad + 1 } }
      if (s.cad.st == .locked || s.cad.st == .slewing) && decide (2 ≤ s.cad.bad) then loseCadence s else s
    | some n =>
      let r : Count := ⟨(n + 1) % frameMod, 0, 0⟩
      let next := s.cad.lastRx == some ((n + frameMod - 1) % frameMod)
      let s := { s with cad := { s.cad with run := if next then s.cad.run + 1 else 1, lastRx := some n, bad := 0 } }
      match s.cad.st with
      | .locked => trackFrame r s
      | .slewing => remeasure r s
      | .conflict => s
      | _ => if 3 ≤ s.cad.run then acquire r s else s

def execCadenceFrameReceived (word : BitVec 192) (s : State) : Out := .next (frameReceived word s)

/-- CADENCE_ACQUIRE_TIMEOUT: 20 ms from the lock without three frames; the count goes on from the stored LastFrame, read
from the vault header of MRAM (R11, R197, R340). -/
def acquireTimeout (s : State) : State :=
  if !inStage s 1 || !s.cad.pllLocked || s.cad.st != .acquiring then s
  else
    let f := match vaultNewest s.mram with
      | some k => let v := vaultRead s.mram k; v.lastFrame + (if v.marker then 65537 else 1)
      | none => 0
    let s := s.setNow ⟨f % frameMod, 0, 0⟩
    let s := { s with cad := { s.cad with st := .holdover, run := 0, lastRx := none, hold := false, slotLen := 40, adjusted := false, workedFrame := none } }
    endStage 1 (frameWork none (s.raise 0x001))

def execCadenceAcquireTimeout (s : State) : Out := .next (acquireTimeout s)

/-- CADENCE_CLOCK_LOSS: CAD_CLK is absent for 4 expected edges. -/
def clockLoss (s : State) : State :=
  match s.cad.st with
  | .locked => loseCadence s
  | .slewing => loseCadence s
  | _ => { s with cad := { s.cad with run := 0, lastRx := none } }

def execCadenceClockLoss (s : State) : Out := .next (clockLoss s)

/-! ### Core cycles -/

/-- The core clock runs: from the PLL's lock until the rails are gone. -/
def clocked (s : State) : Bool := s.cad.pllLocked && s.blk.st != .off && s.blk.st != .sequencing

/-- What every core cycle does besides counting: EVT_N follows, staged events enter the queue, an armed queue fault fires,
a submitted window frame is executed, outstanding tags are summed (R391), a reset that waited for tags begins (R454). -/
def cycleWork (s : State) : State :=
  let s := windowRun (injectCycle (drainStaging (evtTick s)))
  let s := s.ports.foldl (fun t e => countPort e.1 0x0C e.2.tags.length t) s
  resetDue { s with cad := { s.cad with cyc64 := (s.cad.cyc64 + 1) % 64 } }

/-! ### The end of a slot (R10, R13, R34, R118, R155) -/

/-- The length of the next slot, given the measured phase error: positive, the local count is ahead (R10, R13, R474). -/
def nextLength (phase : Int) (s : State) : Nat :=
  match s.cad.st with
  | .slewing => 41
  | .locked => if s.cad.adjusted || phase = 0 then 40 else if 0 < phase then 41 else 39
  | _ => 40

/-- Tokens added at a slot boundary (R34). -/
def refill (p : Nat) (s : State) : State :=
  let r := s.obj (0x2200 + p) 7
  if r = 0 then s else s.modPort p (fun q => { q with tokens := min (q.tokens + r) (256 * s.obj (0x2200 + p) 8) })

/-- What a slot boundary does on a channel: fences and resumes that were due, lent lines, power states (R155, R176, R244,
R371). -/
def slotChannel (c : Nat) (s : State) : State :=
  let s := returnLent c (resumeDue c (fenceDue c s))
  if s.sup.vddpCut then s else powerEntry c (powerResidency c s)

/-- The count after its slot. -/
def nextSlot (c : Count) : Count :=
  if 191 ≤ c.slot then ⟨(c.frame + 1) % frameMod, 0, 0⟩ else ⟨c.frame, c.slot + 1, 0⟩

/-- A slot ends: a phase error above 8 cycles is the loss of the cadence, a stretched slot brings a slew nearer its end, the
next one's length is chosen; where a frame begins with it the frame's work is done (tj as `frameWork` takes it), then the
slot's. -/
def slotEnd (tj : Option Int) (phase : Int) (s : State) : State :=
  let s := if s.cad.st = .locked && decide (8 < phase.natAbs) then loseCadence s else s
  let s := if s.cad.st = .slewing && s.cad.slotLen = 41 then { s with cad := { s.cad with d := s.cad.d + 1 } } else s
  let s := if s.cad.st = .slewing && decide (0 ≤ s.cad.d) then (relock s).raise 0x002 else s
  let n := nextLength phase s
  let s := s.setNow (nextSlot s.now)
  let s := { s with cad := { s.cad with slotLen := n, adjusted := s.cad.st == .locked && n != 40, hold := false } }
  let s := if s.now.slot = 0 then frameWork tj s else s
  let s := forN 112 s (fun p t => refill p t)
  drainStep (forN 16 s (fun c t => slotChannel c t))

/-- Core cycles left in the slot in progress. -/
def cyclesLeft (s : State) : Nat := if s.cad.hold then 1 else s.cad.slotLen - s.now.cycle

/-- The cycles left of the slot pass, and the next slot begins. -/
def passSlot (tj : Option Int) (phase : Int) (s : State) : State :=
  if clocked s then slotEnd tj phase (forN (cyclesLeft s) s (fun _ t => cycleWork t)) else s

/-- SLOT_BOUNDARY. -/
def slotBoundary (phase : Int) (s : State) : State := passSlot none phase s

def execSlotBoundary (phase : Int) (s : State) : Out := .next (slotBoundary phase s)

/-- One idle core cycle: what `step` does with nothing pending (log 20). -/
def tick (s : State) : State :=
  let s := cycleWork s
  if !clocked s then s
  else if cyclesLeft s ≤ 1 then slotEnd none 0 s
  else if s.now.cycle = 39 then { s with cad := { s.cad with hold := true } }
  else s.setNow { s.now with cycle := s.now.cycle + 1 }

/-- FRAME_BOUNDARY: the slots left of the present frame pass, and the last one's end begins the next frame; where the frame
in progress has just begun and its work is still to do, that is done. -/
def frameBoundary (tj : Int) (s : State) : State :=
  if !clocked s then s
  else if frameDue s then frameWork (some tj) s
  else passSlot (some tj) 0 (forN (191 - s.now.slot) s (fun _ t => slotBoundary 0 t))

def execFrameBoundary (tj : Int) (s : State) : Out := .next (frameBoundary tj s)

/-! ### The checkpoint and the vote (R9, R197) -/

/-- LAST_FRAME_CHECKPOINT: LastFrame in the vault header, once that has been read (stage S2 has ended). -/
def checkpoint (s : State) : State :=
  if decide (3 ≤ s.blk.stage) then writeVault { s with vault := { s.vault with lastFrame := s.now.frame } } else s

def execLastFrameCheckpoint (s : State) : Out := .next (checkpoint s)

/-- SLOT_COUNT_CORRECTED: the vote finds the copies a, b, c. The count never moves backwards. -/
def voteNow (a b c : Count) (s : State) : State :=
  let n := voteFixes a b c
  if n = 0 then s
  else
    let v := voteCount a b c
    let s := s.setNow (if countLt v s.now then s.now else v)
    raiseFull 0x004 (if a != b && a != c && b != c then 3 else 0) 0 0 (s.addObj 0x1300 8 n)

def execSlotCountCorrected (a b c : Count) (s : State) : Out := .next (voteNow a b c s)

end Sys2Proof.Machine
end

