-- ==== Sys2Proof/Machine/Dispatch.lean ====
section
/-! DEFINITION. What each command does: one arm per constructor, each one call of its meaning. -/

namespace Sys2Proof.Machine

/-- The effect of a command on everything but the queue. -/
def exec (i : Instr) (s : State) : Host.Outcome State Fault Refusal :=
  match i with
  | .cadenceFrameReceived word => Sys2Proof.Machine.execCadenceFrameReceived word s
  | .cadenceAcquireTimeout => Sys2Proof.Machine.execCadenceAcquireTimeout s
  | .cadenceClockLoss => Sys2Proof.Machine.execCadenceClockLoss s
  | .slotBoundary phase => Sys2Proof.Machine.execSlotBoundary phase s
  | .frameBoundary tj => Sys2Proof.Machine.execFrameBoundary tj s
  | .lastFrameCheckpoint => Sys2Proof.Machine.execLastFrameCheckpoint s
  | .classChangeEffect port => Sys2Proof.Machine.execClassChangeEffect port s
  | .packetReceived port units => Sys2Proof.Machine.execPacketReceived port units s
  | .requestAdmission port => Sys2Proof.Machine.execRequestAdmission port s
  | .read port tag addr len lock => Sys2Proof.Machine.execRead port tag addr len lock s
  | .readRaw port tag addr len lock => Sys2Proof.Machine.execReadRaw port tag addr len lock s
  | .write port tag addr twin lock data => Sys2Proof.Machine.execWrite port tag addr twin lock data s
  | .writeMasked port tag addr mask twin lock data => Sys2Proof.Machine.execWriteMasked port tag addr mask twin lock data s
  | .cas8 port tag addr compare swap twin => Sys2Proof.Machine.execCas8 port tag addr compare swap twin s
  | .cas16 port tag addr compare swap twin => Sys2Proof.Machine.execCas16 port tag addr compare swap twin s
  | .fadd8 port tag addr addend twin => Sys2Proof.Machine.execFadd8 port tag addr addend twin s
  | .swap8 port tag addr value twin => Sys2Proof.Machine.execSwap8 port tag addr value twin s
  | .fenceTwin port tag => Sys2Proof.Machine.execFenceTwin port tag s
  | .lockMemberTimeout port => Sys2Proof.Machine.execLockMemberTimeout port s
  | .tagDeadline port => Sys2Proof.Machine.execTagDeadline port s
  | .twinDurableDeadline port tag => Sys2Proof.Machine.execTwinDurableDeadline port tag s
  | .responseEgress port => Sys2Proof.Machine.execResponseEgress port s
  | .lateResponseDrop port tag => Sys2Proof.Machine.execLateResponseDrop port tag s
  | .egressCredit port => Sys2Proof.Machine.execEgressCredit port s
  | .queuePointerMismatch queue unit which => Sys2Proof.Machine.execQueuePointerMismatch queue unit which s
  | .outputArbitration x out => Sys2Proof.Machine.execOutputArbitration x out s
  | .linkCrcFail x input => Sys2Proof.Machine.execLinkCrcFail x input s
  | .linkRetry x input pass => Sys2Proof.Machine.execLinkRetry x input pass s
  | .slotTableSwap => Sys2Proof.Machine.execSlotTableSwap s
  | .calendarSwap => Sys2Proof.Machine.execCalendarSwap s
  | .creditQueueResize x queue => Sys2Proof.Machine.execCreditQueueResize x queue s
  | .creditChangeTimeout vnet => Sys2Proof.Machine.execCreditChangeTimeout vnet s
  | .formatComplete d => Sys2Proof.Machine.execFormatComplete d s
  | .positionGrant c => Sys2Proof.Machine.execPositionGrant c s
  | .entryGuarded c => Sys2Proof.Machine.execEntryGuarded c s
  | .gateWindowClose c => Sys2Proof.Machine.execGateWindowClose c s
  | .refreshPlacement c bank set mr4 twice => Sys2Proof.Machine.execRefreshPlacement c bank set mr4 twice s
  | .rfmForced c sub rankSlot bank => Sys2Proof.Machine.execRfmForced c sub rankSlot bank s
  | .refreshDoubleExit c => Sys2Proof.Machine.execRefreshDoubleExit c s
  | .sensorReadingTimeout c => Sys2Proof.Machine.execSensorReadingTimeout c s
  | .rowIdleTimeout c sub rankSlot bank => Sys2Proof.Machine.execRowIdleTimeout c sub rankSlot bank s
  | .alertEpisodeStart c sub => Sys2Proof.Machine.execAlertEpisodeStart c sub s
  | .alertReleased c sub => Sys2Proof.Machine.execAlertReleased c sub s
  | .alertStuckTimeout c sub => Sys2Proof.Machine.execAlertStuckTimeout c sub s
  | .alertEpisodeEnd c sub => Sys2Proof.Machine.execAlertEpisodeEnd c sub s
  | .powerStateExit c => Sys2Proof.Machine.execPowerStateExit c s
  | .powerExitComplete c => Sys2Proof.Machine.execPowerExitComplete c s
  | .sramUncorrectable store unit line both => Sys2Proof.Machine.execSramUncorrectable store unit line both s
  | .sliceArrival c port tag => Sys2Proof.Machine.execSliceArrival c port tag s
  | .horizonAdvance c => Sys2Proof.Machine.execHorizonAdvance c s
  | .fillComplete c line => Sys2Proof.Machine.execFillComplete c line s
  | .writebackComplete c line => Sys2Proof.Machine.execWritebackComplete c line s
  | .dirtyAgeExpiry c line => Sys2Proof.Machine.execDirtyAgeExpiry c line s
  | .ledgerDirtyAge c line => Sys2Proof.Machine.execLedgerDirtyAge c line s
  | .claimResource link tag sub => Sys2Proof.Machine.execClaimResource link tag sub s
  | .releaseClaim link tag sub => Sys2Proof.Machine.execReleaseClaim link tag sub s
  | .keyRecord words => Sys2Proof.Machine.execKeyRecord words s
  | .keyIntakeTimeout => Sys2Proof.Machine.execKeyIntakeTimeout s
  | .keyAdopt link tag => Sys2Proof.Machine.execKeyAdopt link tag s
  | .migrationBurst d page => Sys2Proof.Machine.execMigrationBurst d page s
  | .deviceErrorLeak c => Sys2Proof.Machine.execDeviceErrorLeak c s
  | .erasedDeviceWrite link tag c entry value => Sys2Proof.Machine.execErasedDeviceWrite link tag c entry value s
  | .scrubRun c => Sys2Proof.Machine.execScrubRun c s
  | .freezeRequest link tag c => Sys2Proof.Machine.execFreezeRequest link tag c s
  | .resume link tag c => Sys2Proof.Machine.execResume link tag c s
  | .retrainResume link tag c => Sys2Proof.Machine.execRetrainResume link tag c s
  | .retireRank link tag c => Sys2Proof.Machine.execRetireRank link tag c s
  | .remoteAnswerTimeout seq => Sys2Proof.Machine.execRemoteAnswerTimeout seq s
  | .repairBurst entry => Sys2Proof.Machine.execRepairBurst entry s
  | .frameCloseTimeout stream => Sys2Proof.Machine.execFrameCloseTimeout stream s
  | .heartbeat stream => Sys2Proof.Machine.execHeartbeat stream s
  | .data port bytes => Sys2Proof.Machine.execData port bytes s
  | .ack port bytes => Sys2Proof.Machine.execAck port bytes s
  | .remoteRequest port bytes => Sys2Proof.Machine.execRemoteRequest port bytes s
  | .remoteResponse port bytes => Sys2Proof.Machine.execRemoteResponse port bytes s
  | .hello port bytes => Sys2Proof.Machine.execHello port bytes s
  | .nakDelay stream => Sys2Proof.Machine.execNakDelay stream s
  | .ackInterval => Sys2Proof.Machine.execAckInterval s
  | .helloInterval => Sys2Proof.Machine.execHelloInterval s
  | .replayTimeout => Sys2Proof.Machine.execReplayTimeout s
  | .remoteRequestResend seq => Sys2Proof.Machine.execRemoteRequestResend seq s
  | .remoteServiceExpiry seq => Sys2Proof.Machine.execRemoteServiceExpiry seq s
  | .pathSilentTimeout port => Sys2Proof.Machine.execPathSilentTimeout port s
  | .breakTimeout d => Sys2Proof.Machine.execBreakTimeout d s
  | .pairingTimeout d => Sys2Proof.Machine.execPairingTimeout d s
  | .twinSilent d => Sys2Proof.Machine.execTwinSilent d s
  | .applyHorizonAdvance d => Sys2Proof.Machine.execApplyHorizonAdvance d s
  | .promote link tag d => Sys2Proof.Machine.execPromote link tag d s
  | .demote link tag d => Sys2Proof.Machine.execDemote link tag d s
  | .demoteComplete d => Sys2Proof.Machine.execDemoteComplete d s
  | .mirrorBreak link tag d => Sys2Proof.Machine.execMirrorBreak link tag d s
  | .fullPush link tag d => Sys2Proof.Machine.execFullPush link tag d s
  | .resyncPushBurst d => Sys2Proof.Machine.execResyncPushBurst d s
  | .resyncPullBurst d => Sys2Proof.Machine.execResyncPullBurst d s
  | .rebuildBurst c => Sys2Proof.Machine.execRebuildBurst c s
  | .hardwareSweep c r => Sys2Proof.Machine.execHardwareSweep c r s
  | .trainingComplete c verified => Sys2Proof.Machine.execTrainingComplete c verified s
  | .rank0Fallback c r => Sys2Proof.Machine.execRank0Fallback c r s
  | .trainingDone link tag c verified => Sys2Proof.Machine.execTrainingDone link tag c verified s
  | .firmwareTrainTimeout c => Sys2Proof.Machine.execFirmwareTrainTimeout c s
  | .trainRequest link tag c => Sys2Proof.Machine.execTrainRequest link tag c s
  | .mrr link tag c => Sys2Proof.Machine.execMrr link tag c s
  | .mrw link tag c owned => Sys2Proof.Machine.execMrw link tag c owned s
  | .mpc link tag c owned => Sys2Proof.Machine.execMpc link tag c owned s
  | .controlWordWrite link tag c owned => Sys2Proof.Machine.execControlWordWrite link tag c owned s
  | .readSweep link tag c => Sys2Proof.Machine.execReadSweep link tag c s
  | .writeReadSweep link tag c => Sys2Proof.Machine.execWriteReadSweep link tag c s
  | .writePattern link tag c => Sys2Proof.Machine.execWritePattern link tag c s
  | .levelingSweep link tag c => Sys2Proof.Machine.execLevelingSweep link tag c s
  | .enableSweep link tag c => Sys2Proof.Machine.execEnableSweep link tag c s
  | .helperOpComplete c r => Sys2Proof.Machine.execHelperOpComplete c r s
  | .crossScanComplete c lane scan => Sys2Proof.Machine.execCrossScanComplete c lane scan s
  | .calibrationSwap c => Sys2Proof.Machine.execCalibrationSwap c s
  | .tempBaselineAdjust c => Sys2Proof.Machine.execTempBaselineAdjust c s
  | .calRunRequest link tag c => Sys2Proof.Machine.execCalRunRequest link tag c s
  | .measurementRunEnd c => Sys2Proof.Machine.execMeasurementRunEnd c s
  | .writeTrack c rankSlot runtime counts => Sys2Proof.Machine.execWriteTrack c rankSlot runtime counts s
  | .writeRetrain c centres => Sys2Proof.Machine.execWriteRetrain c centres s
  | .refCalibration c targets => Sys2Proof.Machine.execRefCalibration c targets s
  | .eyeScanRequest link tag c value => Sys2Proof.Machine.execEyeScanRequest link tag c value s
  | .senseExcursion input mv => Sys2Proof.Machine.execSenseExcursion input mv s
  | .senseQualified input mv => Sys2Proof.Machine.execSenseQualified input mv s
  | .rampTimeout => Sys2Proof.Machine.execRampTimeout s
  | .railDischarged rail => Sys2Proof.Machine.execRailDischarged rail s
  | .dischargeTimeout rail => Sys2Proof.Machine.execDischargeTimeout rail s
  | .supplyRetry link tag => Sys2Proof.Machine.execSupplyRetry link tag s
  | .vddpLowCutoff => Sys2Proof.Machine.execVddpLowCutoff s
  | .collapse => Sys2Proof.Machine.execCollapse s
  | .holdHardStop mv => Sys2Proof.Machine.execHoldHardStop mv s
  | .drainComplete => Sys2Proof.Machine.execDrainComplete s
  | .rootCommitComplete => Sys2Proof.Machine.execRootCommitComplete s
  | .squallSelfRefreshDone vinIn => Sys2Proof.Machine.execSquallSelfRefreshDone vinIn s
  | .thawQualify => Sys2Proof.Machine.execThawQualify s
  | .thawComplete => Sys2Proof.Machine.execThawComplete s
  | .saveComplete bays => Sys2Proof.Machine.execSaveComplete bays s
  | .saveCompleteTimeout => Sys2Proof.Machine.execSaveCompleteTimeout s
  | .bayChainScan bits => Sys2Proof.Machine.execBayChainScan bits s
  | .buttonPress b => Sys2Proof.Machine.execButtonPress b s
  | .insertion b => Sys2Proof.Machine.execInsertion b s
  | .discoveryComplete b m => Sys2Proof.Machine.execDiscoveryComplete b m s
  | .pmicOnTimeout b => Sys2Proof.Machine.execPmicOnTimeout b s
  | .pmicOffTimeout b => Sys2Proof.Machine.execPmicOffTimeout b s
  | .startRemoval link tag b => Sys2Proof.Machine.execStartRemoval link tag b s
  | .allowRemoval link tag b => Sys2Proof.Machine.execAllowRemoval link tag b s
  | .ledTest link tag b => Sys2Proof.Machine.execLedTest link tag b s
  | .ledTestExpiry b => Sys2Proof.Machine.execLedTestExpiry b s
  | .sidebandTempPoll b reading => Sys2Proof.Machine.execSidebandTempPoll b reading s
  | .restoreComplete b status => Sys2Proof.Machine.execRestoreComplete b status s
  | .restoreTimeout b => Sys2Proof.Machine.execRestoreTimeout b s
  | .eventPendingClear link tag n => Sys2Proof.Machine.execEventPendingClear link tag n s
  | .ibiSent => Sys2Proof.Machine.execIbiSent s
  | .eventQueueRead link tag => Sys2Proof.Machine.execEventQueueRead link tag s
  | .eventQueueMark link tag => Sys2Proof.Machine.execEventQueueMark link tag s
  | .eventQueueRewind link tag => Sys2Proof.Machine.execEventQueueRewind link tag s
  | .eventQueueRelease link tag => Sys2Proof.Machine.execEventQueueRelease link tag s
  | .eventLogClear link tag => Sys2Proof.Machine.execEventLogClear link tag s
  | .snapshotArm link tag frame => Sys2Proof.Machine.execSnapshotArm link tag frame s
  | .sampleRelease link tag index => Sys2Proof.Machine.execSampleRelease link tag index s
  | .entdaa addr twinPid => Sys2Proof.Machine.execEntdaa addr twinPid s
  | .rstdaa => Sys2Proof.Machine.execRstdaa s
  | .setnewda addr => Sys2Proof.Machine.execSetnewda addr s
  | .enec bits => Sys2Proof.Machine.execEnec bits s
  | .disec bits => Sys2Proof.Machine.execDisec bits s
  | .getpid => Sys2Proof.Machine.execGetpid s
  | .getbcr => Sys2Proof.Machine.execGetbcr s
  | .getdcr => Sys2Proof.Machine.execGetdcr s
  | .getstatus => Sys2Proof.Machine.execGetstatus s
  | .setmwl len => Sys2Proof.Machine.execSetmwl len s
  | .setmrl len => Sys2Proof.Machine.execSetmrl len s
  | .getmwl => Sys2Proof.Machine.execGetmwl s
  | .getmrl => Sys2Proof.Machine.execGetmrl s
  | .getcaps => Sys2Proof.Machine.execGetcaps s
  | .enthdr0 => Sys2Proof.Machine.execEnthdr0 s
  | .i3cPrivateRead => Sys2Proof.Machine.execI3cPrivateRead s
  | .windowDoorbell value => Sys2Proof.Machine.execWindowDoorbell value s
  | .objectRead link hdr => Sys2Proof.Machine.execObjectRead link hdr s
  | .objectWrite link hdr bytes => Sys2Proof.Machine.execObjectWrite link hdr bytes s
  | .readBlock link hdr => Sys2Proof.Machine.execReadBlock link hdr s
  | .writeBlock link hdr bytes => Sys2Proof.Machine.execWriteBlock link hdr bytes s
  | .commit link hdr bytes => Sys2Proof.Machine.execCommit link hdr bytes s
  | .abort link hdr => Sys2Proof.Machine.execAbort link hdr s
  | .store link hdr => Sys2Proof.Machine.execStore link hdr s
  | .restore link hdr bytes => Sys2Proof.Machine.execRestore link hdr bytes s
  | .stagingIdleTimeout => Sys2Proof.Machine.execStagingIdleTimeout s
  | .linkRightsConfig link tag value => Sys2Proof.Machine.execLinkRightsConfig link tag value s
  | .profileLock link tag port => Sys2Proof.Machine.execProfileLock link tag port s
  | .enterConfig link tag => Sys2Proof.Machine.execEnterConfig link tag s
  | .leaveConfig link tag => Sys2Proof.Machine.execLeaveConfig link tag s
  | .blockReset link tag => Sys2Proof.Machine.execBlockReset link tag s
  | .testReset link tag => Sys2Proof.Machine.execTestReset link tag s
  | .enterTest link tag => Sys2Proof.Machine.execEnterTest link tag s
  | .memGo link tag => Sys2Proof.Machine.execMemGo link tag s
  | .translateAddress link tag addr => Sys2Proof.Machine.execTranslateAddress link tag addr s
  | .powerOnReset straps => Sys2Proof.Machine.execPowerOnReset straps s
  | .refclkPllLock => Sys2Proof.Machine.execRefclkPllLock s
  | .mramRead => Sys2Proof.Machine.execMramRead s
  | .moduleDiscoveryDone mods => Sys2Proof.Machine.execModuleDiscoveryDone mods s
  | .trainingStageEnd => Sys2Proof.Machine.execTrainingStageEnd s
  | .metadataCheck => Sys2Proof.Machine.execMetadataCheck s
  | .mirrorStartEnd => Sys2Proof.Machine.execMirrorStartEnd s
  | .bypass => Sys2Proof.Machine.execBypass s
  | .samplePreload => Sys2Proof.Machine.execSamplePreload s
  | .extest drivesDram => Sys2Proof.Machine.execExtest drivesDram s
  | .ddrConnectivity link tag => Sys2Proof.Machine.execDdrConnectivity link tag s
  | .sramBist link tag => Sys2Proof.Machine.execSramBist link tag s
  | .mramReadCheck link tag => Sys2Proof.Machine.execMramReadCheck link tag s
  | .mramBist link tag => Sys2Proof.Machine.execMramBist link tag s
  | .mirrorLoopInternal link tag => Sys2Proof.Machine.execMirrorLoopInternal link tag s
  | .mirrorLoopExternal link tag => Sys2Proof.Machine.execMirrorLoopExternal link tag s
  | .testComplete findings => Sys2Proof.Machine.execTestComplete findings s
  | .injectEcc link tag => Sys2Proof.Machine.execInjectEcc link tag s
  | .injectMac link tag => Sys2Proof.Machine.execInjectMac link tag s
  | .injectPointer link tag => Sys2Proof.Machine.execInjectPointer link tag s
  | .injectCrossingLink link tag => Sys2Proof.Machine.execInjectCrossingLink link tag s
  | .injectMirrorFrame link tag => Sys2Proof.Machine.execInjectMirrorFrame link tag s
  | .injectDisarm link tag => Sys2Proof.Machine.execInjectDisarm link tag s
  | .slotCountCorrected a b c => Sys2Proof.Machine.execSlotCountCorrected a b c s
  | .ingressOverrun port => Sys2Proof.Machine.execIngressOverrun port s
  | .sramCorrected store => Sys2Proof.Machine.execSramCorrected store s
  | .eyeScanComplete c lane map => Sys2Proof.Machine.execEyeScanComplete c lane map s
  | .refusedPressBlinkEnd b => Sys2Proof.Machine.execRefusedPressBlinkEnd b s
  | .hdrExit => Sys2Proof.Machine.execHdrExit s
  | .frameCrcError link fault hdr => Sys2Proof.Machine.execFrameCrcError link fault hdr s
  | .badOpcode link opcode hdr => Sys2Proof.Machine.execBadOpcode link opcode hdr s
  | .windowBufferWrite offset bytes => Sys2Proof.Machine.execWindowBufferWrite offset bytes s
  | .reservedKindFrame port bytes => Sys2Proof.Machine.execReservedKindFrame port bytes s

end Sys2Proof.Machine
end

