-- ==== Sys2Proof/Safety.lean ====
section
/-! DEFINITION. What counts as a safe run: no command is refused and none faults, and the byte stores keep their
canonical form; and the terms the claims speak in. -/

namespace Sys2Proof.Machine

/-- An outcome that goes on. -/
def Safe (o : Host.Outcome State Fault Refusal) : Prop := ∃ t, o = .next t

/-- The byte stores of the block, each in its canonical form: MRAM, the records of the dictionary, the staged records and
the management window's buffer. -/
def State.bytesOk (s : State) : Prop :=
  Memory.wf s.mram = true ∧ Memory.wf s.recs = true ∧ Memory.wf s.mgmt.stagedRecs = true ∧ Memory.wf s.mgmt.winBuf = true

/-- Management link `link` takes a request that carries n data bytes: it is open, the window is not Busy, and both frames
fit the lengths the target was given (R404, R406, R410, R412). -/
abbrev Takes (link : Fin 2) (n : Nat) (s : State) : Prop :=
  linkOpen link s = true ∧ (link.val = 0 → s.mgmt.winStatus ≠ 1) ∧ (link.val = 1 → 18 + n ≤ s.obj 0x1100 3)

/-- A write of n bytes to an Immediate object that level `lvl` may write meets no refusal by the link, its rights or the
state of the block (R415, R418, R419, R427). -/
abbrev CanWrite (link : Fin 2) (n lvl : Nat) (s : State) : Prop := Takes link n s ∧ lvl ≤ s.level link ∧ drains s = false

/-- The header of a write frame of n bytes to an object. -/
def writeHdr (tag : BitVec 8) (idx sub n : Nat) : ReqHdr := ⟨tag, BitVec.ofNat 16 idx, BitVec.ofNat 8 sub, 0, BitVec.ofNat 16 n, 0, 0⟩

/-- t is u with the response of result 0 to a write of the object, of n bytes, held on the link (R404, R412, R416). -/
def Written (link : Fin 2) (tag : BitVec 8) (idx sub n : Nat) (u t : State) : Prop :=
  t = endFrame link 2 (writeHdr tag idx sub n) ⟨u, 0, 0, []⟩

/-! ### Requests -/

/-- A packet of header h and its data units, received whole in this cycle. -/
def packetOf (h : BitVec 512) (data : List (BitVec 512)) (s : State) : Packet := { hdr := h, data := data, need := 0, bad := false, at_ := s.cycleNow }

/-- s with the packet last in the bridge of port p, its credits taken (R60). -/
def bridged (p : Nat) (k : Packet) (s : State) : State :=
  s.modPort p (fun q => { q with bridge := q.bridge ++ [k], credits := q.credits - (1 + k.data.length) })

/-- The packet k at the front of port p's bridge, `rest` behind it, passes Forecast toward channel c as grant g: the port
registers now, the tag is free, checks 1 to 3 and the shaper pass, it is in no locked sequence and no fence, and the test
of its class passes (R21, R48). -/
structure Passes (p c : Nat) (k : Packet) (rest : List Packet) (g : Grant) (s : State) : Prop where
  front : (s.port p).bridge = k :: rest
  whole : k.need = 0
  opened : portClosed s p = false
  fresh : ((s.port p).tags.any (fun u => u.tag == hdrTag k.hdr)) = false
  legal : checkRequest s p k.hdr k.data k.bad = none
  tokens : tokensOk s p (tokenCost k.hdr) = true
  single : inSequence s p k.hdr = false
  fence : hdrCmd k.hdr ≠ 0x30
  target : ∃ l d x, s.target (hdrAddr k.hdr) = some (c, l, d, x) ∧ classTest (wakeChan c s) p c l d k.hdr (s.stampNow p) = .pass g

/-- u is s with packet k registered at port p: its request, stamped now with the deadline of the grant, holds its tag and is
last in the ingress queue, and it is the port's one registration of this cycle (R15, R16, R21, R57). -/
def Registered (p : Nat) (k : Packet) (rest : List Packet) (g : Grant) (s u : State) : Prop :=
  ∃ r : Req, r.port = p ∧ r.tag = hdrTag k.hdr ∧ r.cmd = hdrCmd k.hdr ∧ r.len = hdrLen k.hdr ∧ r.addr = hdrAddr k.hdr ∧
    r.opnd = hdrOperand k.hdr ∧ r.mask = hdrMask k.hdr ∧ r.data = k.data ∧ r.stamp = s.stampNow p ∧ r.deadline = g.deadline ∧
    (u.port p).tags = (s.port p).tags ++ [{ tag := r.tag, req := r, lost := false }] ∧
    (u.port p).ingress = (s.port p).ingress ++ [r] ∧ (u.port p).bridge = rest ∧
    (u.port p).lastReg = some s.cycleNow

/-- Port p has the credits for a request of header h and the data its command takes, and it passes Forecast alone. -/
def Issuable (p c : Nat) (h : BitVec 512) (data : List (BitVec 512)) (g : Grant) (s : State) : Prop :=
  1 + data.length ≤ (s.port p).credits ∧ unitsOwed h data.length = data.length ∧ Passes p c (packetOf h data s) [] g (bridged p (packetOf h data s) s)

/-- t is s with that request registered and then handed to its slice. -/
def Issued (p c : Nat) (h : BitVec 512) (data : List (BitVec 512)) (g : Grant) (s t : State) : Prop :=
  ∃ u, Registered p (packetOf h data s) [] g (bridged p (packetOf h data s) s) u ∧ t = arriveAt c p (hdrTag h) u

/-- A FENCE_TWIN of header h reaches Forecast at port p with nothing ahead of it and is admitted (R29, R48). -/
structure FenceOpen (p : Nat) (h : BitVec 512) (s : State) : Prop where
  credit : 1 ≤ (s.port p).credits
  front : (s.port p).bridge = []
  opened : portClosed (bridged p (packetOf h [] s) s) p = false
  fresh : ((s.port p).tags.any (fun u => u.tag == hdrTag h)) = false
  unanswered : (s.port p).answered (hdrTag h) (s.stampNow p) = false
  legal : checkRequest (bridged p (packetOf h [] s) s) p h [] false = none
  tokens : tokensOk s p (tokenCost h) = true
  single : (s.port p).lock = none ∧ hdrLock h = false
  fence : hdrCmd h = 0x30

/-! ### Lines -/

/-- The w bytes of a line from byte off on, as a number. -/
def fieldOf (v : BitVec 512) (off w : Nat) : Nat := bits v.toNat (8 * (off + w) - 1) (8 * off)

/-- A stored line whose device k drove the wrong symbols: symbol k of codeword i differs by e i (R227). -/
def damaged (k : Fin 10) (e : Fin 8 → BitVec 8) (v : BitVec 640) : BitVec 640 :=
  (List.finRange 8).foldl (fun a (i : Fin 8) => fixSymbol a i.val k.val (e i).toNat) v

/-! ### Mirror frames -/

/-- The bytes are a frame of the kind that passes steps 1 and 2 of R270 at mirror port `port`, with plaintext p. -/
def Opens (kind port : Nat) (bs p : List Byte) (s : State) : Prop :=
  looping s port = false ∧ frameForm kind bs = true ∧ injectArmed s 5 = false ∧ ∃ k, s.keys.links = some k ∧ openFrame (rxKey k port) bs = some p

/-- The frame is of the peer's transmit session (R270 step 3). -/
def OfSession (bs : List Byte) (s : State) : Prop := s.mirror.havePeer = true ∧ fieldAt bs 2 2 = s.obj 0x6000 3

/-- The port is heard and the frame counted (R275, R395). -/
def heard (port : Nat) (s : State) : State := (portHeard port s).addObj 0x6000 0x22 1

/-! ### Frames of the state -/

/-- The parts of the state other than the queue of commands, one for each field. -/
inductive Part where
  | cad | ports | xbars | net | chans | plaza | plazaLru | order
  | transit | gathers | samples | ledger | ledgerLru | found | pinned | sealedList
  | sealedFrom | dram | dists | keys | vault | mram | repair | mirror
  | sup | bays | ev | mgmt | blk | objs | recs | shadowObjs
  | freeCtr
  deriving DecidableEq, Repr

/-- The part is the same in both states. -/
def Part.same (p : Part) (s t : State) : Prop := match p with
  | .cad => t.cad = s.cad
  | .ports => t.ports = s.ports
  | .xbars => t.xbars = s.xbars
  | .net => t.net = s.net
  | .chans => t.chans = s.chans
  | .plaza => t.plaza = s.plaza
  | .plazaLru => t.plazaLru = s.plazaLru
  | .order => t.order = s.order
  | .transit => t.transit = s.transit
  | .gathers => t.gathers = s.gathers
  | .samples => t.samples = s.samples
  | .ledger => t.ledger = s.ledger
  | .ledgerLru => t.ledgerLru = s.ledgerLru
  | .found => t.found = s.found
  | .pinned => t.pinned = s.pinned
  | .sealedList => t.sealedList = s.sealedList
  | .sealedFrom => t.sealedFrom = s.sealedFrom
  | .dram => t.dram = s.dram
  | .dists => t.dists = s.dists
  | .keys => t.keys = s.keys
  | .vault => t.vault = s.vault
  | .mram => t.mram = s.mram
  | .repair => t.repair = s.repair
  | .mirror => t.mirror = s.mirror
  | .sup => t.sup = s.sup
  | .bays => t.bays = s.bays
  | .ev => t.ev = s.ev
  | .mgmt => t.mgmt = s.mgmt
  | .blk => t.blk = s.blk
  | .objs => t.objs = s.objs
  | .recs => t.recs = s.recs
  | .shadowObjs => t.shadowObjs = s.shadowObjs
  | .freeCtr => t.freeCtr = s.freeCtr

/-- t differs from s in no part but those listed, and not in the queue of commands. -/
def Frame (changed : List Part) (s t : State) : Prop :=
  t.pending = s.pending ∧ ∀ p : Part, p ∉ changed → p.same s t

/-- All the parts. -/
def Part.all : List Part :=
  [.cad, .ports, .xbars, .net, .chans, .plaza, .plazaLru, .order, .transit, .gathers, .samples, .ledger, .ledgerLru, .found, .pinned, .sealedList,
    .sealedFrom, .dram, .dists, .keys, .vault, .mram, .repair, .mirror, .sup, .bays, .ev, .mgmt, .blk, .objs, .recs, .shadowObjs, .freeCtr]

/-- All the parts but these. -/
def Part.allBut (kept : List Part) : List Part := Part.all.filter (fun p => !kept.contains p)

/-- The parts of the state a command may change, read off its meaning. A row that is a write of a management object may
change what the object's own rule changes: its statement gives the state after it whole. -/
def changes : Instr → List Part
  | .egressCredit .. => [.ports]
  | .entryGuarded .. | .sensorReadingTimeout .. | .rowIdleTimeout .. | .powerStateExit .. | .deviceErrorLeak ..
  | .tempBaselineAdjust .. => [.chans]
  | .gateWindowClose .. | .refreshDoubleExit .. | .rstdaa .. | .setnewda .. | .enec .. | .disec .. | .setmwl ..
  | .setmrl .. | .sramCorrected .. => [.objs]
  | .vddpLowCutoff .. => [.sup]
  | .ledTestExpiry .. | .refusedPressBlinkEnd .. => [.bays]
  | .ibiSent .. => [.ev]
  | .getpid .. | .getbcr .. | .getdcr .. | .getstatus .. | .getmwl .. | .getmrl .. | .getcaps .. | .enthdr0 ..
  | .i3cPrivateRead .. | .hdrExit .. => [.mgmt]
  | .refclkPllLock .. => [.cad]
  | .bypass .. | .samplePreload .. => [.blk]
  | .lastFrameCheckpoint .. => [.vault, .mram]
  | .classChangeEffect .. => [.ports, .objs]
  | .slotTableSwap .. | .calendarSwap .. | .eyeScanComplete .. => [.objs, .recs]
  | .creditQueueResize .. => [.xbars, .net]
  | .alertReleased .. => [.chans, .objs]
  | .frameCloseTimeout .. | .heartbeat .. | .nakDelay .. | .ackInterval .. | .helloInterval ..
  | .remoteRequestResend .. => [.mirror, .objs]
  | .remoteServiceExpiry .. => [.chans, .mirror]
  | .pmicOffTimeout .. => [.bays, .objs]
  | .entdaa .. => [.objs, .freeCtr]
  | .windowDoorbell .. | .stagingIdleTimeout .. | .frameCrcError .. | .badOpcode .. | .windowBufferWrite .. =>
      [.mgmt, .objs]
  | .extest .. => [.blk, .objs]
  | .lateResponseDrop .. => [.ports, .xbars, .objs]
  | .refreshPlacement .. | .firmwareTrainTimeout .. | .helperOpComplete .. => [.chans, .objs, .recs]
  | .testComplete .. => [.blk, .objs, .recs]
  | .formatComplete .. => [.dists, .mram, .bays, .objs]
  | .dirtyAgeExpiry .. => [.chans, .plaza, .samples, .objs]
  | .measurementRunEnd .. => [.chans, .mram, .objs, .freeCtr]
  | .thawComplete .. => [.vault, .mram, .sup, .blk]
  | .restoreComplete .. => [.mram, .sup, .bays, .objs]
  | .trainingStageEnd .. => [.keys, .blk, .recs, .freeCtr]
  | .cadenceClockLoss .. | .slotCountCorrected .. => [.cad, .mram, .ev, .objs, .freeCtr]
  | .packetReceived .. | .ingressOverrun .. => [.ports, .mram, .ev, .objs, .freeCtr]
  | .linkCrcFail .. => [.xbars, .mram, .ev, .objs, .freeCtr]
  | .creditChangeTimeout .. => [.net, .mram, .ev, .objs, .freeCtr]
  | .rfmForced .. | .alertEpisodeEnd .. | .scrubRun .. | .writeTrack .. => [.chans, .mram, .ev, .objs, .freeCtr]
  | .replayTimeout .. | .pathSilentTimeout .. => [.mram, .mirror, .ev, .objs, .freeCtr]
  | .pairingTimeout .. => [.dists, .mram, .ev, .objs, .freeCtr]
  | .refCalibration .. => [.mram, .ev, .objs, .recs, .freeCtr]
  | .senseQualified .. => [.sup, .blk, .objs, .recs, .freeCtr]
  | .rampTimeout .. => [.mram, .sup, .ev, .objs, .freeCtr]
  | .collapse .. => [.mram, .sup, .blk, .objs, .freeCtr]
  | .buttonPress .. | .insertion .. | .pmicOnTimeout .. | .restoreTimeout .. => [.mram, .bays, .ev, .objs, .freeCtr]
  | .linkRetry .. => [.xbars, .mram, .ev, .blk, .objs, .freeCtr]
  | .demoteComplete .. | .resyncPullBurst .. => [.dists, .mram, .mirror, .ev, .objs, .freeCtr]
  | .hardwareSweep .. | .rank0Fallback .. | .crossScanComplete .. | .calibrationSwap .. =>
      [.chans, .mram, .ev, .objs, .recs, .freeCtr]
  | .sidebandTempPoll .. => [.chans, .mram, .bays, .ev, .objs, .freeCtr]
  | .writeRetrain .. | .rootCommitComplete .. => [.chans, .mram, .sup, .ev, .objs, .recs, .freeCtr]
  | .mirrorStartEnd .. => [.chans, .dists, .bays, .blk, .objs, .recs, .freeCtr]
  | .twinDurableDeadline .. => [.ports, .samples, .mram, .mirror, .sup, .ev, .objs, .freeCtr]
  | .responseEgress .. => [.ports, .xbars, .samples, .mram, .ev, .objs, .recs, .freeCtr]
  | .tagDeadline .. => [.ports, .samples, .mram, .mirror, .sup, .ev, .objs, .recs, .freeCtr]
  | .keyIntakeTimeout .. => [.dists, .keys, .vault, .mram, .ev, .blk, .objs, .recs, .freeCtr]
  | .trainingComplete .. => [.chans, .plaza, .dists, .mram, .bays, .ev, .objs, .recs, .freeCtr]
  | .discoveryComplete .. => [.chans, .dram, .dists, .mram, .bays, .ev, .objs, .recs, .freeCtr]
  | .keyRecord .. => [.sealedList, .sealedFrom, .dists, .keys, .vault, .mram, .ev, .blk, .objs, .recs, .freeCtr]
  | .remoteAnswerTimeout .. =>
      [.ports, .plaza, .order, .gathers, .samples, .mram, .mirror, .sup, .ev, .objs, .freeCtr]
  | .moduleDiscoveryDone .. => [.chans, .dram, .dists, .mram, .sup, .bays, .ev, .blk, .objs, .recs, .freeCtr]
  | .breakTimeout .. =>
      [.ports, .plaza, .order, .gathers, .samples, .dists, .mram, .repair, .mirror, .sup, .ev, .objs, .freeCtr]
  | .mramRead .. =>
      [.ports, .xbars, .chans, .sealedList, .dists, .vault, .mram, .repair, .sup, .ev, .blk, .objs, .recs, .freeCtr]
  | .ledgerDirtyAge .. =>
      Part.allBut [.cad, .ports, .xbars, .net, .plazaLru, .order, .transit, .gathers, .samples, .keys, .mirror, .sup, .bays, .mgmt, .shadowObjs]
  | .repairBurst .. =>
      Part.allBut [.cad, .ports, .xbars, .net, .plazaLru, .order, .transit, .gathers, .samples, .keys, .sup, .bays, .mgmt, .shadowObjs]
  | .migrationBurst .. =>
      Part.allBut [.cad, .ports, .xbars, .net, .plazaLru, .order, .transit, .gathers, .samples, .mirror, .bays, .mgmt, .shadowObjs]
  | .holdHardStop .. =>
      Part.allBut [.cad, .ports, .xbars, .net, .plazaLru, .order, .transit, .gathers, .keys, .mirror, .bays, .mgmt, .shadowObjs]
  | .rebuildBurst .. =>
      Part.allBut [.cad, .ports, .xbars, .net, .plazaLru, .order, .transit, .gathers, .samples, .keys, .mgmt, .shadowObjs]
  | .requestAdmission .. | .lockMemberTimeout .. | .queuePointerMismatch .. | .positionGrant ..
  | .alertEpisodeStart .. | .alertStuckTimeout .. | .sramUncorrectable .. | .horizonAdvance .. | .fillComplete ..
  | .writebackComplete .. | .data .. | .ack .. | .remoteRequest .. | .remoteResponse .. | .hello .. | .twinSilent ..
  | .applyHorizonAdvance .. | .resyncPushBurst .. | .reservedKindFrame .. =>
      Part.allBut [.cad, .xbars, .net, .transit, .keys, .bays, .mgmt, .shadowObjs]
  | .drainComplete .. => Part.allBut [.cad, .net, .plazaLru, .keys, .mirror, .bays, .mgmt, .shadowObjs]
  | .metadataCheck .. => Part.allBut [.cad, .xbars, .net, .plazaLru, .transit, .keys, .mgmt, .shadowObjs]
  | .senseExcursion .. => Part.allBut [.cad, .xbars, .net, .plazaLru, .keys, .bays, .shadowObjs]
  | .bayChainScan .. => Part.allBut [.cad, .xbars, .net, .transit, .keys, .mgmt, .shadowObjs]
  | .read .. | .readRaw .. | .write .. | .writeMasked .. | .cas8 .. | .cas16 .. | .fadd8 .. | .swap8 ..
  | .fenceTwin .. | .outputArbitration .. | .powerExitComplete .. | .sliceArrival .. =>
      Part.allBut [.cad, .net, .keys, .bays, .mgmt, .shadowObjs]
  | .railDischarged .. | .powerOnReset .. => Part.allBut [.dram, .mram, .freeCtr]
  | .thawQualify .. | .saveComplete .. => Part.allBut [.dram, .freeCtr]
  | .cadenceFrameReceived .. | .cadenceAcquireTimeout .. => Part.allBut [.plazaLru]
  | .dischargeTimeout .. | .squallSelfRefreshDone .. | .saveCompleteTimeout .. => Part.allBut [.dram]
  | .slotBoundary .. | .frameBoundary .. | .claimResource .. | .releaseClaim .. | .keyAdopt ..
  | .erasedDeviceWrite .. | .freezeRequest .. | .resume .. | .retrainResume .. | .retireRank .. | .promote ..
  | .demote .. | .mirrorBreak .. | .fullPush .. | .trainingDone .. | .trainRequest .. | .mrr .. | .mrw .. | .mpc ..
  | .controlWordWrite .. | .readSweep .. | .writeReadSweep .. | .writePattern .. | .levelingSweep ..
  | .enableSweep .. | .calRunRequest .. | .eyeScanRequest .. | .supplyRetry .. | .startRemoval .. | .allowRemoval ..
  | .ledTest .. | .eventPendingClear .. | .eventQueueRead .. | .eventQueueMark .. | .eventQueueRewind ..
  | .eventQueueRelease .. | .eventLogClear .. | .snapshotArm .. | .sampleRelease .. | .objectRead ..
  | .objectWrite .. | .readBlock .. | .writeBlock .. | .commit .. | .abort .. | .store .. | .restore ..
  | .linkRightsConfig .. | .profileLock .. | .enterConfig .. | .leaveConfig .. | .blockReset .. | .testReset ..
  | .enterTest .. | .memGo .. | .translateAddress .. | .ddrConnectivity .. | .sramBist .. | .mramReadCheck ..
  | .mramBist .. | .mirrorLoopInternal .. | .mirrorLoopExternal .. | .injectEcc .. | .injectMac ..
  | .injectPointer .. | .injectCrossingLink .. | .injectMirrorFrame .. | .injectDisarm .. => Part.all

end Sys2Proof.Machine
end

