-- ==== Sys2Proof/Certificates/Slice0/Obligations.lean ====
section
/-! DEFINITION. The statements for the provers, each a Prop under Obligations. Most say, for rows of one shape, that under
conditions on the state and the operands alone the row answers the next state the spec gives it, and what that state holds. -/

open Sys2Proof Sys2Proof.Machine

/-- For every state whose queue is c followed by q, step is exec of c on the state with the queue q. On an empty queue
step answers the state after one idle core cycle: that the idle step is a core cycle is the model's choice (log 20). -/
def Obligations.StepRunsFront : Prop :=
  (∀ (c : Instr) (q : List Instr) (s : State), s.pending = c :: q → step s = exec c { s with pending := q }) ∧
  (∀ (s : State), s.pending = [] → step s = .next (tick s))

/-- At State.reset the block is Off with admission closed, the queue is empty, the cadence is Acquiring, no key is held
and the key port is closed, the link rights are not locked, the supplies are off with EN_VAA low, every district is
Unformed with role Off, every channel is Untrained, every bay Empty, no event is pending, and the byte stores (MRAM,
records, staged records, window buffer) are in canonical form. Where the spec names no value the value is the model's
(log 2, log 3). -/
def Obligations.ResetState : Prop :=
  (State.reset.blk.st = .off ∧ State.reset.blk.admission = false ∧ State.reset.pending = [] ∧ State.reset.cad.st = .acquiring ∧
      State.reset.keys.cur = none ∧ State.reset.keys.portOpen = false ∧ State.reset.mgmt.locked = false ∧ State.reset.sup.st = .off ∧ State.reset.sup.enVaa = false ∧
      State.reset.obj 0x1300 6 = 4096 ∧ State.reset.obj 0x1200 1 = 0 ∧ State.reset.obj 0x2000 7 = 0 ∧
      (∀ d : Fin 4, (State.reset.dist d).st = .unformed ∧ State.reset.role d = 0) ∧ (∀ c : Fin 16, (State.reset.chan c).st = .untrained) ∧
      (∀ b : Fin 32, (State.reset.bay b).st = .empty) ∧ (∀ x : Fin 512, State.reset.obj (0x8000 + x) 5 = 0)) ∧
  (State.reset.bytesOk)

/-- From every state whose MRAM, records, staged records and window buffer have strictly rising addresses and list no byte
equal to what an unlisted address reads as, a step answers a state with the same property. Every one of the 226 rows
and the idle cycle is covered. -/
def Obligations.ByteStoresStayCanonical : Prop :=
  ∀ (s t : State), step s = .next t → s.bytesOk → t.bytesOk

/-- For every state there is a next state t that step answers, and the queue of t is the tail of the queue before: each
command is taken from the queue once and no command enters or leaves it otherwise. -/
def Obligations.EveryStepGoesOn : Prop :=
  ∀ (s : State), ∃ t, step s = .next t ∧ t.pending = s.pending.tail

/-- The map `changes` gives for every constructor the parts of the state (fields of State) its row may change. Whatever
the operands and the state, when exec answers a next state every other part is as before, and so is the queue. For the
management writes, whose effect is the object's own rule, the map names all parts: their statements give the next
state itself, or a frame of it. -/
def Obligations.EffectsConfined : Prop :=
  ∀ (i : Instr) (s t : State), exec i s = .next t → Frame (changes i) s t

/-- The rows ENTRY_GUARDED, SENSOR_READING_TIMEOUT, DEVICE_ERROR_LEAK, ROW_IDLE_TIMEOUT, RFM_FORCED, ALERT_EPISODE_END,
ALERT_RELEASED, POWER_STATE_EXIT, SCRUB_RUN, TEMP_BASELINE_ADJUST, FIRMWARE_TRAIN_TIMEOUT and CALIBRATION_SWAP on
channel c leave the whole state of every channel k other than c unchanged. -/
def Obligations.OtherChannelsKept : Prop :=
  ∀ (c : Fin 16) (sub : Fin 2) (rankSlot : Fin 8) (bank : Fin 32) (k : Nat) (s t : State), k ≠ c.val →
      (exec (.entryGuarded c) s = .next t → t.chan k = s.chan k) ∧
      (exec (.sensorReadingTimeout c) s = .next t → t.chan k = s.chan k) ∧
      (exec (.deviceErrorLeak c) s = .next t → t.chan k = s.chan k) ∧
      (exec (.rowIdleTimeout c sub rankSlot bank) s = .next t → t.chan k = s.chan k) ∧
      (exec (.rfmForced c sub rankSlot bank) s = .next t → t.chan k = s.chan k) ∧
      (exec (.alertEpisodeEnd c sub) s = .next t → t.chan k = s.chan k) ∧
      (exec (.alertReleased c sub) s = .next t → t.chan k = s.chan k) ∧
      (exec (.powerStateExit c) s = .next t → t.chan k = s.chan k) ∧
      (exec (.scrubRun c) s = .next t → t.chan k = s.chan k) ∧
      (exec (.tempBaselineAdjust c) s = .next t → t.chan k = s.chan k) ∧
      (exec (.firmwareTrainTimeout c) s = .next t → t.chan k = s.chan k) ∧
      (exec (.calibrationSwap c) s = .next t → t.chan k = s.chan k)

/-- For frame numbers a and b below 2^48 and d = (b − a) mod 2^48: b is ahead of a exactly when 1 ≤ d ≤ 2^47 − 1, b is
behind a exactly when d ≥ 2^47 + 1 (for a ≠ b), and the comparison has no answer, which the model treats as a
conflict, exactly when d = 2^47. -/
def Obligations.FrameNumberOrder : Prop :=
  ∀ (a b : Nat), a < 2 ^ 48 → b < 2 ^ 48 →
      (frameAhead a b = some true ↔ 1 ≤ (b + 2 ^ 48 - a) % 2 ^ 48 ∧ (b + 2 ^ 48 - a) % 2 ^ 48 ≤ 2 ^ 47 - 1) ∧
      (a ≠ b → (frameAhead a b = some false ↔ 2 ^ 47 + 1 ≤ (b + 2 ^ 48 - a) % 2 ^ 48)) ∧
      (frameAhead a b = none ↔ (b + 2 ^ 48 - a) % 2 ^ 48 = 2 ^ 47)

/-- A stamp lies before another exactly when its frame does under R8, or the frames are equal and its slot is lower, or
these are equal and its cycle is lower, or these are equal and its port is lower. A header at a port that has
registered one in this cycle, or in a hold cycle, waits: the row only counts it. A header that passes Forecast is
registered under the stamp of this cycle, and the port's registration of the cycle is taken. -/
def Obligations.StampsOrdered : Prop :=
  (∀ (a b : Stamp), a.frame < 2 ^ 48 → b.frame < 2 ^ 48 →
      (stampLt a b = true ↔ frameAhead a.frame b.frame = some true ∨ (a.frame = b.frame ∧ (a.slot < b.slot ∨ (a.slot = b.slot ∧
        (a.cycle < b.cycle ∨ (a.cycle = b.cycle ∧ a.port < b.port))))))) ∧
  (∀ (port : Fin 112) (k : Packet) (rest : List Packet) (s : State), (s.port port).bridge = k :: rest → k.need = 0 →
      s.cad.hold = true ∨ (s.port port).lastReg = some s.cycleNow → exec (.requestAdmission port) s = .next (countPort port 7 1 s)) ∧
  (∀ (port : Fin 112) (c : Nat) (k : Packet) (rest : List Packet) (g : Grant) (s : State), Passes port c k rest g s →
      ∃ t, exec (.requestAdmission port) s = .next t ∧ Registered port k rest g s t)

/-- An ABORT that its link may give (Operator level; staging its own, or Administrator level) is answered with result Ok
and Detail the number of staged objects, and the state it is answered from has no staged value, record or key, no
pending COMMIT and no owner of staging. Where a COMMIT was pending, LastCommitOutcome reads 3. -/
def Obligations.AbortDiscards : Prop :=
  ∀ (link : Fin 2) (hdr : ReqHdr) (s u : State), Takes link 0 s → s.blk.st ≠ .test → hdr.index = 0 → hdr.sub = 0 → hdr.offset = 0 → hdr.reserved = 0 → hdr.flags = 0 → hdr.length = 0 →
      1 ≤ s.level link → (stagedByOther s link = false ∨ 2 ≤ s.level link) →
      u = (if s.mgmt.pendingFrame.isSome then (discardStaged (beginFrame link s)).setObj 0x1200 8 3 else discardStaged (beginFrame link s)) →
      exec (.abort link hdr) s = .next (endFrame link 6 hdr ⟨u, 0, stagedCount s, []⟩) ∧
      u.mgmt.staged = [] ∧ u.mgmt.stagedRecs = [] ∧ u.mgmt.stagedKeys = [] ∧ u.mgmt.pendingFrame = none ∧ u.mgmt.owner = 0

/-- Two equal copies decide the vote; of three different ones the furthest ahead under R8 is taken. SLOT_COUNT_CORRECTED
with copies that are not all equal sets the count to the vote, never below the present count, counts the copies
overwritten, and raises event 0x004, with fixed severity Fatal (3) when all three differ. That a vote below the
present count leaves it is the model's reading (DEDUCED). -/
def Obligations.SlotCountVoted : Prop :=
  ∀ (a b c : Count) (s u : State),
      (a = b ∨ a = c → voteCount a b c = a) ∧ (b = c → voteCount a b c = b) ∧
      (a ≠ b → a ≠ c → b ≠ c → voteCount a b c = if countLt a b then (if countLt b c then c else b) else (if countLt a c then c else a)) ∧
      (¬ (a = b ∧ b = c) → u = (s.setNow (if countLt (voteCount a b c) s.now then s.now else voteCount a b c)).addObj 0x1300 8 (voteFixes a b c) →
        exec (.slotCountCorrected a b c) s = .next (raiseFull 0x004 (if a ≠ b ∧ a ≠ c ∧ b ≠ c then 3 else 0) 0 0 u) ∧
        (raiseFull 0x004 (if a ≠ b ∧ a ≠ c ∧ b ≠ c then 3 else 0) 0 0 u).now = (if countLt (voteCount a b c) s.now then s.now else voteCount a b c))

/-- A valid frame at the expected boundary keeps Locked and the count. A bad frame in Locked or Slewing is counted, and
the second in a row goes to Holdover with the count unmoved. The third consecutive valid frame while Acquiring at S1
locks the cadence, sets the count to the next frame at slot 0 and ends S1. The acquisition timeout goes to Holdover
from the last recorded frame number. Clock loss goes to Holdover and is counted. REFCLK_PLL_LOCK at S1 marks the clock
locked. -/
def Obligations.CadenceFollowed : Prop :=
  (∀ (word : BitVec 192) (s : State) (n : Nat), s.cad.pllLocked = true → frameNumber word = some n → s.cad.st = .locked →
      cyclesBetween s.now ⟨(n + 1) % frameMod, 0, 0⟩ = 0 →
      ∃ t, exec (.cadenceFrameReceived word) s = .next t ∧ t.cad.st = .locked ∧ t.now = s.now ∧ t.cad.lastRx = some n ∧ t.cad.bad = 0 ∧ t.cad.differ = 0) ∧
  (∀ (word : BitVec 192) (s : State), s.cad.pllLocked = true → frameNumber word = none → s.cad.st = .locked ∨ s.cad.st = .slewing →
      ∃ t, exec (.cadenceFrameReceived word) s = .next t ∧ t.obj 0x1300 0x0A = min (s.obj 0x1300 0x0A + 1) (objMax 0x1300 0x0A) ∧
        (s.cad.bad = 0 → t.cad.st = s.cad.st ∧ t.cad.bad = 1) ∧ (1 ≤ s.cad.bad → t.cad.st = .holdover) ∧ t.now = s.now) ∧
  (∀ (word : BitVec 192) (s : State) (n : Nat), s.cad.pllLocked = true → frameNumber word = some n → s.cad.st = .acquiring → inStage s 1 = true →
      s.cad.lastRx = some ((n + frameMod - 1) % frameMod) → 2 ≤ s.cad.run →
      ∃ t, exec (.cadenceFrameReceived word) s = .next t ∧ t.cad.st = .locked ∧ t.now = ⟨(n + 1) % frameMod, 0, 0⟩ ∧ t.blk.stage = 2) ∧
  (∀ (s : State), inStage s 1 = true → s.cad.pllLocked = true → s.cad.st = .acquiring →
      ∃ t, exec .cadenceAcquireTimeout s = .next t ∧ t.cad.st = .holdover ∧ t.blk.stage = 2 ∧
        t.now = ⟨(match vaultNewest s.mram with
          | some k => (vaultRead s.mram k).lastFrame + (if (vaultRead s.mram k).marker then 65537 else 1)
          | none => 0) % frameMod, 0, 0⟩) ∧
  (∀ (s : State), s.cad.st = .locked ∨ s.cad.st = .slewing →
      ∃ t, exec .cadenceClockLoss s = .next t ∧ t.cad.st = .holdover ∧ t.now = s.now ∧ t.obj 0x1300 7 = min (s.obj 0x1300 7 + 1) (objMax 0x1300 7)) ∧
  (∀ (s : State), s.blk.st = .resetPhase → s.blk.stage = 1 → exec .refclkPllLock s = .next { s with cad := { s.cad with pllLocked := true } })

/-- SLOT_BOUNDARY lets the cycles left of the slot pass, then begins the next slot; in Locked with a phase of at most 8
cycles its length follows the phase, at most one slot of a frame being adjusted, and a greater phase goes to Holdover
with 40-cycle slots. FRAME_BOUNDARY with work due does the frame's work at once and leaves the count; otherwise the
remaining slots pass first, the last one with the frame's work (the model's choice for the row's position, log 8).
LAST_FRAME_CHECKPOINT from S3 on stores the present frame number and leaves the count. -/
def Obligations.BoundariesWork : Prop :=
  (∀ (phase : Int) (s : State), clocked s = true →
      ∃ t v, exec (.slotBoundary phase) s = .next t ∧ v = forN (cyclesLeft s) s (fun _ u => cycleWork u) ∧ t.now = nextSlot v.now ∧ t.cad.hold = false ∧
        (v.cad.st = .locked → phase.natAbs ≤ 8 → t.cad.st = .locked ∧ t.cad.slotLen = if v.cad.adjusted || phase = 0 then 40 else if 0 < phase then 41 else 39) ∧
        (v.cad.st = .locked → 8 < phase.natAbs → t.cad.st = .holdover ∧ t.cad.slotLen = 40)) ∧
  (∀ (tj : Int) (s : State), clocked s = true → frameDue s = true →
      exec (.frameBoundary tj) s = .next (frameWork (some tj) s) ∧ (frameWork (some tj) s).cad.workedFrame = some s.now.frame ∧ (frameWork (some tj) s).now = s.now ∧
        (frameWork (some tj) s).blk.mode = (frameWork (some tj) s).blk.st.mode) ∧
  (∀ (tj : Int) (s v : State), clocked s = true → frameDue s = false → v = forN (191 - s.now.slot) s (fun _ t => slotBoundary 0 t) →
      exec (.frameBoundary tj) s = .next (passSlot (some tj) 0 v) ∧
        (clocked v = true → (forN (cyclesLeft v) v (fun _ t => cycleWork t)).now.slot = 191 → (passSlot (some tj) 0 v).now.slot = 0)) ∧
  (∀ (s : State), 3 ≤ s.blk.stage →
      ∃ t, exec .lastFrameCheckpoint s = .next t ∧ t.vault.lastFrame = s.now.frame ∧ t.vault.seq = (s.vault.seq + 1) % 2 ^ 32 ∧
        t.vault.stored = true ∧ t.now = s.now)

/-- A write answered with result Ok changes no part of the state but the objects and the management unit, and of the
objects only those of 0x1100; the link holds the response (opcode 0x82, the tag, index and subindex echoed, no data,
result Ok, or 0x08 where the I3C read length is too short for it), the window's status is Done, and an I3C response is
unread. -/
def Obligations.WritesAnswered : Prop :=
  ∀ (link : Fin 2) (tag : BitVec 8) (idx sub n : Nat) (u t : State), idx < 2 ^ 16 → sub < 2 ^ 8 → Written link tag idx sub n u t →
      Frame [.objs, .mgmt] u t ∧ (∀ i k, k < 256 → i ≠ 0x1100 → t.obj i k = u.obj i k) ∧
      (∃ f, (t.link link).held = some f ∧ f.opcode = 0x82 ∧ f.tag = tag.toNat ∧ f.index = idx ∧ f.sub = sub ∧ f.data = [] ∧
        (f.result = if link = 1 ∧ u.obj 0x1100 4 < 18 then 8 else 0)) ∧
      (link = 0 → t.mgmt.winStatus = 2) ∧ (link = 1 → (t.link 1).unread = true)

/-- A WRITE whose checks give a result other than Ok is answered with that result, and no object outside 0x1100 changes. A
WRITE to an object that does not exist is answered NoObject. A read-only object gives AccessDenied, a level below the
object's gives RightsDenied, and a write that is not refused has the level, a value its object takes, block state
Config for an RWC object, and is among those a draining block allows. -/
def Obligations.WritesRefused : Prop :=
  (∀ (link : Fin 2) (hdr : ReqHdr) (bytes : List (BitVec 8)) (s : State) (r : ObjRow) (code : Nat), Takes link bytes.length s →
      objRow hdr.index.toNat hdr.sub.toNat = some r → r.record = false → bytes.length = r.size → hdr.length.toNat = r.size → r.size ≤ linkData link →
      hdr.reserved = 0 → hdr.offset = 0 → hdr.flags = 0 → writeRefusal link hdr.index.toNat hdr.sub.toNat (leNat bytes) r (beginFrame link s.tickFree) = code → code ≠ 0 →
      ∃ t, exec (.objectWrite link hdr bytes) s = .next t ∧ t = endFrame link 2 hdr ⟨beginFrame link s.tickFree, code, 0, []⟩ ∧
        (∀ i k, k < 256 → i ≠ 0x1100 → t.obj i k = s.obj i k)) ∧
  (∀ (link : Fin 2) (hdr : ReqHdr) (bytes : List (BitVec 8)) (s : State), Takes link bytes.length s →
      objRow hdr.index.toNat hdr.sub.toNat = none → hdr.length.toNat = bytes.length → bytes.length ≤ linkData link →
      hdr.reserved = 0 → hdr.offset = 0 → hdr.flags = 0 →
      exec (.objectWrite link hdr bytes) s = .next (endFrame link 2 hdr ⟨beginFrame link s.tickFree, 3, 0, []⟩)) ∧
  (∀ (link : Fin 2) (idx sub v : Nat) (r : ObjRow) (s : State),
      (accessOf idx sub r = 0 → writeRefusal link idx sub v r s = 4) ∧
      (accessOf idx sub r ≠ 0 → idx ≠ 0x1100 → s.level link < levelOf idx sub v r → writeRefusal link idx sub v r s = 5) ∧
      (writeRefusal link idx sub v r s = 0 → idx ≠ 0x1100 → levelOf idx sub v r ≤ s.level link ∧ valueOk idx sub v r = true ∧
        (accessOf idx sub r = 3 → s.blk.st = .config) ∧ (drains s = true → drainAllows (pageOf idx).1 sub v s = true)))

/-- Each of the four writes, given at Operator level while the block does not drain, is answered Ok; FreezeRequest on a
channel that grants freezes it with cause 4 and serves its held entries; RESUME of a frozen channel marks it for
resumption; RETRAIN_RESUME starts its training; RETIRE_RANK retires the rank named in 0x11. -/
def Obligations.ChannelCommands : Prop :=
  (∀ (link : Fin 2) (tag : BitVec 8) (c : Fin 16) (s : State), CanWrite link 1 1 s → s.blk.st ≠ .test → (s.chan c).st.grants = true →
      ∃ t, exec (.freezeRequest link tag c) s = .next t ∧ Written link tag (chIdx 0x3080 c) 0x15 1 (serveHeld c (freezeChannel c 4 none none 0 (beginFrame link s))) t) ∧
  (∀ (link : Fin 2) (tag : BitVec 8) (c : Fin 16) (s : State), CanWrite link 1 1 s → (s.chan c).st = .frozen →
      ∃ t, exec (.resume link tag c) s = .next t ∧ Written link tag (chIdx 0x3080 c) 0x10 1 ((beginFrame link s).setObj (chIdx 0x3080 c) 0x10 1) t) ∧
  (∀ (link : Fin 2) (tag : BitVec 8) (c : Fin 16) (s : State), CanWrite link 1 1 s → (s.chan c).st = .frozen →
      ∃ t, exec (.retrainResume link tag c) s = .next t ∧ Written link tag (chIdx 0x3080 c) 0x10 1 (startTraining c true false (beginFrame link s)) t) ∧
  (∀ (link : Fin 2) (tag : BitVec 8) (c : Fin 16) (s : State), CanWrite link 1 1 s → s.blk.st ≠ .test → (s.chan c).st = .frozen → (s.obj (chIdx 0x3080 c) 0x11) ∈ rankSlots s c →
      ∃ t, exec (.retireRank link tag c) s = .next t ∧ Written link tag (chIdx 0x3080 c) 0x10 1 (retireRank c (s.obj (chIdx 0x3080 c) 0x11) (beginFrame link s)) t)

/-- TRAIN_REQUEST on an Untrained or Fenced channel with a rank starts its training; CAL_RUN_REQUEST starts a measurement
run; TRAINING_DONE in firmware training ends it well or with result 2; EYE_SCAN_REQUEST claims a free lane for holder
9; ERASED_DEVICE_WRITE erases a device of a rank slot or clears the erasure, and changes only MRAM and the channels. -/
def Obligations.TrainingCommands : Prop :=
  (∀ (link : Fin 2) (tag : BitVec 8) (c : Fin 16) (s : State), CanWrite link 1 1 s → (s.chan c).st = .untrained ∨ (s.chan c).st = .fenced → rankSlots s c ≠ [] →
      ∃ t, exec (.trainRequest link tag c) s = .next t ∧ Written link tag (calIdx c) 6 1 (startTraining c false false (beginFrame link s)) t) ∧
  (∀ (link : Fin 2) (tag : BitVec 8) (c : Fin 16) (s : State), CanWrite link 1 1 s →
      ∃ t, exec (.calRunRequest link tag c) s = .next t ∧ Written link tag (calIdx c) 0x1A 1 (startRun c (beginFrame link s)) t) ∧
  (∀ (link : Fin 2) (tag : BitVec 8) (c : Fin 16) (s : State), CanWrite link 1 1 s → (s.chan c).st = .training → s.obj (calIdx c) 1 = 1 →
      ∃ t u, exec (.trainingDone link tag c true) s = .next t ∧ Written link tag (calIdx c) 7 1 u t ∧
        Frame [.chans, .mram, .objs, .recs] (beginFrame link s) u ∧
        (u.chan c).verified = some true ∧
        u.obj (calIdx c) 4 = 1 ∧
        u.obj (calIdx c) 5 = 0) ∧
  (∀ (link : Fin 2) (tag : BitVec 8) (c : Fin 16) (s : State), CanWrite link 1 1 s → (s.chan c).st = .training → s.obj (calIdx c) 1 = 1 →
      ∃ t, exec (.trainingDone link tag c false) s = .next t ∧ Written link tag (calIdx c) 7 1 ((newBase c ((beginFrame link s).setRec (calIdx c) 0x20 0 (s.recN (calIdx c) 0x21 0 1040))).setObj (calIdx c) 4 2) t) ∧
  (∀ (link : Fin 2) (tag : BitVec 8) (c : Fin 16) (value : BitVec 8) (s : State), CanWrite link 1 1 s → 1 ≤ value.toNat → value.toNat ≤ 10 →
      s.obj 0x2F00 (laneSub c (value.toNat - 1)) = 0 →
      ∃ t, exec (.eyeScanRequest link tag c value) s = .next t ∧
        Written link tag (calIdx c) 0x1C 1 ((beginFrame link s).setObj 0x2F00 (laneSub c (value.toNat - 1)) 9) t) ∧
  (∀ (link : Fin 2) (tag : BitVec 8) (c entry : Fin 16) (value : BitVec 8) (s : State), CanWrite link 1 1 s → value.toNat ≤ 9 ∨ value.toNat = 255 →
      ∃ t u, exec (.erasedDeviceWrite link tag c entry value) s = .next t ∧ Written link tag (chIdx 0x3001 c) (0x10 + entry) 1 u t ∧ Frame [.chans, .mram] (beginFrame link s) u ∧
        u.erasedDevice c (entry / 8) (entry % 8) = (if value.toNat = 255 then none else some value.toNat))

/-- MRR, MRW, MPC, CONTROL_WORD_WRITE, the four sweeps and WRITE_PATTERN, where allowed and no operation runs, are
answered Ok, the channel runs the operation and HelperResult reads 1; sweeps with data claim the capture store for
holder 4 and pattern operations the pattern store for holder 5. Nothing but the channels and objects changes. MRW, MPC
and CONTROL_WORD_WRITE that name a field the D16 owns leave HelperResult 3 and start nothing. -/
def Obligations.HelperOperationsStart : Prop :=
  (∀ (link : Fin 2) (tag : BitVec 8) (c : Fin 16) (s : State), CanWrite link 1 1 s → (s.chan c).helper = none → helperAllowed s c 1 = true →
      ∃ t u, exec (.mrr link tag c) s = .next t ∧ Written link tag (0xA000 + c) 1 1 u t ∧
        Frame [.chans, .objs] (beginFrame link s) u ∧
        (u.chan c).helper = some 1 ∧
        u.obj (0xA000 + c) 2 = 1) ∧
  (∀ (link : Fin 2) (tag : BitVec 8) (c : Fin 16) (s : State), CanWrite link 1 1 s → (s.chan c).helper = none → helperAllowed s c 2 = true →
      ∃ t u, exec (.mrw link tag c false) s = .next t ∧ Written link tag (0xA000 + c) 1 1 u t ∧
        Frame [.chans, .objs] (beginFrame link s) u ∧
        (u.chan c).helper = some 2 ∧
        u.obj (0xA000 + c) 2 = 1) ∧
  (∀ (link : Fin 2) (tag : BitVec 8) (c : Fin 16) (s : State), CanWrite link 1 1 s → (s.chan c).helper = none → helperAllowed s c 3 = true →
      ∃ t u, exec (.mpc link tag c false) s = .next t ∧ Written link tag (0xA000 + c) 1 1 u t ∧
        Frame [.chans, .objs] (beginFrame link s) u ∧
        (u.chan c).helper = some 3 ∧
        u.obj (0xA000 + c) 2 = 1) ∧
  (∀ (link : Fin 2) (tag : BitVec 8) (c : Fin 16) (s : State), CanWrite link 1 1 s → (s.chan c).helper = none → helperAllowed s c 4 = true →
      ∃ t u, exec (.controlWordWrite link tag c false) s = .next t ∧ Written link tag (0xA000 + c) 1 1 u t ∧
        Frame [.chans, .objs] (beginFrame link s) u ∧
        (u.chan c).helper = some 4 ∧
        u.obj (0xA000 + c) 2 = 1) ∧
  (∀ (link : Fin 2) (tag : BitVec 8) (c : Fin 16) (s : State), CanWrite link 1 1 s → (s.chan c).helper = none → helperAllowed s c 8 = true →
      ∃ t u, exec (.levelingSweep link tag c) s = .next t ∧ Written link tag (0xA000 + c) 1 1 u t ∧
        Frame [.chans, .objs] (beginFrame link s) u ∧
        (u.chan c).helper = some 8 ∧
        u.obj (0xA000 + c) 2 = 1) ∧
  (∀ (link : Fin 2) (tag : BitVec 8) (c : Fin 16) (s : State), CanWrite link 1 1 s → (s.chan c).helper = none → helperAllowed s c 5 = true → 0 < s.obj (0xA000 + c) 0x12 → s.obj 0x2F00 1 = 0 →
      ∃ t u, exec (.readSweep link tag c) s = .next t ∧ Written link tag (0xA000 + c) 1 1 u t ∧
        Frame [.chans, .objs] (beginFrame link s) u ∧
        (u.chan c).helper = some 5 ∧
        u.obj (0xA000 + c) 2 = 1 ∧
        u.obj 0x2F00 1 = 4) ∧
  (∀ (link : Fin 2) (tag : BitVec 8) (c : Fin 16) (s : State), CanWrite link 1 1 s → (s.chan c).helper = none → helperAllowed s c 9 = true → 0 < s.obj (0xA000 + c) 0x12 → s.obj 0x2F00 1 = 0 →
      ∃ t u, exec (.enableSweep link tag c) s = .next t ∧ Written link tag (0xA000 + c) 1 1 u t ∧
        Frame [.chans, .objs] (beginFrame link s) u ∧
        (u.chan c).helper = some 9 ∧
        u.obj (0xA000 + c) 2 = 1 ∧
        u.obj 0x2F00 1 = 4) ∧
  (∀ (link : Fin 2) (tag : BitVec 8) (c : Fin 16) (s : State), CanWrite link 1 1 s → (s.chan c).helper = none → helperAllowed s c 7 = true → s.obj 0x2F00 2 = 0 →
      ∃ t u, exec (.writePattern link tag c) s = .next t ∧ Written link tag (0xA000 + c) 1 1 u t ∧
        Frame [.chans, .objs] (beginFrame link s) u ∧
        (u.chan c).helper = some 7 ∧
        u.obj (0xA000 + c) 2 = 1 ∧
        u.obj 0x2F00 2 = 5) ∧
  (∀ (link : Fin 2) (tag : BitVec 8) (c : Fin 16) (s : State), CanWrite link 1 1 s → (s.chan c).helper = none → helperAllowed s c 6 = true → 0 < s.obj (0xA000 + c) 0x12 → s.obj 0x2F00 1 = 0 → s.obj 0x2F00 2 = 0 →
      ∃ t u, exec (.writeReadSweep link tag c) s = .next t ∧ Written link tag (0xA000 + c) 1 1 u t ∧
        Frame [.chans, .objs] (beginFrame link s) u ∧
        (u.chan c).helper = some 6 ∧
        u.obj (0xA000 + c) 2 = 1 ∧
        u.obj 0x2F00 1 = 4 ∧
        u.obj 0x2F00 2 = 5) ∧
  (∀ (link : Fin 2) (tag : BitVec 8) (c : Fin 16) (s : State), CanWrite link 1 1 s → (s.chan c).helper = none →
      ∃ t, exec (.mrw link tag c true) s = .next t ∧ Written link tag (0xA000 + c) 1 1 ((beginFrame link s).setObj (0xA000 + c) 2 3) t) ∧
  (∀ (link : Fin 2) (tag : BitVec 8) (c : Fin 16) (s : State), CanWrite link 1 1 s → (s.chan c).helper = none →
      ∃ t, exec (.mpc link tag c true) s = .next t ∧ Written link tag (0xA000 + c) 1 1 ((beginFrame link s).setObj (0xA000 + c) 2 3) t) ∧
  (∀ (link : Fin 2) (tag : BitVec 8) (c : Fin 16) (s : State), CanWrite link 1 1 s → (s.chan c).helper = none →
      ∃ t, exec (.controlWordWrite link tag c true) s = .next t ∧ Written link tag (0xA000 + c) 1 1 ((beginFrame link s).setObj (0xA000 + c) 2 3) t)

/-- PROMOTE of a Follower district promotes it; DEMOTE of a Lead InSync district stops its writes and demotes it when all
is acknowledged; BREAK of an InSync or Resyncing district breaks its mirror with cause 3; FULL_PUSH of a Lead InSync
district enters Resyncing from the first page, and of a Broken one is answered Ok with no other effect now. -/
def Obligations.MirrorCommands : Prop :=
  (∀ (link : Fin 2) (tag : BitVec 8) (d : Fin 4) (s : State), CanWrite link 1 1 s → s.blk.st ≠ .test → s.role d = 2 →
      ∃ t, exec (.promote link tag d) s = .next t ∧ Written link tag (0x6010 + d) 6 1 (promoteDistrict d (beginFrame link s)) t) ∧
  (∀ (link : Fin 2) (tag : BitVec 8) (d : Fin 4) (s : State), CanWrite link 1 1 s → s.role d = 1 → (s.dist d).mst = .inSync →
      ∃ t, exec (.demote link tag d) s = .next t ∧ Written link tag (0x6010 + d) 6 1 (finishDemote d ((beginFrame link s).modDist d (fun x => { x with demoting := true, stopWrites := true }))) t) ∧
  (∀ (link : Fin 2) (tag : BitVec 8) (d : Fin 4) (s : State), CanWrite link 1 1 s → s.blk.st ≠ .test → (s.dist d).mst = .inSync ∨ (s.dist d).mst = .resyncing →
      ∃ t, exec (.mirrorBreak link tag d) s = .next t ∧ Written link tag (0x6010 + d) 6 1 (breakMirror d 3 (beginFrame link s)) t) ∧
  (∀ (link : Fin 2) (tag : BitVec 8) (d : Fin 4) (s : State), CanWrite link 1 1 s → s.role d = 1 → (s.dist d).mst = .inSync →
      ∃ t, exec (.fullPush link tag d) s = .next t ∧ Written link tag (0x6010 + d) 6 1 (enterResync d (((beginFrame link s).modDist d (fun x => { x with push := true, pushPage := 0, pull := [] })).setObj (0x6010 + d) 8 0)) t) ∧
  (∀ (link : Fin 2) (tag : BitVec 8) (d : Fin 4) (s : State), CanWrite link 1 1 s → s.role d = 1 → (s.dist d).mst = .broken →
      ∃ t, exec (.fullPush link tag d) s = .next t ∧ Written link tag (0x6010 + d) 6 1 (beginFrame link s) t)

/-- START_REMOVAL, ALLOW_REMOVAL and LED_TEST act on their bay; SUPPLY_RETRY in Aborted clears the failure causes and
starts the ramp of VAA if VDDC is good; MARK, REWIND and RELEASE move the marks of the event queue and drop the
released entries; EVENT_LOG_CLEAR zeroes the 2048 bytes of the MRAM log; EVENT_QUEUE_READ answers the next entry and
moves the read mark; EVENT_PENDING_CLEAR clears the source. -/
def Obligations.BayAndEventCommands : Prop :=
  (∀ (link : Fin 2) (tag : BitVec 8) (b : Fin 32) (s : State), CanWrite link 1 1 s → (s.bay b).st = .inService ∨ (s.bay b).st = .fault →
      ∃ t, exec (.startRemoval link tag b) s = .next t ∧ Written link tag (0x7100 + b) 4 1 (askRemoval b (beginFrame link s)) t) ∧
  (∀ (link : Fin 2) (tag : BitVec 8) (b : Fin 32) (s : State), CanWrite link 1 1 s →
      ∃ t, exec (.allowRemoval link tag b) s = .next t ∧ Written link tag (0x7100 + b) 4 1 ((beginFrame link s).modBay b (fun y => { y with allow := true })) t) ∧
  (∀ (link : Fin 2) (tag : BitVec 8) (b : Fin 32) (s : State), CanWrite link 1 1 s →
      ∃ t, exec (.ledTest link tag b) s = .next t ∧ Written link tag (0x7100 + b) 4 1 ((beginFrame link s).modBay b (fun y => { y with ledTest := true })) t) ∧
  (∀ (link : Fin 2) (tag : BitVec 8) (s : State), CanWrite link 1 1 s → s.sup.st = .aborted →
      ∃ t u, exec (.supplyRetry link tag) s = .next t ∧ Written link tag (0x7000) 4 1 u t ∧
        Frame [.sup, .objs] (beginFrame link s) u ∧
        (∀ i : Fin 6, u.obj (0x7001 + i) 8 = 0) ∧
        (u.sup.st = if (s.sense 0).good then .rampVaa else .off)) ∧
  (∀ (link : Fin 2) (tag : BitVec 8) (s : State), CanWrite link 1 1 s →
      ∃ t, exec (.eventQueueMark link tag) s = .next t ∧ Written link tag (0x9000) 4 1 ({ (beginFrame link s) with ev := { s.ev with mark := s.ev.rd } }) t) ∧
  (∀ (link : Fin 2) (tag : BitVec 8) (s : State), CanWrite link 1 1 s →
      ∃ t, exec (.eventQueueRewind link tag) s = .next t ∧ Written link tag (0x9000) 4 1 ({ (beginFrame link s) with ev := { s.ev with rd := s.ev.mark } }) t) ∧
  (∀ (link : Fin 2) (tag : BitVec 8) (s : State), CanWrite link 1 1 s →
      ∃ t, exec (.eventQueueRelease link tag) s = .next t ∧ Written link tag (0x9000) 4 1 ({ (beginFrame link s) with ev := { s.ev with queue := s.ev.queue.drop s.ev.mark, rd := s.ev.rd - s.ev.mark, mark := 0 } }) t) ∧
  (∀ (link : Fin 2) (tag : BitVec 8) (s : State), CanWrite link 1 2 s →
      ∃ t, exec (.eventLogClear link tag) s = .next t ∧ Written link tag (0x9000) 7 1 ({ (beginFrame link s) with mram := sbN s.mram logBase (List.replicate 2048 0) }) t) ∧
  (∀ (link : Fin 2) (tag : BitVec 8) (s : State) (e : EvEntry), Takes link 0 s → s.blk.st ≠ .test → s.ev.queue[s.ev.rd]? = some e →
      exec (.eventQueueRead link tag) s = .next (endFrame link 3 ⟨tag, 0x9000, 3, 0, 16, 0, 0⟩
        ⟨{ beginFrame link s with ev := { s.ev with rd := s.ev.rd + 1, last := some e } }, 0, 16, evBytes e⟩)) ∧
  (∀ (link : Fin 2) (tag : BitVec 8) (n : Fin 512) (s : State), CanWrite link 1 1 s → (objRow (evIdx n) 5).isSome = true →
      ∃ t, exec (.eventPendingClear link tag n) s = .next t ∧ Written link tag (evIdx n) 5 1 (clearPending n (beginFrame link s)) t)

/-- A free resource is claimed for holder 1 and released by it (a claim of holder 2 or 8 is released too). SNAPSHOT_ARM
takes a frame up to 2^20 ahead; SAMPLE_RELEASE moves the release index; TRANSLATE_ADDRESS fills its five results;
KEY_ADOPT makes the loaded keys current; LINK_RIGHTS_CONFIG on the window in Reset sets and locks the levels;
PROFILE_LOCK locks a profile. Each leaves every part of the state that its frame does not list. -/
def Obligations.ClaimsAndSampling : Prop :=
  (∀ (link : Fin 2) (tag : BitVec 8) (sub : BitVec 8) (s : State), (sub.toNat = 1 ∨ sub.toNat = 2 ∨ (0x10 ≤ sub.toNat ∧ sub.toNat < 0xC0)) → CanWrite link 1 1 s → s.obj 0x2F00 sub.toNat = 0 →
      ∃ t, exec (.claimResource link tag sub) s = .next t ∧ Written link tag 0x2F00 sub.toNat 1 ((beginFrame link s).setObj 0x2F00 sub.toNat 1) t) ∧
  (∀ (link : Fin 2) (tag : BitVec 8) (sub : BitVec 8) (s : State), (sub.toNat = 1 ∨ sub.toNat = 2 ∨ (0x10 ≤ sub.toNat ∧ sub.toNat < 0xC0)) → CanWrite link 1 1 s → s.obj 0x2F00 sub.toNat = 1 →
      ∃ t u, exec (.releaseClaim link tag sub) s = .next t ∧ u = resourceFree sub.toNat ((beginFrame link s).setObj 0x2F00 sub.toNat 0) ∧
        Written link tag 0x2F00 sub.toNat 1 (if 0x10 ≤ sub.toNat ∧ sub.toNat < 0x20 then stopHelper (sub.toNat - 0x10) u else u) t) ∧
  (∀ (link : Fin 2) (tag : BitVec 8) (sub : BitVec 8) (s : State), (sub.toNat = 1 ∨ sub.toNat = 2 ∨ (0x10 ≤ sub.toNat ∧ sub.toNat < 0xC0)) → CanWrite link 1 1 s → s.obj 0x2F00 sub.toNat = 2 ∨ s.obj 0x2F00 sub.toNat = 8 →
      ∃ t, exec (.releaseClaim link tag sub) s = .next t ∧ Written link tag 0x2F00 sub.toNat 1 (((beginFrame link s).setObj 0x2F00 sub.toNat 0)) t) ∧
  (∀ (link : Fin 2) (tag : BitVec 8) (frame : BitVec 64) (s : State), CanWrite link 8 1 s → frame.toNat < 2 ^ 48 → 0 < framesAhead s frame.toNat → framesAhead s frame.toNat ≤ 2 ^ 20 →
      ∃ t u, exec (.snapshotArm link tag frame) s = .next t ∧ Written link tag 0x9010 1 8 u t ∧ Frame [.mgmt, .objs] (beginFrame link s) u ∧
        u.mgmt.snapArmed = some frame.toNat ∧ u.obj 0x9010 1 = frame.toNat ∧ u.obj 0x9010 2 = 1) ∧
  (∀ (link : Fin 2) (tag : BitVec 8) (index : BitVec 16) (s : State), CanWrite link 2 1 s → index.toNat < 4096 →
      (index.toNat + 4096 - s.obj 0x9020 4 % 4096) % 4096 ≤ samplesHeld s →
      ∃ t u, exec (.sampleRelease link tag index) s = .next t ∧ Written link tag 0x9020 4 2 u t ∧ Frame [.objs] (beginFrame link s) u ∧ u.obj 0x9020 4 = index.toNat ∧
        (u.obj 0x9020 2 = if s.obj 0x9020 2 = 4 ∧ 0 < (index.toNat + 4096 - s.obj 0x9020 4 % 4096) % 4096 then 1 else s.obj 0x9020 2)) ∧
  (∀ (link : Fin 2) (tag : BitVec 8) (addr : BitVec 64) (s : State) (r dom c l b : Nat), CanWrite link 8 0 s → addr.toNat < 2 ^ 46 →
      translated s addr.toNat = some (r, dom, c, l, b) →
      ∃ t u, exec (.translateAddress link tag addr) s = .next t ∧ Written link tag 0x1230 1 8 u t ∧ Frame [.objs, .freeCtr] (beginFrame link s) u ∧
        u.obj 0x1230 2 = r ∧ u.obj 0x1230 3 = dom ∧ u.obj 0x1230 4 = c ∧ u.obj 0x1230 5 = l ∧ u.obj 0x1230 6 = b) ∧
  (∀ (link : Fin 2) (tag : BitVec 8) (s : State) (i : Intake), CanWrite link 1 2 s → s.blk.st = .config → s.keys.intake = some i →
      s.keys.mismatched = true → (∀ d : Fin 4, keyMismatched s d = true → bit (s.obj 0x21F0 1) d = true) →
      ∃ t u, exec (.keyAdopt link tag) s = .next t ∧ Written link tag 0x5000 9 1 u t ∧ Frame [.ports, .chans, .plaza, .order, .gathers, .samples, .ledger, .pinned, .sealedList, .sealedFrom, .dram, .dists, .keys, .vault, .mram, .repair, .mirror, .sup, .bays, .ev, .objs, .freeCtr] (beginFrame link s) u ∧ u.keys.cur = some i.pair ∧ u.keys.succ = none ∧
        u.keys.links = i.links ∧ u.keys.intake = none ∧ u.keys.mismatched = false) ∧
  (∀ (link : Fin 2) (tag : BitVec 8) (value : BitVec 16) (s : State), link = 0 → Takes link 2 s → s.blk.st = .resetPhase → s.mgmt.locked = false →
      value.toNat &&& 0x303 = value.toNat → ¬ (Config.productionFuse = true ∧ (bits value.toNat 1 0 = 3 ∨ bits value.toNat 9 8 = 3)) →
      ∃ t u, exec (.linkRightsConfig link tag value) s = .next t ∧ Written link tag 0x1100 7 2 u t ∧ Frame [.mgmt, .objs] (beginFrame link s) u ∧ u.mgmt.locked = true ∧
        u.obj 0x1100 5 = bits value.toNat 1 0 ∧ u.obj 0x1100 6 = bits value.toNat 9 8 ∧ u.obj 0x1100 8 = 1) ∧
  (∀ (link : Fin 2) (tag : BitVec 8) (port : Fin 112) (s : State), hasProfile port = true → CanWrite link 1 2 s → s.obj (0x2300 + port) 1 = 0 →
      ∃ t u, exec (.profileLock link tag port) s = .next t ∧ Written link tag (0x2300 + port) 1 1 u t ∧ Frame [.mgmt, .objs] (beginFrame link s) u ∧ u.obj (0x2300 + port) 1 = 1 ∧
        u.mgmt.profiles = sortedInsert (fun a b => decide (a ≤ b)) port.val s.mgmt.profiles)

/-- ENTER_CONFIG and LEAVE_CONFIG mark the change pending for the frame boundary; BLOCK_RESET, ENTER_TEST and a test reset
in service start the Squall drain with cause 4; a test reset in Test, by its pin or by a link, restarts at S1. -/
def Obligations.BlockCommands : Prop :=
  (∀ (link : Fin 2) (tag : BitVec 8) (s : State), CanWrite link 1 2 s → (s.blk.st = .running ∨ s.blk.st = .recovery) →
      ∃ t, exec (.enterConfig link tag) s = .next t ∧ Written link tag 0x1200 2 1 ({ (beginFrame link s) with blk := { s.blk with pend := 1 } }) t) ∧
  (∀ (link : Fin 2) (tag : BitVec 8) (s : State), CanWrite link 1 2 s → s.blk.st = .config ∧ s.mgmt.pendingFrame = none →
      ∃ t, exec (.leaveConfig link tag) s = .next t ∧ Written link tag 0x1200 2 1 ({ (beginFrame link s) with blk := { s.blk with pend := 2 } }) t) ∧
  (∀ (link : Fin 2) (tag : BitVec 8) (s : State), CanWrite link 1 2 s → (s.blk.st = .running ∨ s.blk.st = .recovery ∨ s.blk.st = .config) →
      ∃ t, exec (.blockReset link tag) s = .next t ∧ Written link tag 0x1200 2 1 (startSquall 4 255 0 (beginFrame link s)) t) ∧
  (∀ (link : Fin 2) (tag : BitVec 8) (s : State), CanWrite link 1 3 s → (s.blk.st = .running ∨ s.blk.st = .recovery ∨ s.blk.st = .config) →
      ∃ t, exec (.testReset (some link) tag) s = .next t ∧ Written link tag 0x1200 2 1 (startSquall 4 255 1 (beginFrame link s)) t) ∧
  (∀ (link : Fin 2) (tag : BitVec 8) (s : State), CanWrite link 1 3 s → s.blk.st = .config →
      ∃ t, exec (.enterTest link tag) s = .next t ∧ Written link tag 0x1200 2 1 (startSquall 4 255 2 (beginFrame link s)) t) ∧
  (∀ (link : Fin 2) (tag : BitVec 8) (s : State), CanWrite link 1 3 s → s.blk.st = .test →
      exec (.testReset (some link) tag) s = .next (startAtS1 3 (beginFrame link s)) ∧ (startAtS1 3 (beginFrame link s)).blk.st = .resetPhase) ∧
  (∀ (tag : BitVec 8) (s : State),
      (s.blk.st = .test → exec (.testReset none tag) s = .next (startAtS1 3 s)) ∧
      ((s.blk.st = .running ∨ s.blk.st = .recovery ∨ s.blk.st = .config) → exec (.testReset none tag) s = .next (startSquall 4 255 1 s)))

/-- Each test row writes TestSelect and then TestGo at Designer level, is answered Ok twice, and the test runs with its
own effect; the MRAM test of a production block is refused with 0x06 and TestResult 4. TEST_COMPLETE ends the running
test with Pass or Fail by its findings and touches neither DRAM nor Plaza. MEM_GO with no command running issues its
header at port 100. -/
def Obligations.BuiltInTests : Prop :=
  (∀ (link : Fin 2) (tag : BitVec 8) (s : State), CanWrite link 1 3 s → s.blk.test = 0 → testAllowed s 1 = true →
      ∃ t v u, exec (.ddrConnectivity link tag) s = .next t ∧ Written link tag 0xB000 1 1 ((beginFrame link s).setObj 0xB000 1 1) v ∧
        u = testEffect 1 { (beginFrame link v).setObj 0xB000 3 1 with blk := { s.blk with test := 1 } } ∧ Written link tag 0xB000 2 1 u t ∧
        u.blk.test = 1) ∧
  (∀ (link : Fin 2) (tag : BitVec 8) (s : State), CanWrite link 1 3 s → s.blk.test = 0 → testAllowed s 2 = true →
      ∃ t v u, exec (.sramBist link tag) s = .next t ∧ Written link tag 0xB000 1 1 ((beginFrame link s).setObj 0xB000 1 2) v ∧
        u = testEffect 2 { (beginFrame link v).setObj 0xB000 3 1 with blk := { s.blk with test := 2 } } ∧ Written link tag 0xB000 2 1 u t ∧
        u.blk.test = 2) ∧
  (∀ (link : Fin 2) (tag : BitVec 8) (s : State), CanWrite link 1 3 s → s.blk.test = 0 → testAllowed s 3 = true →
      ∃ t v u, exec (.mramReadCheck link tag) s = .next t ∧ Written link tag 0xB000 1 1 ((beginFrame link s).setObj 0xB000 1 3) v ∧
        u = testEffect 3 { (beginFrame link v).setObj 0xB000 3 1 with blk := { s.blk with test := 3 } } ∧ Written link tag 0xB000 2 1 u t ∧
        u.blk.test = 3) ∧
  (∀ (link : Fin 2) (tag : BitVec 8) (s : State), CanWrite link 1 3 s → s.blk.test = 0 → s.blk.st = .test →
      ∃ t v, exec (.mramBist link tag) s = .next t ∧ Written link tag 0xB000 1 1 ((beginFrame link s).setObj 0xB000 1 4) v ∧
        (Config.productionFuse = false → ∃ u, u = testEffect 4 { (beginFrame link v).setObj 0xB000 3 1 with blk := { s.blk with test := 4 } } ∧
          Written link tag 0xB000 2 1 u t ∧ u.blk.test = 4) ∧
        (Config.productionFuse = true → t = endFrame link 2 (writeHdr tag 0xB000 2 1) ⟨(beginFrame link v).setObj 0xB000 3 4, 6, 0, []⟩)) ∧
  (∀ (link : Fin 2) (tag : BitVec 8) (s : State), CanWrite link 1 3 s → s.blk.test = 0 → testAllowed s 5 = true →
      ∃ t v u, exec (.mirrorLoopInternal link tag) s = .next t ∧ Written link tag 0xB000 1 1 ((beginFrame link s).setObj 0xB000 1 5) v ∧
        u = testEffect 5 { (beginFrame link v).setObj 0xB000 3 1 with blk := { s.blk with test := 5 } } ∧ Written link tag 0xB000 2 1 u t ∧
        u.blk.test = 5) ∧
  (∀ (link : Fin 2) (tag : BitVec 8) (s : State), CanWrite link 1 3 s → s.blk.test = 0 → testAllowed s 6 = true →
      ∃ t v u, exec (.mirrorLoopExternal link tag) s = .next t ∧ Written link tag 0xB000 1 1 ((beginFrame link s).setObj 0xB000 1 6) v ∧
        u = testEffect 6 { (beginFrame link v).setObj 0xB000 3 1 with blk := { s.blk with test := 6 } } ∧ Written link tag 0xB000 2 1 u t ∧
        u.blk.test = 6) ∧
  (∀ (link : Fin 2) (tag : BitVec 8) (s : State), CanWrite link 1 1 s → s.blk.st ≠ .test → s.obj 0x1220 5 = 0 →
      ∃ t, exec (.memGo link tag) s = .next t ∧ Written link tag 0x1220 4 1
        (issue 100 (mkHeader (s.obj 0x1220 1) 0 (s.obj 0x1220 3) (s.obj 0x1220 2) false false 0 0)
          (if s.obj 0x1220 1 = 0x10 then (List.range (s.obj 0x1220 3)).map (fun k => bytesBv 512 (s.recN 0x1220 8 (64 * k) 64)) else [])
          ((beginFrame link s).setObj 0x1220 5 1)) t) ∧
  (∀ (findings : List (BitVec 8)) (s : State), s.blk.test ≠ 0 →
      ∃ t, exec (.testComplete findings) s = .next t ∧ t.blk.test = 0 ∧
        t.obj 0xB000 3 = (if findingsFail s.blk.test (s.obj 0xB000 5) (findingsOf s findings) then 3 else 2) ∧ t.dram = s.dram ∧ t.plaza = s.plaza)

/-- INJECT rows 1 to 5 write InjectKind and then InjectGo; the injection is armed with its kind and count, InjectStatus
reads 1, kinds 1 and 2 claim the pattern store for holder 6, and nothing but the block and the objects changes.
INJECT_DISARM leaves none armed. -/
def Obligations.Injections : Prop :=
  (∀ (link : Fin 2) (tag : BitVec 8) (s : State), CanWrite link 1 3 s → (s.blk.st = .running ∨ s.blk.st = .recovery ∨ s.blk.st = .config ∨ s.blk.st = .test) → s.blk.inj = none → s.obj 0x2F00 2 = 0 →
      ∃ t v u, exec (.injectEcc link tag) s = .next t ∧ Written link tag 0xB001 1 1 ((beginFrame link s).setObj 0xB001 1 1) v ∧
        Written link tag 0xB001 7 1 u t ∧ Frame [.blk, .objs] (beginFrame link v) u ∧ u.blk.inj = some (1, s.obj 0xB001 6) ∧ u.obj 0xB001 8 = 1 ∧ u.obj 0x2F00 2 = 6) ∧
  (∀ (link : Fin 2) (tag : BitVec 8) (s : State), CanWrite link 1 3 s → (s.blk.st = .running ∨ s.blk.st = .recovery ∨ s.blk.st = .config ∨ s.blk.st = .test) → s.blk.inj = none → s.obj 0x2F00 2 = 0 →
      ∃ t v u, exec (.injectMac link tag) s = .next t ∧ Written link tag 0xB001 1 1 ((beginFrame link s).setObj 0xB001 1 2) v ∧
        Written link tag 0xB001 7 1 u t ∧ Frame [.blk, .objs] (beginFrame link v) u ∧ u.blk.inj = some (2, s.obj 0xB001 6) ∧ u.obj 0xB001 8 = 1 ∧ u.obj 0x2F00 2 = 6) ∧
  (∀ (link : Fin 2) (tag : BitVec 8) (s : State), CanWrite link 1 3 s → (s.blk.st = .running ∨ s.blk.st = .recovery ∨ s.blk.st = .config ∨ s.blk.st = .test) →
      ∃ t v u, exec (.injectPointer link tag) s = .next t ∧ Written link tag 0xB001 1 1 ((beginFrame link s).setObj 0xB001 1 3) v ∧
        Written link tag 0xB001 7 1 u t ∧ Frame [.blk, .objs] (beginFrame link v) u ∧ u.blk.inj = some (3, s.obj 0xB001 6) ∧ u.obj 0xB001 8 = 1) ∧
  (∀ (link : Fin 2) (tag : BitVec 8) (s : State), CanWrite link 1 3 s → (s.blk.st = .running ∨ s.blk.st = .recovery ∨ s.blk.st = .config ∨ s.blk.st = .test) →
      ∃ t v u, exec (.injectCrossingLink link tag) s = .next t ∧ Written link tag 0xB001 1 1 ((beginFrame link s).setObj 0xB001 1 4) v ∧
        Written link tag 0xB001 7 1 u t ∧ Frame [.blk, .objs] (beginFrame link v) u ∧ u.blk.inj = some (4, s.obj 0xB001 6) ∧ u.obj 0xB001 8 = 1) ∧
  (∀ (link : Fin 2) (tag : BitVec 8) (s : State), CanWrite link 1 3 s → (s.blk.st = .running ∨ s.blk.st = .recovery ∨ s.blk.st = .config ∨ s.blk.st = .test) →
      ∃ t v u, exec (.injectMirrorFrame link tag) s = .next t ∧ Written link tag 0xB001 1 1 ((beginFrame link s).setObj 0xB001 1 5) v ∧
        Written link tag 0xB001 7 1 u t ∧ Frame [.blk, .objs] (beginFrame link v) u ∧ u.blk.inj = some (5, s.obj 0xB001 6) ∧ u.obj 0xB001 8 = 1) ∧
  (∀ (link : Fin 2) (tag : BitVec 8) (s : State), CanWrite link 1 3 s →
      ∃ t u, exec (.injectDisarm link tag) s = .next t ∧ Written link tag (0xB001) 1 1 u t ∧
        Frame [.blk, .objs] (beginFrame link s) u ∧
        u.blk.inj = none ∧
        u.obj 0xB001 1 = 0)

/-- A READ of a readable object answers its value in its size; a WRITE of a frame-staged object stages it for the link and
changes no object outside 0x1100; a WRITE of another object applies the object's rule and is answered Ok; READ_BLOCK
and WRITE_BLOCK act on the bytes of a record and report its size; an undefined opcode is answered 0x02 and echoed; a
frame whose CRC fails is counted and answered 0x01, one ended early on I3C is discarded and counted, one too long is
answered 0x08. -/
def Obligations.ObjectFrames : Prop :=
  (∀ (link : Fin 2) (hdr : ReqHdr) (s : State) (r : ObjRow), Takes link 0 s → s.blk.st ≠ .test → objRow hdr.index.toNat hdr.sub.toNat = some r →
      r.record = false → r.acc ≠ 2 → hdr.length.toNat = r.size → r.size ≤ linkData link →
      hdr.reserved = 0 → hdr.offset = 0 → (hdr.flags = 0 ∨ (hdr.flags = 1 ∧ r.staged = true)) →
      exec (.objectRead link hdr) s = .next (endFrame link 1 hdr
        ⟨(readObject link hdr.index.toNat hdr.sub.toNat r (hdr.flags == 1) (beginFrame link s)).1, 0, 0,
          natLe r.size (readObject link hdr.index.toNat hdr.sub.toNat r (hdr.flags == 1) (beginFrame link s)).2⟩)) ∧
  (∀ (link : Fin 2) (hdr : ReqHdr) (bytes : List (BitVec 8)) (s : State) (r : ObjRow), Takes link bytes.length s → s.blk.st ≠ .test →
      objRow hdr.index.toNat hdr.sub.toNat = some r → r.record = false → r.staged = true → bytes.length = r.size → hdr.length.toNat = r.size →
      r.size ≤ linkData link → hdr.reserved = 0 → hdr.offset = 0 → hdr.flags = 0 →
      writeRefusal link hdr.index.toNat hdr.sub.toNat (leNat bytes) r (beginFrame link s.tickFree) = 0 → s.mgmt.pendingFrame = none →
      stagedByOther s link = false →
      ∃ t u, exec (.objectWrite link hdr bytes) s = .next t ∧ t = endFrame link 2 hdr ⟨u, 0, 0, []⟩ ∧
        tfind u.mgmt.staged (objKey hdr.index.toNat hdr.sub.toNat) = some (leNat bytes) ∧ u.mgmt.owner = link.val + 1 ∧
        (∀ i k, k < 256 → i ≠ 0x1100 → u.obj i k = s.obj i k)) ∧
  (∀ (link : Fin 2) (hdr : ReqHdr) (bytes : List (BitVec 8)) (s : State) (r : ObjRow), Takes link bytes.length s → s.blk.st ≠ .test →
      objRow hdr.index.toNat hdr.sub.toNat = some r → r.record = false → r.staged = false → bytes.length = r.size → hdr.length.toNat = r.size →
      r.size ≤ linkData link → hdr.reserved = 0 → hdr.offset = 0 → hdr.flags = 0 →
      writeRefusal link hdr.index.toNat hdr.sub.toNat (leNat bytes) r (beginFrame link s.tickFree) = 0 →
      (writeNow (Config.freeBit s.freeCtr) link hdr.index.toNat hdr.sub.toNat (leNat bytes) (beginFrame link s.tickFree)).2 = 0 →
      exec (.objectWrite link hdr bytes) s = .next (endFrame link 2 hdr
        ⟨(writeNow (Config.freeBit s.freeCtr) link hdr.index.toNat hdr.sub.toNat (leNat bytes) (beginFrame link s.tickFree)).1, 0, 0, []⟩)) ∧
  (∀ (link : Fin 2) (hdr : ReqHdr) (s : State) (r : ObjRow), Takes link 0 s → s.blk.st ≠ .test → objRow hdr.index.toNat hdr.sub.toNat = some r →
      r.record = true → hdr.offset.toNat + hdr.length.toNat ≤ recordSize hdr.index.toNat hdr.sub.toNat r → hdr.length.toNat ≤ linkData link →
      hdr.reserved = 0 → (hdr.flags = 0 ∨ (hdr.flags = 1 ∧ r.staged = true)) →
      exec (.readBlock link hdr) s = .next (endFrame link 3 hdr
        ⟨(readRecord hdr.index.toNat hdr.sub.toNat hdr.offset.toNat hdr.length.toNat (hdr.flags == 1) (beginFrame link s)).1, 0,
          recordSize hdr.index.toNat hdr.sub.toNat r,
          (readRecord hdr.index.toNat hdr.sub.toNat hdr.offset.toNat hdr.length.toNat (hdr.flags == 1) (beginFrame link s)).2⟩)) ∧
  (∀ (link : Fin 2) (hdr : ReqHdr) (bytes : List (BitVec 8)) (s : State) (r : ObjRow), Takes link bytes.length s → s.blk.st ≠ .test →
      objRow hdr.index.toNat hdr.sub.toNat = some r → r.record = true → hdr.length.toNat = bytes.length →
      hdr.offset.toNat + bytes.length ≤ recordSize hdr.index.toNat hdr.sub.toNat r → bytes.length ≤ linkData link → hdr.reserved = 0 → hdr.flags = 0 →
      (writeRecord link hdr.index.toNat hdr.sub.toNat hdr.offset.toNat bytes r (beginFrame link s)).2 = 0 →
      exec (.writeBlock link hdr bytes) s = .next (endFrame link 4 hdr
        ⟨(writeRecord link hdr.index.toNat hdr.sub.toNat hdr.offset.toNat bytes r (beginFrame link s)).1, 0,
          recordSize hdr.index.toNat hdr.sub.toNat r, []⟩)) ∧
  (∀ (link : Fin 2) (opcode : BitVec 8) (hdr : ReqHdr) (s : State), Takes link 0 s → opcode.toNat = 0 ∨ 8 < opcode.toNat →
      exec (.badOpcode link opcode hdr) s = .next (endFrame link opcode.toNat hdr ⟨beginFrame link s, 2, 0, []⟩)) ∧
  (∀ (link : Fin 2) (op : BitVec 8) (hdr : ReqHdr) (s : State), Takes link 0 s →
      (∃ t u, exec (.frameCrcError link ⟨0, op⟩ hdr) s = .next t ∧ t = endFrame link op.toNat hdr ⟨u, 1, 0, []⟩ ∧
        u.obj 0x1100 (0x12 + link) = min (s.obj 0x1100 (0x12 + link) + 1) (objMax 0x1100 (0x12 + link))) ∧
      (link = 1 → exec (.frameCrcError link ⟨1, op⟩ hdr) s = .next (s.addObj 0x1100 0x13 1)) ∧
      exec (.frameCrcError link ⟨2, op⟩ hdr) s = .next (endFrame link op.toNat hdr ⟨beginFrame link s, 8, 0, []⟩))

/-- A COMMIT of values that validate is pending for the next frame, or for its target 16 to 2^20 frames ahead, and reports
that frame; one whose values fail is refused with 0x0C and the reasons, and staging stays; STORE writes the persistent
objects that differ from their defaults and reports their number; RESTORE restores the stored copy or the defaults;
the idle timeout frees staging and is counted. -/
def Obligations.ConfigurationCommands : Prop :=
  (∀ (link : Fin 2) (hdr : ReqHdr) (s : State), Takes link 0 s → s.blk.st ≠ .test → hdr.index = 0 → hdr.sub = 0 → hdr.offset = 0 → hdr.reserved = 0 → hdr.flags = 0 → hdr.length = 0 →
      1 ≤ s.level link → drains s = false → s.mgmt.pendingFrame = none → stagedByOther s link = false → (stagesRwc s = false ∨ s.blk.st = .config) →
      commitReasons (beginFrame link s) (withStaged (beginFrame link s)) = 0 →
      ∃ t u, exec (.commit link hdr []) s = .next t ∧ t = endFrame link 5 hdr ⟨u, 0, ((s.now.frame + 1) % frameMod) % 2 ^ 32, []⟩ ∧
        u.mgmt.pendingFrame = some ((s.now.frame + 1) % frameMod) ∧ u.obj 0x1200 6 = (s.now.frame + 1) % frameMod) ∧
  (∀ (link : Fin 2) (hdr : ReqHdr) (bytes : List (BitVec 8)) (s : State), Takes link bytes.length s → s.blk.st ≠ .test → hdr.index = 0 → hdr.sub = 0 → hdr.offset = 0 → hdr.reserved = 0 → hdr.flags = 0 → hdr.length = BitVec.ofNat 16 bytes.length → bytes.length = 8 →
      1 ≤ s.level link → drains s = false → s.mgmt.pendingFrame = none → stagedByOther s link = false → (stagesRwc s = false ∨ s.blk.st = .config) →
      leNat bytes < frameMod → 16 ≤ framesAhead s (leNat bytes) → framesAhead s (leNat bytes) ≤ 2 ^ 20 →
      commitReasons (beginFrame link s) (withStaged (beginFrame link s)) = 0 →
      ∃ t u, exec (.commit link hdr bytes) s = .next t ∧ t = endFrame link 5 hdr ⟨u, 0, leNat bytes % 2 ^ 32, []⟩ ∧
        u.mgmt.pendingFrame = some (leNat bytes) ∧ u.obj 0x1200 6 = leNat bytes) ∧
  (∀ (link : Fin 2) (s : State), s.mgmt.pendingFrame = none → stagedByOther s link = false → (stagesRwc s = false ∨ s.blk.st = .config) → commitReasons s (withStaged s) ≠ 0 → 
      (commitCmd link none s).2 = (0x0C, commitReasons s (withStaged s)) ∧ (commitCmd link none s).1.obj 0x1200 8 = 2 ∧ (commitCmd link none s).1.mgmt = s.mgmt) ∧
  (∀ (link : Fin 2) (hdr : ReqHdr) (s : State) (items : List (Nat × Nat × ObjRow)), Takes link 0 s → s.blk.st ≠ .test → hdr.index = 0 → hdr.sub = 0 → hdr.offset = 0 → hdr.reserved = 0 → hdr.flags = 0 → hdr.length = 0 → 2 ≤ s.level link → drains s = false →
      items = persistentObjects.filter (fun o => (beginFrame link s).obj o.1 o.2.1 != objDefault o.1 o.2.1) →
      (items.flatMap (fun o => entryBytes o.1 o.2.1 o.2.2.size ((beginFrame link s).obj o.1 o.2.1))).length ≤ 6880 →
      ∃ t u, exec (.store link hdr) s = .next t ∧ t = endFrame link 7 hdr ⟨u, 0, items.length, []⟩ ∧ u.obj 0x1200 0x10 = 1 ∧ u.obj 0x1200 0x12 = items.length ∧
        u.dram = s.dram ∧ u.recs = s.recs) ∧
  (∀ (link : Fin 2) (hdr : ReqHdr) (bytes : List (BitVec 8)) (s : State), Takes link bytes.length s → s.blk.st ≠ .test → hdr.index = 0 → hdr.sub = 0 → hdr.offset = 0 → hdr.reserved = 0 → hdr.flags = 0 → hdr.length = BitVec.ofNat 16 bytes.length → bytes.length = 1 → leNat bytes ≤ 1 → 2 ≤ s.level link → drains s = false → (restoreConfig link (leNat bytes) (beginFrame link s)).2.1 = 0 →
      exec (.restore link hdr bytes) s = .next (endFrame link 8 hdr ⟨(restoreConfig link (leNat bytes) (beginFrame link s)).1, 0, (restoreConfig link (leNat bytes) (beginFrame link s)).2.2, []⟩)) ∧
  (∀ (s : State), s.mgmt.owner ≠ 0 → s.mgmt.pendingFrame = none →
      ∃ t, exec .stagingIdleTimeout s = .next t ∧ t.mgmt.owner = 0 ∧ t.mgmt.staged = [] ∧ t.mgmt.stagedKeys = [] ∧
        t.obj 0x1200 0x0B = min (s.obj 0x1200 0x0B + 1) (objMax 0x1200 0x0B))

/-- ENTDAA gives an address to a target without one (a free one where the twin answers the same, log 1), RSTDAA and
SETNEWDA clear and set it, ENEC and DISEC set and clear the enable, SETMWL and SETMRL take 18 to 1042, IBI_SENT sends
the first pending source with its severity and removes it from the queue. -/
def Obligations.BusAddressing : Prop :=
  (∀ (addr : BitVec 7) (s : State), mgmtLive s = true → dynAddress s = 0 →
      exec (.entdaa addr false) s = .next (s.setObj 0x1100 1 addr.toNat)) ∧
  (∀ (addr : BitVec 7) (s : State), mgmtLive s = true → dynAddress s = 0 →
      exec (.entdaa addr true) s = .next ((s.setObj 0x1100 1 (Config.freeNat s.freeCtr % 128)).tickFree)) ∧
  (∀ (s : State), mgmtLive s = true →
      exec (.rstdaa) s = .next (s.setObj 0x1100 1 0)) ∧
  (∀ (addr : BitVec 7) (s : State), addressed s = true →
      exec (.setnewda addr) s = .next (s.setObj 0x1100 1 addr.toNat)) ∧
  (∀ (bits : BitVec 8) (s : State), mgmtLive s = true → bit bits.toNat 0 = true →
      exec (.enec bits) s = .next (s.setObj 0x1100 2 1)) ∧
  (∀ (bits : BitVec 8) (s : State), mgmtLive s = true → bit bits.toNat 0 = true →
      exec (.disec bits) s = .next (s.setObj 0x1100 2 0)) ∧
  (∀ (len : BitVec 16) (s : State), addressed s = true → 18 ≤ len.toNat → len.toNat ≤ 1042 →
      exec (.setmwl len) s = .next (s.setObj 0x1100 3 len.toNat)) ∧
  (∀ (len : BitVec 16) (s : State), addressed s = true → 18 ≤ len.toNat → len.toNat ≤ 1042 →
      exec (.setmrl len) s = .next (s.setObj 0x1100 4 len.toNat)) ∧
  (∀ (s : State) (n : Nat) (rest : List Nat), addressed s = true → s.obj 0x1100 2 = 1 → s.ev.ibi.filter (fun n => s.obj (evIdx n) 5 == 1) = n :: rest →
      exec .ibiSent s = .next { s with ev := { s.ev with ibi := rest, lastIbi :=
        [BitVec.ofNat 8 (0xD0 + max (s.obj (evIdx n) 2) (if s.ev.fatal.contains n then 3 else 0)), BitVec.ofNat 8 (n / 256), BitVec.ofNat 8 n] } })

/-- GETPID, GETBCR, GETDCR, GETMWL, GETMRL, GETCAPS (its byte PRESUMED, log 50) and GETSTATUS answer their bytes, most
significant first; ENTHDR0 and HDR_EXIT change the mode; a private read sends the held response, padded to an even
length in HDR, and it stays held. -/
def Obligations.BusReads : Prop :=
  (∀ (s : State), addressed s = true →
      exec (.getpid) s = .next ({ s with mgmt := { s.mgmt with cccOut := (natLe 6 (provisionedId s)).reverse } })) ∧
  (∀ (s : State), addressed s = true →
      exec (.getbcr) s = .next ({ s with mgmt := { s.mgmt with cccOut := (natLe 1 (0x06)).reverse } })) ∧
  (∀ (s : State), addressed s = true →
      exec (.getdcr) s = .next ({ s with mgmt := { s.mgmt with cccOut := (natLe 1 (0x00)).reverse } })) ∧
  (∀ (s : State), addressed s = true →
      exec (.getmwl) s = .next ({ s with mgmt := { s.mgmt with cccOut := (natLe 2 (s.obj 0x1100 3)).reverse } })) ∧
  (∀ (s : State), addressed s = true →
      exec (.getmrl) s = .next ({ s with mgmt := { s.mgmt with cccOut := (natLe 3 (s.obj 0x1100 4 * 256 + 3)).reverse } })) ∧
  (∀ (s : State), addressed s = true →
      exec (.getcaps) s = .next ({ s with mgmt := { s.mgmt with cccOut := (natLe 1 (0x01)).reverse } })) ∧
  (∀ (s : State), addressed s = true →
      exec (.getstatus) s = .next ({ s with mgmt := { s.mgmt with cccOut := (natLe 2 (min 15 s.ev.ibi.length + (if s.mgmt.crcSeen then 32 else 0))).reverse, crcSeen := false } })) ∧
  (∀ (s : State), mgmtLive s = true →
      exec (.enthdr0) s = .next ({ s with mgmt := { s.mgmt with hdrMode := true } })) ∧
  (∀ (s : State), exec (.hdrExit) s = .next ({ s with mgmt := { s.mgmt with hdrMode := false } })) ∧
  (∀ (s : State) (f : RspFrame), addressed s = true → (s.link 1).held = some f →
      ∃ t, exec .i3cPrivateRead s = .next t ∧ t.mgmt.i3cOut = (if s.mgmt.hdrMode && f.bytes.length % 2 = 1 then f.bytes ++ [0] else f.bytes) ∧
        (t.link 1).unread = false ∧ (t.link 1).held = some f)

/-- Each of these rows completes for every value of its operands that the condition named admits. With management in
service: WINDOW_DOORBELL of 1 while not Busy makes WindowStatus Busy, of any value while Busy is discarded and counted
in WindowOverruns, and of any other value while not Busy is ignored; WINDOW_BUFFER_WRITE while not Busy, aligned and
of 4 or 8 bytes, lands in the buffer, or of 4 bytes at 8 in WindowFrameLength, and returns WindowStatus to Idle. In
every state BYPASS and SAMPLE_PRELOAD select their register and change nothing else; EXTEST selects its register, in
Test counts as a DRAM test mode where it drives a DRAM pin, and outside Test only sets ScanExtestBlocked. -/
def Obligations.WindowAndScan : Prop :=
  (∀ (value : BitVec 32) (s : State), mgmtLive s = true → s.mgmt.winStatus ≠ 1 → value.toNat = 1 →
      exec (.windowDoorbell value) s = .next ({ s with mgmt := { s.mgmt with winStatus := 1 } })) ∧
  (∀ (value : BitVec 32) (s : State), mgmtLive s = true → s.mgmt.winStatus = 1 →
      exec (.windowDoorbell value) s = .next (s.addObj 0x1100 0x18 1)) ∧
  (∀ (value : BitVec 32) (s : State), mgmtLive s = false ∨ (s.mgmt.winStatus ≠ 1 ∧ value.toNat ≠ 1) →
      exec (.windowDoorbell value) s = .next s) ∧
  (∀ (offset : BitVec 12) (bytes : List (BitVec 8)) (s : State), mgmtLive s = true → s.mgmt.winStatus ≠ 1 → bytes.length = 4 ∨ bytes.length = 8 →
      offset.toNat % bytes.length = 0 → 0x40 ≤ offset.toNat →
      exec (.windowBufferWrite offset bytes) s = .next { s with mgmt := { s.mgmt with winBuf := sbN s.mgmt.winBuf (offset.toNat - 0x40) bytes, winStatus := 0 } }) ∧
  (∀ (bytes : List (BitVec 8)) (s : State), mgmtLive s = true → s.mgmt.winStatus ≠ 1 → bytes.length = 4 →
      exec (.windowBufferWrite 8 bytes) s = .next { s with mgmt := { s.mgmt with winLength := leNat bytes } }) ∧
  (∀ (s : State), exec (.bypass) s = .next ({ s with blk := { s.blk with scan := 0 } })) ∧
  (∀ (s : State), exec (.samplePreload) s = .next ({ s with blk := { s.blk with scan := 1 } })) ∧
  (∀ (d : Bool) (s : State), (s.blk.st = .test → exec (.extest d) s = .next { s with blk := { s.blk with scan := 2, dramTest := s.blk.dramTest || d } }) ∧
      (s.blk.st ≠ .test → exec (.extest d) s = .next ({ s with blk := { s.blk with scan := 2 } }.setObj 0xB000 8 1)))

/-- A pending class change takes effect at a boundary once the port is idle; a pending slot table or calendar is swapped
at a boundary when ready; each queue of the Crossing whose size changes takes its new size as soon as it is empty; the
credit timeout lets a held network go on. -/
def Obligations.BoundaryChanges : Prop :=
  (∀ (port : Fin 112) (s : State), s.obj (0x2200 + port) 0x0F = 1 → atBoundary s = true → portBusy (s.port port) = false →
      Cls.ofCode (s.obj (0x2200 + port) 1) ≠ (s.port port).cls →
      exec (.classChangeEffect port) s = .next ((s.setPort port { s.port port with cls := Cls.ofCode (s.obj (0x2200 + port) 1) }).setObj (0x2200 + port) 0x0F 0)) ∧
  (∀ (s : State), s.obj 0x2000 7 = 1 → atBoundary s = true → swapReady s = true →
      ∃ t, exec .slotTableSwap s = .next t ∧ t = (pendingCalendars s).foldl (fun t c => swapCalendar c t) (swapTables s) ∧
        (swapTables s).obj 0x2000 7 = 0) ∧
  (∀ (c : Fin 16) (s : State), s.obj 0x2000 7 = 0 → atBoundary s = true → pendingCalendars s = [c.val] → calendarReady s c = true →
      ∃ t, exec .calendarSwap s = .next t ∧ t = swapCalendar c s ∧ t.obj (arbIdx c) 1 = 0) ∧
  (∀ (x : Fin 64) (queue : Fin 8) (s : State) (l : List (Nat × Nat)),
      l = (s.xbar x).resize.filter (fun e => e.1 % 8 == queue.val && (tget (s.xbar x).queues e.1 []).isEmpty) → l ≠ [] →
      ∃ t, exec (.creditQueueResize x queue) s = .next t ∧ (t.xbar x).sizes = l.foldl (fun t e => tput t e.1 e.2 8) (s.xbar x).sizes ∧
        (t.xbar x).resize = (s.xbar x).resize.filter (fun e => !l.contains e) ∧ t.net.split = s.net.split) ∧
  (∀ (vnet : Fin 4) (f : Nat) (vs : List Nat) (s : State), s.net.split = some (f, vs) → s.net.hold.contains vnet.val = true → 256 ≤ s.since (7680 * f) →
      ∃ t, exec (.creditChangeTimeout vnet) s = .next t ∧ t.net.hold = s.net.hold.filter (fun w => w != vnet.val) ∧ t.xbars = s.xbars)

/-- With no packet half received, a packet (or the first part of one) within the port's credits whose header unit is good
enters the bridge with its units, the number still to come and whether each unit's check passed; one whose header unit
fails its check is dropped with cause 0; a unit without a credit sets cause 3, and an overrun drops a packet half
received and changes no port otherwise. -/
def Obligations.PacketsReceived : Prop :=
  (∀ (port : Fin 96) (u : BitVec 544) (rest : List (BitVec 544)) (s : State), (s.port port).partPacket = none →
      (unitOk u = true → 1 + rest.length ≤ (s.port port).credits → rest.length ≤ unitsOwed (unitPayload u) rest.length →
        ∃ t, exec (.packetReceived port (u :: rest)) s = .next t ∧ t = bridged port { hdr := unitPayload u, data := rest.map unitPayload, need := unitsOwed (unitPayload u) rest.length - rest.length, bad := !(rest.all unitOk), at_ := s.cycleNow } s) ∧
      (unitOk u = false → ∃ t v, exec (.packetReceived port (u :: rest)) s = .next t ∧ t = portCause port 0 (v.addObj (0x2200 + port) 0x12 1) ∧
        Frame [.ports] s v ∧ ∀ k, v.port k = s.port k) ∧
      (unitOk u = true → (s.port port).credits = 0 → ∃ t v, exec (.packetReceived port (u :: rest)) s = .next t ∧ t = portCause port 3 v ∧
        Frame [.ports] s v ∧ ∀ k, v.port k = s.port k)) ∧
  (∀ (port : Fin 96) (s : State), ∃ t, exec (.ingressOverrun port) s = .next t ∧ t = portCause port 3 (s.modPort port Port.dropPart) ∧
      ((s.port port).partPacket = none → t.port port = s.port port))

/-- Each row builds the header of its command and operands; at a port with credits whose request passes Forecast alone,
the request is registered with that header's fields, its stamp and the deadline of the grant, and then handed to the
slice of its channel. That the row issues, admits and delivers in one step is the model's choice (log 30). -/
def Obligations.RequestsIssued : Prop :=
  (∀ (port : Fin 96) (tag : BitVec 8) (addr : BitVec 46) (len : BitVec 3) (lock : Bool) (c : Nat) (g : Grant) (s : State),
      Issuable port c (mkHeader 0x01 tag.toNat len.toNat addr.toNat false lock 0 0) ([]) g s →
      ∃ t, exec (.read port tag addr len lock) s = .next t ∧ Issued port c (mkHeader 0x01 tag.toNat len.toNat addr.toNat false lock 0 0) ([]) g s t) ∧
  (∀ (port : Fin 96) (tag : BitVec 8) (addr : BitVec 46) (len : BitVec 3) (lock : Bool) (c : Nat) (g : Grant) (s : State),
      Issuable port c (mkHeader 0x02 tag.toNat len.toNat addr.toNat false lock 0 0) ([]) g s →
      ∃ t, exec (.readRaw port tag addr len lock) s = .next t ∧ Issued port c (mkHeader 0x02 tag.toNat len.toNat addr.toNat false lock 0 0) ([]) g s t) ∧
  (∀ (port : Fin 96) (tag : BitVec 8) (addr : BitVec 46) (twin lock : Bool) (data : List (BitVec 512)) (c : Nat) (g : Grant) (s : State),
      Issuable port c (mkHeader 0x10 tag.toNat (data.length % 8) addr.toNat twin lock 0 0) (data) g s →
      ∃ t, exec (.write port tag addr twin lock data) s = .next t ∧ Issued port c (mkHeader 0x10 tag.toNat (data.length % 8) addr.toNat twin lock 0 0) (data) g s t) ∧
  (∀ (port : Fin 96) (tag : BitVec 8) (addr : BitVec 46) (mask : BitVec 64) (twin lock : Bool) (data : BitVec 512) (c : Nat) (g : Grant) (s : State),
      Issuable port c (mkHeader 0x11 tag.toNat 1 addr.toNat twin lock 0 mask.toNat) ([data]) g s →
      ∃ t, exec (.writeMasked port tag addr mask twin lock data) s = .next t ∧ Issued port c (mkHeader 0x11 tag.toNat 1 addr.toNat twin lock 0 mask.toNat) ([data]) g s t) ∧
  (∀ (port : Fin 96) (tag : BitVec 8) (addr : BitVec 46) (compare swap : BitVec 64) (twin : Bool) (c : Nat) (g : Grant) (s : State),
      Issuable port c (mkHeader 0x20 tag.toNat 1 addr.toNat twin false compare.toNat 0) ([BitVec.ofNat 512 swap.toNat]) g s →
      ∃ t, exec (.cas8 port tag addr compare swap twin) s = .next t ∧ Issued port c (mkHeader 0x20 tag.toNat 1 addr.toNat twin false compare.toNat 0) ([BitVec.ofNat 512 swap.toNat]) g s t) ∧
  (∀ (port : Fin 96) (tag : BitVec 8) (addr : BitVec 46) (compare swap : BitVec 128) (twin : Bool) (c : Nat) (g : Grant) (s : State),
      Issuable port c (mkHeader 0x21 tag.toNat 1 addr.toNat twin false 0 0) ([BitVec.ofNat 512 (compare.toNat + swap.toNat * 2 ^ 128)]) g s →
      ∃ t, exec (.cas16 port tag addr compare swap twin) s = .next t ∧ Issued port c (mkHeader 0x21 tag.toNat 1 addr.toNat twin false 0 0) ([BitVec.ofNat 512 (compare.toNat + swap.toNat * 2 ^ 128)]) g s t) ∧
  (∀ (port : Fin 96) (tag : BitVec 8) (addr : BitVec 46) (addend : BitVec 64) (twin : Bool) (c : Nat) (g : Grant) (s : State),
      Issuable port c (mkHeader 0x22 tag.toNat 0 addr.toNat twin false addend.toNat 0) ([]) g s →
      ∃ t, exec (.fadd8 port tag addr addend twin) s = .next t ∧ Issued port c (mkHeader 0x22 tag.toNat 0 addr.toNat twin false addend.toNat 0) ([]) g s t) ∧
  (∀ (port : Fin 96) (tag : BitVec 8) (addr : BitVec 46) (value : BitVec 64) (twin : Bool) (c : Nat) (g : Grant) (s : State),
      Issuable port c (mkHeader 0x23 tag.toNat 0 addr.toNat twin false value.toNat 0) ([]) g s →
      ∃ t, exec (.swap8 port tag addr value twin) s = .next t ∧ Issued port c (mkHeader 0x23 tag.toNat 0 addr.toNat twin false value.toNat 0) ([]) g s t)

/-- A header at the front of a bridge, at an open port with tokens, whose tag is free and whose checks give a status, is
registered and answered at once: the response carries the tag, the stamp of this cycle and that status, no data, and
stands last in the response buffer; nothing enters the network or an order buffer. -/
def Obligations.RequestRefused : Prop :=
  ∀ (port : Fin 96) (k : Packet) (rest : List Packet) (code : Nat) (s : State), (s.port port).bridge = k :: rest → k.need = 0 → portClosed s port = false →
      ((s.port port).tags.any (fun u => u.tag == hdrTag k.hdr)) = false → checkRequest s port k.hdr k.data k.bad = some code → tokensOk s port 256 = true →
      (s.port port).lock = none → hdrLock k.hdr = false → k.bad = false → (s.port port).respUnits < 32 → (s.port port).answered (hdrTag k.hdr) (s.stampNow port) = false →
      ∃ t r, exec (.requestAdmission (Fin.castLE (by decide) port)) s = .next t ∧ r.port = port.val ∧ r.tag = hdrTag k.hdr ∧ r.stamp = s.stampNow port ∧ r.status = code ∧ r.data = [] ∧
        (t.port port).resp = (s.port port).resp ++ [r] ∧ (t.port port).lastReg = some s.cycleNow ∧ t.transit = s.transit ∧ t.order = s.order

/-- FENCE_TWIN with no mirror in service is answered OK_LOCAL_ONLY at once; a locked sequence silent for more than 64
cycles breaks, its members are answered DECODE and it is counted with cause 7 (one broken already only ends); a tag
past its deadline, not answered and with no twin-durable wait, is answered TIMEOUT, and its late response dropped and
counted; a twin-durable wait is answered OK_LOCAL_ONLY in the slot before its deadline; a response moves to the egress
register with the first credit, its tag is then free, and its units leave as far as credits reach, each a 544-bit unit
with its CRC-32C; with no credit it stays; a response that waits in the network with its way open reaches an empty
buffer first and then does likewise; a credit returns to the port or carries on the response that waited. -/
def Obligations.RequestsEnd : Prop :=
  (∀ (port : Fin 96) (tag : BitVec 8) (h : BitVec 512) (s : State), h = mkHeader 0x30 tag.toNat 0 0 false false 0 0 → FenceOpen port h s →
      (∀ d, (s.dist d).mst = .off) → (s.port port).respUnits < 32 →
      ∃ t r, exec (.fenceTwin port tag) s = .next t ∧ r.tag = hdrTag h ∧ r.port = port.val ∧ r.stamp = s.stampNow port ∧ r.status = 2 ∧ r.data = [] ∧
        (t.port port).resp = (s.port port).resp ++ [r]) ∧
  (∀ (port : Fin 96) (l : LockSeq) (s : State), (s.port port).lock = some l → 64 < s.since l.last →
      (l.broken = false → ∃ t u, exec (.lockMemberTimeout port) s = .next t ∧ t = advanceHorizon l.chan u ∧
        u = l.members.foldl (fun v r => respond (plainResp r 0x21) v)
          (portCause port 7 ((s.modPort port (fun q => { q with lock := none })).addObj (0x2200 + port) 0x17 1))) ∧
      (l.broken = true → exec (.lockMemberTimeout port) s = .next (s.modPort port (fun q => { q with lock := none })))) ∧
  (∀ (port : Fin 112) (u : TagUse) (s : State), (s.port port).tags = [u] → s.duePassed u.req.deadline = true → u.lost = false →
      twinWaitOf s port u = none → (s.port port).answered u.tag u.req.stamp = false →
      ∃ t, exec (.tagDeadline port) s = .next t ∧ (t.port port).tags = [] ∧ (t.port port).late = (s.port port).late ++ [(u.tag, u.req.stamp)] ∧
        (t.port port).resp = (s.port port).resp ++ [{ plainResp u.req 0x30 with status := 0x30 }]) ∧
  (∀ (port : Fin 112) (tag : BitVec 8) (u : TagUse) (w : TwinWait) (s : State), (s.port port).tags.find? (fun x => x.tag == tag.toNat) = some u →
      s.duePassed ((u.req.deadline + slotMod - 1) % slotMod) = true → s.mirror.waits.find? (fun x => x.resp.port == port.val && x.resp.tag == u.tag && x.resp.stamp == u.req.stamp) = some w →
      ∃ t, exec (.twinDurableDeadline port tag) s = .next t ∧ t.mirror.waits = s.mirror.waits.filter (fun v => v != w) ∧
        ∃ v, t = respond { w.resp with status := 2 } v ∧ v.ports = s.ports) ∧
  (∀ (port : Fin 112) (tag : BitVec 8) (e : Nat × Stamp) (s : State), (s.port port).late.find? (fun x => x.1 == tag.toNat) = some e →
      ∃ t, exec (.lateResponseDrop port tag) s = .next t ∧ (t.port port).late = (s.port port).late.filter (fun x => x != e) ∧
        t.obj (0x2200 + port) 0x0E = min (s.obj (0x2200 + port) 0x0E + 1) (objMax (0x2200 + port) 0x0E)) ∧
  (∀ (port : Fin 112) (r : Resp) (rest : List Resp) (s : State), port.val ≠ 100 → (s.port port).egress = none → (s.port port).resp = r :: rest →
      ((s.port port).egressCredits = 0 → ∃ t, exec (.responseEgress port) s = .next t ∧ (t.port port).egress = none ∧ (t.port port).resp = r :: rest ∧ (t.port port).tags = (s.port port).tags) ∧
      (0 < (s.port port).egressCredits → ∃ t, exec (.responseEgress port) s = .next t ∧ (t.port port).resp = rest ∧
        (t.port port).egress = (if r.units ≤ (s.port port).egressCredits then none else some r) ∧
        (t.port port).out = r.outUnits.take (min r.units (s.port port).egressCredits) ∧
        (t.port port).egressLeft = r.units - (s.port port).egressCredits ∧ (t.port port).egressCredits = (s.port port).egressCredits - r.units ∧
        (t.port port).tags = (s.port port).tags.filter (fun u => !(u.tag == r.tag && u.req.stamp == r.stamp)))) ∧
  (∀ (port : Fin 112) (b : Back) (s : State), port.val < 96 → (s.port port).egress = none → (s.port port).resp = [] →
      (s.port port).coming.find? (fun b => !backFailed s port b.chan && (b.sent || b.chain || !s.net.hold.contains 1)) = some b → b.resp.port = port.val →
      (s.port port).tags.any (fun u => u.tag == b.resp.tag && u.req.stamp == b.resp.stamp && !u.lost) = true → b.resp.units ≤ 32 →
      ∃ t, exec (.responseEgress port) s = .next t ∧
        (t.port port).coming = (s.port port).coming.filter (fun x => !(x.resp.tag == b.resp.tag && x.resp.stamp == b.resp.stamp)) ∧
        ((s.port port).egressCredits = 0 → (t.port port).resp = [b.resp] ∧ (t.port port).egress = none ∧ (t.port port).tags = (s.port port).tags) ∧
        (0 < (s.port port).egressCredits → (t.port port).resp = [] ∧
          (t.port port).tags = (s.port port).tags.filter (fun u => !(u.tag == b.resp.tag && u.req.stamp == b.resp.stamp)) ∧
          (t.port port).egress = (if b.resp.units ≤ (s.port port).egressCredits then none else some b.resp) ∧
          (t.port port).out = b.resp.outUnits.take (min b.resp.units (s.port port).egressCredits) ∧
          (t.port port).egressCredits = (s.port port).egressCredits - b.resp.units)) ∧
  (∀ (port : Fin 96) (s : State),
      ∃ t, exec (.egressCredit port) s = .next t ∧
        ((s.port port).egress = none → (t.port port).egressCredits = (s.port port).egressCredits + 1 ∧ (t.port port).egress = none) ∧
        (∀ r, (s.port port).egress = some r → (s.port port).egressLeft ≤ (s.port port).egressCredits + 1 →
          (t.port port).egress = none ∧ (t.port port).egressCredits = (s.port port).egressCredits + 1 - (s.port port).egressLeft ∧
          (t.port port).out = (s.port port).out ++ (r.outUnits.drop (r.units - (s.port port).egressLeft)).take (s.port port).egressLeft) ∧
        (∀ r, (s.port port).egress = some r → (s.port port).egressCredits + 1 < (s.port port).egressLeft →
          (t.port port).egress = some r ∧ (t.port port).egressCredits = 0 ∧ (t.port port).egressLeft = (s.port port).egressLeft - ((s.port port).egressCredits + 1)))

/-- At any offset that holds the operand, each atomic returns the old value; CAS stores the swap value exactly when the
old value equals the compare value and else leaves the line; FADD8 adds modulo 2^64; SWAP8 stores its operand; no bit
of the line outside the field changes. -/
def Obligations.AtomicArithmetic : Prop :=
  ∀ (cmd off x y : Nat) (v : BitVec 512), (cmd = 0x20 ∨ cmd = 0x21 ∨ cmd = 0x22 ∨ cmd = 0x23) → off + atomicBytes cmd ≤ 64 →
      (atomicEffect cmd off x y v).old = BitVec.ofNat 512 (fieldOf v off (atomicBytes cmd)) ∧
      ((cmd = 0x20 ∨ cmd = 0x21) →
        (fieldOf v off (atomicBytes cmd) = x → fieldOf (atomicEffect cmd off x y v).line off (atomicBytes cmd) = y % 2 ^ (8 * atomicBytes cmd)) ∧
        (fieldOf v off (atomicBytes cmd) ≠ x → (atomicEffect cmd off x y v).line = v)) ∧
      (cmd = 0x22 → fieldOf (atomicEffect cmd off x y v).line off 8 = (fieldOf v off 8 + y) % 2 ^ 64) ∧
      (cmd = 0x23 → fieldOf (atomicEffect cmd off x y v).line off 8 = y % 2 ^ 64) ∧
      (∀ j, (j < 8 * off ∨ 8 * (off + atomicBytes cmd) ≤ j) → (atomicEffect cmd off x y v).line.getLsbD j = v.getLsbD j)

/-- For every command, tag, length, address, flag, operand and mask within its field, the header built from them reads
back each of them: no two fields overlap and no bit is dropped. -/
def Obligations.HeadersReadBack : Prop :=
  ∀ (cmd tag len : Nat) (addr : BitVec 46) (twin lock : Bool) (operand mask : BitVec 64), cmd < 256 → tag < 256 → len < 8 →
      hdrCmd (mkHeader cmd tag len addr.toNat twin lock operand.toNat mask.toNat) = cmd ∧ hdrTag (mkHeader cmd tag len addr.toNat twin lock operand.toNat mask.toNat) = tag ∧
      hdrLen (mkHeader cmd tag len addr.toNat twin lock operand.toNat mask.toNat) = len ∧ hdrAddr (mkHeader cmd tag len addr.toNat twin lock operand.toNat mask.toNat) = addr.toNat ∧
      hdrTwin (mkHeader cmd tag len addr.toNat twin lock operand.toNat mask.toNat) = twin ∧ hdrLock (mkHeader cmd tag len addr.toNat twin lock operand.toNat mask.toNat) = lock ∧
      hdrOperand (mkHeader cmd tag len addr.toNat twin lock operand.toNat mask.toNat) = operand ∧ hdrMask (mkHeader cmd tag len addr.toNat twin lock operand.toNat mask.toNat) = mask

/-- For a district of width 1, 4, 8 or 16 and any mapping order, a district-local address decodes to the channel
FirstChannel + its select field and to the line of the address without that field, and the inverse map gives back the
line-aligned address: no two lines of a district share a line of a channel. -/
def Obligations.AddressMapInverts : Prop :=
  ∀ (x : Desc) (a n : Nat), x.width = 2 ^ n → n ∈ [0, 2, 3, 4] → x.order < 4 →
      x.place a 0 = (x.first + a / 2 ^ orderShift x.order % 2 ^ n,
        (a / 2 ^ (orderShift x.order + n) * 2 ^ orderShift x.order + a % 2 ^ orderShift x.order) / 64) ∧
      x.localOf (x.place a 0).1 (x.place a 0).2 = a / 64 * 64

/-- A line as it is written decodes Clean to its data. Whatever one device does to its symbols, the data are delivered,
with that device erased or with none erased. With an erased device, any error of another device is Uncorrectable. The
poison marker decodes as poison. -/
def Obligations.CheckCodeCorrects : Prop :=
  ∀ (d : BitVec 512) (k j : Fin 10) (e : Fin 8 → BitVec 8),
      decodeLine none (encodeLine d) = .clean d ∧ decodeLine (some k.val) (encodeLine d) = .clean d ∧
      (decodeLine none (damaged k e (encodeLine d))).data = some d ∧ (decodeLine (some k.val) (damaged k e (encodeLine d))).data = some d ∧
      (k ≠ j → (∃ i, e i ≠ 0) → decodeLine (some k.val) (damaged j e (encodeLine d)) = .uncorrectable) ∧
      decodeLine none poisonMarker = .poison

/-- For every key, 32-byte header and payload, opening the frame sealed under the key gives the payload back: the tag
passes and the cipher inverts. -/
def Obligations.SealedFramesOpen : Prop :=
  ∀ (key : BitVec 256) (hdr payload : List (BitVec 8)), hdr.length = 32 → openFrame key (sealFrame key hdr payload) = some payload

/-- A raise of a defined source adds 1 to its count up to the maximum, writes the stamp, and sets EventPending when the
source is enabled or the severity in force is Fatal. MRAM outside the log is untouched; a disabled raise that is not
Fatal delivers nothing and leaves all of MRAM. -/
def Obligations.RaisesCounted : Prop :=
  ∀ (n fixed detail port : Nat) (s t : State), n < 512 → reservedSource n = false → n ≠ 0x014 → t = raiseFull n fixed detail port s →
      t.obj (evIdx n) 4 = min (s.obj (evIdx n) 4 + 1) (objMax (evIdx n) 4) ∧ t.obj (evIdx n) 6 = (s.stampNow port).word ∧
      t.obj (evIdx n) 5 = (if s.obj (evIdx n) 1 = 1 ∨ 3 ≤ max (s.obj (evIdx n) 2) fixed then 1 else s.obj (evIdx n) 5) ∧
      (∀ a, (a < 0x6800 ∨ 0x7000 ≤ a) → ld t.mram a = ld s.mram a) ∧
      (s.obj (evIdx n) 1 ≠ 1 → max (s.obj (evIdx n) 2) fixed < 3 → t.ev.queue = s.ev.queue ∧ t.ev.ibi = s.ev.ibi ∧ t.mram = s.mram)

/-- A pointer mismatch resets its queue and is counted and raised: ingress, response (all its responses then TIMEOUT),
channel, replay and event queues. An uncorrectable Plaza word of a Clean line drops the line, one of the event queue
resets it, one of the capture store marks its record; a corrected word is counted for its store. Which store an
operand names is the model's (log 6). -/
def Obligations.StoreResets : Prop :=
  (∀ (unit : Fin 96) (which : Fin 5) (s : State),
      (∃ t, exec (.queuePointerMismatch 0 unit which) s = .next t ∧ t = storeReset 0 (resetIngress unit s)) ∧
      (∃ t, exec (.queuePointerMismatch 1 unit which) s = .next t ∧ t = storeReset 1 (resetResponses unit s) ∧ ∀ r ∈ (t.port unit).resp, r.status = 0x30) ∧
      (∃ t, exec (.queuePointerMismatch 2 unit which) s = .next t ∧ t = storeReset 2 (resetChannelQueue (unit % 16) which s)) ∧
      (∃ t, exec (.queuePointerMismatch 3 unit which) s = .next t ∧ t = storeReset 3 (resetReplay s)) ∧
      (∃ t, exec (.queuePointerMismatch 4 unit which) s = .next t ∧ t = storeReset 4 (resetEventQueue s) ∧
        (resetEventQueue s).ev.queue = [] ∧ (resetEventQueue s).obj 0x5102 0x30 = min (s.obj 0x5102 0x30 + s.ev.queue.length) (objMax 0x5102 0x30))) ∧
  (∀ (unit : Fin 112) (line : Nat) (both : Bool) (s v : State),
      (∀ x, v = (s.addObj 0x5102 0x11 1).raise 0x011 → s.pline (unit % 16) line = some x → x.st = .clean →
        ∃ t, exec (.sramUncorrectable 0 unit line both) s = .next t ∧ t = v.delPline (unit % 16) line ∧ t.pline (unit % 16) line = none) ∧
      (v = (s.addObj 0x5102 0x18 1).raise 0x011 → ∃ t, exec (.sramUncorrectable 7 unit line both) s = .next t ∧ t = resetEventQueue v ∧ t.ev.queue = []) ∧
      (v = (s.addObj 0x5102 0x1A 1).raise 0x011 → ∃ t, exec (.sramUncorrectable 9 unit line both) s = .next t ∧
        t = { v with recs := sb v.recs (captureBase + 64 * (line % 4096) + 63) 0xFF })) ∧
  (∀ (store : Fin 11) (s : State), ∃ t, exec (.sramCorrected store) s = .next t ∧
      t.obj 0x5102 (1 + store) = min (s.obj 0x5102 (1 + store) + 1) (objMax 0x5102 (1 + store)))

/-- After the cycle's arrivals, an output sends the head its slot reserves, else the winner of the rotating ring, and the
winner goes last; a CRC failure counts and discards the unit that came last, which arrives again replayed and off its
chain six cycles later; a good retry brings a failed link back; a request in the network, or at the front of its
port's queue, arrives at its slice and the horizon is advanced. -/
def Obligations.NetworkMoves : Prop :=
  (∀ (x : Fin 64) (out : Fin 7) (h : Head) (s v : State), v = beforeCycle x out s → linkOk v x out = true →
      (reservedHead v x out = some h → exec (.outputArbitration x out) s = .next (countCrossing x 2 out 1 (countCrossing x 1 out 1 (sendHead x out h v)))) ∧
      (reservedHead v x out = none →
        arbWinner v (tget (v.xbar x).rank out []) ((headsFor v x out).filter (fun h => hasCredit v x out h && ownerAllows v x out h)) = some h →
        ∃ t w, exec (.outputArbitration x out) s = .next t ∧ t = sendHead x out h w ∧
          w.xbar x = { v.xbar x with rank := tput (v.xbar x).rank out (ringWin (tget (v.xbar x).rank out []) h.req) [] })) ∧
  (∀ (x : Fin 64) (input : Fin 4) (s : State) (b : Xbar), linkFailed s x input = false → tget (s.xbar x).fails input 0 < 16 →
      b = { s.xbar x with fails := tput (s.xbar x).fails input (tget (s.xbar x).fails input 0 + 1) 0 } →
      ∃ t, exec (.linkCrcFail x input) s = .next t ∧ t.xbar x = discardUnit input ((s.cycleNow + 6) % cycleMod) b ∧
        (∀ (l : List NetUnit) (u : NetUnit) (q : Fin 8), tfind (s.xbar x).redo input = none → tget (s.xbar x).arrived input 0 = q.val + 1 →
          (s.xbar x).queue input q = l ++ [u] → (t.xbar x).queue input q = l ∧
          tfind (t.xbar x).redo input = some ({ u with chain := none, replayed := u.replayed || (u.chain.isSome || u.cls == .g) }, (s.cycleNow + 6) % cycleMod))) ∧
  (∀ (x : Fin 64) (input : Fin 4) (s : State), linkFailed s x input = true → injectLink s x input = false →
      ∃ t, exec (.linkRetry x input true) s = .next t ∧ linkFailed t x input = false ∧ tfind (t.xbar x).fails input = none ∧
        (∀ r, tfind (s.xbar x).redo input = some r → tfind (t.xbar x).redo input = none)) ∧
  (∀ (c : Fin 16) (port : Fin 112) (tag : BitVec 8) (r : Req) (rest : List Req) (s v : State),
      ((tget s.transit c []).find? (fun r => r.port == port.val && r.tag == tag.toNat) = some r → transitBehind s c r = false →
        v = dropUnits 0 port tag.toNat { s with transit := tput s.transit c ((tget s.transit c []).filter (fun x => x.stamp != r.stamp)) [] } →
        exec (.sliceArrival c port tag) s = .next (advanceHorizon c (arrive r v))) ∧
      ((tget s.transit c []).find? (fun r => r.port == port.val && r.tag == tag.toNat) = none → routeFailed s port c = false →
        (s.port port).ingress = r :: rest → r.group = none → r.tag = tag.toNat → reqChan s r = some c.val → s.net.hold.contains 0 = false →
        exec (.sliceArrival c port tag) s = .next (advanceHorizon c (arrive r (s.modPort port (fun q => { q with ingress := rest }))))))

/-- An access below the horizon is applied and leaves the order buffer; a fill or raw read completes and its entry leaves
the channel; a write-back makes its line Clean and takes it off the committed list; a dirty line past DirtyAge is
queued for write-back; a dirty Ledger line past its age is flushed, a loss in it noted. -/
def Obligations.SliceWork : Prop :=
  (∀ (c : Fin 16) (a : Access) (s v : State), (s.chan c).st.held = false → s.orderOf c = [a] → stampLt a.ord (horizon s c) = true → a.group = false →
      v = (applyAccess a { s with order := tput s.order c [] [] }).1 → (applyAccess a { s with order := tput s.order c [] [] }).2 = true →
      ∃ t, exec (.horizonAdvance c) s = .next t ∧ t = settleWaits { v with order := tput v.order c [] [] } ∧ t.orderOf c = []) ∧
  (∀ (c : Fin 16) (line : Nat) (e : Entry) (s : State),
      (s.chan c).granted.find? (fun e => e.line == line && !e.wr && !(s.chan c).uncertain e) = some e →
      (e.kind = .fill → ∃ t, exec (.fillComplete c line) s = .next t ∧
        t = serveHeld c (completeFill c line (s.setChan c { s.chan c with granted := (s.chan c).granted.erase e }))) ∧
      (∀ f k status units, e.kind = .raw f k status units → ∃ t v, exec (.fillComplete c line) s = .next t ∧ t = serveHeld c v ∧
        v = deliver e.stamp ((s.chan c).dist.getD 0) k status units (noteLine e.stamp true
          (s.setChan c { s.chan c with granted := (s.chan c).granted.erase e })))) ∧
  (∀ (c : Fin 16) (line : Nat) (x : PLine) (s : State), s.pline c line = some x → x.wbGranted = true → x.st = .dirty →
      ((s.chan c).granted.filter (fun e => e.line == line && e.wr)).any (s.chan c).uncertain = false → s.orderOf c = [] →
      ∃ t, exec (.writebackComplete c line) s = .next t ∧ t.pline c line = some { x with st := .clean, wbGranted := false, wrote := false, gCharge := false } ∧
        (t.chan c).granted = (s.chan c).granted.filter (fun e => !(e.line == line && e.wr)) ∧
        t.sup.committed = s.sup.committed.filter (fun e => e != (c.val, line))) ∧
  (∀ (c : Fin 16) (line : Nat) (x : PLine) (s : State), s.pline c line = some x → x.st = .dirty → s.obj 0x5100 2 ≤ s.framesSince x.since →
      x.wbQueued = false → x.wbGranted = false → writeBackRoom s c x = true →
      ∃ t, exec (.dirtyAgeExpiry c line) s = .next t ∧ t.pline c line = some { x with wbQueued := true }) ∧
  (∀ (c : Fin 16) (line : Nat) (x : LLine) (s : State), tfind s.ledger (lineKey c line) = some x → x.dirty = true → s.obj 0x5100 3 ≤ s.framesSince x.since →
      ∃ t r, exec (.ledgerDirtyAge c line) s = .next t ∧ r = ledgerAsk (.flush false c line) s ∧ t = settleFound (noteLoss (s.chan c).dist r.2 r.1))

/-- In an Active channel that grants, with no lock running and the cipher yard not behind, a position outside refresh and
swap slots carries out what the rotation chooses, then passes the locks it skipped, marks overdue reads, and retries
refused write-backs and held entries; every entry near its deadline becomes guarded; a closing gate window moves a
running context to deferred and counts it; a due scrub run that gets the pattern store queues 64 reads and marks its
context running. -/
def Obligations.ChannelGrants : Prop :=
  (∀ (c : Fin 16) (pos : Nat) (s u v : State), s.pSlot c ≠ 0 → pos = nextPosition s c →
      u = releaseLock c pos (s.modChan c (fun ch => { ch with pos := pos })) → v = writeMode c pos 1 (writeMode c pos 0 u) →
      u.sup.vddpCut = false → (u.chan c).st.grants = true → (u.chan c).pstate = .active → u.yardBehind c = false → (u.chan c).lock = none →
      u.inRefresh c (u.refreshDoubled c) (pos / s.pSlot c % 192) = false → u.swapSlot c (pos / s.pSlot c % 192) = false → v.arbMode c = 0 →
      ∃ t w x, exec (.positionGrant c) s = .next t ∧
        x = carryOut c pos (pos / s.pSlot c % 192) (pos % s.pSlot c) (chooseRotating v c pos (pos / s.pSlot c) (pos / s.pSlot c % 192) (pos % s.pSlot c)) v ∧
        w = serveHeld c (retryWriteBacks c (markOverdue c (pos / s.pSlot c) (pos % s.pSlot c)
          (passLocks c (passedLocks v c pos (chooseRotating v c pos (pos / s.pSlot c) (pos / s.pSlot c % 192) (pos % s.pSlot c))) x))) ∧
        t = (if !(s.chan c).quiet && (w.chan c).quiet then powerEntry c w else w)) ∧
  (∀ (c : Fin 16) (s : State), ∃ t, exec (.entryGuarded c) s = .next t ∧
      (t.chan c).openU = (s.chan c).openU.map (fun e => if nearDeadline s e then { e with guarded := true } else e) ∧
      (t.chan c).gate = (s.chan c).gate.map (fun e => if nearDeadline s e then { e with guarded := true } else e) ∧
      (t.chan c).bq = (s.chan c).bq.map (fun e => if nearDeadline s e then { e with guarded := true } else e)) ∧
  (∀ (c : Fin 16) (k : Fin 4) (n : Nat) (l : List Nat) (s : State), tget (s.chan c).bursts k [] = n :: l → (∀ j : Fin 4, j ≠ k → tget (s.chan c).bursts j [] = []) →
      ctxState s c k = 1 → (s.chan c).burst = none →
      ∃ t, exec (.gateWindowClose c) s = .next t ∧ ctxState t c k = 2 ∧
        t.obj (chIdx 0x3025 c) 4 = min (s.obj (chIdx 0x3025 c) 4 + 1) (objMax (chIdx 0x3025 c) 4)) ∧
  (∀ (c : Fin 16) (s v : State), scrubDue s c = true → (v, true) = scrubClaim s →
      ∃ t, exec (.scrubRun c) s = .next t ∧ tget (t.chan c).bursts 0 [] = [64] ∧ ctxState t c 0 = 1 ∧ (t.chan c).gate = (s.chan c).gate ++ (List.range 64).map (fun k =>
          { mkEntry v (64 * v.obj (chIdx 0x3002 c) 3 + k) false .scrub 99 (v.borrowedDeadline 99) (v.stampNow 99) with ctx := some 0 }))

/-- A refresh placement places the refresh of every rank and subchannel, then the write-side sets and the placement's
maintenance commands that are due, and takes the MR4 reading it brings; a bank at its RAA limit gets RFM after its row
is closed, counted and raised; doubled refresh ends at a frame boundary calm enough (log 83); a missing reading asks
for doubled refresh; a row idle for RowIdleTimeout is closed. -/
def Obligations.RefreshAndSensors : Prop :=
  (∀ (c : Fin 16) (bank : Fin 4) (set : Fin 2) (tj : Int) (twice : Bool) (s u : State), s.sup.vddpCut = false →
      s.now.slot = (s.obj (chIdx 0x3011 c) 1 + 24 * bank + 96 * set) % 192 → refreshes (s.chan c) = true → s.pSlot c ≠ 0 →
      u = applyPending c ((rankSlots s c).foldl (fun t rs => forN 2 t (fun sub u =>
          placeRefresh c bank sub rs (4 * u.pSlot c * u.slotNow) (set.val == 0 || s.refreshDoubled c) u)) s) →
      exec (.refreshPlacement c bank set none twice) s = .next (placementWork c false u) ∧
        ∃ t, exec (.refreshPlacement c bank set (some tj) twice) s = .next t ∧ (t.chan c).twice = twice ∧
          tfind (t.chan c).temps 2 = some tj ∧ (t.chan c).noReading = ((placementWork c true u).chan c).noReading) ∧
  (∀ (c : Fin 16) (sub : Fin 2) (rankSlot : Fin 8) (bank : Fin 32) (key : Nat) (s : State), key = 256 * sub.val + 32 * rankSlot.val + bank.val →
      0 < (raaLimits s c (bankCoord key 0).pos).2 → (raaLimits s c (bankCoord key 0).pos).2 ≤ ((s.chan c).bank key).raa →
      ∃ t u, exec (.rfmForced c sub rankSlot bank) s = .next t ∧ t = issueRfm c key (s.dckNow c) (closeBank c key (s.dckNow c) u) ∧
        u = (s.addObj (chIdx 0x3011 c) 0x0A 1).raiseChan c 4 (bankCoord key 0).sub (bankCoord key 0).rankSlot ∧ u.chan c = s.chan c) ∧
  (∀ (c : Fin 16) (s : State), s.now.slot = 0 → s.now.cycle = 0 → calmEnough s c = true →
      ∃ t, exec (.refreshDoubleExit c) s = .next t ∧ t = s.setObj (chIdx 0x3011 c) 3 0) ∧
  (∀ (c : Fin 16) (s : State), ∃ t, exec (.sensorReadingTimeout c) s = .next t ∧ (t.chan c).noReading = true ∧ doubleAsked t c = true) ∧
  (∀ (c : Fin 16) (sub : Fin 2) (rankSlot : Fin 8) (bank : Fin 32) (r : Nat) (s : State),
      ((s.chan c).bank (256 * sub + 32 * rankSlot + bank)).row = some r → s.obj (chIdx 0x3012 c) 1 = 0 →
      ((s.chan c).bank (256 * sub + 32 * rankSlot + bank)).last + s.obj (chIdx 0x3012 c) 2 ≤ s.cycleNow * s.pSlot c / 40 →
      ∃ t, exec (.rowIdleTimeout c sub rankSlot bank) s = .next t ∧ ((t.chan c).bank (256 * sub + 32 * rankSlot + bank)).row = none ∧
        t.objs = s.objs)

/-- ALERT_N low opens an episode with the operations in doubt and marks the history; low again in the episode it adds to
them, and at the third retry freezes the channel; its release moves it to step 5; a low ALERT_N past the timeout ends
it, freezes the channel with cause 2, lets the held refreshes go and grants the operations in doubt again; the end of
the episode removes it and issues the refreshes it held back. -/
def Obligations.AlertEpisodes : Prop :=
  (∀ (c : Fin 16) (sub : Fin 2) (a : Alert) (s v : State), v = s.modChan c (fun ch => { ch with lock := ch.lock.map (fun k => { k with alerted := true }) }) →
      (((s.chan c).sub sub).alert = none → ∃ t, exec (.alertEpisodeStart c sub) s = .next t ∧
        ((t.chan c).sub sub).alert = some { step := 2, retries := 0, low := true, uncertain := uncertainOps v c sub, at_ := s.cycleNow } ∧
        (t.chan c).history = markHistory v c sub ∧ (t.chan c).lock = (v.chan c).lock) ∧
      (((s.chan c).sub sub).alert = some a → a.low = false → a.retries < 2 → ∃ t, exec (.alertEpisodeStart c sub) s = .next t ∧
        ((t.chan c).sub sub).alert = some { step := 2, retries := a.retries + 1, low := true, uncertain := a.uncertain ++ (uncertainOps v c sub).filter (fun e => !a.uncertain.contains e), at_ := s.cycleNow }) ∧
      (((s.chan c).sub sub).alert = some a → a.low = false → 2 ≤ a.retries → exec (.alertEpisodeStart c sub) s = .next (alertFreeze c sub a v))) ∧
  (∀ (c : Fin 16) (sub : Fin 2) (a : Alert) (s : State), ((s.chan c).sub sub).alert = some a → a.low = true →
      ∃ t, exec (.alertReleased c sub) s = .next t ∧ ((t.chan c).sub sub).alert = some { a with low := false, step := 5 } ∧
        (∀ j, j ≠ sub.val → ((t.chan c).sub j).alert = ((s.chan c).sub j).alert)) ∧
  (∀ (c : Fin 16) (sub : Fin 2) (a : Alert) (s : State), ((s.chan c).sub sub).alert = some a → a.low = true → 2 * s.obj (chIdx 0x3014 c) 4 ≤ s.since a.at_ →
      ∃ t u, exec (.alertStuckTimeout c sub) s = .next t ∧ t = serveHeld c (heldRefresh c sub (a.uncertain.reverse.foldl (fun t e => regrant c e t) u)) ∧
        u = freezeChannel c 2 none none 0 (s.modChan c (fun ch => ch.setSub sub { (ch.sub sub) with alert := none }))) ∧
  (∀ (c : Fin 16) (sub : Fin 2) (a : Alert) (s v : State), ((s.chan c).sub sub).alert = some a → a.low = false →
      v = s.modChan c (fun ch => ch.setSub sub { (ch.sub sub) with alert := none }) →
      ∃ t, exec (.alertEpisodeEnd c sub) s = .next t ∧ ((t.chan c).sub sub).alert = none ∧ t = heldRefresh c sub v ∧
        (((s.chan c).sub sub).late = [] → t = v))

/-- An exit is begun when the event it is for is near enough; it completes with the channel Active, decides the next entry
and lets the units held at its bridge go, and out of self-refresh or deep self-refresh the trims are adjusted to the
temperature; every non-zero device error count drops by 1. -/
def Obligations.ChannelPower : Prop :=
  (∀ (c : Fin 16) (n : Nat) (s : State), (s.chan c).pstate ≠ .active → (s.chan c).exiting = none →
      knownEvent s c ((s.chan c).pstate == .powerDown) = some n → 500 * n ≤ latencyOf s c (s.chan c).pstate →
      ∃ t, exec (.powerStateExit c) s = .next t ∧ t = s.setChan c { s.chan c with exiting := some (some (s.cycleNow + n)) }) ∧
  (∀ (c : Fin 16) (due : Option Nat) (s : State), (s.chan c).exiting = some due →
      ∃ t u v, exec (.powerExitComplete c) s = .next t ∧ v = openBridge (channelCrossing c) (powerEntry c u) ∧
        t = (if ((s.chan c).pstate = .selfRefresh ∨ (s.chan c).pstate = .deepSelfRefresh) ∧ (v.chan c).pstate = .active then adjustNow c v else v) ∧ (u.chan c).pstate = .active ∧ (u.chan c).exiting = none) ∧
  (∀ (c : Fin 16) (s : State), ∃ t, exec (.deviceErrorLeak c) s = .next t ∧ t = s.setChan c { s.chan c with
        devCounts := (s.chan c).devCounts.filterMap (fun e => if e.2 ≤ 1 then none else some (e.1, e.2 - 1)) })

/-- A frame of a known kind that opens under its port's key, and (but Hello) is of the session, is counted, its port
heard, and handled by its kind; a reserved kind is counted. The next Data frame of a stream, with room, advances the
sequence received; an Ack no newer than the last is discarded and counted (log 91); a CumAck drops the frames below it
from the replay store. -/
def Obligations.MirrorReceives : Prop :=
  (∀ (port : Fin 16) (bytes p : List (BitVec 8)) (s : State), Opens 0 port bytes p s → OfSession bytes s →
      exec (.data port bytes) s = .next (takeData (byteAt bytes 1 % 16) (fieldAt bytes 8 8) p (heard port s))) ∧
  (∀ (port : Fin 16) (bytes p : List (BitVec 8)) (s : State), Opens 1 port bytes p s → OfSession bytes s →
      exec (.ack port bytes) s = .next (takeAck (fieldAt bytes 8 8) p (heard port s))) ∧
  (∀ (port : Fin 16) (bytes p : List (BitVec 8)) (s : State), Opens 2 port bytes p s → OfSession bytes s →
      exec (.remoteRequest port bytes) s = .next (takeRequest (fieldAt bytes 8 8) p (heard port s))) ∧
  (∀ (port : Fin 16) (bytes p : List (BitVec 8)) (s : State), Opens 3 port bytes p s → OfSession bytes s →
      exec (.remoteResponse port bytes) s = .next (takeResponse p (heard port s))) ∧
  (∀ (port : Fin 16) (bytes p : List (BitVec 8)) (s : State), Opens 4 port bytes p s →
      exec (.hello port bytes) s = .next (takeHello (fieldAt bytes 8 8) (fieldAt bytes 2 2) p (heard port s))) ∧
  (∀ (port : Fin 16) (bytes : List (BitVec 8)) (s : State),
      (looping s port = false → exec (.reservedKindFrame port bytes) s = .next (s.addObj 0x6000 0x26 1)) ∧
      (looping s port = true → exec (.reservedKindFrame port bytes) s = .next (countLoop port 0 0 1 (s.addObj 0x6000 0x26 1)))) ∧
  (∀ (k : Fin 16) (seq : Nat) (p : List (BitVec 8)) (s : State), (followerFor s (parseData seq p).dist).isSome = true → seq = s.obj (0x6040 + k) 3 →
      rxUsed s + replayUsed s + frameBytesOf (parseData seq p).recs ≤ 2 ^ 21 → (s.rx k).held = [] →
      (takeData k seq p s).obj (0x6040 + k) 3 = seq + 1) ∧
  (∀ (n seq : Nat) (p : List (BitVec 8)) (s : State), s.mirror.lastAck = some n → seq ≤ n → takeAck seq p s = discardRepeat s) ∧
  (∀ (c n : Nat) (s u : State), s.obj (0x6040 + c) 2 < n → s.mirror.waits = [] → u = s.setObj (0x6040 + c) 2 n →
      (acknowledge c n s).obj (0x6040 + c) 2 = n ∧ (acknowledge c n s).mirror.replay = (releaseReplay u).mirror.replay)

/-- With the mirror started, a gap sends its Nak, the Ack and Hello intervals send theirs and advance their sequences; an
open frame past its close time is closed, but for the records of a group that is not complete, which stay open; an
idle stream past the heartbeat sends its frame; the replay timeout sends every unacknowledged frame again, counted and
raised. -/
def Obligations.MirrorTimers : Prop :=
  (∀ (stream : Fin 16) (g : Nat × Nat) (s : State), gapOf s stream = some g → s.mirror.started = true →
      ∃ t, exec (.nakDelay stream) s = .next t ∧ t = sendAck [(stream.val, g.1, g.2)] s ∧ t.mirror.ackSeq = s.mirror.ackSeq + 1) ∧
  (∀ (k : Fin 16) (s : State), cumAck s k ≠ s.obj (0x6040 + k) 4 → s.mirror.started = true →
      ∃ t, exec .ackInterval s = .next t ∧ t = sendAck [] s ∧ t.mirror.ackSeq = s.mirror.ackSeq + 1) ∧
  (∀ (s : State), s.mirror.started = true → ∃ t, exec .helloInterval s = .next t ∧ t = sendAck [] (sendHello s) ∧
        t.mirror.helloSeq = s.mirror.helloSeq + 1 ∧ t.mirror.ackSeq = s.mirror.ackSeq + 1) ∧
  (∀ (stream : Fin 16) (d : Nat) (s : State), readyFrame s stream = true → s.obj 0x6000 9 ≤ s.since (s.tx stream).since → (s.chan stream).dist = some d →
      ∃ t, exec (.frameCloseTimeout stream) s = .next t ∧ t = closeFrame stream s ∧
        (t.tx stream).open_ = (s.tx stream).open_.filter (keptBack s) ∧ (t.tx stream).lastClose = s.slotNow) ∧
  (∀ (stream : Fin 16) (d : Nat) (s : State), (s.chan stream).dist = some d → feeds s d = true → (s.tx stream).open_ = [] →
      s.obj 0x6000 8 ≤ (s.slotNow + slotMod - (s.tx stream).lastClose % slotMod) % slotMod →
      ∃ t, exec (.heartbeat stream) s = .next t ∧ t = closeFrame stream s ∧ (t.tx stream).lastClose = s.slotNow) ∧
  (∀ (f : TxFrame) (rest : List TxFrame) (s v : State), s.mirror.replay = f :: rest → 2 * s.obj 0x6000 5 ≤ s.since f.sent →
      v = s.unacked.foldl (fun t g => sendData g t) s →
      ∃ t u, exec .replayTimeout s = .next t ∧ u = noteResent (fun g => !g.acked v) v ∧ t = (u.addObj 0x6000 0x21 s.unacked.length).raise 0x03F)

/-- An engine's request is sent again unchanged on every path; a request served too late is dropped, its queued line reads
with it; a read left unanswered is answered with the status of its held channel. -/
def Obligations.RemoteRequests : Prop :=
  (∀ (seq : Nat) (r : RemReq) (s : State), s.mirror.reqs.find? (fun r => r.seq == seq) = some r → r.purpose ≠ 0 →
      ∃ t, exec (.remoteRequestResend seq) s = .next t ∧ t = sendPaths seq (frameHeader 2 0 s.vault.session 1 seq)
        (natLe 9 r.asOf.word ++ natLe 1 (s.twinOf r.dist) ++ natLe 1 r.lines ++ natLe 1 r.purpose ++
          natLe 4 (2 ^ 32 - 1) ++ natLe 5 (r.dline % 2 ^ 38) ++ List.replicate 43 0) s ∧ t.mirror.reqs = s.mirror.reqs) ∧
  (∀ (seq : Nat) (v : Serve) (s : State), s.mirror.serving.find? (fun v => v.seq == seq) = some v → serveLate s v = true →
      ∃ t, exec (.remoteServiceExpiry seq) s = .next t ∧ t = endServe v s ∧ t.mirror.serving = s.mirror.serving.filter (fun w => w.seq != seq)) ∧
  (∀ (seq : Nat) (r : RemReq) (s : State), s.mirror.reqs.find? (fun r => r.seq == seq) = some r → r.purpose = 0 →
      serialLe cycleMod ((40 * r.deadline + cycleMod - 80) % cycleMod) s.cycleNow = true →
      ∃ t, exec (.remoteAnswerTimeout seq) s = .next t ∧ t = fillError r.chan r.line (heldStatus (s.chan r.chan).st)
        { s with mirror := { s.mirror with reqs := s.mirror.reqs.filter (fun x => x.seq != seq) } })

/-- A silent port is down; a Lead district unacknowledged at the break timeout is Broken with cause 1; a Connecting
district with a mismatch is in Conflict at the pairing timeout; a Follower without its twin promotes itself; the apply
horizon takes the waiting reads in hand, and answers ABSENT what it cannot serve; a demotion with all acknowledged
ends as Follower. -/
def Obligations.MirrorStates : Prop :=
  (∀ (port : Fin 16) (s : State), ∃ t, exec (.pathSilentTimeout port) s = .next t ∧ t.mirror.up = s.mirror.up.set port false) ∧
  (∀ (d : Fin 4) (s : State), s.sup.squall = .idle → s.obj 0x6000 6 ≠ 0 → feeds s d = true → allAcked s d = false →
      ∃ t, exec (.breakTimeout d) s = .next t ∧ t = breakMirror d 1 s ∧ (t.dist d).mst = .broken) ∧
  (∀ (d : Fin 4) (s : State), (s.dist d).mst = .connecting → (s.dist d).mismatch = true →
      ∃ t, exec (.pairingTimeout d) s = .next t ∧ (t.dist d).mst = .conflict ∧ t.obj (0x6010 + d) 4 = 9) ∧
  (∀ (d : Fin 4) (s : State), s.obj 0x6000 7 ≠ 0 → s.role d = 2 →
      ∃ t, exec (.twinSilent d) s = .next t ∧ t = promoteDistrict d (s.raise 0x03C)) ∧
  (∀ (d : Fin 4) (s v : State), v = applyHorizon d s →
      ∃ t, exec (.applyHorizonAdvance d) s = .next t ∧ t = (v.mirror.serving.filter (fun x => x.dist == d.val && !x.queued && stampLt x.asOf (v.dist d).applyA)).foldl
        (fun t x => if servable t x then serveStart x t else sendAnswer x true t) v) ∧
  (∀ (d : Fin 4) (s : State), (s.dist d).demoting = true → allAcked s d = true →
      s.order.any (fun e => e.2.any (fun a => a.dist == d.val && !a.kind.isRead && !a.engine)) = false →
      ∃ t, exec (.demoteComplete d) s = .next t ∧ t.obj (0x6010 + d) 1 = 2 ∧ (t.dist d).demoting = false ∧ (t.dist d).stopWrites = false)

/-- Each engine row, where its context may run, does one burst where the gate window has room for it (else it defers) and
moves its progress on: 16 items of a page's migration, up to 64 lines of a repair (its entry freed with an event at
the end), 64 of a rebuild, a page of a push, a page of a pull; FORMAT_COMPLETE makes the district Formed or Degraded.
Bursts of contexts 1 and 2 are whole in their row (log 35). -/
def Obligations.EngineBursts : Prop :=
  (∀ (d : Fin 4) (page : Nat) (b : State × Option (BitVec 512)) (block : BitVec 512) (s : State), (s.dist d).st.serving = true → (s.dist d).desc.mode ≠ 2 →
      page < (s.dist d).desc.carve.pages →
      (sweepReady s ((s.dist d).desc.place (4096 * page) 0).1 1 32 = false →
        exec (.migrationBurst d page) s = .next (deferBurst ((s.dist d).desc.place (4096 * page) 0).1 1 32 s)) ∧
      (sweepReady s ((s.dist d).desc.place (4096 * page) 0).1 1 32 = true → b = needReplaced (.node true d 0 page) d s → b.2 = some block → cursorBusy (nodeCursor block) = true → s.vault.rollActive = false →
        exec (.migrationBurst d page) s = .next (migrate16 d page block b.1))) ∧
  (∀ (entry : Fin 256) (r : Repair) (w : State × Nat) (s v : State), r = s.repairAt entry → r.state ≠ 0 → r.kind ≠ 0 → r.progress < repairLines r.kind →
      v = (if r.state = 1 then s.setRepair entry { r with state := repairState s r.dist } else s) →
      w = repairLines64 entry (r.firstLine + r.progress) (min 64 (repairLines r.kind - r.progress)) 0 true v →
      (r.progress + w.2 < repairLines r.kind → (r.progress + w.2) / 4096 = r.progress / 4096 → (w.1.repairAt entry).kind = r.kind →
        ∃ t, exec (.repairBurst entry) s = .next t ∧ t = w.1.setRepair entry { w.1.repairAt entry with progress := r.progress + w.2 }) ∧
      (repairLines r.kind ≤ r.progress + w.2 → ∃ t, exec (.repairBurst entry) s = .next t ∧
        t = (storeRepair entry (w.1.setRepair entry Repair.free)).raise (if (w.1.repairAt entry).marked then 0x033 else 0x032) ∧ t.repairAt entry = Repair.free)) ∧
  (∀ (c : Fin 16) (w : State × Nat) (s : State), s.obj 0x2F00 (0x10 + c) = 10 → (s.chan c).st = .rebuilding →
      ((gateFits s c 64 && engineOpen s c 2) = false → exec (.rebuildBurst c) s = .next (deferBurst c 2 64 s)) ∧
      ((gateFits s c 64 && engineOpen s c 2) = true → w = rebuildLines c (s.obj (0x6060 + c) 1) (min 64 (rebuildLast s c - s.obj (0x6060 + c) 1)) 0 true (noteBurst c 2 0 (rebuildLast s c) s) →
        s.obj (0x6060 + c) 1 + w.2 < rebuildLast s c → (s.obj (0x6060 + c) 1 + w.2) / 2 ^ 20 = s.obj (0x6060 + c) 1 / 2 ^ 20 →
        ∃ t, exec (.rebuildBurst c) s = .next t ∧ t = (addProgress c 2 w.2 w.1).setObj (0x6060 + c) 1 (s.obj (0x6060 + c) 1 + w.2) ∧
          t.obj (0x6060 + c) 1 = s.obj (0x6060 + c) 1 + w.2)) ∧
  (∀ (d : Fin 4) (s v : State) (chans : List Nat), s.role d = 1 → (s.dist d).mst = .resyncing → (s.dist d).push = true → (s.dist d).pull = [] →
      2 ^ 19 ≤ 2 ^ 21 - (replayUsed s + rxUsed s) → recoveryRoom s 64 = true → s.dataPages d ≠ 0 →
      chans = ((List.range 64).map (fun k => ((s.dist d).desc.place (4096 * ((s.dist d).pushPage % max 1 (s.dataPages d)) + 64 * k) 0).1)).eraseDups →
      chans.all (fun c => sweepReady s c 2 (64 / max 1 chans.length)) = true →
      v = resyncCount d ((List.range 64).foldl (fun t k => enterOrder (copyAccess t d (64 * ((s.dist d).pushPage % max 1 (s.dataPages d)) + k)) t) (recoverySpend 64 s)) →
      ∃ t u, exec (.resyncPushBurst d) s = .next t ∧ t = checkResync d (chans.foldl (fun t c => advanceHorizon c (addProgress c 2 (64 / max 1 chans.length) t)) u) ∧
        u = v.modDist d (fun y => { y with pushPage := (s.dist d).pushPage + 1, push := decide (v.obj (0x6010 + d) 8 < v.obj (0x6010 + d) 9) })) ∧
  (∀ (d : Fin 4) (r : PageRange) (rest : List PageRange) (s : State) (want : List Nat), (s.dist d).pull = r :: rest → (s.dist d).mst = .resyncing →
      s.mirror.reqs.any (fun q => q.dist == d.val && q.purpose == 3) = false → recoveryRoom s 64 = true →
      want = (List.range 64).filter (fun k => !plazaKeeps s d (64 * r.first + k)) →
      (want = [] → exec (.resyncPullBurst d) s = .next (pullPageDone d s)) ∧
      (want ≠ [] → exec (.resyncPullBurst d) s = .next (want.foldl (fun t k => engineAsk 3 d (64 * r.first + k) t) (recoverySpend want.length s)))) ∧
  (∀ (d : Fin 4) (s : State), (s.dist d).st = .formatting →
      ∃ t, exec (.formatComplete d) s = .next t ∧ (t.dist d).st = (if (s.dist d).desc.channels.any (fun c => (s.chan c).st.degrades) then .degraded else .formed) ∧
        (t.dist d).formatGen = s.vault.gen ∧ (t.dist d).flags = (if (s.dist d).desc.mode = 0 then 3 else 1))

/-- At an open key port a well-formed record is taken, a third malformed one fails the intake; the timeout takes the
intake as none, closes the port and goes to Recovery; the training stage ends when no channel trains and opens the
port with no discard counted. -/
def Obligations.KeysTaken : Prop :=
  (∀ (words : List (BitVec 32)) (s : State), s.keys.portOpen = true → s.keys.closed = false →
      (∀ r, readKeyRec words = some r → exec (.keyRecord words) s = .next (intakeEnds (intakeRecord r s))) ∧
      (readKeyRec words = none → s.keys.discards < 2 → ∃ t, exec (.keyRecord words) s = .next t ∧ t = { s with keys := { s.keys with discards := s.keys.discards + 1 } }) ∧
      (readKeyRec words = none → 2 ≤ s.keys.discards → ∃ t, exec (.keyRecord words) s = .next t ∧
        t = intakeEnds (intakeFails { s with keys := { s.keys with discards := s.keys.discards + 1 } }))) ∧
  (∀ (s : State), s.keys.portOpen = true → s.keys.closed = false →
      ∃ t, exec .keyIntakeTimeout s = .next t ∧ t = intakeEnds (intakeNone s) ∧ t.keys.portOpen = false ∧ t.blk.st = .recovery) ∧
  (∀ (s : State), s.blk.st = .resetPhase → s.blk.stage = 4 → s.chans.all (fun e => e.2.st != .training) = true →
      ∃ t, exec .trainingStageEnd s = .next t ∧ t.blk.stage = 5 ∧ t.keys = { s.keys with portOpen := true, discards := 0 } ∧ t.blk.st = .resetPhase)

/-- A hardware sweep's results decide the verification and its failing step; completion starts, fails or thaws the channel
as training came about; the fallback trains rank 0 at the lower rate and copies its references to the other ranks,
their deltas at 0; firmware that never answers hands over to hardware or fails; a helper operation's completion frees
the channel and writes its result. -/
def Obligations.TrainingRuns : Prop :=
  (∀ (c : Fin 16) (r : SweepResult) (s u : State), (s.chan c).st = .training → (s.chan c).quick = false → s.obj (calIdx c) 1 = 2 → (s.chan c).verified = none →
      (s.chan c).fromFrozen = false → multiRank s c = false →
      u = (s.setObj (timIdx c) 0x20 (min 5000 r.gaps.1)).setObj (timIdx c) 0x21 (min 5000 r.gaps.2) →
      (∃ t, exec (.hardwareSweep c r) s = .next t ∧ t = sweepResult c (s.obj (timIdx c) 1) 0 r u) ∧
      (2 ≤ r.failStep → ∃ t, exec (.hardwareSweep c r) s = .next t ∧ (t.chan c).verified = some false ∧ t.obj (calIdx c) 4 = 3 ∧ t.obj (calIdx c) 5 = r.failStep)) ∧
  (∀ (c : Fin 16) (verified : Bool) (s : State), (s.chan c).st = .training →
      ((s.chan c).quick = true → exec (.trainingComplete c verified) s = .next (quickStart c verified s)) ∧
      ((s.chan c).quick = false → (s.chan c).verified = some false → exec (.trainingComplete c verified) s = .next (trainingFailed c s)) ∧
      ((s.chan c).quick = false → (s.chan c).verified = some true → (s.chan c).fromFrozen = false → exec (.trainingComplete c verified) s = .next (trainedChannel c false s)) ∧
      ((s.chan c).quick = false → (s.chan c).verified = some true → (s.chan c).fromFrozen = true →
        exec (.trainingComplete c verified) s = .next (thawChannel c ((claimPaths c (applyNow c s)).setObj (calIdx c) 1 3)))) ∧
  (∀ (c : Fin 16) (r : SweepResult) (s u : State), (s.chan c).st = .training → (s.chan c).quick = false → s.obj (calIdx c) 1 = 2 → (s.chan c).verified = none →
      (s.chan c).fromFrozen = false → multiRank s c = true →
      u = sweepResult c (fallbackRate (calCause c 1 ((s.setObj (timIdx c) 0x20 5000).setObj (timIdx c) 0x21 5000)) c) 2 r (calCause c 1 ((s.setObj (timIdx c) 0x20 5000).setObj (timIdx c) 0x21 5000)) →
      ((u.chan c).verified = some true → ∃ t, exec (.rank0Fallback c r) s = .next t ∧ t = storeTrained c (copyTrained c u)) ∧
      ((u.chan c).verified ≠ some true → exec (.rank0Fallback c r) s = .next u)) ∧
  (∀ (c : Fin 16) (s : State), (s.chan c).st = .training → s.obj (calIdx c) 1 = 1 → (s.chan c).verified = none →
      ((s.chan c).fromFrozen = false → ∃ t, exec (.firmwareTrainTimeout c) s = .next t ∧ t = stopHelper c (s.setObj (calIdx c) 1 2)) ∧
      ((s.chan c).fromFrozen = true → ∃ t, exec (.firmwareTrainTimeout c) s = .next t ∧ t = s.setChan c { s.chan c with verified := some false })) ∧
  (∀ (c : Fin 16) (r : HelperResult) (op : Nat) (s : State), (s.chan c).helper = some op →
      ∃ t, exec (.helperOpComplete c r) s = .next t ∧ (t.chan c).helper = none ∧
        t.obj (0xA000 + c) 2 = (if !helperAllowed s c op then 3 else if r.responded then 2 else 5))

/-- A scan of a held lane marks it scanned; at a swap slot every loaded lane changes its path and its loaded trims become
active; a baseline 4 steps away is adjusted to the temperature; a finished run is stored with its temperature, its
point of equal weight a free choice (log 1). -/
def Obligations.CalibrationRuns : Prop :=
  (∀ (c : Fin 16) (lane : Fin 10) (x : LaneScan) (s : State), calLive s c = true → laneHeld s c lane = true → (s.chan c).pstate = .active →
      x.edges.length = 8 → x.strobe.length = 2 →
      ∃ t, exec (.crossScanComplete c lane x) s = .next t ∧ ((t.chan c).lane lane).scanned = true) ∧
  (∀ (c : Fin 16) (s : State), calLive s c = true → isSwapSlot s c = true → (List.range 10).any (fun l => !((s.chan c).lane l).loaded.isEmpty && laneHeld s c l) = true →
      (s.chan c).lock = none → (s.chan c).subs.any (fun e => e.2.alert.isSome) = false → s.inRefresh c (s.refreshDoubled c) s.slotNow = false →
      ∃ t u, exec (.calibrationSwap c) s = .next t ∧ u = (s.setChan c { s.chan c with deferrals := 0 }).addObj (calIdx c) 0x13 1 ∧
        t = swapAll c u) ∧
  (∀ (c : Fin 16) (l : Fin 10) (s : State), ((s.chan c).lane l).loaded.isEmpty = false →
      (((swapLane c l s).chan c).lane l).pathB = !((s.chan c).lane l).pathB ∧ (((swapLane c l s).chan c).lane l).loaded = [] ∧
        (swapLane c l s).recs = (setTrims c ((s.chan c).lane l).loaded s).recs) ∧
  (∀ (c : Fin 16) (s : State), calLive s c = true → 4 ≤ (calTemp s c - (s.chan c).applied).natAbs →
      ∃ t, exec (.tempBaselineAdjust c) s = .next t ∧ t = applyBaseline c (calTemp s c) s ∧ (t.chan c).applied = calTemp s c) ∧
  (∀ (c : Fin 16) (r : CalRun) (s : State), (s.chan c).run = some r → calLive s c = true → r.again = false →
      ((List.range 10).filter (laneHeld s c)).all (fun l => ((s.chan c).lane l).scanned && ((s.chan c).lane l).loaded.isEmpty) = true →
      ∃ t, exec (.measurementRunEnd c) s = .next t ∧ (t.chan c).run = none ∧ t.obj (calIdx c) 0x0A = ofSigned 16 r.temp ∧ t.freeCtr = s.freeCtr + 1)

/-- On a channel in live calibration: WRITE_TRACK of a rank slot the channel has completes for any counts; the first count
of a device's oscillator is its base, and a later one gives that device's drift, runtime · (base − count) · 128 · rate
÷ (2 · count · base · 10^6) rounded away from zero. WRITE_RETRAIN completes: where the burst does not fit it is
deferred and nothing moves; where it fits it moves the write delays to the measured centres, stores them and forgets
bases and drift. REF_CALIBRATION completes for any targets: each of the eight impedance codes moves by one toward its
target, one that would leave 0 to 63 stays and raises cause 6. EYE_SCAN_COMPLETE of a lane held by holder 9 stores its
map and leaves the lane's claim at holder 8. -/
def Obligations.WriteSideCalibration : Prop :=
  (∀ (c : Fin 16) (rs : Fin 8) (runtime : Nat) (counts : List Nat) (s : State), calLive s c = true → (rankSlots s c).contains rs.val = true →
      ∃ t, exec (.writeTrack c rs runtime counts) s = .next t ∧ ∀ (k n : Nat), k < 20 → counts[k]? = some n →
        (tfind (s.chan c).osc (20 * rs.val + k) = none → tfind (t.chan c).osc (20 * rs.val + k) = some n ∧
          tget (t.chan c).drift (20 * rs.val + k) 0 = tget (s.chan c).drift (20 * rs.val + k) 0) ∧
        (∀ b, tfind (s.chan c).osc (20 * rs.val + k) = some b → tfind (t.chan c).osc (20 * rs.val + k) = some b ∧
          (n ≠ 0 → b ≠ 0 → tget (t.chan c).drift (20 * rs.val + k) 0 =
            roundAway ((runtime : Int) * ((b : Int) - n) * (128 * s.rate c)) (2 * n * b * 10 ^ 6)))) ∧
  (∀ (c : Fin 16) (centres : List Int) (s w u v : State) (n : Nat), calLive s c = true → s.obj 0x2F00 (0x10 + c) = 0 →
      w = s.setObj 0x2F00 (0x10 + c) 4 → n = retrainLines * (rankSlots w c).length →
      (sweepReady w c 3 16 = false → exec (.writeRetrain c centres) s = .next (releaseOwn (0x10 + c) 4 (deferBurst c 3 16 w))) ∧
      (sweepReady w c 3 16 = true → u = applyPending c (noteBurst c 3 n n w) →
        v = (newBase c (((rankSlots u c).zipIdx).foldl (fun t r => forN 20 t (fun k u =>
          setTrims c (trimLoad (commonOff (k / 10) + 0xF8 + 10 * r.1 + k % 10) .s8
            (trimAtOff u c (commonOff (k / 10) + 0xF8 + 10 * r.1 + k % 10) .s8 + centres.getD (20 * r.2 + k) 0)) u)) u)).addObj (calIdx c) 0x18 1 →
        ∃ t, exec (.writeRetrain c centres) s = .next t ∧ t = releaseOwn (0x10 + c) 4 (endCtx c 3 (writeTrims c (ldNat v.mram (trimAt c + 0x10) 1) (storedPoints v c) v)) ∧
          (v.chan c).osc = [] ∧ (v.chan c).drift = [])) ∧
  (∀ (c : Fin 16) (targets : List Int) (s : State) (r : State × Bool), calLive s c = true →
      r = forN 8 (s, false) (fun k x =>
        let o := commonOff (k / 4) + k % 4
        let v := trimAtOff x.1 c o .u8
        let w := targets.getD k v
        let n := if v < w then v + 1 else if w < v then v - 1 else v
        if n < 0 || 63 < n then (x.1, true) else (setTrims c (trimLoad o .u8 n) x.1, x.2)) →
      (r.2 = false → exec (.refCalibration c targets) s = .next r.1) ∧ (r.2 = true → exec (.refCalibration c targets) s = .next (calCause c 6 r.1))) ∧
  (∀ (c : Fin 16) (lane : Fin 10) (map : List (BitVec 8)) (s : State), s.obj 0x2F00 (laneSub c lane) = 9 → s.obj (calIdx c) 1 = 3 →
      ∃ t, exec (.eyeScanComplete c lane map) s = .next t ∧ t.obj 0x2F00 (laneSub c lane) = 8 ∧ t.recs = (s.setRec (calIdx c) 0x24 0 (fit 3977 map)).recs)

/-- An excursion is recorded, counted and acted on by its input, VDDP below 400 mV dropping EN_VDDQ at once; a qualified
rail enables the next, and VDDQ ends the sequence; a ramp timeout aborts; rails discharge in order, a late one is
logged and the next follows, VDDQ's leaves the shutdown incomplete; low VDDP drops EN_VDDQ; a collapse leaves the
block Off with a free number of pending MRAM words written (log 1); VHOLD at the hard stop re-plans the drain or ends
the hold. -/
def Obligations.SuppliesSequence : Prop :=
  (∀ (i : Fin 6) (mv : Nat) (s u : State), s.sup.st = .good → s.sup.firstLogged = true → (i = 0 → 5 * s.obj 0x7001 1 ≤ mv) →
      u = (recordSense i mv false false s).addObj (0x7001 + i) 9 1 →
      (∃ t w, exec (.senseExcursion i mv) s = .next t ∧
        w = (if i.val = 4 then { u with sup := { u.sup with returned := false } } else u).raise (if i.val = 5 then 0x1EB else 0x1E0) ∧
        t = goodExcursion i (if i.val = 2 ∧ mv < 400 then vddpCutoff w else w)) ∧
      (u.sense i).good = false ∧ (u.sense i).inWindow = false ∧ u.obj (0x7001 + i) 6 = min mv 65535 ∧ u.obj (0x7001 + i) 7 = 0 ∧
      u.obj (0x7001 + i) 9 = min (s.obj (0x7001 + i) 9 + 1) (objMax (0x7001 + i) 9)) ∧
  (∀ (mv : Nat) (s : State),
      (inWindow s 1 mv = true → s.sup.st = .rampVaa → ∃ t, exec (.senseQualified 1 mv) s = .next t ∧ (t.sense 1).good = true ∧ t.obj 0x7002 7 = 1 ∧
        t.sup.st = .rampVddp ∧ t.sup.enVddp = true) ∧
      (inWindow s 2 mv = true → s.sup.st = .rampVddp → ∃ t, exec (.senseQualified 2 mv) s = .next t ∧ (t.sense 2).good = true ∧ t.obj 0x7003 7 = 1 ∧
        t.sup.st = .rampVddq ∧ t.sup.enVddq = true) ∧
      (inWindow s 3 mv = true → s.sup.st = .rampVddq → s.blk.st ≠ .sequencing → ∃ t, exec (.senseQualified 3 mv) s = .next t ∧ (t.sense 3).good = true ∧ t.obj 0x7004 7 = 1 ∧
        t.sup.st = .good) ∧
      (inWindow s 3 mv = true → s.sup.st = .rampVddq → s.blk.st = .sequencing → ∃ t, exec (.senseQualified 3 mv) s = .next t ∧
        t.sup.st = .good ∧ t.blk.st = .resetPhase ∧ t.blk.stage = 1)) ∧
  (∀ (s : State) (i : Nat), ((s.sup.st = .rampVaa ∧ i = 1) ∨ (s.sup.st = .rampVddp ∧ i = 2) ∨ (s.sup.st = .rampVddq ∧ i = 3)) →
      ∃ u t, u = (logFailure 2 i 0 s).raise 0x1E1 ∧ exec .rampTimeout s = .next t ∧ t = { u with sup := dropNext { u.sup with st := .aborted } } ∧ t.sup.st = .aborted) ∧
  (∀ (s : State), (s.sup.st = .downVddq → exec (.railDischarged 2) s = .next { s with sup := { s.sup with st := .downVddp, enVddp := false } }) ∧
      (s.sup.st = .downVddp → exec (.railDischarged 1) s = .next { s with sup := { s.sup with st := .downVaa, enVaa := false } }) ∧
      (s.sup.st = .downVaa → s.sup.squall ≠ .sequencing → exec (.railDischarged 0) s = .next { s with sup := { s.sup with st := .down } }) ∧
      (s.sup.st = .downVaa → s.sup.squall = .sequencing → s.sup.returned = false → exec (.railDischarged 0) s =
        .next { s with sup := { s.sup with st := .down, squall := .idle }, blk := { s.blk with st := .off, admission := false } })) ∧
  (∀ (s u : State) (rail : Fin 3), u = ((logFailure 3 (rail + 1) 0 s).setObjBit 0x7000 5 (rail + 1) true).raise 0x1E2 →
      (s.sup.st = .downVddp → rail = 1 → exec (.dischargeTimeout rail) s = .next (sequencingEnds { u with sup := nextRail u.sup 1 })) ∧
      (s.sup.st = .downVaa → rail = 0 → exec (.dischargeTimeout rail) s = .next (sequencingEnds { u with sup := nextRail u.sup 0 })) ∧
      (s.sup.st = .downVddq → rail = 2 → exec (.dischargeTimeout rail) s = .next (sequencingEnds { u with sup := { u.sup with st := .incomplete } })) ∧
      bit (u.obj 0x7000 5) (rail + 1) = true) ∧
  (∀ (s u : State), u = { s with sup := { s.sup with vddpCut := true, enVddq := false } } →
      (s.sup.squall ≠ .draining → exec .vddpLowCutoff s = .next u) ∧
      (s.sup.squall = .draining → exec .vddpLowCutoff s = .next (leaveCommitted u))) ∧
  (∀ (s : State), ∃ t, exec .collapse s = .next t ∧ t.sup.st = .off ∧ t.sup.squall = .idle ∧ t.sup.enVaa = false ∧ t.sup.enVddp = false ∧ t.sup.enVddq = false ∧
      t.blk.st = .off ∧ t.blk.admission = false ∧ t.mram = writeWords (s.sup.words.take (Config.freeNat s.freeCtr % (s.sup.words.length + 1))) s.mram) ∧
  (∀ (mv : Nat) (s u : State), u = s.setObj 0x7006 6 mv → mv ≤ s.obj 0x7010 0x0A → s.obj 0x7010 4 ≠ 0 →
      (s.sup.squall = .draining → s.sup.unlimited = false → exec (.holdHardStop mv) s = .next (planDrain { u with sup := { u.sup with hardStop := true } })) ∧
      (s.sup.squall = .holding → exec (.holdHardStop mv) s = .next (beginSaving u)))

/-- A finished drain begins the root commit, its end writes the pending words and parks the channels, self-refresh is
followed by the hold, the saving or, for cause 4, a restart once no tag is left; a good VIN thaws; a finished thaw
reopens admission; save and restore reports set their bays' flags, and the timeouts end the wait or fault the bay. -/
def Obligations.SquallRuns : Prop :=
  (∀ (s : State), s.sup.squall = .draining → (drainStep s).sup.committed = [] → writesUnderway (drainStep s) = false →
      ((drainStep s).chans.all (fun e => e.2.lock.isNone)) = true →
      ∃ t, exec .drainComplete s = .next t ∧ t = beginCommit (drainStep s) ∧ t.sup.squall = .committing) ∧
  (∀ (s u : State), s.sup.squall = .committing → u = { s with mram := writeWords s.sup.words s.mram, sup := { s.sup with squall := .selfRefresh, words := [] } } →
      ∃ t, exec .rootCommitComplete s = .next t ∧ t = parkChannels .selfRefresh (u.raise 0x1E6) ∧ t.sup = u.sup) ∧
  (∀ (vinIn : Bool) (s u : State), s.sup.squall = .selfRefresh → u = (s.setSense 4 { (s.sense 4) with inWindow := true }).setObj 0x7005 7 1 →
      (s.obj 0x7010 2 = 4 → exec (.squallSelfRefreshDone vinIn) s = .next (resetDue { s with sup := { s.sup with parked := true } })) ∧
      (s.obj 0x7010 2 = 1 → vinIn = true → exec (.squallSelfRefreshDone vinIn) s = .next ({ u with sup := { u.sup with squall := .holding } }.raise 0x1E7)) ∧
      (s.obj 0x7010 2 ≠ 4 → ¬ (s.obj 0x7010 2 = 1 ∧ vinIn = true) → exec (.squallSelfRefreshDone vinIn) s = .next (beginSaving s)) ∧
      (beginSaving s).sup.squall = .sequencing) ∧
  (∀ (s u : State), u = (s.setSense 4 { (s.sense 4) with inWindow := true }).setObj 0x7005 7 1 → s.sup.squall = .holding →
      ∃ t, exec .thawQualify s = .next t ∧ t = beginThaw { u with sup := { u.sup with returned := true } } ∧ t.sup.squall = .thawing ∧ t.blk.st = .thawing) ∧
  (∀ (s : State), s.sup.squall = .thawing → (∀ c < 16, trained s c = true → (s.chan c).st = .fenced ∨ (s.chan c).pstate = .active) →
      ∃ t, exec .thawComplete s = .next t ∧ t.sup.squall = .idle ∧ t.blk.st = .running ∧ t.blk.admission = true ∧ t.vault.marker = true) ∧
  (∀ (bays : BitVec 32) (s : State), s.sup.squall = .sequencing →
      exec (.saveComplete bays) s = .next (((List.range 32).filter (fun b => bit (s.obj 0x7020 2) b && bit bays.toNat b)).foldl
        (fun t b => (setSaveFlag b 2 true t).setObjBit (0x7100 + b) 8 0 true) s)) ∧
  (∀ (s : State), s.sup.squall = .awaitSave →
      ∃ t, exec .saveCompleteTimeout s = .next t ∧ t.blk.st = .sequencing ∧ t.blk.stage = 0 ∧ t.sup.st = .rampVaa ∧ t.sup.enVaa = true ∧ t.sup.squall = .idle ∧
        t = saveEnds (((List.range 32).filter (fun b => bit (s.obj 0x7020 2) b && !saveFlag s b 2)).foldl (fun t b => (setSaveFlag b 4 true t).raise 0x1F9) s)) ∧
  (∀ (b : Fin 32) (status : BitVec 8) (m : ModuleInfo) (s u : State), s.moduleAt b = some m → m.energyBacked = true → u = s.setObj (0x7100 + b) 8 status.toNat →
      (bit status.toNat 4 = true → exec (.restoreComplete b status) s = .next (setNeeds b true (bayFault b 7 u))) ∧
      (bit status.toNat 4 = false → bit status.toNat 1 = true → bit status.toNat 3 = true →
        ∃ t, exec (.restoreComplete b status) s = .next t ∧ b.val ∈ t.sup.restored ∧ t.obj (0x7100 + b) 8 = status.toNat ∧
          (t.bay b).module = some { m with saveStatus := m.saveStatus &&& 0xFA }) ∧
      (bit status.toNat 4 = false → ¬ (bit status.toNat 1 = true ∧ bit status.toNat 3 = true) → exec (.restoreComplete b status) s = .next u)) ∧
  (∀ (b : Fin 32) (s : State), s.blk.st = .resetPhase → s.blk.stage = 3 → s.sup.restored.contains b.val = false →
      ∃ t, exec (.restoreTimeout b) s = .next t ∧ t = (setNeeds b true (bayFault b 7 s)).raise 0x1FA ∧ (t.bay b).st = .fault)

/-- A scan takes the inputs of every bay or counts a bad frame; a button starts a removal, refuses one or restarts a bay;
an insertion in service begins discovery; discovery of a fitting module trains it; PMIC timeouts fault the bay with
causes 3 and 4; lamp timers clear their own flag and touch nothing else of bays, objects, MRAM and channels; a third
missed poll raises the sideband fault. -/
def Obligations.BaysServed : Prop :=
  (∀ (v : BitVec 192) (s u : State), s.blk.st ≠ .off →
      ((List.range 32).all (fun b => bits (scanGroup v b) 5 4 == 2) = false → s.sup.chainBad ≠ 2 →
        exec (.bayChainScan v) s = .next ({ s with sup := { s.sup with chainBad := s.sup.chainBad + 1, chainGood := 0 } }.addObj 0x7000 0x11 1)) ∧
      ((List.range 32).all (fun b => bits (scanGroup v b) 5 4 == 2) = true → s.obj 0x7000 0x10 = 0 → s.sup.chainGood < 2 →
        u = forN 32 (forN 32 { s with sup := { s.sup with chainBad := 0, chainGood := s.sup.chainGood + 1 } } (fun b t => t.modBay b (fun y => { y with inputs := scanGroup v b % 16 })))
          (fun b t => bayInput b (baysHeld t) t) →
        exec (.bayChainScan v) s = .next (forN 32 u.tickFree (fun b t => t.modBay b (fun y =>
          { y with led := if ledState y = 0 then false else if ledState y = 3 then true else Config.freeBit u.freeCtr }))))) ∧
  (∀ (b : Fin 32) (s : State),
      (((s.bay b).st = .inService ∨ (s.bay b).st = .fault) → removalOk s b = true →
        ∃ t, exec (.buttonPress b) s = .next t ∧ t = ((s.modBay b (fun y => { y with st := .preparing, pmic := true })).setObj (0x7100 + b) 5 0).raise 0x1F0 ∧ (t.bay b).st = .preparing) ∧
      (((s.bay b).st = .inService ∨ (s.bay b).st = .fault) → removalOk s b = false →
        exec (.buttonPress b) s = .next ((s.modBay b (fun y => { y with refusedBlink := true })).raise 0x1F1)) ∧
      ((s.bay b).st = .safeToRemove → chainFault s = false → baysHeld s = false → s.obj 0x2F00 (busSub b) = 0 →
        exec (.buttonPress b) s = .next ((s.setObj 0x2F00 (busSub b) 11).modBay b (fun y => { y with st := .discovering, pmic := true, module := none })))) ∧
  (∀ (b : Fin 32) (s : State), (s.bay b).st = .empty → bit (s.bay b).inputs 3 = false → bit (s.bay b).inputs 2 = false →
      (s.blk.st = .running ∨ s.blk.st = .recovery ∨ s.blk.st = .config ∨ s.blk.st = .test) → chainFault s = false → baysHeld s = false → s.obj 0x2F00 (busSub b) = 0 →
      ∃ t, exec (.insertion b) s = .next t ∧ t = ((s.setObj 0x2F00 (busSub b) 11).modBay b (fun z => { z with st := .discovering, pmic := true })).raise 0x1F5 ∧
        (t.bay b).st = .discovering ∧ (t.bay b).pmic = true) ∧
  (∀ (b : Fin 32) (m : ModuleInfo) (s u : State), (s.bay b).st = .discovering → spdUsable m = true → fitsDesc s b m = true →
      (∀ o, mate s b = some o → o.kind = m.kind) → m.powerGood = true →
      u = computeTiming (bayChan b) ((newModule b m (releaseOwn (busSub b) 11 s)).modBay b (fun y => { y with st := .training })) →
      ∃ t, exec (.discoveryComplete b m) s = .next t ∧ t = retrainFenced (bayChan b) u ∧ (t.bay b).st = .training) ∧
  (∀ (b : Fin 32) (s : State), (s.bay b).st = .discovering → bit (s.bay b).inputs 0 = false →
      ∃ t, exec (.pmicOnTimeout b) s = .next t ∧ t = (bayFault b 3 (releaseOwn (busSub b) 11 s)).raise 0x1F7 ∧ (t.bay b).st = .fault ∧ t.obj (0x7100 + b) 5 = 3) ∧
  (∀ (b : Fin 32) (s : State), (s.bay b).st = .preparing → bit (s.bay b).inputs 0 = true →
      ∃ t, exec (.pmicOffTimeout b) s = .next t ∧ t = (s.modBay b (fun y => { y with st := .fault, allow := false })).setObj (0x7100 + b) 5 4 ∧ (t.bay b).st = .fault) ∧
  (∀ (b : Fin 32) (s : State), ∃ t, exec (.ledTestExpiry b) s = .next t ∧ t.bay b = { s.bay b with ledTest := false } ∧
      (∀ k, k ≠ b.val → t.bay k = s.bay k) ∧ t.objs = s.objs ∧ t.mram = s.mram ∧ t.chans = s.chans) ∧
  (∀ (b : Fin 32) (s : State), ∃ t, exec (.refusedPressBlinkEnd b) s = .next t ∧ t.bay b = { s.bay b with refusedBlink := false } ∧
      (∀ k, k ≠ b.val → t.bay k = s.bay k) ∧ t.objs = s.objs ∧ t.mram = s.mram ∧ t.chans = s.chans) ∧
  (∀ (b : Fin 32) (m : ModuleInfo) (s u : State), s.moduleAt b = some m →
      (∀ x : Int, exec (.sidebandTempPoll b (some x)) s = .next (noteTemp (bayChan b) (b % 2) x (s.modBay b (fun y => { y with polls := 0 })))) ∧
      ((s.bay b).polls ≠ 2 → exec (.sidebandTempPoll b none) s = .next (s.modBay b (fun y => { y with polls := (s.bay b).polls + 1 }))) ∧
      ((s.bay b).polls = 2 → u = s.modBay b (fun y => { y with polls := 3 }) →
        exec (.sidebandTempPoll b none) s = .next ((setTemps (bayChan b) (tdel (s.chan (bayChan b)).temps (b % 2)) u).raise 0x1FB)))

/-- POWER_ON_RESET in Off takes the straps, forgets the volatile stores, keeps MRAM and DRAM and starts the ramp of VAA;
MRAM_READ loads the stored state and ends S2; MODULE_DISCOVERY_DONE reports and times the modules, starts training and
ends S3; METADATA_CHECK checks and forms the districts and ends S6; MIRROR_START_END fences the untrained channels and
ends S7. -/
def Obligations.StartStages : Prop :=
  (∀ (straps : BitVec 4) (s : State), s.blk.st = .off →
      ∃ t, exec (.powerOnReset straps) s = .next t ∧ t.blk.st = .sequencing ∧ t.blk.stage = 0 ∧ t.blk.inst = straps.toNat ∧ t.sup.st = .rampVaa ∧ t.sup.enVaa = true ∧
        (t.sense 0).good = true ∧ t.obj 0x7001 7 = 1 ∧ t.mram = s.mram ∧ t.dram = s.dram ∧ t.ports = [] ∧ t.plaza = [] ∧ t.keys = Keys.reset) ∧
  (∀ (s u : State), s.blk.st = .resetPhase → s.blk.stage = 2 →
      u = readCeilings (readTables (forN 4 (readFailureLog (readVault s)) (fun d t => readDistrict d t))) →
      ∃ t, exec .mramRead s = .next t ∧ t = endStage 2 (readConfig u) ∧ t.blk.stage = 3) ∧
  (∀ (mods : List (Option ModuleInfo)) (s u v : State), s.blk.st = .resetPhase → s.blk.stage = 3 →
      u = forN 32 s (fun b t => reportBay b (discoverBay mods b t)) →
      v = forN 32 (forN 4 (forN 16 u (fun c t => if (timedModules t c).isEmpty then t else computeTiming c t)) (fun d t => compareDistrict d t))
        (fun b t => trustBay ((List.range 32).filter (fun b => (s.bay b).st == .fault)) b t) →
      ∃ t, exec (.moduleDiscoveryDone mods) s = .next t ∧ t.blk.stage = 4 ∧
        t = endStage 3 (forN 16 v (fun c t => if (t.moduleAt (2 * c)).isSome || (t.moduleAt (2 * c + 1)).isSome then
          startTraining c false (v.obj 0x1200 0x21 == 2) t else t))) ∧
  (∀ (s u : State), s.blk.st = .recovery → s.blk.stage = 6 →
      u = endStage 6 (forN 4 (forN 4 s (fun d t => checkDistrict d t)) (fun d t => autoForm d t)) →
      u.blk.stage = 7 ∧ ∃ t, exec .metadataCheck s = .next t ∧ t = startMirror (forN 4 u (fun d t => lostRanges d (planDistrict d t))) ∧ t.blk.stage = 7) ∧
  (∀ (s u : State), s.blk.st = .recovery → s.blk.stage = 7 → (∀ d < 4, (s.dist d).mst ≠ .connecting) → u = forN 16 (endStage 7 s) (fun c t => fenceUntrained c t) →
      ∃ t, exec .mirrorStartEnd s = .next t ∧ t.blk.stage = 8 ∧
        (u.cad.st ≠ .holdover → (∀ c < 16, (u.chan c).st ≠ .untrained ∧ (u.chan c).st ≠ .fenced) → (∀ d < 4, (u.dist d).st ≠ .mismatch) → t = u))

/-- For every command and every state, with no further condition, exec answers a next state, and that state differs from
the one before only in the parts that the map `changes` gives the row: no row ever ends in a fault or a refusal. This
names every constructor, among them WRITE_TRACK, WRITE_RETRAIN, REF_CALIBRATION, EYE_SCAN_COMPLETE, WINDOW_DOORBELL,
WINDOW_BUFFER_WRITE, BYPASS, SAMPLE_PRELOAD and EXTEST, whose results WriteSideCalibration and WindowAndScan state. -/
def Obligations.EveryCommandCompletes : Prop :=
  ∀ (i : Instr) (s : State), ∃ t, exec i s = .next t ∧ Frame (changes i) s t
end

