-- ==== Sys2Proof/Laws/Bits.lean ====
section
/-! SUPPORT. Writing a field of a line: the field reads back, every other bit stays (R42, R46, R204). -/

namespace Sys2Proof.Machine

/-- A number cut at bits lo and lo + w. -/
theorem split_at (n lo w : Nat) : n = n / 2 ^ (lo + w) * 2 ^ (lo + w) + n / 2 ^ lo % 2 ^ w * 2 ^ lo + n % 2 ^ lo := by
  have h1 := Nat.div_add_mod n (2 ^ lo)
  have h2 := Nat.div_add_mod (n / 2 ^ lo) (2 ^ w)
  have h3 : n / 2 ^ lo / 2 ^ w = n / 2 ^ (lo + w) := by rw [Nat.div_div_eq_div_mul, Nat.pow_add]
  rw [h3] at h2
  rw [Nat.pow_add]
  rw [Nat.pow_add] at h2 h3
  generalize n / (2 ^ lo * 2 ^ w) = h at *
  generalize n / 2 ^ lo % 2 ^ w = f at *
  generalize n % 2 ^ lo = l at *
  rw [← h1, ← h2, Nat.mul_add, Nat.mul_comm f, Nat.mul_comm h, ← Nat.mul_assoc]

/-- The value of a line whose field is replaced. -/
theorem nodeSet_toNat (n : BitVec 512) (lo w v : Nat) (hw : 0 < w) (hl : lo + w ≤ 512) :
    (nodeSet n lo w v).toNat = n.toNat / 2 ^ (lo + w) * 2 ^ (lo + w) + v % 2 ^ w * 2 ^ lo + n.toNat % 2 ^ lo := by
  have hs := split_at n.toNat lo w
  have hb : bits n.toNat (lo + w - 1) lo = n.toNat / 2 ^ lo % 2 ^ w := by
    unfold bits; congr 2; omega
  have hv : v % 2 ^ w < 2 ^ w := Nat.mod_lt _ (Nat.two_pow_pos w)
  have hm : n.toNat % 2 ^ lo < 2 ^ lo := Nat.mod_lt _ (Nat.two_pow_pos lo)
  have hh : n.toNat / 2 ^ (lo + w) < 2 ^ (512 - (lo + w)) := by
    rw [Nat.div_lt_iff_lt_mul (Nat.two_pow_pos _), ← Nat.pow_add]
    have : 512 - (lo + w) + (lo + w) = 512 := by omega
    rw [this]; exact n.isLt
  unfold nodeSet
  rw [BitVec.toNat_ofNat, hb]
  have e : n.toNat - n.toNat / 2 ^ lo % 2 ^ w * 2 ^ lo + v % 2 ^ w * 2 ^ lo =
      n.toNat / 2 ^ (lo + w) * 2 ^ (lo + w) + v % 2 ^ w * 2 ^ lo + n.toNat % 2 ^ lo := by omega
  rw [e]
  apply Nat.mod_eq_of_lt
  have p : (2 : Nat) ^ 512 = 2 ^ (512 - (lo + w)) * (2 ^ w * 2 ^ lo) := by
    rw [← Nat.pow_add, ← Nat.pow_add]; congr 1; omega
  rw [p, Nat.pow_add 2 lo w, Nat.mul_comm (2 ^ lo) (2 ^ w)]
  have h1 : v % 2 ^ w * 2 ^ lo + n.toNat % 2 ^ lo < 2 ^ w * 2 ^ lo := by
    calc _ < v % 2 ^ w * 2 ^ lo + 2 ^ lo := by omega
      _ = (v % 2 ^ w + 1) * 2 ^ lo := by rw [Nat.add_mul, Nat.one_mul]
      _ ≤ 2 ^ w * 2 ^ lo := Nat.mul_le_mul_right _ hv
  rw [Nat.pow_add 2 lo w, Nat.mul_comm (2 ^ lo) (2 ^ w)] at hh
  generalize 2 ^ w * 2 ^ lo = q at *
  generalize n.toNat / q = h at *
  calc _ < h * q + q := by omega
    _ = (h + 1) * q := by rw [Nat.add_mul, Nat.one_mul]
    _ ≤ _ := Nat.mul_le_mul_right _ hh

/-- The field reads back. -/
theorem nodeSet_bits (n : BitVec 512) (lo w v : Nat) (hw : 0 < w) (hl : lo + w ≤ 512) :
    bits (nodeSet n lo w v).toNat (lo + w - 1) lo = v % 2 ^ w := by
  rw [nodeSet_toNat n lo w v hw hl]
  unfold bits
  have e : lo + w - 1 + 1 - lo = w := by omega
  have hm : n.toNat % 2 ^ lo < 2 ^ lo := Nat.mod_lt _ (Nat.two_pow_pos lo)
  rw [e, Nat.pow_add, Nat.mul_comm (2 ^ lo) (2 ^ w), ← Nat.mul_assoc, ← Nat.add_mul, Nat.add_comm, Nat.add_mul_div_right _ _ (Nat.two_pow_pos lo),
    Nat.div_eq_of_lt hm, Nat.zero_add, Nat.add_comm, Nat.add_mul_mod_self_right, Nat.mod_mod]

/-- Every bit outside the field stays. -/
theorem nodeSet_other (n : BitVec 512) (lo w v j : Nat) (hw : 0 < w) (hl : lo + w ≤ 512) (hj : j < lo ∨ lo + w ≤ j) :
    (nodeSet n lo w v).getLsbD j = n.getLsbD j := by
  have hv : v % 2 ^ w < 2 ^ w := Nat.mod_lt _ (Nat.two_pow_pos w)
  have hm : n.toNat % 2 ^ lo < 2 ^ lo := Nat.mod_lt _ (Nat.two_pow_pos lo)
  rw [BitVec.getLsbD, BitVec.getLsbD, nodeSet_toNat n lo w v hw hl]
  rcases hj with hj | hj
  · have a : ∀ x, Nat.testBit x j = Nat.testBit (x % 2 ^ lo) j := fun x => by rw [Nat.testBit_mod_two_pow]; simp [hj]
    rw [a, a n.toNat]
    congr 1
    rw [Nat.pow_add, Nat.mul_comm (2 ^ lo) (2 ^ w), ← Nat.mul_assoc, ← Nat.add_mul, Nat.add_comm, Nat.add_mul_mod_self_right, Nat.mod_mod]
  · have b : ∀ x, Nat.testBit x j = Nat.testBit (x / 2 ^ (lo + w)) (j - (lo + w)) := fun x => by
      rw [Nat.testBit_div_two_pow]; congr 1; omega
    rw [b, b n.toNat]
    congr 1
    have h1 : v % 2 ^ w * 2 ^ lo + n.toNat % 2 ^ lo < 2 ^ (lo + w) := by
      rw [Nat.pow_add, Nat.mul_comm (2 ^ lo) (2 ^ w)]
      calc _ < v % 2 ^ w * 2 ^ lo + 2 ^ lo := by omega
        _ = (v % 2 ^ w + 1) * 2 ^ lo := by rw [Nat.add_mul, Nat.one_mul]
        _ ≤ 2 ^ w * 2 ^ lo := Nat.mul_le_mul_right _ hv
    rw [Nat.add_assoc, Nat.add_comm, Nat.add_mul_div_right _ _ (Nat.two_pow_pos _), Nat.div_eq_of_lt h1, Nat.zero_add]

/-- Writing back the field's own value changes nothing. -/
theorem nodeSet_self (n : BitVec 512) (lo w : Nat) (hw : 0 < w) (hl : lo + w ≤ 512) :
    nodeSet n lo w (bits n.toNat (lo + w - 1) lo) = n := by
  apply BitVec.eq_of_toNat_eq
  rw [nodeSet_toNat n lo w _ hw hl]
  have hb : bits n.toNat (lo + w - 1) lo = n.toNat / 2 ^ lo % 2 ^ w := by
    unfold bits; congr 2; omega
  rw [hb, Nat.mod_mod]
  exact (split_at n.toNat lo w).symm

end Sys2Proof.Machine
end

