-- ==== Sys2Proof/Laws/Table.lean ====
section
/-! SUPPORT. Laws of sparse tables and byte stores: what a write is read back as, what it leaves alone, and that every
operation keeps the canonical form. -/

namespace Sys2Proof.Machine

variable {α : Type}

@[simp] theorem tfind_tins_same (t : Tbl α) (k : Nat) (v : α) : tfind (tins t k v) k = some v := by
  induction t with
  | nil => simp [tins, tfind]
  | cons e t ih =>
    obtain ⟨k', v'⟩ := e
    simp only [tins]
    split
    · simp [tfind]
    · split
      · simp [tfind]
      · rename_i h1 h2
        simp [tfind, h2, ih]

theorem tfind_tins_ne (t : Tbl α) (k j : Nat) (v : α) (h : j ≠ k) : tfind (tins t k v) j = tfind t j := by
  induction t with
  | nil => simp [tins, tfind, h]
  | cons e t ih =>
    obtain ⟨k', v'⟩ := e
    simp only [tins]
    split
    · simp [tfind, h]
    · split
      · rename_i h2; subst h2; simp [tfind, h]
      · simp only [tfind]; split <;> simp_all

@[simp] theorem tfind_tdel_same (t : Tbl α) (k : Nat) : tfind (tdel t k) k = none := by
  induction t with
  | nil => simp [tdel, tfind]
  | cons e t ih =>
    obtain ⟨k', v'⟩ := e
    unfold tdel at *
    by_cases h : k' = k
    · simp [h, ih]
    · have h' : ¬ k = k' := fun x => h x.symm
      simp [h, h', tfind, ih]

theorem tfind_tdel_ne (t : Tbl α) (k j : Nat) (h : j ≠ k) : tfind (tdel t k) j = tfind t j := by
  induction t with
  | nil => simp [tdel, tfind]
  | cons e t ih =>
    obtain ⟨k', v'⟩ := e
    unfold tdel at *
    by_cases h' : k' = k
    · have : ¬ j = k' := fun x => h (x.trans h')
      subst h'
      simp [this, tfind, ih]
    · simp only [List.filter_cons]
      rw [if_pos (by simp [h'])]
      simp only [tfind, ih]

/-- A key reads as what was written to it. -/
@[simp] theorem tget_tput_same [DecidableEq α] (t : Tbl α) (k : Nat) (v d : α) : tget (tput t k v d) k d = v := by
  unfold tput tget
  split
  · simp_all
  · simp

/-- A write leaves every other key as it was. -/
theorem tget_tput_ne [DecidableEq α] (t : Tbl α) (k j : Nat) (v d e : α) (h : j ≠ k) :
    tget (tput t k v d) j e = tget t j e := by
  unfold tput tget
  split
  · rw [tfind_tdel_ne t k j h]
  · rw [tfind_tins_ne t k j v h]

theorem tget_tput [DecidableEq α] (t : Tbl α) (k j : Nat) (v d : α) :
    tget (tput t k v d) j d = if j = k then v else tget t j d := by
  split
  · subst_vars; simp
  · rename_i h; exact tget_tput_ne t k j v d d h

/-! ### Canonical form -/

/-- A key lies above a bound. -/
def aboveKey (b : Option Nat) (k : Nat) : Bool := match b with | none => true | some j => decide (j < k)

/-- The keys of a table, all above a bound and strictly rising. -/
def above (b : Option Nat) : Tbl α → Bool
  | [] => true
  | e :: t => aboveKey b e.1 && above (some e.1) t

theorem tsorted_cons (a : Nat × α) (t : Tbl α) : tsorted (a :: t) = above (some a.1) t := by
  induction t generalizing a with
  | nil => rfl
  | cons b t ih => simp [tsorted, above, aboveKey, ih]

theorem tsorted_above (t : Tbl α) : tsorted t = above none t := by
  cases t with
  | nil => rfl
  | cons a t => simp [tsorted_cons, above, aboveKey]

theorem above_weaken (t : Tbl α) (a b : Nat) (h : a ≤ b) (ht : above (some b) t = true) : above (some a) t = true := by
  cases t with
  | nil => rfl
  | cons e t =>
    simp [above, aboveKey] at *
    exact ⟨by omega, ht.2⟩

theorem above_none (t : Tbl α) (b : Option Nat) (h : above b t = true) : above none t = true := by
  cases t with
  | nil => rfl
  | cons e t => simp [above, aboveKey] at *; exact h.2

theorem above_filter (p : Nat × α → Bool) (t : Tbl α) (b : Option Nat) (h : above b t = true) :
    above b (t.filter p) = true := by
  induction t generalizing b with
  | nil => simpa using h
  | cons e t ih =>
    simp only [above, Bool.and_eq_true] at h
    simp only [List.filter_cons]
    split
    · simp only [above, Bool.and_eq_true]; exact ⟨h.1, ih _ h.2⟩
    · have := ih _ h.2
      cases b with
      | none => exact above_none _ _ this
      | some k => exact above_weaken _ _ _ (Nat.le_of_lt (by simpa [aboveKey] using h.1)) this

theorem above_tins (t : Tbl α) (k : Nat) (v : α) (b : Option Nat) (h : above b t = true)
    (hb : aboveKey b k = true) : above b (tins t k v) = true := by
  induction t generalizing b with
  | nil => simp [tins, above, hb]
  | cons e t ih =>
    obtain ⟨k', v'⟩ := e
    simp only [above, Bool.and_eq_true] at h
    simp only [tins]
    split
    · rename_i hk; simp only [above, Bool.and_eq_true]; exact ⟨hb, by simpa [aboveKey] using hk, h.2⟩
    · split
      · rename_i h2; subst h2; simp only [above, Bool.and_eq_true]; exact ⟨hb, h.2⟩
      · simp only [above, Bool.and_eq_true]
        exact ⟨h.1, ih _ h.2 (by simp [aboveKey]; omega)⟩

theorem tsorted_filter (p : Nat × α → Bool) (t : Tbl α) (h : tsorted t = true) : tsorted (t.filter p) = true := by
  rw [tsorted_above] at *; exact above_filter p t none h

theorem tsorted_tins (t : Tbl α) (k : Nat) (v : α) (h : tsorted t = true) : tsorted (tins t k v) = true := by
  rw [tsorted_above] at *; exact above_tins t k v none h rfl

theorem tins_all (p : Nat × α → Bool) (t : Tbl α) (k : Nat) (v : α) (h : t.all p = true) (hv : p (k, v) = true) :
    (tins t k v).all p = true := by
  induction t with
  | nil => simpa [tins] using hv
  | cons e t ih =>
    obtain ⟨k', v'⟩ := e
    simp only [List.all_cons, Bool.and_eq_true] at h
    simp only [tins]
    split
    · simp [hv, h.1, h.2]
    · split <;> simp [hv, h.1, h.2, ih]

theorem filter_all (p q : Nat × α → Bool) (t : Tbl α) (h : t.all p = true) : (t.filter q).all p = true := by
  rw [List.all_eq_true] at *; intro x hx; exact h x (List.mem_filter.mp hx).1

/-- A filtered byte store is canonical. -/
theorem Memory.wf_filter (p : Host.Cell → Bool) (m : List Host.Cell) (h : Memory.wf m = true) :
    Memory.wf (m.filter p) = true := by
  simp only [Memory.wf, Bool.and_eq_true] at *
  exact ⟨tsorted_filter p m h.1, filter_all _ _ _ h.2⟩

/-- Writing a byte keeps the canonical form. -/
theorem Memory.wf_sb (m : List Host.Cell) (a : Nat) (b : Byte) (h : Memory.wf m = true) : Memory.wf (sb m a b) = true := by
  unfold sb tput
  split
  · exact Memory.wf_filter _ m h
  · rename_i hb
    simp only [Memory.wf, Bool.and_eq_true] at *
    exact ⟨tsorted_tins m a b h.1, tins_all _ _ _ _ h.2 (by simpa using hb)⟩

/-- Writing bytes keeps the canonical form. -/
theorem Memory.wf_sbN (m : List Host.Cell) (a : Nat) (bs : List Byte) (h : Memory.wf m = true) :
    Memory.wf (sbN m a bs) = true := by
  induction bs generalizing m a with
  | nil => exact h
  | cons b bs ih => exact ih _ _ (Memory.wf_sb m a b h)

/-- Writing a number keeps the canonical form. -/
theorem Memory.wf_sbNat (m : List Host.Cell) (a n v : Nat) (h : Memory.wf m = true) : Memory.wf (sbNat m a n v) = true :=
  Memory.wf_sbN m a _ h

/-- Writing bytes one by one keeps the canonical form. -/
theorem Memory.wf_foldl_sb (l m : List Host.Cell) (h : Memory.wf m = true) :
    Memory.wf (l.foldl (fun m e => sb m e.1 e.2) m) = true := by
  induction l generalizing m with
  | nil => exact h
  | cons e l ih => exact ih _ (Memory.wf_sb m e.1 e.2 h)

@[simp] theorem Memory.wf_nil : Memory.wf [] = true := rfl

/-- A byte reads as what was written to it, every other byte as before. -/
theorem ld_sb (m : List Host.Cell) (a x : Nat) (b : Byte) : ld (sb m a b) x = if x = a then b else ld m x := by
  unfold ld sb; rw [tget_tput]

/-- A write of bytes leaves every byte outside it as it was. -/
theorem ld_sbN_out (m : List Host.Cell) (a x : Nat) (bs : List Byte) (h : x < a ∨ a + bs.length ≤ x) :
    ld (sbN m a bs) x = ld m x := by
  induction bs generalizing m a with
  | nil => rfl
  | cons b bs ih =>
    simp only [List.length_cons] at h
    simp only [sbN]
    rw [ih _ _ (by omega), ld_sb, if_neg (by omega)]

/-- A write of bytes reads back. -/
theorem ld_sbN_in (m : List Host.Cell) (a i : Nat) (bs : List Byte) (h : i < bs.length) :
    ld (sbN m a bs) (a + i) = bs[i] := by
  induction bs generalizing m a i with
  | nil => simp at h
  | cons b bs ih =>
    simp only [sbN]
    cases i with
    | zero => rw [ld_sbN_out _ _ _ _ (by omega), ld_sb]; simp
    | succ i =>
      simp only [List.length_cons] at h
      have := ih (sb m a b) (a + 1) i (by omega)
      rw [show a + (i + 1) = a + 1 + i by omega, this]; simp

/-! ### Folds -/

/-- What every step of a fold keeps, the fold keeps. -/
theorem foldl_keeps {β γ : Type} (P : β → Prop) (f : β → γ → β) (l : List γ) (b : β) (hb : P b)
    (h : ∀ b c, c ∈ l → P b → P (f b c)) : P (l.foldl f b) := by
  induction l generalizing b with
  | nil => exact hb
  | cons c l ih =>
    exact ih _ (h b c (by simp) hb) (fun b' c' hc hb' => h b' c' (by simp [hc]) hb')

/-- What every round keeps, `forN` keeps. -/
theorem forN_keeps {β : Type} (P : β → Prop) (n : Nat) (f : Nat → β → β) (b : β) (hb : P b)
    (h : ∀ i b, P b → P (f i b)) : P (forN n b f) :=
  foldl_keeps P _ _ b hb (fun b c _ hb => h c b hb)

/-- A value that no step of a fold changes. -/
theorem foldl_same {β γ δ : Type} (g : β → δ) (f : β → γ → β) (l : List γ) (b : β) (h : ∀ b c, g (f b c) = g b) :
    g (l.foldl f b) = g b :=
  foldl_keeps (fun x => g x = g b) f l b rfl (fun x c _ hx => (h x c).trans hx)

theorem forN_same {β δ : Type} (g : β → δ) (n : Nat) (f : Nat → β → β) (b : β) (h : ∀ i b, g (f i b) = g b) :
    g (forN n b f) = g b := foldl_same g _ _ b (fun b c => h c b)

end Sys2Proof.Machine
end

