-- ==== Sys2Proof/Laws/Keeps.lean ====
section
/-! SUPPORT. What a function of the state can do, said once: `Keeps M s t` says that t has the queue of s and every field of s
whose bit is in M, and that it keeps the byte stores canonical. The functions' own lemmas, `<name>_keeps`, stand in the files
beside this one. -/

namespace Sys2Proof.Machine

/-- t differs from s at most in the fields whose bits are not in M; its byte stores are canonical if those of s are. -/
structure Keeps (M : Nat) (s t : State) : Prop where
  pending : t.pending = s.pending
  cad : M.testBit 0 = true → t.cad = s.cad
  ports : M.testBit 1 = true → t.ports = s.ports
  xbars : M.testBit 2 = true → t.xbars = s.xbars
  net : M.testBit 3 = true → t.net = s.net
  chans : M.testBit 4 = true → t.chans = s.chans
  plaza : M.testBit 5 = true → t.plaza = s.plaza
  plazaLru : M.testBit 6 = true → t.plazaLru = s.plazaLru
  order : M.testBit 7 = true → t.order = s.order
  transit : M.testBit 8 = true → t.transit = s.transit
  gathers : M.testBit 9 = true → t.gathers = s.gathers
  samples : M.testBit 10 = true → t.samples = s.samples
  ledger : M.testBit 11 = true → t.ledger = s.ledger
  ledgerLru : M.testBit 12 = true → t.ledgerLru = s.ledgerLru
  found : M.testBit 13 = true → t.found = s.found
  pinned : M.testBit 14 = true → t.pinned = s.pinned
  sealedList : M.testBit 15 = true → t.sealedList = s.sealedList
  sealedFrom : M.testBit 16 = true → t.sealedFrom = s.sealedFrom
  dram : M.testBit 17 = true → t.dram = s.dram
  dists : M.testBit 18 = true → t.dists = s.dists
  keys : M.testBit 19 = true → t.keys = s.keys
  vault : M.testBit 20 = true → t.vault = s.vault
  mram : M.testBit 21 = true → t.mram = s.mram
  repair : M.testBit 22 = true → t.repair = s.repair
  mirror : M.testBit 23 = true → t.mirror = s.mirror
  sup : M.testBit 24 = true → t.sup = s.sup
  bays : M.testBit 25 = true → t.bays = s.bays
  ev : M.testBit 26 = true → t.ev = s.ev
  mgmt : M.testBit 27 = true → t.mgmt = s.mgmt
  blk : M.testBit 28 = true → t.blk = s.blk
  objs : M.testBit 29 = true → t.objs = s.objs
  recs : M.testBit 30 = true → t.recs = s.recs
  shadowObjs : M.testBit 31 = true → t.shadowObjs = s.shadowObjs
  freeCtr : M.testBit 32 = true → t.freeCtr = s.freeCtr
  mramOk : Memory.wf s.mram = true → Memory.wf t.mram = true
  recsOk : Memory.wf s.recs = true → Memory.wf t.recs = true
  stagedOk : Memory.wf s.mgmt.stagedRecs = true → Memory.wf t.mgmt.stagedRecs = true
  winOk : Memory.wf s.mgmt.winBuf = true → Memory.wf t.mgmt.winBuf = true

namespace Keeps

variable {M N : Nat} {s t u : State}

theorem refl (s : State) : Keeps M s s := by
  constructor <;> intros <;> first | rfl | assumption

theorem trans (h : Keeps M s t) (k : Keeps M t u) : Keeps M s u :=
  ⟨k.pending.trans h.pending,
   fun b => (k.cad b).trans (h.cad b),
   fun b => (k.ports b).trans (h.ports b),
   fun b => (k.xbars b).trans (h.xbars b),
   fun b => (k.net b).trans (h.net b),
   fun b => (k.chans b).trans (h.chans b),
   fun b => (k.plaza b).trans (h.plaza b),
   fun b => (k.plazaLru b).trans (h.plazaLru b),
   fun b => (k.order b).trans (h.order b),
   fun b => (k.transit b).trans (h.transit b),
   fun b => (k.gathers b).trans (h.gathers b),
   fun b => (k.samples b).trans (h.samples b),
   fun b => (k.ledger b).trans (h.ledger b),
   fun b => (k.ledgerLru b).trans (h.ledgerLru b),
   fun b => (k.found b).trans (h.found b),
   fun b => (k.pinned b).trans (h.pinned b),
   fun b => (k.sealedList b).trans (h.sealedList b),
   fun b => (k.sealedFrom b).trans (h.sealedFrom b),
   fun b => (k.dram b).trans (h.dram b),
   fun b => (k.dists b).trans (h.dists b),
   fun b => (k.keys b).trans (h.keys b),
   fun b => (k.vault b).trans (h.vault b),
   fun b => (k.mram b).trans (h.mram b),
   fun b => (k.repair b).trans (h.repair b),
   fun b => (k.mirror b).trans (h.mirror b),
   fun b => (k.sup b).trans (h.sup b),
   fun b => (k.bays b).trans (h.bays b),
   fun b => (k.ev b).trans (h.ev b),
   fun b => (k.mgmt b).trans (h.mgmt b),
   fun b => (k.blk b).trans (h.blk b),
   fun b => (k.objs b).trans (h.objs b),
   fun b => (k.recs b).trans (h.recs b),
   fun b => (k.shadowObjs b).trans (h.shadowObjs b),
   fun b => (k.freeCtr b).trans (h.freeCtr b),
   fun w => k.mramOk (h.mramOk w), fun w => k.recsOk (h.recsOk w), fun w => k.stagedOk (h.stagedOk w), fun w => k.winOk (h.winOk w)⟩

theorem bit_of_and (h : M &&& N = M) (i : Nat) (b : M.testBit i = true) : N.testBit i = true := by
  have : (M &&& N).testBit i = true := by rw [h]; exact b
  simp only [Nat.testBit_land, Bool.and_eq_true] at this; exact this.2

/-- Fewer fields. -/
theorem mono (h : Keeps N s t) (hm : M &&& N = M) : Keeps M s t :=
  ⟨h.pending,
   fun b => h.cad (bit_of_and hm 0 b),
   fun b => h.ports (bit_of_and hm 1 b),
   fun b => h.xbars (bit_of_and hm 2 b),
   fun b => h.net (bit_of_and hm 3 b),
   fun b => h.chans (bit_of_and hm 4 b),
   fun b => h.plaza (bit_of_and hm 5 b),
   fun b => h.plazaLru (bit_of_and hm 6 b),
   fun b => h.order (bit_of_and hm 7 b),
   fun b => h.transit (bit_of_and hm 8 b),
   fun b => h.gathers (bit_of_and hm 9 b),
   fun b => h.samples (bit_of_and hm 10 b),
   fun b => h.ledger (bit_of_and hm 11 b),
   fun b => h.ledgerLru (bit_of_and hm 12 b),
   fun b => h.found (bit_of_and hm 13 b),
   fun b => h.pinned (bit_of_and hm 14 b),
   fun b => h.sealedList (bit_of_and hm 15 b),
   fun b => h.sealedFrom (bit_of_and hm 16 b),
   fun b => h.dram (bit_of_and hm 17 b),
   fun b => h.dists (bit_of_and hm 18 b),
   fun b => h.keys (bit_of_and hm 19 b),
   fun b => h.vault (bit_of_and hm 20 b),
   fun b => h.mram (bit_of_and hm 21 b),
   fun b => h.repair (bit_of_and hm 22 b),
   fun b => h.mirror (bit_of_and hm 23 b),
   fun b => h.sup (bit_of_and hm 24 b),
   fun b => h.bays (bit_of_and hm 25 b),
   fun b => h.ev (bit_of_and hm 26 b),
   fun b => h.mgmt (bit_of_and hm 27 b),
   fun b => h.blk (bit_of_and hm 28 b),
   fun b => h.objs (bit_of_and hm 29 b),
   fun b => h.recs (bit_of_and hm 30 b),
   fun b => h.shadowObjs (bit_of_and hm 31 b),
   fun b => h.freeCtr (bit_of_and hm 32 b),
   h.mramOk, h.recsOk, h.stagedOk, h.winOk⟩

theorem step (hg : Keeps N t u) (hm : M &&& N = M) (h : Keeps M s t) : Keeps M s u := h.trans (hg.mono hm)

theorem ite {a b : State} {c : Prop} [Decidable c] (ha : Keeps M s a) (hb : Keeps M s b) : Keeps M s (if c then a else b) := by
  split <;> assumption

theorem ite_fst {α : Type} {a b : State × α} {c : Prop} [Decidable c] (ha : Keeps M s a.1) (hb : Keeps M s b.1) :
    Keeps M s (if c then a else b).1 := by split <;> assumption

theorem fst {α : Type} {a : State} {b : α} (h : Keeps M s a) : Keeps M s (a, b).1 := h

theorem cut {x r : State} (h : Keeps M s x) (k : Keeps M s x → Keeps M s r) : Keeps M s r := k h

theorem foldl {γ : Type} {f : State → γ → State} {l : List γ} (h : Keeps M s t) (hf : ∀ x c, Keeps M s x → Keeps M s (f x c)) :
    Keeps M s (l.foldl f t) := foldl_keeps (fun x => Keeps M s x) f l t h (fun x c _ hx => hf x c hx)

theorem foldl_fst {α γ : Type} {f : State × α → γ → State × α} {l : List γ} {x : State × α} (h : Keeps M s x.1)
    (hf : ∀ x c, Keeps M s x.1 → Keeps M s (f x c).1) : Keeps M s (l.foldl f x).1 :=
  foldl_keeps (fun x => Keeps M s x.1) f l x h (fun x c _ hx => hf x c hx)

theorem forN {n : Nat} {f : Nat → State → State} (h : Keeps M s t) (hf : ∀ i x, Keeps M s x → Keeps M s (f i x)) :
    Keeps M s (Machine.forN n t f) := forN_keeps (fun x => Keeps M s x) n f t h hf

theorem forN_fst {α : Type} {n : Nat} {f : Nat → State × α → State × α} {x : State × α} (h : Keeps M s x.1)
    (hf : ∀ i x, Keeps M s x.1 → Keeps M s (f i x).1) : Keeps M s (Machine.forN n x f).1 :=
  forN_keeps (fun x => Keeps M s x.1) n f x h hf

theorem each {n : Nat} {f : Nat → State → State} (h : Keeps M s t) (hf : ∀ i x, Keeps M s x → Keeps M s (f i x)) :
    Keeps M s (State.each n t f) := forN h hf

theorem bit_absent (h : M &&& N = 0) (i : Nat) (hn : N.testBit i = true) (b : M.testBit i = true) : False := by
  have : (M &&& N).testBit i = true := by rw [Nat.testBit_land, b, hn]; rfl
  rw [h, Nat.zero_testBit] at this; exact absurd this (by decide)

theorem upd_bays {bays' : Tbl Bay} (h : Keeps M s t) (hm : M &&& 33554432 = 0) :
    Keeps M s { t with bays := bays' } :=
  ⟨h.pending, h.cad, h.ports, h.xbars, h.net, h.chans, h.plaza, h.plazaLru, h.order, h.transit, h.gathers, h.samples, h.ledger, h.ledgerLru, h.found, h.pinned, h.sealedList, h.sealedFrom, h.dram, h.dists, h.keys, h.vault, h.mram, h.repair, h.mirror, h.sup, fun b => (bit_absent hm 25 (by decide) b).elim, h.ev, h.mgmt, h.blk, h.objs, h.recs, h.shadowObjs, h.freeCtr, h.mramOk, h.recsOk, h.stagedOk, h.winOk⟩

theorem upd_blk {blk' : Blk} (h : Keeps M s t) (hm : M &&& 268435456 = 0) :
    Keeps M s { t with blk := blk' } :=
  ⟨h.pending, h.cad, h.ports, h.xbars, h.net, h.chans, h.plaza, h.plazaLru, h.order, h.transit, h.gathers, h.samples, h.ledger, h.ledgerLru, h.found, h.pinned, h.sealedList, h.sealedFrom, h.dram, h.dists, h.keys, h.vault, h.mram, h.repair, h.mirror, h.sup, h.bays, h.ev, h.mgmt, fun b => (bit_absent hm 28 (by decide) b).elim, h.objs, h.recs, h.shadowObjs, h.freeCtr, h.mramOk, h.recsOk, h.stagedOk, h.winOk⟩

theorem upd_cad {cad' : Cad} (h : Keeps M s t) (hm : M &&& 1 = 0) :
    Keeps M s { t with cad := cad' } :=
  ⟨h.pending, fun b => (bit_absent hm 0 (by decide) b).elim, h.ports, h.xbars, h.net, h.chans, h.plaza, h.plazaLru, h.order, h.transit, h.gathers, h.samples, h.ledger, h.ledgerLru, h.found, h.pinned, h.sealedList, h.sealedFrom, h.dram, h.dists, h.keys, h.vault, h.mram, h.repair, h.mirror, h.sup, h.bays, h.ev, h.mgmt, h.blk, h.objs, h.recs, h.shadowObjs, h.freeCtr, h.mramOk, h.recsOk, h.stagedOk, h.winOk⟩

theorem upd_chans {chans' : Tbl Chan} (h : Keeps M s t) (hm : M &&& 16 = 0) :
    Keeps M s { t with chans := chans' } :=
  ⟨h.pending, h.cad, h.ports, h.xbars, h.net, fun b => (bit_absent hm 4 (by decide) b).elim, h.plaza, h.plazaLru, h.order, h.transit, h.gathers, h.samples, h.ledger, h.ledgerLru, h.found, h.pinned, h.sealedList, h.sealedFrom, h.dram, h.dists, h.keys, h.vault, h.mram, h.repair, h.mirror, h.sup, h.bays, h.ev, h.mgmt, h.blk, h.objs, h.recs, h.shadowObjs, h.freeCtr, h.mramOk, h.recsOk, h.stagedOk, h.winOk⟩

theorem upd_dists {dists' : Tbl District} (h : Keeps M s t) (hm : M &&& 262144 = 0) :
    Keeps M s { t with dists := dists' } :=
  ⟨h.pending, h.cad, h.ports, h.xbars, h.net, h.chans, h.plaza, h.plazaLru, h.order, h.transit, h.gathers, h.samples, h.ledger, h.ledgerLru, h.found, h.pinned, h.sealedList, h.sealedFrom, h.dram, fun b => (bit_absent hm 18 (by decide) b).elim, h.keys, h.vault, h.mram, h.repair, h.mirror, h.sup, h.bays, h.ev, h.mgmt, h.blk, h.objs, h.recs, h.shadowObjs, h.freeCtr, h.mramOk, h.recsOk, h.stagedOk, h.winOk⟩

theorem upd_dram {dram' : Tbl (BitVec 640)} (h : Keeps M s t) (hm : M &&& 131072 = 0) :
    Keeps M s { t with dram := dram' } :=
  ⟨h.pending, h.cad, h.ports, h.xbars, h.net, h.chans, h.plaza, h.plazaLru, h.order, h.transit, h.gathers, h.samples, h.ledger, h.ledgerLru, h.found, h.pinned, h.sealedList, h.sealedFrom, fun b => (bit_absent hm 17 (by decide) b).elim, h.dists, h.keys, h.vault, h.mram, h.repair, h.mirror, h.sup, h.bays, h.ev, h.mgmt, h.blk, h.objs, h.recs, h.shadowObjs, h.freeCtr, h.mramOk, h.recsOk, h.stagedOk, h.winOk⟩

theorem upd_ev {ev' : Ev} (h : Keeps M s t) (hm : M &&& 67108864 = 0) :
    Keeps M s { t with ev := ev' } :=
  ⟨h.pending, h.cad, h.ports, h.xbars, h.net, h.chans, h.plaza, h.plazaLru, h.order, h.transit, h.gathers, h.samples, h.ledger, h.ledgerLru, h.found, h.pinned, h.sealedList, h.sealedFrom, h.dram, h.dists, h.keys, h.vault, h.mram, h.repair, h.mirror, h.sup, h.bays, fun b => (bit_absent hm 26 (by decide) b).elim, h.mgmt, h.blk, h.objs, h.recs, h.shadowObjs, h.freeCtr, h.mramOk, h.recsOk, h.stagedOk, h.winOk⟩

theorem upd_ev_freeCtr {ev' : Ev} {freeCtr' : Nat} (h : Keeps M s t) (hm : M &&& 4362076160 = 0) :
    Keeps M s { t with ev := ev', freeCtr := freeCtr' } :=
  ⟨h.pending, h.cad, h.ports, h.xbars, h.net, h.chans, h.plaza, h.plazaLru, h.order, h.transit, h.gathers, h.samples, h.ledger, h.ledgerLru, h.found, h.pinned, h.sealedList, h.sealedFrom, h.dram, h.dists, h.keys, h.vault, h.mram, h.repair, h.mirror, h.sup, h.bays, fun b => (bit_absent hm 26 (by decide) b).elim, h.mgmt, h.blk, h.objs, h.recs, h.shadowObjs, fun b => (bit_absent hm 32 (by decide) b).elim, h.mramOk, h.recsOk, h.stagedOk, h.winOk⟩

theorem upd_found {found' : List (Nat × Nat × Nat × Nat)} (h : Keeps M s t) (hm : M &&& 8192 = 0) :
    Keeps M s { t with found := found' } :=
  ⟨h.pending, h.cad, h.ports, h.xbars, h.net, h.chans, h.plaza, h.plazaLru, h.order, h.transit, h.gathers, h.samples, h.ledger, h.ledgerLru, fun b => (bit_absent hm 13 (by decide) b).elim, h.pinned, h.sealedList, h.sealedFrom, h.dram, h.dists, h.keys, h.vault, h.mram, h.repair, h.mirror, h.sup, h.bays, h.ev, h.mgmt, h.blk, h.objs, h.recs, h.shadowObjs, h.freeCtr, h.mramOk, h.recsOk, h.stagedOk, h.winOk⟩

theorem upd_freeCtr {freeCtr' : Nat} (h : Keeps M s t) (hm : M &&& 4294967296 = 0) :
    Keeps M s { t with freeCtr := freeCtr' } :=
  ⟨h.pending, h.cad, h.ports, h.xbars, h.net, h.chans, h.plaza, h.plazaLru, h.order, h.transit, h.gathers, h.samples, h.ledger, h.ledgerLru, h.found, h.pinned, h.sealedList, h.sealedFrom, h.dram, h.dists, h.keys, h.vault, h.mram, h.repair, h.mirror, h.sup, h.bays, h.ev, h.mgmt, h.blk, h.objs, h.recs, h.shadowObjs, fun b => (bit_absent hm 32 (by decide) b).elim, h.mramOk, h.recsOk, h.stagedOk, h.winOk⟩

theorem upd_gathers {gathers' : List Gather} (h : Keeps M s t) (hm : M &&& 512 = 0) :
    Keeps M s { t with gathers := gathers' } :=
  ⟨h.pending, h.cad, h.ports, h.xbars, h.net, h.chans, h.plaza, h.plazaLru, h.order, h.transit, fun b => (bit_absent hm 9 (by decide) b).elim, h.samples, h.ledger, h.ledgerLru, h.found, h.pinned, h.sealedList, h.sealedFrom, h.dram, h.dists, h.keys, h.vault, h.mram, h.repair, h.mirror, h.sup, h.bays, h.ev, h.mgmt, h.blk, h.objs, h.recs, h.shadowObjs, h.freeCtr, h.mramOk, h.recsOk, h.stagedOk, h.winOk⟩

theorem upd_keys {keys' : Keys} (h : Keeps M s t) (hm : M &&& 524288 = 0) :
    Keeps M s { t with keys := keys' } :=
  ⟨h.pending, h.cad, h.ports, h.xbars, h.net, h.chans, h.plaza, h.plazaLru, h.order, h.transit, h.gathers, h.samples, h.ledger, h.ledgerLru, h.found, h.pinned, h.sealedList, h.sealedFrom, h.dram, h.dists, fun b => (bit_absent hm 19 (by decide) b).elim, h.vault, h.mram, h.repair, h.mirror, h.sup, h.bays, h.ev, h.mgmt, h.blk, h.objs, h.recs, h.shadowObjs, h.freeCtr, h.mramOk, h.recsOk, h.stagedOk, h.winOk⟩

theorem upd_keys_mgmt_blk {keys' : Keys} {mgmt' : Mgmt} {blk' : Blk} (h : Keeps M s t) (hm : M &&& 403177472 = 0) (hst : Memory.wf t.mgmt.stagedRecs = true → Memory.wf mgmt'.stagedRecs = true) (hwin : Memory.wf t.mgmt.winBuf = true → Memory.wf mgmt'.winBuf = true) :
    Keeps M s { t with keys := keys', mgmt := mgmt', blk := blk' } :=
  ⟨h.pending, h.cad, h.ports, h.xbars, h.net, h.chans, h.plaza, h.plazaLru, h.order, h.transit, h.gathers, h.samples, h.ledger, h.ledgerLru, h.found, h.pinned, h.sealedList, h.sealedFrom, h.dram, h.dists, fun b => (bit_absent hm 19 (by decide) b).elim, h.vault, h.mram, h.repair, h.mirror, h.sup, h.bays, h.ev, fun b => (bit_absent hm 27 (by decide) b).elim, fun b => (bit_absent hm 28 (by decide) b).elim, h.objs, h.recs, h.shadowObjs, h.freeCtr, h.mramOk, h.recsOk, fun w => hst (h.stagedOk w), fun w => hwin (h.winOk w)⟩

theorem upd_keys_sup_blk {keys' : Keys} {sup' : Sup} {blk' : Blk} (h : Keeps M s t) (hm : M &&& 285736960 = 0) :
    Keeps M s { t with keys := keys', sup := sup', blk := blk' } :=
  ⟨h.pending, h.cad, h.ports, h.xbars, h.net, h.chans, h.plaza, h.plazaLru, h.order, h.transit, h.gathers, h.samples, h.ledger, h.ledgerLru, h.found, h.pinned, h.sealedList, h.sealedFrom, h.dram, h.dists, fun b => (bit_absent hm 19 (by decide) b).elim, h.vault, h.mram, h.repair, h.mirror, fun b => (bit_absent hm 24 (by decide) b).elim, h.bays, h.ev, h.mgmt, fun b => (bit_absent hm 28 (by decide) b).elim, h.objs, h.recs, h.shadowObjs, h.freeCtr, h.mramOk, h.recsOk, h.stagedOk, h.winOk⟩

theorem upd_keys_vault {keys' : Keys} {vault' : Vault} (h : Keeps M s t) (hm : M &&& 1572864 = 0) :
    Keeps M s { t with keys := keys', vault := vault' } :=
  ⟨h.pending, h.cad, h.ports, h.xbars, h.net, h.chans, h.plaza, h.plazaLru, h.order, h.transit, h.gathers, h.samples, h.ledger, h.ledgerLru, h.found, h.pinned, h.sealedList, h.sealedFrom, h.dram, h.dists, fun b => (bit_absent hm 19 (by decide) b).elim, fun b => (bit_absent hm 20 (by decide) b).elim, h.mram, h.repair, h.mirror, h.sup, h.bays, h.ev, h.mgmt, h.blk, h.objs, h.recs, h.shadowObjs, h.freeCtr, h.mramOk, h.recsOk, h.stagedOk, h.winOk⟩

theorem upd_ledger {ledger' : Tbl LLine} (h : Keeps M s t) (hm : M &&& 2048 = 0) :
    Keeps M s { t with ledger := ledger' } :=
  ⟨h.pending, h.cad, h.ports, h.xbars, h.net, h.chans, h.plaza, h.plazaLru, h.order, h.transit, h.gathers, h.samples, fun b => (bit_absent hm 11 (by decide) b).elim, h.ledgerLru, h.found, h.pinned, h.sealedList, h.sealedFrom, h.dram, h.dists, h.keys, h.vault, h.mram, h.repair, h.mirror, h.sup, h.bays, h.ev, h.mgmt, h.blk, h.objs, h.recs, h.shadowObjs, h.freeCtr, h.mramOk, h.recsOk, h.stagedOk, h.winOk⟩

theorem upd_ledgerLru {ledgerLru' : Tbl Nat} (h : Keeps M s t) (hm : M &&& 4096 = 0) :
    Keeps M s { t with ledgerLru := ledgerLru' } :=
  ⟨h.pending, h.cad, h.ports, h.xbars, h.net, h.chans, h.plaza, h.plazaLru, h.order, h.transit, h.gathers, h.samples, h.ledger, fun b => (bit_absent hm 12 (by decide) b).elim, h.found, h.pinned, h.sealedList, h.sealedFrom, h.dram, h.dists, h.keys, h.vault, h.mram, h.repair, h.mirror, h.sup, h.bays, h.ev, h.mgmt, h.blk, h.objs, h.recs, h.shadowObjs, h.freeCtr, h.mramOk, h.recsOk, h.stagedOk, h.winOk⟩

theorem upd_mgmt {mgmt' : Mgmt} (h : Keeps M s t) (hm : M &&& 134217728 = 0) (hst : Memory.wf t.mgmt.stagedRecs = true → Memory.wf mgmt'.stagedRecs = true) (hwin : Memory.wf t.mgmt.winBuf = true → Memory.wf mgmt'.winBuf = true) :
    Keeps M s { t with mgmt := mgmt' } :=
  ⟨h.pending, h.cad, h.ports, h.xbars, h.net, h.chans, h.plaza, h.plazaLru, h.order, h.transit, h.gathers, h.samples, h.ledger, h.ledgerLru, h.found, h.pinned, h.sealedList, h.sealedFrom, h.dram, h.dists, h.keys, h.vault, h.mram, h.repair, h.mirror, h.sup, h.bays, h.ev, fun b => (bit_absent hm 27 (by decide) b).elim, h.blk, h.objs, h.recs, h.shadowObjs, h.freeCtr, h.mramOk, h.recsOk, fun w => hst (h.stagedOk w), fun w => hwin (h.winOk w)⟩

theorem upd_mgmt_shadowObjs {mgmt' : Mgmt} {shadowObjs' : Tbl Nat} (h : Keeps M s t) (hm : M &&& 2281701376 = 0) (hst : Memory.wf t.mgmt.stagedRecs = true → Memory.wf mgmt'.stagedRecs = true) (hwin : Memory.wf t.mgmt.winBuf = true → Memory.wf mgmt'.winBuf = true) :
    Keeps M s { t with mgmt := mgmt', shadowObjs := shadowObjs' } :=
  ⟨h.pending, h.cad, h.ports, h.xbars, h.net, h.chans, h.plaza, h.plazaLru, h.order, h.transit, h.gathers, h.samples, h.ledger, h.ledgerLru, h.found, h.pinned, h.sealedList, h.sealedFrom, h.dram, h.dists, h.keys, h.vault, h.mram, h.repair, h.mirror, h.sup, h.bays, h.ev, fun b => (bit_absent hm 27 (by decide) b).elim, h.blk, h.objs, h.recs, fun b => (bit_absent hm 31 (by decide) b).elim, h.freeCtr, h.mramOk, h.recsOk, fun w => hst (h.stagedOk w), fun w => hwin (h.winOk w)⟩

theorem upd_mirror {mirror' : Mirror} (h : Keeps M s t) (hm : M &&& 8388608 = 0) :
    Keeps M s { t with mirror := mirror' } :=
  ⟨h.pending, h.cad, h.ports, h.xbars, h.net, h.chans, h.plaza, h.plazaLru, h.order, h.transit, h.gathers, h.samples, h.ledger, h.ledgerLru, h.found, h.pinned, h.sealedList, h.sealedFrom, h.dram, h.dists, h.keys, h.vault, h.mram, h.repair, fun b => (bit_absent hm 23 (by decide) b).elim, h.sup, h.bays, h.ev, h.mgmt, h.blk, h.objs, h.recs, h.shadowObjs, h.freeCtr, h.mramOk, h.recsOk, h.stagedOk, h.winOk⟩

theorem upd_mram {mram' : List Host.Cell} (h : Keeps M s t) (hm : M &&& 2097152 = 0) (hmram : Memory.wf s.mram = true → Memory.wf t.mram = true → Memory.wf mram' = true) :
    Keeps M s { t with mram := mram' } :=
  ⟨h.pending, h.cad, h.ports, h.xbars, h.net, h.chans, h.plaza, h.plazaLru, h.order, h.transit, h.gathers, h.samples, h.ledger, h.ledgerLru, h.found, h.pinned, h.sealedList, h.sealedFrom, h.dram, h.dists, h.keys, h.vault, fun b => (bit_absent hm 21 (by decide) b).elim, h.repair, h.mirror, h.sup, h.bays, h.ev, h.mgmt, h.blk, h.objs, h.recs, h.shadowObjs, h.freeCtr, fun w => hmram w (h.mramOk w), h.recsOk, h.stagedOk, h.winOk⟩

theorem upd_mram_ev {mram' : List Host.Cell} {ev' : Ev} (h : Keeps M s t) (hm : M &&& 69206016 = 0) (hmram : Memory.wf s.mram = true → Memory.wf t.mram = true → Memory.wf mram' = true) :
    Keeps M s { t with mram := mram', ev := ev' } :=
  ⟨h.pending, h.cad, h.ports, h.xbars, h.net, h.chans, h.plaza, h.plazaLru, h.order, h.transit, h.gathers, h.samples, h.ledger, h.ledgerLru, h.found, h.pinned, h.sealedList, h.sealedFrom, h.dram, h.dists, h.keys, h.vault, fun b => (bit_absent hm 21 (by decide) b).elim, h.repair, h.mirror, h.sup, h.bays, fun b => (bit_absent hm 26 (by decide) b).elim, h.mgmt, h.blk, h.objs, h.recs, h.shadowObjs, h.freeCtr, fun w => hmram w (h.mramOk w), h.recsOk, h.stagedOk, h.winOk⟩

theorem upd_mram_sup {mram' : List Host.Cell} {sup' : Sup} (h : Keeps M s t) (hm : M &&& 18874368 = 0) (hmram : Memory.wf s.mram = true → Memory.wf t.mram = true → Memory.wf mram' = true) :
    Keeps M s { t with mram := mram', sup := sup' } :=
  ⟨h.pending, h.cad, h.ports, h.xbars, h.net, h.chans, h.plaza, h.plazaLru, h.order, h.transit, h.gathers, h.samples, h.ledger, h.ledgerLru, h.found, h.pinned, h.sealedList, h.sealedFrom, h.dram, h.dists, h.keys, h.vault, fun b => (bit_absent hm 21 (by decide) b).elim, h.repair, h.mirror, fun b => (bit_absent hm 24 (by decide) b).elim, h.bays, h.ev, h.mgmt, h.blk, h.objs, h.recs, h.shadowObjs, h.freeCtr, fun w => hmram w (h.mramOk w), h.recsOk, h.stagedOk, h.winOk⟩

theorem upd_mram_sup_blk {mram' : List Host.Cell} {sup' : Sup} {blk' : Blk} (h : Keeps M s t) (hm : M &&& 287309824 = 0) (hmram : Memory.wf s.mram = true → Memory.wf t.mram = true → Memory.wf mram' = true) :
    Keeps M s { t with mram := mram', sup := sup', blk := blk' } :=
  ⟨h.pending, h.cad, h.ports, h.xbars, h.net, h.chans, h.plaza, h.plazaLru, h.order, h.transit, h.gathers, h.samples, h.ledger, h.ledgerLru, h.found, h.pinned, h.sealedList, h.sealedFrom, h.dram, h.dists, h.keys, h.vault, fun b => (bit_absent hm 21 (by decide) b).elim, h.repair, h.mirror, fun b => (bit_absent hm 24 (by decide) b).elim, h.bays, h.ev, h.mgmt, fun b => (bit_absent hm 28 (by decide) b).elim, h.objs, h.recs, h.shadowObjs, h.freeCtr, fun w => hmram w (h.mramOk w), h.recsOk, h.stagedOk, h.winOk⟩

theorem upd_net {net' : Net} (h : Keeps M s t) (hm : M &&& 8 = 0) :
    Keeps M s { t with net := net' } :=
  ⟨h.pending, h.cad, h.ports, h.xbars, fun b => (bit_absent hm 3 (by decide) b).elim, h.chans, h.plaza, h.plazaLru, h.order, h.transit, h.gathers, h.samples, h.ledger, h.ledgerLru, h.found, h.pinned, h.sealedList, h.sealedFrom, h.dram, h.dists, h.keys, h.vault, h.mram, h.repair, h.mirror, h.sup, h.bays, h.ev, h.mgmt, h.blk, h.objs, h.recs, h.shadowObjs, h.freeCtr, h.mramOk, h.recsOk, h.stagedOk, h.winOk⟩

theorem upd_objs {objs' : Tbl Nat} (h : Keeps M s t) (hm : M &&& 536870912 = 0) :
    Keeps M s { t with objs := objs' } :=
  ⟨h.pending, h.cad, h.ports, h.xbars, h.net, h.chans, h.plaza, h.plazaLru, h.order, h.transit, h.gathers, h.samples, h.ledger, h.ledgerLru, h.found, h.pinned, h.sealedList, h.sealedFrom, h.dram, h.dists, h.keys, h.vault, h.mram, h.repair, h.mirror, h.sup, h.bays, h.ev, h.mgmt, h.blk, fun b => (bit_absent hm 29 (by decide) b).elim, h.recs, h.shadowObjs, h.freeCtr, h.mramOk, h.recsOk, h.stagedOk, h.winOk⟩

theorem upd_order {order' : Tbl (List Access)} (h : Keeps M s t) (hm : M &&& 128 = 0) :
    Keeps M s { t with order := order' } :=
  ⟨h.pending, h.cad, h.ports, h.xbars, h.net, h.chans, h.plaza, h.plazaLru, fun b => (bit_absent hm 7 (by decide) b).elim, h.transit, h.gathers, h.samples, h.ledger, h.ledgerLru, h.found, h.pinned, h.sealedList, h.sealedFrom, h.dram, h.dists, h.keys, h.vault, h.mram, h.repair, h.mirror, h.sup, h.bays, h.ev, h.mgmt, h.blk, h.objs, h.recs, h.shadowObjs, h.freeCtr, h.mramOk, h.recsOk, h.stagedOk, h.winOk⟩

theorem upd_pinned {pinned' : Tbl (BitVec 512)} (h : Keeps M s t) (hm : M &&& 16384 = 0) :
    Keeps M s { t with pinned := pinned' } :=
  ⟨h.pending, h.cad, h.ports, h.xbars, h.net, h.chans, h.plaza, h.plazaLru, h.order, h.transit, h.gathers, h.samples, h.ledger, h.ledgerLru, h.found, fun b => (bit_absent hm 14 (by decide) b).elim, h.sealedList, h.sealedFrom, h.dram, h.dists, h.keys, h.vault, h.mram, h.repair, h.mirror, h.sup, h.bays, h.ev, h.mgmt, h.blk, h.objs, h.recs, h.shadowObjs, h.freeCtr, h.mramOk, h.recsOk, h.stagedOk, h.winOk⟩

theorem upd_plaza {plaza' : Tbl PLine} (h : Keeps M s t) (hm : M &&& 32 = 0) :
    Keeps M s { t with plaza := plaza' } :=
  ⟨h.pending, h.cad, h.ports, h.xbars, h.net, h.chans, fun b => (bit_absent hm 5 (by decide) b).elim, h.plazaLru, h.order, h.transit, h.gathers, h.samples, h.ledger, h.ledgerLru, h.found, h.pinned, h.sealedList, h.sealedFrom, h.dram, h.dists, h.keys, h.vault, h.mram, h.repair, h.mirror, h.sup, h.bays, h.ev, h.mgmt, h.blk, h.objs, h.recs, h.shadowObjs, h.freeCtr, h.mramOk, h.recsOk, h.stagedOk, h.winOk⟩

theorem upd_plaza_ledger_pinned_dram {plaza' : Tbl PLine} {ledger' : Tbl LLine} {pinned' : Tbl (BitVec 512)} {dram' : Tbl (BitVec 640)} (h : Keeps M s t) (hm : M &&& 149536 = 0) :
    Keeps M s { t with plaza := plaza', ledger := ledger', pinned := pinned', dram := dram' } :=
  ⟨h.pending, h.cad, h.ports, h.xbars, h.net, h.chans, fun b => (bit_absent hm 5 (by decide) b).elim, h.plazaLru, h.order, h.transit, h.gathers, h.samples, fun b => (bit_absent hm 11 (by decide) b).elim, h.ledgerLru, h.found, fun b => (bit_absent hm 14 (by decide) b).elim, h.sealedList, h.sealedFrom, fun b => (bit_absent hm 17 (by decide) b).elim, h.dists, h.keys, h.vault, h.mram, h.repair, h.mirror, h.sup, h.bays, h.ev, h.mgmt, h.blk, h.objs, h.recs, h.shadowObjs, h.freeCtr, h.mramOk, h.recsOk, h.stagedOk, h.winOk⟩

theorem upd_plaza_order_transit_gathers {plaza' : Tbl PLine} {order' : Tbl (List Access)} {transit' : Tbl (List Req)} {gathers' : List Gather} (h : Keeps M s t) (hm : M &&& 928 = 0) :
    Keeps M s { t with plaza := plaza', order := order', transit := transit', gathers := gathers' } :=
  ⟨h.pending, h.cad, h.ports, h.xbars, h.net, h.chans, fun b => (bit_absent hm 5 (by decide) b).elim, h.plazaLru, fun b => (bit_absent hm 7 (by decide) b).elim, fun b => (bit_absent hm 8 (by decide) b).elim, fun b => (bit_absent hm 9 (by decide) b).elim, h.samples, h.ledger, h.ledgerLru, h.found, h.pinned, h.sealedList, h.sealedFrom, h.dram, h.dists, h.keys, h.vault, h.mram, h.repair, h.mirror, h.sup, h.bays, h.ev, h.mgmt, h.blk, h.objs, h.recs, h.shadowObjs, h.freeCtr, h.mramOk, h.recsOk, h.stagedOk, h.winOk⟩

theorem upd_plazaLru {plazaLru' : Tbl Nat} (h : Keeps M s t) (hm : M &&& 64 = 0) :
    Keeps M s { t with plazaLru := plazaLru' } :=
  ⟨h.pending, h.cad, h.ports, h.xbars, h.net, h.chans, h.plaza, fun b => (bit_absent hm 6 (by decide) b).elim, h.order, h.transit, h.gathers, h.samples, h.ledger, h.ledgerLru, h.found, h.pinned, h.sealedList, h.sealedFrom, h.dram, h.dists, h.keys, h.vault, h.mram, h.repair, h.mirror, h.sup, h.bays, h.ev, h.mgmt, h.blk, h.objs, h.recs, h.shadowObjs, h.freeCtr, h.mramOk, h.recsOk, h.stagedOk, h.winOk⟩

theorem upd_ports {ports' : Tbl Port} (h : Keeps M s t) (hm : M &&& 2 = 0) :
    Keeps M s { t with ports := ports' } :=
  ⟨h.pending, h.cad, fun b => (bit_absent hm 1 (by decide) b).elim, h.xbars, h.net, h.chans, h.plaza, h.plazaLru, h.order, h.transit, h.gathers, h.samples, h.ledger, h.ledgerLru, h.found, h.pinned, h.sealedList, h.sealedFrom, h.dram, h.dists, h.keys, h.vault, h.mram, h.repair, h.mirror, h.sup, h.bays, h.ev, h.mgmt, h.blk, h.objs, h.recs, h.shadowObjs, h.freeCtr, h.mramOk, h.recsOk, h.stagedOk, h.winOk⟩

theorem upd_ports_plaza_plazaLru_order_transit_gathers_samples_ledger_ledgerLru_pinned_mirror_ev {ports' : Tbl Port} {plaza' : Tbl PLine} {plazaLru' : Tbl Nat} {order' : Tbl (List Access)} {transit' : Tbl (List Req)} {gathers' : List Gather} {samples' : List Sample} {ledger' : Tbl LLine} {ledgerLru' : Tbl Nat} {pinned' : Tbl (BitVec 512)} {mirror' : Mirror} {ev' : Ev} (h : Keeps M s t) (hm : M &&& 75522018 = 0) :
    Keeps M s { t with ports := ports', plaza := plaza', plazaLru := plazaLru', order := order', transit := transit', gathers := gathers', samples := samples', ledger := ledger', ledgerLru := ledgerLru', pinned := pinned', mirror := mirror', ev := ev' } :=
  ⟨h.pending, h.cad, fun b => (bit_absent hm 1 (by decide) b).elim, h.xbars, h.net, h.chans, fun b => (bit_absent hm 5 (by decide) b).elim, fun b => (bit_absent hm 6 (by decide) b).elim, fun b => (bit_absent hm 7 (by decide) b).elim, fun b => (bit_absent hm 8 (by decide) b).elim, fun b => (bit_absent hm 9 (by decide) b).elim, fun b => (bit_absent hm 10 (by decide) b).elim, fun b => (bit_absent hm 11 (by decide) b).elim, fun b => (bit_absent hm 12 (by decide) b).elim, h.found, fun b => (bit_absent hm 14 (by decide) b).elim, h.sealedList, h.sealedFrom, h.dram, h.dists, h.keys, h.vault, h.mram, h.repair, fun b => (bit_absent hm 23 (by decide) b).elim, h.sup, h.bays, fun b => (bit_absent hm 26 (by decide) b).elim, h.mgmt, h.blk, h.objs, h.recs, h.shadowObjs, h.freeCtr, h.mramOk, h.recsOk, h.stagedOk, h.winOk⟩

theorem upd_ports_xbars_chans_plaza_order_transit_gathers_samples_mirror {ports' : Tbl Port} {xbars' : Tbl Xbar} {chans' : Tbl Chan} {plaza' : Tbl PLine} {order' : Tbl (List Access)} {transit' : Tbl (List Req)} {gathers' : List Gather} {samples' : List Sample} {mirror' : Mirror} (h : Keeps M s t) (hm : M &&& 8390582 = 0) :
    Keeps M s { t with ports := ports', xbars := xbars', chans := chans', plaza := plaza', order := order', transit := transit', gathers := gathers', samples := samples', mirror := mirror' } :=
  ⟨h.pending, h.cad, fun b => (bit_absent hm 1 (by decide) b).elim, fun b => (bit_absent hm 2 (by decide) b).elim, h.net, fun b => (bit_absent hm 4 (by decide) b).elim, fun b => (bit_absent hm 5 (by decide) b).elim, h.plazaLru, fun b => (bit_absent hm 7 (by decide) b).elim, fun b => (bit_absent hm 8 (by decide) b).elim, fun b => (bit_absent hm 9 (by decide) b).elim, fun b => (bit_absent hm 10 (by decide) b).elim, h.ledger, h.ledgerLru, h.found, h.pinned, h.sealedList, h.sealedFrom, h.dram, h.dists, h.keys, h.vault, h.mram, h.repair, fun b => (bit_absent hm 23 (by decide) b).elim, h.sup, h.bays, h.ev, h.mgmt, h.blk, h.objs, h.recs, h.shadowObjs, h.freeCtr, h.mramOk, h.recsOk, h.stagedOk, h.winOk⟩

theorem upd_recs {recs' : List Host.Cell} (h : Keeps M s t) (hm : M &&& 1073741824 = 0) (hrecs : Memory.wf t.recs = true → Memory.wf recs' = true) :
    Keeps M s { t with recs := recs' } :=
  ⟨h.pending, h.cad, h.ports, h.xbars, h.net, h.chans, h.plaza, h.plazaLru, h.order, h.transit, h.gathers, h.samples, h.ledger, h.ledgerLru, h.found, h.pinned, h.sealedList, h.sealedFrom, h.dram, h.dists, h.keys, h.vault, h.mram, h.repair, h.mirror, h.sup, h.bays, h.ev, h.mgmt, h.blk, h.objs, fun b => (bit_absent hm 30 (by decide) b).elim, h.shadowObjs, h.freeCtr, h.mramOk, fun w => hrecs (h.recsOk w), h.stagedOk, h.winOk⟩

theorem upd_repair {repair' : Tbl Repair} (h : Keeps M s t) (hm : M &&& 4194304 = 0) :
    Keeps M s { t with repair := repair' } :=
  ⟨h.pending, h.cad, h.ports, h.xbars, h.net, h.chans, h.plaza, h.plazaLru, h.order, h.transit, h.gathers, h.samples, h.ledger, h.ledgerLru, h.found, h.pinned, h.sealedList, h.sealedFrom, h.dram, h.dists, h.keys, h.vault, h.mram, fun b => (bit_absent hm 22 (by decide) b).elim, h.mirror, h.sup, h.bays, h.ev, h.mgmt, h.blk, h.objs, h.recs, h.shadowObjs, h.freeCtr, h.mramOk, h.recsOk, h.stagedOk, h.winOk⟩

theorem upd_samples {samples' : List Sample} (h : Keeps M s t) (hm : M &&& 1024 = 0) :
    Keeps M s { t with samples := samples' } :=
  ⟨h.pending, h.cad, h.ports, h.xbars, h.net, h.chans, h.plaza, h.plazaLru, h.order, h.transit, h.gathers, fun b => (bit_absent hm 10 (by decide) b).elim, h.ledger, h.ledgerLru, h.found, h.pinned, h.sealedList, h.sealedFrom, h.dram, h.dists, h.keys, h.vault, h.mram, h.repair, h.mirror, h.sup, h.bays, h.ev, h.mgmt, h.blk, h.objs, h.recs, h.shadowObjs, h.freeCtr, h.mramOk, h.recsOk, h.stagedOk, h.winOk⟩

theorem upd_sealedFrom {sealedFrom' : Tbl Stamp} (h : Keeps M s t) (hm : M &&& 65536 = 0) :
    Keeps M s { t with sealedFrom := sealedFrom' } :=
  ⟨h.pending, h.cad, h.ports, h.xbars, h.net, h.chans, h.plaza, h.plazaLru, h.order, h.transit, h.gathers, h.samples, h.ledger, h.ledgerLru, h.found, h.pinned, h.sealedList, fun b => (bit_absent hm 16 (by decide) b).elim, h.dram, h.dists, h.keys, h.vault, h.mram, h.repair, h.mirror, h.sup, h.bays, h.ev, h.mgmt, h.blk, h.objs, h.recs, h.shadowObjs, h.freeCtr, h.mramOk, h.recsOk, h.stagedOk, h.winOk⟩

theorem upd_sealedList {sealedList' : List (Nat × Nat × Stamp)} (h : Keeps M s t) (hm : M &&& 32768 = 0) :
    Keeps M s { t with sealedList := sealedList' } :=
  ⟨h.pending, h.cad, h.ports, h.xbars, h.net, h.chans, h.plaza, h.plazaLru, h.order, h.transit, h.gathers, h.samples, h.ledger, h.ledgerLru, h.found, h.pinned, fun b => (bit_absent hm 15 (by decide) b).elim, h.sealedFrom, h.dram, h.dists, h.keys, h.vault, h.mram, h.repair, h.mirror, h.sup, h.bays, h.ev, h.mgmt, h.blk, h.objs, h.recs, h.shadowObjs, h.freeCtr, h.mramOk, h.recsOk, h.stagedOk, h.winOk⟩

theorem upd_sealedList_mram {sealedList' : List (Nat × Nat × Stamp)} {mram' : List Host.Cell} (h : Keeps M s t) (hm : M &&& 2129920 = 0) (hmram : Memory.wf s.mram = true → Memory.wf t.mram = true → Memory.wf mram' = true) :
    Keeps M s { t with sealedList := sealedList', mram := mram' } :=
  ⟨h.pending, h.cad, h.ports, h.xbars, h.net, h.chans, h.plaza, h.plazaLru, h.order, h.transit, h.gathers, h.samples, h.ledger, h.ledgerLru, h.found, h.pinned, fun b => (bit_absent hm 15 (by decide) b).elim, h.sealedFrom, h.dram, h.dists, h.keys, h.vault, fun b => (bit_absent hm 21 (by decide) b).elim, h.repair, h.mirror, h.sup, h.bays, h.ev, h.mgmt, h.blk, h.objs, h.recs, h.shadowObjs, h.freeCtr, fun w => hmram w (h.mramOk w), h.recsOk, h.stagedOk, h.winOk⟩

theorem upd_sealedList_sealedFrom {sealedList' : List (Nat × Nat × Stamp)} {sealedFrom' : Tbl Stamp} (h : Keeps M s t) (hm : M &&& 98304 = 0) :
    Keeps M s { t with sealedList := sealedList', sealedFrom := sealedFrom' } :=
  ⟨h.pending, h.cad, h.ports, h.xbars, h.net, h.chans, h.plaza, h.plazaLru, h.order, h.transit, h.gathers, h.samples, h.ledger, h.ledgerLru, h.found, h.pinned, fun b => (bit_absent hm 15 (by decide) b).elim, fun b => (bit_absent hm 16 (by decide) b).elim, h.dram, h.dists, h.keys, h.vault, h.mram, h.repair, h.mirror, h.sup, h.bays, h.ev, h.mgmt, h.blk, h.objs, h.recs, h.shadowObjs, h.freeCtr, h.mramOk, h.recsOk, h.stagedOk, h.winOk⟩

theorem upd_sup {sup' : Sup} (h : Keeps M s t) (hm : M &&& 16777216 = 0) :
    Keeps M s { t with sup := sup' } :=
  ⟨h.pending, h.cad, h.ports, h.xbars, h.net, h.chans, h.plaza, h.plazaLru, h.order, h.transit, h.gathers, h.samples, h.ledger, h.ledgerLru, h.found, h.pinned, h.sealedList, h.sealedFrom, h.dram, h.dists, h.keys, h.vault, h.mram, h.repair, h.mirror, fun b => (bit_absent hm 24 (by decide) b).elim, h.bays, h.ev, h.mgmt, h.blk, h.objs, h.recs, h.shadowObjs, h.freeCtr, h.mramOk, h.recsOk, h.stagedOk, h.winOk⟩

theorem upd_sup_blk {sup' : Sup} {blk' : Blk} (h : Keeps M s t) (hm : M &&& 285212672 = 0) :
    Keeps M s { t with sup := sup', blk := blk' } :=
  ⟨h.pending, h.cad, h.ports, h.xbars, h.net, h.chans, h.plaza, h.plazaLru, h.order, h.transit, h.gathers, h.samples, h.ledger, h.ledgerLru, h.found, h.pinned, h.sealedList, h.sealedFrom, h.dram, h.dists, h.keys, h.vault, h.mram, h.repair, h.mirror, fun b => (bit_absent hm 24 (by decide) b).elim, h.bays, h.ev, h.mgmt, fun b => (bit_absent hm 28 (by decide) b).elim, h.objs, h.recs, h.shadowObjs, h.freeCtr, h.mramOk, h.recsOk, h.stagedOk, h.winOk⟩

theorem upd_transit {transit' : Tbl (List Req)} (h : Keeps M s t) (hm : M &&& 256 = 0) :
    Keeps M s { t with transit := transit' } :=
  ⟨h.pending, h.cad, h.ports, h.xbars, h.net, h.chans, h.plaza, h.plazaLru, h.order, fun b => (bit_absent hm 8 (by decide) b).elim, h.gathers, h.samples, h.ledger, h.ledgerLru, h.found, h.pinned, h.sealedList, h.sealedFrom, h.dram, h.dists, h.keys, h.vault, h.mram, h.repair, h.mirror, h.sup, h.bays, h.ev, h.mgmt, h.blk, h.objs, h.recs, h.shadowObjs, h.freeCtr, h.mramOk, h.recsOk, h.stagedOk, h.winOk⟩

theorem upd_vault {vault' : Vault} (h : Keeps M s t) (hm : M &&& 1048576 = 0) :
    Keeps M s { t with vault := vault' } :=
  ⟨h.pending, h.cad, h.ports, h.xbars, h.net, h.chans, h.plaza, h.plazaLru, h.order, h.transit, h.gathers, h.samples, h.ledger, h.ledgerLru, h.found, h.pinned, h.sealedList, h.sealedFrom, h.dram, h.dists, h.keys, fun b => (bit_absent hm 20 (by decide) b).elim, h.mram, h.repair, h.mirror, h.sup, h.bays, h.ev, h.mgmt, h.blk, h.objs, h.recs, h.shadowObjs, h.freeCtr, h.mramOk, h.recsOk, h.stagedOk, h.winOk⟩

theorem upd_vault_mram {vault' : Vault} {mram' : List Host.Cell} (h : Keeps M s t) (hm : M &&& 3145728 = 0) (hmram : Memory.wf s.mram = true → Memory.wf t.mram = true → Memory.wf mram' = true) :
    Keeps M s { t with vault := vault', mram := mram' } :=
  ⟨h.pending, h.cad, h.ports, h.xbars, h.net, h.chans, h.plaza, h.plazaLru, h.order, h.transit, h.gathers, h.samples, h.ledger, h.ledgerLru, h.found, h.pinned, h.sealedList, h.sealedFrom, h.dram, h.dists, h.keys, fun b => (bit_absent hm 20 (by decide) b).elim, fun b => (bit_absent hm 21 (by decide) b).elim, h.repair, h.mirror, h.sup, h.bays, h.ev, h.mgmt, h.blk, h.objs, h.recs, h.shadowObjs, h.freeCtr, fun w => hmram w (h.mramOk w), h.recsOk, h.stagedOk, h.winOk⟩

theorem upd_xbars {xbars' : Tbl Xbar} (h : Keeps M s t) (hm : M &&& 4 = 0) :
    Keeps M s { t with xbars := xbars' } :=
  ⟨h.pending, h.cad, h.ports, fun b => (bit_absent hm 2 (by decide) b).elim, h.net, h.chans, h.plaza, h.plazaLru, h.order, h.transit, h.gathers, h.samples, h.ledger, h.ledgerLru, h.found, h.pinned, h.sealedList, h.sealedFrom, h.dram, h.dists, h.keys, h.vault, h.mram, h.repair, h.mirror, h.sup, h.bays, h.ev, h.mgmt, h.blk, h.objs, h.recs, h.shadowObjs, h.freeCtr, h.mramOk, h.recsOk, h.stagedOk, h.winOk⟩

end Keeps

end Sys2Proof.Machine
end

