-- ==== Sys2Proof/Laws/KeepsOps.lean ====
section
/-! SUPPORT. What each function of Machine/Ops.lean can do (see Laws/Keeps.lean). -/

set_option linter.tactic.unusedName false
set_option linter.unusedTactic false
set_option linter.unreachableTactic false

namespace Sys2Proof.Machine

theorem State.setNow_keeps (s : State) (c : Count) : Keeps 8589934590 s (State.setNow s c) := by
  unfold State.setNow
  repeat' (first
    | with_reducible exact Keeps.refl _
    | with_reducible assumption
    | fail_if_no_progress (with_reducible apply Keeps.upd_cad <;> [skip; decide])
    | dsimp -zeta only)

theorem State.tickFree_keeps (s : State) : Keeps 4294967295 s (State.tickFree s) := by
  unfold State.tickFree
  repeat' (first
    | with_reducible exact Keeps.refl _
    | with_reducible assumption
    | fail_if_no_progress (with_reducible apply Keeps.upd_freeCtr <;> [skip; decide])
    | dsimp -zeta only)

theorem State.setObj_keeps (s : State) (idx sub v : Nat) : Keeps 8053063679 s (State.setObj s idx sub v) := by
  unfold State.setObj
  repeat' (first
    | with_reducible exact Keeps.refl _
    | with_reducible assumption
    | fail_if_no_progress (with_reducible apply Keeps.upd_objs <;> [skip; decide])
    | dsimp -zeta only)

theorem State.addObj_keeps (s : State) (idx sub n : Nat) : Keeps 8053063679 s (State.addObj s idx sub n) := by
  unfold State.addObj
  repeat' (first
    | with_reducible exact Keeps.refl _
    | with_reducible assumption
    | (with_reducible apply Keeps.step (State.setObj_keeps ..); on_goal 1 => decide)
    | dsimp -zeta only)

theorem State.setObjBit_keeps (s : State) (idx sub i : Nat) (b : Bool) : Keeps 8053063679 s (State.setObjBit s idx sub i b) := by
  unfold State.setObjBit
  repeat' (first
    | with_reducible exact Keeps.refl _
    | with_reducible assumption
    | (with_reducible apply Keeps.step (State.setObj_keeps ..); on_goal 1 => decide)
    | dsimp -zeta only)

theorem State.setRec_keeps (s : State) (idx sub off : Nat) (bs : List Byte) : Keeps 7516192767 s (State.setRec s idx sub off bs) := by
  unfold State.setRec
  repeat' (first
    | with_reducible exact Keeps.refl _
    | with_reducible assumption
    | fail_if_no_progress (with_reducible apply Keeps.upd_recs <;> [skip; decide; (intros; repeat' (first | with_reducible assumption | with_reducible exact Memory.wf_nil | with_reducible apply Memory.wf_sbN | with_reducible apply Memory.wf_sbNat | with_reducible apply Memory.wf_sb | with_reducible apply Memory.wf_filter | with_reducible apply Memory.wf_writeWords | with_reducible apply Memory.wf_foldl_sb | with_reducible exact Keeps.mramOk (by assumption) (by assumption) | split | dsimp only))])
    | dsimp -zeta only)

theorem State.clearRec_keeps (s : State) (idx sub : Nat) : Keeps 7516192767 s (State.clearRec s idx sub) := by
  unfold State.clearRec
  repeat' (first
    | with_reducible exact Keeps.refl _
    | with_reducible assumption
    | fail_if_no_progress (with_reducible apply Keeps.upd_recs <;> [skip; decide; (intros; repeat' (first | with_reducible assumption | with_reducible exact Memory.wf_nil | with_reducible apply Memory.wf_sbN | with_reducible apply Memory.wf_sbNat | with_reducible apply Memory.wf_sb | with_reducible apply Memory.wf_filter | with_reducible apply Memory.wf_writeWords | with_reducible apply Memory.wf_foldl_sb | with_reducible exact Keeps.mramOk (by assumption) (by assumption) | split | dsimp only))])
    | dsimp -zeta only)

theorem State.setPort_keeps (s : State) (p : Nat) (v : Port) : Keeps 8589934589 s (State.setPort s p v) := by
  unfold State.setPort
  repeat' (first
    | with_reducible exact Keeps.refl _
    | with_reducible assumption
    | fail_if_no_progress (with_reducible apply Keeps.upd_ports <;> [skip; decide])
    | dsimp -zeta only)

theorem State.modPort_keeps (s : State) (p : Nat) (f : Port → Port) : Keeps 8589934589 s (State.modPort s p f) := by
  unfold State.modPort
  repeat' (first
    | with_reducible exact Keeps.refl _
    | with_reducible assumption
    | (with_reducible apply Keeps.step (State.setPort_keeps ..); on_goal 1 => decide)
    | dsimp -zeta only)

theorem State.setXbar_keeps (s : State) (x : Nat) (v : Xbar) : Keeps 8589934587 s (State.setXbar s x v) := by
  unfold State.setXbar
  repeat' (first
    | with_reducible exact Keeps.refl _
    | with_reducible assumption
    | fail_if_no_progress (with_reducible apply Keeps.upd_xbars <;> [skip; decide])
    | dsimp -zeta only)

theorem State.setChan_keeps (s : State) (c : Nat) (v : Chan) : Keeps 8589934575 s (State.setChan s c v) := by
  unfold State.setChan
  repeat' (first
    | with_reducible exact Keeps.refl _
    | with_reducible assumption
    | fail_if_no_progress (with_reducible apply Keeps.upd_chans <;> [skip; decide])
    | dsimp -zeta only)

theorem State.modChan_keeps (s : State) (c : Nat) (f : Chan → Chan) : Keeps 8589934575 s (State.modChan s c f) := by
  unfold State.modChan
  repeat' (first
    | with_reducible exact Keeps.refl _
    | with_reducible assumption
    | (with_reducible apply Keeps.step (State.setChan_keeps ..); on_goal 1 => decide)
    | dsimp -zeta only)

theorem State.setDist_keeps (s : State) (d : Nat) (v : District) : Keeps 8589672447 s (State.setDist s d v) := by
  unfold State.setDist
  repeat' (first
    | with_reducible exact Keeps.refl _
    | with_reducible assumption
    | fail_if_no_progress (with_reducible apply Keeps.upd_dists <;> [skip; decide])
    | dsimp -zeta only)

theorem State.modDist_keeps (s : State) (d : Nat) (f : District → District) : Keeps 8589672447 s (State.modDist s d f) := by
  unfold State.modDist
  repeat' (first
    | with_reducible exact Keeps.refl _
    | with_reducible assumption
    | (with_reducible apply Keeps.step (State.setDist_keeps ..); on_goal 1 => decide)
    | dsimp -zeta only)

theorem State.setBay_keeps (s : State) (b : Nat) (v : Bay) : Keeps 8556380159 s (State.setBay s b v) := by
  unfold State.setBay
  repeat' (first
    | with_reducible exact Keeps.refl _
    | with_reducible assumption
    | fail_if_no_progress (with_reducible apply Keeps.upd_bays <;> [skip; decide])
    | dsimp -zeta only)

theorem State.modBay_keeps (s : State) (b : Nat) (f : Bay → Bay) : Keeps 8556380159 s (State.modBay s b f) := by
  unfold State.modBay
  repeat' (first
    | with_reducible exact Keeps.refl _
    | with_reducible assumption
    | (with_reducible apply Keeps.step (State.setBay_keeps ..); on_goal 1 => decide)
    | dsimp -zeta only)

theorem State.setSense_keeps (s : State) (i : Nat) (v : Sense) : Keeps 8573157375 s (State.setSense s i v) := by
  unfold State.setSense
  repeat' (first
    | with_reducible exact Keeps.refl _
    | with_reducible assumption
    | fail_if_no_progress (with_reducible apply Keeps.upd_sup <;> [skip; decide])
    | dsimp -zeta only)

theorem State.setRepair_keeps (s : State) (e : Nat) (v : Repair) : Keeps 8585740287 s (State.setRepair s e v) := by
  unfold State.setRepair
  repeat' (first
    | with_reducible exact Keeps.refl _
    | with_reducible assumption
    | fail_if_no_progress (with_reducible apply Keeps.upd_repair <;> [skip; decide])
    | dsimp -zeta only)

theorem State.setTx_keeps (s : State) (i : Nat) (v : TxStream) : Keeps 8581545983 s (State.setTx s i v) := by
  unfold State.setTx
  repeat' (first
    | with_reducible exact Keeps.refl _
    | with_reducible assumption
    | fail_if_no_progress (with_reducible apply Keeps.upd_mirror <;> [skip; decide])
    | dsimp -zeta only)

theorem State.setRx_keeps (s : State) (i : Nat) (v : RxStream) : Keeps 8581545983 s (State.setRx s i v) := by
  unfold State.setRx
  repeat' (first
    | with_reducible exact Keeps.refl _
    | with_reducible assumption
    | fail_if_no_progress (with_reducible apply Keeps.upd_mirror <;> [skip; decide])
    | dsimp -zeta only)

theorem State.setLink_keeps (s : State) (l : Nat) (v : Link) : Keeps 8455716863 s (State.setLink s l v) := by
  unfold State.setLink
  repeat' (first
    | with_reducible exact Keeps.refl _
    | with_reducible assumption
    | fail_if_no_progress (with_reducible apply Keeps.upd_mgmt <;> [skip; decide; (intros; repeat' (first | with_reducible assumption | with_reducible exact Memory.wf_nil | with_reducible apply Memory.wf_sbN | with_reducible apply Memory.wf_sbNat | with_reducible apply Memory.wf_sb | with_reducible apply Memory.wf_filter | with_reducible apply Memory.wf_writeWords | with_reducible apply Memory.wf_foldl_sb | with_reducible exact Keeps.mramOk (by assumption) (by assumption) | split | dsimp only)); (intros; repeat' (first | with_reducible assumption | with_reducible exact Memory.wf_nil | with_reducible apply Memory.wf_sbN | with_reducible apply Memory.wf_sbNat | with_reducible apply Memory.wf_sb | with_reducible apply Memory.wf_filter | with_reducible apply Memory.wf_writeWords | with_reducible apply Memory.wf_foldl_sb | with_reducible exact Keeps.mramOk (by assumption) (by assumption) | split | dsimp only))])
    | dsimp -zeta only)

end Sys2Proof.Machine
end

