-- ==== Sys2Proof/Laws/KeepsFlags.lean ====
section
/-! SUPPORT. What each function of Machine/Flags.lean can do (see Laws/Keeps.lean). -/

set_option linter.tactic.unusedName false
set_option linter.unusedTactic false
set_option linter.unreachableTactic false

namespace Sys2Proof.Machine

theorem evtSync_keeps (s : State) : Keeps 4227858431 s (evtSync s) := by
  unfold evtSync
  repeat' (first
    | with_reducible exact Keeps.refl _
    | with_reducible assumption
    | with_reducible apply Keeps.ite
    | fail_if_no_progress (with_reducible apply Keeps.upd_ev <;> [skip; decide])
    | fail_if_no_progress (with_reducible apply Keeps.upd_ev_freeCtr <;> [skip; decide])
    | dsimp -zeta only)

theorem evtTick_keeps (s : State) : Keeps 8522825727 s (evtTick s) := by
  unfold evtTick
  repeat' (first
    | with_reducible exact Keeps.refl _
    | with_reducible assumption
    | with_reducible apply Keeps.ite
    | fail_if_no_progress (with_reducible apply Keeps.upd_ev <;> [skip; decide])
    | dsimp -zeta only)

theorem evWrite_keeps (e : EvEntry) (s : State) : Keeps 7985954815 s (evWrite e s).1 := by
  unfold evWrite
  repeat' (first
    | with_reducible exact Keeps.refl _
    | with_reducible assumption
    | (with_reducible apply Keeps.step (State.addObj_keeps ..); on_goal 1 => decide)
    | with_reducible apply Keeps.ite
    | with_reducible apply Keeps.ite_fst
    | fail_if_no_progress (with_reducible apply Keeps.upd_ev <;> [skip; decide])
    | dsimp -zeta only)

theorem evEnqueue_keeps (e : EvEntry) (s : State) : Keeps 7985954815 s (evEnqueue e s).1 := by
  unfold evEnqueue
  repeat' (first
    | with_reducible exact Keeps.refl _
    | with_reducible assumption
    | (with_reducible apply Keeps.step (evWrite_keeps ..); on_goal 1 => decide)
    | (with_reducible apply Keeps.step (State.addObj_keeps ..); on_goal 1 => decide)
    | with_reducible apply Keeps.ite
    | with_reducible apply Keeps.ite_fst
    | (extract_lets +onlyGivenNames x; with_reducible apply Keeps.cut (x := by apply x) <;> [(unfold x; clear x); (clear_value x; intro _; revert x; intros)])
    | (extract_lets +onlyGivenNames x; with_reducible apply Keeps.cut (x := by apply x.1) <;> [(unfold x; clear x); (clear_value x; intro _; revert x; intros)])
    | (extract_lets +onlyGivenNames x; unfold x; clear x)
    | fail_if_no_progress (with_reducible apply Keeps.upd_ev <;> [skip; decide])
    | dsimp -zeta only)

theorem logWrite_keeps (e : EvEntry) (s : State) : Keeps 8520728575 s (logWrite e s) := by
  unfold logWrite
  repeat' (first
    | with_reducible exact Keeps.refl _
    | with_reducible assumption
    | with_reducible apply Keeps.ite
    | (extract_lets +onlyGivenNames x; with_reducible apply Keeps.cut (x := by apply x) <;> [(unfold x; clear x); (clear_value x; intro _; revert x; intros)])
    | (extract_lets +onlyGivenNames x; clear_value x; revert x; intros)
    | split
    | fail_if_no_progress (with_reducible apply Keeps.upd_mram_ev <;> [skip; decide; (intros; repeat' (first | with_reducible assumption | with_reducible exact Memory.wf_nil | with_reducible apply Memory.wf_sbN | with_reducible apply Memory.wf_sbNat | with_reducible apply Memory.wf_sb | with_reducible apply Memory.wf_filter | with_reducible apply Memory.wf_writeWords | with_reducible apply Memory.wf_foldl_sb | with_reducible exact Keeps.mramOk (by assumption) (by assumption) | split | dsimp only))])
    | dsimp -zeta only)

theorem countSource_keeps (n : Nat) (s : State) : Keeps 8053063679 s (countSource n s) := by
  unfold countSource
  repeat' (first
    | with_reducible exact Keeps.refl _
    | with_reducible assumption
    | (with_reducible apply Keeps.step (State.addObj_keeps ..); on_goal 1 => decide)
    | with_reducible apply Keeps.ite
    | with_reducible apply Keeps.ite_fst
    | (with_reducible apply Keeps.foldl <;> [skip; intro _ _ _])
    | (with_reducible apply Keeps.foldl_fst <;> [skip; intro _ _ _])
    | (extract_lets +onlyGivenNames x; with_reducible apply Keeps.cut (x := by apply x) <;> [(unfold x; clear x); (clear_value x; intro _; revert x; intros)])
    | (extract_lets +onlyGivenNames x; with_reducible apply Keeps.cut (x := by apply x.1) <;> [(unfold x; clear x); (clear_value x; intro _; revert x; intros)])
    | (extract_lets +onlyGivenNames x; clear_value x; revert x; intros)
    | dsimp -zeta only)

theorem markRaise_keeps (n sev port : Nat) (enabled : Bool) (s : State) : Keeps 7985954815 s (markRaise n sev port enabled s) := by
  unfold markRaise
  repeat' (first
    | with_reducible exact Keeps.refl _
    | with_reducible assumption
    | (with_reducible apply Keeps.step (countSource_keeps ..); on_goal 1 => decide)
    | (with_reducible apply Keeps.step (State.setObj_keeps ..); on_goal 1 => decide)
    | (with_reducible apply Keeps.step (State.addObj_keeps ..); on_goal 1 => decide)
    | with_reducible apply Keeps.ite
    | (extract_lets +onlyGivenNames x; with_reducible apply Keeps.cut (x := by apply x) <;> [(unfold x; clear x); (clear_value x; intro _; revert x; intros)])
    | (extract_lets +onlyGivenNames x; clear_value x; revert x; intros)
    | fail_if_no_progress (with_reducible apply Keeps.upd_ev <;> [skip; decide])
    | dsimp -zeta only)

theorem routeRaise_keeps (n sev detail port : Nat) (enabled : Bool) (s : State) : Keeps 7983857663 s (routeRaise n sev detail port enabled s).1 := by
  unfold routeRaise
  repeat' (first
    | with_reducible exact Keeps.refl _
    | with_reducible assumption
    | (with_reducible apply Keeps.step (evEnqueue_keeps ..); on_goal 1 => decide)
    | (with_reducible apply Keeps.step (logWrite_keeps ..); on_goal 1 => decide)
    | with_reducible apply Keeps.ite
    | with_reducible apply Keeps.ite_fst
    | (extract_lets +onlyGivenNames x; with_reducible apply Keeps.cut (x := by apply x) <;> [(unfold x; clear x); (clear_value x; intro _; revert x; intros)])
    | (extract_lets +onlyGivenNames x; with_reducible apply Keeps.cut (x := by apply x.1) <;> [(unfold x; clear x); (clear_value x; intro _; revert x; intros)])
    | (extract_lets +onlyGivenNames x; clear_value x; revert x; intros)
    | fail_if_no_progress (with_reducible apply Keeps.upd_ev <;> [skip; decide])
    | dsimp -zeta only)

theorem raiseOne_keeps (n fixed detail port : Nat) (s : State) : Keeps 3688890367 s (raiseOne n fixed detail port s).1 := by
  unfold raiseOne
  repeat' (first
    | with_reducible exact Keeps.refl _
    | with_reducible assumption
    | (with_reducible apply Keeps.step (evtSync_keeps ..); on_goal 1 => decide)
    | (with_reducible apply Keeps.step (markRaise_keeps ..); on_goal 1 => decide)
    | (with_reducible apply Keeps.step (routeRaise_keeps ..); on_goal 1 => decide)
    | with_reducible apply Keeps.ite
    | with_reducible apply Keeps.ite_fst
    | (extract_lets +onlyGivenNames x; with_reducible apply Keeps.cut (x := by apply x) <;> [(unfold x; clear x); (clear_value x; intro _; revert x; intros)])
    | (extract_lets +onlyGivenNames x; with_reducible apply Keeps.cut (x := by apply x.1) <;> [(unfold x; clear x); (clear_value x; intro _; revert x; intros)])
    | (extract_lets +onlyGivenNames x; clear_value x; revert x; intros)
    | dsimp -zeta only)

theorem raiseFull_keeps (n fixed detail port : Nat) (s : State) : Keeps 3688890367 s (raiseFull n fixed detail port s) := by
  unfold raiseFull
  repeat' (first
    | with_reducible exact Keeps.refl _
    | with_reducible assumption
    | (with_reducible apply Keeps.step (raiseOne_keeps ..); on_goal 1 => decide)
    | with_reducible apply Keeps.ite
    | with_reducible apply Keeps.ite_fst
    | (extract_lets +onlyGivenNames x; with_reducible apply Keeps.cut (x := by apply x) <;> [(unfold x; clear x); (clear_value x; intro _; revert x; intros)])
    | (extract_lets +onlyGivenNames x; with_reducible apply Keeps.cut (x := by apply x.1) <;> [(unfold x; clear x); (clear_value x; intro _; revert x; intros)])
    | (extract_lets +onlyGivenNames x; clear_value x; revert x; intros)
    | fail_if_no_progress (with_reducible apply Keeps.upd_ev <;> [skip; decide])
    | dsimp -zeta only)

theorem State.raise_keeps (s : State) (n : Nat) : Keeps 3688890367 s (State.raise s n) := by
  unfold State.raise
  repeat' (first
    | with_reducible exact Keeps.refl _
    | with_reducible assumption
    | (with_reducible apply Keeps.step (raiseFull_keeps ..); on_goal 1 => decide)
    | dsimp -zeta only)

theorem State.raiseChan_keeps (s : State) (c k : Nat) (sub : Nat) (rankSlot : Nat) : Keeps 3688890367 s (State.raiseChan s c k sub rankSlot) := by
  unfold State.raiseChan
  repeat' (first
    | with_reducible exact Keeps.refl _
    | with_reducible assumption
    | (with_reducible apply Keeps.step (raiseFull_keeps ..); on_goal 1 => decide)
    | dsimp -zeta only)

theorem portCause_keeps (p b : Nat) (s : State) : Keeps 3688890367 s (portCause p b s) := by
  unfold portCause
  repeat' (first
    | with_reducible exact Keeps.refl _
    | with_reducible assumption
    | (with_reducible apply Keeps.step (raiseFull_keeps ..); on_goal 1 => decide)
    | (with_reducible apply Keeps.step (State.setObjBit_keeps ..); on_goal 1 => decide)
    | with_reducible apply Keeps.ite
    | (extract_lets +onlyGivenNames x; with_reducible apply Keeps.cut (x := by apply x) <;> [(unfold x; clear x); (clear_value x; intro _; revert x; intros)])
    | (extract_lets +onlyGivenNames x; clear_value x; revert x; intros)
    | dsimp -zeta only)

theorem crossingCause_keeps (x b fixed : Nat) (s : State) : Keeps 3688890367 s (crossingCause x b fixed s) := by
  unfold crossingCause
  repeat' (first
    | with_reducible exact Keeps.refl _
    | with_reducible assumption
    | (with_reducible apply Keeps.step (raiseFull_keeps ..); on_goal 1 => decide)
    | (with_reducible apply Keeps.step (State.setObjBit_keeps ..); on_goal 1 => decide)
    | dsimp -zeta only)

theorem calCause_keeps (c b : Nat) (s : State) : Keeps 3688890367 s (calCause c b s) := by
  unfold calCause
  repeat' (first
    | with_reducible exact Keeps.refl _
    | with_reducible assumption
    | (with_reducible apply Keeps.step (raiseFull_keeps ..); on_goal 1 => decide)
    | (with_reducible apply Keeps.step (State.setObjBit_keeps ..); on_goal 1 => decide)
    | dsimp -zeta only)

theorem bumpSelected_keeps (idx selBase cntBase n k : Nat) (hit : Nat → Bool) (s : State) : Keeps 8053063679 s (bumpSelected idx selBase cntBase n k hit s) := by
  unfold bumpSelected
  repeat' (first
    | with_reducible exact Keeps.refl _
    | with_reducible assumption
    | (with_reducible apply Keeps.step (State.addObj_keeps ..); on_goal 1 => decide)
    | with_reducible apply Keeps.ite
    | (with_reducible apply Keeps.forN <;> [skip; intro _ _ _])
    | dsimp -zeta only)

theorem countChan_keeps (c code k : Nat) (sub : Option Nat) (s : State) : Keeps 8053063679 s (countChan c code k sub s) := by
  unfold countChan
  repeat' (first
    | with_reducible exact Keeps.refl _
    | with_reducible assumption
    | (with_reducible apply Keeps.step (bumpSelected_keeps ..); on_goal 1 => decide)
    | with_reducible apply Keeps.ite
    | split
    | dsimp -zeta only)

theorem countPort_keeps (p code k : Nat) (s : State) : Keeps 8053063679 s (countPort p code k s) := by
  unfold countPort
  repeat' (first
    | with_reducible exact Keeps.refl _
    | with_reducible assumption
    | (with_reducible apply Keeps.step (bumpSelected_keeps ..); on_goal 1 => decide)
    | with_reducible apply Keeps.ite
    | dsimp -zeta only)

theorem countCrossing_keeps (x code o k : Nat) (s : State) : Keeps 8053063679 s (countCrossing x code o k s) := by
  unfold countCrossing
  repeat' (first
    | with_reducible exact Keeps.refl _
    | with_reducible assumption
    | (with_reducible apply Keeps.step (bumpSelected_keeps ..); on_goal 1 => decide)
    | with_reducible apply Keeps.ite
    | dsimp -zeta only)

theorem noteT_keeps (t : Stamp) (i : Nat) (s : State) : Keeps 8589933567 s (noteT t i s) := by
  unfold noteT
  repeat' (first
    | with_reducible exact Keeps.refl _
    | with_reducible assumption
    | with_reducible apply Keeps.ite
    | fail_if_no_progress (with_reducible apply Keeps.upd_samples <;> [skip; decide])
    | dsimp -zeta only)

theorem noteLast_keeps (t : Stamp) (i : Nat) (s : State) : Keeps 8589933567 s (noteLast t i s) := by
  unfold noteLast
  repeat' (first
    | with_reducible exact Keeps.refl _
    | with_reducible assumption
    | with_reducible apply Keeps.ite
    | fail_if_no_progress (with_reducible apply Keeps.upd_samples <;> [skip; decide])
    | dsimp -zeta only)

theorem noteLine_keeps (t : Stamp) (read : Bool) (s : State) : Keeps 8589933567 s (noteLine t read s) := by
  unfold noteLine
  repeat' (first
    | with_reducible exact Keeps.refl _
    | with_reducible assumption
    | (with_reducible apply Keeps.step (noteLast_keeps ..); on_goal 1 => decide)
    | with_reducible apply Keeps.ite
    | dsimp -zeta only)

theorem flagSample_keeps (t : Stamp) (b : Nat) (s : State) : Keeps 8589933567 s (flagSample t b s) := by
  unfold flagSample
  repeat' (first
    | with_reducible exact Keeps.refl _
    | with_reducible assumption
    | with_reducible apply Keeps.ite
    | fail_if_no_progress (with_reducible apply Keeps.upd_samples <;> [skip; decide])
    | dsimp -zeta only)

theorem clearPending_keeps (n : Nat) (s : State) : Keeps 3690987519 s (clearPending n s) := by
  unfold clearPending
  repeat' (first
    | with_reducible exact Keeps.refl _
    | with_reducible assumption
    | (with_reducible apply Keeps.step (evtSync_keeps ..); on_goal 1 => decide)
    | (with_reducible apply Keeps.step (State.setObj_keeps ..); on_goal 1 => decide)
    | (extract_lets +onlyGivenNames x; with_reducible apply Keeps.cut (x := by apply x) <;> [(unfold x; clear x); (clear_value x; intro _; revert x; intros)])
    | (extract_lets +onlyGivenNames x; clear_value x; revert x; intros)
    | fail_if_no_progress (with_reducible apply Keeps.upd_ev <;> [skip; decide])
    | dsimp -zeta only)

theorem drainStaging_keeps (s : State) : Keeps 3688890367 s (drainStaging s) := by
  unfold drainStaging
  repeat' (first
    | with_reducible exact Keeps.refl _
    | with_reducible assumption
    | (with_reducible apply Keeps.step (evWrite_keeps ..); on_goal 1 => decide)
    | (with_reducible apply Keeps.step (raiseOne_keeps ..); on_goal 1 => decide)
    | with_reducible apply Keeps.ite
    | with_reducible apply Keeps.ite_fst
    | (with_reducible apply Keeps.foldl <;> [skip; intro _ _ _])
    | (with_reducible apply Keeps.foldl_fst <;> [skip; intro _ _ _])
    | (extract_lets +onlyGivenNames x; with_reducible apply Keeps.cut (x := by apply x) <;> [(unfold x; clear x); (clear_value x; intro _; revert x; intros)])
    | (extract_lets +onlyGivenNames x; with_reducible apply Keeps.cut (x := by apply x.1) <;> [(unfold x; clear x); (clear_value x; intro _; revert x; intros)])
    | (extract_lets +onlyGivenNames x; clear_value x; revert x; intros)
    | fail_if_no_progress (with_reducible apply Keeps.upd_ev <;> [skip; decide])
    | dsimp -zeta only)

theorem storeReset_keeps (k : Nat) (s : State) : Keeps 3688890367 s (storeReset k s) := by
  unfold storeReset
  repeat' (first
    | with_reducible exact Keeps.refl _
    | with_reducible assumption
    | (with_reducible apply Keeps.step (State.addObj_keeps ..); on_goal 1 => decide)
    | (with_reducible apply Keeps.step (State.raise_keeps ..); on_goal 1 => decide)
    | dsimp -zeta only)

end Sys2Proof.Machine
end

