-- ==== Sys2Proof/Laws/KeepsDistricts.lean ====
section
/-! SUPPORT. What each function of Machine/Districts.lean can do (see Laws/Keeps.lean). -/

set_option linter.tactic.unusedName false
set_option linter.unusedTactic false
set_option linter.unreachableTactic false

namespace Sys2Proof.Machine

theorem refreshDistrict_keeps (d : Nat) (s : State) : Keeps 8589672447 s (refreshDistrict d s) := by
  unfold refreshDistrict
  repeat' (first
    | with_reducible exact Keeps.refl _
    | with_reducible assumption
    | (with_reducible apply Keeps.step (State.setDist_keeps ..); on_goal 1 => decide)
    | with_reducible apply Keeps.ite
    | (extract_lets +onlyGivenNames x; with_reducible apply Keeps.cut (x := by apply x) <;> [(unfold x; clear x); (clear_value x; intro _; revert x; intros)])
    | (extract_lets +onlyGivenNames x; clear_value x; revert x; intros)
    | dsimp -zeta only)

theorem setChanState_keeps (c : Nat) (st : ChanSt) (s : State) : Keeps 8052801519 s (setChanState c st s) := by
  unfold setChanState
  repeat' (first
    | with_reducible exact Keeps.refl _
    | with_reducible assumption
    | (with_reducible apply Keeps.step (refreshDistrict_keeps ..); on_goal 1 => decide)
    | (with_reducible apply Keeps.step (State.setObj_keeps ..); on_goal 1 => decide)
    | (with_reducible apply Keeps.step (State.modChan_keeps ..); on_goal 1 => decide)
    | (extract_lets +onlyGivenNames x; with_reducible apply Keeps.cut (x := by apply x) <;> [(unfold x; clear x); (clear_value x; intro _; revert x; intros)])
    | (extract_lets +onlyGivenNames x; clear_value x; revert x; intros)
    | split
    | dsimp -zeta only)

theorem publishCarve_keeps (d : Nat) (s : State) : Keeps 8053063679 s (publishCarve d s) := by
  unfold publishCarve
  repeat' (first
    | with_reducible exact Keeps.refl _
    | with_reducible assumption
    | (with_reducible apply Keeps.step (State.setObj_keeps ..); on_goal 1 => decide)
    | with_reducible apply Keeps.ite
    | (with_reducible apply Keeps.forN <;> [skip; intro _ _ _])
    | (extract_lets +onlyGivenNames x; with_reducible apply Keeps.cut (x := by apply x) <;> [(unfold x; clear x); (clear_value x; intro _; revert x; intros)])
    | (extract_lets +onlyGivenNames x; unfold x; clear x)
    | dsimp -zeta only)

end Sys2Proof.Machine
end

