-- ==== Sys2Proof/Laws/KeepsVault.lean ====
section
/-! SUPPORT. What each function of Machine/Vault.lean can do (see Laws/Keeps.lean). -/

set_option linter.tactic.unusedName false
set_option linter.unusedTactic false
set_option linter.unreachableTactic false

namespace Sys2Proof.Machine

theorem writeVault_keeps (s : State) : Keeps 8586788863 s (writeVault s) := by
  unfold writeVault
  repeat' (first
    | with_reducible exact Keeps.refl _
    | with_reducible assumption
    | (extract_lets +onlyGivenNames x; with_reducible apply Keeps.cut (x := by apply x) <;> [(unfold x; clear x); (clear_value x; intro _; revert x; intros)])
    | (extract_lets +onlyGivenNames x; clear_value x; revert x; intros)
    | split
    | fail_if_no_progress (with_reducible apply Keeps.upd_vault_mram <;> [skip; decide; (intros; repeat' (first | with_reducible assumption | with_reducible exact Memory.wf_nil | with_reducible apply Memory.wf_sbN | with_reducible apply Memory.wf_sbNat | with_reducible apply Memory.wf_sb | with_reducible apply Memory.wf_filter | with_reducible apply Memory.wf_writeWords | with_reducible apply Memory.wf_foldl_sb | with_reducible exact Keeps.mramOk (by assumption) (by assumption) | split | dsimp only))])
    | dsimp -zeta only)

theorem publishVault_keeps (s : State) : Keeps 8053063679 s (publishVault s) := by
  unfold publishVault
  repeat' (first
    | with_reducible exact Keeps.refl _
    | with_reducible assumption
    | (with_reducible apply Keeps.step (State.setObj_keeps ..); on_goal 1 => decide)
    | with_reducible apply Keeps.ite
    | (with_reducible apply Keeps.forN <;> [skip; intro _ _ _])
    | (extract_lets +onlyGivenNames x; with_reducible apply Keeps.cut (x := by apply x) <;> [(unfold x; clear x); (clear_value x; intro _; revert x; intros)])
    | (extract_lets +onlyGivenNames x; clear_value x; revert x; intros)
    | dsimp -zeta only)

theorem writeRootSlot_keeps (cause : Nat) (blocks : List (List Byte)) (count crc atCut spent : Nat) (s : State) : Keeps 8587837439 s (writeRootSlot cause blocks count crc atCut spent s) := by
  unfold writeRootSlot
  repeat' (first
    | with_reducible exact Keeps.refl _
    | with_reducible assumption
    | (extract_lets +onlyGivenNames x; with_reducible apply Keeps.cut (x := by apply x) <;> [(unfold x; clear x); (clear_value x; intro _; revert x; intros)])
    | (extract_lets +onlyGivenNames x; clear_value x; revert x; intros)
    | split
    | fail_if_no_progress (with_reducible apply Keeps.upd_mram <;> [skip; decide; (intros; repeat' (first | with_reducible assumption | with_reducible exact Memory.wf_nil | with_reducible apply Memory.wf_sbN | with_reducible apply Memory.wf_sbNat | with_reducible apply Memory.wf_sb | with_reducible apply Memory.wf_filter | with_reducible apply Memory.wf_writeWords | with_reducible apply Memory.wf_foldl_sb | with_reducible exact Keeps.mramOk (by assumption) (by assumption) | split | dsimp only))])
    | dsimp -zeta only)

theorem commitFormation_keeps (d : Nat) (s : State) : Keeps 8587837439 s (commitFormation d s) := by
  unfold commitFormation
  repeat' (first
    | with_reducible exact Keeps.refl _
    | with_reducible assumption
    | (with_reducible apply Keeps.step (writeRootSlot_keeps ..); on_goal 1 => decide)
    | with_reducible apply Keeps.ite
    | (extract_lets +onlyGivenNames x; with_reducible apply Keeps.cut (x := by apply x) <;> [(unfold x; clear x); (clear_value x; intro _; revert x; intros)])
    | (extract_lets +onlyGivenNames x; unfold x; clear x)
    | split
    | dsimp -zeta only)

theorem writeDesc_keeps (d : Nat) (s : State) : Keeps 8587837439 s (writeDesc d s) := by
  unfold writeDesc
  repeat' (first
    | with_reducible exact Keeps.refl _
    | with_reducible assumption
    | fail_if_no_progress (with_reducible apply Keeps.upd_mram <;> [skip; decide; (intros; repeat' (first | with_reducible assumption | with_reducible exact Memory.wf_nil | with_reducible apply Memory.wf_sbN | with_reducible apply Memory.wf_sbNat | with_reducible apply Memory.wf_sb | with_reducible apply Memory.wf_filter | with_reducible apply Memory.wf_writeWords | with_reducible apply Memory.wf_foldl_sb | with_reducible exact Keeps.mramOk (by assumption) (by assumption) | split | dsimp only))])
    | dsimp -zeta only)

theorem writeDescState_keeps (d st : Nat) (s : State) : Keeps 8587837439 s (writeDescState d st s) := by
  unfold writeDescState
  repeat' (first
    | with_reducible exact Keeps.refl _
    | with_reducible assumption
    | fail_if_no_progress (with_reducible apply Keeps.upd_mram <;> [skip; decide; (intros; repeat' (first | with_reducible assumption | with_reducible exact Memory.wf_nil | with_reducible apply Memory.wf_sbN | with_reducible apply Memory.wf_sbNat | with_reducible apply Memory.wf_sb | with_reducible apply Memory.wf_filter | with_reducible apply Memory.wf_writeWords | with_reducible apply Memory.wf_foldl_sb | with_reducible exact Keeps.mramOk (by assumption) (by assumption) | split | dsimp only))])
    | dsimp -zeta only)

theorem writeFailure_keeps (kind input : Nat) (stamp : Stamp) (rest : List Byte) (s : State) : Keeps 8571060223 s (writeFailure kind input stamp rest s) := by
  unfold writeFailure
  dsimp only
  repeat' (first
    | with_reducible exact Keeps.refl _
    | with_reducible assumption
    | (extract_lets +onlyGivenNames x; with_reducible apply Keeps.cut (x := by apply x) <;> [(unfold x; clear x); (clear_value x; intro _; revert x; intros)])
    | (extract_lets +onlyGivenNames x; with_reducible apply Keeps.cut (x := by apply x.1) <;> [(unfold x; clear x); (clear_value x; intro _; revert x; intros)])
    | (extract_lets +onlyGivenNames x; unfold x; clear x)
    | fail_if_no_progress (with_reducible apply Keeps.upd_mram_sup <;> [skip; decide; (intros; repeat' (first | with_reducible assumption | with_reducible exact Memory.wf_nil | with_reducible apply Memory.wf_sbN | with_reducible apply Memory.wf_sbNat | with_reducible apply Memory.wf_sb | with_reducible apply Memory.wf_filter | with_reducible apply Memory.wf_writeWords | with_reducible apply Memory.wf_foldl_sb | with_reducible exact Keeps.mramOk (by assumption) (by assumption) | split | dsimp only))])
    | dsimp -zeta only)

theorem setSaveFlag_keeps (b i : Nat) (v : Bool) (s : State) : Keeps 8587837439 s (setSaveFlag b i v s) := by
  unfold setSaveFlag
  repeat' (first
    | with_reducible exact Keeps.refl _
    | with_reducible assumption
    | fail_if_no_progress (with_reducible apply Keeps.upd_mram <;> [skip; decide; (intros; repeat' (first | with_reducible assumption | with_reducible exact Memory.wf_nil | with_reducible apply Memory.wf_sbN | with_reducible apply Memory.wf_sbNat | with_reducible apply Memory.wf_sb | with_reducible apply Memory.wf_filter | with_reducible apply Memory.wf_writeWords | with_reducible apply Memory.wf_foldl_sb | with_reducible exact Keeps.mramOk (by assumption) (by assumption) | split | dsimp only))])
    | dsimp -zeta only)

theorem bayInService_keeps (b : Nat) (s : State) : Keeps 8554283007 s (bayInService b s) := by
  unfold bayInService
  repeat' (first
    | with_reducible exact Keeps.refl _
    | with_reducible assumption
    | (with_reducible apply Keeps.step (setSaveFlag_keeps ..); on_goal 1 => decide)
    | (with_reducible apply Keeps.step (State.modBay_keeps ..); on_goal 1 => decide)
    | dsimp -zeta only)

theorem setErased_keeps (c sub rankSlot : Nat) (k : Option Nat) (s : State) : Keeps 8587837439 s (setErased c sub rankSlot k s) := by
  unfold setErased
  repeat' (first
    | with_reducible exact Keeps.refl _
    | with_reducible assumption
    | split
    | fail_if_no_progress (with_reducible apply Keeps.upd_mram <;> [skip; decide; (intros; repeat' (first | with_reducible assumption | with_reducible exact Memory.wf_nil | with_reducible apply Memory.wf_sbN | with_reducible apply Memory.wf_sbNat | with_reducible apply Memory.wf_sb | with_reducible apply Memory.wf_filter | with_reducible apply Memory.wf_writeWords | with_reducible apply Memory.wf_foldl_sb | with_reducible exact Keeps.mramOk (by assumption) (by assumption) | split | dsimp only))])
    | dsimp -zeta only)

theorem storeRepair_keeps (e : Nat) (s : State) : Keeps 8587837439 s (storeRepair e s) := by
  unfold storeRepair
  repeat' (first
    | with_reducible exact Keeps.refl _
    | with_reducible assumption
    | fail_if_no_progress (with_reducible apply Keeps.upd_mram <;> [skip; decide; (intros; repeat' (first | with_reducible assumption | with_reducible exact Memory.wf_nil | with_reducible apply Memory.wf_sbN | with_reducible apply Memory.wf_sbNat | with_reducible apply Memory.wf_sb | with_reducible apply Memory.wf_filter | with_reducible apply Memory.wf_writeWords | with_reducible apply Memory.wf_foldl_sb | with_reducible exact Keeps.mramOk (by assumption) (by assumption) | split | dsimp only))])
    | dsimp -zeta only)

end Sys2Proof.Machine
end

