-- ==== Sys2Proof/Laws/KeepsCipher.lean ====
section
/-! SUPPORT. What each function of Machine/Cipher.lean can do (see Laws/Keeps.lean). -/

set_option linter.tactic.unusedName false
set_option linter.unusedTactic false
set_option linter.unreachableTactic false

namespace Sys2Proof.Machine

theorem State.setDram_keeps (s : State) (c l : Nat) (v : BitVec 640) : Keeps 8589803519 s (State.setDram s c l v) := by
  unfold State.setDram
  repeat' (first
    | with_reducible exact Keeps.refl _
    | with_reducible assumption
    | fail_if_no_progress (with_reducible apply Keeps.upd_dram <;> [skip; decide])
    | dsimp -zeta only)

end Sys2Proof.Machine
end

