-- ==== Sys2Proof/Laws/KeepsQueues.lean ====
section
/-! SUPPORT. What each function of Machine/Queues.lean can do (see Laws/Keeps.lean). -/

set_option linter.tactic.unusedName false
set_option linter.unusedTactic false
set_option linter.unreachableTactic false

namespace Sys2Proof.Machine

theorem exitNow_keeps (c : Nat) (s : State) : Keeps 8053063663 s (exitNow c s) := by
  unfold exitNow
  repeat' (first
    | with_reducible exact Keeps.refl _
    | with_reducible assumption
    | (with_reducible apply Keeps.step (State.setObj_keeps ..); on_goal 1 => decide)
    | (with_reducible apply Keeps.step (State.addObj_keeps ..); on_goal 1 => decide)
    | (with_reducible apply Keeps.step (State.modChan_keeps ..); on_goal 1 => decide)
    | with_reducible apply Keeps.ite
    | (extract_lets +onlyGivenNames x; with_reducible apply Keeps.cut (x := by apply x) <;> [(unfold x; clear x); (clear_value x; intro _; revert x; intros)])
    | (extract_lets +onlyGivenNames x; clear_value x; revert x; intros)
    | dsimp -zeta only)

theorem enqueueB_keeps (c k : Nat) (e : Entry) (s : State) : Keeps 8589934575 s (enqueueB c k e s) := by
  unfold enqueueB
  repeat' (first
    | with_reducible exact Keeps.refl _
    | with_reducible assumption
    | (with_reducible apply Keeps.step (State.modChan_keeps ..); on_goal 1 => decide)
    | (extract_lets +onlyGivenNames x; with_reducible apply Keeps.cut (x := by apply x) <;> [(unfold x; clear x); (clear_value x; intro _; revert x; intros)])
    | (extract_lets +onlyGivenNames x; clear_value x; revert x; intros)
    | dsimp -zeta only)

theorem enqueueGWb_keeps (c : Nat) (e : Entry) (s : State) : Keeps 8589934575 s (enqueueGWb c e s) := by
  unfold enqueueGWb
  repeat' (first
    | with_reducible exact Keeps.refl _
    | with_reducible assumption
    | (with_reducible apply Keeps.step (State.modChan_keeps ..); on_goal 1 => decide)
    | (extract_lets +onlyGivenNames x; with_reducible apply Keeps.cut (x := by apply x) <;> [(unfold x; clear x); (clear_value x; intro _; revert x; intros)])
    | (extract_lets +onlyGivenNames x; clear_value x; revert x; intros)
    | dsimp -zeta only)

theorem enqueue_keeps (c : Nat) (cls : Cls) (e : Entry) (s : State) : Keeps 8589934575 s (enqueue c cls e s) := by
  unfold enqueue
  repeat' (first
    | with_reducible exact Keeps.refl _
    | with_reducible assumption
    | (with_reducible apply Keeps.step (enqueueB_keeps ..); on_goal 1 => decide)
    | (with_reducible apply Keeps.step (enqueueGWb_keeps ..); on_goal 1 => decide)
    | (with_reducible apply Keeps.step (State.modChan_keeps ..); on_goal 1 => decide)
    | with_reducible apply Keeps.ite
    | split
    | dsimp -zeta only)

theorem enqueueMetaRead_keeps (c : Nat) (cls : Cls) (e : Entry) (s : State) : Keeps 8053063663 s (enqueueMetaRead c cls e s) := by
  unfold enqueueMetaRead
  repeat' (first
    | with_reducible exact Keeps.refl _
    | with_reducible assumption
    | (with_reducible apply Keeps.step (enqueueB_keeps ..); on_goal 1 => decide)
    | (with_reducible apply Keeps.step (enqueue_keeps ..); on_goal 1 => decide)
    | (with_reducible apply Keeps.step (State.addObj_keeps ..); on_goal 1 => decide)
    | (with_reducible apply Keeps.step (State.modChan_keeps ..); on_goal 1 => decide)
    | with_reducible apply Keeps.ite
    | (extract_lets +onlyGivenNames x; with_reducible apply Keeps.cut (x := by apply x) <;> [(unfold x; clear x); (clear_value x; intro _; revert x; intros)])
    | (extract_lets +onlyGivenNames x; clear_value x; revert x; intros)
    | dsimp -zeta only)

theorem enqueueMetaWrite_keeps (c l port : Nat) (s : State) : Keeps 8589934575 s (enqueueMetaWrite c l port s) := by
  unfold enqueueMetaWrite
  repeat' (first
    | with_reducible exact Keeps.refl _
    | with_reducible assumption
    | (with_reducible apply Keeps.step (enqueueB_keeps ..); on_goal 1 => decide)
    | (with_reducible apply Keeps.step (State.modChan_keeps ..); on_goal 1 => decide)
    | with_reducible apply Keeps.ite
    | (extract_lets +onlyGivenNames x; with_reducible apply Keeps.cut (x := by apply x) <;> [(unfold x; clear x); (clear_value x; intro _; revert x; intros)])
    | (extract_lets +onlyGivenNames x; clear_value x; revert x; intros)
    | dsimp -zeta only)

theorem claim_keeps (sub holder : Nat) (s : State) : Keeps 3688890367 s (claim sub holder s).1 := by
  unfold claim
  repeat' (first
    | with_reducible exact Keeps.refl _
    | with_reducible assumption
    | (with_reducible apply Keeps.step (State.setObj_keeps ..); on_goal 1 => decide)
    | (with_reducible apply Keeps.step (State.addObj_keeps ..); on_goal 1 => decide)
    | (with_reducible apply Keeps.step (State.raise_keeps ..); on_goal 1 => decide)
    | with_reducible apply Keeps.ite
    | with_reducible apply Keeps.ite_fst
    | dsimp -zeta only)

theorem releaseOwn_keeps (sub holder : Nat) (s : State) : Keeps 8053063679 s (releaseOwn sub holder s) := by
  unfold releaseOwn
  repeat' (first
    | with_reducible exact Keeps.refl _
    | with_reducible assumption
    | (with_reducible apply Keeps.step (State.setObj_keeps ..); on_goal 1 => decide)
    | with_reducible apply Keeps.ite
    | dsimp -zeta only)

theorem aesBlocks_keeps (c n : Nat) (s : State) : Keeps 8053063663 s (aesBlocks c n s) := by
  unfold aesBlocks
  repeat' (first
    | with_reducible exact Keeps.refl _
    | with_reducible assumption
    | (with_reducible apply Keeps.step (countChan_keeps ..); on_goal 1 => decide)
    | (with_reducible apply Keeps.step (State.modChan_keeps ..); on_goal 1 => decide)
    | dsimp -zeta only)

theorem setCtx_keeps (c k v : Nat) (s : State) : Keeps 8053063679 s (setCtx c k v s) := by
  unfold setCtx
  repeat' (first
    | with_reducible exact Keeps.refl _
    | with_reducible assumption
    | (with_reducible apply Keeps.step (State.setObj_keeps ..); on_goal 1 => decide)
    | dsimp -zeta only)

theorem addProgress_keeps (c k n : Nat) (s : State) : Keeps 8053063679 s (addProgress c k n s) := by
  unfold addProgress
  repeat' (first
    | with_reducible exact Keeps.refl _
    | with_reducible assumption
    | (with_reducible apply Keeps.step (State.setObj_keeps ..); on_goal 1 => decide)
    | dsimp -zeta only)

theorem releaseScrub_keeps (s : State) : Keeps 8053063679 s (releaseScrub s) := by
  unfold releaseScrub
  repeat' (first
    | with_reducible exact Keeps.refl _
    | with_reducible assumption
    | (with_reducible apply Keeps.step (releaseOwn_keeps ..); on_goal 1 => decide)
    | with_reducible apply Keeps.ite
    | dsimp -zeta only)

theorem abortCtx_keeps (c k : Nat) (s : State) : Keeps 8053063663 s (abortCtx c k s) := by
  unfold abortCtx
  repeat' (first
    | with_reducible exact Keeps.refl _
    | with_reducible assumption
    | (with_reducible apply Keeps.step (setCtx_keeps ..); on_goal 1 => decide)
    | (with_reducible apply Keeps.step (releaseScrub_keeps ..); on_goal 1 => decide)
    | (with_reducible apply Keeps.step (State.setObj_keeps ..); on_goal 1 => decide)
    | (with_reducible apply Keeps.step (State.setChan_keeps ..); on_goal 1 => decide)
    | with_reducible apply Keeps.ite
    | (extract_lets +onlyGivenNames x; with_reducible apply Keeps.cut (x := by apply x) <;> [(unfold x; clear x); (clear_value x; intro _; revert x; intros)])
    | (extract_lets +onlyGivenNames x; clear_value x; revert x; intros)
    | split
    | dsimp -zeta only)

theorem abortBursts_keeps (c : Nat) (s : State) : Keeps 8053063663 s (abortBursts c s) := by
  unfold abortBursts
  repeat' (first
    | with_reducible exact Keeps.refl _
    | with_reducible assumption
    | (with_reducible apply Keeps.step (abortCtx_keeps ..); on_goal 1 => decide)
    | (with_reducible apply Keeps.forN <;> [skip; intro _ _ _])
    | dsimp -zeta only)

theorem loseOthers_keeps (c k : Nat) (s : State) : Keeps 3672113151 s (loseOthers c k s) := by
  unfold loseOthers
  repeat' (first
    | with_reducible exact Keeps.refl _
    | with_reducible assumption
    | (with_reducible apply Keeps.step (setCtx_keeps ..); on_goal 1 => decide)
    | (with_reducible apply Keeps.step (waits_keeps ..); on_goal 1 => decide)
    | (with_reducible apply Keeps.step (State.addObj_keeps ..); on_goal 1 => decide)
    | with_reducible apply Keeps.ite
    | (with_reducible apply Keeps.forN <;> [skip; intro _ _ _])
    | (extract_lets +onlyGivenNames x; with_reducible apply Keeps.cut (x := by apply x) <;> [(unfold x; clear x); (clear_value x; intro _; revert x; intros)])
    | (extract_lets +onlyGivenNames x; clear_value x; revert x; intros)
    | dsimp -zeta only)

theorem runCtx_keeps (c k total : Nat) (s : State) : Keeps 8053063679 s (runCtx c k total s) := by
  unfold runCtx
  repeat' (first
    | with_reducible exact Keeps.refl _
    | with_reducible assumption
    | (with_reducible apply Keeps.step (setCtx_keeps ..); on_goal 1 => decide)
    | (with_reducible apply Keeps.step (State.setObj_keeps ..); on_goal 1 => decide)
    | dsimp -zeta only)

theorem endCtx_keeps (c k : Nat) (s : State) : Keeps 8053063679 s (endCtx c k s) := by
  unfold endCtx
  repeat' (first
    | with_reducible exact Keeps.refl _
    | with_reducible assumption
    | (with_reducible apply Keeps.step (setCtx_keeps ..); on_goal 1 => decide)
    | (with_reducible apply Keeps.step (State.setObj_keeps ..); on_goal 1 => decide)
    | dsimp -zeta only)

end Sys2Proof.Machine
end

