-- ==== Sys2Proof/Laws/KeepsErrors.lean ====
section
/-! SUPPORT. What each function of Machine/Errors.lean can do (see Laws/Keeps.lean). -/

set_option linter.tactic.unusedName false
set_option linter.unusedTactic false
set_option linter.unreachableTactic false

namespace Sys2Proof.Machine

theorem injectFired_keeps (s : State) : Keeps 7784628223 s (injectFired s) := by
  unfold injectFired
  repeat' (first
    | with_reducible exact Keeps.refl _
    | with_reducible assumption
    | (with_reducible apply Keeps.step (releaseOwn_keeps ..); on_goal 1 => decide)
    | (with_reducible apply Keeps.step (State.setObj_keeps ..); on_goal 1 => decide)
    | (with_reducible apply Keeps.step (State.addObj_keeps ..); on_goal 1 => decide)
    | with_reducible apply Keeps.ite
    | (extract_lets +onlyGivenNames x; with_reducible apply Keeps.cut (x := by apply x) <;> [(unfold x; clear x); (clear_value x; intro _; revert x; intros)])
    | (extract_lets +onlyGivenNames x; clear_value x; revert x; intros)
    | split
    | fail_if_no_progress (with_reducible apply Keeps.upd_blk <;> [skip; decide])
    | dsimp -zeta only)

theorem writeDram_keeps (c l : Nat) (v : BitVec 640) (s : State) : Keeps 7784497135 s (writeDram c l v s) := by
  unfold writeDram
  repeat' (first
    | with_reducible exact Keeps.refl _
    | with_reducible assumption
    | (with_reducible apply Keeps.step (injectFired_keeps ..); on_goal 1 => decide)
    | (with_reducible apply Keeps.step (State.modChan_keeps ..); on_goal 1 => decide)
    | (with_reducible apply Keeps.step (State.setDram_keeps ..); on_goal 1 => decide)
    | with_reducible apply Keeps.ite
    | (extract_lets +onlyGivenNames x; with_reducible apply Keeps.cut (x := by apply x) <;> [(unfold x; clear x); (clear_value x; intro _; revert x; intros)])
    | (extract_lets +onlyGivenNames x; clear_value x; revert x; intros)
    | dsimp -zeta only)

theorem eraseDevice_keeps (c sub rankSlot k : Nat) (s : State) : Keeps 3688890367 s (eraseDevice c sub rankSlot k s) := by
  unfold eraseDevice
  repeat' (first
    | with_reducible exact Keeps.refl _
    | with_reducible assumption
    | (with_reducible apply Keeps.step (setErased_keeps ..); on_goal 1 => decide)
    | (with_reducible apply Keeps.step (State.raiseChan_keeps ..); on_goal 1 => decide)
    | dsimp -zeta only)

theorem countDevice_keeps (c sub rankSlot dev : Nat) (s : State) : Keeps 3688890351 s (countDevice c sub rankSlot dev s) := by
  unfold countDevice
  repeat' (first
    | with_reducible exact Keeps.refl _
    | with_reducible assumption
    | (with_reducible apply Keeps.step (eraseDevice_keeps ..); on_goal 1 => decide)
    | (with_reducible apply Keeps.step (State.setChan_keeps ..); on_goal 1 => decide)
    | (with_reducible apply Keeps.step (State.modChan_keeps ..); on_goal 1 => decide)
    | (with_reducible apply Keeps.step (State.raiseChan_keeps ..); on_goal 1 => decide)
    | with_reducible apply Keeps.ite
    | (extract_lets +onlyGivenNames x; with_reducible apply Keeps.cut (x := by apply x) <;> [(unfold x; clear x); (clear_value x; intro _; revert x; intros)])
    | (extract_lets +onlyGivenNames x; clear_value x; revert x; intros)
    | split
    | dsimp -zeta only)

theorem queueRewrite_keeps (c l : Nat) (v : BitVec 640) (s : State) : Keeps 8053063663 s (queueRewrite c l v s) := by
  unfold queueRewrite
  repeat' (first
    | with_reducible exact Keeps.refl _
    | with_reducible assumption
    | (with_reducible apply Keeps.step (State.addObj_keeps ..); on_goal 1 => decide)
    | (with_reducible apply Keeps.step (State.setChan_keeps ..); on_goal 1 => decide)
    | with_reducible apply Keeps.ite
    | (extract_lets +onlyGivenNames x; with_reducible apply Keeps.cut (x := by apply x) <;> [(unfold x; clear x); (clear_value x; intro _; revert x; intros)])
    | (extract_lets +onlyGivenNames x; clear_value x; revert x; intros)
    | dsimp -zeta only)

theorem readDram_keeps (c l : Nat) (raw : Bool) (s : State) : Keeps 3688890351 s (readDram c l raw s).1 := by
  unfold readDram
  repeat' (first
    | with_reducible exact Keeps.refl _
    | with_reducible assumption
    | (with_reducible apply Keeps.step (countChan_keeps ..); on_goal 1 => decide)
    | (with_reducible apply Keeps.step (countDevice_keeps ..); on_goal 1 => decide)
    | (with_reducible apply Keeps.step (queueRewrite_keeps ..); on_goal 1 => decide)
    | (with_reducible apply Keeps.step (State.addObj_keeps ..); on_goal 1 => decide)
    | (with_reducible apply Keeps.step (State.raiseChan_keeps ..); on_goal 1 => decide)
    | with_reducible apply Keeps.ite
    | with_reducible apply Keeps.ite_fst
    | (extract_lets +onlyGivenNames x; with_reducible apply Keeps.cut (x := by apply x) <;> [(unfold x; clear x); (clear_value x; intro _; revert x; intros)])
    | (extract_lets +onlyGivenNames x; with_reducible apply Keeps.cut (x := by apply x.1) <;> [(unfold x; clear x); (clear_value x; intro _; revert x; intros)])
    | (extract_lets +onlyGivenNames x; clear_value x; revert x; intros)
    | split
    | dsimp -zeta only)

theorem noteCmd_keeps (c : Nat) (h : HistCmd) (s : State) : Keeps 8589934575 s (noteCmd c h s) := by
  unfold noteCmd
  repeat' (first
    | with_reducible exact Keeps.refl _
    | with_reducible assumption
    | (with_reducible apply Keeps.step (State.modChan_keeps ..); on_goal 1 => decide)
    | dsimp -zeta only)

theorem setCapture_keeps (i : Nat) (bs : List Byte) (s : State) : Keeps 7516192767 s (setCapture i bs s) := by
  unfold setCapture
  repeat' (first
    | with_reducible exact Keeps.refl _
    | with_reducible assumption
    | fail_if_no_progress (with_reducible apply Keeps.upd_recs <;> [skip; decide; (intros; repeat' (first | with_reducible assumption | with_reducible exact Memory.wf_nil | with_reducible apply Memory.wf_sbN | with_reducible apply Memory.wf_sbNat | with_reducible apply Memory.wf_sb | with_reducible apply Memory.wf_filter | with_reducible apply Memory.wf_writeWords | with_reducible apply Memory.wf_foldl_sb | with_reducible exact Keeps.mramOk (by assumption) (by assumption) | split | dsimp only))])
    | dsimp -zeta only)

theorem reclaimCapture_keeps (s : State) : Keeps 8053063679 s (reclaimCapture s) := by
  unfold reclaimCapture
  repeat' (first
    | with_reducible exact Keeps.refl _
    | with_reducible assumption
    | (with_reducible apply Keeps.step (State.setObj_keeps ..); on_goal 1 => decide)
    | with_reducible apply Keeps.ite
    | dsimp -zeta only)

theorem helperRelease_keeps (op : Nat) (s : State) : Keeps 8053063679 s (helperRelease op s) := by
  unfold helperRelease
  repeat' (first
    | with_reducible exact Keeps.refl _
    | with_reducible assumption
    | (with_reducible apply Keeps.step (releaseOwn_keeps ..); on_goal 1 => decide)
    | (with_reducible apply Keeps.step (reclaimCapture_keeps ..); on_goal 1 => decide)
    | with_reducible apply Keeps.ite
    | (extract_lets +onlyGivenNames x; with_reducible apply Keeps.cut (x := by apply x) <;> [(unfold x; clear x); (clear_value x; intro _; revert x; intros)])
    | (extract_lets +onlyGivenNames x; clear_value x; revert x; intros)
    | dsimp -zeta only)

theorem takeDump_keeps (c : Nat) (bits' : Option (BitVec 640)) (stamp : Stamp) (s : State) : Keeps 2615148543 s (takeDump c bits' stamp s) := by
  unfold takeDump
  repeat' (first
    | with_reducible exact Keeps.refl _
    | with_reducible assumption
    | (with_reducible apply Keeps.step (setCapture_keeps ..); on_goal 1 => decide)
    | (with_reducible apply Keeps.step (State.setObj_keeps ..); on_goal 1 => decide)
    | (with_reducible apply Keeps.step (State.addObj_keeps ..); on_goal 1 => decide)
    | (with_reducible apply Keeps.step (State.raise_keeps ..); on_goal 1 => decide)
    | with_reducible apply Keeps.ite
    | with_reducible apply Keeps.ite_fst
    | (with_reducible apply Keeps.foldl <;> [skip; intro _ _ _])
    | (with_reducible apply Keeps.foldl_fst <;> [skip; intro _ _ _])
    | (extract_lets +onlyGivenNames x; with_reducible apply Keeps.cut (x := by apply x) <;> [(unfold x; clear x); (clear_value x; intro _; revert x; intros)])
    | (extract_lets +onlyGivenNames x; with_reducible apply Keeps.cut (x := by apply x.1) <;> [(unfold x; clear x); (clear_value x; intro _; revert x; intros)])
    | (extract_lets +onlyGivenNames x; clear_value x; revert x; intros)
    | dsimp -zeta only)

theorem pinLines_keeps (c : Nat) (s : State) : Keeps 8589934559 s (pinLines c s) := by
  unfold pinLines
  repeat' (first
    | with_reducible exact Keeps.refl _
    | with_reducible assumption
    | with_reducible apply Keeps.ite
    | with_reducible apply Keeps.ite_fst
    | split
    | fail_if_no_progress (with_reducible apply Keeps.upd_plaza <;> [skip; decide])
    | dsimp -zeta only)

theorem unpinLines_keeps (c : Nat) (s : State) : Keeps 8589934559 s (unpinLines c s) := by
  unfold unpinLines
  repeat' (first
    | with_reducible exact Keeps.refl _
    | with_reducible assumption
    | with_reducible apply Keeps.ite
    | with_reducible apply Keeps.ite_fst
    | fail_if_no_progress (with_reducible apply Keeps.upd_plaza <;> [skip; decide])
    | dsimp -zeta only)

theorem stopRead_keeps (c : Nat) (s : State) : Keeps 8053063663 s (stopRead c s) := by
  unfold stopRead
  repeat' (first
    | with_reducible exact Keeps.refl _
    | with_reducible assumption
    | (with_reducible apply Keeps.step (State.setObj_keeps ..); on_goal 1 => decide)
    | (with_reducible apply Keeps.step (State.modChan_keeps ..); on_goal 1 => decide)
    | with_reducible apply Keeps.ite
    | with_reducible apply Keeps.ite_fst
    | dsimp -zeta only)

theorem freezeChannel_keeps (c cause : Nat) (line : Option Nat) (bits' : Option (BitVec 640)) (port : Nat) (s : State) : Keeps 2614886351 s (freezeChannel c cause line bits' port s) := by
  unfold freezeChannel
  repeat' (first
    | with_reducible exact Keeps.refl _
    | with_reducible assumption
    | (with_reducible apply Keeps.step (setChanState_keeps ..); on_goal 1 => decide)
    | (with_reducible apply Keeps.step (abortBursts_keeps ..); on_goal 1 => decide)
    | (with_reducible apply Keeps.step (takeDump_keeps ..); on_goal 1 => decide)
    | (with_reducible apply Keeps.step (pinLines_keeps ..); on_goal 1 => decide)
    | (with_reducible apply Keeps.step (stopRead_keeps ..); on_goal 1 => decide)
    | (with_reducible apply Keeps.step (State.setObj_keeps ..); on_goal 1 => decide)
    | (with_reducible apply Keeps.step (State.setRec_keeps ..); on_goal 1 => decide)
    | (with_reducible apply Keeps.step (State.setChan_keeps ..); on_goal 1 => decide)
    | (with_reducible apply Keeps.step (State.raiseChan_keeps ..); on_goal 1 => decide)
    | with_reducible apply Keeps.ite
    | with_reducible apply Keeps.ite_fst
    | (extract_lets +onlyGivenNames x; with_reducible apply Keeps.cut (x := by apply x) <;> [(unfold x; clear x); (clear_value x; intro _; revert x; intros)])
    | (extract_lets +onlyGivenNames x; with_reducible apply Keeps.cut (x := by apply x.1) <;> [(unfold x; clear x); (clear_value x; intro _; revert x; intros)])
    | (extract_lets +onlyGivenNames x; clear_value x; revert x; intros)
    | split
    | dsimp -zeta only)

end Sys2Proof.Machine
end

