-- ==== Sys2Proof/Laws/KeepsLedger.lean ====
section
/-! SUPPORT. What each function of Machine/Ledger.lean can do (see Laws/Keeps.lean). -/

set_option linter.tactic.unusedName false
set_option linter.unusedTactic false
set_option linter.unreachableTactic false

namespace Sys2Proof.Machine

theorem touchLedger_keeps (c l w : Nat) (s : State) : Keeps 8589930495 s (touchLedger c l w s) := by
  unfold touchLedger
  repeat' (first
    | with_reducible exact Keeps.refl _
    | with_reducible assumption
    | fail_if_no_progress (with_reducible apply Keeps.upd_ledgerLru <;> [skip; decide])
    | dsimp -zeta only)

theorem placeLedger_keeps (port c l w : Nat) (data : BitVec 512) (dirty : Bool) (s : State) : Keeps 8589928447 s (placeLedger port c l w data dirty s) := by
  unfold placeLedger
  repeat' (first
    | with_reducible exact Keeps.refl _
    | with_reducible assumption
    | (with_reducible apply Keeps.step (touchLedger_keeps ..); on_goal 1 => decide)
    | (extract_lets +onlyGivenNames x; with_reducible apply Keeps.cut (x := by apply x) <;> [(unfold x; clear x); (clear_value x; intro _; revert x; intros)])
    | (extract_lets +onlyGivenNames x; clear_value x; revert x; intros)
    | fail_if_no_progress (with_reducible apply Keeps.upd_ledger <;> [skip; decide])
    | dsimp -zeta only)

theorem updateLedger_keeps (port c l : Nat) (data : BitVec 512) (s : State) : Keeps 8589928447 s (updateLedger port c l data s) := by
  unfold updateLedger
  repeat' (first
    | with_reducible exact Keeps.refl _
    | with_reducible assumption
    | (with_reducible apply Keeps.step (touchLedger_keeps ..); on_goal 1 => decide)
    | with_reducible apply Keeps.ite
    | (extract_lets +onlyGivenNames x; with_reducible apply Keeps.cut (x := by apply x) <;> [(unfold x; clear x); (clear_value x; intro _; revert x; intros)])
    | (extract_lets +onlyGivenNames x; clear_value x; revert x; intros)
    | split
    | fail_if_no_progress (with_reducible apply Keeps.upd_ledger <;> [skip; decide])
    | dsimp -zeta only)

theorem raiseCeiling_keeps (d v : Nat) (s : State) : Keeps 8049655807 s (raiseCeiling d v s) := by
  unfold raiseCeiling
  repeat' (first
    | with_reducible exact Keeps.refl _
    | with_reducible assumption
    | (with_reducible apply Keeps.step (writeVault_keeps ..); on_goal 1 => decide)
    | (with_reducible apply Keeps.step (State.setObj_keeps ..); on_goal 1 => decide)
    | (with_reducible apply Keeps.step (State.modDist_keeps ..); on_goal 1 => decide)
    | with_reducible apply Keeps.ite
    | (extract_lets +onlyGivenNames x; with_reducible apply Keeps.cut (x := by apply x) <;> [(unfold x; clear x); (clear_value x; intro _; revert x; intros)])
    | (extract_lets +onlyGivenNames x; clear_value x; revert x; intros)
    | fail_if_no_progress (with_reducible apply Keeps.upd_vault <;> [skip; decide])
    | dsimp -zeta only)

theorem readCopies_keeps (d j idx : Nat) (s : State) : Keeps 3688890351 s (readCopies d j idx s).1 := by
  unfold readCopies
  repeat' (first
    | with_reducible exact Keeps.refl _
    | with_reducible assumption
    | (with_reducible apply Keeps.step (queueRewrite_keeps ..); on_goal 1 => decide)
    | (with_reducible apply Keeps.step (readDram_keeps ..); on_goal 1 => decide)
    | (with_reducible apply Keeps.step (State.addObj_keeps ..); on_goal 1 => decide)
    | (with_reducible apply Keeps.step (State.raise_keeps ..); on_goal 1 => decide)
    | with_reducible apply Keeps.ite
    | with_reducible apply Keeps.ite_fst
    | (with_reducible apply Keeps.foldl <;> [skip; intro _ _ _])
    | (with_reducible apply Keeps.foldl_fst <;> [skip; intro _ _ _])
    | (extract_lets +onlyGivenNames x; with_reducible apply Keeps.cut (x := by apply x) <;> [(unfold x; clear x); (clear_value x; intro _; revert x; intros)])
    | (extract_lets +onlyGivenNames x; with_reducible apply Keeps.cut (x := by apply x.1) <;> [(unfold x; clear x); (clear_value x; intro _; revert x; intros)])
    | (extract_lets +onlyGivenNames x; unfold x; clear x)
    | split
    | dsimp -zeta only)

theorem readSingle_keeps (x : Desc) (a : Nat) (s : State) : Keeps 3688890351 s (readSingle x a s).1 := by
  unfold readSingle
  repeat' (first
    | with_reducible exact Keeps.refl _
    | with_reducible assumption
    | (with_reducible apply Keeps.step (readDram_keeps ..); on_goal 1 => decide)
    | (extract_lets +onlyGivenNames x; with_reducible apply Keeps.cut (x := by apply x) <;> [(unfold x; clear x); (clear_value x; intro _; revert x; intros)])
    | (extract_lets +onlyGivenNames x; with_reducible apply Keeps.cut (x := by apply x.1) <;> [(unfold x; clear x); (clear_value x; intro _; revert x; intros)])
    | (extract_lets +onlyGivenNames x; clear_value x; revert x; intros)
    | dsimp -zeta only)

theorem countMetaRead_keeps (c l : Nat) (s : State) : Keeps 8053063679 s (countMetaRead c l s) := by
  unfold countMetaRead
  repeat' (first
    | with_reducible exact Keeps.refl _
    | with_reducible assumption
    | (with_reducible apply Keeps.step (countChan_keeps ..); on_goal 1 => decide)
    | (with_reducible apply Keeps.step (State.addObj_keeps ..); on_goal 1 => decide)
    | dsimp -zeta only)

theorem countNodeRead_keeps (d j idx : Nat) (s : State) : Keeps 8053063679 s (countNodeRead d j idx s) := by
  unfold countNodeRead
  repeat' (first
    | with_reducible exact Keeps.refl _
    | with_reducible assumption
    | (with_reducible apply Keeps.step (countMetaRead_keeps ..); on_goal 1 => decide)
    | (with_reducible apply Keeps.forN_fst <;> [skip; intro _ _ _])
    | (with_reducible apply Keeps.forN <;> [skip; intro _ _ _])
    | (extract_lets +onlyGivenNames x; with_reducible apply Keeps.cut (x := by apply x) <;> [(unfold x; clear x); (clear_value x; intro _; revert x; intros)])
    | (extract_lets +onlyGivenNames x; with_reducible apply Keeps.cut (x := by apply x.1) <;> [(unfold x; clear x); (clear_value x; intro _; revert x; intros)])
    | (extract_lets +onlyGivenNames x; clear_value x; revert x; intros)
    | dsimp -zeta only)

theorem queueNodeWrites_keeps (port d j idx from_ : Nat) (s : State) : Keeps 8589934575 s (queueNodeWrites port d j idx from_ s) := by
  unfold queueNodeWrites
  repeat' (first
    | with_reducible exact Keeps.refl _
    | with_reducible assumption
    | (with_reducible apply Keeps.step (enqueueMetaWrite_keeps ..); on_goal 1 => decide)
    | with_reducible apply Keeps.ite
    | with_reducible apply Keeps.ite_fst
    | (with_reducible apply Keeps.forN_fst <;> [skip; intro _ _ _])
    | (with_reducible apply Keeps.forN <;> [skip; intro _ _ _])
    | (extract_lets +onlyGivenNames x; with_reducible apply Keeps.cut (x := by apply x) <;> [(unfold x; clear x); (clear_value x; intro _; revert x; intros)])
    | (extract_lets +onlyGivenNames x; with_reducible apply Keeps.cut (x := by apply x.1) <;> [(unfold x; clear x); (clear_value x; intro _; revert x; intros)])
    | (extract_lets +onlyGivenNames x; clear_value x; revert x; intros)
    | dsimp -zeta only)

theorem storeNode_keeps (d j idx : Nat) (parent : Ctr) (n : BitVec 512) (s : State) : Keeps 7784497135 s (storeNode d j idx parent n s).1 := by
  unfold storeNode
  repeat' (first
    | with_reducible exact Keeps.refl _
    | with_reducible assumption
    | (with_reducible apply Keeps.step (countChan_keeps ..); on_goal 1 => decide)
    | (with_reducible apply Keeps.step (writeDram_keeps ..); on_goal 1 => decide)
    | with_reducible apply Keeps.ite
    | with_reducible apply Keeps.ite_fst
    | (with_reducible apply Keeps.foldl <;> [skip; intro _ _ _])
    | (with_reducible apply Keeps.foldl_fst <;> [skip; intro _ _ _])
    | (extract_lets +onlyGivenNames x; with_reducible apply Keeps.cut (x := by apply x) <;> [(unfold x; clear x); (clear_value x; intro _; revert x; intros)])
    | (extract_lets +onlyGivenNames x; with_reducible apply Keeps.cut (x := by apply x.1) <;> [(unfold x; clear x); (clear_value x; intro _; revert x; intros)])
    | (extract_lets +onlyGivenNames x; clear_value x; revert x; intros)
    | dsimp -zeta only)

theorem noteLoss_keeps (d : Option Nat) (r : LRes) (s : State) : Keeps 8589926399 s (noteLoss d r s) := by
  unfold noteLoss
  repeat' (first
    | with_reducible exact Keeps.refl _
    | with_reducible assumption
    | split
    | fail_if_no_progress (with_reducible apply Keeps.upd_found <;> [skip; decide])
    | dsimp -zeta only)

theorem ledgerAlloc_keeps (again : LRec) (port c l : Nat) (v : BitVec 512) (dirty : Bool) (s : State) (ha : ∀ r u, Keeps 3418982383 u (again r u).1) : Keeps 3418982383 s (ledgerAlloc again port c l v dirty s) := by
  unfold ledgerAlloc
  repeat' (first
    | with_reducible exact Keeps.refl _
    | with_reducible assumption
    | (with_reducible apply Keeps.step (placeLedger_keeps ..); on_goal 1 => decide)
    | (with_reducible apply Keeps.step (noteLoss_keeps ..); on_goal 1 => decide)
    | (with_reducible apply Keeps.step (ha _ _); on_goal 1 => decide)
    | with_reducible apply Keeps.ite
    | with_reducible apply Keeps.ite_fst
    | (extract_lets +onlyGivenNames x; with_reducible apply Keeps.cut (x := by apply x) <;> [(unfold x; clear x); (clear_value x; intro _; revert x; intros)])
    | (extract_lets +onlyGivenNames x; with_reducible apply Keeps.cut (x := by apply x.1) <;> [(unfold x; clear x); (clear_value x; intro _; revert x; intros)])
    | (extract_lets +onlyGivenNames x; unfold x; clear x)
    | split
    | fail_if_no_progress (with_reducible apply Keeps.upd_ledger <;> [skip; decide])
    | dsimp -zeta only)

theorem putLedger_keeps (again : LRec) (port c l : Nat) (data : BitVec 512) (s : State) (ha : ∀ r u, Keeps 3418982383 u (again r u).1) : Keeps 3418982383 s (putLedger again port c l data s) := by
  unfold putLedger
  repeat' (first
    | with_reducible exact Keeps.refl _
    | with_reducible assumption
    | (with_reducible apply Keeps.step (updateLedger_keeps ..); on_goal 1 => decide)
    | (with_reducible apply Keeps.step (ledgerAlloc_keeps (ha := ha) ..); on_goal 1 => decide)
    | (with_reducible apply Keeps.step (ha _ _); on_goal 1 => decide)
    | with_reducible apply Keeps.ite
    | dsimp -zeta only)

theorem renewNode_keeps (d j idx : Nat) (parent : Ctr) (n : BitVec 512) (s : State) : Keeps 7784478703 s (renewNode d j idx parent n s) := by
  unfold renewNode
  repeat' (first
    | with_reducible exact Keeps.refl _
    | with_reducible assumption
    | (with_reducible apply Keeps.step (storeNode_keeps ..); on_goal 1 => decide)
    | with_reducible apply Keeps.ite
    | with_reducible apply Keeps.ite_fst
    | (extract_lets +onlyGivenNames x; with_reducible apply Keeps.cut (x := by apply x) <;> [(unfold x; clear x); (clear_value x; intro _; revert x; intros)])
    | (extract_lets +onlyGivenNames x; with_reducible apply Keeps.cut (x := by apply x.1) <;> [(unfold x; clear x); (clear_value x; intro _; revert x; intros)])
    | (extract_lets +onlyGivenNames x; clear_value x; revert x; intros)
    | split
    | fail_if_no_progress (with_reducible apply Keeps.upd_ledger <;> [skip; decide])
    | fail_if_no_progress (with_reducible apply Keeps.upd_pinned <;> [skip; decide])
    | dsimp -zeta only)

theorem renewChildren_keeps (again : LRec) (d j base count skip : Nat) (ctr : Nat → Ctr) (s : State) (ha : ∀ r u, Keeps 3418982383 u (again r u).1) : Keeps 3418982383 s (renewChildren again d j base count skip ctr s).1 := by
  unfold renewChildren
  repeat' (first
    | with_reducible exact Keeps.refl _
    | with_reducible assumption
    | (with_reducible apply Keeps.step (renewNode_keeps ..); on_goal 1 => decide)
    | (with_reducible apply Keeps.step (ha _ _); on_goal 1 => decide)
    | with_reducible apply Keeps.ite
    | with_reducible apply Keeps.ite_fst
    | (with_reducible apply Keeps.foldl <;> [skip; intro _ _ _])
    | (with_reducible apply Keeps.foldl_fst <;> [skip; intro _ _ _])
    | (extract_lets +onlyGivenNames x; with_reducible apply Keeps.cut (x := by apply x) <;> [(unfold x; clear x); (clear_value x; intro _; revert x; intros)])
    | (extract_lets +onlyGivenNames x; with_reducible apply Keeps.cut (x := by apply x.1) <;> [(unfold x; clear x); (clear_value x; intro _; revert x; intros)])
    | (extract_lets +onlyGivenNames x; clear_value x; revert x; intros)
    | split
    | dsimp -zeta only)

theorem rootTouch_keeps (again : LRec) (d idx : Nat) (s : State) (ha : ∀ r u, Keeps 3418982383 u (again r u).1) : Keeps 3418982383 s (rootTouch again d idx s).1 := by
  unfold rootTouch
  repeat' (first
    | with_reducible exact Keeps.refl _
    | with_reducible assumption
    | (with_reducible apply Keeps.step (raiseCeiling_keeps ..); on_goal 1 => decide)
    | (with_reducible apply Keeps.step (renewChildren_keeps (ha := ha) ..); on_goal 1 => decide)
    | (with_reducible apply Keeps.step (State.addObj_keeps ..); on_goal 1 => decide)
    | (with_reducible apply Keeps.step (State.setDist_keeps ..); on_goal 1 => decide)
    | (with_reducible apply Keeps.step (State.modDist_keeps ..); on_goal 1 => decide)
    | (with_reducible apply Keeps.step (ha _ _); on_goal 1 => decide)
    | with_reducible apply Keeps.ite
    | with_reducible apply Keeps.ite_fst
    | (with_reducible apply Keeps.foldl <;> [skip; intro _ _ _])
    | (with_reducible apply Keeps.foldl_fst <;> [skip; intro _ _ _])
    | (extract_lets +onlyGivenNames x; with_reducible apply Keeps.cut (x := by apply x) <;> [(unfold x; clear x); (clear_value x; intro _; revert x; intros)])
    | (extract_lets +onlyGivenNames x; with_reducible apply Keeps.cut (x := by apply x.1) <;> [(unfold x; clear x); (clear_value x; intro _; revert x; intros)])
    | (extract_lets +onlyGivenNames x; clear_value x; revert x; intros)
    | dsimp -zeta only)

theorem parentTouch_keeps (again : LRec) (port d j idx : Nat) (s : State) (ha : ∀ r u, Keeps 3418982383 u (again r u).1) : Keeps 3418982383 s (parentTouch again port d j idx s).1 := by
  unfold parentTouch
  repeat' (first
    | with_reducible exact Keeps.refl _
    | with_reducible assumption
    | (with_reducible apply Keeps.step (raiseCeiling_keeps ..); on_goal 1 => decide)
    | (with_reducible apply Keeps.step (queueNodeWrites_keeps ..); on_goal 1 => decide)
    | (with_reducible apply Keeps.step (putLedger_keeps (ha := ha) ..); on_goal 1 => decide)
    | (with_reducible apply Keeps.step (renewNode_keeps ..); on_goal 1 => decide)
    | (with_reducible apply Keeps.step (renewChildren_keeps (ha := ha) ..); on_goal 1 => decide)
    | (with_reducible apply Keeps.step (rootTouch_keeps (ha := ha) ..); on_goal 1 => decide)
    | (with_reducible apply Keeps.step (State.addObj_keeps ..); on_goal 1 => decide)
    | (with_reducible apply Keeps.step (ha _ _); on_goal 1 => decide)
    | with_reducible apply Keeps.ite
    | with_reducible apply Keeps.ite_fst
    | (extract_lets +onlyGivenNames x; with_reducible apply Keeps.cut (x := by apply x) <;> [(unfold x; clear x); (clear_value x; intro _; revert x; intros)])
    | (extract_lets +onlyGivenNames x; with_reducible apply Keeps.cut (x := by apply x.1) <;> [(unfold x; clear x); (clear_value x; intro _; revert x; intros)])
    | (extract_lets +onlyGivenNames x; clear_value x; revert x; intros)
    | split
    | dsimp -zeta only)

theorem parentCtr_keeps (again : LRec) (d j idx : Nat) (s : State) (ha : ∀ r u, Keeps 3418982383 u (again r u).1) : Keeps 3418982383 s (parentCtr again d j idx s).1 := by
  unfold parentCtr
  repeat' (first
    | with_reducible exact Keeps.refl _
    | with_reducible assumption
    | (with_reducible apply Keeps.step (ha _ _); on_goal 1 => decide)
    | with_reducible apply Keeps.ite
    | with_reducible apply Keeps.ite_fst
    | (extract_lets +onlyGivenNames x; with_reducible apply Keeps.cut (x := by apply x) <;> [(unfold x; clear x); (clear_value x; intro _; revert x; intros)])
    | (extract_lets +onlyGivenNames x; with_reducible apply Keeps.cut (x := by apply x.1) <;> [(unfold x; clear x); (clear_value x; intro _; revert x; intros)])
    | (extract_lets +onlyGivenNames x; clear_value x; revert x; intros)
    | split
    | dsimp -zeta only)

theorem fetchNode_keeps (again : LRec) (keep : Bool) (d j idx : Nat) (s : State) (ha : ∀ r u, Keeps 3418982383 u (again r u).1) : Keeps 3418982383 s (fetchNode again keep d j idx s).1 := by
  unfold fetchNode
  dsimp only
  repeat' (first
    | with_reducible exact Keeps.refl _
    | with_reducible assumption
    | (with_reducible apply Keeps.step (countChan_keeps ..); on_goal 1 => decide)
    | (with_reducible apply Keeps.step (aesBlocks_keeps ..); on_goal 1 => decide)
    | (with_reducible apply Keeps.step (touchLedger_keeps ..); on_goal 1 => decide)
    | (with_reducible apply Keeps.step (readCopies_keeps ..); on_goal 1 => decide)
    | (with_reducible apply Keeps.step (readSingle_keeps ..); on_goal 1 => decide)
    | (with_reducible apply Keeps.step (countNodeRead_keeps ..); on_goal 1 => decide)
    | (with_reducible apply Keeps.step (ledgerAlloc_keeps (ha := ha) ..); on_goal 1 => decide)
    | (with_reducible apply Keeps.step (parentCtr_keeps (ha := ha) ..); on_goal 1 => decide)
    | (with_reducible apply Keeps.step (ha _ _); on_goal 1 => decide)
    | with_reducible apply Keeps.ite
    | with_reducible apply Keeps.ite_fst
    | (extract_lets +onlyGivenNames x; with_reducible apply Keeps.cut (x := by apply x) <;> [(unfold x; clear x); (clear_value x; intro _; revert x; intros)])
    | (extract_lets +onlyGivenNames x; with_reducible apply Keeps.cut (x := by apply x.1) <;> [(unfold x; clear x); (clear_value x; intro _; revert x; intros)])
    | (extract_lets +onlyGivenNames x; unfold x; clear x)
    | split
    | dsimp -zeta only)

theorem fetchMac_keeps (again : LRec) (d i : Nat) (s : State) (ha : ∀ r u, Keeps 3418982383 u (again r u).1) : Keeps 3418982383 s (fetchMac again d i s).1 := by
  unfold fetchMac
  repeat' (first
    | with_reducible exact Keeps.refl _
    | with_reducible assumption
    | (with_reducible apply Keeps.step (countChan_keeps ..); on_goal 1 => decide)
    | (with_reducible apply Keeps.step (touchLedger_keeps ..); on_goal 1 => decide)
    | (with_reducible apply Keeps.step (readSingle_keeps ..); on_goal 1 => decide)
    | (with_reducible apply Keeps.step (countMetaRead_keeps ..); on_goal 1 => decide)
    | (with_reducible apply Keeps.step (ledgerAlloc_keeps (ha := ha) ..); on_goal 1 => decide)
    | (with_reducible apply Keeps.step (ha _ _); on_goal 1 => decide)
    | (extract_lets +onlyGivenNames x; with_reducible apply Keeps.cut (x := by apply x) <;> [(unfold x; clear x); (clear_value x; intro _; revert x; intros)])
    | (extract_lets +onlyGivenNames x; with_reducible apply Keeps.cut (x := by apply x.1) <;> [(unfold x; clear x); (clear_value x; intro _; revert x; intros)])
    | (extract_lets +onlyGivenNames x; clear_value x; revert x; intros)
    | split
    | dsimp -zeta only)

theorem flushNode_keeps (again : LRec) (own c l d j idx : Nat) (ln : LLine) (s : State) (ha : ∀ r u, Keeps 3418982383 u (again r u).1) : Keeps 3418982383 s (flushNode again own c l d j idx ln s).1 := by
  unfold flushNode
  repeat' (first
    | with_reducible exact Keeps.refl _
    | with_reducible assumption
    | (with_reducible apply Keeps.step (queueNodeWrites_keeps ..); on_goal 1 => decide)
    | (with_reducible apply Keeps.step (storeNode_keeps ..); on_goal 1 => decide)
    | (with_reducible apply Keeps.step (ha _ _); on_goal 1 => decide)
    | (extract_lets +onlyGivenNames x; with_reducible apply Keeps.cut (x := by apply x) <;> [(unfold x; clear x); (clear_value x; intro _; revert x; intros)])
    | (extract_lets +onlyGivenNames x; with_reducible apply Keeps.cut (x := by apply x.1) <;> [(unfold x; clear x); (clear_value x; intro _; revert x; intros)])
    | (extract_lets +onlyGivenNames x; clear_value x; revert x; intros)
    | split
    | fail_if_no_progress (with_reducible apply Keeps.upd_ledger <;> [skip; decide])
    | dsimp -zeta only)

theorem flushLine_keeps (again : LRec) (granted : Bool) (c l : Nat) (s : State) (ha : ∀ r u, Keeps 3418982383 u (again r u).1) : Keeps 3418982383 s (flushLine again granted c l s).1 := by
  unfold flushLine
  repeat' (first
    | with_reducible exact Keeps.refl _
    | with_reducible assumption
    | (with_reducible apply Keeps.step (countChan_keeps ..); on_goal 1 => decide)
    | (with_reducible apply Keeps.step (enqueueMetaWrite_keeps ..); on_goal 1 => decide)
    | (with_reducible apply Keeps.step (writeDram_keeps ..); on_goal 1 => decide)
    | (with_reducible apply Keeps.step (flushNode_keeps (ha := ha) ..); on_goal 1 => decide)
    | (with_reducible apply Keeps.step (ha _ _); on_goal 1 => decide)
    | with_reducible apply Keeps.ite
    | with_reducible apply Keeps.ite_fst
    | (extract_lets +onlyGivenNames x; with_reducible apply Keeps.cut (x := by apply x) <;> [(unfold x; clear x); (clear_value x; intro _; revert x; intros)])
    | (extract_lets +onlyGivenNames x; with_reducible apply Keeps.cut (x := by apply x.1) <;> [(unfold x; clear x); (clear_value x; intro _; revert x; intros)])
    | (extract_lets +onlyGivenNames x; clear_value x; revert x; intros)
    | split
    | fail_if_no_progress (with_reducible apply Keeps.upd_ledger <;> [skip; decide])
    | dsimp -zeta only)

theorem ledgerRound_keeps (again : LRec) (r : LReq) (s : State) (ha : ∀ r u, Keeps 3418982383 u (again r u).1) : Keeps 3418982383 s (ledgerRound again r s).1 := by
  unfold ledgerRound
  repeat' (first
    | with_reducible exact Keeps.refl _
    | with_reducible assumption
    | (with_reducible apply Keeps.step (parentTouch_keeps (ha := ha) ..); on_goal 1 => decide)
    | (with_reducible apply Keeps.step (fetchNode_keeps (ha := ha) ..); on_goal 1 => decide)
    | (with_reducible apply Keeps.step (fetchMac_keeps (ha := ha) ..); on_goal 1 => decide)
    | (with_reducible apply Keeps.step (flushLine_keeps (ha := ha) ..); on_goal 1 => decide)
    | (with_reducible apply Keeps.step (ha _ _); on_goal 1 => decide)
    | split
    | dsimp -zeta only)

theorem ledgerRun_keeps (n : Nat) (r : LReq) (s : State) : Keeps 3418982383 s (ledgerRun n r s).1 := by
  induction n generalizing r s with
  | zero => exact Keeps.refl s
  | succ n ih => exact (ledgerRound_keeps (ledgerRun n) r s ih)

theorem ledgerAsk_keeps (r : LReq) (s : State) : Keeps 3418982383 s (ledgerAsk r s).1 := ledgerRun_keeps ledgerDepth r s


theorem queueMetaReads_keeps (cls : Cls) (e : Entry) (d dline : Nat) (s : State) : Keeps 8053062639 s (queueMetaReads cls e d dline s) := by
  unfold queueMetaReads
  repeat' (first
    | with_reducible exact Keeps.refl _
    | with_reducible assumption
    | (with_reducible apply Keeps.step (flagSample_keeps ..); on_goal 1 => decide)
    | (with_reducible apply Keeps.step (enqueueMetaRead_keeps ..); on_goal 1 => decide)
    | with_reducible apply Keeps.ite
    | with_reducible apply Keeps.ite_fst
    | (with_reducible apply Keeps.foldl <;> [skip; intro _ _ _])
    | (with_reducible apply Keeps.foldl_fst <;> [skip; intro _ _ _])
    | (extract_lets +onlyGivenNames x; with_reducible apply Keeps.cut (x := by apply x) <;> [(unfold x; clear x); (clear_value x; intro _; revert x; intros)])
    | (extract_lets +onlyGivenNames x; with_reducible apply Keeps.cut (x := by apply x.1) <;> [(unfold x; clear x); (clear_value x; intro _; revert x; intros)])
    | (extract_lets +onlyGivenNames x; clear_value x; revert x; intros)
    | dsimp -zeta only)

end Sys2Proof.Machine
end

