-- ==== Sys2Proof/Laws/KeepsIntegrity.lean ====
section
/-! SUPPORT. What each function of Machine/Integrity.lean can do (see Laws/Keeps.lean). -/

set_option linter.tactic.unusedName false
set_option linter.unusedTactic false
set_option linter.unreachableTactic false

namespace Sys2Proof.Machine

theorem sealDistrict_keeps (d : Nat) (s : State) : Keeps 3688824831 s (sealDistrict d s) := by
  unfold sealDistrict
  repeat' (first
    | with_reducible exact Keeps.refl _
    | with_reducible assumption
    | (with_reducible apply Keeps.step (State.setObjBit_keeps ..); on_goal 1 => decide)
    | (with_reducible apply Keeps.step (State.raise_keeps ..); on_goal 1 => decide)
    | fail_if_no_progress (with_reducible apply Keeps.upd_sealedFrom <;> [skip; decide])
    | dsimp -zeta only)

theorem sealPage_keeps (d page : Nat) (s : State) : Keeps 3688792063 s (sealPage d page s) := by
  unfold sealPage
  repeat' (first
    | with_reducible exact Keeps.refl _
    | with_reducible assumption
    | (with_reducible apply Keeps.step (sealDistrict_keeps ..); on_goal 1 => decide)
    | (with_reducible apply Keeps.step (State.setObj_keeps ..); on_goal 1 => decide)
    | (with_reducible apply Keeps.step (State.addObj_keeps ..); on_goal 1 => decide)
    | (with_reducible apply Keeps.step (State.raise_keeps ..); on_goal 1 => decide)
    | with_reducible apply Keeps.ite
    | with_reducible apply Keeps.ite_fst
    | (extract_lets +onlyGivenNames x; with_reducible apply Keeps.cut (x := by apply x) <;> [(unfold x; clear x); (clear_value x; intro _; revert x; intros)])
    | (extract_lets +onlyGivenNames x; with_reducible apply Keeps.cut (x := by apply x.1) <;> [(unfold x; clear x); (clear_value x; intro _; revert x; intros)])
    | (extract_lets +onlyGivenNames x; clear_value x; revert x; intros)
    | fail_if_no_progress (with_reducible apply Keeps.upd_sealedList_mram <;> [skip; decide; (intros; repeat' (first | with_reducible assumption | with_reducible exact Memory.wf_nil | with_reducible apply Memory.wf_sbN | with_reducible apply Memory.wf_sbNat | with_reducible apply Memory.wf_sb | with_reducible apply Memory.wf_filter | with_reducible apply Memory.wf_writeWords | with_reducible apply Memory.wf_foldl_sb | with_reducible exact Keeps.mramOk (by assumption) (by assumption) | split | dsimp only))])
    | dsimp -zeta only)

theorem storeSealed_keeps (s : State) : Keeps 8050966527 s (storeSealed s) := by
  unfold storeSealed
  repeat' (first
    | with_reducible exact Keeps.refl _
    | with_reducible assumption
    | (with_reducible apply Keeps.step (State.setObj_keeps ..); on_goal 1 => decide)
    | (with_reducible apply Keeps.forN <;> [skip; intro _ _ _])
    | (extract_lets +onlyGivenNames x; with_reducible apply Keeps.cut (x := by apply x) <;> [(unfold x; clear x); (clear_value x; intro _; revert x; intros)])
    | (extract_lets +onlyGivenNames x; clear_value x; revert x; intros)
    | split
    | fail_if_no_progress (with_reducible apply Keeps.upd_mram <;> [skip; decide; (intros; repeat' (first | with_reducible assumption | with_reducible exact Memory.wf_nil | with_reducible apply Memory.wf_sbN | with_reducible apply Memory.wf_sbNat | with_reducible apply Memory.wf_sb | with_reducible apply Memory.wf_filter | with_reducible apply Memory.wf_writeWords | with_reducible apply Memory.wf_foldl_sb | with_reducible exact Keeps.mramOk (by assumption) (by assumption) | split | dsimp only))])
    | dsimp -zeta only)

theorem unsealDistrict_keeps (d : Nat) (s : State) : Keeps 8050868223 s (unsealDistrict d s) := by
  unfold unsealDistrict
  repeat' (first
    | with_reducible exact Keeps.refl _
    | with_reducible assumption
    | (with_reducible apply Keeps.step (storeSealed_keeps ..); on_goal 1 => decide)
    | (with_reducible apply Keeps.step (State.setObjBit_keeps ..); on_goal 1 => decide)
    | fail_if_no_progress (with_reducible apply Keeps.upd_sealedList_sealedFrom <;> [skip; decide])
    | dsimp -zeta only)

theorem keepRange_keeps (d first n : Nat) (s : State) : Keeps 8589934559 s (keepRange d first n s) := by
  unfold keepRange
  repeat' (first
    | with_reducible exact Keeps.refl _
    | with_reducible assumption
    | with_reducible apply Keeps.ite
    | with_reducible apply Keeps.ite_fst
    | fail_if_no_progress (with_reducible apply Keeps.upd_plaza <;> [skip; decide])
    | dsimp -zeta only)

theorem installReplacement_keeps (d kind idx : Nat) (s : State) : Keeps 3418884079 s (installReplacement d kind idx s) := by
  unfold installReplacement
  repeat' (first
    | with_reducible exact Keeps.refl _
    | with_reducible assumption
    | (with_reducible apply Keeps.step (raiseCeiling_keeps ..); on_goal 1 => decide)
    | (with_reducible apply Keeps.step (putLedger_keeps (ha := ledgerRun_keeps ledgerDepth) ..); on_goal 1 => decide)
    | (with_reducible apply Keeps.step (renewNode_keeps ..); on_goal 1 => decide)
    | (with_reducible apply Keeps.step (ledgerAsk_keeps ..); on_goal 1 => decide)
    | (with_reducible apply Keeps.step (sealDistrict_keeps ..); on_goal 1 => decide)
    | (with_reducible apply Keeps.step (sealPage_keeps ..); on_goal 1 => decide)
    | with_reducible apply Keeps.ite
    | with_reducible apply Keeps.ite_fst
    | (with_reducible apply Keeps.forN_fst <;> [skip; intro _ _ _])
    | (with_reducible apply Keeps.forN <;> [skip; intro _ _ _])
    | (extract_lets +onlyGivenNames x; with_reducible apply Keeps.cut (x := by apply x) <;> [(unfold x; clear x); (clear_value x; intro _; revert x; intros)])
    | (extract_lets +onlyGivenNames x; with_reducible apply Keeps.cut (x := by apply x.1) <;> [(unfold x; clear x); (clear_value x; intro _; revert x; intros)])
    | (extract_lets +onlyGivenNames x; clear_value x; revert x; intros)
    | split
    | dsimp -zeta only)

theorem lose_keeps (d kind idx c : Nat) (s : State) : Keeps 2340947919 s (lose d kind idx c s) := by
  unfold lose
  repeat' (first
    | with_reducible exact Keeps.refl _
    | with_reducible assumption
    | (with_reducible apply Keeps.step (storeRepair_keeps ..); on_goal 1 => decide)
    | (with_reducible apply Keeps.step (freezeChannel_keeps ..); on_goal 1 => decide)
    | (with_reducible apply Keeps.step (keepRange_keeps ..); on_goal 1 => decide)
    | (with_reducible apply Keeps.step (installReplacement_keeps ..); on_goal 1 => decide)
    | (with_reducible apply Keeps.step (State.addObj_keeps ..); on_goal 1 => decide)
    | (with_reducible apply Keeps.step (State.setRepair_keeps ..); on_goal 1 => decide)
    | (with_reducible apply Keeps.step (State.raise_keeps ..); on_goal 1 => decide)
    | with_reducible apply Keeps.ite
    | (extract_lets +onlyGivenNames x; with_reducible apply Keeps.cut (x := by apply x) <;> [(unfold x; clear x); (clear_value x; intro _; revert x; intros)])
    | (extract_lets +onlyGivenNames x; clear_value x; revert x; intros)
    | split
    | dsimp -zeta only)

theorem loseRoot_keeps (d : Nat) (s : State) : Keeps 2340947919 s (loseRoot d s) := by
  unfold loseRoot
  repeat' (first
    | with_reducible exact Keeps.refl _
    | with_reducible assumption
    | (with_reducible apply Keeps.step (freezeChannel_keeps ..); on_goal 1 => decide)
    | (with_reducible apply Keeps.step (lose_keeps ..); on_goal 1 => decide)
    | (with_reducible apply Keeps.step (State.raise_keeps ..); on_goal 1 => decide)
    | with_reducible apply Keeps.ite
    | with_reducible apply Keeps.ite_fst
    | (with_reducible apply Keeps.forN_fst <;> [skip; intro _ _ _])
    | (with_reducible apply Keeps.forN <;> [skip; intro _ _ _])
    | (extract_lets +onlyGivenNames x; with_reducible apply Keeps.cut (x := by apply x) <;> [(unfold x; clear x); (clear_value x; intro _; revert x; intros)])
    | (extract_lets +onlyGivenNames x; with_reducible apply Keeps.cut (x := by apply x.1) <;> [(unfold x; clear x); (clear_value x; intro _; revert x; intros)])
    | (extract_lets +onlyGivenNames x; clear_value x; revert x; intros)
    | dsimp -zeta only)

theorem settleFound_keeps (s : State) : Keeps 2340947919 s (settleFound s) := by
  unfold settleFound
  repeat' (first
    | with_reducible exact Keeps.refl _
    | with_reducible assumption
    | (with_reducible apply Keeps.step (lose_keeps ..); on_goal 1 => decide)
    | (with_reducible apply Keeps.foldl <;> [skip; intro _ _ _])
    | (with_reducible apply Keeps.foldl_fst <;> [skip; intro _ _ _])
    | fail_if_no_progress (with_reducible apply Keeps.upd_found <;> [skip; decide])
    | dsimp -zeta only)

theorem needLine_keeps (r : LReq) (d : Nat) (s : State) : Keeps 2340947919 s (needLine r d s).1 := by
  unfold needLine
  repeat' (first
    | with_reducible exact Keeps.refl _
    | with_reducible assumption
    | (with_reducible apply Keeps.step (ledgerAsk_keeps ..); on_goal 1 => decide)
    | (with_reducible apply Keeps.step (lose_keeps ..); on_goal 1 => decide)
    | (with_reducible apply Keeps.step (settleFound_keeps ..); on_goal 1 => decide)
    | (extract_lets +onlyGivenNames x; with_reducible apply Keeps.cut (x := by apply x) <;> [(unfold x; clear x); (clear_value x; intro _; revert x; intros)])
    | (extract_lets +onlyGivenNames x; with_reducible apply Keeps.cut (x := by apply x.1) <;> [(unfold x; clear x); (clear_value x; intro _; revert x; intros)])
    | (extract_lets +onlyGivenNames x; clear_value x; revert x; intros)
    | split
    | dsimp -zeta only)

theorem flushLedger_keeps (granted : Bool) (c l : Nat) (d : Option Nat) (s : State) : Keeps 2340947919 s (flushLedger granted c l d s) := by
  unfold flushLedger
  repeat' (first
    | with_reducible exact Keeps.refl _
    | with_reducible assumption
    | (with_reducible apply Keeps.step (noteLoss_keeps ..); on_goal 1 => decide)
    | (with_reducible apply Keeps.step (ledgerAsk_keeps ..); on_goal 1 => decide)
    | (with_reducible apply Keeps.step (settleFound_keeps ..); on_goal 1 => decide)
    | (extract_lets +onlyGivenNames x; with_reducible apply Keeps.cut (x := by apply x) <;> [(unfold x; clear x); (clear_value x; intro _; revert x; intros)])
    | (extract_lets +onlyGivenNames x; with_reducible apply Keeps.cut (x := by apply x.1) <;> [(unfold x; clear x); (clear_value x; intro _; revert x; intros)])
    | (extract_lets +onlyGivenNames x; clear_value x; revert x; intros)
    | dsimp -zeta only)

theorem needNodes_keeps (d dline : Nat) (s : State) : Keeps 2340947919 s (needNodes d dline s) := by
  unfold needNodes
  repeat' (first
    | with_reducible exact Keeps.refl _
    | with_reducible assumption
    | (with_reducible apply Keeps.step (needLine_keeps ..); on_goal 1 => decide)
    | with_reducible apply Keeps.ite
    | with_reducible apply Keeps.ite_fst
    | (with_reducible apply Keeps.forN_fst <;> [skip; intro _ _ _])
    | (with_reducible apply Keeps.forN <;> [skip; intro _ _ _])
    | (extract_lets +onlyGivenNames x; with_reducible apply Keeps.cut (x := by apply x) <;> [(unfold x; clear x); (clear_value x; intro _; revert x; intros)])
    | (extract_lets +onlyGivenNames x; with_reducible apply Keeps.cut (x := by apply x.1) <;> [(unfold x; clear x); (clear_value x; intro _; revert x; intros)])
    | (extract_lets +onlyGivenNames x; clear_value x; revert x; intros)
    | dsimp -zeta only)

theorem needReplaced_keeps (r : LReq) (d : Nat) (s : State) : Keeps 2340947919 s (needReplaced r d s).1 := by
  unfold needReplaced
  repeat' (first
    | with_reducible exact Keeps.refl _
    | with_reducible assumption
    | (with_reducible apply Keeps.step (needLine_keeps ..); on_goal 1 => decide)
    | (extract_lets +onlyGivenNames x; with_reducible apply Keeps.cut (x := by apply x) <;> [(unfold x; clear x); (clear_value x; intro _; revert x; intros)])
    | (extract_lets +onlyGivenNames x; with_reducible apply Keeps.cut (x := by apply x.1) <;> [(unfold x; clear x); (clear_value x; intro _; revert x; intros)])
    | (extract_lets +onlyGivenNames x; clear_value x; revert x; intros)
    | split
    | dsimp -zeta only)

theorem dataLost_keeps (c l d dline port : Nat) (s : State) : Keeps 2340947919 s (dataLost c l d dline port s) := by
  unfold dataLost
  repeat' (first
    | with_reducible exact Keeps.refl _
    | with_reducible assumption
    | (with_reducible apply Keeps.step (freezeChannel_keeps ..); on_goal 1 => decide)
    | (with_reducible apply Keeps.step (lose_keeps ..); on_goal 1 => decide)
    | (with_reducible apply Keeps.step (State.raiseChan_keeps ..); on_goal 1 => decide)
    | with_reducible apply Keeps.ite
    | (extract_lets +onlyGivenNames x; with_reducible apply Keeps.cut (x := by apply x) <;> [(unfold x; clear x); (clear_value x; intro _; revert x; intros)])
    | (extract_lets +onlyGivenNames x; clear_value x; revert x; intros)
    | dsimp -zeta only)

theorem fillRaw_keeps (c l d dline port : Nat) (s : State) : Keeps 2340947919 s (fillRaw c l d dline port s).1 := by
  unfold fillRaw
  repeat' (first
    | with_reducible exact Keeps.refl _
    | with_reducible assumption
    | (with_reducible apply Keeps.step (readDram_keeps ..); on_goal 1 => decide)
    | (with_reducible apply Keeps.step (dataLost_keeps ..); on_goal 1 => decide)
    | (extract_lets +onlyGivenNames x; with_reducible apply Keeps.cut (x := by apply x) <;> [(unfold x; clear x); (clear_value x; intro _; revert x; intros)])
    | (extract_lets +onlyGivenNames x; with_reducible apply Keeps.cut (x := by apply x.1) <;> [(unfold x; clear x); (clear_value x; intro _; revert x; intros)])
    | (extract_lets +onlyGivenNames x; clear_value x; revert x; intros)
    | split
    | dsimp -zeta only)

theorem fillLine_keeps (c l d dline port : Nat) (s : State) : Keeps 2340947919 s (fillLine c l d dline port s).1 := by
  unfold fillLine
  repeat' (first
    | with_reducible exact Keeps.refl _
    | with_reducible assumption
    | (with_reducible apply Keeps.step (aesBlocks_keeps ..); on_goal 1 => decide)
    | (with_reducible apply Keeps.step (lose_keeps ..); on_goal 1 => decide)
    | (with_reducible apply Keeps.step (needLine_keeps ..); on_goal 1 => decide)
    | (with_reducible apply Keeps.step (needNodes_keeps ..); on_goal 1 => decide)
    | (with_reducible apply Keeps.step (fillRaw_keeps ..); on_goal 1 => decide)
    | with_reducible apply Keeps.ite
    | with_reducible apply Keeps.ite_fst
    | (extract_lets +onlyGivenNames x; with_reducible apply Keeps.cut (x := by apply x) <;> [(unfold x; clear x); (clear_value x; intro _; revert x; intros)])
    | (extract_lets +onlyGivenNames x; with_reducible apply Keeps.cut (x := by apply x.1) <;> [(unfold x; clear x); (clear_value x; intro _; revert x; intros)])
    | (extract_lets +onlyGivenNames x; clear_value x; revert x; intros)
    | split
    | dsimp -zeta only)

theorem afterWriteBack_keeps (d dline : Nat) (s : State) : Keeps 8585740287 s (afterWriteBack d dline s) := by
  unfold afterWriteBack
  repeat' (first
    | with_reducible exact Keeps.refl _
    | with_reducible assumption
    | with_reducible apply Keeps.ite
    | with_reducible apply Keeps.ite_fst
    | fail_if_no_progress (with_reducible apply Keeps.upd_repair <;> [skip; decide])
    | dsimp -zeta only)

theorem storeMac_keeps (port c l d dline mac : Nat) (line : BitVec 512) (s : State) : Keeps 3418982383 s (storeMac port c l d dline mac line s) := by
  unfold storeMac
  repeat' (first
    | with_reducible exact Keeps.refl _
    | with_reducible assumption
    | (with_reducible apply Keeps.step (injectFired_keeps ..); on_goal 1 => decide)
    | (with_reducible apply Keeps.step (putLedger_keeps (ha := ledgerRun_keeps ledgerDepth) ..); on_goal 1 => decide)
    | with_reducible apply Keeps.ite
    | with_reducible apply Keeps.ite_fst
    | (extract_lets +onlyGivenNames x; with_reducible apply Keeps.cut (x := by apply x) <;> [(unfold x; clear x); (clear_value x; intro _; revert x; intros)])
    | (extract_lets +onlyGivenNames x; with_reducible apply Keeps.cut (x := by apply x.1) <;> [(unfold x; clear x); (clear_value x; intro _; revert x; intros)])
    | (extract_lets +onlyGivenNames x; clear_value x; revert x; intros)
    | dsimp -zeta only)

theorem startAdvance_keeps (port d page : Nat) (block : BitVec 512) (s : State) : Keeps 3418982383 s (startAdvance port d page block s) := by
  unfold startAdvance
  repeat' (first
    | with_reducible exact Keeps.refl _
    | with_reducible assumption
    | (with_reducible apply Keeps.step (putLedger_keeps (ha := ledgerRun_keeps ledgerDepth) ..); on_goal 1 => decide)
    | (with_reducible apply Keeps.step (State.addObj_keeps ..); on_goal 1 => decide)
    | (extract_lets +onlyGivenNames x; with_reducible apply Keeps.cut (x := by apply x) <;> [(unfold x; clear x); (clear_value x; intro _; revert x; intros)])
    | (extract_lets +onlyGivenNames x; with_reducible apply Keeps.cut (x := by apply x.1) <;> [(unfold x; clear x); (clear_value x; intro _; revert x; intros)])
    | (extract_lets +onlyGivenNames x; clear_value x; revert x; intros)
    | dsimp -zeta only)

theorem writeUnder_keeps (port c l d dline : Nat) (block : BitVec 512) (data : BitVec 512) (s : State) : Keeps 2340947919 s (writeUnder port c l d dline block data s) := by
  unfold writeUnder
  repeat' (first
    | with_reducible exact Keeps.refl _
    | with_reducible assumption
    | (with_reducible apply Keeps.step (aesBlocks_keeps ..); on_goal 1 => decide)
    | (with_reducible apply Keeps.step (writeDram_keeps ..); on_goal 1 => decide)
    | (with_reducible apply Keeps.step (putLedger_keeps (ha := ledgerRun_keeps ledgerDepth) ..); on_goal 1 => decide)
    | (with_reducible apply Keeps.step (needReplaced_keeps ..); on_goal 1 => decide)
    | (with_reducible apply Keeps.step (afterWriteBack_keeps ..); on_goal 1 => decide)
    | (with_reducible apply Keeps.step (storeMac_keeps ..); on_goal 1 => decide)
    | with_reducible apply Keeps.ite
    | with_reducible apply Keeps.ite_fst
    | (extract_lets +onlyGivenNames x; with_reducible apply Keeps.cut (x := by apply x) <;> [(unfold x; clear x); (clear_value x; intro _; revert x; intros)])
    | (extract_lets +onlyGivenNames x; with_reducible apply Keeps.cut (x := by apply x.1) <;> [(unfold x; clear x); (clear_value x; intro _; revert x; intros)])
    | (extract_lets +onlyGivenNames x; clear_value x; revert x; intros)
    | dsimp -zeta only)

theorem storeData_keeps (port c l d dline : Nat) (data : BitVec 512) (s : State) : Keeps 2340947919 s (storeData port c l d dline data s).1 := by
  unfold storeData
  repeat' (first
    | with_reducible exact Keeps.refl _
    | with_reducible assumption
    | (with_reducible apply Keeps.step (writeDram_keeps ..); on_goal 1 => decide)
    | (with_reducible apply Keeps.step (settleFound_keeps ..); on_goal 1 => decide)
    | (with_reducible apply Keeps.step (needNodes_keeps ..); on_goal 1 => decide)
    | (with_reducible apply Keeps.step (needReplaced_keeps ..); on_goal 1 => decide)
    | (with_reducible apply Keeps.step (afterWriteBack_keeps ..); on_goal 1 => decide)
    | (with_reducible apply Keeps.step (startAdvance_keeps ..); on_goal 1 => decide)
    | (with_reducible apply Keeps.step (writeUnder_keeps ..); on_goal 1 => decide)
    | with_reducible apply Keeps.ite
    | with_reducible apply Keeps.ite_fst
    | (extract_lets +onlyGivenNames x; with_reducible apply Keeps.cut (x := by apply x) <;> [(unfold x; clear x); (clear_value x; intro _; revert x; intros)])
    | (extract_lets +onlyGivenNames x; with_reducible apply Keeps.cut (x := by apply x.1) <;> [(unfold x; clear x); (clear_value x; intro _; revert x; intros)])
    | (extract_lets +onlyGivenNames x; clear_value x; revert x; intros)
    | split
    | dsimp -zeta only)

end Sys2Proof.Machine
end

