-- ==== Sys2Proof/Laws/KeepsMirrorTx.lean ====
section
/-! SUPPORT. What each function of Machine/MirrorTx.lean can do (see Laws/Keeps.lean). -/

set_option linter.tactic.unusedName false
set_option linter.unusedTactic false
set_option linter.unreachableTactic false

namespace Sys2Proof.Machine

theorem sendOn_keeps (port : Nat) (hdr payload : List Byte) (s : State) : Keeps 8581545983 s (sendOn port hdr payload s) := by
  unfold sendOn
  repeat' (first
    | with_reducible exact Keeps.refl _
    | with_reducible assumption
    | with_reducible apply Keeps.ite
    | split
    | fail_if_no_progress (with_reducible apply Keeps.upd_mirror <;> [skip; decide])
    | dsimp -zeta only)

theorem sendPaths_keeps (k : Nat) (hdr payload : List Byte) (s : State) : Keeps 8044675071 s (sendPaths k hdr payload s) := by
  unfold sendPaths
  repeat' (first
    | with_reducible exact Keeps.refl _
    | with_reducible assumption
    | (with_reducible apply Keeps.step (sendOn_keeps ..); on_goal 1 => decide)
    | (with_reducible apply Keeps.step (State.addObj_keeps ..); on_goal 1 => decide)
    | (extract_lets +onlyGivenNames x; with_reducible apply Keeps.cut (x := by apply x) <;> [(unfold x; clear x); (clear_value x; intro _; revert x; intros)])
    | (extract_lets +onlyGivenNames x; clear_value x; revert x; intros)
    | split
    | dsimp -zeta only)

theorem sendData_keeps (f : TxFrame) (s : State) : Keeps 8044675071 s (sendData f s) := by
  unfold sendData
  repeat' (first
    | with_reducible exact Keeps.refl _
    | with_reducible assumption
    | (with_reducible apply Keeps.step (sendPaths_keeps ..); on_goal 1 => decide)
    | with_reducible apply Keeps.ite
    | (extract_lets +onlyGivenNames x; with_reducible apply Keeps.cut (x := by apply x) <;> [(unfold x; clear x); (clear_value x; intro _; revert x; intros)])
    | (extract_lets +onlyGivenNames x; clear_value x; revert x; intros)
    | dsimp -zeta only)

theorem closeBut_keeps (keep : MRec → Bool) (c : Nat) (s : State) : Keeps 8044675071 s (closeBut keep c s) := by
  unfold closeBut
  repeat' (first
    | with_reducible exact Keeps.refl _
    | with_reducible assumption
    | (with_reducible apply Keeps.step (sendData_keeps ..); on_goal 1 => decide)
    | (with_reducible apply Keeps.step (State.setObj_keeps ..); on_goal 1 => decide)
    | (with_reducible apply Keeps.step (State.setTx_keeps ..); on_goal 1 => decide)
    | with_reducible apply Keeps.ite
    | (extract_lets +onlyGivenNames x; with_reducible apply Keeps.cut (x := by apply x) <;> [(unfold x; clear x); (clear_value x; intro _; revert x; intros)])
    | (extract_lets +onlyGivenNames x; clear_value x; revert x; intros)
    | split
    | fail_if_no_progress (with_reducible apply Keeps.upd_mirror <;> [skip; decide])
    | dsimp -zeta only)

theorem closeFrame_keeps (c : Nat) (s : State) : Keeps 8044675071 s (closeFrame c s) := by
  unfold closeFrame
  repeat' (first
    | with_reducible exact Keeps.refl _
    | with_reducible assumption
    | (with_reducible apply Keeps.step (closeBut_keeps ..); on_goal 1 => decide)
    | dsimp -zeta only)

theorem addRecords_keeps (c : Nat) (recs : List MRec) (s : State) : Keeps 8581545983 s (addRecords c recs s) := by
  unfold addRecords
  repeat' (first
    | with_reducible exact Keeps.refl _
    | with_reducible assumption
    | (with_reducible apply Keeps.step (State.setTx_keeps ..); on_goal 1 => decide)
    | with_reducible apply Keeps.ite
    | (extract_lets +onlyGivenNames x; with_reducible apply Keeps.cut (x := by apply x) <;> [(unfold x; clear x); (clear_value x; intro _; revert x; intros)])
    | (extract_lets +onlyGivenNames x; clear_value x; revert x; intros)
    | dsimp -zeta only)

theorem appendRecords_keeps (c : Nat) (recs : List MRec) (s : State) : Keeps 8044675071 s (appendRecords c recs s) := by
  unfold appendRecords
  repeat' (first
    | with_reducible exact Keeps.refl _
    | with_reducible assumption
    | (with_reducible apply Keeps.step (closeBut_keeps ..); on_goal 1 => decide)
    | (with_reducible apply Keeps.step (closeFrame_keeps ..); on_goal 1 => decide)
    | (with_reducible apply Keeps.step (addRecords_keeps ..); on_goal 1 => decide)
    | with_reducible apply Keeps.ite
    | (extract_lets +onlyGivenNames x; with_reducible apply Keeps.cut (x := by apply x) <;> [(unfold x; clear x); (clear_value x; intro _; revert x; intros)])
    | (extract_lets +onlyGivenNames x; unfold x; clear x)
    | dsimp -zeta only)

theorem loseTag_keeps (p tag : Nat) (t : Stamp) (s : State) : Keeps 8589934589 s (loseTag p tag t s) := by
  unfold loseTag
  repeat' (first
    | with_reducible exact Keeps.refl _
    | with_reducible assumption
    | (with_reducible apply Keeps.step (State.modPort_keeps ..); on_goal 1 => decide)
    | with_reducible apply Keeps.ite
    | dsimp -zeta only)

theorem dropLate_keeps (p tag : Nat) (t : Stamp) (s : State) : Keeps 8053063677 s (dropLate p tag t s) := by
  unfold dropLate
  repeat' (first
    | with_reducible exact Keeps.refl _
    | with_reducible assumption
    | (with_reducible apply Keeps.step (State.addObj_keeps ..); on_goal 1 => decide)
    | (with_reducible apply Keeps.step (State.setPort_keeps ..); on_goal 1 => decide)
    | with_reducible apply Keeps.ite
    | (extract_lets +onlyGivenNames x; with_reducible apply Keeps.cut (x := by apply x) <;> [(unfold x; clear x); (clear_value x; intro _; revert x; intros)])
    | (extract_lets +onlyGivenNames x; clear_value x; revert x; intros)
    | dsimp -zeta only)

theorem respond_keeps (r : Resp) (s : State) : Keeps 3688890365 s (respond r s) := by
  unfold respond
  repeat' (first
    | with_reducible exact Keeps.refl _
    | with_reducible assumption
    | (with_reducible apply Keeps.step (portCause_keeps ..); on_goal 1 => decide)
    | (with_reducible apply Keeps.step (loseTag_keeps ..); on_goal 1 => decide)
    | (with_reducible apply Keeps.step (dropLate_keeps ..); on_goal 1 => decide)
    | (with_reducible apply Keeps.step (State.addObj_keeps ..); on_goal 1 => decide)
    | (with_reducible apply Keeps.step (State.setPort_keeps ..); on_goal 1 => decide)
    | with_reducible apply Keeps.ite
    | (extract_lets +onlyGivenNames x; with_reducible apply Keeps.cut (x := by apply x) <;> [(unfold x; clear x); (clear_value x; intro _; revert x; intros)])
    | (extract_lets +onlyGivenNames x; clear_value x; revert x; intros)
    | dsimp -zeta only)

theorem sendBack_keeps (r : Resp) (s : State) : Keeps 3688890365 s (sendBack r s) := by
  unfold sendBack
  repeat' (first
    | with_reducible exact Keeps.refl _
    | with_reducible assumption
    | (with_reducible apply Keeps.step (respond_keeps ..); on_goal 1 => decide)
    | (with_reducible apply Keeps.step (State.modPort_keeps ..); on_goal 1 => decide)
    | with_reducible apply Keeps.ite
    | (extract_lets +onlyGivenNames x; with_reducible apply Keeps.cut (x := by apply x) <;> [(unfold x; clear x); (clear_value x; intro _; revert x; intros)])
    | (extract_lets +onlyGivenNames x; clear_value x; revert x; intros)
    | split
    | dsimp -zeta only)

theorem releaseReplay_keeps (s : State) : Keeps 8581545983 s (releaseReplay s) := by
  unfold releaseReplay
  repeat' (first
    | with_reducible exact Keeps.refl _
    | with_reducible assumption
    | fail_if_no_progress (with_reducible apply Keeps.upd_mirror <;> [skip; decide])
    | dsimp -zeta only)

theorem answerWait_keeps (w : TwinWait) (status : Nat) (due : Bool) (s : State) : Keeps 3663723517 s (answerWait w status due s) := by
  unfold answerWait
  repeat' (first
    | with_reducible exact Keeps.refl _
    | with_reducible assumption
    | (with_reducible apply Keeps.step (noteT_keeps ..); on_goal 1 => decide)
    | (with_reducible apply Keeps.step (respond_keeps ..); on_goal 1 => decide)
    | (with_reducible apply Keeps.step (sendBack_keeps ..); on_goal 1 => decide)
    | (with_reducible apply Keeps.step (waits_keeps ..); on_goal 1 => decide)
    | (with_reducible apply Keeps.step (State.addObj_keeps ..); on_goal 1 => decide)
    | with_reducible apply Keeps.ite
    | (extract_lets +onlyGivenNames x; with_reducible apply Keeps.cut (x := by apply x) <;> [(unfold x; clear x); (clear_value x; intro _; revert x; intros)])
    | (extract_lets +onlyGivenNames x; clear_value x; revert x; intros)
    | fail_if_no_progress (with_reducible apply Keeps.upd_mirror <;> [skip; decide])
    | dsimp -zeta only)

theorem settleWaits_keeps (s : State) : Keeps 3663723517 s (settleWaits s) := by
  unfold settleWaits
  repeat' (first
    | with_reducible exact Keeps.refl _
    | with_reducible assumption
    | (with_reducible apply Keeps.step (answerWait_keeps ..); on_goal 1 => decide)
    | (with_reducible apply Keeps.foldl <;> [skip; intro _ _ _])
    | (with_reducible apply Keeps.foldl_fst <;> [skip; intro _ _ _])
    | split
    | dsimp -zeta only)

theorem respondTwin_keeps (r : Req) (d : Nat) (resp : Resp) (s : State) : Keeps 3663723517 s (respondTwin r d resp s) := by
  unfold respondTwin
  repeat' (first
    | with_reducible exact Keeps.refl _
    | with_reducible assumption
    | (with_reducible apply Keeps.step (noteT_keeps ..); on_goal 1 => decide)
    | (with_reducible apply Keeps.step (sendBack_keeps ..); on_goal 1 => decide)
    | (with_reducible apply Keeps.step (settleWaits_keeps ..); on_goal 1 => decide)
    | (with_reducible apply Keeps.step (waits_keeps ..); on_goal 1 => decide)
    | (with_reducible apply Keeps.step (State.addObj_keeps ..); on_goal 1 => decide)
    | with_reducible apply Keeps.ite
    | fail_if_no_progress (with_reducible apply Keeps.upd_mirror <;> [skip; decide])
    | dsimp -zeta only)

theorem acknowledge_keeps (c n : Nat) (s : State) : Keeps 3663723485 s (acknowledge c n s) := by
  unfold acknowledge
  repeat' (first
    | with_reducible exact Keeps.refl _
    | with_reducible assumption
    | (with_reducible apply Keeps.step (releaseReplay_keeps ..); on_goal 1 => decide)
    | (with_reducible apply Keeps.step (settleWaits_keeps ..); on_goal 1 => decide)
    | (with_reducible apply Keeps.step (State.setObj_keeps ..); on_goal 1 => decide)
    | with_reducible apply Keeps.ite
    | with_reducible apply Keeps.ite_fst
    | (extract_lets +onlyGivenNames x; with_reducible apply Keeps.cut (x := by apply x) <;> [(unfold x; clear x); (clear_value x; intro _; revert x; intros)])
    | (extract_lets +onlyGivenNames x; with_reducible apply Keeps.cut (x := by apply x.1) <;> [(unfold x; clear x); (clear_value x; intro _; revert x; intros)])
    | (extract_lets +onlyGivenNames x; clear_value x; revert x; intros)
    | fail_if_no_progress (with_reducible apply Keeps.upd_plaza <;> [skip; decide])
    | dsimp -zeta only)

end Sys2Proof.Machine
end

