-- ==== Sys2Proof/Laws/KeepsPlaza.lean ====
section
/-! SUPPORT. What each function of Machine/Plaza.lean can do (see Laws/Keeps.lean). -/

set_option linter.tactic.unusedName false
set_option linter.unusedTactic false
set_option linter.unreachableTactic false

namespace Sys2Proof.Machine

theorem deliver_keeps (t : Stamp) (d k status : Nat) (units : List (BitVec 512)) (s : State) : Keeps 3663723005 s (deliver t d k status units s) := by
  unfold deliver
  repeat' (first
    | with_reducible exact Keeps.refl _
    | with_reducible assumption
    | (with_reducible apply Keeps.step (respondTwin_keeps ..); on_goal 1 => decide)
    | with_reducible apply Keeps.ite
    | (extract_lets +onlyGivenNames x; with_reducible apply Keeps.cut (x := by apply x) <;> [(unfold x; clear x); (clear_value x; intro _; revert x; intros)])
    | (extract_lets +onlyGivenNames x; clear_value x; revert x; intros)
    | split
    | fail_if_no_progress (with_reducible apply Keeps.upd_gathers <;> [skip; decide])
    | dsimp -zeta only)

theorem answer_keeps (a : Access) (status : Nat) (units : List (BitVec 512)) (s : State) : Keeps 3663723005 s (answer a status units s) := by
  unfold answer
  repeat' (first
    | with_reducible exact Keeps.refl _
    | with_reducible assumption
    | (with_reducible apply Keeps.step (deliver_keeps ..); on_goal 1 => decide)
    | with_reducible apply Keeps.ite
    | dsimp -zeta only)

theorem State.setPline_keeps (s : State) (c l : Nat) (x : PLine) : Keeps 8589934559 s (State.setPline s c l x) := by
  unfold State.setPline
  repeat' (first
    | with_reducible exact Keeps.refl _
    | with_reducible assumption
    | fail_if_no_progress (with_reducible apply Keeps.upd_plaza <;> [skip; decide])
    | dsimp -zeta only)

theorem State.delPline_keeps (s : State) (c l : Nat) : Keeps 8589934559 s (State.delPline s c l) := by
  unfold State.delPline
  repeat' (first
    | with_reducible exact Keeps.refl _
    | with_reducible assumption
    | fail_if_no_progress (with_reducible apply Keeps.upd_plaza <;> [skip; decide])
    | dsimp -zeta only)

theorem touchPlaza_keeps (sl set w : Nat) (s : State) : Keeps 8589934527 s (touchPlaza sl set w s) := by
  unfold touchPlaza
  repeat' (first
    | with_reducible exact Keeps.refl _
    | with_reducible assumption
    | fail_if_no_progress (with_reducible apply Keeps.upd_plazaLru <;> [skip; decide])
    | dsimp -zeta only)

theorem enterWriteBack_keeps (c l : Nat) (x : PLine) (s : State) : Keeps 8053062639 s (enterWriteBack c l x s) := by
  unfold enterWriteBack
  repeat' (first
    | with_reducible exact Keeps.refl _
    | with_reducible assumption
    | (with_reducible apply Keeps.step (enqueue_keeps ..); on_goal 1 => decide)
    | (with_reducible apply Keeps.step (queueMetaReads_keeps ..); on_goal 1 => decide)
    | with_reducible apply Keeps.ite
    | (extract_lets +onlyGivenNames x; with_reducible apply Keeps.cut (x := by apply x) <;> [(unfold x; clear x); (clear_value x; intro _; revert x; intros)])
    | (extract_lets +onlyGivenNames x; clear_value x; revert x; intros)
    | dsimp -zeta only)

theorem queueWriteBack_keeps (c l : Nat) (s : State) : Keeps 8053062607 s (queueWriteBack c l s) := by
  unfold queueWriteBack
  repeat' (first
    | with_reducible exact Keeps.refl _
    | with_reducible assumption
    | (with_reducible apply Keeps.step (enterWriteBack_keeps ..); on_goal 1 => decide)
    | (with_reducible apply Keeps.step (State.setPline_keeps ..); on_goal 1 => decide)
    | with_reducible apply Keeps.ite
    | (extract_lets +onlyGivenNames x; with_reducible apply Keeps.cut (x := by apply x) <;> [(unfold x; clear x); (clear_value x; intro _; revert x; intros)])
    | (extract_lets +onlyGivenNames x; clear_value x; revert x; intros)
    | split
    | dsimp -zeta only)

theorem retryWriteBacks_keeps (c : Nat) (s : State) : Keeps 8053062639 s (retryWriteBacks c s) := by
  unfold retryWriteBacks
  repeat' (first
    | with_reducible exact Keeps.refl _
    | with_reducible assumption
    | (with_reducible apply Keeps.step (enterWriteBack_keeps ..); on_goal 1 => decide)
    | with_reducible apply Keeps.ite
    | with_reducible apply Keeps.ite_fst
    | (with_reducible apply Keeps.foldl <;> [skip; intro _ _ _])
    | (with_reducible apply Keeps.foldl_fst <;> [skip; intro _ _ _])
    | dsimp -zeta only)

theorem relieveSet_keeps (sl set : Nat) (s : State) : Keeps 8053062607 s (relieveSet sl set s) := by
  unfold relieveSet
  repeat' (first
    | with_reducible exact Keeps.refl _
    | with_reducible assumption
    | (with_reducible apply Keeps.step (queueWriteBack_keeps ..); on_goal 1 => decide)
    | with_reducible apply Keeps.ite
    | with_reducible apply Keeps.ite_fst
    | (extract_lets +onlyGivenNames x; with_reducible apply Keeps.cut (x := by apply x) <;> [(unfold x; clear x); (clear_value x; intro _; revert x; intros)])
    | (extract_lets +onlyGivenNames x; with_reducible apply Keeps.cut (x := by apply x.1) <;> [(unfold x; clear x); (clear_value x; intro _; revert x; intros)])
    | (extract_lets +onlyGivenNames x; clear_value x; revert x; intros)
    | split
    | dsimp -zeta only)

theorem checkDirtyHigh_keeps (sl set : Nat) (s : State) : Keeps 8053062607 s (checkDirtyHigh sl set s) := by
  unfold checkDirtyHigh
  repeat' (first
    | with_reducible exact Keeps.refl _
    | with_reducible assumption
    | (with_reducible apply Keeps.step (relieveSet_keeps ..); on_goal 1 => decide)
    | with_reducible apply Keeps.ite
    | (extract_lets +onlyGivenNames x; with_reducible apply Keeps.cut (x := by apply x) <;> [(unfold x; clear x); (clear_value x; intro _; revert x; intros)])
    | (extract_lets +onlyGivenNames x; clear_value x; revert x; intros)
    | dsimp -zeta only)

theorem takeWay_keeps (c l : Nat) (s : State) : Keeps 8053062607 s (takeWay c l s).1 := by
  unfold takeWay
  repeat' (first
    | with_reducible exact Keeps.refl _
    | with_reducible assumption
    | (with_reducible apply Keeps.step (relieveSet_keeps ..); on_goal 1 => decide)
    | with_reducible apply Keeps.ite
    | with_reducible apply Keeps.ite_fst
    | (extract_lets +onlyGivenNames x; with_reducible apply Keeps.cut (x := by apply x) <;> [(unfold x; clear x); (clear_value x; intro _; revert x; intros)])
    | (extract_lets +onlyGivenNames x; with_reducible apply Keeps.cut (x := by apply x.1) <;> [(unfold x; clear x); (clear_value x; intro _; revert x; intros)])
    | (extract_lets +onlyGivenNames x; clear_value x; revert x; intros)
    | split
    | fail_if_no_progress (with_reducible apply Keeps.upd_plaza <;> [skip; decide])
    | dsimp -zeta only)

theorem recordCopy_keeps (a : Access) (v : BitVec 512) (s : State) : Keeps 8044675071 s (recordCopy a v s) := by
  unfold recordCopy
  repeat' (first
    | with_reducible exact Keeps.refl _
    | with_reducible assumption
    | (with_reducible apply Keeps.step (appendRecords_keeps ..); on_goal 1 => decide)
    | with_reducible apply Keeps.ite
    | dsimp -zeta only)

theorem recordWrite_keeps (a : Access) (e : Effect) (s : State) : Keeps 8044412927 s (recordWrite a e s) := by
  unfold recordWrite
  repeat' (first
    | with_reducible exact Keeps.refl _
    | with_reducible assumption
    | (with_reducible apply Keeps.step (appendRecords_keeps ..); on_goal 1 => decide)
    | (with_reducible apply Keeps.step (State.modDist_keeps ..); on_goal 1 => decide)
    | with_reducible apply Keeps.ite
    | dsimp -zeta only)

theorem closeDurable_keeps (c : Nat) (s : State) : Keeps 8044675071 s (closeDurable c s) := by
  unfold closeDurable
  repeat' (first
    | with_reducible exact Keeps.refl _
    | with_reducible assumption
    | (with_reducible apply Keeps.step (closeFrame_keeps ..); on_goal 1 => decide)
    | with_reducible apply Keeps.ite
    | dsimp -zeta only)

theorem applyToLine_keeps (a : Access) (x : PLine) (s : State) : Keeps 3663460749 s (applyToLine a x s) := by
  unfold applyToLine
  repeat' (first
    | with_reducible exact Keeps.refl _
    | with_reducible assumption
    | (with_reducible apply Keeps.step (settleWaits_keeps ..); on_goal 1 => decide)
    | (with_reducible apply Keeps.step (answer_keeps ..); on_goal 1 => decide)
    | (with_reducible apply Keeps.step (touchPlaza_keeps ..); on_goal 1 => decide)
    | (with_reducible apply Keeps.step (checkDirtyHigh_keeps ..); on_goal 1 => decide)
    | (with_reducible apply Keeps.step (recordWrite_keeps ..); on_goal 1 => decide)
    | (with_reducible apply Keeps.step (State.setPline_keeps ..); on_goal 1 => decide)
    | with_reducible apply Keeps.ite
    | (extract_lets +onlyGivenNames x; with_reducible apply Keeps.cut (x := by apply x) <;> [(unfold x; clear x); (clear_value x; intro _; revert x; intros)])
    | (extract_lets +onlyGivenNames x; clear_value x; revert x; intros)
    | split
    | dsimp -zeta only)

theorem joinLock_keeps (a : Access) (wr : Bool) (e : Entry) (s : State) : Keeps 8589934575 s (joinLock a wr e s) := by
  unfold joinLock
  repeat' (first
    | with_reducible exact Keeps.refl _
    | with_reducible assumption
    | (with_reducible apply Keeps.step (enqueueB_keeps ..); on_goal 1 => decide)
    | (with_reducible apply Keeps.step (State.modChan_keeps ..); on_goal 1 => decide)
    | with_reducible apply Keeps.ite
    | (extract_lets +onlyGivenNames x; with_reducible apply Keeps.cut (x := by apply x) <;> [(unfold x; clear x); (clear_value x; intro _; revert x; intros)])
    | (extract_lets +onlyGivenNames x; unfold x; clear x)
    | dsimp -zeta only)

theorem noteWake_keeps (a : Access) (s : State) : Keeps 8589933567 s (noteWake a s) := by
  unfold noteWake
  repeat' (first
    | with_reducible exact Keeps.refl _
    | with_reducible assumption
    | (with_reducible apply Keeps.step (flagSample_keeps ..); on_goal 1 => decide)
    | with_reducible apply Keeps.ite
    | dsimp -zeta only)

theorem queueFill_keeps (a : Access) (s : State) : Keeps 8053062639 s (queueFill a s) := by
  unfold queueFill
  repeat' (first
    | with_reducible exact Keeps.refl _
    | with_reducible assumption
    | (with_reducible apply Keeps.step (enqueue_keeps ..); on_goal 1 => decide)
    | (with_reducible apply Keeps.step (queueMetaReads_keeps ..); on_goal 1 => decide)
    | (with_reducible apply Keeps.step (joinLock_keeps ..); on_goal 1 => decide)
    | (with_reducible apply Keeps.step (noteWake_keeps ..); on_goal 1 => decide)
    | with_reducible apply Keeps.ite
    | (extract_lets +onlyGivenNames x; with_reducible apply Keeps.cut (x := by apply x) <;> [(unfold x; clear x); (clear_value x; intro _; revert x; intros)])
    | (extract_lets +onlyGivenNames x; clear_value x; revert x; intros)
    | dsimp -zeta only)

theorem lockWrite_keeps (a : Access) (s : State) : Keeps 8053062607 s (lockWrite a s) := by
  unfold lockWrite
  repeat' (first
    | with_reducible exact Keeps.refl _
    | with_reducible assumption
    | (with_reducible apply Keeps.step (queueMetaReads_keeps ..); on_goal 1 => decide)
    | (with_reducible apply Keeps.step (joinLock_keeps ..); on_goal 1 => decide)
    | (with_reducible apply Keeps.step (State.setPline_keeps ..); on_goal 1 => decide)
    | with_reducible apply Keeps.ite
    | (extract_lets +onlyGivenNames x; with_reducible apply Keeps.cut (x := by apply x) <;> [(unfold x; clear x); (clear_value x; intro _; revert x; intros)])
    | (extract_lets +onlyGivenNames x; clear_value x; revert x; intros)
    | split
    | dsimp -zeta only)

theorem remoteRequest_keeps (purpose d dline lines : Nat) (asOf : Stamp) (deadline c l : Nat) (s : State) : Keeps 8044675071 s (remoteRequest purpose d dline lines asOf deadline c l s) := by
  unfold remoteRequest
  repeat' (first
    | with_reducible exact Keeps.refl _
    | with_reducible assumption
    | (with_reducible apply Keeps.step (sendPaths_keeps ..); on_goal 1 => decide)
    | with_reducible apply Keeps.ite
    | (extract_lets +onlyGivenNames x; with_reducible apply Keeps.cut (x := by apply x) <;> [(unfold x; clear x); (clear_value x; intro _; revert x; intros)])
    | (extract_lets +onlyGivenNames x; clear_value x; revert x; intros)
    | fail_if_no_progress (with_reducible apply Keeps.upd_mirror <;> [skip; decide])
    | dsimp -zeta only)

theorem answerAway_keeps (a : Access) (s : State) : Keeps 3663723005 s (answerAway a s) := by
  unfold answerAway
  repeat' (first
    | with_reducible exact Keeps.refl _
    | with_reducible assumption
    | (with_reducible apply Keeps.step (answer_keeps ..); on_goal 1 => decide)
    | (with_reducible apply Keeps.step (State.addObj_keeps ..); on_goal 1 => decide)
    | with_reducible apply Keeps.ite
    | (extract_lets +onlyGivenNames x; with_reducible apply Keeps.cut (x := by apply x) <;> [(unfold x; clear x); (clear_value x; intro _; revert x; intros)])
    | (extract_lets +onlyGivenNames x; clear_value x; revert x; intros)
    | dsimp -zeta only)

theorem missLine_keeps (a : Access) (s : State) : Keeps 3663722893 s (missLine a s).1 := by
  unfold missLine
  repeat' (first
    | with_reducible exact Keeps.refl _
    | with_reducible assumption
    | (with_reducible apply Keeps.step (touchPlaza_keeps ..); on_goal 1 => decide)
    | (with_reducible apply Keeps.step (checkDirtyHigh_keeps ..); on_goal 1 => decide)
    | (with_reducible apply Keeps.step (takeWay_keeps ..); on_goal 1 => decide)
    | (with_reducible apply Keeps.step (queueFill_keeps ..); on_goal 1 => decide)
    | (with_reducible apply Keeps.step (remoteRequest_keeps ..); on_goal 1 => decide)
    | (with_reducible apply Keeps.step (answerAway_keeps ..); on_goal 1 => decide)
    | (with_reducible apply Keeps.step (State.setPline_keeps ..); on_goal 1 => decide)
    | with_reducible apply Keeps.ite
    | with_reducible apply Keeps.ite_fst
    | (extract_lets +onlyGivenNames x; with_reducible apply Keeps.cut (x := by apply x) <;> [(unfold x; clear x); (clear_value x; intro _; revert x; intros)])
    | (extract_lets +onlyGivenNames x; with_reducible apply Keeps.cut (x := by apply x.1) <;> [(unfold x; clear x); (clear_value x; intro _; revert x; intros)])
    | (extract_lets +onlyGivenNames x; clear_value x; revert x; intros)
    | split
    | dsimp -zeta only)

theorem rawUnits_keeps (c l d dline : Nat) (s : State) : Keeps 2340947919 s (rawUnits c l d dline s).1 := by
  unfold rawUnits
  repeat' (first
    | with_reducible exact Keeps.refl _
    | with_reducible assumption
    | (with_reducible apply Keeps.step (readDram_keeps ..); on_goal 1 => decide)
    | (with_reducible apply Keeps.step (needLine_keeps ..); on_goal 1 => decide)
    | with_reducible apply Keeps.ite
    | with_reducible apply Keeps.ite_fst
    | (extract_lets +onlyGivenNames x; with_reducible apply Keeps.cut (x := by apply x) <;> [(unfold x; clear x); (clear_value x; intro _; revert x; intros)])
    | (extract_lets +onlyGivenNames x; with_reducible apply Keeps.cut (x := by apply x.1) <;> [(unfold x; clear x); (clear_value x; intro _; revert x; intros)])
    | (extract_lets +onlyGivenNames x; unfold x; clear x)
    | split
    | dsimp -zeta only)

theorem writeBackNow_keeps (c l : Nat) (s : State) : Keeps 2340947919 s (writeBackNow c l s).1 := by
  unfold writeBackNow
  repeat' (first
    | with_reducible exact Keeps.refl _
    | with_reducible assumption
    | (with_reducible apply Keeps.step (storeData_keeps ..); on_goal 1 => decide)
    | split
    | dsimp -zeta only)

theorem applyRead_keeps (a : Access) (s : State) : Keeps 3663722893 s (applyRead a s).1 := by
  unfold applyRead
  repeat' (first
    | with_reducible exact Keeps.refl _
    | with_reducible assumption
    | (with_reducible apply Keeps.step (countChan_keeps ..); on_goal 1 => decide)
    | (with_reducible apply Keeps.step (noteT_keeps ..); on_goal 1 => decide)
    | (with_reducible apply Keeps.step (flagSample_keeps ..); on_goal 1 => decide)
    | (with_reducible apply Keeps.step (answer_keeps ..); on_goal 1 => decide)
    | (with_reducible apply Keeps.step (touchPlaza_keeps ..); on_goal 1 => decide)
    | (with_reducible apply Keeps.step (recordCopy_keeps ..); on_goal 1 => decide)
    | (with_reducible apply Keeps.step (missLine_keeps ..); on_goal 1 => decide)
    | (with_reducible apply Keeps.step (State.setPline_keeps ..); on_goal 1 => decide)
    | with_reducible apply Keeps.ite
    | with_reducible apply Keeps.ite_fst
    | (extract_lets +onlyGivenNames x; with_reducible apply Keeps.cut (x := by apply x) <;> [(unfold x; clear x); (clear_value x; intro _; revert x; intros)])
    | (extract_lets +onlyGivenNames x; with_reducible apply Keeps.cut (x := by apply x.1) <;> [(unfold x; clear x); (clear_value x; intro _; revert x; intros)])
    | (extract_lets +onlyGivenNames x; clear_value x; revert x; intros)
    | split
    | dsimp -zeta only)

theorem rawAway_keeps (a : Access) (s : State) : Keeps 3663722893 s (rawAway a s).1 := by
  unfold rawAway
  repeat' (first
    | with_reducible exact Keeps.refl _
    | with_reducible assumption
    | (with_reducible apply Keeps.step (answerAway_keeps ..); on_goal 1 => decide)
    | (with_reducible apply Keeps.step (applyRead_keeps ..); on_goal 1 => decide)
    | with_reducible apply Keeps.ite
    | with_reducible apply Keeps.ite_fst
    | dsimp -zeta only)

theorem applyRaw_keeps (a : Access) (s : State) : Keeps 2315780493 s (applyRaw a s).1 := by
  unfold applyRaw
  repeat' (first
    | with_reducible exact Keeps.refl _
    | with_reducible assumption
    | (with_reducible apply Keeps.step (enqueue_keeps ..); on_goal 1 => decide)
    | (with_reducible apply Keeps.step (queueMetaReads_keeps ..); on_goal 1 => decide)
    | (with_reducible apply Keeps.step (noteWake_keeps ..); on_goal 1 => decide)
    | (with_reducible apply Keeps.step (rawUnits_keeps ..); on_goal 1 => decide)
    | (with_reducible apply Keeps.step (writeBackNow_keeps ..); on_goal 1 => decide)
    | (with_reducible apply Keeps.step (rawAway_keeps ..); on_goal 1 => decide)
    | (with_reducible apply Keeps.step (State.setPline_keeps ..); on_goal 1 => decide)
    | with_reducible apply Keeps.ite
    | with_reducible apply Keeps.ite_fst
    | (extract_lets +onlyGivenNames x; with_reducible apply Keeps.cut (x := by apply x) <;> [(unfold x; clear x); (clear_value x; intro _; revert x; intros)])
    | (extract_lets +onlyGivenNames x; with_reducible apply Keeps.cut (x := by apply x.1) <;> [(unfold x; clear x); (clear_value x; intro _; revert x; intros)])
    | (extract_lets +onlyGivenNames x; clear_value x; revert x; intros)
    | split
    | dsimp -zeta only)

theorem applyWrite_keeps (a : Access) (s : State) : Keeps 3663460749 s (applyWrite a s).1 := by
  unfold applyWrite
  repeat' (first
    | with_reducible exact Keeps.refl _
    | with_reducible assumption
    | (with_reducible apply Keeps.step (countChan_keeps ..); on_goal 1 => decide)
    | (with_reducible apply Keeps.step (answer_keeps ..); on_goal 1 => decide)
    | (with_reducible apply Keeps.step (takeWay_keeps ..); on_goal 1 => decide)
    | (with_reducible apply Keeps.step (applyToLine_keeps ..); on_goal 1 => decide)
    | (with_reducible apply Keeps.step (lockWrite_keeps ..); on_goal 1 => decide)
    | (with_reducible apply Keeps.step (missLine_keeps ..); on_goal 1 => decide)
    | (with_reducible apply Keeps.step (State.setPline_keeps ..); on_goal 1 => decide)
    | with_reducible apply Keeps.ite
    | with_reducible apply Keeps.ite_fst
    | (extract_lets +onlyGivenNames x; with_reducible apply Keeps.cut (x := by apply x) <;> [(unfold x; clear x); (clear_value x; intro _; revert x; intros)])
    | (extract_lets +onlyGivenNames x; with_reducible apply Keeps.cut (x := by apply x.1) <;> [(unfold x; clear x); (clear_value x; intro _; revert x; intros)])
    | (extract_lets +onlyGivenNames x; clear_value x; revert x; intros)
    | split
    | dsimp -zeta only)

theorem applyAccess_keeps (a : Access) (s : State) : Keeps 2315780493 s (applyAccess a s).1 := by
  unfold applyAccess
  repeat' (first
    | with_reducible exact Keeps.refl _
    | with_reducible assumption
    | (with_reducible apply Keeps.step (applyRead_keeps ..); on_goal 1 => decide)
    | (with_reducible apply Keeps.step (applyRaw_keeps ..); on_goal 1 => decide)
    | (with_reducible apply Keeps.step (applyWrite_keeps ..); on_goal 1 => decide)
    | split
    | dsimp -zeta only)

theorem settleAll_keeps (c : Nat) (h : Stamp) (l kept : List Access) (s : State) : Keeps 2315780365 s (settleAll c h l kept s) := by
  induction l generalizing kept s with
  | nil => unfold settleAll; repeat' (first | (with_reducible apply Keeps.step (ih ..); on_goal 1 => decide) | with_reducible exact Keeps.refl _ | with_reducible assumption | (with_reducible apply Keeps.step (settleWaits_keeps ..); on_goal 1 => decide) | (with_reducible apply Keeps.step (closeDurable_keeps ..); on_goal 1 => decide) | (with_reducible apply Keeps.step (applyAccess_keeps ..); on_goal 1 => decide) | with_reducible apply Keeps.ite | with_reducible apply Keeps.ite_fst | (extract_lets +onlyGivenNames x; with_reducible apply Keeps.cut (x := by apply x) <;> [(unfold x; clear x); (clear_value x; intro _; revert x; intros)]) | (extract_lets +onlyGivenNames x; with_reducible apply Keeps.cut (x := by apply x.1) <;> [(unfold x; clear x); (clear_value x; intro _; revert x; intros)]) | (extract_lets +onlyGivenNames x; clear_value x; revert x; intros) | fail_if_no_progress (with_reducible apply Keeps.upd_order <;> [skip; decide]) | dsimp -zeta only)
  | cons a rest ih => unfold settleAll; repeat' (first | (with_reducible apply Keeps.step (ih ..); on_goal 1 => decide) | with_reducible exact Keeps.refl _ | with_reducible assumption | (with_reducible apply Keeps.step (settleWaits_keeps ..); on_goal 1 => decide) | (with_reducible apply Keeps.step (closeDurable_keeps ..); on_goal 1 => decide) | (with_reducible apply Keeps.step (applyAccess_keeps ..); on_goal 1 => decide) | with_reducible apply Keeps.ite | with_reducible apply Keeps.ite_fst | (extract_lets +onlyGivenNames x; with_reducible apply Keeps.cut (x := by apply x) <;> [(unfold x; clear x); (clear_value x; intro _; revert x; intros)]) | (extract_lets +onlyGivenNames x; with_reducible apply Keeps.cut (x := by apply x.1) <;> [(unfold x; clear x); (clear_value x; intro _; revert x; intros)]) | (extract_lets +onlyGivenNames x; clear_value x; revert x; intros) | fail_if_no_progress (with_reducible apply Keeps.upd_order <;> [skip; decide]) | dsimp -zeta only)


theorem advanceHorizon_keeps (c : Nat) (s : State) : Keeps 2315780365 s (advanceHorizon c s) := by
  unfold advanceHorizon
  repeat' (first
    | with_reducible exact Keeps.refl _
    | with_reducible assumption
    | (with_reducible apply Keeps.step (settleAll_keeps ..); on_goal 1 => decide)
    | with_reducible apply Keeps.ite
    | (extract_lets +onlyGivenNames x; with_reducible apply Keeps.cut (x := by apply x) <;> [(unfold x; clear x); (clear_value x; intro _; revert x; intros)])
    | (extract_lets +onlyGivenNames x; clear_value x; revert x; intros)
    | dsimp -zeta only)

theorem enterOrder_keeps (a : Access) (s : State) : Keeps 8589934463 s (enterOrder a s) := by
  unfold enterOrder
  repeat' (first
    | with_reducible exact Keeps.refl _
    | with_reducible assumption
    | (extract_lets +onlyGivenNames x; with_reducible apply Keeps.cut (x := by apply x) <;> [(unfold x; clear x); (clear_value x; intro _; revert x; intros)])
    | (extract_lets +onlyGivenNames x; unfold x; clear x)
    | fail_if_no_progress (with_reducible apply Keeps.upd_order <;> [skip; decide])
    | dsimp -zeta only)

theorem replayWaiting_keeps (status : Nat) (l : List Access) (v : BitVec 512) (s : State) : Keeps 3663460861 s (replayWaiting status l v s).1 := by
  induction l generalizing v s with
  | nil => unfold replayWaiting; repeat' (first | (with_reducible apply Keeps.step (ih ..); on_goal 1 => decide) | with_reducible exact Keeps.refl _ | with_reducible assumption | (with_reducible apply Keeps.step (noteLine_keeps ..); on_goal 1 => decide) | (with_reducible apply Keeps.step (flagSample_keeps ..); on_goal 1 => decide) | (with_reducible apply Keeps.step (answer_keeps ..); on_goal 1 => decide) | (with_reducible apply Keeps.step (recordCopy_keeps ..); on_goal 1 => decide) | (with_reducible apply Keeps.step (recordWrite_keeps ..); on_goal 1 => decide) | with_reducible apply Keeps.ite | with_reducible apply Keeps.ite_fst | (extract_lets +onlyGivenNames x; with_reducible apply Keeps.cut (x := by apply x) <;> [(unfold x; clear x); (clear_value x; intro _; revert x; intros)]) | (extract_lets +onlyGivenNames x; with_reducible apply Keeps.cut (x := by apply x.1) <;> [(unfold x; clear x); (clear_value x; intro _; revert x; intros)]) | (extract_lets +onlyGivenNames x; clear_value x; revert x; intros) | dsimp -zeta only)
  | cons a rest ih => unfold replayWaiting; repeat' (first | (with_reducible apply Keeps.step (ih ..); on_goal 1 => decide) | with_reducible exact Keeps.refl _ | with_reducible assumption | (with_reducible apply Keeps.step (noteLine_keeps ..); on_goal 1 => decide) | (with_reducible apply Keeps.step (flagSample_keeps ..); on_goal 1 => decide) | (with_reducible apply Keeps.step (answer_keeps ..); on_goal 1 => decide) | (with_reducible apply Keeps.step (recordCopy_keeps ..); on_goal 1 => decide) | (with_reducible apply Keeps.step (recordWrite_keeps ..); on_goal 1 => decide) | with_reducible apply Keeps.ite | with_reducible apply Keeps.ite_fst | (extract_lets +onlyGivenNames x; with_reducible apply Keeps.cut (x := by apply x) <;> [(unfold x; clear x); (clear_value x; intro _; revert x; intros)]) | (extract_lets +onlyGivenNames x; with_reducible apply Keeps.cut (x := by apply x.1) <;> [(unfold x; clear x); (clear_value x; intro _; revert x; intros)]) | (extract_lets +onlyGivenNames x; clear_value x; revert x; intros) | dsimp -zeta only)


theorem fillOk_keeps (c l : Nat) (v : BitVec 512) (status : Nat) (s : State) : Keeps 3663460813 s (fillOk c l v status s) := by
  unfold fillOk
  repeat' (first
    | with_reducible exact Keeps.refl _
    | with_reducible assumption
    | (with_reducible apply Keeps.step (settleWaits_keeps ..); on_goal 1 => decide)
    | (with_reducible apply Keeps.step (checkDirtyHigh_keeps ..); on_goal 1 => decide)
    | (with_reducible apply Keeps.step (closeDurable_keeps ..); on_goal 1 => decide)
    | (with_reducible apply Keeps.step (replayWaiting_keeps ..); on_goal 1 => decide)
    | (with_reducible apply Keeps.step (State.setPline_keeps ..); on_goal 1 => decide)
    | with_reducible apply Keeps.ite
    | with_reducible apply Keeps.ite_fst
    | (extract_lets +onlyGivenNames x; with_reducible apply Keeps.cut (x := by apply x) <;> [(unfold x; clear x); (clear_value x; intro _; revert x; intros)])
    | (extract_lets +onlyGivenNames x; with_reducible apply Keeps.cut (x := by apply x.1) <;> [(unfold x; clear x); (clear_value x; intro _; revert x; intros)])
    | (extract_lets +onlyGivenNames x; clear_value x; revert x; intros)
    | split
    | dsimp -zeta only)

theorem fillError_keeps (c l status : Nat) (s : State) : Keeps 3663722845 s (fillError c l status s) := by
  unfold fillError
  repeat' (first
    | with_reducible exact Keeps.refl _
    | with_reducible assumption
    | (with_reducible apply Keeps.step (noteLine_keeps ..); on_goal 1 => decide)
    | (with_reducible apply Keeps.step (answer_keeps ..); on_goal 1 => decide)
    | (with_reducible apply Keeps.step (closeDurable_keeps ..); on_goal 1 => decide)
    | (with_reducible apply Keeps.step (State.addObj_keeps ..); on_goal 1 => decide)
    | (with_reducible apply Keeps.step (State.setPline_keeps ..); on_goal 1 => decide)
    | (with_reducible apply Keeps.step (State.delPline_keeps ..); on_goal 1 => decide)
    | with_reducible apply Keeps.ite
    | with_reducible apply Keeps.ite_fst
    | (with_reducible apply Keeps.foldl <;> [skip; intro _ _ _])
    | (with_reducible apply Keeps.foldl_fst <;> [skip; intro _ _ _])
    | (extract_lets +onlyGivenNames x; with_reducible apply Keeps.cut (x := by apply x) <;> [(unfold x; clear x); (clear_value x; intro _; revert x; intros)])
    | (extract_lets +onlyGivenNames x; with_reducible apply Keeps.cut (x := by apply x.1) <;> [(unfold x; clear x); (clear_value x; intro _; revert x; intros)])
    | (extract_lets +onlyGivenNames x; clear_value x; revert x; intros)
    | split
    | fail_if_no_progress (with_reducible apply Keeps.upd_order <;> [skip; decide])
    | dsimp -zeta only)

theorem completeFill_keeps (c l : Nat) (s : State) : Keeps 2315780365 s (completeFill c l s) := by
  unfold completeFill
  repeat' (first
    | with_reducible exact Keeps.refl _
    | with_reducible assumption
    | (with_reducible apply Keeps.step (fillLine_keeps ..); on_goal 1 => decide)
    | (with_reducible apply Keeps.step (advanceHorizon_keeps ..); on_goal 1 => decide)
    | (with_reducible apply Keeps.step (fillOk_keeps ..); on_goal 1 => decide)
    | (with_reducible apply Keeps.step (fillError_keeps ..); on_goal 1 => decide)
    | (extract_lets +onlyGivenNames x; with_reducible apply Keeps.cut (x := by apply x) <;> [(unfold x; clear x); (clear_value x; intro _; revert x; intros)])
    | (extract_lets +onlyGivenNames x; with_reducible apply Keeps.cut (x := by apply x.1) <;> [(unfold x; clear x); (clear_value x; intro _; revert x; intros)])
    | (extract_lets +onlyGivenNames x; clear_value x; revert x; intros)
    | split
    | dsimp -zeta only)

end Sys2Proof.Machine
end

