-- ==== Sys2Proof/Laws/KeepsMirrorState.lean ====
section
/-! SUPPORT. What each function of Machine/MirrorState.lean can do (see Laws/Keeps.lean). -/

set_option linter.tactic.unusedName false
set_option linter.unusedTactic false
set_option linter.unreachableTactic false

namespace Sys2Proof.Machine

theorem setLeadEpoch_keeps (d n : Nat) (s : State) : Keeps 8049917951 s (setLeadEpoch d n s) := by
  unfold setLeadEpoch
  repeat' (first
    | with_reducible exact Keeps.refl _
    | with_reducible assumption
    | (with_reducible apply Keeps.step (writeVault_keeps ..); on_goal 1 => decide)
    | (with_reducible apply Keeps.step (publishVault_keeps ..); on_goal 1 => decide)
    | fail_if_no_progress (with_reducible apply Keeps.upd_vault <;> [skip; decide])
    | dsimp -zeta only)

theorem removeFrames_keeps (d : Nat) (s : State) : Keeps 8581545983 s (removeFrames d s) := by
  unfold removeFrames
  repeat' (first
    | with_reducible exact Keeps.refl _
    | with_reducible assumption
    | (with_reducible apply Keeps.step (releaseReplay_keeps ..); on_goal 1 => decide)
    | (with_reducible apply Keeps.step (State.setTx_keeps ..); on_goal 1 => decide)
    | (with_reducible apply Keeps.foldl <;> [skip; intro _ _ _])
    | (with_reducible apply Keeps.foldl_fst <;> [skip; intro _ _ _])
    | (extract_lets +onlyGivenNames x; with_reducible apply Keeps.cut (x := by apply x) <;> [(unfold x; clear x); (clear_value x; intro _; revert x; intros)])
    | (extract_lets +onlyGivenNames x; with_reducible apply Keeps.cut (x := by apply x.1) <;> [(unfold x; clear x); (clear_value x; intro _; revert x; intros)])
    | (extract_lets +onlyGivenNames x; clear_value x; revert x; intros)
    | fail_if_no_progress (with_reducible apply Keeps.upd_mirror <;> [skip; decide])
    | dsimp -zeta only)

theorem dropRequests_keeps (d : Nat) (s : State) : Keeps 3663722845 s (dropRequests d s) := by
  unfold dropRequests
  repeat' (first
    | with_reducible exact Keeps.refl _
    | with_reducible assumption
    | (with_reducible apply Keeps.step (fillError_keeps ..); on_goal 1 => decide)
    | with_reducible apply Keeps.ite
    | with_reducible apply Keeps.ite_fst
    | (with_reducible apply Keeps.foldl <;> [skip; intro _ _ _])
    | (with_reducible apply Keeps.foldl_fst <;> [skip; intro _ _ _])
    | (extract_lets +onlyGivenNames x; with_reducible apply Keeps.cut (x := by apply x) <;> [(unfold x; clear x); (clear_value x; intro _; revert x; intros)])
    | (extract_lets +onlyGivenNames x; with_reducible apply Keeps.cut (x := by apply x.1) <;> [(unfold x; clear x); (clear_value x; intro _; revert x; intros)])
    | (extract_lets +onlyGivenNames x; clear_value x; revert x; intros)
    | fail_if_no_progress (with_reducible apply Keeps.upd_mirror <;> [skip; decide])
    | dsimp -zeta only)

theorem repairsMark_keeps (d : Nat) (s : State) : Keeps 8585740287 s (repairsMark d s) := by
  unfold repairsMark
  repeat' (first
    | with_reducible exact Keeps.refl _
    | with_reducible assumption
    | with_reducible apply Keeps.ite
    | with_reducible apply Keeps.ite_fst
    | fail_if_no_progress (with_reducible apply Keeps.upd_repair <;> [skip; decide])
    | dsimp -zeta only)

theorem leaveSync_keeps (d : Nat) (s : State) : Keeps 3659528541 s (leaveSync d s) := by
  unfold leaveSync
  repeat' (first
    | with_reducible exact Keeps.refl _
    | with_reducible assumption
    | (with_reducible apply Keeps.step (dropRequests_keeps ..); on_goal 1 => decide)
    | (with_reducible apply Keeps.step (repairsMark_keeps ..); on_goal 1 => decide)
    | dsimp -zeta only)

theorem breakMirror_keeps (d reason : Nat) (s : State) : Keeps 3659266397 s (breakMirror d reason s) := by
  unfold breakMirror
  repeat' (first
    | with_reducible exact Keeps.refl _
    | with_reducible assumption
    | (with_reducible apply Keeps.step (settleWaits_keeps ..); on_goal 1 => decide)
    | (with_reducible apply Keeps.step (removeFrames_keeps ..); on_goal 1 => decide)
    | (with_reducible apply Keeps.step (leaveSync_keeps ..); on_goal 1 => decide)
    | (with_reducible apply Keeps.step (State.setObj_keeps ..); on_goal 1 => decide)
    | (with_reducible apply Keeps.step (State.addObj_keeps ..); on_goal 1 => decide)
    | (with_reducible apply Keeps.step (State.modDist_keeps ..); on_goal 1 => decide)
    | (with_reducible apply Keeps.step (State.raise_keeps ..); on_goal 1 => decide)
    | (extract_lets +onlyGivenNames x; with_reducible apply Keeps.cut (x := by apply x) <;> [(unfold x; clear x); (clear_value x; intro _; revert x; intros)])
    | (extract_lets +onlyGivenNames x; clear_value x; revert x; intros)
    | dsimp -zeta only)

theorem enterConflict_keeps (d reason : Nat) (s : State) : Keeps 3688628223 s (enterConflict d reason s) := by
  unfold enterConflict
  repeat' (first
    | with_reducible exact Keeps.refl _
    | with_reducible assumption
    | (with_reducible apply Keeps.step (State.setObj_keeps ..); on_goal 1 => decide)
    | (with_reducible apply Keeps.step (State.modDist_keeps ..); on_goal 1 => decide)
    | (with_reducible apply Keeps.step (State.raise_keeps ..); on_goal 1 => decide)
    | dsimp -zeta only)

theorem enterInSync_keeps (d : Nat) (s : State) : Keeps 3688628223 s (enterInSync d s) := by
  unfold enterInSync
  repeat' (first
    | with_reducible exact Keeps.refl _
    | with_reducible assumption
    | (with_reducible apply Keeps.step (State.setObj_keeps ..); on_goal 1 => decide)
    | (with_reducible apply Keeps.step (State.modDist_keeps ..); on_goal 1 => decide)
    | (with_reducible apply Keeps.step (State.raise_keeps ..); on_goal 1 => decide)
    | (extract_lets +onlyGivenNames x; with_reducible apply Keeps.cut (x := by apply x) <;> [(unfold x; clear x); (clear_value x; intro _; revert x; intros)])
    | (extract_lets +onlyGivenNames x; clear_value x; revert x; intros)
    | dsimp -zeta only)

theorem enterResync_keeps (d : Nat) (s : State) : Keeps 8052801535 s (enterResync d s) := by
  unfold enterResync
  repeat' (first
    | with_reducible exact Keeps.refl _
    | with_reducible assumption
    | (with_reducible apply Keeps.step (State.setObj_keeps ..); on_goal 1 => decide)
    | (with_reducible apply Keeps.step (State.setDist_keeps ..); on_goal 1 => decide)
    | with_reducible apply Keeps.ite
    | (extract_lets +onlyGivenNames x; with_reducible apply Keeps.cut (x := by apply x) <;> [(unfold x; clear x); (clear_value x; intro _; revert x; intros)])
    | (extract_lets +onlyGivenNames x; clear_value x; revert x; intros)
    | dsimp -zeta only)

theorem checkResync_keeps (d : Nat) (s : State) : Keeps 3688628223 s (checkResync d s) := by
  unfold checkResync
  repeat' (first
    | with_reducible exact Keeps.refl _
    | with_reducible assumption
    | (with_reducible apply Keeps.step (enterInSync_keeps ..); on_goal 1 => decide)
    | with_reducible apply Keeps.ite
    | (extract_lets +onlyGivenNames x; with_reducible apply Keeps.cut (x := by apply x) <;> [(unfold x; clear x); (clear_value x; intro _; revert x; intros)])
    | (extract_lets +onlyGivenNames x; clear_value x; revert x; intros)
    | dsimp -zeta only)

theorem sessionsExhausted_keeps (s : State) : Keeps 8044412927 s (sessionsExhausted s) := by
  unfold sessionsExhausted
  repeat' (first
    | with_reducible exact Keeps.refl _
    | with_reducible assumption
    | (with_reducible apply Keeps.step (removeFrames_keeps ..); on_goal 1 => decide)
    | (with_reducible apply Keeps.step (State.setObj_keeps ..); on_goal 1 => decide)
    | (with_reducible apply Keeps.step (State.modDist_keeps ..); on_goal 1 => decide)
    | with_reducible apply Keeps.ite
    | (with_reducible apply Keeps.forN <;> [skip; intro _ _ _])
    | (extract_lets +onlyGivenNames x; with_reducible apply Keeps.cut (x := by apply x) <;> [(unfold x; clear x); (clear_value x; intro _; revert x; intros)])
    | (extract_lets +onlyGivenNames x; clear_value x; revert x; intros)
    | fail_if_no_progress (with_reducible apply Keeps.upd_mirror <;> [skip; decide])
    | dsimp -zeta only)

theorem startSession_keeps (s : State) : Keeps 8041267199 s (startSession s) := by
  unfold startSession
  repeat' (first
    | with_reducible exact Keeps.refl _
    | with_reducible assumption
    | (with_reducible apply Keeps.step (writeVault_keeps ..); on_goal 1 => decide)
    | (with_reducible apply Keeps.step (sessionsExhausted_keeps ..); on_goal 1 => decide)
    | (with_reducible apply Keeps.step (State.setObj_keeps ..); on_goal 1 => decide)
    | with_reducible apply Keeps.ite
    | (with_reducible apply Keeps.forN <;> [skip; intro _ _ _])
    | (extract_lets +onlyGivenNames x; with_reducible apply Keeps.cut (x := by apply x) <;> [(unfold x; clear x); (clear_value x; intro _; revert x; intros)])
    | (extract_lets +onlyGivenNames x; clear_value x; revert x; intros)
    | fail_if_no_progress (with_reducible apply Keeps.upd_mirror <;> [skip; decide])
    | fail_if_no_progress (with_reducible apply Keeps.upd_vault <;> [skip; decide])
    | dsimp -zeta only)

theorem reframe_keeps (s : State) : Keeps 3658217821 s (reframe s) := by
  unfold reframe
  repeat' (first
    | with_reducible exact Keeps.refl _
    | with_reducible assumption
    | (with_reducible apply Keeps.step (sendData_keeps ..); on_goal 1 => decide)
    | (with_reducible apply Keeps.step (leaveSync_keeps ..); on_goal 1 => decide)
    | (with_reducible apply Keeps.step (enterResync_keeps ..); on_goal 1 => decide)
    | (with_reducible apply Keeps.step (checkResync_keeps ..); on_goal 1 => decide)
    | (with_reducible apply Keeps.step (startSession_keeps ..); on_goal 1 => decide)
    | (with_reducible apply Keeps.step (State.setObj_keeps ..); on_goal 1 => decide)
    | with_reducible apply Keeps.ite
    | with_reducible apply Keeps.ite_fst
    | (with_reducible apply Keeps.foldl <;> [skip; intro _ _ _])
    | (with_reducible apply Keeps.foldl_fst <;> [skip; intro _ _ _])
    | (with_reducible apply Keeps.forN_fst <;> [skip; intro _ _ _])
    | (with_reducible apply Keeps.forN <;> [skip; intro _ _ _])
    | (extract_lets +onlyGivenNames x; with_reducible apply Keeps.cut (x := by apply x) <;> [(unfold x; clear x); (clear_value x; intro _; revert x; intros)])
    | (extract_lets +onlyGivenNames x; with_reducible apply Keeps.cut (x := by apply x.1) <;> [(unfold x; clear x); (clear_value x; intro _; revert x; intros)])
    | (extract_lets +onlyGivenNames x; unfold x; clear x)
    | split
    | fail_if_no_progress (with_reducible apply Keeps.upd_mirror <;> [skip; decide])
    | fail_if_no_progress (with_reducible apply Keeps.upd_plaza <;> [skip; decide])
    | dsimp -zeta only)

theorem sendHello_keeps (s : State) : Keeps 8044675071 s (sendHello s) := by
  unfold sendHello
  repeat' (first
    | with_reducible exact Keeps.refl _
    | with_reducible assumption
    | (with_reducible apply Keeps.step (sendOn_keeps ..); on_goal 1 => decide)
    | (with_reducible apply Keeps.step (State.addObj_keeps ..); on_goal 1 => decide)
    | with_reducible apply Keeps.ite
    | (with_reducible apply Keeps.forN <;> [skip; intro _ _ _])
    | (extract_lets +onlyGivenNames x; with_reducible apply Keeps.cut (x := by apply x) <;> [(unfold x; clear x); (clear_value x; intro _; revert x; intros)])
    | (extract_lets +onlyGivenNames x; clear_value x; revert x; intros)
    | fail_if_no_progress (with_reducible apply Keeps.upd_mirror <;> [skip; decide])
    | dsimp -zeta only)

theorem sendAck_keeps (naks : List (Nat × Nat × Nat)) (s : State) : Keeps 8044675071 s (sendAck naks s) := by
  unfold sendAck
  repeat' (first
    | with_reducible exact Keeps.refl _
    | with_reducible assumption
    | (with_reducible apply Keeps.step (sendPaths_keeps ..); on_goal 1 => decide)
    | (with_reducible apply Keeps.step (State.setObj_keeps ..); on_goal 1 => decide)
    | (with_reducible apply Keeps.step (State.addObj_keeps ..); on_goal 1 => decide)
    | with_reducible apply Keeps.ite
    | with_reducible apply Keeps.ite_fst
    | (with_reducible apply Keeps.forN_fst <;> [skip; intro _ _ _])
    | (with_reducible apply Keeps.forN <;> [skip; intro _ _ _])
    | (extract_lets +onlyGivenNames x; with_reducible apply Keeps.cut (x := by apply x) <;> [(unfold x; clear x); (clear_value x; intro _; revert x; intros)])
    | (extract_lets +onlyGivenNames x; with_reducible apply Keeps.cut (x := by apply x.1) <;> [(unfold x; clear x); (clear_value x; intro _; revert x; intros)])
    | (extract_lets +onlyGivenNames x; unfold x; clear x)
    | fail_if_no_progress (with_reducible apply Keeps.upd_mirror <;> [skip; decide])
    | dsimp -zeta only)

theorem noteCopy_keeps (d : Nat) (r : MRec) (s : State) : Keeps 3688628223 s (noteCopy d r s) := by
  unfold noteCopy
  repeat' (first
    | with_reducible exact Keeps.refl _
    | with_reducible assumption
    | (with_reducible apply Keeps.step (checkResync_keeps ..); on_goal 1 => decide)
    | (with_reducible apply Keeps.step (State.setObj_keeps ..); on_goal 1 => decide)
    | (with_reducible apply Keeps.step (State.modDist_keeps ..); on_goal 1 => decide)
    | with_reducible apply Keeps.ite
    | (extract_lets +onlyGivenNames x; with_reducible apply Keeps.cut (x := by apply x) <;> [(unfold x; clear x); (clear_value x; intro _; revert x; intros)])
    | (extract_lets +onlyGivenNames x; clear_value x; revert x; intros)
    | dsimp -zeta only)

theorem advanceCum_keeps (k : Nat) (s : State) : Keeps 8581545983 s (advanceCum k s).1 := by
  unfold advanceCum
  repeat' (first
    | with_reducible exact Keeps.refl _
    | with_reducible assumption
    | (with_reducible apply Keeps.step (State.setRx_keeps ..); on_goal 1 => decide)
    | (extract_lets +onlyGivenNames x; with_reducible apply Keeps.cut (x := by apply x) <;> [(unfold x; clear x); (clear_value x; intro _; revert x; intros)])
    | (extract_lets +onlyGivenNames x; with_reducible apply Keeps.cut (x := by apply x.1) <;> [(unfold x; clear x); (clear_value x; intro _; revert x; intros)])
    | (extract_lets +onlyGivenNames x; clear_value x; revert x; intros)
    | dsimp -zeta only)

theorem applyHorizon_keeps (d : Nat) (s : State) : Keeps 2315780365 s (applyHorizon d s) := by
  unfold applyHorizon
  repeat' (first
    | with_reducible exact Keeps.refl _
    | with_reducible assumption
    | (with_reducible apply Keeps.step (advanceHorizon_keeps ..); on_goal 1 => decide)
    | (with_reducible apply Keeps.step (enterOrder_keeps ..); on_goal 1 => decide)
    | (with_reducible apply Keeps.step (sendAck_keeps ..); on_goal 1 => decide)
    | (with_reducible apply Keeps.step (noteCopy_keeps ..); on_goal 1 => decide)
    | (with_reducible apply Keeps.step (advanceCum_keeps ..); on_goal 1 => decide)
    | (with_reducible apply Keeps.step (State.setObj_keeps ..); on_goal 1 => decide)
    | (with_reducible apply Keeps.step (State.modDist_keeps ..); on_goal 1 => decide)
    | (with_reducible apply Keeps.step (State.setRx_keeps ..); on_goal 1 => decide)
    | with_reducible apply Keeps.ite
    | with_reducible apply Keeps.ite_fst
    | (with_reducible apply Keeps.foldl <;> [skip; intro _ _ _])
    | (with_reducible apply Keeps.foldl_fst <;> [skip; intro _ _ _])
    | (extract_lets +onlyGivenNames x; with_reducible apply Keeps.cut (x := by apply x) <;> [(unfold x; clear x); (clear_value x; intro _; revert x; intros)])
    | (extract_lets +onlyGivenNames x; with_reducible apply Keeps.cut (x := by apply x.1) <;> [(unfold x; clear x); (clear_value x; intro _; revert x; intros)])
    | (extract_lets +onlyGivenNames x; clear_value x; revert x; intros)
    | split
    | dsimp -zeta only)

theorem setRole_keeps (d role : Nat) (s : State) : Keeps 3688890367 s (setRole d role s) := by
  unfold setRole
  repeat' (first
    | with_reducible exact Keeps.refl _
    | with_reducible assumption
    | (with_reducible apply Keeps.step (State.setObj_keeps ..); on_goal 1 => decide)
    | (with_reducible apply Keeps.step (State.raise_keeps ..); on_goal 1 => decide)
    | dsimp -zeta only)

theorem discardRx_keeps (d : Nat) (s : State) : Keeps 8581545983 s (discardRx d s) := by
  unfold discardRx
  repeat' (first
    | with_reducible exact Keeps.refl _
    | with_reducible assumption
    | (with_reducible apply Keeps.step (State.setRx_keeps ..); on_goal 1 => decide)
    | with_reducible apply Keeps.ite
    | (with_reducible apply Keeps.forN <;> [skip; intro _ _ _])
    | dsimp -zeta only)

theorem promoteDistrict_keeps (d : Nat) (s : State) : Keeps 2315780365 s (promoteDistrict d s) := by
  unfold promoteDistrict
  repeat' (first
    | with_reducible exact Keeps.refl _
    | with_reducible assumption
    | (with_reducible apply Keeps.step (setLeadEpoch_keeps ..); on_goal 1 => decide)
    | (with_reducible apply Keeps.step (breakMirror_keeps ..); on_goal 1 => decide)
    | (with_reducible apply Keeps.step (enterInSync_keeps ..); on_goal 1 => decide)
    | (with_reducible apply Keeps.step (applyHorizon_keeps ..); on_goal 1 => decide)
    | (with_reducible apply Keeps.step (setRole_keeps ..); on_goal 1 => decide)
    | (with_reducible apply Keeps.step (discardRx_keeps ..); on_goal 1 => decide)
    | (with_reducible apply Keeps.step (State.modDist_keeps ..); on_goal 1 => decide)
    | with_reducible apply Keeps.ite
    | (extract_lets +onlyGivenNames x; with_reducible apply Keeps.cut (x := by apply x) <;> [(unfold x; clear x); (clear_value x; intro _; revert x; intros)])
    | (extract_lets +onlyGivenNames x; clear_value x; revert x; intros)
    | dsimp -zeta only)

theorem yieldLead_keeps (d epoch : Nat) (s : State) : Keeps 3658217821 s (yieldLead d epoch s) := by
  unfold yieldLead
  repeat' (first
    | with_reducible exact Keeps.refl _
    | with_reducible assumption
    | (with_reducible apply Keeps.step (setLeadEpoch_keeps ..); on_goal 1 => decide)
    | (with_reducible apply Keeps.step (breakMirror_keeps ..); on_goal 1 => decide)
    | (with_reducible apply Keeps.step (setRole_keeps ..); on_goal 1 => decide)
    | (with_reducible apply Keeps.step (State.modDist_keeps ..); on_goal 1 => decide)
    | (extract_lets +onlyGivenNames x; with_reducible apply Keeps.cut (x := by apply x) <;> [(unfold x; clear x); (clear_value x; intro _; revert x; intros)])
    | (extract_lets +onlyGivenNames x; clear_value x; revert x; intros)
    | dsimp -zeta only)

theorem roleEffect_keeps (d : Nat) (s : State) : Keeps 3659266397 s (roleEffect d s) := by
  unfold roleEffect
  repeat' (first
    | with_reducible exact Keeps.refl _
    | with_reducible assumption
    | (with_reducible apply Keeps.step (settleWaits_keeps ..); on_goal 1 => decide)
    | (with_reducible apply Keeps.step (removeFrames_keeps ..); on_goal 1 => decide)
    | (with_reducible apply Keeps.step (leaveSync_keeps ..); on_goal 1 => decide)
    | (with_reducible apply Keeps.step (State.setObj_keeps ..); on_goal 1 => decide)
    | (with_reducible apply Keeps.step (State.modDist_keeps ..); on_goal 1 => decide)
    | with_reducible apply Keeps.ite
    | dsimp -zeta only)

theorem pairDistrict_keeps (changed : Bool) (d : Nat) (s : State) : Keeps 3658217821 s (pairDistrict changed d s) := by
  unfold pairDistrict
  repeat' (first
    | with_reducible exact Keeps.refl _
    | with_reducible assumption
    | (with_reducible apply Keeps.step (breakMirror_keeps ..); on_goal 1 => decide)
    | (with_reducible apply Keeps.step (enterConflict_keeps ..); on_goal 1 => decide)
    | (with_reducible apply Keeps.step (enterInSync_keeps ..); on_goal 1 => decide)
    | (with_reducible apply Keeps.step (enterResync_keeps ..); on_goal 1 => decide)
    | (with_reducible apply Keeps.step (yieldLead_keeps ..); on_goal 1 => decide)
    | (with_reducible apply Keeps.step (State.modDist_keeps ..); on_goal 1 => decide)
    | with_reducible apply Keeps.ite
    | (extract_lets +onlyGivenNames x; with_reducible apply Keeps.cut (x := by apply x) <;> [(unfold x; clear x); (clear_value x; intro _; revert x; intros)])
    | (extract_lets +onlyGivenNames x; clear_value x; revert x; intros)
    | split
    | dsimp -zeta only)

theorem finishDemote_keeps (d : Nat) (s : State) : Keeps 3680239615 s (finishDemote d s) := by
  unfold finishDemote
  repeat' (first
    | with_reducible exact Keeps.refl _
    | with_reducible assumption
    | (with_reducible apply Keeps.step (sendHello_keeps ..); on_goal 1 => decide)
    | (with_reducible apply Keeps.step (setRole_keeps ..); on_goal 1 => decide)
    | (with_reducible apply Keeps.step (State.modDist_keeps ..); on_goal 1 => decide)
    | with_reducible apply Keeps.ite
    | (extract_lets +onlyGivenNames x; with_reducible apply Keeps.cut (x := by apply x) <;> [(unfold x; clear x); (clear_value x; intro _; revert x; intros)])
    | (extract_lets +onlyGivenNames x; clear_value x; revert x; intros)
    | dsimp -zeta only)

theorem serveRead_keeps (p d dline : Nat) (s : State) : Keeps 2340947919 s (serveRead p d dline s).1 := by
  unfold serveRead
  repeat' (first
    | with_reducible exact Keeps.refl _
    | with_reducible assumption
    | (with_reducible apply Keeps.step (fillLine_keeps ..); on_goal 1 => decide)
    | (extract_lets +onlyGivenNames x; with_reducible apply Keeps.cut (x := by apply x) <;> [(unfold x; clear x); (clear_value x; intro _; revert x; intros)])
    | (extract_lets +onlyGivenNames x; with_reducible apply Keeps.cut (x := by apply x.1) <;> [(unfold x; clear x); (clear_value x; intro _; revert x; intros)])
    | (extract_lets +onlyGivenNames x; clear_value x; revert x; intros)
    | split
    | dsimp -zeta only)

theorem endServe_keeps (v : Serve) (s : State) : Keeps 8581545967 s (endServe v s) := by
  unfold endServe
  repeat' (first
    | with_reducible exact Keeps.refl _
    | with_reducible assumption
    | (with_reducible apply Keeps.step (State.modChan_keeps ..); on_goal 1 => decide)
    | with_reducible apply Keeps.ite
    | with_reducible apply Keeps.ite_fst
    | (with_reducible apply Keeps.foldl <;> [skip; intro _ _ _])
    | (with_reducible apply Keeps.foldl_fst <;> [skip; intro _ _ _])
    | (extract_lets +onlyGivenNames x; with_reducible apply Keeps.cut (x := by apply x) <;> [(unfold x; clear x); (clear_value x; intro _; revert x; intros)])
    | (extract_lets +onlyGivenNames x; with_reducible apply Keeps.cut (x := by apply x.1) <;> [(unfold x; clear x); (clear_value x; intro _; revert x; intros)])
    | (extract_lets +onlyGivenNames x; clear_value x; revert x; intros)
    | fail_if_no_progress (with_reducible apply Keeps.upd_mirror <;> [skip; decide])
    | dsimp -zeta only)

theorem sendAnswer_keeps (v : Serve) (absent : Bool) (s : State) : Keeps 8044675055 s (sendAnswer v absent s) := by
  unfold sendAnswer
  repeat' (first
    | with_reducible exact Keeps.refl _
    | with_reducible assumption
    | (with_reducible apply Keeps.step (sendPaths_keeps ..); on_goal 1 => decide)
    | (with_reducible apply Keeps.step (endServe_keeps ..); on_goal 1 => decide)
    | (with_reducible apply Keeps.step (State.addObj_keeps ..); on_goal 1 => decide)
    | with_reducible apply Keeps.ite
    | with_reducible apply Keeps.ite_fst
    | (extract_lets +onlyGivenNames x; with_reducible apply Keeps.cut (x := by apply x) <;> [(unfold x; clear x); (clear_value x; intro _; revert x; intros)])
    | (extract_lets +onlyGivenNames x; with_reducible apply Keeps.cut (x := by apply x.1) <;> [(unfold x; clear x); (clear_value x; intro _; revert x; intros)])
    | (extract_lets +onlyGivenNames x; clear_value x; revert x; intros)
    | split
    | fail_if_no_progress (with_reducible apply Keeps.upd_mirror <;> [skip; decide])
    | dsimp -zeta only)

theorem queueServe_keeps (v : Serve) (k : Nat) (s : State) : Keeps 8053062639 s (queueServe v k s) := by
  unfold queueServe
  repeat' (first
    | with_reducible exact Keeps.refl _
    | with_reducible assumption
    | (with_reducible apply Keeps.step (enqueue_keeps ..); on_goal 1 => decide)
    | (with_reducible apply Keeps.step (queueMetaReads_keeps ..); on_goal 1 => decide)
    | with_reducible apply Keeps.ite
    | with_reducible apply Keeps.ite_fst
    | (extract_lets +onlyGivenNames x; with_reducible apply Keeps.cut (x := by apply x) <;> [(unfold x; clear x); (clear_value x; intro _; revert x; intros)])
    | (extract_lets +onlyGivenNames x; with_reducible apply Keeps.cut (x := by apply x.1) <;> [(unfold x; clear x); (clear_value x; intro _; revert x; intros)])
    | (extract_lets +onlyGivenNames x; clear_value x; revert x; intros)
    | dsimp -zeta only)

theorem serveStart_keeps (v : Serve) (s : State) : Keeps 8044674031 s (serveStart v s) := by
  unfold serveStart
  repeat' (first
    | with_reducible exact Keeps.refl _
    | with_reducible assumption
    | (with_reducible apply Keeps.step (sendAnswer_keeps ..); on_goal 1 => decide)
    | (with_reducible apply Keeps.step (queueServe_keeps ..); on_goal 1 => decide)
    | with_reducible apply Keeps.ite
    | with_reducible apply Keeps.ite_fst
    | (with_reducible apply Keeps.foldl <;> [skip; intro _ _ _])
    | (with_reducible apply Keeps.foldl_fst <;> [skip; intro _ _ _])
    | (extract_lets +onlyGivenNames x; with_reducible apply Keeps.cut (x := by apply x) <;> [(unfold x; clear x); (clear_value x; intro _; revert x; intros)])
    | (extract_lets +onlyGivenNames x; with_reducible apply Keeps.cut (x := by apply x.1) <;> [(unfold x; clear x); (clear_value x; intro _; revert x; intros)])
    | (extract_lets +onlyGivenNames x; clear_value x; revert x; intros)
    | fail_if_no_progress (with_reducible apply Keeps.upd_mirror <;> [skip; decide])
    | dsimp -zeta only)

theorem serveGot_keeps (seq k : Nat) (r : Nat × BitVec 512) (s : State) : Keeps 8044675055 s (serveGot seq k r s) := by
  unfold serveGot
  repeat' (first
    | with_reducible exact Keeps.refl _
    | with_reducible assumption
    | (with_reducible apply Keeps.step (endServe_keeps ..); on_goal 1 => decide)
    | (with_reducible apply Keeps.step (sendAnswer_keeps ..); on_goal 1 => decide)
    | with_reducible apply Keeps.ite
    | (extract_lets +onlyGivenNames x; with_reducible apply Keeps.cut (x := by apply x) <;> [(unfold x; clear x); (clear_value x; intro _; revert x; intros)])
    | (extract_lets +onlyGivenNames x; clear_value x; revert x; intros)
    | split
    | fail_if_no_progress (with_reducible apply Keeps.upd_mirror <;> [skip; decide])
    | dsimp -zeta only)

theorem serveReturns_keeps (seq k : Nat) (s : State) : Keeps 2332559311 s (serveReturns seq k s) := by
  unfold serveReturns
  repeat' (first
    | with_reducible exact Keeps.refl _
    | with_reducible assumption
    | (with_reducible apply Keeps.step (serveRead_keeps ..); on_goal 1 => decide)
    | (with_reducible apply Keeps.step (serveGot_keeps ..); on_goal 1 => decide)
    | (extract_lets +onlyGivenNames x; with_reducible apply Keeps.cut (x := by apply x) <;> [(unfold x; clear x); (clear_value x; intro _; revert x; intros)])
    | (extract_lets +onlyGivenNames x; with_reducible apply Keeps.cut (x := by apply x.1) <;> [(unfold x; clear x); (clear_value x; intro _; revert x; intros)])
    | (extract_lets +onlyGivenNames x; clear_value x; revert x; intros)
    | split
    | dsimp -zeta only)

theorem serveRequest_keeps (v : Serve) (s : State) : Keeps 8044674031 s (serveRequest v s) := by
  unfold serveRequest
  repeat' (first
    | with_reducible exact Keeps.refl _
    | with_reducible assumption
    | (with_reducible apply Keeps.step (sendAnswer_keeps ..); on_goal 1 => decide)
    | (with_reducible apply Keeps.step (serveStart_keeps ..); on_goal 1 => decide)
    | with_reducible apply Keeps.ite
    | fail_if_no_progress (with_reducible apply Keeps.upd_mirror <;> [skip; decide])
    | dsimp -zeta only)

end Sys2Proof.Machine
end

