-- ==== Sys2Proof/Laws/KeepsTiming.lean ====
section
/-! SUPPORT. What each function of Machine/Timing.lean can do (see Laws/Keeps.lean). -/

set_option linter.tactic.unusedName false
set_option linter.unusedTactic false
set_option linter.unreachableTactic false

namespace Sys2Proof.Machine

theorem placeOp_keeps (c line : Nat) (x : Coord) (wr : Bool) (pos : Nat) (p : Plan) (s : State) : Keeps 8053063663 s (placeOp c line x wr pos p s) := by
  unfold placeOp
  repeat' (first
    | with_reducible exact Keeps.refl _
    | with_reducible assumption
    | (with_reducible apply Keeps.step (countChan_keeps ..); on_goal 1 => decide)
    | (with_reducible apply Keeps.step (noteCmd_keeps ..); on_goal 1 => decide)
    | (with_reducible apply Keeps.step (State.addObj_keeps ..); on_goal 1 => decide)
    | (with_reducible apply Keeps.step (State.setChan_keeps ..); on_goal 1 => decide)
    | with_reducible apply Keeps.ite
    | (extract_lets +onlyGivenNames x; with_reducible apply Keeps.cut (x := by apply x) <;> [(unfold x; clear x); (clear_value x; intro _; revert x; intros)])
    | (extract_lets +onlyGivenNames x; clear_value x; revert x; intros)
    | split
    | dsimp -zeta only)

theorem closeBank_keeps (c key at_ : Nat) (s : State) : Keeps 8589934575 s (closeBank c key at_ s) := by
  unfold closeBank
  repeat' (first
    | with_reducible exact Keeps.refl _
    | with_reducible assumption
    | (with_reducible apply Keeps.step (noteCmd_keeps ..); on_goal 1 => decide)
    | (with_reducible apply Keeps.step (State.setChan_keeps ..); on_goal 1 => decide)
    | (extract_lets +onlyGivenNames x; with_reducible apply Keeps.cut (x := by apply x) <;> [(unfold x; clear x); (clear_value x; intro _; revert x; intros)])
    | (extract_lets +onlyGivenNames x; clear_value x; revert x; intros)
    | split
    | dsimp -zeta only)

end Sys2Proof.Machine
end

