-- ==== Sys2Proof/Laws/KeepsPorts.lean ====
section
/-! SUPPORT. What each function of Machine/Ports.lean can do (see Laws/Keeps.lean). -/

set_option linter.tactic.unusedName false
set_option linter.unusedTactic false
set_option linter.unreachableTactic false

namespace Sys2Proof.Machine

theorem sampleAccept_keeps (r : Req) (t0 : Nat) (s : State) : Keeps 8589933565 s (sampleAccept r t0 s) := by
  unfold sampleAccept
  repeat' (first
    | with_reducible exact Keeps.refl _
    | with_reducible assumption
    | (with_reducible apply Keeps.step (State.setPort_keeps ..); on_goal 1 => decide)
    | with_reducible apply Keeps.ite
    | with_reducible apply Keeps.ite_fst
    | (extract_lets +onlyGivenNames x; with_reducible apply Keeps.cut (x := by apply x) <;> [(unfold x; clear x); (clear_value x; intro _; revert x; intros)])
    | (extract_lets +onlyGivenNames x; with_reducible apply Keeps.cut (x := by apply x.1) <;> [(unfold x; clear x); (clear_value x; intro _; revert x; intros)])
    | (extract_lets +onlyGivenNames x; clear_value x; revert x; intros)
    | split
    | fail_if_no_progress (with_reducible apply Keeps.upd_samples <;> [skip; decide])
    | dsimp -zeta only)

theorem sampleEnd_keeps (t : Stamp) (status : Nat) (timeout : Bool) (s : State) : Keeps 2615147519 s (sampleEnd t status timeout s) := by
  unfold sampleEnd
  repeat' (first
    | with_reducible exact Keeps.refl _
    | with_reducible assumption
    | (with_reducible apply Keeps.step (setCapture_keeps ..); on_goal 1 => decide)
    | (with_reducible apply Keeps.step (State.setObj_keeps ..); on_goal 1 => decide)
    | (with_reducible apply Keeps.step (State.addObj_keeps ..); on_goal 1 => decide)
    | (with_reducible apply Keeps.step (State.raise_keeps ..); on_goal 1 => decide)
    | with_reducible apply Keeps.ite
    | (extract_lets +onlyGivenNames x; with_reducible apply Keeps.cut (x := by apply x) <;> [(unfold x; clear x); (clear_value x; intro _; revert x; intros)])
    | (extract_lets +onlyGivenNames x; clear_value x; revert x; intros)
    | split
    | fail_if_no_progress (with_reducible apply Keeps.upd_ev <;> [skip; decide])
    | fail_if_no_progress (with_reducible apply Keeps.upd_samples <;> [skip; decide])
    | dsimp -zeta only)

theorem popBridge_keeps (p : Nat) (s : State) : Keeps 8589934589 s (popBridge p s) := by
  unfold popBridge
  repeat' (first
    | with_reducible exact Keeps.refl _
    | with_reducible assumption
    | (with_reducible apply Keeps.step (State.modPort_keeps ..); on_goal 1 => decide)
    | split
    | dsimp -zeta only)

theorem register_keeps (p : Nat) (k : Packet) (r : Req) (cost : Nat) (s : State) : Keeps 8053062653 s (register p k r cost s) := by
  unfold register
  repeat' (first
    | with_reducible exact Keeps.refl _
    | with_reducible assumption
    | (with_reducible apply Keeps.step (countPort_keeps ..); on_goal 1 => decide)
    | (with_reducible apply Keeps.step (sampleAccept_keeps ..); on_goal 1 => decide)
    | (with_reducible apply Keeps.step (popBridge_keeps ..); on_goal 1 => decide)
    | (with_reducible apply Keeps.step (State.setObj_keeps ..); on_goal 1 => decide)
    | (with_reducible apply Keeps.step (State.modPort_keeps ..); on_goal 1 => decide)
    | with_reducible apply Keeps.ite
    | (extract_lets +onlyGivenNames x; with_reducible apply Keeps.cut (x := by apply x) <;> [(unfold x; clear x); (clear_value x; intro _; revert x; intros)])
    | (extract_lets +onlyGivenNames x; clear_value x; revert x; intros)
    | dsimp -zeta only)

theorem registerFailed_keeps (p : Nat) (k : Packet) (status : Nat) (s : State) : Keeps 3688889341 s (registerFailed p k status s) := by
  unfold registerFailed
  repeat' (first
    | with_reducible exact Keeps.refl _
    | with_reducible assumption
    | (with_reducible apply Keeps.step (portCause_keeps ..); on_goal 1 => decide)
    | (with_reducible apply Keeps.step (respond_keeps ..); on_goal 1 => decide)
    | (with_reducible apply Keeps.step (register_keeps ..); on_goal 1 => decide)
    | (with_reducible apply Keeps.step (State.addObj_keeps ..); on_goal 1 => decide)
    | with_reducible apply Keeps.ite
    | (extract_lets +onlyGivenNames x; with_reducible apply Keeps.cut (x := by apply x) <;> [(unfold x; clear x); (clear_value x; intro _; revert x; intros)])
    | (extract_lets +onlyGivenNames x; clear_value x; revert x; intros)
    | dsimp -zeta only)

theorem countBreak_keeps (p : Nat) (s : State) : Keeps 3688890367 s (countBreak p s) := by
  unfold countBreak
  repeat' (first
    | with_reducible exact Keeps.refl _
    | with_reducible assumption
    | (with_reducible apply Keeps.step (portCause_keeps ..); on_goal 1 => decide)
    | (with_reducible apply Keeps.step (State.addObj_keeps ..); on_goal 1 => decide)
    | dsimp -zeta only)

theorem breakLock_keeps (more : Bool) (p : Nat) (s : State) : Keeps 2315780365 s (breakLock more p s) := by
  unfold breakLock
  repeat' (first
    | with_reducible exact Keeps.refl _
    | with_reducible assumption
    | (with_reducible apply Keeps.step (respond_keeps ..); on_goal 1 => decide)
    | (with_reducible apply Keeps.step (advanceHorizon_keeps ..); on_goal 1 => decide)
    | (with_reducible apply Keeps.step (countBreak_keeps ..); on_goal 1 => decide)
    | (with_reducible apply Keeps.step (State.modPort_keeps ..); on_goal 1 => decide)
    | with_reducible apply Keeps.ite
    | with_reducible apply Keeps.ite_fst
    | (with_reducible apply Keeps.foldl <;> [skip; intro _ _ _])
    | (with_reducible apply Keeps.foldl_fst <;> [skip; intro _ _ _])
    | (extract_lets +onlyGivenNames x; with_reducible apply Keeps.cut (x := by apply x) <;> [(unfold x; clear x); (clear_value x; intro _; revert x; intros)])
    | (extract_lets +onlyGivenNames x; with_reducible apply Keeps.cut (x := by apply x.1) <;> [(unfold x; clear x); (clear_value x; intro _; revert x; intros)])
    | (extract_lets +onlyGivenNames x; clear_value x; revert x; intros)
    | split
    | dsimp -zeta only)

theorem lockTimeout_keeps (p : Nat) (s : State) : Keeps 2315780365 s (lockTimeout p s) := by
  unfold lockTimeout
  repeat' (first
    | with_reducible exact Keeps.refl _
    | with_reducible assumption
    | (with_reducible apply Keeps.step (breakLock_keeps ..); on_goal 1 => decide)
    | with_reducible apply Keeps.ite
    | split
    | dsimp -zeta only)

theorem registerMember_keeps (p c : Nat) (k : Packet) (deadline : Nat) (s : State) : Keeps 2315780365 s (registerMember p c k deadline s) := by
  unfold registerMember
  repeat' (first
    | with_reducible exact Keeps.refl _
    | with_reducible assumption
    | (with_reducible apply Keeps.step (register_keeps ..); on_goal 1 => decide)
    | (with_reducible apply Keeps.step (breakLock_keeps ..); on_goal 1 => decide)
    | (with_reducible apply Keeps.step (State.modPort_keeps ..); on_goal 1 => decide)
    | with_reducible apply Keeps.ite
    | (extract_lets +onlyGivenNames x; with_reducible apply Keeps.cut (x := by apply x) <;> [(unfold x; clear x); (clear_value x; intro _; revert x; intros)])
    | (extract_lets +onlyGivenNames x; clear_value x; revert x; intros)
    | split
    | dsimp -zeta only)

theorem wakeChan_keeps (c : Nat) (s : State) : Keeps 8589934575 s (wakeChan c s) := by
  unfold wakeChan
  repeat' (first
    | with_reducible exact Keeps.refl _
    | with_reducible assumption
    | (with_reducible apply Keeps.step (State.modChan_keeps ..); on_goal 1 => decide)
    | dsimp -zeta only)

theorem waits_keeps (p c : Nat) (v : Verdict) (s : State) : Keeps 3672113151 s (waits p c v s) := by
  unfold waits
  repeat' (first
    | with_reducible exact Keeps.refl _
    | with_reducible assumption
    | (with_reducible apply Keeps.step (countPort_keeps ..); on_goal 1 => decide)
    | (with_reducible apply Keeps.step (State.addObj_keeps ..); on_goal 1 => decide)
    | (with_reducible apply Keeps.step (State.raise_keeps ..); on_goal 1 => decide)
    | (with_reducible apply Keeps.step (State.raiseChan_keeps ..); on_goal 1 => decide)
    | with_reducible apply Keeps.ite
    | (extract_lets +onlyGivenNames x; with_reducible apply Keeps.cut (x := by apply x) <;> [(unfold x; clear x); (clear_value x; intro _; revert x; intros)])
    | (extract_lets +onlyGivenNames x; clear_value x; revert x; intros)
    | split
    | fail_if_no_progress (with_reducible apply Keeps.upd_sup <;> [skip; decide])
    | dsimp -zeta only)

theorem takeGrant_keeps (p c : Nat) (g : Grant) (s : State) : Keeps 8036286445 s (takeGrant p c g s) := by
  unfold takeGrant
  repeat' (first
    | with_reducible exact Keeps.refl _
    | with_reducible assumption
    | (with_reducible apply Keeps.step (State.addObj_keeps ..); on_goal 1 => decide)
    | (with_reducible apply Keeps.step (State.modPort_keeps ..); on_goal 1 => decide)
    | (with_reducible apply Keeps.step (State.modChan_keeps ..); on_goal 1 => decide)
    | with_reducible apply Keeps.ite
    | with_reducible apply Keeps.ite_fst
    | (extract_lets +onlyGivenNames x; with_reducible apply Keeps.cut (x := by apply x) <;> [(unfold x; clear x); (clear_value x; intro _; revert x; intros)])
    | (extract_lets +onlyGivenNames x; with_reducible apply Keeps.cut (x := by apply x.1) <;> [(unfold x; clear x); (clear_value x; intro _; revert x; intros)])
    | (extract_lets +onlyGivenNames x; clear_value x; revert x; intros)
    | fail_if_no_progress (with_reducible apply Keeps.upd_sup <;> [skip; decide])
    | dsimp -zeta only)

theorem noteWrote_keeps (p d : Nat) (s : State) : Keeps 8589934589 s (noteWrote p d s) := by
  unfold noteWrote
  repeat' (first
    | with_reducible exact Keeps.refl _
    | with_reducible assumption
    | (with_reducible apply Keeps.step (State.modPort_keeps ..); on_goal 1 => decide)
    | with_reducible apply Keeps.ite
    | dsimp -zeta only)

theorem admitMember_keeps (p c l d : Nat) (k : Packet) (s : State) : Keeps 2315780365 s (admitMember p c l d k s) := by
  unfold admitMember
  dsimp only
  repeat' (first
    | with_reducible exact Keeps.refl _
    | with_reducible assumption
    | (with_reducible apply Keeps.step (registerMember_keeps ..); on_goal 1 => decide)
    | (with_reducible apply Keeps.step (waits_keeps ..); on_goal 1 => decide)
    | (with_reducible apply Keeps.step (takeGrant_keeps ..); on_goal 1 => decide)
    | (with_reducible apply Keeps.step (noteWrote_keeps ..); on_goal 1 => decide)
    | with_reducible apply Keeps.ite
    | (extract_lets +onlyGivenNames x; with_reducible apply Keeps.cut (x := by apply x) <;> [(unfold x; clear x); (clear_value x; intro _; revert x; intros)])
    | (extract_lets +onlyGivenNames x; unfold x; clear x)
    | split
    | dsimp -zeta only)

theorem admitTested_keeps (p c l d : Nat) (k : Packet) (s : State) : Keeps 3672112109 s (admitTested p c l d k s) := by
  unfold admitTested
  repeat' (first
    | with_reducible exact Keeps.refl _
    | with_reducible assumption
    | (with_reducible apply Keeps.step (register_keeps ..); on_goal 1 => decide)
    | (with_reducible apply Keeps.step (waits_keeps ..); on_goal 1 => decide)
    | (with_reducible apply Keeps.step (takeGrant_keeps ..); on_goal 1 => decide)
    | (with_reducible apply Keeps.step (noteWrote_keeps ..); on_goal 1 => decide)
    | (with_reducible apply Keeps.step (State.modPort_keeps ..); on_goal 1 => decide)
    | with_reducible apply Keeps.ite
    | (extract_lets +onlyGivenNames x; with_reducible apply Keeps.cut (x := by apply x) <;> [(unfold x; clear x); (clear_value x; intro _; revert x; intros)])
    | (extract_lets +onlyGivenNames x; clear_value x; revert x; intros)
    | split
    | dsimp -zeta only)

theorem admitFence_keeps (p : Nat) (k : Packet) (s : State) : Keeps 3663723517 s (admitFence p k s) := by
  unfold admitFence
  repeat' (first
    | with_reducible exact Keeps.refl _
    | with_reducible assumption
    | (with_reducible apply Keeps.step (respond_keeps ..); on_goal 1 => decide)
    | (with_reducible apply Keeps.step (settleWaits_keeps ..); on_goal 1 => decide)
    | (with_reducible apply Keeps.step (register_keeps ..); on_goal 1 => decide)
    | (with_reducible apply Keeps.step (waits_keeps ..); on_goal 1 => decide)
    | with_reducible apply Keeps.ite
    | (extract_lets +onlyGivenNames x; with_reducible apply Keeps.cut (x := by apply x) <;> [(unfold x; clear x); (clear_value x; intro _; revert x; intros)])
    | (extract_lets +onlyGivenNames x; clear_value x; revert x; intros)
    | fail_if_no_progress (with_reducible apply Keeps.upd_mirror <;> [skip; decide])
    | dsimp -zeta only)

theorem admitChecked_keeps (p : Nat) (k : Packet) (s : State) : Keeps 2315780365 s (admitChecked p k s) := by
  unfold admitChecked
  repeat' (first
    | with_reducible exact Keeps.refl _
    | with_reducible assumption
    | (with_reducible apply Keeps.step (countPort_keeps ..); on_goal 1 => decide)
    | (with_reducible apply Keeps.step (registerFailed_keeps ..); on_goal 1 => decide)
    | (with_reducible apply Keeps.step (breakLock_keeps ..); on_goal 1 => decide)
    | (with_reducible apply Keeps.step (wakeChan_keeps ..); on_goal 1 => decide)
    | (with_reducible apply Keeps.step (admitMember_keeps ..); on_goal 1 => decide)
    | (with_reducible apply Keeps.step (admitTested_keeps ..); on_goal 1 => decide)
    | (with_reducible apply Keeps.step (admitFence_keeps ..); on_goal 1 => decide)
    | with_reducible apply Keeps.ite
    | (extract_lets +onlyGivenNames x; with_reducible apply Keeps.cut (x := by apply x) <;> [(unfold x; clear x); (clear_value x; intro _; revert x; intros)])
    | (extract_lets +onlyGivenNames x; clear_value x; revert x; intros)
    | split
    | dsimp -zeta only)

theorem admitFront_keeps (p : Nat) (s : State) : Keeps 2315780365 s (admitFront p s) := by
  unfold admitFront
  repeat' (first
    | with_reducible exact Keeps.refl _
    | with_reducible assumption
    | (with_reducible apply Keeps.step (portCause_keeps ..); on_goal 1 => decide)
    | (with_reducible apply Keeps.step (countPort_keeps ..); on_goal 1 => decide)
    | (with_reducible apply Keeps.step (lockTimeout_keeps ..); on_goal 1 => decide)
    | (with_reducible apply Keeps.step (admitChecked_keeps ..); on_goal 1 => decide)
    | (with_reducible apply Keeps.step (State.addObj_keeps ..); on_goal 1 => decide)
    | (with_reducible apply Keeps.step (State.modPort_keeps ..); on_goal 1 => decide)
    | with_reducible apply Keeps.ite
    | (extract_lets +onlyGivenNames x; with_reducible apply Keeps.cut (x := by apply x) <;> [(unfold x; clear x); (clear_value x; intro _; revert x; intros)])
    | (extract_lets +onlyGivenNames x; clear_value x; revert x; intros)
    | split
    | dsimp -zeta only)

theorem feed_keeps (p : Nat) (l : List (BitVec 512 × Bool)) (s : State) : Keeps 3688890365 s (feed p l s) := by
  unfold feed
  repeat' (first
    | with_reducible exact Keeps.refl _
    | with_reducible assumption
    | (with_reducible apply Keeps.step (portCause_keeps ..); on_goal 1 => decide)
    | (with_reducible apply Keeps.step (State.addObj_keeps ..); on_goal 1 => decide)
    | (with_reducible apply Keeps.step (State.setPort_keeps ..); on_goal 1 => decide)
    | (extract_lets +onlyGivenNames x; with_reducible apply Keeps.cut (x := by apply x) <;> [(unfold x; clear x); (clear_value x; intro _; revert x; intros)])
    | (extract_lets +onlyGivenNames x; with_reducible apply Keeps.cut (x := by apply x.1) <;> [(unfold x; clear x); (clear_value x; intro _; revert x; intros)])
    | (extract_lets +onlyGivenNames x; clear_value x; revert x; intros)
    | split
    | dsimp -zeta only)

theorem receivePacket_keeps (p : Nat) (units : List (BitVec 544)) (s : State) : Keeps 3688890365 s (receivePacket p units s) := by
  unfold receivePacket
  repeat' (first
    | with_reducible exact Keeps.refl _
    | with_reducible assumption
    | (with_reducible apply Keeps.step (feed_keeps ..); on_goal 1 => decide)
    | dsimp -zeta only)

theorem arrive_keeps (r : Req) (s : State) : Keeps 3663722877 s (arrive r s) := by
  unfold arrive
  repeat' (first
    | with_reducible exact Keeps.refl _
    | with_reducible assumption
    | (with_reducible apply Keeps.step (noteT_keeps ..); on_goal 1 => decide)
    | (with_reducible apply Keeps.step (sendBack_keeps ..); on_goal 1 => decide)
    | (with_reducible apply Keeps.step (respondTwin_keeps ..); on_goal 1 => decide)
    | (with_reducible apply Keeps.step (enterOrder_keeps ..); on_goal 1 => decide)
    | with_reducible apply Keeps.ite
    | with_reducible apply Keeps.ite_fst
    | (with_reducible apply Keeps.foldl <;> [skip; intro _ _ _])
    | (with_reducible apply Keeps.foldl_fst <;> [skip; intro _ _ _])
    | (extract_lets +onlyGivenNames x; with_reducible apply Keeps.cut (x := by apply x) <;> [(unfold x; clear x); (clear_value x; intro _; revert x; intros)])
    | (extract_lets +onlyGivenNames x; with_reducible apply Keeps.cut (x := by apply x.1) <;> [(unfold x; clear x); (clear_value x; intro _; revert x; intros)])
    | (extract_lets +onlyGivenNames x; clear_value x; revert x; intros)
    | split
    | fail_if_no_progress (with_reducible apply Keeps.upd_gathers <;> [skip; decide])
    | dsimp -zeta only)

theorem dropUnits_keeps (vnet port tag : Nat) (s : State) : Keeps 8589934587 s (dropUnits vnet port tag s) := by
  unfold dropUnits
  repeat' (first
    | with_reducible exact Keeps.refl _
    | with_reducible assumption
    | fail_if_no_progress (with_reducible apply Keeps.upd_xbars <;> [skip; decide])
    | dsimp -zeta only)

theorem arriveAt_keeps (c p tag : Nat) (s : State) : Keeps 2315780105 s (arriveAt c p tag s) := by
  unfold arriveAt
  repeat' (first
    | with_reducible exact Keeps.refl _
    | with_reducible assumption
    | (with_reducible apply Keeps.step (advanceHorizon_keeps ..); on_goal 1 => decide)
    | (with_reducible apply Keeps.step (arrive_keeps ..); on_goal 1 => decide)
    | (with_reducible apply Keeps.step (dropUnits_keeps ..); on_goal 1 => decide)
    | (with_reducible apply Keeps.step (State.modPort_keeps ..); on_goal 1 => decide)
    | with_reducible apply Keeps.ite
    | with_reducible apply Keeps.ite_fst
    | (with_reducible apply Keeps.foldl <;> [skip; intro _ _ _])
    | (with_reducible apply Keeps.foldl_fst <;> [skip; intro _ _ _])
    | (extract_lets +onlyGivenNames x; with_reducible apply Keeps.cut (x := by apply x) <;> [(unfold x; clear x); (clear_value x; intro _; revert x; intros)])
    | (extract_lets +onlyGivenNames x; with_reducible apply Keeps.cut (x := by apply x.1) <;> [(unfold x; clear x); (clear_value x; intro _; revert x; intros)])
    | (extract_lets +onlyGivenNames x; clear_value x; revert x; intros)
    | split
    | fail_if_no_progress (with_reducible apply Keeps.upd_transit <;> [skip; decide])
    | dsimp -zeta only)

theorem issue_keeps (p : Nat) (h : BitVec 512) (data : List (BitVec 512)) (s : State) : Keeps 2315780105 s (issue p h data s) := by
  unfold issue
  repeat' (first
    | with_reducible exact Keeps.refl _
    | with_reducible assumption
    | (with_reducible apply Keeps.step (admitFront_keeps ..); on_goal 1 => decide)
    | (with_reducible apply Keeps.step (feed_keeps ..); on_goal 1 => decide)
    | (with_reducible apply Keeps.step (arriveAt_keeps ..); on_goal 1 => decide)
    | with_reducible apply Keeps.ite
    | (extract_lets +onlyGivenNames x; with_reducible apply Keeps.cut (x := by apply x) <;> [(unfold x; clear x); (clear_value x; intro _; revert x; intros)])
    | (extract_lets +onlyGivenNames x; clear_value x; revert x; intros)
    | split
    | dsimp -zeta only)

theorem takeBack_keeps (p tag : Nat) (t : Stamp) (s : State) : Keeps 8589934589 s (takeBack p tag t s) := by
  unfold takeBack
  repeat' (first
    | with_reducible exact Keeps.refl _
    | with_reducible assumption
    | (with_reducible apply Keeps.step (State.modPort_keeps ..); on_goal 1 => decide)
    | dsimp -zeta only)

theorem arriveBack_keeps (p : Nat) (s : State) : Keeps 3688890361 s (arriveBack p s) := by
  unfold arriveBack
  repeat' (first
    | with_reducible exact Keeps.refl _
    | with_reducible assumption
    | (with_reducible apply Keeps.step (respond_keeps ..); on_goal 1 => decide)
    | (with_reducible apply Keeps.step (dropUnits_keeps ..); on_goal 1 => decide)
    | (with_reducible apply Keeps.step (takeBack_keeps ..); on_goal 1 => decide)
    | split
    | dsimp -zeta only)

theorem registerEgress_keeps (p : Nat) (s : State) : Keeps 2615147517 s (registerEgress p s) := by
  unfold registerEgress
  repeat' (first
    | with_reducible exact Keeps.refl _
    | with_reducible assumption
    | (with_reducible apply Keeps.step (countPort_keeps ..); on_goal 1 => decide)
    | (with_reducible apply Keeps.step (sampleEnd_keeps ..); on_goal 1 => decide)
    | (with_reducible apply Keeps.step (State.setPort_keeps ..); on_goal 1 => decide)
    | with_reducible apply Keeps.ite
    | (extract_lets +onlyGivenNames x; with_reducible apply Keeps.cut (x := by apply x) <;> [(unfold x; clear x); (clear_value x; intro _; revert x; intros)])
    | (extract_lets +onlyGivenNames x; clear_value x; revert x; intros)
    | split
    | dsimp -zeta only)

theorem drainEgress_keeps (p : Nat) (s : State) : Keeps 8589934589 s (drainEgress p s) := by
  unfold drainEgress
  repeat' (first
    | with_reducible exact Keeps.refl _
    | with_reducible assumption
    | (with_reducible apply Keeps.step (State.setPort_keeps ..); on_goal 1 => decide)
    | with_reducible apply Keeps.ite
    | (extract_lets +onlyGivenNames x; with_reducible apply Keeps.cut (x := by apply x) <;> [(unfold x; clear x); (clear_value x; intro _; revert x; intros)])
    | (extract_lets +onlyGivenNames x; clear_value x; revert x; intros)
    | split
    | dsimp -zeta only)

theorem timeoutTag_keeps (p : Nat) (u : TagUse) (s : State) : Keeps 2615147517 s (timeoutTag p u s) := by
  unfold timeoutTag
  repeat' (first
    | with_reducible exact Keeps.refl _
    | with_reducible assumption
    | (with_reducible apply Keeps.step (portCause_keeps ..); on_goal 1 => decide)
    | (with_reducible apply Keeps.step (sampleEnd_keeps ..); on_goal 1 => decide)
    | (with_reducible apply Keeps.step (State.addObj_keeps ..); on_goal 1 => decide)
    | (with_reducible apply Keeps.step (State.setPort_keeps ..); on_goal 1 => decide)
    | with_reducible apply Keeps.ite
    | (extract_lets +onlyGivenNames x; with_reducible apply Keeps.cut (x := by apply x) <;> [(unfold x; clear x); (clear_value x; intro _; revert x; intros)])
    | (extract_lets +onlyGivenNames x; clear_value x; revert x; intros)
    | dsimp -zeta only)

theorem localOnly_keeps (p : Nat) (u : TagUse) (s : State) : Keeps 3663723517 s (localOnly p u s) := by
  unfold localOnly
  repeat' (first
    | with_reducible exact Keeps.refl _
    | with_reducible assumption
    | (with_reducible apply Keeps.step (answerWait_keeps ..); on_goal 1 => decide)
    | split
    | dsimp -zeta only)

theorem checkDeadlines_keeps (p : Nat) (s : State) : Keeps 2589981693 s (checkDeadlines p s) := by
  unfold checkDeadlines
  repeat' (first
    | with_reducible exact Keeps.refl _
    | with_reducible assumption
    | (with_reducible apply Keeps.step (timeoutTag_keeps ..); on_goal 1 => decide)
    | (with_reducible apply Keeps.step (localOnly_keeps ..); on_goal 1 => decide)
    | with_reducible apply Keeps.ite
    | with_reducible apply Keeps.ite_fst
    | (with_reducible apply Keeps.foldl <;> [skip; intro _ _ _])
    | (with_reducible apply Keeps.foldl_fst <;> [skip; intro _ _ _])
    | dsimp -zeta only)

end Sys2Proof.Machine
end

