-- ==== Sys2Proof/Laws/KeepsRefresh.lean ====
section
/-! SUPPORT. What each function of Machine/Refresh.lean can do (see Laws/Keeps.lean). -/

set_option linter.tactic.unusedName false
set_option linter.unusedTactic false
set_option linter.unreachableTactic false

namespace Sys2Proof.Machine

theorem takeCa_keeps (c sub n from_ : Nat) (s : State) : Keeps 8589934575 s (takeCa c sub n from_ s).1 := by
  unfold takeCa
  repeat' (first
    | with_reducible exact Keeps.refl _
    | with_reducible assumption
    | (with_reducible apply Keeps.step (State.modChan_keeps ..); on_goal 1 => decide)
    | (extract_lets +onlyGivenNames x; with_reducible apply Keeps.cut (x := by apply x) <;> [(unfold x; clear x); (clear_value x; intro _; revert x; intros)])
    | (extract_lets +onlyGivenNames x; with_reducible apply Keeps.cut (x := by apply x.1) <;> [(unfold x; clear x); (clear_value x; intro _; revert x; intros)])
    | (extract_lets +onlyGivenNames x; clear_value x; revert x; intros)
    | dsimp -zeta only)

theorem issueRfm_keeps (c key from_ : Nat) (s : State) : Keeps 8053063663 s (issueRfm c key from_ s) := by
  unfold issueRfm
  repeat' (first
    | with_reducible exact Keeps.refl _
    | with_reducible assumption
    | (with_reducible apply Keeps.step (countChan_keeps ..); on_goal 1 => decide)
    | (with_reducible apply Keeps.step (noteCmd_keeps ..); on_goal 1 => decide)
    | (with_reducible apply Keeps.step (takeCa_keeps ..); on_goal 1 => decide)
    | (with_reducible apply Keeps.step (State.addObj_keeps ..); on_goal 1 => decide)
    | (with_reducible apply Keeps.step (State.modChan_keeps ..); on_goal 1 => decide)
    | (extract_lets +onlyGivenNames x; with_reducible apply Keeps.cut (x := by apply x) <;> [(unfold x; clear x); (clear_value x; intro _; revert x; intros)])
    | (extract_lets +onlyGivenNames x; with_reducible apply Keeps.cut (x := by apply x.1) <;> [(unfold x; clear x); (clear_value x; intro _; revert x; intros)])
    | (extract_lets +onlyGivenNames x; clear_value x; revert x; intros)
    | dsimp -zeta only)

theorem issueRef_keeps (c sub rs b from_ : Nat) (s : State) : Keeps 8053063663 s (issueRef c sub rs b from_ s) := by
  unfold issueRef
  repeat' (first
    | with_reducible exact Keeps.refl _
    | with_reducible assumption
    | (with_reducible apply Keeps.step (countChan_keeps ..); on_goal 1 => decide)
    | (with_reducible apply Keeps.step (noteCmd_keeps ..); on_goal 1 => decide)
    | (with_reducible apply Keeps.step (takeCa_keeps ..); on_goal 1 => decide)
    | (with_reducible apply Keeps.step (State.modChan_keeps ..); on_goal 1 => decide)
    | (with_reducible apply Keeps.foldl <;> [skip; intro _ _ _])
    | (with_reducible apply Keeps.foldl_fst <;> [skip; intro _ _ _])
    | (extract_lets +onlyGivenNames x; with_reducible apply Keeps.cut (x := by apply x) <;> [(unfold x; clear x); (clear_value x; intro _; revert x; intros)])
    | (extract_lets +onlyGivenNames x; with_reducible apply Keeps.cut (x := by apply x.1) <;> [(unfold x; clear x); (clear_value x; intro _; revert x; intros)])
    | (extract_lets +onlyGivenNames x; clear_value x; revert x; intros)
    | dsimp -zeta only)

theorem refreshRank_keeps (c b sub rs from_ : Nat) (refresh : Bool) (s : State) : Keeps 8053063663 s (refreshRank c b sub rs from_ refresh s) := by
  unfold refreshRank
  repeat' (first
    | with_reducible exact Keeps.refl _
    | with_reducible assumption
    | (with_reducible apply Keeps.step (closeBank_keeps ..); on_goal 1 => decide)
    | (with_reducible apply Keeps.step (issueRfm_keeps ..); on_goal 1 => decide)
    | (with_reducible apply Keeps.step (issueRef_keeps ..); on_goal 1 => decide)
    | with_reducible apply Keeps.ite
    | with_reducible apply Keeps.ite_fst
    | (with_reducible apply Keeps.foldl <;> [skip; intro _ _ _])
    | (with_reducible apply Keeps.foldl_fst <;> [skip; intro _ _ _])
    | (extract_lets +onlyGivenNames x; with_reducible apply Keeps.cut (x := by apply x) <;> [(unfold x; clear x); (clear_value x; intro _; revert x; intros)])
    | (extract_lets +onlyGivenNames x; with_reducible apply Keeps.cut (x := by apply x.1) <;> [(unfold x; clear x); (clear_value x; intro _; revert x; intros)])
    | (extract_lets +onlyGivenNames x; clear_value x; revert x; intros)
    | dsimp -zeta only)

theorem placeRefresh_keeps (c b sub rs from_ : Nat) (refresh : Bool) (s : State) : Keeps 8053063663 s (placeRefresh c b sub rs from_ refresh s) := by
  unfold placeRefresh
  repeat' (first
    | with_reducible exact Keeps.refl _
    | with_reducible assumption
    | (with_reducible apply Keeps.step (refreshRank_keeps ..); on_goal 1 => decide)
    | (with_reducible apply Keeps.step (State.modChan_keeps ..); on_goal 1 => decide)
    | with_reducible apply Keeps.ite
    | dsimp -zeta only)

theorem heldRefresh_keeps (c sub : Nat) (s : State) : Keeps 3688890351 s (heldRefresh c sub s) := by
  unfold heldRefresh
  repeat' (first
    | with_reducible exact Keeps.refl _
    | with_reducible assumption
    | (with_reducible apply Keeps.step (refreshRank_keeps ..); on_goal 1 => decide)
    | (with_reducible apply Keeps.step (State.addObj_keeps ..); on_goal 1 => decide)
    | (with_reducible apply Keeps.step (State.modChan_keeps ..); on_goal 1 => decide)
    | (with_reducible apply Keeps.step (State.raiseChan_keeps ..); on_goal 1 => decide)
    | with_reducible apply Keeps.ite
    | with_reducible apply Keeps.ite_fst
    | (with_reducible apply Keeps.foldl <;> [skip; intro _ _ _])
    | (with_reducible apply Keeps.foldl_fst <;> [skip; intro _ _ _])
    | (extract_lets +onlyGivenNames x; with_reducible apply Keeps.cut (x := by apply x) <;> [(unfold x; clear x); (clear_value x; intro _; revert x; intros)])
    | (extract_lets +onlyGivenNames x; with_reducible apply Keeps.cut (x := by apply x.1) <;> [(unfold x; clear x); (clear_value x; intro _; revert x; intros)])
    | (extract_lets +onlyGivenNames x; clear_value x; revert x; intros)
    | dsimp -zeta only)

theorem setChore_keeps (c key v : Nat) (s : State) : Keeps 8589934575 s (setChore c key v s) := by
  unfold setChore
  repeat' (first
    | with_reducible exact Keeps.refl _
    | with_reducible assumption
    | (with_reducible apply Keeps.step (State.modChan_keeps ..); on_goal 1 => decide)
    | dsimp -zeta only)

theorem choreCmd_keeps (c cmd rs : Nat) (s : State) : Keeps 8589934575 s (choreCmd c cmd rs s) := by
  unfold choreCmd
  repeat' (first
    | with_reducible exact Keeps.refl _
    | with_reducible assumption
    | (with_reducible apply Keeps.step (noteCmd_keeps ..); on_goal 1 => decide)
    | (with_reducible apply Keeps.step (takeCa_keeps ..); on_goal 1 => decide)
    | (with_reducible apply Keeps.foldl <;> [skip; intro _ _ _])
    | (with_reducible apply Keeps.foldl_fst <;> [skip; intro _ _ _])
    | (with_reducible apply Keeps.forN_fst <;> [skip; intro _ _ _])
    | (with_reducible apply Keeps.forN <;> [skip; intro _ _ _])
    | (extract_lets +onlyGivenNames x; with_reducible apply Keeps.cut (x := by apply x) <;> [(unfold x; clear x); (clear_value x; intro _; revert x; intros)])
    | (extract_lets +onlyGivenNames x; with_reducible apply Keeps.cut (x := by apply x.1) <;> [(unfold x; clear x); (clear_value x; intro _; revert x; intros)])
    | (extract_lets +onlyGivenNames x; clear_value x; revert x; intros)
    | dsimp -zeta only)

theorem mr4Reads_keeps (c : Nat) (reading : Bool) (s : State) : Keeps 8589934575 s (mr4Reads c reading s) := by
  unfold mr4Reads
  repeat' (first
    | with_reducible exact Keeps.refl _
    | with_reducible assumption
    | (with_reducible apply Keeps.step (setChore_keeps ..); on_goal 1 => decide)
    | (with_reducible apply Keeps.step (choreCmd_keeps ..); on_goal 1 => decide)
    | with_reducible apply Keeps.ite
    | with_reducible apply Keeps.ite_fst
    | (with_reducible apply Keeps.foldl <;> [skip; intro _ _ _])
    | (with_reducible apply Keeps.foldl_fst <;> [skip; intro _ _ _])
    | dsimp -zeta only)

theorem zqCalibration_keeps (c : Nat) (s : State) : Keeps 8589934575 s (zqCalibration c s) := by
  unfold zqCalibration
  repeat' (first
    | with_reducible exact Keeps.refl _
    | with_reducible assumption
    | (with_reducible apply Keeps.step (setChore_keeps ..); on_goal 1 => decide)
    | (with_reducible apply Keeps.step (choreCmd_keeps ..); on_goal 1 => decide)
    | with_reducible apply Keeps.ite
    | (with_reducible apply Keeps.forN <;> [skip; intro _ _ _])
    | (extract_lets +onlyGivenNames x; with_reducible apply Keeps.cut (x := by apply x) <;> [(unfold x; clear x); (clear_value x; intro _; revert x; intros)])
    | (extract_lets +onlyGivenNames x; clear_value x; revert x; intros)
    | dsimp -zeta only)

theorem oscillator_keeps (c : Nat) (s : State) : Keeps 8589934575 s (oscillator c s) := by
  unfold oscillator
  repeat' (first
    | with_reducible exact Keeps.refl _
    | with_reducible assumption
    | (with_reducible apply Keeps.step (setChore_keeps ..); on_goal 1 => decide)
    | (with_reducible apply Keeps.step (choreCmd_keeps ..); on_goal 1 => decide)
    | with_reducible apply Keeps.ite
    | (extract_lets +onlyGivenNames x; with_reducible apply Keeps.cut (x := by apply x) <;> [(unfold x; clear x); (clear_value x; intro _; revert x; intros)])
    | (extract_lets +onlyGivenNames x; clear_value x; revert x; intros)
    | split
    | dsimp -zeta only)

theorem placementWork_keeps (c : Nat) (reading : Bool) (s : State) : Keeps 8589934575 s (placementWork c reading s) := by
  unfold placementWork
  repeat' (first
    | with_reducible exact Keeps.refl _
    | with_reducible assumption
    | (with_reducible apply Keeps.step (mr4Reads_keeps ..); on_goal 1 => decide)
    | (with_reducible apply Keeps.step (zqCalibration_keeps ..); on_goal 1 => decide)
    | (with_reducible apply Keeps.step (oscillator_keeps ..); on_goal 1 => decide)
    | dsimp -zeta only)

end Sys2Proof.Machine
end

