-- ==== Sys2Proof/Laws/KeepsArbiter.lean ====
section
/-! SUPPORT. What each function of Machine/Arbiter.lean can do (see Laws/Keeps.lean). -/

set_option linter.tactic.unusedName false
set_option linter.unusedTactic false
set_option linter.unreachableTactic false

namespace Sys2Proof.Machine

theorem writeMode_keeps (c pos sub : Nat) (s : State) : Keeps 8053063663 s (writeMode c pos sub s) := by
  unfold writeMode
  repeat' (first
    | with_reducible exact Keeps.refl _
    | with_reducible assumption
    | (with_reducible apply Keeps.step (State.addObj_keeps ..); on_goal 1 => decide)
    | (with_reducible apply Keeps.step (State.setChan_keeps ..); on_goal 1 => decide)
    | with_reducible apply Keeps.ite
    | (extract_lets +onlyGivenNames x; with_reducible apply Keeps.cut (x := by apply x) <;> [(unfold x; clear x); (clear_value x; intro _; revert x; intros)])
    | (extract_lets +onlyGivenNames x; clear_value x; revert x; intros)
    | dsimp -zeta only)

theorem unqueue_keeps (c : Nat) (e : Entry) (s : State) : Keeps 8589934575 s (unqueue c e s) := by
  unfold unqueue
  repeat' (first
    | with_reducible exact Keeps.refl _
    | with_reducible assumption
    | (with_reducible apply Keeps.step (State.modChan_keeps ..); on_goal 1 => decide)
    | dsimp -zeta only)

theorem countGrant_keeps (c : Nat) (e : Entry) (s : State) : Keeps 8053063679 s (countGrant c e s) := by
  unfold countGrant
  repeat' (first
    | with_reducible exact Keeps.refl _
    | with_reducible assumption
    | (with_reducible apply Keeps.step (countChan_keeps ..); on_goal 1 => decide)
    | (with_reducible apply Keeps.step (State.setObj_keeps ..); on_goal 1 => decide)
    | (with_reducible apply Keeps.step (State.addObj_keeps ..); on_goal 1 => decide)
    | with_reducible apply Keeps.ite
    | (extract_lets +onlyGivenNames x; with_reducible apply Keeps.cut (x := by apply x) <;> [(unfold x; clear x); (clear_value x; intro _; revert x; intros)])
    | (extract_lets +onlyGivenNames x; clear_value x; revert x; intros)
    | dsimp -zeta only)

theorem scrubLine_keeps (c l : Nat) (s : State) : Keeps 2340947919 s (scrubLine c l s) := by
  unfold scrubLine
  repeat' (first
    | with_reducible exact Keeps.refl _
    | with_reducible assumption
    | (with_reducible apply Keeps.step (readDram_keeps ..); on_goal 1 => decide)
    | (with_reducible apply Keeps.step (freezeChannel_keeps ..); on_goal 1 => decide)
    | (with_reducible apply Keeps.step (readCopies_keeps ..); on_goal 1 => decide)
    | (with_reducible apply Keeps.step (lose_keeps ..); on_goal 1 => decide)
    | (with_reducible apply Keeps.step (State.addObj_keeps ..); on_goal 1 => decide)
    | (with_reducible apply Keeps.step (State.raiseChan_keeps ..); on_goal 1 => decide)
    | with_reducible apply Keeps.ite
    | with_reducible apply Keeps.ite_fst
    | (extract_lets +onlyGivenNames x; with_reducible apply Keeps.cut (x := by apply x) <;> [(unfold x; clear x); (clear_value x; intro _; revert x; intros)])
    | (extract_lets +onlyGivenNames x; with_reducible apply Keeps.cut (x := by apply x.1) <;> [(unfold x; clear x); (clear_value x; intro _; revert x; intros)])
    | (extract_lets +onlyGivenNames x; clear_value x; revert x; intros)
    | split
    | dsimp -zeta only)

theorem scrubEnd_keeps (c : Nat) (s : State) : Keeps 3688890367 s (scrubEnd c s) := by
  unfold scrubEnd
  repeat' (first
    | with_reducible exact Keeps.refl _
    | with_reducible assumption
    | (with_reducible apply Keeps.step (State.setObj_keeps ..); on_goal 1 => decide)
    | (with_reducible apply Keeps.step (State.addObj_keeps ..); on_goal 1 => decide)
    | (with_reducible apply Keeps.step (State.raiseChan_keeps ..); on_goal 1 => decide)
    | with_reducible apply Keeps.ite
    | (extract_lets +onlyGivenNames x; with_reducible apply Keeps.cut (x := by apply x) <;> [(unfold x; clear x); (clear_value x; intro _; revert x; intros)])
    | (extract_lets +onlyGivenNames x; clear_value x; revert x; intros)
    | fail_if_no_progress (with_reducible apply Keeps.upd_mram <;> [skip; decide; (intros; repeat' (first | with_reducible assumption | with_reducible exact Memory.wf_nil | with_reducible apply Memory.wf_sbN | with_reducible apply Memory.wf_sbNat | with_reducible apply Memory.wf_sb | with_reducible apply Memory.wf_filter | with_reducible apply Memory.wf_writeWords | with_reducible apply Memory.wf_foldl_sb | with_reducible exact Keeps.mramOk (by assumption) (by assumption) | split | dsimp only))])
    | dsimp -zeta only)

theorem ctxAdvance_keeps (c k : Nat) (s : State) : Keeps 3688890351 s (ctxAdvance c k s) := by
  unfold ctxAdvance
  repeat' (first
    | with_reducible exact Keeps.refl _
    | with_reducible assumption
    | (with_reducible apply Keeps.step (addProgress_keeps ..); on_goal 1 => decide)
    | (with_reducible apply Keeps.step (releaseScrub_keeps ..); on_goal 1 => decide)
    | (with_reducible apply Keeps.step (endCtx_keeps ..); on_goal 1 => decide)
    | (with_reducible apply Keeps.step (scrubEnd_keeps ..); on_goal 1 => decide)
    | (with_reducible apply Keeps.step (State.modChan_keeps ..); on_goal 1 => decide)
    | with_reducible apply Keeps.ite
    | (extract_lets +onlyGivenNames x; with_reducible apply Keeps.cut (x := by apply x) <;> [(unfold x; clear x); (clear_value x; intro _; revert x; intros)])
    | (extract_lets +onlyGivenNames x; clear_value x; revert x; intros)
    | split
    | dsimp -zeta only)

theorem runOp_keeps (c : Nat) (e : Entry) (s : State) : Keeps 2340946895 s (runOp c e s).1 := by
  unfold runOp
  repeat' (first
    | with_reducible exact Keeps.refl _
    | with_reducible assumption
    | (with_reducible apply Keeps.step (noteT_keeps ..); on_goal 1 => decide)
    | (with_reducible apply Keeps.step (writeDram_keeps ..); on_goal 1 => decide)
    | (with_reducible apply Keeps.step (flushLedger_keeps ..); on_goal 1 => decide)
    | (with_reducible apply Keeps.step (storeData_keeps ..); on_goal 1 => decide)
    | (with_reducible apply Keeps.step (scrubLine_keeps ..); on_goal 1 => decide)
    | (with_reducible apply Keeps.step (State.addObj_keeps ..); on_goal 1 => decide)
    | (with_reducible apply Keeps.step (State.modChan_keeps ..); on_goal 1 => decide)
    | (with_reducible apply Keeps.step (State.setPline_keeps ..); on_goal 1 => decide)
    | with_reducible apply Keeps.ite
    | with_reducible apply Keeps.ite_fst
    | (extract_lets +onlyGivenNames x; with_reducible apply Keeps.cut (x := by apply x) <;> [(unfold x; clear x); (clear_value x; intro _; revert x; intros)])
    | (extract_lets +onlyGivenNames x; with_reducible apply Keeps.cut (x := by apply x.1) <;> [(unfold x; clear x); (clear_value x; intro _; revert x; intros)])
    | (extract_lets +onlyGivenNames x; clear_value x; revert x; intros)
    | split
    | dsimp -zeta only)

theorem noteGrant_keeps (e : Entry) (p : Plan) (step : Nat) (s : State) : Keeps 8589933567 s (noteGrant e p step s) := by
  unfold noteGrant
  repeat' (first
    | with_reducible exact Keeps.refl _
    | with_reducible assumption
    | with_reducible apply Keeps.ite
    | fail_if_no_progress (with_reducible apply Keeps.upd_samples <;> [skip; decide])
    | dsimp -zeta only)

theorem countPosition_keeps (c code : Nat) (s : State) : Keeps 8053063679 s (countPosition c code s) := by
  unfold countPosition
  repeat' (first
    | with_reducible exact Keeps.refl _
    | with_reducible assumption
    | (with_reducible apply Keeps.step (countChan_keeps ..); on_goal 1 => decide)
    | (with_reducible apply Keeps.step (State.addObj_keeps ..); on_goal 1 => decide)
    | dsimp -zeta only)

theorem requeue_keeps (old : Chan) (c : Nat) (s : State) : Keeps 8589934575 s (requeue old c s) := by
  unfold requeue
  repeat' (first
    | with_reducible exact Keeps.refl _
    | with_reducible assumption
    | (with_reducible apply Keeps.step (State.modChan_keeps ..); on_goal 1 => decide)
    | (extract_lets +onlyGivenNames x; with_reducible apply Keeps.cut (x := by apply x) <;> [(unfold x; clear x); (clear_value x; intro _; revert x; intros)])
    | (extract_lets +onlyGivenNames x; unfold x; clear x)
    | dsimp -zeta only)

theorem grantEntry_keeps (c pos step : Nat) (e : Entry) (p : Plan) (s : State) : Keeps 2340946895 s (grantEntry c pos step e p s).1 := by
  unfold grantEntry
  repeat' (first
    | with_reducible exact Keeps.refl _
    | with_reducible assumption
    | (with_reducible apply Keeps.step (countChan_keeps ..); on_goal 1 => decide)
    | (with_reducible apply Keeps.step (placeOp_keeps ..); on_goal 1 => decide)
    | (with_reducible apply Keeps.step (unqueue_keeps ..); on_goal 1 => decide)
    | (with_reducible apply Keeps.step (countGrant_keeps ..); on_goal 1 => decide)
    | (with_reducible apply Keeps.step (ctxAdvance_keeps ..); on_goal 1 => decide)
    | (with_reducible apply Keeps.step (runOp_keeps ..); on_goal 1 => decide)
    | (with_reducible apply Keeps.step (noteGrant_keeps ..); on_goal 1 => decide)
    | (with_reducible apply Keeps.step (countPosition_keeps ..); on_goal 1 => decide)
    | (with_reducible apply Keeps.step (requeue_keeps ..); on_goal 1 => decide)
    | (with_reducible apply Keeps.step (State.addObj_keeps ..); on_goal 1 => decide)
    | (with_reducible apply Keeps.step (State.modChan_keeps ..); on_goal 1 => decide)
    | with_reducible apply Keeps.ite
    | with_reducible apply Keeps.ite_fst
    | (extract_lets +onlyGivenNames x; with_reducible apply Keeps.cut (x := by apply x) <;> [(unfold x; clear x); (clear_value x; intro _; revert x; intros)])
    | (extract_lets +onlyGivenNames x; with_reducible apply Keeps.cut (x := by apply x.1) <;> [(unfold x; clear x); (clear_value x; intro _; revert x; intros)])
    | (extract_lets +onlyGivenNames x; clear_value x; revert x; intros)
    | split
    | dsimp -zeta only)

theorem markOverdue_keeps (c a i : Nat) (s : State) : Keeps 8589934575 s (markOverdue c a i s) := by
  unfold markOverdue
  repeat' (first
    | with_reducible exact Keeps.refl _
    | with_reducible assumption
    | (with_reducible apply Keeps.step (State.modChan_keeps ..); on_goal 1 => decide)
    | with_reducible apply Keeps.ite
    | split
    | dsimp -zeta only)

theorem spendOpen_keeps (c t : Nat) (e : Entry) (s : State) : Keeps 8053063679 s (spendOpen c t e s) := by
  unfold spendOpen
  repeat' (first
    | with_reducible exact Keeps.refl _
    | with_reducible assumption
    | (with_reducible apply Keeps.step (State.setObj_keeps ..); on_goal 1 => decide)
    | with_reducible apply Keeps.ite
    | dsimp -zeta only)

theorem beginBurst_keeps (c k len : Nat) (s : State) : Keeps 3672113135 s (beginBurst c k len s) := by
  unfold beginBurst
  repeat' (first
    | with_reducible exact Keeps.refl _
    | with_reducible assumption
    | (with_reducible apply Keeps.step (setCtx_keeps ..); on_goal 1 => decide)
    | (with_reducible apply Keeps.step (loseOthers_keeps ..); on_goal 1 => decide)
    | (with_reducible apply Keeps.step (State.modChan_keeps ..); on_goal 1 => decide)
    | dsimp -zeta only)

theorem withoutMembers_keeps (c l : Nat) (keep : Access → Bool) (x : PLine) (s : State) : Keeps 8053062607 s (withoutMembers c l keep x s) := by
  unfold withoutMembers
  repeat' (first
    | with_reducible exact Keeps.refl _
    | with_reducible assumption
    | (with_reducible apply Keeps.step (queueFill_keeps ..); on_goal 1 => decide)
    | (with_reducible apply Keeps.step (State.setPline_keeps ..); on_goal 1 => decide)
    | (with_reducible apply Keeps.step (State.delPline_keeps ..); on_goal 1 => decide)
    | (with_reducible apply Keeps.foldl <;> [skip; intro _ _ _])
    | (with_reducible apply Keeps.foldl_fst <;> [skip; intro _ _ _])
    | (extract_lets +onlyGivenNames x; with_reducible apply Keeps.cut (x := by apply x) <;> [(unfold x; clear x); (clear_value x; intro _; revert x; intros)])
    | (extract_lets +onlyGivenNames x; with_reducible apply Keeps.cut (x := by apply x.1) <;> [(unfold x; clear x); (clear_value x; intro _; revert x; intros)])
    | (extract_lets +onlyGivenNames x; clear_value x; revert x; intros)
    | split
    | dsimp -zeta only)

theorem dropMember_keeps (c : Nat) (stamp : Stamp) (m : Member) (s : State) : Keeps 3663722957 s (dropMember c stamp m s) := by
  unfold dropMember
  repeat' (first
    | with_reducible exact Keeps.refl _
    | with_reducible assumption
    | (with_reducible apply Keeps.step (answer_keeps ..); on_goal 1 => decide)
    | (with_reducible apply Keeps.step (queueWriteBack_keeps ..); on_goal 1 => decide)
    | (with_reducible apply Keeps.step (withoutMembers_keeps ..); on_goal 1 => decide)
    | (with_reducible apply Keeps.step (State.setPline_keeps ..); on_goal 1 => decide)
    | with_reducible apply Keeps.ite
    | with_reducible apply Keeps.ite_fst
    | (with_reducible apply Keeps.foldl <;> [skip; intro _ _ _])
    | (with_reducible apply Keeps.foldl_fst <;> [skip; intro _ _ _])
    | (extract_lets +onlyGivenNames x; with_reducible apply Keeps.cut (x := by apply x) <;> [(unfold x; clear x); (clear_value x; intro _; revert x; intros)])
    | (extract_lets +onlyGivenNames x; with_reducible apply Keeps.cut (x := by apply x.1) <;> [(unfold x; clear x); (clear_value x; intro _; revert x; intros)])
    | (extract_lets +onlyGivenNames x; unfold x; clear x)
    | split
    | dsimp -zeta only)

theorem refuseLock_keeps (c : Nat) (e : Entry) (s : State) : Keeps 3663722957 s (refuseLock c e s) := by
  unfold refuseLock
  repeat' (first
    | with_reducible exact Keeps.refl _
    | with_reducible assumption
    | (with_reducible apply Keeps.step (unqueue_keeps ..); on_goal 1 => decide)
    | (with_reducible apply Keeps.step (dropMember_keeps ..); on_goal 1 => decide)
    | (with_reducible apply Keeps.step (State.addObj_keeps ..); on_goal 1 => decide)
    | (with_reducible apply Keeps.foldl <;> [skip; intro _ _ _])
    | (with_reducible apply Keeps.foldl_fst <;> [skip; intro _ _ _])
    | dsimp -zeta only)

theorem passLocks_keeps (c : Nat) (l : List Entry) (s : State) : Keeps 3663722957 s (passLocks c l s) := by
  unfold passLocks
  repeat' (first
    | with_reducible exact Keeps.refl _
    | with_reducible assumption
    | (with_reducible apply Keeps.step (refuseLock_keeps ..); on_goal 1 => decide)
    | (with_reducible apply Keeps.step (State.addObj_keeps ..); on_goal 1 => decide)
    | with_reducible apply Keeps.ite
    | with_reducible apply Keeps.ite_fst
    | (with_reducible apply Keeps.foldl <;> [skip; intro _ _ _])
    | (with_reducible apply Keeps.foldl_fst <;> [skip; intro _ _ _])
    | dsimp -zeta only)

theorem releaseLock_keeps (c pos : Nat) (s : State) : Keeps 3688890351 s (releaseLock c pos s) := by
  unfold releaseLock
  repeat' (first
    | with_reducible exact Keeps.refl _
    | with_reducible assumption
    | (with_reducible apply Keeps.step (heldRefresh_keeps ..); on_goal 1 => decide)
    | (with_reducible apply Keeps.step (State.addObj_keeps ..); on_goal 1 => decide)
    | (with_reducible apply Keeps.step (State.modChan_keeps ..); on_goal 1 => decide)
    | with_reducible apply Keeps.ite
    | (extract_lets +onlyGivenNames x; with_reducible apply Keeps.cut (x := by apply x) <;> [(unfold x; clear x); (clear_value x; intro _; revert x; intros)])
    | (extract_lets +onlyGivenNames x; clear_value x; revert x; intros)
    | split
    | dsimp -zeta only)

theorem lockStep_keeps (c pos t i : Nat) (k : LockRun) (s : State) : Keeps 2315780557 s (lockStep c pos t i k s) := by
  unfold lockStep
  repeat' (first
    | with_reducible exact Keeps.refl _
    | with_reducible assumption
    | (with_reducible apply Keeps.step (countChan_keeps ..); on_goal 1 => decide)
    | (with_reducible apply Keeps.step (countPosition_keeps ..); on_goal 1 => decide)
    | (with_reducible apply Keeps.step (grantEntry_keeps ..); on_goal 1 => decide)
    | (with_reducible apply Keeps.step (dropMember_keeps ..); on_goal 1 => decide)
    | (with_reducible apply Keeps.step (State.modChan_keeps ..); on_goal 1 => decide)
    | with_reducible apply Keeps.ite
    | with_reducible apply Keeps.ite_fst
    | (extract_lets +onlyGivenNames x; with_reducible apply Keeps.cut (x := by apply x) <;> [(unfold x; clear x); (clear_value x; intro _; revert x; intros)])
    | (extract_lets +onlyGivenNames x; with_reducible apply Keeps.cut (x := by apply x.1) <;> [(unfold x; clear x); (clear_value x; intro _; revert x; intros)])
    | (extract_lets +onlyGivenNames x; clear_value x; revert x; intros)
    | split
    | dsimp -zeta only)

theorem grantIf_keeps (c pos t i step : Nat) (e : Entry) (s : State) : Keeps 2340946895 s (grantIf c pos t i step e s).1 := by
  unfold grantIf
  repeat' (first
    | with_reducible exact Keeps.refl _
    | with_reducible assumption
    | (with_reducible apply Keeps.step (countPosition_keeps ..); on_goal 1 => decide)
    | (with_reducible apply Keeps.step (grantEntry_keeps ..); on_goal 1 => decide)
    | split
    | dsimp -zeta only)

theorem advanceV_keeps (c tag : Nat) (s : State) : Keeps 8053063679 s (advanceV c tag s) := by
  unfold advanceV
  repeat' (first
    | with_reducible exact Keeps.refl _
    | with_reducible assumption
    | (with_reducible apply Keeps.step (State.setObj_keeps ..); on_goal 1 => decide)
    | with_reducible apply Keeps.ite
    | dsimp -zeta only)

theorem carryOut_keeps (c pos t i : Nat) (choice : Choice) (s : State) : Keeps 2315780557 s (carryOut c pos t i choice s) := by
  unfold carryOut
  repeat' (first
    | with_reducible exact Keeps.refl _
    | with_reducible assumption
    | (with_reducible apply Keeps.step (unqueue_keeps ..); on_goal 1 => decide)
    | (with_reducible apply Keeps.step (countPosition_keeps ..); on_goal 1 => decide)
    | (with_reducible apply Keeps.step (spendOpen_keeps ..); on_goal 1 => decide)
    | (with_reducible apply Keeps.step (beginBurst_keeps ..); on_goal 1 => decide)
    | (with_reducible apply Keeps.step (lockStep_keeps ..); on_goal 1 => decide)
    | (with_reducible apply Keeps.step (grantIf_keeps ..); on_goal 1 => decide)
    | (with_reducible apply Keeps.step (advanceV_keeps ..); on_goal 1 => decide)
    | (with_reducible apply Keeps.step (State.addObj_keeps ..); on_goal 1 => decide)
    | (with_reducible apply Keeps.step (State.modChan_keeps ..); on_goal 1 => decide)
    | with_reducible apply Keeps.ite
    | with_reducible apply Keeps.ite_fst
    | (extract_lets +onlyGivenNames x; with_reducible apply Keeps.cut (x := by apply x) <;> [(unfold x; clear x); (clear_value x; intro _; revert x; intros)])
    | (extract_lets +onlyGivenNames x; with_reducible apply Keeps.cut (x := by apply x.1) <;> [(unfold x; clear x); (clear_value x; intro _; revert x; intros)])
    | (extract_lets +onlyGivenNames x; clear_value x; revert x; intros)
    | split
    | dsimp -zeta only)

theorem yardHolds_keeps (c pos t i : Nat) (s : State) : Keeps 8053063679 s (yardHolds c pos t i s) := by
  unfold yardHolds
  repeat' (first
    | with_reducible exact Keeps.refl _
    | with_reducible assumption
    | (with_reducible apply Keeps.step (countChan_keeps ..); on_goal 1 => decide)
    | (with_reducible apply Keeps.step (countPosition_keeps ..); on_goal 1 => decide)
    | (with_reducible apply Keeps.step (State.addObj_keeps ..); on_goal 1 => decide)
    | (extract_lets +onlyGivenNames x; with_reducible apply Keeps.cut (x := by apply x) <;> [(unfold x; clear x); (clear_value x; intro _; revert x; intros)])
    | (extract_lets +onlyGivenNames x; clear_value x; revert x; intros)
    | dsimp -zeta only)

theorem grantPosition_keeps (c : Nat) (s : State) : Keeps 2315780557 s (grantPosition c s) := by
  unfold grantPosition
  repeat' (first
    | with_reducible exact Keeps.refl _
    | with_reducible assumption
    | (with_reducible apply Keeps.step (retryWriteBacks_keeps ..); on_goal 1 => decide)
    | (with_reducible apply Keeps.step (writeMode_keeps ..); on_goal 1 => decide)
    | (with_reducible apply Keeps.step (countPosition_keeps ..); on_goal 1 => decide)
    | (with_reducible apply Keeps.step (markOverdue_keeps ..); on_goal 1 => decide)
    | (with_reducible apply Keeps.step (passLocks_keeps ..); on_goal 1 => decide)
    | (with_reducible apply Keeps.step (releaseLock_keeps ..); on_goal 1 => decide)
    | (with_reducible apply Keeps.step (lockStep_keeps ..); on_goal 1 => decide)
    | (with_reducible apply Keeps.step (carryOut_keeps ..); on_goal 1 => decide)
    | (with_reducible apply Keeps.step (yardHolds_keeps ..); on_goal 1 => decide)
    | (with_reducible apply Keeps.step (State.modChan_keeps ..); on_goal 1 => decide)
    | with_reducible apply Keeps.ite
    | (extract_lets +onlyGivenNames x; with_reducible apply Keeps.cut (x := by apply x) <;> [(unfold x; clear x); (clear_value x; intro _; revert x; intros)])
    | (extract_lets +onlyGivenNames x; clear_value x; revert x; intros)
    | split
    | dsimp -zeta only)

theorem guardEntries_keeps (c : Nat) (s : State) : Keeps 8589934575 s (guardEntries c s) := by
  unfold guardEntries
  repeat' (first
    | with_reducible exact Keeps.refl _
    | with_reducible assumption
    | (with_reducible apply Keeps.step (State.modChan_keeps ..); on_goal 1 => decide)
    | with_reducible apply Keeps.ite
    | (extract_lets +onlyGivenNames x; with_reducible apply Keeps.cut (x := by apply x) <;> [(unfold x; clear x); (clear_value x; intro _; revert x; intros)])
    | (extract_lets +onlyGivenNames x; unfold x; clear x)
    | dsimp -zeta only)

theorem closeGate_keeps (c : Nat) (s : State) : Keeps 8053063679 s (closeGate c s) := by
  unfold closeGate
  repeat' (first
    | with_reducible exact Keeps.refl _
    | with_reducible assumption
    | (with_reducible apply Keeps.step (setCtx_keeps ..); on_goal 1 => decide)
    | (with_reducible apply Keeps.step (State.addObj_keeps ..); on_goal 1 => decide)
    | with_reducible apply Keeps.ite
    | (with_reducible apply Keeps.forN <;> [skip; intro _ _ _])
    | (extract_lets +onlyGivenNames x; with_reducible apply Keeps.cut (x := by apply x) <;> [(unfold x; clear x); (clear_value x; intro _; revert x; intros)])
    | (extract_lets +onlyGivenNames x; clear_value x; revert x; intros)
    | split
    | dsimp -zeta only)

end Sys2Proof.Machine
end

