-- ==== Sys2Proof/Laws/KeepsPortCmds.lean ====
section
/-! SUPPORT. What each function of Machine/PortCmds.lean can do (see Laws/Keeps.lean). -/

set_option linter.tactic.unusedName false
set_option linter.unusedTactic false
set_option linter.unreachableTactic false

namespace Sys2Proof.Machine

theorem execPacketReceived_keeps (port : Fin 96) (units : List (BitVec 544)) (s : State) {t : State} (h : execPacketReceived port units s = .next t) : Keeps 3688890365 s t := by
  obtain rfl := Host.Outcome.next.inj h
  repeat' (first
    | with_reducible exact Keeps.refl _
    | with_reducible assumption
    | (with_reducible apply Keeps.step (receivePacket_keeps ..); on_goal 1 => decide)
    | dsimp -zeta only)

theorem execRequestAdmission_keeps (port : Fin 112) (s : State) {t : State} (h : execRequestAdmission port s = .next t) : Keeps 2315780365 s t := by
  obtain rfl := Host.Outcome.next.inj h
  repeat' (first
    | with_reducible exact Keeps.refl _
    | with_reducible assumption
    | (with_reducible apply Keeps.step (admitFront_keeps ..); on_goal 1 => decide)
    | dsimp -zeta only)

theorem execRead_keeps (port : Fin 96) (tag : BitVec 8) (addr : BitVec 46) (len : BitVec 3) (lock : Bool) (s : State) {t : State} (h : execRead port tag addr len lock s = .next t) : Keeps 2315780105 s t := by
  obtain rfl := Host.Outcome.next.inj h
  repeat' (first
    | with_reducible exact Keeps.refl _
    | with_reducible assumption
    | (with_reducible apply Keeps.step (issue_keeps ..); on_goal 1 => decide)
    | dsimp -zeta only)

theorem execReadRaw_keeps (port : Fin 96) (tag : BitVec 8) (addr : BitVec 46) (len : BitVec 3) (lock : Bool) (s : State) {t : State} (h : execReadRaw port tag addr len lock s = .next t) : Keeps 2315780105 s t := by
  obtain rfl := Host.Outcome.next.inj h
  repeat' (first
    | with_reducible exact Keeps.refl _
    | with_reducible assumption
    | (with_reducible apply Keeps.step (issue_keeps ..); on_goal 1 => decide)
    | dsimp -zeta only)

theorem execWrite_keeps (port : Fin 96) (tag : BitVec 8) (addr : BitVec 46) (twin lock : Bool) (data : List (BitVec 512)) (s : State) {t : State} (h : execWrite port tag addr twin lock data s = .next t) : Keeps 2315780105 s t := by
  obtain rfl := Host.Outcome.next.inj h
  repeat' (first
    | with_reducible exact Keeps.refl _
    | with_reducible assumption
    | (with_reducible apply Keeps.step (issue_keeps ..); on_goal 1 => decide)
    | dsimp -zeta only)

theorem execWriteMasked_keeps (port : Fin 96) (tag : BitVec 8) (addr : BitVec 46) (mask : BitVec 64) (twin lock : Bool) (data : BitVec 512) (s : State) {t : State} (h : execWriteMasked port tag addr mask twin lock data s = .next t) : Keeps 2315780105 s t := by
  obtain rfl := Host.Outcome.next.inj h
  repeat' (first
    | with_reducible exact Keeps.refl _
    | with_reducible assumption
    | (with_reducible apply Keeps.step (issue_keeps ..); on_goal 1 => decide)
    | dsimp -zeta only)

theorem execCas8_keeps (port : Fin 96) (tag : BitVec 8) (addr : BitVec 46) (compare swap : BitVec 64) (twin : Bool) (s : State) {t : State} (h : execCas8 port tag addr compare swap twin s = .next t) : Keeps 2315780105 s t := by
  obtain rfl := Host.Outcome.next.inj h
  repeat' (first
    | with_reducible exact Keeps.refl _
    | with_reducible assumption
    | (with_reducible apply Keeps.step (issue_keeps ..); on_goal 1 => decide)
    | dsimp -zeta only)

theorem execCas16_keeps (port : Fin 96) (tag : BitVec 8) (addr : BitVec 46) (compare swap : BitVec 128) (twin : Bool) (s : State) {t : State} (h : execCas16 port tag addr compare swap twin s = .next t) : Keeps 2315780105 s t := by
  obtain rfl := Host.Outcome.next.inj h
  repeat' (first
    | with_reducible exact Keeps.refl _
    | with_reducible assumption
    | (with_reducible apply Keeps.step (issue_keeps ..); on_goal 1 => decide)
    | dsimp -zeta only)

theorem execFadd8_keeps (port : Fin 96) (tag : BitVec 8) (addr : BitVec 46) (addend : BitVec 64) (twin : Bool) (s : State) {t : State} (h : execFadd8 port tag addr addend twin s = .next t) : Keeps 2315780105 s t := by
  obtain rfl := Host.Outcome.next.inj h
  repeat' (first
    | with_reducible exact Keeps.refl _
    | with_reducible assumption
    | (with_reducible apply Keeps.step (issue_keeps ..); on_goal 1 => decide)
    | dsimp -zeta only)

theorem execSwap8_keeps (port : Fin 96) (tag : BitVec 8) (addr : BitVec 46) (value : BitVec 64) (twin : Bool) (s : State) {t : State} (h : execSwap8 port tag addr value twin s = .next t) : Keeps 2315780105 s t := by
  obtain rfl := Host.Outcome.next.inj h
  repeat' (first
    | with_reducible exact Keeps.refl _
    | with_reducible assumption
    | (with_reducible apply Keeps.step (issue_keeps ..); on_goal 1 => decide)
    | dsimp -zeta only)

theorem execFenceTwin_keeps (port : Fin 96) (tag : BitVec 8) (s : State) {t : State} (h : execFenceTwin port tag s = .next t) : Keeps 2315780105 s t := by
  obtain rfl := Host.Outcome.next.inj h
  repeat' (first
    | with_reducible exact Keeps.refl _
    | with_reducible assumption
    | (with_reducible apply Keeps.step (issue_keeps ..); on_goal 1 => decide)
    | dsimp -zeta only)

theorem execLockMemberTimeout_keeps (port : Fin 96) (s : State) {t : State} (h : execLockMemberTimeout port s = .next t) : Keeps 2315780365 s t := by
  obtain rfl := Host.Outcome.next.inj h
  repeat' (first
    | with_reducible exact Keeps.refl _
    | with_reducible assumption
    | (with_reducible apply Keeps.step (lockTimeout_keeps ..); on_goal 1 => decide)
    | dsimp -zeta only)

theorem execTagDeadline_keeps (port : Fin 112) (s : State) {t : State} (h : execTagDeadline port s = .next t) : Keeps 2589981693 s t := by
  obtain rfl := Host.Outcome.next.inj h
  repeat' (first
    | with_reducible exact Keeps.refl _
    | with_reducible assumption
    | (with_reducible apply Keeps.step (checkDeadlines_keeps ..); on_goal 1 => decide)
    | dsimp -zeta only)

theorem twinDeadline_keeps (p tag : Nat) (s : State) : Keeps 3663723517 s (twinDeadline p tag s) := by
  unfold twinDeadline
  repeat' (first
    | with_reducible exact Keeps.refl _
    | with_reducible assumption
    | (with_reducible apply Keeps.step (localOnly_keeps ..); on_goal 1 => decide)
    | with_reducible apply Keeps.ite
    | split
    | dsimp -zeta only)

theorem execTwinDurableDeadline_keeps (port : Fin 112) (tag : BitVec 8) (s : State) {t : State} (h : execTwinDurableDeadline port tag s = .next t) : Keeps 3663723517 s t := by
  obtain rfl := Host.Outcome.next.inj h
  repeat' (first
    | with_reducible exact Keeps.refl _
    | with_reducible assumption
    | (with_reducible apply Keeps.step (twinDeadline_keeps ..); on_goal 1 => decide)
    | dsimp -zeta only)

theorem memResponse_keeps (r : Resp) (s : State) : Keeps 6979321855 s (memResponse r s) := by
  unfold memResponse
  repeat' (first
    | with_reducible exact Keeps.refl _
    | with_reducible assumption
    | (with_reducible apply Keeps.step (State.setObj_keeps ..); on_goal 1 => decide)
    | (with_reducible apply Keeps.step (State.setRec_keeps ..); on_goal 1 => decide)
    | (with_reducible apply Keeps.step (State.clearRec_keeps ..); on_goal 1 => decide)
    | with_reducible apply Keeps.ite
    | (extract_lets +onlyGivenNames x; with_reducible apply Keeps.cut (x := by apply x) <;> [(unfold x; clear x); (clear_value x; intro _; revert x; intros)])
    | (extract_lets +onlyGivenNames x; clear_value x; revert x; intros)
    | dsimp -zeta only)

theorem egressStep_keeps (p : Nat) (s : State) : Keeps 2615147513 s (egressStep p s) := by
  unfold egressStep
  repeat' (first
    | with_reducible exact Keeps.refl _
    | with_reducible assumption
    | (with_reducible apply Keeps.step (arriveBack_keeps ..); on_goal 1 => decide)
    | (with_reducible apply Keeps.step (registerEgress_keeps ..); on_goal 1 => decide)
    | (with_reducible apply Keeps.step (drainEgress_keeps ..); on_goal 1 => decide)
    | (with_reducible apply Keeps.step (memResponse_keeps ..); on_goal 1 => decide)
    | (with_reducible apply Keeps.step (State.modPort_keeps ..); on_goal 1 => decide)
    | with_reducible apply Keeps.ite
    | (extract_lets +onlyGivenNames x; with_reducible apply Keeps.cut (x := by apply x) <;> [(unfold x; clear x); (clear_value x; intro _; revert x; intros)])
    | (extract_lets +onlyGivenNames x; clear_value x; revert x; intros)
    | split
    | dsimp -zeta only)

theorem execResponseEgress_keeps (port : Fin 112) (s : State) {t : State} (h : execResponseEgress port s = .next t) : Keeps 2615147513 s t := by
  obtain rfl := Host.Outcome.next.inj h
  repeat' (first
    | with_reducible exact Keeps.refl _
    | with_reducible assumption
    | (with_reducible apply Keeps.step (egressStep_keeps ..); on_goal 1 => decide)
    | dsimp -zeta only)

theorem lateDrop_keeps (p tag : Nat) (s : State) : Keeps 8053063673 s (lateDrop p tag s) := by
  unfold lateDrop
  repeat' (first
    | with_reducible exact Keeps.refl _
    | with_reducible assumption
    | (with_reducible apply Keeps.step (dropLate_keeps ..); on_goal 1 => decide)
    | (with_reducible apply Keeps.step (dropUnits_keeps ..); on_goal 1 => decide)
    | (with_reducible apply Keeps.step (takeBack_keeps ..); on_goal 1 => decide)
    | split
    | dsimp -zeta only)

theorem execLateResponseDrop_keeps (port : Fin 112) (tag : BitVec 8) (s : State) {t : State} (h : execLateResponseDrop port tag s = .next t) : Keeps 8053063673 s t := by
  obtain rfl := Host.Outcome.next.inj h
  repeat' (first
    | with_reducible exact Keeps.refl _
    | with_reducible assumption
    | (with_reducible apply Keeps.step (lateDrop_keeps ..); on_goal 1 => decide)
    | dsimp -zeta only)

theorem execEgressCredit_keeps (port : Fin 96) (s : State) {t : State} (h : execEgressCredit port s = .next t) : Keeps 8589934589 s t := by
  obtain rfl := Host.Outcome.next.inj h
  repeat' (first
    | with_reducible exact Keeps.refl _
    | with_reducible assumption
    | (with_reducible apply Keeps.step (drainEgress_keeps ..); on_goal 1 => decide)
    | (with_reducible apply Keeps.step (State.modPort_keeps ..); on_goal 1 => decide)
    | dsimp -zeta only)

theorem execIngressOverrun_keeps (port : Fin 96) (s : State) {t : State} (h : execIngressOverrun port s = .next t) : Keeps 3688890365 s t := by
  obtain rfl := Host.Outcome.next.inj h
  repeat' (first
    | with_reducible exact Keeps.refl _
    | with_reducible assumption
    | (with_reducible apply Keeps.step (portCause_keeps ..); on_goal 1 => decide)
    | (with_reducible apply Keeps.step (State.modPort_keeps ..); on_goal 1 => decide)
    | dsimp -zeta only)

theorem resetIngress_keeps (p : Nat) (s : State) : Keeps 2315780365 s (resetIngress p s) := by
  unfold resetIngress
  repeat' (first
    | with_reducible exact Keeps.refl _
    | with_reducible assumption
    | (with_reducible apply Keeps.step (portCause_keeps ..); on_goal 1 => decide)
    | (with_reducible apply Keeps.step (respond_keeps ..); on_goal 1 => decide)
    | (with_reducible apply Keeps.step (advanceHorizon_keeps ..); on_goal 1 => decide)
    | (with_reducible apply Keeps.step (State.addObj_keeps ..); on_goal 1 => decide)
    | (with_reducible apply Keeps.step (State.setPort_keeps ..); on_goal 1 => decide)
    | (with_reducible apply Keeps.foldl <;> [skip; intro _ _ _])
    | (with_reducible apply Keeps.foldl_fst <;> [skip; intro _ _ _])
    | (extract_lets +onlyGivenNames x; with_reducible apply Keeps.cut (x := by apply x) <;> [(unfold x; clear x); (clear_value x; intro _; revert x; intros)])
    | (extract_lets +onlyGivenNames x; with_reducible apply Keeps.cut (x := by apply x.1) <;> [(unfold x; clear x); (clear_value x; intro _; revert x; intros)])
    | (extract_lets +onlyGivenNames x; clear_value x; revert x; intros)
    | dsimp -zeta only)

theorem resetResponses_keeps (p : Nat) (s : State) : Keeps 2615147517 s (resetResponses p s) := by
  unfold resetResponses
  repeat' (first
    | with_reducible exact Keeps.refl _
    | with_reducible assumption
    | (with_reducible apply Keeps.step (portCause_keeps ..); on_goal 1 => decide)
    | (with_reducible apply Keeps.step (timeoutTag_keeps ..); on_goal 1 => decide)
    | (with_reducible apply Keeps.step (State.addObj_keeps ..); on_goal 1 => decide)
    | (with_reducible apply Keeps.step (State.modPort_keeps ..); on_goal 1 => decide)
    | (with_reducible apply Keeps.foldl <;> [skip; intro _ _ _])
    | (with_reducible apply Keeps.foldl_fst <;> [skip; intro _ _ _])
    | (extract_lets +onlyGivenNames x; with_reducible apply Keeps.cut (x := by apply x) <;> [(unfold x; clear x); (clear_value x; intro _; revert x; intros)])
    | (extract_lets +onlyGivenNames x; with_reducible apply Keeps.cut (x := by apply x.1) <;> [(unfold x; clear x); (clear_value x; intro _; revert x; intros)])
    | (extract_lets +onlyGivenNames x; clear_value x; revert x; intros)
    | dsimp -zeta only)

theorem againWriteBack_keeps (c l : Nat) (s : State) : Keeps 8053062607 s (againWriteBack c l s) := by
  unfold againWriteBack
  repeat' (first
    | with_reducible exact Keeps.refl _
    | with_reducible assumption
    | (with_reducible apply Keeps.step (enterWriteBack_keeps ..); on_goal 1 => decide)
    | (with_reducible apply Keeps.step (State.setPline_keeps ..); on_goal 1 => decide)
    | with_reducible apply Keeps.ite
    | (extract_lets +onlyGivenNames x; with_reducible apply Keeps.cut (x := by apply x) <;> [(unfold x; clear x); (clear_value x; intro _; revert x; intros)])
    | (extract_lets +onlyGivenNames x; clear_value x; revert x; intros)
    | split
    | dsimp -zeta only)

theorem dropLine_keeps (c l : Nat) (wr : Bool) (s : State) : Keeps 3663722829 s (dropLine c l wr s) := by
  unfold dropLine
  repeat' (first
    | with_reducible exact Keeps.refl _
    | with_reducible assumption
    | (with_reducible apply Keeps.step (fillError_keeps ..); on_goal 1 => decide)
    | (with_reducible apply Keeps.step (againWriteBack_keeps ..); on_goal 1 => decide)
    | with_reducible apply Keeps.ite
    | dsimp -zeta only)

theorem dropEntry_keeps (c : Nat) (e : Entry) (s : State) : Keeps 3663722829 s (dropEntry c e s) := by
  unfold dropEntry
  repeat' (first
    | with_reducible exact Keeps.refl _
    | with_reducible assumption
    | (with_reducible apply Keeps.step (deliver_keeps ..); on_goal 1 => decide)
    | (with_reducible apply Keeps.step (serveGot_keeps ..); on_goal 1 => decide)
    | (with_reducible apply Keeps.step (dropLine_keeps ..); on_goal 1 => decide)
    | with_reducible apply Keeps.ite
    | with_reducible apply Keeps.ite_fst
    | (with_reducible apply Keeps.foldl <;> [skip; intro _ _ _])
    | (with_reducible apply Keeps.foldl_fst <;> [skip; intro _ _ _])
    | split
    | dsimp -zeta only)

theorem resetChannelQueue_keeps (c which : Nat) (s : State) : Keeps 2315780365 s (resetChannelQueue c which s) := by
  unfold resetChannelQueue
  repeat' (first
    | with_reducible exact Keeps.refl _
    | with_reducible assumption
    | (with_reducible apply Keeps.step (abortBursts_keeps ..); on_goal 1 => decide)
    | (with_reducible apply Keeps.step (advanceHorizon_keeps ..); on_goal 1 => decide)
    | (with_reducible apply Keeps.step (dropLine_keeps ..); on_goal 1 => decide)
    | (with_reducible apply Keeps.step (dropEntry_keeps ..); on_goal 1 => decide)
    | (with_reducible apply Keeps.step (State.modChan_keeps ..); on_goal 1 => decide)
    | with_reducible apply Keeps.ite
    | with_reducible apply Keeps.ite_fst
    | (with_reducible apply Keeps.foldl <;> [skip; intro _ _ _])
    | (with_reducible apply Keeps.foldl_fst <;> [skip; intro _ _ _])
    | (extract_lets +onlyGivenNames x; with_reducible apply Keeps.cut (x := by apply x) <;> [(unfold x; clear x); (clear_value x; intro _; revert x; intros)])
    | (extract_lets +onlyGivenNames x; with_reducible apply Keeps.cut (x := by apply x.1) <;> [(unfold x; clear x); (clear_value x; intro _; revert x; intros)])
    | (extract_lets +onlyGivenNames x; clear_value x; revert x; intros)
    | split
    | dsimp -zeta only)

theorem resetReplay_keeps (s : State) : Keeps 3659266397 s (resetReplay s) := by
  unfold resetReplay
  repeat' (first
    | with_reducible exact Keeps.refl _
    | with_reducible assumption
    | (with_reducible apply Keeps.step (breakMirror_keeps ..); on_goal 1 => decide)
    | with_reducible apply Keeps.ite
    | (with_reducible apply Keeps.forN <;> [skip; intro _ _ _])
    | (extract_lets +onlyGivenNames x; with_reducible apply Keeps.cut (x := by apply x) <;> [(unfold x; clear x); (clear_value x; intro _; revert x; intros)])
    | (extract_lets +onlyGivenNames x; clear_value x; revert x; intros)
    | fail_if_no_progress (with_reducible apply Keeps.upd_mirror <;> [skip; decide])
    | dsimp -zeta only)

theorem resetEventQueue_keeps (s : State) : Keeps 7985954815 s (resetEventQueue s) := by
  unfold resetEventQueue
  repeat' (first
    | with_reducible exact Keeps.refl _
    | with_reducible assumption
    | (with_reducible apply Keeps.step (State.addObj_keeps ..); on_goal 1 => decide)
    | (extract_lets +onlyGivenNames x; with_reducible apply Keeps.cut (x := by apply x) <;> [(unfold x; clear x); (clear_value x; intro _; revert x; intros)])
    | (extract_lets +onlyGivenNames x; clear_value x; revert x; intros)
    | fail_if_no_progress (with_reducible apply Keeps.upd_ev <;> [skip; decide])
    | dsimp -zeta only)

theorem pointerMismatch_keeps (queue unit which : Nat) (s : State) : Keeps 2315780365 s (pointerMismatch queue unit which s) := by
  unfold pointerMismatch
  repeat' (first
    | with_reducible exact Keeps.refl _
    | with_reducible assumption
    | (with_reducible apply Keeps.step (storeReset_keeps ..); on_goal 1 => decide)
    | (with_reducible apply Keeps.step (resetIngress_keeps ..); on_goal 1 => decide)
    | (with_reducible apply Keeps.step (resetResponses_keeps ..); on_goal 1 => decide)
    | (with_reducible apply Keeps.step (resetChannelQueue_keeps ..); on_goal 1 => decide)
    | (with_reducible apply Keeps.step (resetReplay_keeps ..); on_goal 1 => decide)
    | (with_reducible apply Keeps.step (resetEventQueue_keeps ..); on_goal 1 => decide)
    | (extract_lets +onlyGivenNames x; with_reducible apply Keeps.cut (x := by apply x) <;> [(unfold x; clear x); (clear_value x; intro _; revert x; intros)])
    | (extract_lets +onlyGivenNames x; clear_value x; revert x; intros)
    | split
    | dsimp -zeta only)

theorem execQueuePointerMismatch_keeps (queue : Fin 5) (unit : Fin 96) (which : Fin 5) (s : State) {t : State} (h : execQueuePointerMismatch queue unit which s = .next t) : Keeps 2315780365 s t := by
  obtain rfl := Host.Outcome.next.inj h
  repeat' (first
    | with_reducible exact Keeps.refl _
    | with_reducible assumption
    | (with_reducible apply Keeps.step (pointerMismatch_keeps ..); on_goal 1 => decide)
    | dsimp -zeta only)

theorem losePlaza_keeps (c l : Nat) (s : State) : Keeps 2315780429 s (losePlaza c l s) := by
  unfold losePlaza
  repeat' (first
    | with_reducible exact Keeps.refl _
    | with_reducible assumption
    | (with_reducible apply Keeps.step (lose_keeps ..); on_goal 1 => decide)
    | (with_reducible apply Keeps.step (fillError_keeps ..); on_goal 1 => decide)
    | (with_reducible apply Keeps.step (State.delPline_keeps ..); on_goal 1 => decide)
    | with_reducible apply Keeps.ite
    | split
    | dsimp -zeta only)

theorem loseLedger_keeps (c l : Nat) (s : State) : Keeps 2340947919 s (loseLedger c l s) := by
  unfold loseLedger
  repeat' (first
    | with_reducible exact Keeps.refl _
    | with_reducible assumption
    | (with_reducible apply Keeps.step (readCopies_keeps ..); on_goal 1 => decide)
    | (with_reducible apply Keeps.step (lose_keeps ..); on_goal 1 => decide)
    | with_reducible apply Keeps.ite
    | with_reducible apply Keeps.ite_fst
    | (extract_lets +onlyGivenNames x; with_reducible apply Keeps.cut (x := by apply x) <;> [(unfold x; clear x); (clear_value x; intro _; revert x; intros)])
    | (extract_lets +onlyGivenNames x; with_reducible apply Keeps.cut (x := by apply x.1) <;> [(unfold x; clear x); (clear_value x; intro _; revert x; intros)])
    | (extract_lets +onlyGivenNames x; clear_value x; revert x; intros)
    | split
    | fail_if_no_progress (with_reducible apply Keeps.upd_ledger <;> [skip; decide])
    | fail_if_no_progress (with_reducible apply Keeps.upd_pinned <;> [skip; decide])
    | dsimp -zeta only)

theorem loseOrder_keeps (c l : Nat) (s : State) : Keeps 2315780429 s (loseOrder c l s) := by
  unfold loseOrder
  repeat' (first
    | with_reducible exact Keeps.refl _
    | with_reducible assumption
    | (with_reducible apply Keeps.step (lose_keeps ..); on_goal 1 => decide)
    | (with_reducible apply Keeps.step (answer_keeps ..); on_goal 1 => decide)
    | (with_reducible apply Keeps.step (fillError_keeps ..); on_goal 1 => decide)
    | (with_reducible apply Keeps.step (State.delPline_keeps ..); on_goal 1 => decide)
    | (with_reducible apply Keeps.foldl <;> [skip; intro _ _ _])
    | (with_reducible apply Keeps.foldl_fst <;> [skip; intro _ _ _])
    | (extract_lets +onlyGivenNames x; with_reducible apply Keeps.cut (x := by apply x) <;> [(unfold x; clear x); (clear_value x; intro _; revert x; intros)])
    | (extract_lets +onlyGivenNames x; with_reducible apply Keeps.cut (x := by apply x.1) <;> [(unfold x; clear x); (clear_value x; intro _; revert x; intros)])
    | (extract_lets +onlyGivenNames x; clear_value x; revert x; intros)
    | split
    | fail_if_no_progress (with_reducible apply Keeps.upd_order <;> [skip; decide])
    | dsimp -zeta only)

theorem sramBad_keeps (store unit line : Nat) (both : Bool) (s : State) : Keeps 2315780365 s (sramBad store unit line both s) := by
  unfold sramBad
  repeat' (first
    | with_reducible exact Keeps.refl _
    | with_reducible assumption
    | (with_reducible apply Keeps.step (releaseOwn_keeps ..); on_goal 1 => decide)
    | (with_reducible apply Keeps.step (abortCtx_keeps ..); on_goal 1 => decide)
    | (with_reducible apply Keeps.step (helperRelease_keeps ..); on_goal 1 => decide)
    | (with_reducible apply Keeps.step (advanceHorizon_keeps ..); on_goal 1 => decide)
    | (with_reducible apply Keeps.step (breakMirror_keeps ..); on_goal 1 => decide)
    | (with_reducible apply Keeps.step (resetIngress_keeps ..); on_goal 1 => decide)
    | (with_reducible apply Keeps.step (resetResponses_keeps ..); on_goal 1 => decide)
    | (with_reducible apply Keeps.step (dropEntry_keeps ..); on_goal 1 => decide)
    | (with_reducible apply Keeps.step (resetEventQueue_keeps ..); on_goal 1 => decide)
    | (with_reducible apply Keeps.step (losePlaza_keeps ..); on_goal 1 => decide)
    | (with_reducible apply Keeps.step (loseLedger_keeps ..); on_goal 1 => decide)
    | (with_reducible apply Keeps.step (loseOrder_keeps ..); on_goal 1 => decide)
    | (with_reducible apply Keeps.step (State.setObj_keeps ..); on_goal 1 => decide)
    | (with_reducible apply Keeps.step (State.addObj_keeps ..); on_goal 1 => decide)
    | (with_reducible apply Keeps.step (State.setChan_keeps ..); on_goal 1 => decide)
    | (with_reducible apply Keeps.step (State.modChan_keeps ..); on_goal 1 => decide)
    | (with_reducible apply Keeps.step (State.raise_keeps ..); on_goal 1 => decide)
    | with_reducible apply Keeps.ite
    | with_reducible apply Keeps.ite_fst
    | (with_reducible apply Keeps.foldl <;> [skip; intro _ _ _])
    | (with_reducible apply Keeps.foldl_fst <;> [skip; intro _ _ _])
    | (with_reducible apply Keeps.forN_fst <;> [skip; intro _ _ _])
    | (with_reducible apply Keeps.forN <;> [skip; intro _ _ _])
    | (extract_lets +onlyGivenNames x; with_reducible apply Keeps.cut (x := by apply x) <;> [(unfold x; clear x); (clear_value x; intro _; revert x; intros)])
    | (extract_lets +onlyGivenNames x; with_reducible apply Keeps.cut (x := by apply x.1) <;> [(unfold x; clear x); (clear_value x; intro _; revert x; intros)])
    | (extract_lets +onlyGivenNames x; unfold x; clear x)
    | split
    | fail_if_no_progress (with_reducible apply Keeps.upd_blk <;> [skip; decide])
    | fail_if_no_progress (with_reducible apply Keeps.upd_recs <;> [skip; decide; (intros; repeat' (first | with_reducible assumption | with_reducible exact Memory.wf_nil | with_reducible apply Memory.wf_sbN | with_reducible apply Memory.wf_sbNat | with_reducible apply Memory.wf_sb | with_reducible apply Memory.wf_filter | with_reducible apply Memory.wf_writeWords | with_reducible apply Memory.wf_foldl_sb | with_reducible exact Keeps.mramOk (by assumption) (by assumption) | split | dsimp only))])
    | dsimp -zeta only)

theorem execSramUncorrectable_keeps (store : Fin 11) (unit : Fin 112) (line : Nat) (both : Bool) (s : State) {t : State} (h : execSramUncorrectable store unit line both s = .next t) : Keeps 2315780365 s t := by
  obtain rfl := Host.Outcome.next.inj h
  repeat' (first
    | with_reducible exact Keeps.refl _
    | with_reducible assumption
    | (with_reducible apply Keeps.step (sramBad_keeps ..); on_goal 1 => decide)
    | dsimp -zeta only)

theorem execSramCorrected_keeps (store : Fin 11) (s : State) {t : State} (h : execSramCorrected store s = .next t) : Keeps 8053063679 s t := by
  obtain rfl := Host.Outcome.next.inj h
  repeat' (first
    | with_reducible exact Keeps.refl _
    | with_reducible assumption
    | (with_reducible apply Keeps.step (State.addObj_keeps ..); on_goal 1 => decide)
    | dsimp -zeta only)

theorem execSliceArrival_keeps (c : Fin 16) (port : Fin 112) (tag : BitVec 8) (s : State) {t : State} (h : execSliceArrival c port tag s = .next t) : Keeps 2315780105 s t := by
  obtain rfl := Host.Outcome.next.inj h
  repeat' (first
    | with_reducible exact Keeps.refl _
    | with_reducible assumption
    | (with_reducible apply Keeps.step (arriveAt_keeps ..); on_goal 1 => decide)
    | dsimp -zeta only)

theorem rawHeld_keeps (e : Entry) (s : State) : Keeps 3663722765 s (rawHeld e s) := by
  unfold rawHeld
  repeat' (first
    | with_reducible exact Keeps.refl _
    | with_reducible assumption
    | (with_reducible apply Keeps.step (rawAway_keeps ..); on_goal 1 => decide)
    | (with_reducible apply Keeps.step (enterOrder_keeps ..); on_goal 1 => decide)
    | with_reducible apply Keeps.ite
    | with_reducible apply Keeps.ite_fst
    | (extract_lets +onlyGivenNames x; with_reducible apply Keeps.cut (x := by apply x) <;> [(unfold x; clear x); (clear_value x; intro _; revert x; intros)])
    | (extract_lets +onlyGivenNames x; with_reducible apply Keeps.cut (x := by apply x.1) <;> [(unfold x; clear x); (clear_value x; intro _; revert x; intros)])
    | (extract_lets +onlyGivenNames x; clear_value x; revert x; intros)
    | split
    | dsimp -zeta only)

theorem serveHeld_keeps (c : Nat) (s : State) : Keeps 2315780365 s (serveHeld c s) := by
  unfold serveHeld
  repeat' (first
    | with_reducible exact Keeps.refl _
    | with_reducible assumption
    | (with_reducible apply Keeps.step (remoteRequest_keeps ..); on_goal 1 => decide)
    | (with_reducible apply Keeps.step (fillError_keeps ..); on_goal 1 => decide)
    | (with_reducible apply Keeps.step (serveReturns_keeps ..); on_goal 1 => decide)
    | (with_reducible apply Keeps.step (rawHeld_keeps ..); on_goal 1 => decide)
    | (with_reducible apply Keeps.step (State.modChan_keeps ..); on_goal 1 => decide)
    | with_reducible apply Keeps.ite
    | with_reducible apply Keeps.ite_fst
    | (with_reducible apply Keeps.foldl <;> [skip; intro _ _ _])
    | (with_reducible apply Keeps.foldl_fst <;> [skip; intro _ _ _])
    | (extract_lets +onlyGivenNames x; with_reducible apply Keeps.cut (x := by apply x) <;> [(unfold x; clear x); (clear_value x; intro _; revert x; intros)])
    | (extract_lets +onlyGivenNames x; with_reducible apply Keeps.cut (x := by apply x.1) <;> [(unfold x; clear x); (clear_value x; intro _; revert x; intros)])
    | (extract_lets +onlyGivenNames x; clear_value x; revert x; intros)
    | split
    | dsimp -zeta only)

theorem execHorizonAdvance_keeps (c : Fin 16) (s : State) {t : State} (h : execHorizonAdvance c s = .next t) : Keeps 2315780365 s t := by
  obtain rfl := Host.Outcome.next.inj h
  repeat' (first
    | with_reducible exact Keeps.refl _
    | with_reducible assumption
    | (with_reducible apply Keeps.step (advanceHorizon_keeps ..); on_goal 1 => decide)
    | (with_reducible apply Keeps.step (serveHeld_keeps ..); on_goal 1 => decide)
    | dsimp -zeta only)

theorem readReturns_keeps (c l : Nat) (s : State) : Keeps 2315780365 s (readReturns c l s) := by
  unfold readReturns
  repeat' (first
    | with_reducible exact Keeps.refl _
    | with_reducible assumption
    | (with_reducible apply Keeps.step (noteLine_keeps ..); on_goal 1 => decide)
    | (with_reducible apply Keeps.step (deliver_keeps ..); on_goal 1 => decide)
    | (with_reducible apply Keeps.step (completeFill_keeps ..); on_goal 1 => decide)
    | (with_reducible apply Keeps.step (serveReturns_keeps ..); on_goal 1 => decide)
    | (with_reducible apply Keeps.step (State.setChan_keeps ..); on_goal 1 => decide)
    | (extract_lets +onlyGivenNames x; with_reducible apply Keeps.cut (x := by apply x) <;> [(unfold x; clear x); (clear_value x; intro _; revert x; intros)])
    | (extract_lets +onlyGivenNames x; clear_value x; revert x; intros)
    | split
    | dsimp -zeta only)

theorem execFillComplete_keeps (c : Fin 16) (line : Nat) (s : State) {t : State} (h : execFillComplete c line s = .next t) : Keeps 2315780365 s t := by
  obtain rfl := Host.Outcome.next.inj h
  repeat' (first
    | with_reducible exact Keeps.refl _
    | with_reducible assumption
    | (with_reducible apply Keeps.step (serveHeld_keeps ..); on_goal 1 => decide)
    | (with_reducible apply Keeps.step (readReturns_keeps ..); on_goal 1 => decide)
    | dsimp -zeta only)

theorem writeBackDone_keeps (c l : Nat) (s : State) : Keeps 2315780365 s (writeBackDone c l s) := by
  unfold writeBackDone
  repeat' (first
    | with_reducible exact Keeps.refl _
    | with_reducible assumption
    | (with_reducible apply Keeps.step (advanceHorizon_keeps ..); on_goal 1 => decide)
    | (with_reducible apply Keeps.step (State.setChan_keeps ..); on_goal 1 => decide)
    | (with_reducible apply Keeps.step (State.modChan_keeps ..); on_goal 1 => decide)
    | (with_reducible apply Keeps.step (State.setPline_keeps ..); on_goal 1 => decide)
    | with_reducible apply Keeps.ite
    | (extract_lets +onlyGivenNames x; with_reducible apply Keeps.cut (x := by apply x) <;> [(unfold x; clear x); (clear_value x; intro _; revert x; intros)])
    | (extract_lets +onlyGivenNames x; clear_value x; revert x; intros)
    | split
    | fail_if_no_progress (with_reducible apply Keeps.upd_sup <;> [skip; decide])
    | dsimp -zeta only)

theorem execWritebackComplete_keeps (c : Fin 16) (line : Nat) (s : State) {t : State} (h : execWritebackComplete c line s = .next t) : Keeps 2315780365 s t := by
  obtain rfl := Host.Outcome.next.inj h
  repeat' (first
    | with_reducible exact Keeps.refl _
    | with_reducible assumption
    | (with_reducible apply Keeps.step (writeBackDone_keeps ..); on_goal 1 => decide)
    | dsimp -zeta only)

theorem dirtyAge_keeps (c l : Nat) (s : State) : Keeps 8053062607 s (dirtyAge c l s) := by
  unfold dirtyAge
  repeat' (first
    | with_reducible exact Keeps.refl _
    | with_reducible assumption
    | (with_reducible apply Keeps.step (queueWriteBack_keeps ..); on_goal 1 => decide)
    | with_reducible apply Keeps.ite
    | split
    | dsimp -zeta only)

theorem execDirtyAgeExpiry_keeps (c : Fin 16) (line : Nat) (s : State) {t : State} (h : execDirtyAgeExpiry c line s = .next t) : Keeps 8053062607 s t := by
  obtain rfl := Host.Outcome.next.inj h
  repeat' (first
    | with_reducible exact Keeps.refl _
    | with_reducible assumption
    | (with_reducible apply Keeps.step (dirtyAge_keeps ..); on_goal 1 => decide)
    | dsimp -zeta only)

theorem ledgerAge_keeps (c l : Nat) (s : State) : Keeps 2340947919 s (ledgerAge c l s) := by
  unfold ledgerAge
  repeat' (first
    | with_reducible exact Keeps.refl _
    | with_reducible assumption
    | (with_reducible apply Keeps.step (flushLedger_keeps ..); on_goal 1 => decide)
    | with_reducible apply Keeps.ite
    | split
    | dsimp -zeta only)

theorem execLedgerDirtyAge_keeps (c : Fin 16) (line : Nat) (s : State) {t : State} (h : execLedgerDirtyAge c line s = .next t) : Keeps 2340947919 s t := by
  obtain rfl := Host.Outcome.next.inj h
  repeat' (first
    | with_reducible exact Keeps.refl _
    | with_reducible assumption
    | (with_reducible apply Keeps.step (ledgerAge_keeps ..); on_goal 1 => decide)
    | dsimp -zeta only)

end Sys2Proof.Machine
end

