-- ==== Sys2Proof/Laws/KeepsDramEngine.lean ====
section
/-! SUPPORT. What each function of Machine/DramEngine.lean can do (see Laws/Keeps.lean). -/

set_option linter.tactic.unusedName false
set_option linter.unusedTactic false
set_option linter.unreachableTactic false

namespace Sys2Proof.Machine

theorem execEntryGuarded_keeps (c : Fin 16) (s : State) {t : State} (h : execEntryGuarded c s = .next t) : Keeps 8589934575 s t := by
  obtain rfl := Host.Outcome.next.inj h
  repeat' (first
    | with_reducible exact Keeps.refl _
    | with_reducible assumption
    | (with_reducible apply Keeps.step (guardEntries_keeps ..); on_goal 1 => decide)
    | dsimp -zeta only)

theorem execGateWindowClose_keeps (c : Fin 16) (s : State) {t : State} (h : execGateWindowClose c s = .next t) : Keeps 8053063679 s t := by
  obtain rfl := Host.Outcome.next.inj h
  repeat' (first
    | with_reducible exact Keeps.refl _
    | with_reducible assumption
    | (with_reducible apply Keeps.step (closeGate_keeps ..); on_goal 1 => decide)
    | dsimp -zeta only)

theorem setTemps_keeps (c : Nat) (l : Tbl Int) (s : State) : Keeps 8053063663 s (setTemps c l s) := by
  unfold setTemps
  repeat' (first
    | with_reducible exact Keeps.refl _
    | with_reducible assumption
    | (with_reducible apply Keeps.step (State.setObj_keeps ..); on_goal 1 => decide)
    | (with_reducible apply Keeps.step (State.modChan_keeps ..); on_goal 1 => decide)
    | with_reducible apply Keeps.ite
    | with_reducible apply Keeps.ite_fst
    | (with_reducible apply Keeps.foldl <;> [skip; intro _ _ _])
    | (with_reducible apply Keeps.foldl_fst <;> [skip; intro _ _ _])
    | (extract_lets +onlyGivenNames x; with_reducible apply Keeps.cut (x := by apply x) <;> [(unfold x; clear x); (clear_value x; intro _; revert x; intros)])
    | (extract_lets +onlyGivenNames x; with_reducible apply Keeps.cut (x := by apply x.1) <;> [(unfold x; clear x); (clear_value x; intro _; revert x; intros)])
    | (extract_lets +onlyGivenNames x; clear_value x; revert x; intros)
    | split
    | dsimp -zeta only)

theorem noteTemp_keeps (c key : Nat) (t : Int) (s : State) : Keeps 8053063663 s (noteTemp c key t s) := by
  unfold noteTemp
  repeat' (first
    | with_reducible exact Keeps.refl _
    | with_reducible assumption
    | (with_reducible apply Keeps.step (setTemps_keeps ..); on_goal 1 => decide)
    | (with_reducible apply Keeps.step (State.modChan_keeps ..); on_goal 1 => decide)
    | with_reducible apply Keeps.ite
    | (extract_lets +onlyGivenNames x; with_reducible apply Keeps.cut (x := by apply x) <;> [(unfold x; clear x); (clear_value x; intro _; revert x; intros)])
    | (extract_lets +onlyGivenNames x; clear_value x; revert x; intros)
    | dsimp -zeta only)

theorem refreshFrame_keeps (c : Nat) (s : State) : Keeps 3688890351 s (refreshFrame c s) := by
  unfold refreshFrame
  repeat' (first
    | with_reducible exact Keeps.refl _
    | with_reducible assumption
    | (with_reducible apply Keeps.step (State.setObj_keeps ..); on_goal 1 => decide)
    | (with_reducible apply Keeps.step (State.modChan_keeps ..); on_goal 1 => decide)
    | (with_reducible apply Keeps.step (State.raiseChan_keeps ..); on_goal 1 => decide)
    | with_reducible apply Keeps.ite
    | (extract_lets +onlyGivenNames x; with_reducible apply Keeps.cut (x := by apply x) <;> [(unfold x; clear x); (clear_value x; intro _; revert x; intros)])
    | (extract_lets +onlyGivenNames x; clear_value x; revert x; intros)
    | dsimp -zeta only)

theorem refreshExit_keeps (c : Nat) (s : State) : Keeps 8053063679 s (refreshExit c s) := by
  unfold refreshExit
  repeat' (first
    | with_reducible exact Keeps.refl _
    | with_reducible assumption
    | (with_reducible apply Keeps.step (State.setObj_keeps ..); on_goal 1 => decide)
    | with_reducible apply Keeps.ite
    | dsimp -zeta only)

theorem execRefreshDoubleExit_keeps (c : Fin 16) (s : State) {t : State} (h : execRefreshDoubleExit c s = .next t) : Keeps 8053063679 s t := by
  obtain rfl := Host.Outcome.next.inj h
  repeat' (first
    | with_reducible exact Keeps.refl _
    | with_reducible assumption
    | (with_reducible apply Keeps.step (refreshExit_keeps ..); on_goal 1 => decide)
    | dsimp -zeta only)

theorem execSensorReadingTimeout_keeps (c : Fin 16) (s : State) {t : State} (h : execSensorReadingTimeout c s = .next t) : Keeps 8589934575 s t := by
  obtain rfl := Host.Outcome.next.inj h
  repeat' (first
    | with_reducible exact Keeps.refl _
    | with_reducible assumption
    | (with_reducible apply Keeps.step (State.modChan_keeps ..); on_goal 1 => decide)
    | dsimp -zeta only)

theorem setTrims_keeps (c : Nat) (bs : List (Nat × Byte)) (s : State) : Keeps 7516192767 s (setTrims c bs s) := by
  unfold setTrims
  repeat' (first
    | with_reducible exact Keeps.refl _
    | with_reducible assumption
    | (with_reducible apply Keeps.step (State.setRec_keeps ..); on_goal 1 => decide)
    | (with_reducible apply Keeps.foldl <;> [skip; intro _ _ _])
    | (with_reducible apply Keeps.foldl_fst <;> [skip; intro _ _ _])
    | dsimp -zeta only)

theorem applyPending_keeps (c : Nat) (s : State) : Keeps 7516192751 s (applyPending c s) := by
  unfold applyPending
  repeat' (first
    | with_reducible exact Keeps.refl _
    | with_reducible assumption
    | (with_reducible apply Keeps.step (setTrims_keeps ..); on_goal 1 => decide)
    | (with_reducible apply Keeps.step (State.modChan_keeps ..); on_goal 1 => decide)
    | with_reducible apply Keeps.ite
    | (extract_lets +onlyGivenNames x; with_reducible apply Keeps.cut (x := by apply x) <;> [(unfold x; clear x); (clear_value x; intro _; revert x; intros)])
    | (extract_lets +onlyGivenNames x; clear_value x; revert x; intros)
    | dsimp -zeta only)

theorem refreshPlacement_keeps (c b j : Nat) (mr4 : Option Int) (twice : Bool) (s : State) : Keeps 6979321839 s (refreshPlacement c b j mr4 twice s) := by
  unfold refreshPlacement
  repeat' (first
    | with_reducible exact Keeps.refl _
    | with_reducible assumption
    | (with_reducible apply Keeps.step (placeRefresh_keeps ..); on_goal 1 => decide)
    | (with_reducible apply Keeps.step (placementWork_keeps ..); on_goal 1 => decide)
    | (with_reducible apply Keeps.step (noteTemp_keeps ..); on_goal 1 => decide)
    | (with_reducible apply Keeps.step (applyPending_keeps ..); on_goal 1 => decide)
    | (with_reducible apply Keeps.step (State.modChan_keeps ..); on_goal 1 => decide)
    | with_reducible apply Keeps.ite
    | with_reducible apply Keeps.ite_fst
    | (with_reducible apply Keeps.foldl <;> [skip; intro _ _ _])
    | (with_reducible apply Keeps.foldl_fst <;> [skip; intro _ _ _])
    | (with_reducible apply Keeps.forN_fst <;> [skip; intro _ _ _])
    | (with_reducible apply Keeps.forN <;> [skip; intro _ _ _])
    | (extract_lets +onlyGivenNames x; with_reducible apply Keeps.cut (x := by apply x) <;> [(unfold x; clear x); (clear_value x; intro _; revert x; intros)])
    | (extract_lets +onlyGivenNames x; with_reducible apply Keeps.cut (x := by apply x.1) <;> [(unfold x; clear x); (clear_value x; intro _; revert x; intros)])
    | (extract_lets +onlyGivenNames x; clear_value x; revert x; intros)
    | split
    | dsimp -zeta only)

theorem execRefreshPlacement_keeps (c : Fin 16) (bank : Fin 4) (set : Fin 2) (mr4 : Option Int) (twice : Bool) (s : State) {t : State} (h : execRefreshPlacement c bank set mr4 twice s = .next t) : Keeps 6979321839 s t := by
  obtain rfl := Host.Outcome.next.inj h
  repeat' (first
    | with_reducible exact Keeps.refl _
    | with_reducible assumption
    | (with_reducible apply Keeps.step (refreshPlacement_keeps ..); on_goal 1 => decide)
    | dsimp -zeta only)

theorem rfmForced_keeps (c key : Nat) (s : State) : Keeps 3688890351 s (rfmForced c key s) := by
  unfold rfmForced
  repeat' (first
    | with_reducible exact Keeps.refl _
    | with_reducible assumption
    | (with_reducible apply Keeps.step (closeBank_keeps ..); on_goal 1 => decide)
    | (with_reducible apply Keeps.step (issueRfm_keeps ..); on_goal 1 => decide)
    | (with_reducible apply Keeps.step (State.addObj_keeps ..); on_goal 1 => decide)
    | (with_reducible apply Keeps.step (State.raiseChan_keeps ..); on_goal 1 => decide)
    | with_reducible apply Keeps.ite
    | (extract_lets +onlyGivenNames x; with_reducible apply Keeps.cut (x := by apply x) <;> [(unfold x; clear x); (clear_value x; intro _; revert x; intros)])
    | (extract_lets +onlyGivenNames x; clear_value x; revert x; intros)
    | dsimp -zeta only)

theorem execRfmForced_keeps (c : Fin 16) (sub : Fin 2) (rankSlot : Fin 8) (bank : Fin 32) (s : State) {t : State} (h : execRfmForced c sub rankSlot bank s = .next t) : Keeps 3688890351 s t := by
  obtain rfl := Host.Outcome.next.inj h
  repeat' (first
    | with_reducible exact Keeps.refl _
    | with_reducible assumption
    | (with_reducible apply Keeps.step (rfmForced_keeps ..); on_goal 1 => decide)
    | dsimp -zeta only)

theorem rowIdle_keeps (c key : Nat) (s : State) : Keeps 8589934575 s (rowIdle c key s) := by
  unfold rowIdle
  repeat' (first
    | with_reducible exact Keeps.refl _
    | with_reducible assumption
    | (with_reducible apply Keeps.step (closeBank_keeps ..); on_goal 1 => decide)
    | with_reducible apply Keeps.ite
    | (extract_lets +onlyGivenNames x; with_reducible apply Keeps.cut (x := by apply x) <;> [(unfold x; clear x); (clear_value x; intro _; revert x; intros)])
    | (extract_lets +onlyGivenNames x; clear_value x; revert x; intros)
    | dsimp -zeta only)

theorem execRowIdleTimeout_keeps (c : Fin 16) (sub : Fin 2) (rankSlot : Fin 8) (bank : Fin 32) (s : State) {t : State} (h : execRowIdleTimeout c sub rankSlot bank s = .next t) : Keeps 8589934575 s t := by
  obtain rfl := Host.Outcome.next.inj h
  repeat' (first
    | with_reducible exact Keeps.refl _
    | with_reducible assumption
    | (with_reducible apply Keeps.step (rowIdle_keeps ..); on_goal 1 => decide)
    | dsimp -zeta only)

theorem regrant_keeps (c : Nat) (e : Entry) (s : State) : Keeps 8589934543 s (regrant c e s) := by
  unfold regrant
  repeat' (first
    | with_reducible exact Keeps.refl _
    | with_reducible assumption
    | (with_reducible apply Keeps.step (State.modChan_keeps ..); on_goal 1 => decide)
    | (with_reducible apply Keeps.step (State.setPline_keeps ..); on_goal 1 => decide)
    | with_reducible apply Keeps.ite
    | (extract_lets +onlyGivenNames x; with_reducible apply Keeps.cut (x := by apply x) <;> [(unfold x; clear x); (clear_value x; intro _; revert x; intros)])
    | (extract_lets +onlyGivenNames x; clear_value x; revert x; intros)
    | split
    | dsimp -zeta only)

theorem alertFreeze_keeps (c sub : Nat) (a : Alert) (s : State) : Keeps 2315780365 s (alertFreeze c sub a s) := by
  unfold alertFreeze
  repeat' (first
    | with_reducible exact Keeps.refl _
    | with_reducible assumption
    | (with_reducible apply Keeps.step (freezeChannel_keeps ..); on_goal 1 => decide)
    | (with_reducible apply Keeps.step (heldRefresh_keeps ..); on_goal 1 => decide)
    | (with_reducible apply Keeps.step (serveHeld_keeps ..); on_goal 1 => decide)
    | (with_reducible apply Keeps.step (regrant_keeps ..); on_goal 1 => decide)
    | (with_reducible apply Keeps.step (State.modChan_keeps ..); on_goal 1 => decide)
    | (with_reducible apply Keeps.foldl <;> [skip; intro _ _ _])
    | (with_reducible apply Keeps.foldl_fst <;> [skip; intro _ _ _])
    | (extract_lets +onlyGivenNames x; with_reducible apply Keeps.cut (x := by apply x) <;> [(unfold x; clear x); (clear_value x; intro _; revert x; intros)])
    | (extract_lets +onlyGivenNames x; with_reducible apply Keeps.cut (x := by apply x.1) <;> [(unfold x; clear x); (clear_value x; intro _; revert x; intros)])
    | (extract_lets +onlyGivenNames x; clear_value x; revert x; intros)
    | dsimp -zeta only)

theorem alertStart_keeps (c sub : Nat) (s : State) : Keeps 2315780365 s (alertStart c sub s) := by
  unfold alertStart
  repeat' (first
    | with_reducible exact Keeps.refl _
    | with_reducible assumption
    | (with_reducible apply Keeps.step (countChan_keeps ..); on_goal 1 => decide)
    | (with_reducible apply Keeps.step (alertFreeze_keeps ..); on_goal 1 => decide)
    | (with_reducible apply Keeps.step (State.setObj_keeps ..); on_goal 1 => decide)
    | (with_reducible apply Keeps.step (State.addObj_keeps ..); on_goal 1 => decide)
    | (with_reducible apply Keeps.step (State.setChan_keeps ..); on_goal 1 => decide)
    | (with_reducible apply Keeps.step (State.modChan_keeps ..); on_goal 1 => decide)
    | (with_reducible apply Keeps.step (State.raiseChan_keeps ..); on_goal 1 => decide)
    | with_reducible apply Keeps.ite
    | (extract_lets +onlyGivenNames x; with_reducible apply Keeps.cut (x := by apply x) <;> [(unfold x; clear x); (clear_value x; intro _; revert x; intros)])
    | (extract_lets +onlyGivenNames x; clear_value x; revert x; intros)
    | split
    | dsimp -zeta only)

theorem execAlertEpisodeStart_keeps (c : Fin 16) (sub : Fin 2) (s : State) {t : State} (h : execAlertEpisodeStart c sub s = .next t) : Keeps 2315780365 s t := by
  obtain rfl := Host.Outcome.next.inj h
  repeat' (first
    | with_reducible exact Keeps.refl _
    | with_reducible assumption
    | (with_reducible apply Keeps.step (alertStart_keeps ..); on_goal 1 => decide)
    | dsimp -zeta only)

theorem replayOp_keeps (c start : Nat) (acc : State × LockPlan) (e : Entry) : Keeps 8053063663 acc.1 (replayOp c start acc e).1 := by
  unfold replayOp
  dsimp only
  repeat' (first | with_reducible exact Keeps.refl _ | with_reducible assumption | (with_reducible apply Keeps.step (countChan_keeps ..); on_goal 1 => decide) | (with_reducible apply Keeps.step (noteCmd_keeps ..); on_goal 1 => decide) | (with_reducible apply Keeps.step (State.modChan_keeps ..); on_goal 1 => decide) | with_reducible apply Keeps.ite | with_reducible apply Keeps.ite_fst | (extract_lets +onlyGivenNames x; with_reducible apply Keeps.cut (x := by apply x) <;> [(unfold x; clear x); (clear_value x; intro _; revert x; intros)]) | (extract_lets +onlyGivenNames x; with_reducible apply Keeps.cut (x := by apply x.1) <;> [(unfold x; clear x); (clear_value x; intro _; revert x; intros)]) | (extract_lets +onlyGivenNames x; unfold x; clear x) | split | dsimp -zeta only)


theorem replayRefresh_keeps (c start : Nat) (h : HistCmd) (s : State) : Keeps 8053063663 s (replayRefresh c start h s) := by
  unfold replayRefresh
  repeat' (first
    | with_reducible exact Keeps.refl _
    | with_reducible assumption
    | (with_reducible apply Keeps.step (issueRfm_keeps ..); on_goal 1 => decide)
    | (with_reducible apply Keeps.step (issueRef_keeps ..); on_goal 1 => decide)
    | with_reducible apply Keeps.ite
    | (extract_lets +onlyGivenNames x; with_reducible apply Keeps.cut (x := by apply x) <;> [(unfold x; clear x); (clear_value x; intro _; revert x; intros)])
    | (extract_lets +onlyGivenNames x; clear_value x; revert x; intros)
    | dsimp -zeta only)

theorem alertReleased_keeps (c sub : Nat) (s : State) : Keeps 8053063663 s (alertReleased c sub s) := by
  unfold alertReleased
  dsimp only
  repeat' (first
    | with_reducible exact Keeps.refl _
    | with_reducible assumption
    | (with_reducible apply Keeps.step (noteCmd_keeps ..); on_goal 1 => decide)
    | (with_reducible apply Keeps.step (replayOp_keeps ..); on_goal 1 => decide)
    | (with_reducible apply Keeps.step (replayRefresh_keeps ..); on_goal 1 => decide)
    | (with_reducible apply Keeps.step (State.modChan_keeps ..); on_goal 1 => decide)
    | with_reducible apply Keeps.ite
    | with_reducible apply Keeps.ite_fst
    | (with_reducible apply Keeps.foldl <;> [skip; intro _ _ _])
    | (with_reducible apply Keeps.foldl_fst <;> [skip; intro _ _ _])
    | (extract_lets +onlyGivenNames x; with_reducible apply Keeps.cut (x := by apply x) <;> [(unfold x; clear x); (clear_value x; intro _; revert x; intros)])
    | (extract_lets +onlyGivenNames x; with_reducible apply Keeps.cut (x := by apply x.1) <;> [(unfold x; clear x); (clear_value x; intro _; revert x; intros)])
    | (extract_lets +onlyGivenNames x; unfold x; clear x)
    | split
    | dsimp -zeta only)

theorem execAlertReleased_keeps (c : Fin 16) (sub : Fin 2) (s : State) {t : State} (h : execAlertReleased c sub s = .next t) : Keeps 8053063663 s t := by
  obtain rfl := Host.Outcome.next.inj h
  repeat' (first
    | with_reducible exact Keeps.refl _
    | with_reducible assumption
    | (with_reducible apply Keeps.step (alertReleased_keeps ..); on_goal 1 => decide)
    | dsimp -zeta only)

theorem alertStuck_keeps (c sub : Nat) (s : State) : Keeps 2315780365 s (alertStuck c sub s) := by
  unfold alertStuck
  repeat' (first
    | with_reducible exact Keeps.refl _
    | with_reducible assumption
    | (with_reducible apply Keeps.step (alertFreeze_keeps ..); on_goal 1 => decide)
    | with_reducible apply Keeps.ite
    | split
    | dsimp -zeta only)

theorem execAlertStuckTimeout_keeps (c : Fin 16) (sub : Fin 2) (s : State) {t : State} (h : execAlertStuckTimeout c sub s = .next t) : Keeps 2315780365 s t := by
  obtain rfl := Host.Outcome.next.inj h
  repeat' (first
    | with_reducible exact Keeps.refl _
    | with_reducible assumption
    | (with_reducible apply Keeps.step (alertStuck_keeps ..); on_goal 1 => decide)
    | dsimp -zeta only)

theorem alertEnd_keeps (c sub : Nat) (s : State) : Keeps 3688890351 s (alertEnd c sub s) := by
  unfold alertEnd
  repeat' (first
    | with_reducible exact Keeps.refl _
    | with_reducible assumption
    | (with_reducible apply Keeps.step (heldRefresh_keeps ..); on_goal 1 => decide)
    | (with_reducible apply Keeps.step (State.modChan_keeps ..); on_goal 1 => decide)
    | with_reducible apply Keeps.ite
    | split
    | dsimp -zeta only)

theorem execAlertEpisodeEnd_keeps (c : Fin 16) (sub : Fin 2) (s : State) {t : State} (h : execAlertEpisodeEnd c sub s = .next t) : Keeps 3688890351 s t := by
  obtain rfl := Host.Outcome.next.inj h
  repeat' (first
    | with_reducible exact Keeps.refl _
    | with_reducible assumption
    | (with_reducible apply Keeps.step (alertEnd_keeps ..); on_goal 1 => decide)
    | dsimp -zeta only)

theorem closeAll_keeps (c : Nat) (s : State) : Keeps 8589934575 s (closeAll c s) := by
  unfold closeAll
  repeat' (first
    | with_reducible exact Keeps.refl _
    | with_reducible assumption
    | (with_reducible apply Keeps.step (closeBank_keeps ..); on_goal 1 => decide)
    | with_reducible apply Keeps.ite
    | with_reducible apply Keeps.ite_fst
    | (with_reducible apply Keeps.foldl <;> [skip; intro _ _ _])
    | (with_reducible apply Keeps.foldl_fst <;> [skip; intro _ _ _])
    | dsimp -zeta only)

theorem restoreSwept_keeps (c t : Nat) (s : State) : Keeps 7516192767 s (restoreSwept c t s) := by
  unfold restoreSwept
  repeat' (first
    | with_reducible exact Keeps.refl _
    | with_reducible assumption
    | (with_reducible apply Keeps.step (State.setRec_keeps ..); on_goal 1 => decide)
    | with_reducible apply Keeps.ite
    | with_reducible apply Keeps.ite_fst
    | (with_reducible apply Keeps.foldl <;> [skip; intro _ _ _])
    | (with_reducible apply Keeps.foldl_fst <;> [skip; intro _ _ _])
    | (extract_lets +onlyGivenNames x; with_reducible apply Keeps.cut (x := by apply x) <;> [(unfold x; clear x); (clear_value x; intro _; revert x; intros)])
    | (extract_lets +onlyGivenNames x; with_reducible apply Keeps.cut (x := by apply x.1) <;> [(unfold x; clear x); (clear_value x; intro _; revert x; intros)])
    | (extract_lets +onlyGivenNames x; clear_value x; revert x; intros)
    | dsimp -zeta only)

theorem stopHelper_keeps (c : Nat) (s : State) : Keeps 6979321839 s (stopHelper c s) := by
  unfold stopHelper
  repeat' (first
    | with_reducible exact Keeps.refl _
    | with_reducible assumption
    | (with_reducible apply Keeps.step (helperRelease_keeps ..); on_goal 1 => decide)
    | (with_reducible apply Keeps.step (closeAll_keeps ..); on_goal 1 => decide)
    | (with_reducible apply Keeps.step (restoreSwept_keeps ..); on_goal 1 => decide)
    | (with_reducible apply Keeps.step (State.setObj_keeps ..); on_goal 1 => decide)
    | (with_reducible apply Keeps.step (State.modChan_keeps ..); on_goal 1 => decide)
    | with_reducible apply Keeps.ite
    | (extract_lets +onlyGivenNames x; with_reducible apply Keeps.cut (x := by apply x) <;> [(unfold x; clear x); (clear_value x; intro _; revert x; intros)])
    | (extract_lets +onlyGivenNames x; clear_value x; revert x; intros)
    | split
    | dsimp -zeta only)

theorem swapLane_keeps (c l : Nat) (s : State) : Keeps 7516192751 s (swapLane c l s) := by
  unfold swapLane
  repeat' (first
    | with_reducible exact Keeps.refl _
    | with_reducible assumption
    | (with_reducible apply Keeps.step (setTrims_keeps ..); on_goal 1 => decide)
    | (with_reducible apply Keeps.step (State.modChan_keeps ..); on_goal 1 => decide)
    | with_reducible apply Keeps.ite
    | (extract_lets +onlyGivenNames x; with_reducible apply Keeps.cut (x := by apply x) <;> [(unfold x; clear x); (clear_value x; intro _; revert x; intros)])
    | (extract_lets +onlyGivenNames x; clear_value x; revert x; intros)
    | dsimp -zeta only)

theorem swapAll_keeps (c : Nat) (s : State) : Keeps 7516192751 s (swapAll c s) := by
  unfold swapAll
  repeat' (first
    | with_reducible exact Keeps.refl _
    | with_reducible assumption
    | (with_reducible apply Keeps.step (swapLane_keeps ..); on_goal 1 => decide)
    | with_reducible apply Keeps.ite
    | (with_reducible apply Keeps.forN <;> [skip; intro _ _ _])
    | dsimp -zeta only)

theorem enterPower_keeps (c : Nat) (p : PowSt) (s : State) : Keeps 6979321839 s (enterPower c p s) := by
  unfold enterPower
  repeat' (first
    | with_reducible exact Keeps.refl _
    | with_reducible assumption
    | (with_reducible apply Keeps.step (noteCmd_keeps ..); on_goal 1 => decide)
    | (with_reducible apply Keeps.step (closeAll_keeps ..); on_goal 1 => decide)
    | (with_reducible apply Keeps.step (swapAll_keeps ..); on_goal 1 => decide)
    | (with_reducible apply Keeps.step (State.setObj_keeps ..); on_goal 1 => decide)
    | (with_reducible apply Keeps.step (State.modChan_keeps ..); on_goal 1 => decide)
    | with_reducible apply Keeps.ite
    | with_reducible apply Keeps.ite_fst
    | (with_reducible apply Keeps.foldl <;> [skip; intro _ _ _])
    | (with_reducible apply Keeps.foldl_fst <;> [skip; intro _ _ _])
    | (with_reducible apply Keeps.forN_fst <;> [skip; intro _ _ _])
    | (with_reducible apply Keeps.forN <;> [skip; intro _ _ _])
    | (extract_lets +onlyGivenNames x; with_reducible apply Keeps.cut (x := by apply x) <;> [(unfold x; clear x); (clear_value x; intro _; revert x; intros)])
    | (extract_lets +onlyGivenNames x; with_reducible apply Keeps.cut (x := by apply x.1) <;> [(unfold x; clear x); (clear_value x; intro _; revert x; intros)])
    | (extract_lets +onlyGivenNames x; clear_value x; revert x; intros)
    | split
    | dsimp -zeta only)

theorem powerEntry_keeps (c : Nat) (s : State) : Keeps 6979321839 s (powerEntry c s) := by
  unfold powerEntry
  repeat' (first
    | with_reducible exact Keeps.refl _
    | with_reducible assumption
    | (with_reducible apply Keeps.step (enterPower_keeps ..); on_goal 1 => decide)
    | with_reducible apply Keeps.ite
    | (extract_lets +onlyGivenNames x; with_reducible apply Keeps.cut (x := by apply x) <;> [(unfold x; clear x); (clear_value x; intro _; revert x; intros)])
    | (extract_lets +onlyGivenNames x; clear_value x; revert x; intros)
    | dsimp -zeta only)

theorem execPositionGrant_keeps (c : Fin 16) (s : State) {t : State} (h : execPositionGrant c s = .next t) : Keeps 2315780365 s t := by
  obtain rfl := Host.Outcome.next.inj h
  repeat' (first
    | with_reducible exact Keeps.refl _
    | with_reducible assumption
    | (with_reducible apply Keeps.step (grantPosition_keeps ..); on_goal 1 => decide)
    | (with_reducible apply Keeps.step (serveHeld_keeps ..); on_goal 1 => decide)
    | (with_reducible apply Keeps.step (powerEntry_keeps ..); on_goal 1 => decide)
    | with_reducible apply Keeps.ite
    | (extract_lets +onlyGivenNames x; with_reducible apply Keeps.cut (x := by apply x) <;> [(unfold x; clear x); (clear_value x; intro _; revert x; intros)])
    | (extract_lets +onlyGivenNames x; clear_value x; revert x; intros)
    | dsimp -zeta only)

theorem powerDisabled_keeps (c : Nat) (s : State) : Keeps 8589934575 s (powerDisabled c s) := by
  unfold powerDisabled
  repeat' (first
    | with_reducible exact Keeps.refl _
    | with_reducible assumption
    | (with_reducible apply Keeps.step (State.setChan_keeps ..); on_goal 1 => decide)
    | with_reducible apply Keeps.ite
    | (extract_lets +onlyGivenNames x; with_reducible apply Keeps.cut (x := by apply x) <;> [(unfold x; clear x); (clear_value x; intro _; revert x; intros)])
    | (extract_lets +onlyGivenNames x; clear_value x; revert x; intros)
    | dsimp -zeta only)

theorem powerExit_keeps (c : Nat) (s : State) : Keeps 8589934575 s (powerExit c s) := by
  unfold powerExit
  repeat' (first
    | with_reducible exact Keeps.refl _
    | with_reducible assumption
    | (with_reducible apply Keeps.step (State.setChan_keeps ..); on_goal 1 => decide)
    | with_reducible apply Keeps.ite
    | (extract_lets +onlyGivenNames x; with_reducible apply Keeps.cut (x := by apply x) <;> [(unfold x; clear x); (clear_value x; intro _; revert x; intros)])
    | (extract_lets +onlyGivenNames x; clear_value x; revert x; intros)
    | split
    | dsimp -zeta only)

theorem execPowerStateExit_keeps (c : Fin 16) (s : State) {t : State} (h : execPowerStateExit c s = .next t) : Keeps 8589934575 s t := by
  obtain rfl := Host.Outcome.next.inj h
  repeat' (first
    | with_reducible exact Keeps.refl _
    | with_reducible assumption
    | (with_reducible apply Keeps.step (powerExit_keeps ..); on_goal 1 => decide)
    | dsimp -zeta only)

theorem powerExitDone_keeps (c : Nat) (s : State) : Keeps 2615148527 s (powerExitDone c s) := by
  unfold powerExitDone
  repeat' (first
    | with_reducible exact Keeps.refl _
    | with_reducible assumption
    | (with_reducible apply Keeps.step (powerEntry_keeps ..); on_goal 1 => decide)
    | (with_reducible apply Keeps.step (State.setObj_keeps ..); on_goal 1 => decide)
    | (with_reducible apply Keeps.step (State.addObj_keeps ..); on_goal 1 => decide)
    | (with_reducible apply Keeps.step (State.setChan_keeps ..); on_goal 1 => decide)
    | (with_reducible apply Keeps.step (State.raiseChan_keeps ..); on_goal 1 => decide)
    | with_reducible apply Keeps.ite
    | (extract_lets +onlyGivenNames x; with_reducible apply Keeps.cut (x := by apply x) <;> [(unfold x; clear x); (clear_value x; intro _; revert x; intros)])
    | (extract_lets +onlyGivenNames x; clear_value x; revert x; intros)
    | split
    | dsimp -zeta only)

theorem powerResidency_keeps (c : Nat) (s : State) : Keeps 8053063679 s (powerResidency c s) := by
  unfold powerResidency
  repeat' (first
    | with_reducible exact Keeps.refl _
    | with_reducible assumption
    | (with_reducible apply Keeps.step (countChan_keeps ..); on_goal 1 => decide)
    | (with_reducible apply Keeps.step (State.addObj_keeps ..); on_goal 1 => decide)
    | with_reducible apply Keeps.ite
    | (extract_lets +onlyGivenNames x; with_reducible apply Keeps.cut (x := by apply x) <;> [(unfold x; clear x); (clear_value x; intro _; revert x; intros)])
    | (extract_lets +onlyGivenNames x; clear_value x; revert x; intros)
    | dsimp -zeta only)

end Sys2Proof.Machine
end

