-- ==== Sys2Proof/Laws/KeepsCrossing.lean ====
section
/-! SUPPORT. What each function of Machine/Crossing.lean can do (see Laws/Keeps.lean). -/

set_option linter.tactic.unusedName false
set_option linter.unusedTactic false
set_option linter.unreachableTactic false

namespace Sys2Proof.Machine

theorem injectHead_keeps (x p l : Nat) (s : State) : Keeps 8589934329 s (injectHead x p l s) := by
  unfold injectHead
  repeat' (first
    | with_reducible exact Keeps.refl _
    | with_reducible assumption
    | (with_reducible apply Keeps.step (State.modPort_keeps ..); on_goal 1 => decide)
    | (with_reducible apply Keeps.step (State.setXbar_keeps ..); on_goal 1 => decide)
    | (extract_lets +onlyGivenNames x; with_reducible apply Keeps.cut (x := by apply x) <;> [(unfold x; clear x); (clear_value x; intro _; revert x; intros)])
    | (extract_lets +onlyGivenNames x; clear_value x; revert x; intros)
    | split
    | fail_if_no_progress (with_reducible apply Keeps.upd_transit <;> [skip; decide])
    | dsimp -zeta only)

theorem injectBack_keeps (c p : Nat) (s : State) : Keeps 8589934585 s (injectBack c p s) := by
  unfold injectBack
  repeat' (first
    | with_reducible exact Keeps.refl _
    | with_reducible assumption
    | (with_reducible apply Keeps.step (State.modPort_keeps ..); on_goal 1 => decide)
    | (with_reducible apply Keeps.step (State.setXbar_keeps ..); on_goal 1 => decide)
    | with_reducible apply Keeps.ite
    | (extract_lets +onlyGivenNames x; with_reducible apply Keeps.cut (x := by apply x) <;> [(unfold x; clear x); (clear_value x; intro _; revert x; intros)])
    | (extract_lets +onlyGivenNames x; clear_value x; revert x; intros)
    | split
    | dsimp -zeta only)

theorem headerArrives_keeps (c p tag : Nat) (s : State) : Keeps 2315780109 s (headerArrives c p tag s) := by
  unfold headerArrives
  repeat' (first
    | with_reducible exact Keeps.refl _
    | with_reducible assumption
    | (with_reducible apply Keeps.step (advanceHorizon_keeps ..); on_goal 1 => decide)
    | (with_reducible apply Keeps.step (arrive_keeps ..); on_goal 1 => decide)
    | (extract_lets +onlyGivenNames x; with_reducible apply Keeps.cut (x := by apply x) <;> [(unfold x; clear x); (clear_value x; intro _; revert x; intros)])
    | (extract_lets +onlyGivenNames x; clear_value x; revert x; intros)
    | split
    | fail_if_no_progress (with_reducible apply Keeps.upd_transit <;> [skip; decide])
    | dsimp -zeta only)

theorem unitReturns_keeps (u : NetUnit) (s : State) : Keeps 3688890365 s (unitReturns u s) := by
  unfold unitReturns
  repeat' (first
    | with_reducible exact Keeps.refl _
    | with_reducible assumption
    | (with_reducible apply Keeps.step (respond_keeps ..); on_goal 1 => decide)
    | (with_reducible apply Keeps.step (takeBack_keeps ..); on_goal 1 => decide)
    | with_reducible apply Keeps.ite
    | split
    | dsimp -zeta only)

theorem ejectUnit_keeps (x : Nat) (u : NetUnit) (s : State) : Keeps 2315780109 s (ejectUnit x u s) := by
  unfold ejectUnit
  repeat' (first
    | with_reducible exact Keeps.refl _
    | with_reducible assumption
    | (with_reducible apply Keeps.step (headerArrives_keeps ..); on_goal 1 => decide)
    | (with_reducible apply Keeps.step (unitReturns_keeps ..); on_goal 1 => decide)
    | with_reducible apply Keeps.ite
    | split
    | dsimp -zeta only)

theorem reachBridge_keeps (x out : Nat) (u : NetUnit) (s : State) : Keeps 2315780105 s (reachBridge x out u s) := by
  unfold reachBridge
  repeat' (first
    | with_reducible exact Keeps.refl _
    | with_reducible assumption
    | (with_reducible apply Keeps.step (wakeChan_keeps ..); on_goal 1 => decide)
    | (with_reducible apply Keeps.step (ejectUnit_keeps ..); on_goal 1 => decide)
    | (with_reducible apply Keeps.step (State.setXbar_keeps ..); on_goal 1 => decide)
    | with_reducible apply Keeps.ite
    | (extract_lets +onlyGivenNames x; with_reducible apply Keeps.cut (x := by apply x) <;> [(unfold x; clear x); (clear_value x; intro _; revert x; intros)])
    | (extract_lets +onlyGivenNames x; clear_value x; revert x; intros)
    | split
    | dsimp -zeta only)

theorem openBridge_keeps (x : Nat) (s : State) : Keeps 2315780105 s (openBridge x s) := by
  unfold openBridge
  repeat' (first
    | with_reducible exact Keeps.refl _
    | with_reducible assumption
    | (with_reducible apply Keeps.step (ejectUnit_keeps ..); on_goal 1 => decide)
    | (with_reducible apply Keeps.step (State.setXbar_keeps ..); on_goal 1 => decide)
    | with_reducible apply Keeps.ite
    | with_reducible apply Keeps.ite_fst
    | (with_reducible apply Keeps.foldl <;> [skip; intro _ _ _])
    | (with_reducible apply Keeps.foldl_fst <;> [skip; intro _ _ _])
    | dsimp -zeta only)

theorem countReplay_keeps (x i : Nat) (s : State) : Keeps 8053063679 s (countReplay x i s) := by
  unfold countReplay
  repeat' (first
    | with_reducible exact Keeps.refl _
    | with_reducible assumption
    | (with_reducible apply Keeps.step (countCrossing_keeps ..); on_goal 1 => decide)
    | (with_reducible apply Keeps.step (State.addObj_keeps ..); on_goal 1 => decide)
    | (extract_lets +onlyGivenNames x; with_reducible apply Keeps.cut (x := by apply x) <;> [(unfold x; clear x); (clear_value x; intro _; revert x; intros)])
    | (extract_lets +onlyGivenNames x; with_reducible apply Keeps.cut (x := by apply x.1) <;> [(unfold x; clear x); (clear_value x; intro _; revert x; intros)])
    | (extract_lets +onlyGivenNames x; clear_value x; revert x; intros)
    | dsimp -zeta only)

theorem linkCrcFail_keeps (x i : Nat) (s : State) : Keeps 3688890363 s (linkCrcFail x i s) := by
  unfold linkCrcFail
  repeat' (first
    | with_reducible exact Keeps.refl _
    | with_reducible assumption
    | (with_reducible apply Keeps.step (crossingCause_keeps ..); on_goal 1 => decide)
    | (with_reducible apply Keeps.step (countReplay_keeps ..); on_goal 1 => decide)
    | (with_reducible apply Keeps.step (State.setObjBit_keeps ..); on_goal 1 => decide)
    | (with_reducible apply Keeps.step (State.setXbar_keeps ..); on_goal 1 => decide)
    | with_reducible apply Keeps.ite
    | (extract_lets +onlyGivenNames x; with_reducible apply Keeps.cut (x := by apply x) <;> [(unfold x; clear x); (clear_value x; intro _; revert x; intros)])
    | (extract_lets +onlyGivenNames x; clear_value x; revert x; intros)
    | dsimp -zeta only)

theorem unitArrives_keeps (x i : Nat) (u : NetUnit) (s : State) : Keeps 3420454907 s (unitArrives x i u s) := by
  unfold unitArrives
  repeat' (first
    | with_reducible exact Keeps.refl _
    | with_reducible assumption
    | (with_reducible apply Keeps.step (injectFired_keeps ..); on_goal 1 => decide)
    | (with_reducible apply Keeps.step (linkCrcFail_keeps ..); on_goal 1 => decide)
    | (with_reducible apply Keeps.step (State.setXbar_keeps ..); on_goal 1 => decide)
    | with_reducible apply Keeps.ite
    | (extract_lets +onlyGivenNames x; with_reducible apply Keeps.cut (x := by apply x) <;> [(unfold x; clear x); (clear_value x; intro _; revert x; intros)])
    | (extract_lets +onlyGivenNames x; clear_value x; revert x; intros)
    | dsimp -zeta only)

theorem replayArrives_keeps (x i : Nat) (s : State) : Keeps 3420454907 s (replayArrives x i s) := by
  unfold replayArrives
  repeat' (first
    | with_reducible exact Keeps.refl _
    | with_reducible assumption
    | (with_reducible apply Keeps.step (unitArrives_keeps ..); on_goal 1 => decide)
    | (with_reducible apply Keeps.step (State.setXbar_keeps ..); on_goal 1 => decide)
    | split
    | dsimp -zeta only)

theorem replaysDue_keeps (x : Nat) (s : State) : Keeps 3420454907 s (replaysDue x s) := by
  unfold replaysDue
  repeat' (first
    | with_reducible exact Keeps.refl _
    | with_reducible assumption
    | (with_reducible apply Keeps.step (replayArrives_keeps ..); on_goal 1 => decide)
    | with_reducible apply Keeps.ite
    | (with_reducible apply Keeps.forN <;> [skip; intro _ _ _])
    | split
    | dsimp -zeta only)

theorem sendHead_keeps (x out : Nat) (h : Head) (s : State) : Keeps 2315780105 s (sendHead x out h s) := by
  unfold sendHead
  repeat' (first
    | with_reducible exact Keeps.refl _
    | with_reducible assumption
    | (with_reducible apply Keeps.step (reachBridge_keeps ..); on_goal 1 => decide)
    | (with_reducible apply Keeps.step (unitArrives_keeps ..); on_goal 1 => decide)
    | (with_reducible apply Keeps.step (State.setXbar_keeps ..); on_goal 1 => decide)
    | with_reducible apply Keeps.ite
    | with_reducible apply Keeps.ite_fst
    | (extract_lets +onlyGivenNames x; with_reducible apply Keeps.cut (x := by apply x) <;> [(unfold x; clear x); (clear_value x; intro _; revert x; intros)])
    | (extract_lets +onlyGivenNames x; with_reducible apply Keeps.cut (x := by apply x.1) <;> [(unfold x; clear x); (clear_value x; intro _; revert x; intros)])
    | (extract_lets +onlyGivenNames x; clear_value x; revert x; intros)
    | dsimp -zeta only)

theorem injectAll_keeps (x : Nat) (s : State) : Keeps 8589934329 s (injectAll x s) := by
  unfold injectAll
  repeat' (first
    | with_reducible exact Keeps.refl _
    | with_reducible assumption
    | (with_reducible apply Keeps.step (injectHead_keeps ..); on_goal 1 => decide)
    | (with_reducible apply Keeps.step (injectBack_keeps ..); on_goal 1 => decide)
    | (with_reducible apply Keeps.foldl <;> [skip; intro _ _ _])
    | (with_reducible apply Keeps.foldl_fst <;> [skip; intro _ _ _])
    | (extract_lets +onlyGivenNames x; with_reducible apply Keeps.cut (x := by apply x) <;> [(unfold x; clear x); (clear_value x; intro _; revert x; intros)])
    | (extract_lets +onlyGivenNames x; with_reducible apply Keeps.cut (x := by apply x.1) <;> [(unfold x; clear x); (clear_value x; intro _; revert x; intros)])
    | (extract_lets +onlyGivenNames x; clear_value x; revert x; intros)
    | split
    | dsimp -zeta only)

theorem beforeCycle_keeps (x out : Nat) (s : State) : Keeps 2315780105 s (beforeCycle x out s) := by
  unfold beforeCycle
  repeat' (first
    | with_reducible exact Keeps.refl _
    | with_reducible assumption
    | (with_reducible apply Keeps.step (openBridge_keeps ..); on_goal 1 => decide)
    | (with_reducible apply Keeps.step (replaysDue_keeps ..); on_goal 1 => decide)
    | (with_reducible apply Keeps.step (injectAll_keeps ..); on_goal 1 => decide)
    | with_reducible apply Keeps.ite
    | with_reducible apply Keeps.ite_fst
    | (extract_lets +onlyGivenNames x; with_reducible apply Keeps.cut (x := by apply x) <;> [(unfold x; clear x); (clear_value x; intro _; revert x; intros)])
    | (extract_lets +onlyGivenNames x; with_reducible apply Keeps.cut (x := by apply x.1) <;> [(unfold x; clear x); (clear_value x; intro _; revert x; intros)])
    | (extract_lets +onlyGivenNames x; clear_value x; revert x; intros)
    | dsimp -zeta only)

theorem arbitrate_keeps (x out : Nat) (s : State) : Keeps 2315780105 s (arbitrate x out s) := by
  unfold arbitrate
  repeat' (first
    | with_reducible exact Keeps.refl _
    | with_reducible assumption
    | (with_reducible apply Keeps.step (countCrossing_keeps ..); on_goal 1 => decide)
    | (with_reducible apply Keeps.step (sendHead_keeps ..); on_goal 1 => decide)
    | (with_reducible apply Keeps.step (beforeCycle_keeps ..); on_goal 1 => decide)
    | (with_reducible apply Keeps.step (State.setXbar_keeps ..); on_goal 1 => decide)
    | with_reducible apply Keeps.ite
    | (extract_lets +onlyGivenNames x; with_reducible apply Keeps.cut (x := by apply x) <;> [(unfold x; clear x); (clear_value x; intro _; revert x; intros)])
    | (extract_lets +onlyGivenNames x; clear_value x; revert x; intros)
    | split
    | dsimp -zeta only)

theorem execOutputArbitration_keeps (x : Fin 64) (out : Fin 7) (s : State) {t : State} (h : execOutputArbitration x out s = .next t) : Keeps 2315780105 s t := by
  obtain rfl := Host.Outcome.next.inj h
  repeat' (first
    | with_reducible exact Keeps.refl _
    | with_reducible assumption
    | (with_reducible apply Keeps.step (arbitrate_keeps ..); on_goal 1 => decide)
    | dsimp -zeta only)

theorem execLinkCrcFail_keeps (x : Fin 64) (input : Fin 4) (s : State) {t : State} (h : execLinkCrcFail x input s = .next t) : Keeps 3688890363 s t := by
  obtain rfl := Host.Outcome.next.inj h
  repeat' (first
    | with_reducible exact Keeps.refl _
    | with_reducible assumption
    | (with_reducible apply Keeps.step (linkCrcFail_keeps ..); on_goal 1 => decide)
    | dsimp -zeta only)

theorem linkRetry_keeps (x i : Nat) (pass : Bool) (s : State) : Keeps 3420454907 s (linkRetry x i pass s) := by
  unfold linkRetry
  repeat' (first
    | with_reducible exact Keeps.refl _
    | with_reducible assumption
    | (with_reducible apply Keeps.step (injectFired_keeps ..); on_goal 1 => decide)
    | (with_reducible apply Keeps.step (countReplay_keeps ..); on_goal 1 => decide)
    | (with_reducible apply Keeps.step (replayArrives_keeps ..); on_goal 1 => decide)
    | (with_reducible apply Keeps.step (State.setObjBit_keeps ..); on_goal 1 => decide)
    | (with_reducible apply Keeps.step (State.setXbar_keeps ..); on_goal 1 => decide)
    | with_reducible apply Keeps.ite
    | (extract_lets +onlyGivenNames x; with_reducible apply Keeps.cut (x := by apply x) <;> [(unfold x; clear x); (clear_value x; intro _; revert x; intros)])
    | (extract_lets +onlyGivenNames x; clear_value x; revert x; intros)
    | dsimp -zeta only)

theorem execLinkRetry_keeps (x : Fin 64) (input : Fin 4) (pass : Bool) (s : State) {t : State} (h : execLinkRetry x input pass s = .next t) : Keeps 3420454907 s t := by
  obtain rfl := Host.Outcome.next.inj h
  repeat' (first
    | with_reducible exact Keeps.refl _
    | with_reducible assumption
    | (with_reducible apply Keeps.step (linkRetry_keeps ..); on_goal 1 => decide)
    | dsimp -zeta only)

theorem copyRec_keeps (idx from_ to_ : Nat) (s : State) : Keeps 7516192767 s (copyRec idx from_ to_ s) := by
  unfold copyRec
  repeat' (first
    | with_reducible exact Keeps.refl _
    | with_reducible assumption
    | (with_reducible apply Keeps.step (State.clearRec_keeps ..); on_goal 1 => decide)
    | (with_reducible apply Keeps.foldl <;> [skip; intro _ _ _])
    | (with_reducible apply Keeps.foldl_fst <;> [skip; intro _ _ _])
    | (extract_lets +onlyGivenNames x; with_reducible apply Keeps.cut (x := by apply x) <;> [(unfold x; clear x); (clear_value x; intro _; revert x; intros)])
    | (extract_lets +onlyGivenNames x; with_reducible apply Keeps.cut (x := by apply x.1) <;> [(unfold x; clear x); (clear_value x; intro _; revert x; intros)])
    | (extract_lets +onlyGivenNames x; clear_value x; revert x; intros)
    | fail_if_no_progress (with_reducible apply Keeps.upd_recs <;> [skip; decide; (intros; repeat' (first | with_reducible assumption | with_reducible exact Memory.wf_nil | with_reducible apply Memory.wf_sbN | with_reducible apply Memory.wf_sbNat | with_reducible apply Memory.wf_sb | with_reducible apply Memory.wf_filter | with_reducible apply Memory.wf_writeWords | with_reducible apply Memory.wf_foldl_sb | with_reducible exact Keeps.mramOk (by assumption) (by assumption) | split | dsimp only))])
    | dsimp -zeta only)

theorem swapCalendar_keeps (c : Nat) (s : State) : Keeps 6979321855 s (swapCalendar c s) := by
  unfold swapCalendar
  repeat' (first
    | with_reducible exact Keeps.refl _
    | with_reducible assumption
    | (with_reducible apply Keeps.step (copyRec_keeps ..); on_goal 1 => decide)
    | (with_reducible apply Keeps.step (State.setObj_keeps ..); on_goal 1 => decide)
    | dsimp -zeta only)

theorem swapTables_keeps (s : State) : Keeps 6979321855 s (swapTables s) := by
  unfold swapTables
  repeat' (first
    | with_reducible exact Keeps.refl _
    | with_reducible assumption
    | (with_reducible apply Keeps.step (copyRec_keeps ..); on_goal 1 => decide)
    | (with_reducible apply Keeps.step (State.setObj_keeps ..); on_goal 1 => decide)
    | (with_reducible apply Keeps.forN <;> [skip; intro _ _ _])
    | dsimp -zeta only)

theorem swapPending_keeps (s : State) : Keeps 6979321855 s (swapPending s) := by
  unfold swapPending
  repeat' (first
    | with_reducible exact Keeps.refl _
    | with_reducible assumption
    | (with_reducible apply Keeps.step (swapCalendar_keeps ..); on_goal 1 => decide)
    | (with_reducible apply Keeps.step (swapTables_keeps ..); on_goal 1 => decide)
    | with_reducible apply Keeps.ite
    | with_reducible apply Keeps.ite_fst
    | (with_reducible apply Keeps.foldl <;> [skip; intro _ _ _])
    | (with_reducible apply Keeps.foldl_fst <;> [skip; intro _ _ _])
    | dsimp -zeta only)

theorem execSlotTableSwap_keeps (s : State) {t : State} (h : execSlotTableSwap s = .next t) : Keeps 6979321855 s t := by
  obtain rfl := Host.Outcome.next.inj h
  repeat' (first
    | with_reducible exact Keeps.refl _
    | with_reducible assumption
    | (with_reducible apply Keeps.step (swapPending_keeps ..); on_goal 1 => decide)
    | with_reducible apply Keeps.ite
    | dsimp -zeta only)

theorem execCalendarSwap_keeps (s : State) {t : State} (h : execCalendarSwap s = .next t) : Keeps 6979321855 s t := by
  obtain rfl := Host.Outcome.next.inj h
  repeat' (first
    | with_reducible exact Keeps.refl _
    | with_reducible assumption
    | (with_reducible apply Keeps.step (swapPending_keeps ..); on_goal 1 => decide)
    | with_reducible apply Keeps.ite
    | dsimp -zeta only)

theorem splitEffect_keeps (s : State) : Keeps 8589934579 s (splitEffect s) := by
  unfold splitEffect
  repeat' (first
    | with_reducible exact Keeps.refl _
    | with_reducible assumption
    | (with_reducible apply Keeps.step (State.setXbar_keeps ..); on_goal 1 => decide)
    | with_reducible apply Keeps.ite
    | with_reducible apply Keeps.ite_fst
    | (with_reducible apply Keeps.forN_fst <;> [skip; intro _ _ _])
    | (with_reducible apply Keeps.forN <;> [skip; intro _ _ _])
    | (extract_lets +onlyGivenNames x; with_reducible apply Keeps.cut (x := by apply x) <;> [(unfold x; clear x); (clear_value x; intro _; revert x; intros)])
    | (extract_lets +onlyGivenNames x; with_reducible apply Keeps.cut (x := by apply x.1) <;> [(unfold x; clear x); (clear_value x; intro _; revert x; intros)])
    | (extract_lets +onlyGivenNames x; clear_value x; revert x; intros)
    | fail_if_no_progress (with_reducible apply Keeps.upd_net <;> [skip; decide])
    | dsimp -zeta only)

theorem adoptSize_keeps (x q : Nat) (s : State) : Keeps 8589934579 s (adoptSize x q s) := by
  unfold adoptSize
  repeat' (first
    | with_reducible exact Keeps.refl _
    | with_reducible assumption
    | (with_reducible apply Keeps.step (State.setXbar_keeps ..); on_goal 1 => decide)
    | with_reducible apply Keeps.ite
    | with_reducible apply Keeps.ite_fst
    | (with_reducible apply Keeps.foldl <;> [skip; intro _ _ _])
    | (with_reducible apply Keeps.foldl_fst <;> [skip; intro _ _ _])
    | (extract_lets +onlyGivenNames x; with_reducible apply Keeps.cut (x := by apply x) <;> [(unfold x; clear x); (clear_value x; intro _; revert x; intros)])
    | (extract_lets +onlyGivenNames x; with_reducible apply Keeps.cut (x := by apply x.1) <;> [(unfold x; clear x); (clear_value x; intro _; revert x; intros)])
    | (extract_lets +onlyGivenNames x; clear_value x; revert x; intros)
    | fail_if_no_progress (with_reducible apply Keeps.upd_net <;> [skip; decide])
    | dsimp -zeta only)

theorem execCreditQueueResize_keeps (x : Fin 64) (queue : Fin 8) (s : State) {t : State} (h : execCreditQueueResize x queue s = .next t) : Keeps 8589934579 s t := by
  obtain rfl := Host.Outcome.next.inj h
  repeat' (first
    | with_reducible exact Keeps.refl _
    | with_reducible assumption
    | (with_reducible apply Keeps.step (adoptSize_keeps ..); on_goal 1 => decide)
    | dsimp -zeta only)

theorem splitTimeout_keeps (v : Nat) (s : State) : Keeps 3688890359 s (splitTimeout v s) := by
  unfold splitTimeout
  repeat' (first
    | with_reducible exact Keeps.refl _
    | with_reducible assumption
    | (with_reducible apply Keeps.step (crossingCause_keeps ..); on_goal 1 => decide)
    | with_reducible apply Keeps.ite
    | with_reducible apply Keeps.ite_fst
    | (with_reducible apply Keeps.foldl <;> [skip; intro _ _ _])
    | (with_reducible apply Keeps.foldl_fst <;> [skip; intro _ _ _])
    | (extract_lets +onlyGivenNames x; with_reducible apply Keeps.cut (x := by apply x) <;> [(unfold x; clear x); (clear_value x; intro _; revert x; intros)])
    | (extract_lets +onlyGivenNames x; with_reducible apply Keeps.cut (x := by apply x.1) <;> [(unfold x; clear x); (clear_value x; intro _; revert x; intros)])
    | (extract_lets +onlyGivenNames x; clear_value x; revert x; intros)
    | split
    | fail_if_no_progress (with_reducible apply Keeps.upd_net <;> [skip; decide])
    | dsimp -zeta only)

theorem execCreditChangeTimeout_keeps (vnet : Fin 4) (s : State) {t : State} (h : execCreditChangeTimeout vnet s = .next t) : Keeps 3688890359 s t := by
  obtain rfl := Host.Outcome.next.inj h
  repeat' (first
    | with_reducible exact Keeps.refl _
    | with_reducible assumption
    | (with_reducible apply Keeps.step (splitTimeout_keeps ..); on_goal 1 => decide)
    | dsimp -zeta only)

end Sys2Proof.Machine
end

