-- ==== Sys2Proof/Laws/KeepsSweeps.lean ====
section
/-! SUPPORT. What each function of Machine/Sweeps.lean can do (see Laws/Keeps.lean). -/

set_option linter.tactic.unusedName false
set_option linter.unusedTactic false
set_option linter.unreachableTactic false

namespace Sys2Proof.Machine

theorem scrubClaim_keeps (s : State) : Keeps 3688890367 s (scrubClaim s).1 := by
  unfold scrubClaim
  repeat' (first
    | with_reducible exact Keeps.refl _
    | with_reducible assumption
    | (with_reducible apply Keeps.step (claim_keeps ..); on_goal 1 => decide)
    | with_reducible apply Keeps.ite
    | with_reducible apply Keeps.ite_fst
    | dsimp -zeta only)

theorem scrubRun_keeps (c : Nat) (s : State) : Keeps 3688890351 s (scrubRun c s) := by
  unfold scrubRun
  repeat' (first
    | with_reducible exact Keeps.refl _
    | with_reducible assumption
    | (with_reducible apply Keeps.step (setCtx_keeps ..); on_goal 1 => decide)
    | (with_reducible apply Keeps.step (runCtx_keeps ..); on_goal 1 => decide)
    | (with_reducible apply Keeps.step (scrubClaim_keeps ..); on_goal 1 => decide)
    | (with_reducible apply Keeps.step (State.setChan_keeps ..); on_goal 1 => decide)
    | with_reducible apply Keeps.ite
    | with_reducible apply Keeps.ite_fst
    | (extract_lets +onlyGivenNames x; with_reducible apply Keeps.cut (x := by apply x) <;> [(unfold x; clear x); (clear_value x; intro _; revert x; intros)])
    | (extract_lets +onlyGivenNames x; with_reducible apply Keeps.cut (x := by apply x.1) <;> [(unfold x; clear x); (clear_value x; intro _; revert x; intros)])
    | (extract_lets +onlyGivenNames x; clear_value x; revert x; intros)
    | dsimp -zeta only)

theorem execScrubRun_keeps (c : Fin 16) (s : State) {t : State} (h : execScrubRun c s = .next t) : Keeps 3688890351 s t := by
  obtain rfl := Host.Outcome.next.inj h
  repeat' (first
    | with_reducible exact Keeps.refl _
    | with_reducible assumption
    | (with_reducible apply Keeps.step (scrubRun_keeps ..); on_goal 1 => decide)
    | dsimp -zeta only)

theorem deferBurst_keeps (c k n : Nat) (s : State) : Keeps 8053063679 s (deferBurst c k n s) := by
  unfold deferBurst
  repeat' (first
    | with_reducible exact Keeps.refl _
    | with_reducible assumption
    | (with_reducible apply Keeps.step (State.addObj_keeps ..); on_goal 1 => decide)
    | with_reducible apply Keeps.ite
    | dsimp -zeta only)

theorem noteBurst_keeps (c k n total : Nat) (s : State) : Keeps 3672113135 s (noteBurst c k n total s) := by
  unfold noteBurst
  repeat' (first
    | with_reducible exact Keeps.refl _
    | with_reducible assumption
    | (with_reducible apply Keeps.step (addProgress_keeps ..); on_goal 1 => decide)
    | (with_reducible apply Keeps.step (loseOthers_keeps ..); on_goal 1 => decide)
    | (with_reducible apply Keeps.step (runCtx_keeps ..); on_goal 1 => decide)
    | (with_reducible apply Keeps.step (State.modChan_keeps ..); on_goal 1 => decide)
    | dsimp -zeta only)

theorem migrationFill_keeps (d dline : Nat) (s : State) : Keeps 2340947919 s (migrationFill d dline s).1 := by
  unfold migrationFill
  repeat' (first
    | with_reducible exact Keeps.refl _
    | with_reducible assumption
    | (with_reducible apply Keeps.step (fillLine_keeps ..); on_goal 1 => decide)
    | with_reducible apply Keeps.ite
    | with_reducible apply Keeps.ite_fst
    | (extract_lets +onlyGivenNames x; with_reducible apply Keeps.cut (x := by apply x) <;> [(unfold x; clear x); (clear_value x; intro _; revert x; intros)])
    | (extract_lets +onlyGivenNames x; with_reducible apply Keeps.cut (x := by apply x.1) <;> [(unfold x; clear x); (clear_value x; intro _; revert x; intros)])
    | (extract_lets +onlyGivenNames x; clear_value x; revert x; intros)
    | split
    | dsimp -zeta only)

theorem putBlock_keeps (d page : Nat) (block : BitVec 512) (s : State) : Keeps 3418982383 s (putBlock d page block s) := by
  unfold putBlock
  repeat' (first
    | with_reducible exact Keeps.refl _
    | with_reducible assumption
    | (with_reducible apply Keeps.step (putLedger_keeps (ha := ledgerRun_keeps ledgerDepth) ..); on_goal 1 => decide)
    | (extract_lets +onlyGivenNames x; with_reducible apply Keeps.cut (x := by apply x) <;> [(unfold x; clear x); (clear_value x; intro _; revert x; intros)])
    | (extract_lets +onlyGivenNames x; with_reducible apply Keeps.cut (x := by apply x.1) <;> [(unfold x; clear x); (clear_value x; intro _; revert x; intros)])
    | (extract_lets +onlyGivenNames x; clear_value x; revert x; intros)
    | dsimp -zeta only)

theorem migrationWrite_keeps (d : Nat) (item : Nat × BitVec 512) (s : State) : Keeps 2340947919 s (migrationWrite d item s) := by
  unfold migrationWrite
  repeat' (first
    | with_reducible exact Keeps.refl _
    | with_reducible assumption
    | (with_reducible apply Keeps.step (storeData_keeps ..); on_goal 1 => decide)
    | (with_reducible apply Keeps.step (State.setPline_keeps ..); on_goal 1 => decide)
    | with_reducible apply Keeps.ite
    | with_reducible apply Keeps.ite_fst
    | (extract_lets +onlyGivenNames x; with_reducible apply Keeps.cut (x := by apply x) <;> [(unfold x; clear x); (clear_value x; intro _; revert x; intros)])
    | (extract_lets +onlyGivenNames x; with_reducible apply Keeps.cut (x := by apply x.1) <;> [(unfold x; clear x); (clear_value x; intro _; revert x; intros)])
    | (extract_lets +onlyGivenNames x; clear_value x; revert x; intros)
    | split
    | dsimp -zeta only)

theorem migrationDone_keeps (d page : Nat) (block : BitVec 512) (s : State) : Keeps 3418884079 s (migrationDone d page block s) := by
  unfold migrationDone
  repeat' (first
    | with_reducible exact Keeps.refl _
    | with_reducible assumption
    | (with_reducible apply Keeps.step (raiseCeiling_keeps ..); on_goal 1 => decide)
    | (with_reducible apply Keeps.step (sealPage_keeps ..); on_goal 1 => decide)
    | (with_reducible apply Keeps.step (putBlock_keeps ..); on_goal 1 => decide)
    | with_reducible apply Keeps.ite
    | (extract_lets +onlyGivenNames x; with_reducible apply Keeps.cut (x := by apply x) <;> [(unfold x; clear x); (clear_value x; intro _; revert x; intros)])
    | (extract_lets +onlyGivenNames x; clear_value x; revert x; intros)
    | dsimp -zeta only)

theorem migrate16_keeps (d page : Nat) (block : BitVec 512) (s : State) : Keeps 2324170703 s (migrate16 d page block s) := by
  unfold migrate16
  repeat' (first
    | with_reducible exact Keeps.refl _
    | with_reducible assumption
    | (with_reducible apply Keeps.step (endCtx_keeps ..); on_goal 1 => decide)
    | (with_reducible apply Keeps.step (needReplaced_keeps ..); on_goal 1 => decide)
    | (with_reducible apply Keeps.step (noteBurst_keeps ..); on_goal 1 => decide)
    | (with_reducible apply Keeps.step (migrationFill_keeps ..); on_goal 1 => decide)
    | (with_reducible apply Keeps.step (putBlock_keeps ..); on_goal 1 => decide)
    | (with_reducible apply Keeps.step (migrationWrite_keeps ..); on_goal 1 => decide)
    | (with_reducible apply Keeps.step (migrationDone_keeps ..); on_goal 1 => decide)
    | with_reducible apply Keeps.ite
    | with_reducible apply Keeps.ite_fst
    | (with_reducible apply Keeps.foldl <;> [skip; intro _ _ _])
    | (with_reducible apply Keeps.foldl_fst <;> [skip; intro _ _ _])
    | (extract_lets +onlyGivenNames x; with_reducible apply Keeps.cut (x := by apply x) <;> [(unfold x; clear x); (clear_value x; intro _; revert x; intros)])
    | (extract_lets +onlyGivenNames x; with_reducible apply Keeps.cut (x := by apply x.1) <;> [(unfold x; clear x); (clear_value x; intro _; revert x; intros)])
    | (extract_lets +onlyGivenNames x; clear_value x; revert x; intros)
    | split
    | dsimp -zeta only)

theorem rollNodes_keeps (d : Nat) (s : State) : Keeps 2340947919 s (rollNodes d s) := by
  unfold rollNodes
  repeat' (first
    | with_reducible exact Keeps.refl _
    | with_reducible assumption
    | (with_reducible apply Keeps.step (renewNode_keeps ..); on_goal 1 => decide)
    | (with_reducible apply Keeps.step (parentTouch_keeps (ha := ledgerRun_keeps ledgerDepth) ..); on_goal 1 => decide)
    | (with_reducible apply Keeps.step (needReplaced_keeps ..); on_goal 1 => decide)
    | with_reducible apply Keeps.ite
    | with_reducible apply Keeps.ite_fst
    | (with_reducible apply Keeps.forN_fst <;> [skip; intro _ _ _])
    | (with_reducible apply Keeps.forN <;> [skip; intro _ _ _])
    | (extract_lets +onlyGivenNames x; with_reducible apply Keeps.cut (x := by apply x) <;> [(unfold x; clear x); (clear_value x; intro _; revert x; intros)])
    | (extract_lets +onlyGivenNames x; with_reducible apply Keeps.cut (x := by apply x.1) <;> [(unfold x; clear x); (clear_value x; intro _; revert x; intros)])
    | (extract_lets +onlyGivenNames x; clear_value x; revert x; intros)
    | split
    | dsimp -zeta only)

theorem rollEnd_keeps (s : State) : Keeps 3687219199 s (rollEnd s) := by
  unfold rollEnd
  repeat' (first
    | with_reducible exact Keeps.refl _
    | with_reducible assumption
    | (with_reducible apply Keeps.step (writeVault_keeps ..); on_goal 1 => decide)
    | (with_reducible apply Keeps.step (publishVault_keeps ..); on_goal 1 => decide)
    | (with_reducible apply Keeps.step (unsealDistrict_keeps ..); on_goal 1 => decide)
    | (with_reducible apply Keeps.step (State.setObj_keeps ..); on_goal 1 => decide)
    | (with_reducible apply Keeps.step (State.raise_keeps ..); on_goal 1 => decide)
    | with_reducible apply Keeps.ite
    | (with_reducible apply Keeps.forN <;> [skip; intro _ _ _])
    | (extract_lets +onlyGivenNames x; with_reducible apply Keeps.cut (x := by apply x) <;> [(unfold x; clear x); (clear_value x; intro _; revert x; intros)])
    | (extract_lets +onlyGivenNames x; clear_value x; revert x; intros)
    | fail_if_no_progress (with_reducible apply Keeps.upd_keys_vault <;> [skip; decide])
    | dsimp -zeta only)

theorem rollMark_keeps (d : Nat) (s : State) : Keeps 3687219199 s (rollMark d s) := by
  unfold rollMark
  repeat' (first
    | with_reducible exact Keeps.refl _
    | with_reducible assumption
    | (with_reducible apply Keeps.step (writeVault_keeps ..); on_goal 1 => decide)
    | (with_reducible apply Keeps.step (rollEnd_keeps ..); on_goal 1 => decide)
    | fail_if_no_progress (with_reducible apply Keeps.upd_vault <;> [skip; decide])
    | dsimp -zeta only)

theorem rollSkip_keeps (s : State) : Keeps 3687219199 s (rollSkip s) := by
  unfold rollSkip
  repeat' (first
    | with_reducible exact Keeps.refl _
    | with_reducible assumption
    | (with_reducible apply Keeps.step (rollMark_keeps ..); on_goal 1 => decide)
    | with_reducible apply Keeps.ite
    | (with_reducible apply Keeps.forN <;> [skip; intro _ _ _])
    | dsimp -zeta only)

theorem rollPage_keeps (d : Nat) (s : State) : Keeps 2340423631 s (rollPage d s) := by
  unfold rollPage
  repeat' (first
    | with_reducible exact Keeps.refl _
    | with_reducible assumption
    | (with_reducible apply Keeps.step (writeVault_keeps ..); on_goal 1 => decide)
    | (with_reducible apply Keeps.step (rollNodes_keeps ..); on_goal 1 => decide)
    | (with_reducible apply Keeps.step (rollMark_keeps ..); on_goal 1 => decide)
    | (with_reducible apply Keeps.step (State.setObj_keeps ..); on_goal 1 => decide)
    | with_reducible apply Keeps.ite
    | (extract_lets +onlyGivenNames x; with_reducible apply Keeps.cut (x := by apply x) <;> [(unfold x; clear x); (clear_value x; intro _; revert x; intros)])
    | (extract_lets +onlyGivenNames x; clear_value x; revert x; intros)
    | fail_if_no_progress (with_reducible apply Keeps.upd_vault <;> [skip; decide])
    | dsimp -zeta only)

theorem migrationBurst_keeps (d page : Nat) (s : State) : Keeps 2323646415 s (migrationBurst d page s) := by
  unfold migrationBurst
  repeat' (first
    | with_reducible exact Keeps.refl _
    | with_reducible assumption
    | (with_reducible apply Keeps.step (needReplaced_keeps ..); on_goal 1 => decide)
    | (with_reducible apply Keeps.step (deferBurst_keeps ..); on_goal 1 => decide)
    | (with_reducible apply Keeps.step (putBlock_keeps ..); on_goal 1 => decide)
    | (with_reducible apply Keeps.step (migrate16_keeps ..); on_goal 1 => decide)
    | (with_reducible apply Keeps.step (rollPage_keeps ..); on_goal 1 => decide)
    | with_reducible apply Keeps.ite
    | with_reducible apply Keeps.ite_fst
    | (extract_lets +onlyGivenNames x; with_reducible apply Keeps.cut (x := by apply x) <;> [(unfold x; clear x); (clear_value x; intro _; revert x; intros)])
    | (extract_lets +onlyGivenNames x; with_reducible apply Keeps.cut (x := by apply x.1) <;> [(unfold x; clear x); (clear_value x; intro _; revert x; intros)])
    | (extract_lets +onlyGivenNames x; clear_value x; revert x; intros)
    | split
    | dsimp -zeta only)

theorem execMigrationBurst_keeps (d : Fin 4) (page : Nat) (s : State) {t : State} (h : execMigrationBurst d page s = .next t) : Keeps 2323646415 s t := by
  obtain rfl := Host.Outcome.next.inj h
  repeat' (first
    | with_reducible exact Keeps.refl _
    | with_reducible assumption
    | (with_reducible apply Keeps.step (migrationBurst_keeps ..); on_goal 1 => decide)
    | dsimp -zeta only)

theorem storedSince_keeps (e : Repair) (d dline : Nat) (s : State) : Keeps 2340947919 s (storedSince e d dline s).1 := by
  unfold storedSince
  repeat' (first
    | with_reducible exact Keeps.refl _
    | with_reducible assumption
    | (with_reducible apply Keeps.step (needLine_keeps ..); on_goal 1 => decide)
    | with_reducible apply Keeps.ite
    | with_reducible apply Keeps.ite_fst
    | (extract_lets +onlyGivenNames x; with_reducible apply Keeps.cut (x := by apply x) <;> [(unfold x; clear x); (clear_value x; intro _; revert x; intros)])
    | (extract_lets +onlyGivenNames x; with_reducible apply Keeps.cut (x := by apply x.1) <;> [(unfold x; clear x); (clear_value x; intro _; revert x; intros)])
    | (extract_lets +onlyGivenNames x; clear_value x; revert x; intros)
    | split
    | dsimp -zeta only)

theorem engineAsk_keeps (purpose d dline : Nat) (s : State) : Keeps 8044675071 s (engineAsk purpose d dline s) := by
  unfold engineAsk
  repeat' (first
    | with_reducible exact Keeps.refl _
    | with_reducible assumption
    | (with_reducible apply Keeps.step (remoteRequest_keeps ..); on_goal 1 => decide)
    | with_reducible apply Keeps.ite
    | with_reducible apply Keeps.ite_fst
    | (extract_lets +onlyGivenNames x; with_reducible apply Keeps.cut (x := by apply x) <;> [(unfold x; clear x); (clear_value x; intro _; revert x; intros)])
    | (extract_lets +onlyGivenNames x; with_reducible apply Keeps.cut (x := by apply x.1) <;> [(unfold x; clear x); (clear_value x; intro _; revert x; intros)])
    | (extract_lets +onlyGivenNames x; clear_value x; revert x; intros)
    | dsimp -zeta only)

theorem markPoison_keeps (d dline : Nat) (s : State) : Keeps 7784497135 s (markPoison d dline s) := by
  unfold markPoison
  repeat' (first
    | with_reducible exact Keeps.refl _
    | with_reducible assumption
    | (with_reducible apply Keeps.step (writeDram_keeps ..); on_goal 1 => decide)
    | (extract_lets +onlyGivenNames x; with_reducible apply Keeps.cut (x := by apply x) <;> [(unfold x; clear x); (clear_value x; intro _; revert x; intros)])
    | (extract_lets +onlyGivenNames x; with_reducible apply Keeps.cut (x := by apply x.1) <;> [(unfold x; clear x); (clear_value x; intro _; revert x; intros)])
    | (extract_lets +onlyGivenNames x; clear_value x; revert x; intros)
    | dsimp -zeta only)

theorem recoverySpend_keeps (n : Nat) (s : State) : Keeps 8581545983 s (recoverySpend n s) := by
  unfold recoverySpend
  repeat' (first
    | with_reducible exact Keeps.refl _
    | with_reducible assumption
    | fail_if_no_progress (with_reducible apply Keeps.upd_mirror <;> [skip; decide])
    | dsimp -zeta only)

theorem repairLine_keeps (e : Nat) (dline : Nat) (s : State) : Keeps 2332559311 s (repairLine e dline s).1 := by
  unfold repairLine
  repeat' (first
    | with_reducible exact Keeps.refl _
    | with_reducible assumption
    | (with_reducible apply Keeps.step (addProgress_keeps ..); on_goal 1 => decide)
    | (with_reducible apply Keeps.step (deferBurst_keeps ..); on_goal 1 => decide)
    | (with_reducible apply Keeps.step (storedSince_keeps ..); on_goal 1 => decide)
    | (with_reducible apply Keeps.step (engineAsk_keeps ..); on_goal 1 => decide)
    | (with_reducible apply Keeps.step (markPoison_keeps ..); on_goal 1 => decide)
    | (with_reducible apply Keeps.step (State.addObj_keeps ..); on_goal 1 => decide)
    | (with_reducible apply Keeps.step (State.setRepair_keeps ..); on_goal 1 => decide)
    | with_reducible apply Keeps.ite
    | with_reducible apply Keeps.ite_fst
    | (extract_lets +onlyGivenNames x; with_reducible apply Keeps.cut (x := by apply x) <;> [(unfold x; clear x); (clear_value x; intro _; revert x; intros)])
    | (extract_lets +onlyGivenNames x; with_reducible apply Keeps.cut (x := by apply x.1) <;> [(unfold x; clear x); (clear_value x; intro _; revert x; intros)])
    | (extract_lets +onlyGivenNames x; clear_value x; revert x; intros)
    | dsimp -zeta only)

theorem repairLines64_keeps (e first n i : Nat) (b : Bool) (s : State) : Keeps 2332559311 s (repairLines64 e first n i b s).1 := by
  induction n generalizing i b s with
  | zero => unfold repairLines64; repeat' (first | (with_reducible apply Keeps.step (ih ..); on_goal 1 => decide) | with_reducible exact Keeps.refl _ | with_reducible assumption | (with_reducible apply Keeps.step (repairLine_keeps ..); on_goal 1 => decide) | with_reducible apply Keeps.ite | with_reducible apply Keeps.ite_fst | (extract_lets +onlyGivenNames x; with_reducible apply Keeps.cut (x := by apply x) <;> [(unfold x; clear x); (clear_value x; intro _; revert x; intros)]) | (extract_lets +onlyGivenNames x; with_reducible apply Keeps.cut (x := by apply x.1) <;> [(unfold x; clear x); (clear_value x; intro _; revert x; intros)]) | (extract_lets +onlyGivenNames x; clear_value x; revert x; intros) | dsimp -zeta only)
  | succ n ih => unfold repairLines64; repeat' (first | (with_reducible apply Keeps.step (ih ..); on_goal 1 => decide) | with_reducible exact Keeps.refl _ | with_reducible assumption | (with_reducible apply Keeps.step (repairLine_keeps ..); on_goal 1 => decide) | with_reducible apply Keeps.ite | with_reducible apply Keeps.ite_fst | (extract_lets +onlyGivenNames x; with_reducible apply Keeps.cut (x := by apply x) <;> [(unfold x; clear x); (clear_value x; intro _; revert x; intros)]) | (extract_lets +onlyGivenNames x; with_reducible apply Keeps.cut (x := by apply x.1) <;> [(unfold x; clear x); (clear_value x; intro _; revert x; intros)]) | (extract_lets +onlyGivenNames x; clear_value x; revert x; intros) | dsimp -zeta only)


theorem repairBurst_keeps (e : Nat) (s : State) : Keeps 2332559311 s (repairBurst e s) := by
  unfold repairBurst
  repeat' (first
    | with_reducible exact Keeps.refl _
    | with_reducible assumption
    | (with_reducible apply Keeps.step (storeRepair_keeps ..); on_goal 1 => decide)
    | (with_reducible apply Keeps.step (repairLines64_keeps ..); on_goal 1 => decide)
    | (with_reducible apply Keeps.step (State.setRepair_keeps ..); on_goal 1 => decide)
    | (with_reducible apply Keeps.step (State.raise_keeps ..); on_goal 1 => decide)
    | with_reducible apply Keeps.ite
    | with_reducible apply Keeps.ite_fst
    | (extract_lets +onlyGivenNames x; with_reducible apply Keeps.cut (x := by apply x) <;> [(unfold x; clear x); (clear_value x; intro _; revert x; intros)])
    | (extract_lets +onlyGivenNames x; with_reducible apply Keeps.cut (x := by apply x.1) <;> [(unfold x; clear x); (clear_value x; intro _; revert x; intros)])
    | (extract_lets +onlyGivenNames x; clear_value x; revert x; intros)
    | dsimp -zeta only)

theorem execRepairBurst_keeps (entry : Fin 256) (s : State) {t : State} (h : execRepairBurst entry s = .next t) : Keeps 2332559311 s t := by
  obtain rfl := Host.Outcome.next.inj h
  repeat' (first
    | with_reducible exact Keeps.refl _
    | with_reducible assumption
    | (with_reducible apply Keeps.step (repairBurst_keeps ..); on_goal 1 => decide)
    | dsimp -zeta only)

theorem rebuildData_keeps (c d dline : Nat) (s : State) : Keeps 7776108527 s (rebuildData c d dline s).1 := by
  unfold rebuildData
  repeat' (first
    | with_reducible exact Keeps.refl _
    | with_reducible assumption
    | (with_reducible apply Keeps.step (engineAsk_keeps ..); on_goal 1 => decide)
    | (with_reducible apply Keeps.step (markPoison_keeps ..); on_goal 1 => decide)
    | (with_reducible apply Keeps.step (recoverySpend_keeps ..); on_goal 1 => decide)
    | (with_reducible apply Keeps.step (State.addObj_keeps ..); on_goal 1 => decide)
    | with_reducible apply Keeps.ite
    | with_reducible apply Keeps.ite_fst
    | dsimp -zeta only)

theorem rebuildPage_keeps (c d page : Nat) (s : State) : Keeps 7776108527 s (rebuildPage c d page s).1 := by
  unfold rebuildPage
  repeat' (first
    | with_reducible exact Keeps.refl _
    | with_reducible assumption
    | (with_reducible apply Keeps.step (rebuildData_keeps ..); on_goal 1 => decide)
    | (with_reducible apply Keeps.foldl <;> [skip; intro _ _ _])
    | (with_reducible apply Keeps.foldl_fst <;> [skip; intro _ _ _])
    | (extract_lets +onlyGivenNames x; with_reducible apply Keeps.cut (x := by apply x) <;> [(unfold x; clear x); (clear_value x; intro _; revert x; intros)])
    | (extract_lets +onlyGivenNames x; with_reducible apply Keeps.cut (x := by apply x.1) <;> [(unfold x; clear x); (clear_value x; intro _; revert x; intros)])
    | (extract_lets +onlyGivenNames x; clear_value x; revert x; intros)
    | dsimp -zeta only)

theorem flushNow_keeps (c d l : Nat) (s : State) : Keeps 2340947919 s (flushNow c d l s) := by
  unfold flushNow
  repeat' (first
    | with_reducible exact Keeps.refl _
    | with_reducible assumption
    | (with_reducible apply Keeps.step (flushLedger_keeps ..); on_goal 1 => decide)
    | dsimp -zeta only)

theorem readopt_keeps (d idx : Nat) (s : State) : Keeps 2340947919 s (readopt d idx s) := by
  unfold readopt
  repeat' (first
    | with_reducible exact Keeps.refl _
    | with_reducible assumption
    | (with_reducible apply Keeps.step (raiseCeiling_keeps ..); on_goal 1 => decide)
    | (with_reducible apply Keeps.step (readSingle_keeps ..); on_goal 1 => decide)
    | (with_reducible apply Keeps.step (putLedger_keeps (ha := ledgerRun_keeps ledgerDepth) ..); on_goal 1 => decide)
    | (with_reducible apply Keeps.step (renewNode_keeps ..); on_goal 1 => decide)
    | (with_reducible apply Keeps.step (flushNow_keeps ..); on_goal 1 => decide)
    | (with_reducible apply Keeps.foldl <;> [skip; intro _ _ _])
    | (with_reducible apply Keeps.foldl_fst <;> [skip; intro _ _ _])
    | (with_reducible apply Keeps.forN_fst <;> [skip; intro _ _ _])
    | (with_reducible apply Keeps.forN <;> [skip; intro _ _ _])
    | (extract_lets +onlyGivenNames x; with_reducible apply Keeps.cut (x := by apply x) <;> [(unfold x; clear x); (clear_value x; intro _; revert x; intros)])
    | (extract_lets +onlyGivenNames x; with_reducible apply Keeps.cut (x := by apply x.1) <;> [(unfold x; clear x); (clear_value x; intro _; revert x; intros)])
    | (extract_lets +onlyGivenNames x; clear_value x; revert x; intros)
    | split
    | dsimp -zeta only)

theorem recomputeMac_keeps (d i : Nat) (s : State) : Keeps 2340947919 s (recomputeMac d i s) := by
  unfold recomputeMac
  repeat' (first
    | with_reducible exact Keeps.refl _
    | with_reducible assumption
    | (with_reducible apply Keeps.step (readDram_keeps ..); on_goal 1 => decide)
    | (with_reducible apply Keeps.step (putLedger_keeps (ha := ledgerRun_keeps ledgerDepth) ..); on_goal 1 => decide)
    | (with_reducible apply Keeps.step (needLine_keeps ..); on_goal 1 => decide)
    | (with_reducible apply Keeps.step (flushNow_keeps ..); on_goal 1 => decide)
    | (with_reducible apply Keeps.foldl <;> [skip; intro _ _ _])
    | (with_reducible apply Keeps.foldl_fst <;> [skip; intro _ _ _])
    | (extract_lets +onlyGivenNames x; with_reducible apply Keeps.cut (x := by apply x) <;> [(unfold x; clear x); (clear_value x; intro _; revert x; intros)])
    | (extract_lets +onlyGivenNames x; with_reducible apply Keeps.cut (x := by apply x.1) <;> [(unfold x; clear x); (clear_value x; intro _; revert x; intros)])
    | (extract_lets +onlyGivenNames x; clear_value x; revert x; intros)
    | split
    | dsimp -zeta only)

theorem rebuildLine_keeps (c l : Nat) (s : State) : Keeps 2332559311 s (rebuildLine c l s).1 := by
  unfold rebuildLine
  repeat' (first
    | with_reducible exact Keeps.refl _
    | with_reducible assumption
    | (with_reducible apply Keeps.step (writeDram_keeps ..); on_goal 1 => decide)
    | (with_reducible apply Keeps.step (readCopies_keeps ..); on_goal 1 => decide)
    | (with_reducible apply Keeps.step (installReplacement_keeps ..); on_goal 1 => decide)
    | (with_reducible apply Keeps.step (lose_keeps ..); on_goal 1 => decide)
    | (with_reducible apply Keeps.step (rebuildData_keeps ..); on_goal 1 => decide)
    | (with_reducible apply Keeps.step (rebuildPage_keeps ..); on_goal 1 => decide)
    | (with_reducible apply Keeps.step (flushNow_keeps ..); on_goal 1 => decide)
    | (with_reducible apply Keeps.step (readopt_keeps ..); on_goal 1 => decide)
    | (with_reducible apply Keeps.step (recomputeMac_keeps ..); on_goal 1 => decide)
    | with_reducible apply Keeps.ite
    | with_reducible apply Keeps.ite_fst
    | (extract_lets +onlyGivenNames x; with_reducible apply Keeps.cut (x := by apply x) <;> [(unfold x; clear x); (clear_value x; intro _; revert x; intros)])
    | (extract_lets +onlyGivenNames x; with_reducible apply Keeps.cut (x := by apply x.1) <;> [(unfold x; clear x); (clear_value x; intro _; revert x; intros)])
    | (extract_lets +onlyGivenNames x; clear_value x; revert x; intros)
    | split
    | dsimp -zeta only)

theorem rebuildLines_keeps (c first n i : Nat) (b : Bool) (s : State) : Keeps 2332559311 s (rebuildLines c first n i b s).1 := by
  induction n generalizing i b s with
  | zero => unfold rebuildLines; repeat' (first | (with_reducible apply Keeps.step (ih ..); on_goal 1 => decide) | with_reducible exact Keeps.refl _ | with_reducible assumption | (with_reducible apply Keeps.step (rebuildLine_keeps ..); on_goal 1 => decide) | with_reducible apply Keeps.ite | with_reducible apply Keeps.ite_fst | (extract_lets +onlyGivenNames x; with_reducible apply Keeps.cut (x := by apply x) <;> [(unfold x; clear x); (clear_value x; intro _; revert x; intros)]) | (extract_lets +onlyGivenNames x; with_reducible apply Keeps.cut (x := by apply x.1) <;> [(unfold x; clear x); (clear_value x; intro _; revert x; intros)]) | (extract_lets +onlyGivenNames x; clear_value x; revert x; intros) | dsimp -zeta only)
  | succ n ih => unfold rebuildLines; repeat' (first | (with_reducible apply Keeps.step (ih ..); on_goal 1 => decide) | with_reducible exact Keeps.refl _ | with_reducible assumption | (with_reducible apply Keeps.step (rebuildLine_keeps ..); on_goal 1 => decide) | with_reducible apply Keeps.ite | with_reducible apply Keeps.ite_fst | (extract_lets +onlyGivenNames x; with_reducible apply Keeps.cut (x := by apply x) <;> [(unfold x; clear x); (clear_value x; intro _; revert x; intros)]) | (extract_lets +onlyGivenNames x; with_reducible apply Keeps.cut (x := by apply x.1) <;> [(unfold x; clear x); (clear_value x; intro _; revert x; intros)]) | (extract_lets +onlyGivenNames x; clear_value x; revert x; intros) | dsimp -zeta only)


theorem rebuildDone_keeps (c : Nat) (s : State) : Keeps 3655073743 s (rebuildDone c s) := by
  unfold rebuildDone
  repeat' (first
    | with_reducible exact Keeps.refl _
    | with_reducible assumption
    | (with_reducible apply Keeps.step (setChanState_keeps ..); on_goal 1 => decide)
    | (with_reducible apply Keeps.step (bayInService_keeps ..); on_goal 1 => decide)
    | (with_reducible apply Keeps.step (releaseOwn_keeps ..); on_goal 1 => decide)
    | (with_reducible apply Keeps.step (endCtx_keeps ..); on_goal 1 => decide)
    | (with_reducible apply Keeps.step (unpinLines_keeps ..); on_goal 1 => decide)
    | (with_reducible apply Keeps.step (State.setObj_keeps ..); on_goal 1 => decide)
    | (with_reducible apply Keeps.step (State.raiseChan_keeps ..); on_goal 1 => decide)
    | with_reducible apply Keeps.ite
    | (with_reducible apply Keeps.forN <;> [skip; intro _ _ _])
    | (extract_lets +onlyGivenNames x; with_reducible apply Keeps.cut (x := by apply x) <;> [(unfold x; clear x); (clear_value x; intro _; revert x; intros)])
    | (extract_lets +onlyGivenNames x; clear_value x; revert x; intros)
    | dsimp -zeta only)

theorem rebuildBurst_keeps (c : Nat) (s : State) : Keeps 2282227663 s (rebuildBurst c s) := by
  unfold rebuildBurst
  repeat' (first
    | with_reducible exact Keeps.refl _
    | with_reducible assumption
    | (with_reducible apply Keeps.step (claim_keeps ..); on_goal 1 => decide)
    | (with_reducible apply Keeps.step (addProgress_keeps ..); on_goal 1 => decide)
    | (with_reducible apply Keeps.step (deferBurst_keeps ..); on_goal 1 => decide)
    | (with_reducible apply Keeps.step (noteBurst_keeps ..); on_goal 1 => decide)
    | (with_reducible apply Keeps.step (rebuildLines_keeps ..); on_goal 1 => decide)
    | (with_reducible apply Keeps.step (rebuildDone_keeps ..); on_goal 1 => decide)
    | (with_reducible apply Keeps.step (State.setObj_keeps ..); on_goal 1 => decide)
    | with_reducible apply Keeps.ite
    | with_reducible apply Keeps.ite_fst
    | (extract_lets +onlyGivenNames x; with_reducible apply Keeps.cut (x := by apply x) <;> [(unfold x; clear x); (clear_value x; intro _; revert x; intros)])
    | (extract_lets +onlyGivenNames x; with_reducible apply Keeps.cut (x := by apply x.1) <;> [(unfold x; clear x); (clear_value x; intro _; revert x; intros)])
    | (extract_lets +onlyGivenNames x; clear_value x; revert x; intros)
    | fail_if_no_progress (with_reducible apply Keeps.upd_mram <;> [skip; decide; (intros; repeat' (first | with_reducible assumption | with_reducible exact Memory.wf_nil | with_reducible apply Memory.wf_sbN | with_reducible apply Memory.wf_sbNat | with_reducible apply Memory.wf_sb | with_reducible apply Memory.wf_filter | with_reducible apply Memory.wf_writeWords | with_reducible apply Memory.wf_foldl_sb | with_reducible exact Keeps.mramOk (by assumption) (by assumption) | split | dsimp only))])
    | dsimp -zeta only)

theorem execRebuildBurst_keeps (c : Fin 16) (s : State) {t : State} (h : execRebuildBurst c s = .next t) : Keeps 2282227663 s t := by
  obtain rfl := Host.Outcome.next.inj h
  repeat' (first
    | with_reducible exact Keeps.refl _
    | with_reducible assumption
    | (with_reducible apply Keeps.step (rebuildBurst_keeps ..); on_goal 1 => decide)
    | dsimp -zeta only)

theorem resyncCount_keeps (d : Nat) (s : State) : Keeps 8050966527 s (resyncCount d s) := by
  unfold resyncCount
  repeat' (first
    | with_reducible exact Keeps.refl _
    | with_reducible assumption
    | (with_reducible apply Keeps.step (State.setObj_keeps ..); on_goal 1 => decide)
    | with_reducible apply Keeps.ite
    | (extract_lets +onlyGivenNames x; with_reducible apply Keeps.cut (x := by apply x) <;> [(unfold x; clear x); (clear_value x; intro _; revert x; intros)])
    | (extract_lets +onlyGivenNames x; clear_value x; revert x; intros)
    | fail_if_no_progress (with_reducible apply Keeps.upd_mram <;> [skip; decide; (intros; repeat' (first | with_reducible assumption | with_reducible exact Memory.wf_nil | with_reducible apply Memory.wf_sbN | with_reducible apply Memory.wf_sbNat | with_reducible apply Memory.wf_sb | with_reducible apply Memory.wf_filter | with_reducible apply Memory.wf_writeWords | with_reducible apply Memory.wf_foldl_sb | with_reducible exact Keeps.mramOk (by assumption) (by assumption) | split | dsimp only))])
    | dsimp -zeta only)

theorem pushBurst_keeps (d : Nat) (s : State) : Keeps 2315780365 s (pushBurst d s) := by
  unfold pushBurst
  repeat' (first
    | with_reducible exact Keeps.refl _
    | with_reducible assumption
    | (with_reducible apply Keeps.step (addProgress_keeps ..); on_goal 1 => decide)
    | (with_reducible apply Keeps.step (advanceHorizon_keeps ..); on_goal 1 => decide)
    | (with_reducible apply Keeps.step (enterOrder_keeps ..); on_goal 1 => decide)
    | (with_reducible apply Keeps.step (checkResync_keeps ..); on_goal 1 => decide)
    | (with_reducible apply Keeps.step (recoverySpend_keeps ..); on_goal 1 => decide)
    | (with_reducible apply Keeps.step (resyncCount_keeps ..); on_goal 1 => decide)
    | (with_reducible apply Keeps.step (State.modDist_keeps ..); on_goal 1 => decide)
    | with_reducible apply Keeps.ite
    | with_reducible apply Keeps.ite_fst
    | (with_reducible apply Keeps.foldl <;> [skip; intro _ _ _])
    | (with_reducible apply Keeps.foldl_fst <;> [skip; intro _ _ _])
    | (extract_lets +onlyGivenNames x; with_reducible apply Keeps.cut (x := by apply x) <;> [(unfold x; clear x); (clear_value x; intro _; revert x; intros)])
    | (extract_lets +onlyGivenNames x; with_reducible apply Keeps.cut (x := by apply x.1) <;> [(unfold x; clear x); (clear_value x; intro _; revert x; intros)])
    | (extract_lets +onlyGivenNames x; clear_value x; revert x; intros)
    | dsimp -zeta only)

theorem execResyncPushBurst_keeps (d : Fin 4) (s : State) {t : State} (h : execResyncPushBurst d s = .next t) : Keeps 2315780365 s t := by
  obtain rfl := Host.Outcome.next.inj h
  repeat' (first
    | with_reducible exact Keeps.refl _
    | with_reducible assumption
    | (with_reducible apply Keeps.step (pushBurst_keeps ..); on_goal 1 => decide)
    | dsimp -zeta only)

theorem pullPageDone_keeps (d : Nat) (s : State) : Keeps 3688628223 s (pullPageDone d s) := by
  unfold pullPageDone
  repeat' (first
    | with_reducible exact Keeps.refl _
    | with_reducible assumption
    | (with_reducible apply Keeps.step (checkResync_keeps ..); on_goal 1 => decide)
    | (with_reducible apply Keeps.step (resyncCount_keeps ..); on_goal 1 => decide)
    | (with_reducible apply Keeps.step (State.setObj_keeps ..); on_goal 1 => decide)
    | (with_reducible apply Keeps.step (State.modDist_keeps ..); on_goal 1 => decide)
    | with_reducible apply Keeps.ite
    | (extract_lets +onlyGivenNames x; with_reducible apply Keeps.cut (x := by apply x) <;> [(unfold x; clear x); (clear_value x; intro _; revert x; intros)])
    | (extract_lets +onlyGivenNames x; clear_value x; revert x; intros)
    | split
    | dsimp -zeta only)

theorem pullBurst_keeps (d : Nat) (s : State) : Keeps 3680239615 s (pullBurst d s) := by
  unfold pullBurst
  repeat' (first
    | with_reducible exact Keeps.refl _
    | with_reducible assumption
    | (with_reducible apply Keeps.step (engineAsk_keeps ..); on_goal 1 => decide)
    | (with_reducible apply Keeps.step (recoverySpend_keeps ..); on_goal 1 => decide)
    | (with_reducible apply Keeps.step (pullPageDone_keeps ..); on_goal 1 => decide)
    | with_reducible apply Keeps.ite
    | with_reducible apply Keeps.ite_fst
    | (with_reducible apply Keeps.foldl <;> [skip; intro _ _ _])
    | (with_reducible apply Keeps.foldl_fst <;> [skip; intro _ _ _])
    | (extract_lets +onlyGivenNames x; with_reducible apply Keeps.cut (x := by apply x) <;> [(unfold x; clear x); (clear_value x; intro _; revert x; intros)])
    | (extract_lets +onlyGivenNames x; with_reducible apply Keeps.cut (x := by apply x.1) <;> [(unfold x; clear x); (clear_value x; intro _; revert x; intros)])
    | (extract_lets +onlyGivenNames x; clear_value x; revert x; intros)
    | split
    | dsimp -zeta only)

theorem execResyncPullBurst_keeps (d : Fin 4) (s : State) {t : State} (h : execResyncPullBurst d s = .next t) : Keeps 3680239615 s t := by
  obtain rfl := Host.Outcome.next.inj h
  repeat' (first
    | with_reducible exact Keeps.refl _
    | with_reducible assumption
    | (with_reducible apply Keeps.step (pullBurst_keeps ..); on_goal 1 => decide)
    | dsimp -zeta only)

end Sys2Proof.Machine
end

