-- ==== Sys2Proof/Laws/KeepsMirrorRx.lean ====
section
/-! SUPPORT. What each function of Machine/MirrorRx.lean can do (see Laws/Keeps.lean). -/

set_option linter.tactic.unusedName false
set_option linter.unusedTactic false
set_option linter.unreachableTactic false

namespace Sys2Proof.Machine

theorem showPorts_keeps (s : State) : Keeps 8053063679 s (showPorts s) := by
  unfold showPorts
  repeat' (first
    | with_reducible exact Keeps.refl _
    | with_reducible assumption
    | (with_reducible apply Keeps.step (State.setObj_keeps ..); on_goal 1 => decide)
    | with_reducible apply Keeps.ite
    | with_reducible apply Keeps.ite_fst
    | (with_reducible apply Keeps.foldl <;> [skip; intro _ _ _])
    | (with_reducible apply Keeps.foldl_fst <;> [skip; intro _ _ _])
    | dsimp -zeta only)

theorem portHeard_keeps (k : Nat) (s : State) : Keeps 3680501759 s (portHeard k s) := by
  unfold portHeard
  repeat' (first
    | with_reducible exact Keeps.refl _
    | with_reducible assumption
    | (with_reducible apply Keeps.step (showPorts_keeps ..); on_goal 1 => decide)
    | (with_reducible apply Keeps.step (State.raise_keeps ..); on_goal 1 => decide)
    | with_reducible apply Keeps.ite
    | (extract_lets +onlyGivenNames x; with_reducible apply Keeps.cut (x := by apply x) <;> [(unfold x; clear x); (clear_value x; intro _; revert x; intros)])
    | (extract_lets +onlyGivenNames x; clear_value x; revert x; intros)
    | fail_if_no_progress (with_reducible apply Keeps.upd_mirror <;> [skip; decide])
    | dsimp -zeta only)

theorem portSilent_keeps (k : Nat) (s : State) : Keeps 3680501759 s (portSilent k s) := by
  unfold portSilent
  repeat' (first
    | with_reducible exact Keeps.refl _
    | with_reducible assumption
    | (with_reducible apply Keeps.step (showPorts_keeps ..); on_goal 1 => decide)
    | (with_reducible apply Keeps.step (State.raise_keeps ..); on_goal 1 => decide)
    | with_reducible apply Keeps.ite
    | (extract_lets +onlyGivenNames x; with_reducible apply Keeps.cut (x := by apply x) <;> [(unfold x; clear x); (clear_value x; intro _; revert x; intros)])
    | (extract_lets +onlyGivenNames x; clear_value x; revert x; intros)
    | fail_if_no_progress (with_reducible apply Keeps.upd_mirror <;> [skip; decide])
    | dsimp -zeta only)

theorem execPathSilentTimeout_keeps (port : Fin 16) (s : State) {t : State} (h : execPathSilentTimeout port s = .next t) : Keeps 3680501759 s t := by
  obtain rfl := Host.Outcome.next.inj h
  repeat' (first
    | with_reducible exact Keeps.refl _
    | with_reducible assumption
    | (with_reducible apply Keeps.step (portSilent_keeps ..); on_goal 1 => decide)
    | dsimp -zeta only)

theorem acceptRx_keeps (k n : Nat) (s : State) : Keeps 8044675071 s (acceptRx k n s) := by
  induction n generalizing s with
  | zero => unfold acceptRx; repeat' (first | (with_reducible apply Keeps.step (ih ..); on_goal 1 => decide) | with_reducible exact Keeps.refl _ | with_reducible assumption | (with_reducible apply Keeps.step (State.setObj_keeps ..); on_goal 1 => decide) | (with_reducible apply Keeps.step (State.setRx_keeps ..); on_goal 1 => decide) | (extract_lets +onlyGivenNames x; with_reducible apply Keeps.cut (x := by apply x) <;> [(unfold x; clear x); (clear_value x; intro _; revert x; intros)]) | (extract_lets +onlyGivenNames x; with_reducible apply Keeps.cut (x := by apply x.1) <;> [(unfold x; clear x); (clear_value x; intro _; revert x; intros)]) | (extract_lets +onlyGivenNames x; clear_value x; revert x; intros) | split | dsimp -zeta only)
  | succ n ih => unfold acceptRx; repeat' (first | (with_reducible apply Keeps.step (ih ..); on_goal 1 => decide) | with_reducible exact Keeps.refl _ | with_reducible assumption | (with_reducible apply Keeps.step (State.setObj_keeps ..); on_goal 1 => decide) | (with_reducible apply Keeps.step (State.setRx_keeps ..); on_goal 1 => decide) | (extract_lets +onlyGivenNames x; with_reducible apply Keeps.cut (x := by apply x) <;> [(unfold x; clear x); (clear_value x; intro _; revert x; intros)]) | (extract_lets +onlyGivenNames x; with_reducible apply Keeps.cut (x := by apply x.1) <;> [(unfold x; clear x); (clear_value x; intro _; revert x; intros)]) | (extract_lets +onlyGivenNames x; clear_value x; revert x; intros) | split | dsimp -zeta only)


theorem discardRepeat_keeps (s : State) : Keeps 8053063679 s (discardRepeat s) := by
  unfold discardRepeat
  repeat' (first
    | with_reducible exact Keeps.refl _
    | with_reducible assumption
    | (with_reducible apply Keeps.step (State.addObj_keeps ..); on_goal 1 => decide)
    | dsimp -zeta only)

theorem takeData_keeps (k seq : Nat) (payload : List Byte) (s : State) : Keeps 8044675071 s (takeData k seq payload s) := by
  unfold takeData
  repeat' (first
    | with_reducible exact Keeps.refl _
    | with_reducible assumption
    | (with_reducible apply Keeps.step (advanceCum_keeps ..); on_goal 1 => decide)
    | (with_reducible apply Keeps.step (acceptRx_keeps ..); on_goal 1 => decide)
    | (with_reducible apply Keeps.step (discardRepeat_keeps ..); on_goal 1 => decide)
    | (with_reducible apply Keeps.step (State.addObj_keeps ..); on_goal 1 => decide)
    | (with_reducible apply Keeps.step (State.setRx_keeps ..); on_goal 1 => decide)
    | with_reducible apply Keeps.ite
    | with_reducible apply Keeps.ite_fst
    | (extract_lets +onlyGivenNames x; with_reducible apply Keeps.cut (x := by apply x) <;> [(unfold x; clear x); (clear_value x; intro _; revert x; intros)])
    | (extract_lets +onlyGivenNames x; with_reducible apply Keeps.cut (x := by apply x.1) <;> [(unfold x; clear x); (clear_value x; intro _; revert x; intros)])
    | (extract_lets +onlyGivenNames x; clear_value x; revert x; intros)
    | dsimp -zeta only)

theorem noteResent_keeps (hit : TxFrame → Bool) (s : State) : Keeps 8581545983 s (noteResent hit s) := by
  unfold noteResent
  repeat' (first
    | with_reducible exact Keeps.refl _
    | with_reducible assumption
    | fail_if_no_progress (with_reducible apply Keeps.upd_mirror <;> [skip; decide])
    | dsimp -zeta only)

theorem answerNak_keeps (k first count : Nat) (s : State) : Keeps 8044675071 s (answerNak k first count s) := by
  unfold answerNak
  repeat' (first
    | with_reducible exact Keeps.refl _
    | with_reducible assumption
    | (with_reducible apply Keeps.step (sendData_keeps ..); on_goal 1 => decide)
    | (with_reducible apply Keeps.step (noteResent_keeps ..); on_goal 1 => decide)
    | (with_reducible apply Keeps.step (State.addObj_keeps ..); on_goal 1 => decide)
    | (with_reducible apply Keeps.foldl <;> [skip; intro _ _ _])
    | (with_reducible apply Keeps.foldl_fst <;> [skip; intro _ _ _])
    | (extract_lets +onlyGivenNames x; with_reducible apply Keeps.cut (x := by apply x) <;> [(unfold x; clear x); (clear_value x; intro _; revert x; intros)])
    | (extract_lets +onlyGivenNames x; with_reducible apply Keeps.cut (x := by apply x.1) <;> [(unfold x; clear x); (clear_value x; intro _; revert x; intros)])
    | (extract_lets +onlyGivenNames x; clear_value x; revert x; intros)
    | dsimp -zeta only)

theorem afterAck_keeps (s : State) : Keeps 3680239615 s (afterAck s) := by
  unfold afterAck
  repeat' (first
    | with_reducible exact Keeps.refl _
    | with_reducible assumption
    | (with_reducible apply Keeps.step (checkResync_keeps ..); on_goal 1 => decide)
    | (with_reducible apply Keeps.step (finishDemote_keeps ..); on_goal 1 => decide)
    | (with_reducible apply Keeps.forN <;> [skip; intro _ _ _])
    | dsimp -zeta only)

theorem takeAck_keeps (seq : Nat) (p : List Byte) (s : State) : Keeps 3663461341 s (takeAck seq p s) := by
  unfold takeAck
  repeat' (first
    | with_reducible exact Keeps.refl _
    | with_reducible assumption
    | (with_reducible apply Keeps.step (acknowledge_keeps ..); on_goal 1 => decide)
    | (with_reducible apply Keeps.step (discardRepeat_keeps ..); on_goal 1 => decide)
    | (with_reducible apply Keeps.step (answerNak_keeps ..); on_goal 1 => decide)
    | (with_reducible apply Keeps.step (afterAck_keeps ..); on_goal 1 => decide)
    | with_reducible apply Keeps.ite
    | (with_reducible apply Keeps.forN <;> [skip; intro _ _ _])
    | (extract_lets +onlyGivenNames x; with_reducible apply Keeps.cut (x := by apply x) <;> [(unfold x; clear x); (clear_value x; intro _; revert x; intros)])
    | (extract_lets +onlyGivenNames x; clear_value x; revert x; intros)
    | split
    | fail_if_no_progress (with_reducible apply Keeps.upd_mirror <;> [skip; decide])
    | dsimp -zeta only)

theorem takeHello_keeps (seq session : Nat) (p : List Byte) (s : State) : Keeps 3658217821 s (takeHello seq session p s) := by
  unfold takeHello
  repeat' (first
    | with_reducible exact Keeps.refl _
    | with_reducible assumption
    | (with_reducible apply Keeps.step (reframe_keeps ..); on_goal 1 => decide)
    | (with_reducible apply Keeps.step (pairDistrict_keeps ..); on_goal 1 => decide)
    | (with_reducible apply Keeps.step (discardRepeat_keeps ..); on_goal 1 => decide)
    | (with_reducible apply Keeps.step (State.setObj_keeps ..); on_goal 1 => decide)
    | (with_reducible apply Keeps.step (State.setRx_keeps ..); on_goal 1 => decide)
    | with_reducible apply Keeps.ite
    | (with_reducible apply Keeps.forN <;> [skip; intro _ _ _])
    | (extract_lets +onlyGivenNames x; with_reducible apply Keeps.cut (x := by apply x) <;> [(unfold x; clear x); (clear_value x; intro _; revert x; intros)])
    | (extract_lets +onlyGivenNames x; clear_value x; revert x; intros)
    | split
    | fail_if_no_progress (with_reducible apply Keeps.upd_mirror <;> [skip; decide])
    | dsimp -zeta only)

theorem takeRequest_keeps (seq : Nat) (p : List Byte) (s : State) : Keeps 8044674031 s (takeRequest seq p s) := by
  unfold takeRequest
  repeat' (first
    | with_reducible exact Keeps.refl _
    | with_reducible assumption
    | (with_reducible apply Keeps.step (serveRequest_keeps ..); on_goal 1 => decide)
    | (with_reducible apply Keeps.step (discardRepeat_keeps ..); on_goal 1 => decide)
    | with_reducible apply Keeps.ite
    | (extract_lets +onlyGivenNames x; with_reducible apply Keeps.cut (x := by apply x) <;> [(unfold x; clear x); (clear_value x; intro _; revert x; intros)])
    | (extract_lets +onlyGivenNames x; clear_value x; revert x; intros)
    | fail_if_no_progress (with_reducible apply Keeps.upd_mirror <;> [skip; decide])
    | dsimp -zeta only)

theorem engineLine_keeps (r : RemReq) (dline status : Nat) (v : BitVec 512) (s : State) : Keeps 2315780365 s (engineLine r dline status v s) := by
  unfold engineLine
  repeat' (first
    | with_reducible exact Keeps.refl _
    | with_reducible assumption
    | (with_reducible apply Keeps.step (advanceHorizon_keeps ..); on_goal 1 => decide)
    | (with_reducible apply Keeps.step (enterOrder_keeps ..); on_goal 1 => decide)
    | (with_reducible apply Keeps.step (markPoison_keeps ..); on_goal 1 => decide)
    | (with_reducible apply Keeps.step (State.addObj_keeps ..); on_goal 1 => decide)
    | with_reducible apply Keeps.ite
    | with_reducible apply Keeps.ite_fst
    | (extract_lets +onlyGivenNames x; with_reducible apply Keeps.cut (x := by apply x) <;> [(unfold x; clear x); (clear_value x; intro _; revert x; intros)])
    | (extract_lets +onlyGivenNames x; with_reducible apply Keeps.cut (x := by apply x.1) <;> [(unfold x; clear x); (clear_value x; intro _; revert x; intros)])
    | (extract_lets +onlyGivenNames x; clear_value x; revert x; intros)
    | fail_if_no_progress (with_reducible apply Keeps.upd_repair <;> [skip; decide])
    | dsimp -zeta only)

theorem takeResponse_keeps (p : List Byte) (s : State) : Keeps 2315780365 s (takeResponse p s) := by
  unfold takeResponse
  repeat' (first
    | with_reducible exact Keeps.refl _
    | with_reducible assumption
    | (with_reducible apply Keeps.step (advanceHorizon_keeps ..); on_goal 1 => decide)
    | (with_reducible apply Keeps.step (fillOk_keeps ..); on_goal 1 => decide)
    | (with_reducible apply Keeps.step (fillError_keeps ..); on_goal 1 => decide)
    | (with_reducible apply Keeps.step (pullPageDone_keeps ..); on_goal 1 => decide)
    | (with_reducible apply Keeps.step (discardRepeat_keeps ..); on_goal 1 => decide)
    | (with_reducible apply Keeps.step (engineLine_keeps ..); on_goal 1 => decide)
    | (with_reducible apply Keeps.step (State.addObj_keeps ..); on_goal 1 => decide)
    | with_reducible apply Keeps.ite
    | with_reducible apply Keeps.ite_fst
    | (with_reducible apply Keeps.foldl <;> [skip; intro _ _ _])
    | (with_reducible apply Keeps.foldl_fst <;> [skip; intro _ _ _])
    | (extract_lets +onlyGivenNames x; with_reducible apply Keeps.cut (x := by apply x) <;> [(unfold x; clear x); (clear_value x; intro _; revert x; intros)])
    | (extract_lets +onlyGivenNames x; with_reducible apply Keeps.cut (x := by apply x.1) <;> [(unfold x; clear x); (clear_value x; intro _; revert x; intros)])
    | (extract_lets +onlyGivenNames x; unfold x; clear x)
    | split
    | fail_if_no_progress (with_reducible apply Keeps.upd_mirror <;> [skip; decide])
    | dsimp -zeta only)

theorem countLoop_keeps (port a b d : Nat) (s : State) : Keeps 8321499135 s (countLoop port a b d s) := by
  unfold countLoop
  repeat' (first
    | with_reducible exact Keeps.refl _
    | with_reducible assumption
    | (extract_lets +onlyGivenNames x; with_reducible apply Keeps.cut (x := by apply x) <;> [(unfold x; clear x); (clear_value x; intro _; revert x; intros)])
    | (extract_lets +onlyGivenNames x; with_reducible apply Keeps.cut (x := by apply x.1) <;> [(unfold x; clear x); (clear_value x; intro _; revert x; intros)])
    | (extract_lets +onlyGivenNames x; clear_value x; revert x; intros)
    | fail_if_no_progress (with_reducible apply Keeps.upd_blk <;> [skip; decide])
    | dsimp -zeta only)

theorem loopArrive_keeps (kind port : Nat) (bs : List Byte) (s : State) : Keeps 7784628223 s (loopArrive kind port bs s) := by
  unfold loopArrive
  repeat' (first
    | with_reducible exact Keeps.refl _
    | with_reducible assumption
    | (with_reducible apply Keeps.step (injectFired_keeps ..); on_goal 1 => decide)
    | (with_reducible apply Keeps.step (countLoop_keeps ..); on_goal 1 => decide)
    | (with_reducible apply Keeps.step (State.addObj_keeps ..); on_goal 1 => decide)
    | with_reducible apply Keeps.ite
    | dsimp -zeta only)

theorem loopSend_keeps (inside : Bool) (port n : Nat) (s : State) : Keeps 7776239615 s (loopSend inside port n s) := by
  unfold loopSend
  repeat' (first
    | with_reducible exact Keeps.refl _
    | with_reducible assumption
    | (with_reducible apply Keeps.step (countLoop_keeps ..); on_goal 1 => decide)
    | (with_reducible apply Keeps.step (loopArrive_keeps ..); on_goal 1 => decide)
    | with_reducible apply Keeps.ite
    | (extract_lets +onlyGivenNames x; with_reducible apply Keeps.cut (x := by apply x) <;> [(unfold x; clear x); (clear_value x; intro _; revert x; intros)])
    | (extract_lets +onlyGivenNames x; clear_value x; revert x; intros)
    | fail_if_no_progress (with_reducible apply Keeps.upd_mirror <;> [skip; decide])
    | dsimp -zeta only)

theorem runLoops_keeps (inside : Bool) (s : State) : Keeps 7776239615 s (runLoops inside s) := by
  unfold runLoops
  repeat' (first
    | with_reducible exact Keeps.refl _
    | with_reducible assumption
    | (with_reducible apply Keeps.step (loopSend_keeps ..); on_goal 1 => decide)
    | with_reducible apply Keeps.ite
    | (with_reducible apply Keeps.forN <;> [skip; intro _ _ _])
    | (extract_lets +onlyGivenNames x; with_reducible apply Keeps.cut (x := by apply x) <;> [(unfold x; clear x); (clear_value x; intro _; revert x; intros)])
    | (extract_lets +onlyGivenNames x; clear_value x; revert x; intros)
    | fail_if_no_progress (with_reducible apply Keeps.upd_blk <;> [skip; decide])
    | dsimp -zeta only)

theorem receiveFrame_keeps (kind port : Nat) (bs : List Byte) (s : State) : Keeps 2315780365 s (receiveFrame kind port bs s) := by
  unfold receiveFrame
  repeat' (first
    | with_reducible exact Keeps.refl _
    | with_reducible assumption
    | (with_reducible apply Keeps.step (injectFired_keeps ..); on_goal 1 => decide)
    | (with_reducible apply Keeps.step (portHeard_keeps ..); on_goal 1 => decide)
    | (with_reducible apply Keeps.step (takeData_keeps ..); on_goal 1 => decide)
    | (with_reducible apply Keeps.step (takeAck_keeps ..); on_goal 1 => decide)
    | (with_reducible apply Keeps.step (takeHello_keeps ..); on_goal 1 => decide)
    | (with_reducible apply Keeps.step (takeRequest_keeps ..); on_goal 1 => decide)
    | (with_reducible apply Keeps.step (takeResponse_keeps ..); on_goal 1 => decide)
    | (with_reducible apply Keeps.step (loopArrive_keeps ..); on_goal 1 => decide)
    | (with_reducible apply Keeps.step (State.addObj_keeps ..); on_goal 1 => decide)
    | with_reducible apply Keeps.ite
    | (extract_lets +onlyGivenNames x; with_reducible apply Keeps.cut (x := by apply x) <;> [(unfold x; clear x); (clear_value x; intro _; revert x; intros)])
    | (extract_lets +onlyGivenNames x; clear_value x; revert x; intros)
    | split
    | dsimp -zeta only)

theorem execData_keeps (port : Fin 16) (bytes : List (BitVec 8)) (s : State) {t : State} (h : execData port bytes s = .next t) : Keeps 2315780365 s t := by
  obtain rfl := Host.Outcome.next.inj h
  repeat' (first
    | with_reducible exact Keeps.refl _
    | with_reducible assumption
    | (with_reducible apply Keeps.step (receiveFrame_keeps ..); on_goal 1 => decide)
    | dsimp -zeta only)

theorem execAck_keeps (port : Fin 16) (bytes : List (BitVec 8)) (s : State) {t : State} (h : execAck port bytes s = .next t) : Keeps 2315780365 s t := by
  obtain rfl := Host.Outcome.next.inj h
  repeat' (first
    | with_reducible exact Keeps.refl _
    | with_reducible assumption
    | (with_reducible apply Keeps.step (receiveFrame_keeps ..); on_goal 1 => decide)
    | dsimp -zeta only)

theorem execRemoteRequest_keeps (port : Fin 16) (bytes : List (BitVec 8)) (s : State) {t : State} (h : execRemoteRequest port bytes s = .next t) : Keeps 2315780365 s t := by
  obtain rfl := Host.Outcome.next.inj h
  repeat' (first
    | with_reducible exact Keeps.refl _
    | with_reducible assumption
    | (with_reducible apply Keeps.step (receiveFrame_keeps ..); on_goal 1 => decide)
    | dsimp -zeta only)

theorem execRemoteResponse_keeps (port : Fin 16) (bytes : List (BitVec 8)) (s : State) {t : State} (h : execRemoteResponse port bytes s = .next t) : Keeps 2315780365 s t := by
  obtain rfl := Host.Outcome.next.inj h
  repeat' (first
    | with_reducible exact Keeps.refl _
    | with_reducible assumption
    | (with_reducible apply Keeps.step (receiveFrame_keeps ..); on_goal 1 => decide)
    | dsimp -zeta only)

theorem execHello_keeps (port : Fin 16) (bytes : List (BitVec 8)) (s : State) {t : State} (h : execHello port bytes s = .next t) : Keeps 2315780365 s t := by
  obtain rfl := Host.Outcome.next.inj h
  repeat' (first
    | with_reducible exact Keeps.refl _
    | with_reducible assumption
    | (with_reducible apply Keeps.step (receiveFrame_keeps ..); on_goal 1 => decide)
    | dsimp -zeta only)

theorem execReservedKindFrame_keeps (port : Fin 16) (bytes : List (BitVec 8)) (s : State) {t : State} (h : execReservedKindFrame port bytes s = .next t) : Keeps 2315780365 s t := by
  obtain rfl := Host.Outcome.next.inj h
  repeat' (first
    | with_reducible exact Keeps.refl _
    | with_reducible assumption
    | (with_reducible apply Keeps.step (receiveFrame_keeps ..); on_goal 1 => decide)
    | dsimp -zeta only)

theorem frameTimeout_keeps (k : Nat) (s : State) : Keeps 8044675071 s (frameTimeout k s) := by
  unfold frameTimeout
  repeat' (first
    | with_reducible exact Keeps.refl _
    | with_reducible assumption
    | (with_reducible apply Keeps.step (closeFrame_keeps ..); on_goal 1 => decide)
    | with_reducible apply Keeps.ite
    | dsimp -zeta only)

theorem execFrameCloseTimeout_keeps (stream : Fin 16) (s : State) {t : State} (h : execFrameCloseTimeout stream s = .next t) : Keeps 8044675071 s t := by
  obtain rfl := Host.Outcome.next.inj h
  repeat' (first
    | with_reducible exact Keeps.refl _
    | with_reducible assumption
    | (with_reducible apply Keeps.step (frameTimeout_keeps ..); on_goal 1 => decide)
    | dsimp -zeta only)

theorem heartbeatFrame_keeps (k : Nat) (s : State) : Keeps 8044675071 s (heartbeatFrame k s) := by
  unfold heartbeatFrame
  repeat' (first
    | with_reducible exact Keeps.refl _
    | with_reducible assumption
    | (with_reducible apply Keeps.step (closeFrame_keeps ..); on_goal 1 => decide)
    | with_reducible apply Keeps.ite
    | split
    | dsimp -zeta only)

theorem execHeartbeat_keeps (stream : Fin 16) (s : State) {t : State} (h : execHeartbeat stream s = .next t) : Keeps 8044675071 s t := by
  obtain rfl := Host.Outcome.next.inj h
  repeat' (first
    | with_reducible exact Keeps.refl _
    | with_reducible assumption
    | (with_reducible apply Keeps.step (heartbeatFrame_keeps ..); on_goal 1 => decide)
    | dsimp -zeta only)

theorem replayAll_keeps (s : State) : Keeps 3680501759 s (replayAll s) := by
  unfold replayAll
  repeat' (first
    | with_reducible exact Keeps.refl _
    | with_reducible assumption
    | (with_reducible apply Keeps.step (sendData_keeps ..); on_goal 1 => decide)
    | (with_reducible apply Keeps.step (noteResent_keeps ..); on_goal 1 => decide)
    | (with_reducible apply Keeps.step (State.addObj_keeps ..); on_goal 1 => decide)
    | (with_reducible apply Keeps.step (State.raise_keeps ..); on_goal 1 => decide)
    | with_reducible apply Keeps.ite
    | with_reducible apply Keeps.ite_fst
    | (with_reducible apply Keeps.foldl <;> [skip; intro _ _ _])
    | (with_reducible apply Keeps.foldl_fst <;> [skip; intro _ _ _])
    | (extract_lets +onlyGivenNames x; with_reducible apply Keeps.cut (x := by apply x) <;> [(unfold x; clear x); (clear_value x; intro _; revert x; intros)])
    | (extract_lets +onlyGivenNames x; with_reducible apply Keeps.cut (x := by apply x.1) <;> [(unfold x; clear x); (clear_value x; intro _; revert x; intros)])
    | (extract_lets +onlyGivenNames x; clear_value x; revert x; intros)
    | split
    | dsimp -zeta only)

theorem execReplayTimeout_keeps (s : State) {t : State} (h : execReplayTimeout s = .next t) : Keeps 3680501759 s t := by
  obtain rfl := Host.Outcome.next.inj h
  repeat' (first
    | with_reducible exact Keeps.refl _
    | with_reducible assumption
    | (with_reducible apply Keeps.step (replayAll_keeps ..); on_goal 1 => decide)
    | dsimp -zeta only)

theorem breakTimeout_keeps (d : Nat) (s : State) : Keeps 3659266397 s (breakTimeout d s) := by
  unfold breakTimeout
  repeat' (first
    | with_reducible exact Keeps.refl _
    | with_reducible assumption
    | (with_reducible apply Keeps.step (breakMirror_keeps ..); on_goal 1 => decide)
    | with_reducible apply Keeps.ite
    | dsimp -zeta only)

theorem execBreakTimeout_keeps (d : Fin 4) (s : State) {t : State} (h : execBreakTimeout d s = .next t) : Keeps 3659266397 s t := by
  obtain rfl := Host.Outcome.next.inj h
  repeat' (first
    | with_reducible exact Keeps.refl _
    | with_reducible assumption
    | (with_reducible apply Keeps.step (breakTimeout_keeps ..); on_goal 1 => decide)
    | dsimp -zeta only)

theorem nakStream_keeps (k : Nat) (s : State) : Keeps 8044675071 s (nakStream k s) := by
  unfold nakStream
  repeat' (first
    | with_reducible exact Keeps.refl _
    | with_reducible assumption
    | (with_reducible apply Keeps.step (sendAck_keeps ..); on_goal 1 => decide)
    | split
    | dsimp -zeta only)

theorem execNakDelay_keeps (stream : Fin 16) (s : State) {t : State} (h : execNakDelay stream s = .next t) : Keeps 8044675071 s t := by
  obtain rfl := Host.Outcome.next.inj h
  repeat' (first
    | with_reducible exact Keeps.refl _
    | with_reducible assumption
    | (with_reducible apply Keeps.step (nakStream_keeps ..); on_goal 1 => decide)
    | dsimp -zeta only)

theorem ackDue_keeps (s : State) : Keeps 8044675071 s (ackDue s) := by
  unfold ackDue
  repeat' (first
    | with_reducible exact Keeps.refl _
    | with_reducible assumption
    | (with_reducible apply Keeps.step (sendAck_keeps ..); on_goal 1 => decide)
    | with_reducible apply Keeps.ite
    | dsimp -zeta only)

theorem execAckInterval_keeps (s : State) {t : State} (h : execAckInterval s = .next t) : Keeps 8044675071 s t := by
  obtain rfl := Host.Outcome.next.inj h
  repeat' (first
    | with_reducible exact Keeps.refl _
    | with_reducible assumption
    | (with_reducible apply Keeps.step (ackDue_keeps ..); on_goal 1 => decide)
    | dsimp -zeta only)

theorem execHelloInterval_keeps (s : State) {t : State} (h : execHelloInterval s = .next t) : Keeps 8044675071 s t := by
  obtain rfl := Host.Outcome.next.inj h
  repeat' (first
    | with_reducible exact Keeps.refl _
    | with_reducible assumption
    | (with_reducible apply Keeps.step (sendHello_keeps ..); on_goal 1 => decide)
    | (with_reducible apply Keeps.step (sendAck_keeps ..); on_goal 1 => decide)
    | dsimp -zeta only)

theorem resend_keeps (seq : Nat) (s : State) : Keeps 8044675071 s (resend seq s) := by
  unfold resend
  repeat' (first
    | with_reducible exact Keeps.refl _
    | with_reducible assumption
    | (with_reducible apply Keeps.step (sendPaths_keeps ..); on_goal 1 => decide)
    | with_reducible apply Keeps.ite
    | (extract_lets +onlyGivenNames x; with_reducible apply Keeps.cut (x := by apply x) <;> [(unfold x; clear x); (clear_value x; intro _; revert x; intros)])
    | (extract_lets +onlyGivenNames x; clear_value x; revert x; intros)
    | split
    | dsimp -zeta only)

theorem execRemoteRequestResend_keeps (seq : Nat) (s : State) {t : State} (h : execRemoteRequestResend seq s = .next t) : Keeps 8044675071 s t := by
  obtain rfl := Host.Outcome.next.inj h
  repeat' (first
    | with_reducible exact Keeps.refl _
    | with_reducible assumption
    | (with_reducible apply Keeps.step (resend_keeps ..); on_goal 1 => decide)
    | dsimp -zeta only)

theorem serveExpiry_keeps (seq : Nat) (s : State) : Keeps 8581545967 s (serveExpiry seq s) := by
  unfold serveExpiry
  repeat' (first
    | with_reducible exact Keeps.refl _
    | with_reducible assumption
    | (with_reducible apply Keeps.step (endServe_keeps ..); on_goal 1 => decide)
    | with_reducible apply Keeps.ite
    | split
    | dsimp -zeta only)

theorem execRemoteServiceExpiry_keeps (seq : Nat) (s : State) {t : State} (h : execRemoteServiceExpiry seq s = .next t) : Keeps 8581545967 s t := by
  obtain rfl := Host.Outcome.next.inj h
  repeat' (first
    | with_reducible exact Keeps.refl _
    | with_reducible assumption
    | (with_reducible apply Keeps.step (serveExpiry_keeps ..); on_goal 1 => decide)
    | dsimp -zeta only)

theorem answerTimeout_keeps (seq : Nat) (s : State) : Keeps 3663722845 s (answerTimeout seq s) := by
  unfold answerTimeout
  repeat' (first
    | with_reducible exact Keeps.refl _
    | with_reducible assumption
    | (with_reducible apply Keeps.step (fillError_keeps ..); on_goal 1 => decide)
    | with_reducible apply Keeps.ite
    | (extract_lets +onlyGivenNames x; with_reducible apply Keeps.cut (x := by apply x) <;> [(unfold x; clear x); (clear_value x; intro _; revert x; intros)])
    | (extract_lets +onlyGivenNames x; clear_value x; revert x; intros)
    | split
    | fail_if_no_progress (with_reducible apply Keeps.upd_mirror <;> [skip; decide])
    | dsimp -zeta only)

theorem execRemoteAnswerTimeout_keeps (seq : Nat) (s : State) {t : State} (h : execRemoteAnswerTimeout seq s = .next t) : Keeps 3663722845 s t := by
  obtain rfl := Host.Outcome.next.inj h
  repeat' (first
    | with_reducible exact Keeps.refl _
    | with_reducible assumption
    | (with_reducible apply Keeps.step (answerTimeout_keeps ..); on_goal 1 => decide)
    | dsimp -zeta only)

theorem pairingTimeout_keeps (d : Nat) (s : State) : Keeps 3688628223 s (pairingTimeout d s) := by
  unfold pairingTimeout
  repeat' (first
    | with_reducible exact Keeps.refl _
    | with_reducible assumption
    | (with_reducible apply Keeps.step (enterConflict_keeps ..); on_goal 1 => decide)
    | with_reducible apply Keeps.ite
    | dsimp -zeta only)

theorem execPairingTimeout_keeps (d : Fin 4) (s : State) {t : State} (h : execPairingTimeout d s = .next t) : Keeps 3688628223 s t := by
  obtain rfl := Host.Outcome.next.inj h
  repeat' (first
    | with_reducible exact Keeps.refl _
    | with_reducible assumption
    | (with_reducible apply Keeps.step (pairingTimeout_keeps ..); on_goal 1 => decide)
    | dsimp -zeta only)

theorem twinSilent_keeps (d : Nat) (s : State) : Keeps 2315780365 s (twinSilent d s) := by
  unfold twinSilent
  repeat' (first
    | with_reducible exact Keeps.refl _
    | with_reducible assumption
    | (with_reducible apply Keeps.step (promoteDistrict_keeps ..); on_goal 1 => decide)
    | (with_reducible apply Keeps.step (State.raise_keeps ..); on_goal 1 => decide)
    | with_reducible apply Keeps.ite
    | dsimp -zeta only)

theorem execTwinSilent_keeps (d : Fin 4) (s : State) {t : State} (h : execTwinSilent d s = .next t) : Keeps 2315780365 s t := by
  obtain rfl := Host.Outcome.next.inj h
  repeat' (first
    | with_reducible exact Keeps.refl _
    | with_reducible assumption
    | (with_reducible apply Keeps.step (twinSilent_keeps ..); on_goal 1 => decide)
    | dsimp -zeta only)

theorem serveWaiting_keeps (d : Nat) (s : State) : Keeps 8044674031 s (serveWaiting d s) := by
  unfold serveWaiting
  repeat' (first
    | with_reducible exact Keeps.refl _
    | with_reducible assumption
    | (with_reducible apply Keeps.step (sendAnswer_keeps ..); on_goal 1 => decide)
    | (with_reducible apply Keeps.step (serveStart_keeps ..); on_goal 1 => decide)
    | with_reducible apply Keeps.ite
    | with_reducible apply Keeps.ite_fst
    | (with_reducible apply Keeps.foldl <;> [skip; intro _ _ _])
    | (with_reducible apply Keeps.foldl_fst <;> [skip; intro _ _ _])
    | dsimp -zeta only)

theorem execApplyHorizonAdvance_keeps (d : Fin 4) (s : State) {t : State} (h : execApplyHorizonAdvance d s = .next t) : Keeps 2315780365 s t := by
  obtain rfl := Host.Outcome.next.inj h
  repeat' (first
    | with_reducible exact Keeps.refl _
    | with_reducible assumption
    | (with_reducible apply Keeps.step (applyHorizon_keeps ..); on_goal 1 => decide)
    | (with_reducible apply Keeps.step (serveWaiting_keeps ..); on_goal 1 => decide)
    | dsimp -zeta only)

theorem execDemoteComplete_keeps (d : Fin 4) (s : State) {t : State} (h : execDemoteComplete d s = .next t) : Keeps 3680239615 s t := by
  obtain rfl := Host.Outcome.next.inj h
  repeat' (first
    | with_reducible exact Keeps.refl _
    | with_reducible assumption
    | (with_reducible apply Keeps.step (finishDemote_keeps ..); on_goal 1 => decide)
    | dsimp -zeta only)

theorem mirrorCommand_keeps (d v : Nat) (s : State) : Keeps 2315780365 s (mirrorCommand d v s).1 := by
  unfold mirrorCommand
  repeat' (first
    | with_reducible exact Keeps.refl _
    | with_reducible assumption
    | (with_reducible apply Keeps.step (breakMirror_keeps ..); on_goal 1 => decide)
    | (with_reducible apply Keeps.step (enterResync_keeps ..); on_goal 1 => decide)
    | (with_reducible apply Keeps.step (promoteDistrict_keeps ..); on_goal 1 => decide)
    | (with_reducible apply Keeps.step (finishDemote_keeps ..); on_goal 1 => decide)
    | (with_reducible apply Keeps.step (State.setObj_keeps ..); on_goal 1 => decide)
    | (with_reducible apply Keeps.step (State.modDist_keeps ..); on_goal 1 => decide)
    | with_reducible apply Keeps.ite
    | with_reducible apply Keeps.ite_fst
    | (extract_lets +onlyGivenNames x; with_reducible apply Keeps.cut (x := by apply x) <;> [(unfold x; clear x); (clear_value x; intro _; revert x; intros)])
    | (extract_lets +onlyGivenNames x; with_reducible apply Keeps.cut (x := by apply x.1) <;> [(unfold x; clear x); (clear_value x; intro _; revert x; intros)])
    | (extract_lets +onlyGivenNames x; clear_value x; revert x; intros)
    | split
    | dsimp -zeta only)

end Sys2Proof.Machine
end

