-- ==== Sys2Proof/Laws/KeepsFormation.lean ====
section
/-! SUPPORT. What each function of Machine/Formation.lean can do (see Laws/Keeps.lean). -/

set_option linter.tactic.unusedName false
set_option linter.unusedTactic false
set_option linter.unreachableTactic false

namespace Sys2Proof.Machine

theorem forgetDistrict_keeps (d : Nat) (s : State) : Keeps 8046524367 s (forgetDistrict d s) := by
  unfold forgetDistrict
  repeat' (first
    | with_reducible exact Keeps.refl _
    | with_reducible assumption
    | (with_reducible apply Keeps.step (storeRepair_keeps ..); on_goal 1 => decide)
    | (with_reducible apply Keeps.step (unsealDistrict_keeps ..); on_goal 1 => decide)
    | (with_reducible apply Keeps.step (State.modChan_keeps ..); on_goal 1 => decide)
    | (with_reducible apply Keeps.step (State.setRepair_keeps ..); on_goal 1 => decide)
    | with_reducible apply Keeps.ite
    | with_reducible apply Keeps.ite_fst
    | (with_reducible apply Keeps.foldl <;> [skip; intro _ _ _])
    | (with_reducible apply Keeps.foldl_fst <;> [skip; intro _ _ _])
    | (with_reducible apply Keeps.forN_fst <;> [skip; intro _ _ _])
    | (with_reducible apply Keeps.forN <;> [skip; intro _ _ _])
    | (extract_lets +onlyGivenNames x; with_reducible apply Keeps.cut (x := by apply x) <;> [(unfold x; clear x); (clear_value x; intro _; revert x; intros)])
    | (extract_lets +onlyGivenNames x; with_reducible apply Keeps.cut (x := by apply x.1) <;> [(unfold x; clear x); (clear_value x; intro _; revert x; intros)])
    | (extract_lets +onlyGivenNames x; unfold x; clear x)
    | fail_if_no_progress (with_reducible apply Keeps.upd_plaza_ledger_pinned_dram <;> [skip; decide])
    | dsimp -zeta only)

theorem unformDistrict_keeps (d : Nat) (s : State) : Keeps 8046262223 s (unformDistrict d s) := by
  unfold unformDistrict
  repeat' (first
    | with_reducible exact Keeps.refl _
    | with_reducible assumption
    | (with_reducible apply Keeps.step (publishCarve_keeps ..); on_goal 1 => decide)
    | (with_reducible apply Keeps.step (writeDescState_keeps ..); on_goal 1 => decide)
    | (with_reducible apply Keeps.step (forgetDistrict_keeps ..); on_goal 1 => decide)
    | (with_reducible apply Keeps.step (State.setObj_keeps ..); on_goal 1 => decide)
    | (with_reducible apply Keeps.step (State.setDist_keeps ..); on_goal 1 => decide)
    | (extract_lets +onlyGivenNames x; with_reducible apply Keeps.cut (x := by apply x) <;> [(unfold x; clear x); (clear_value x; intro _; revert x; intros)])
    | (extract_lets +onlyGivenNames x; clear_value x; revert x; intros)
    | dsimp -zeta only)

theorem clearBlank_keeps (cs : List Nat) (s : State) : Keeps 8556380159 s (clearBlank cs s) := by
  unfold clearBlank
  repeat' (first
    | with_reducible exact Keeps.refl _
    | with_reducible assumption
    | (with_reducible apply Keeps.step (State.modBay_keeps ..); on_goal 1 => decide)
    | (with_reducible apply Keeps.foldl <;> [skip; intro _ _ _])
    | (with_reducible apply Keeps.foldl_fst <;> [skip; intro _ _ _])
    | (with_reducible apply Keeps.forN_fst <;> [skip; intro _ _ _])
    | (with_reducible apply Keeps.forN <;> [skip; intro _ _ _])
    | dsimp -zeta only)

theorem formatDone_keeps (d : Nat) (s : State) : Keeps 8017149951 s (formatDone d s) := by
  unfold formatDone
  repeat' (first
    | with_reducible exact Keeps.refl _
    | with_reducible assumption
    | (with_reducible apply Keeps.step (refreshDistrict_keeps ..); on_goal 1 => decide)
    | (with_reducible apply Keeps.step (commitFormation_keeps ..); on_goal 1 => decide)
    | (with_reducible apply Keeps.step (writeDescState_keeps ..); on_goal 1 => decide)
    | (with_reducible apply Keeps.step (clearBlank_keeps ..); on_goal 1 => decide)
    | (with_reducible apply Keeps.step (State.setObj_keeps ..); on_goal 1 => decide)
    | (with_reducible apply Keeps.step (State.modDist_keeps ..); on_goal 1 => decide)
    | with_reducible apply Keeps.ite
    | (extract_lets +onlyGivenNames x; with_reducible apply Keeps.cut (x := by apply x) <;> [(unfold x; clear x); (clear_value x; intro _; revert x; intros)])
    | (extract_lets +onlyGivenNames x; clear_value x; revert x; intros)
    | dsimp -zeta only)

theorem execFormatComplete_keeps (d : Fin 4) (s : State) {t : State} (h : execFormatComplete d s = .next t) : Keeps 8017149951 s t := by
  obtain rfl := Host.Outcome.next.inj h
  repeat' (first
    | with_reducible exact Keeps.refl _
    | with_reducible assumption
    | (with_reducible apply Keeps.step (formatDone_keeps ..); on_goal 1 => decide)
    | dsimp -zeta only)

theorem formDistrict_keeps (d : Nat) (x : Desc) (s : State) : Keeps 8011659215 s (formDistrict d x s) := by
  unfold formDistrict
  repeat' (first
    | with_reducible exact Keeps.refl _
    | with_reducible assumption
    | (with_reducible apply Keeps.step (publishCarve_keeps ..); on_goal 1 => decide)
    | (with_reducible apply Keeps.step (writeVault_keeps ..); on_goal 1 => decide)
    | (with_reducible apply Keeps.step (publishVault_keeps ..); on_goal 1 => decide)
    | (with_reducible apply Keeps.step (writeDesc_keeps ..); on_goal 1 => decide)
    | (with_reducible apply Keeps.step (writeDescState_keeps ..); on_goal 1 => decide)
    | (with_reducible apply Keeps.step (forgetDistrict_keeps ..); on_goal 1 => decide)
    | (with_reducible apply Keeps.step (clearBlank_keeps ..); on_goal 1 => decide)
    | (with_reducible apply Keeps.step (formatDone_keeps ..); on_goal 1 => decide)
    | (with_reducible apply Keeps.step (State.setObj_keeps ..); on_goal 1 => decide)
    | (with_reducible apply Keeps.step (State.modChan_keeps ..); on_goal 1 => decide)
    | (with_reducible apply Keeps.step (State.setDist_keeps ..); on_goal 1 => decide)
    | with_reducible apply Keeps.ite
    | with_reducible apply Keeps.ite_fst
    | (with_reducible apply Keeps.foldl <;> [skip; intro _ _ _])
    | (with_reducible apply Keeps.foldl_fst <;> [skip; intro _ _ _])
    | (extract_lets +onlyGivenNames x; with_reducible apply Keeps.cut (x := by apply x) <;> [(unfold x; clear x); (clear_value x; intro _; revert x; intros)])
    | (extract_lets +onlyGivenNames x; with_reducible apply Keeps.cut (x := by apply x.1) <;> [(unfold x; clear x); (clear_value x; intro _; revert x; intros)])
    | (extract_lets +onlyGivenNames x; clear_value x; revert x; intros)
    | fail_if_no_progress (with_reducible apply Keeps.upd_vault <;> [skip; decide])
    | dsimp -zeta only)

theorem applyDistrict_keeps (s0 : State) (d : Nat) (s : State) : Keeps 8011659215 s (applyDistrict s0 d s) := by
  unfold applyDistrict
  repeat' (first
    | with_reducible exact Keeps.refl _
    | with_reducible assumption
    | (with_reducible apply Keeps.step (writeDesc_keeps ..); on_goal 1 => decide)
    | (with_reducible apply Keeps.step (unformDistrict_keeps ..); on_goal 1 => decide)
    | (with_reducible apply Keeps.step (formDistrict_keeps ..); on_goal 1 => decide)
    | (with_reducible apply Keeps.step (State.modDist_keeps ..); on_goal 1 => decide)
    | with_reducible apply Keeps.ite
    | (extract_lets +onlyGivenNames x; with_reducible apply Keeps.cut (x := by apply x) <;> [(unfold x; clear x); (clear_value x; intro _; revert x; intros)])
    | (extract_lets +onlyGivenNames x; clear_value x; revert x; intros)
    | dsimp -zeta only)

end Sys2Proof.Machine
end

