-- ==== Sys2Proof/Laws/KeepsThaw.lean ====
section
/-! SUPPORT. What each function of Machine/Thaw.lean can do (see Laws/Keeps.lean). -/

set_option linter.tactic.unusedName false
set_option linter.unusedTactic false
set_option linter.unreachableTactic false

namespace Sys2Proof.Machine

theorem bayFault_keeps (b cause : Nat) (s : State) : Keeps 8019509247 s (bayFault b cause s) := by
  unfold bayFault
  repeat' (first
    | with_reducible exact Keeps.refl _
    | with_reducible assumption
    | (with_reducible apply Keeps.step (State.setObj_keeps ..); on_goal 1 => decide)
    | (with_reducible apply Keeps.step (State.modBay_keeps ..); on_goal 1 => decide)
    | dsimp -zeta only)

theorem setNeeds_keeps (b : Nat) (v : Bool) (s : State) : Keeps 8050966527 s (setNeeds b v s) := by
  unfold setNeeds
  repeat' (first
    | with_reducible exact Keeps.refl _
    | with_reducible assumption
    | (with_reducible apply Keeps.step (State.setObj_keeps ..); on_goal 1 => decide)
    | with_reducible apply Keeps.ite
    | (extract_lets +onlyGivenNames x; with_reducible apply Keeps.cut (x := by apply x) <;> [(unfold x; clear x); (clear_value x; intro _; revert x; intros)])
    | (extract_lets +onlyGivenNames x; clear_value x; revert x; intros)
    | fail_if_no_progress (with_reducible apply Keeps.upd_mram <;> [skip; decide; (intros; repeat' (first | with_reducible assumption | with_reducible exact Memory.wf_nil | with_reducible apply Memory.wf_sbN | with_reducible apply Memory.wf_sbNat | with_reducible apply Memory.wf_sb | with_reducible apply Memory.wf_filter | with_reducible apply Memory.wf_writeWords | with_reducible apply Memory.wf_foldl_sb | with_reducible exact Keeps.mramOk (by assumption) (by assumption) | split | dsimp only))])
    | dsimp -zeta only)

theorem returnLine_keeps (c : Nat) (key : Nat) (s : State) : Keeps 8589934559 s (returnLine c key s) := by
  unfold returnLine
  repeat' (first
    | with_reducible exact Keeps.refl _
    | with_reducible assumption
    | (extract_lets +onlyGivenNames x; with_reducible apply Keeps.cut (x := by apply x) <;> [(unfold x; clear x); (clear_value x; intro _; revert x; intros)])
    | (extract_lets +onlyGivenNames x; clear_value x; revert x; intros)
    | split
    | fail_if_no_progress (with_reducible apply Keeps.upd_plaza <;> [skip; decide])
    | dsimp -zeta only)

theorem returnLent_keeps (c : Nat) (s : State) : Keeps 8589934559 s (returnLent c s) := by
  unfold returnLent
  repeat' (first
    | with_reducible exact Keeps.refl _
    | with_reducible assumption
    | (with_reducible apply Keeps.step (returnLine_keeps ..); on_goal 1 => decide)
    | with_reducible apply Keeps.ite
    | with_reducible apply Keeps.ite_fst
    | (with_reducible apply Keeps.foldl <;> [skip; intro _ _ _])
    | (with_reducible apply Keeps.foldl_fst <;> [skip; intro _ _ _])
    | dsimp -zeta only)

theorem resumeChannel_keeps (c : Nat) (s : State) : Keeps 6979059663 s (resumeChannel c s) := by
  unfold resumeChannel
  repeat' (first
    | with_reducible exact Keeps.refl _
    | with_reducible assumption
    | (with_reducible apply Keeps.step (setChanState_keeps ..); on_goal 1 => decide)
    | (with_reducible apply Keeps.step (unpinLines_keeps ..); on_goal 1 => decide)
    | (with_reducible apply Keeps.step (stopHelper_keeps ..); on_goal 1 => decide)
    | (with_reducible apply Keeps.step (returnLent_keeps ..); on_goal 1 => decide)
    | (with_reducible apply Keeps.step (State.modChan_keeps ..); on_goal 1 => decide)
    | with_reducible apply Keeps.ite
    | (extract_lets +onlyGivenNames x; with_reducible apply Keeps.cut (x := by apply x) <;> [(unfold x; clear x); (clear_value x; intro _; revert x; intros)])
    | (extract_lets +onlyGivenNames x; clear_value x; revert x; intros)
    | dsimp -zeta only)

theorem thawChannel_keeps (c : Nat) (s : State) : Keeps 2614886351 s (thawChannel c s) := by
  unfold thawChannel
  repeat' (first
    | with_reducible exact Keeps.refl _
    | with_reducible assumption
    | (with_reducible apply Keeps.step (resumeChannel_keeps ..); on_goal 1 => decide)
    | (with_reducible apply Keeps.step (State.setObj_keeps ..); on_goal 1 => decide)
    | (with_reducible apply Keeps.step (State.raiseChan_keeps ..); on_goal 1 => decide)
    | dsimp -zeta only)

theorem resumeDue_keeps (c : Nat) (s : State) : Keeps 2614886351 s (resumeDue c s) := by
  unfold resumeDue
  repeat' (first
    | with_reducible exact Keeps.refl _
    | with_reducible assumption
    | (with_reducible apply Keeps.step (thawChannel_keeps ..); on_goal 1 => decide)
    | (with_reducible apply Keeps.step (State.setObj_keeps ..); on_goal 1 => decide)
    | with_reducible apply Keeps.ite
    | (extract_lets +onlyGivenNames x; with_reducible apply Keeps.cut (x := by apply x) <;> [(unfold x; clear x); (clear_value x; intro _; revert x; intros)])
    | (extract_lets +onlyGivenNames x; clear_value x; revert x; intros)
    | dsimp -zeta only)

theorem startTraining_keeps (c : Nat) (frozen quick : Bool) (s : State) : Keeps 6979059695 s (startTraining c frozen quick s) := by
  unfold startTraining
  repeat' (first
    | with_reducible exact Keeps.refl _
    | with_reducible assumption
    | (with_reducible apply Keeps.step (setChanState_keeps ..); on_goal 1 => decide)
    | (with_reducible apply Keeps.step (exitNow_keeps ..); on_goal 1 => decide)
    | (with_reducible apply Keeps.step (stopHelper_keeps ..); on_goal 1 => decide)
    | (with_reducible apply Keeps.step (State.setObj_keeps ..); on_goal 1 => decide)
    | (with_reducible apply Keeps.step (State.modChan_keeps ..); on_goal 1 => decide)
    | with_reducible apply Keeps.ite
    | (extract_lets +onlyGivenNames x; with_reducible apply Keeps.cut (x := by apply x) <;> [(unfold x; clear x); (clear_value x; intro _; revert x; intros)])
    | (extract_lets +onlyGivenNames x; clear_value x; revert x; intros)
    | dsimp -zeta only)

theorem retireRank_keeps (c r : Nat) (s : State) : Keeps 2282225933 s (retireRank c r s) := by
  unfold retireRank
  repeat' (first
    | with_reducible exact Keeps.refl _
    | with_reducible assumption
    | (with_reducible apply Keeps.step (setChanState_keeps ..); on_goal 1 => decide)
    | (with_reducible apply Keeps.step (writeDesc_keeps ..); on_goal 1 => decide)
    | (with_reducible apply Keeps.step (serveHeld_keeps ..); on_goal 1 => decide)
    | (with_reducible apply Keeps.step (stopHelper_keeps ..); on_goal 1 => decide)
    | (with_reducible apply Keeps.step (bayFault_keeps ..); on_goal 1 => decide)
    | (with_reducible apply Keeps.step (State.setObj_keeps ..); on_goal 1 => decide)
    | (with_reducible apply Keeps.step (State.modDist_keeps ..); on_goal 1 => decide)
    | (extract_lets +onlyGivenNames x; with_reducible apply Keeps.cut (x := by apply x) <;> [(unfold x; clear x); (clear_value x; intro _; revert x; intros)])
    | (extract_lets +onlyGivenNames x; clear_value x; revert x; intros)
    | split
    | dsimp -zeta only)

theorem thawAction_keeps (c v : Nat) (s : State) : Keeps 2282225933 s (thawAction c v s).1 := by
  unfold thawAction
  repeat' (first
    | with_reducible exact Keeps.refl _
    | with_reducible assumption
    | (with_reducible apply Keeps.step (startTraining_keeps ..); on_goal 1 => decide)
    | (with_reducible apply Keeps.step (retireRank_keeps ..); on_goal 1 => decide)
    | (with_reducible apply Keeps.step (State.setObj_keeps ..); on_goal 1 => decide)
    | with_reducible apply Keeps.ite
    | with_reducible apply Keeps.ite_fst
    | (extract_lets +onlyGivenNames x; with_reducible apply Keeps.cut (x := by apply x) <;> [(unfold x; clear x); (clear_value x; intro _; revert x; intros)])
    | (extract_lets +onlyGivenNames x; with_reducible apply Keeps.cut (x := by apply x.1) <;> [(unfold x; clear x); (clear_value x; intro _; revert x; intros)])
    | (extract_lets +onlyGivenNames x; clear_value x; revert x; intros)
    | dsimp -zeta only)

theorem freezeRequest_keeps (c v : Nat) (s : State) : Keeps 2315780365 s (freezeRequest c v s).1 := by
  unfold freezeRequest
  repeat' (first
    | with_reducible exact Keeps.refl _
    | with_reducible assumption
    | (with_reducible apply Keeps.step (freezeChannel_keeps ..); on_goal 1 => decide)
    | (with_reducible apply Keeps.step (serveHeld_keeps ..); on_goal 1 => decide)
    | with_reducible apply Keeps.ite
    | with_reducible apply Keeps.ite_fst
    | dsimp -zeta only)

theorem fenceSettle_keeps (c : Nat) (s : State) : Keeps 6979321839 s (fenceSettle c s) := by
  unfold fenceSettle
  repeat' (first
    | with_reducible exact Keeps.refl _
    | with_reducible assumption
    | (with_reducible apply Keeps.step (enterPower_keeps ..); on_goal 1 => decide)
    | with_reducible apply Keeps.ite
    | (extract_lets +onlyGivenNames x; with_reducible apply Keeps.cut (x := by apply x) <;> [(unfold x; clear x); (clear_value x; intro _; revert x; intros)])
    | (extract_lets +onlyGivenNames x; clear_value x; revert x; intros)
    | dsimp -zeta only)

theorem fenceChannel_keeps (c : Nat) (s : State) : Keeps 2315780365 s (fenceChannel c s) := by
  unfold fenceChannel
  repeat' (first
    | with_reducible exact Keeps.refl _
    | with_reducible assumption
    | (with_reducible apply Keeps.step (setChanState_keeps ..); on_goal 1 => decide)
    | (with_reducible apply Keeps.step (abortBursts_keeps ..); on_goal 1 => decide)
    | (with_reducible apply Keeps.step (pinLines_keeps ..); on_goal 1 => decide)
    | (with_reducible apply Keeps.step (serveHeld_keeps ..); on_goal 1 => decide)
    | (with_reducible apply Keeps.step (stopHelper_keeps ..); on_goal 1 => decide)
    | (with_reducible apply Keeps.step (fenceSettle_keeps ..); on_goal 1 => decide)
    | (with_reducible apply Keeps.step (State.modChan_keeps ..); on_goal 1 => decide)
    | with_reducible apply Keeps.ite
    | (extract_lets +onlyGivenNames x; with_reducible apply Keeps.cut (x := by apply x) <;> [(unfold x; clear x); (clear_value x; intro _; revert x; intros)])
    | (extract_lets +onlyGivenNames x; clear_value x; revert x; intros)
    | dsimp -zeta only)

theorem absentChannel_keeps (c : Nat) (s : State) : Keeps 2315780365 s (absentChannel c s) := by
  unfold absentChannel
  repeat' (first
    | with_reducible exact Keeps.refl _
    | with_reducible assumption
    | (with_reducible apply Keeps.step (setChanState_keeps ..); on_goal 1 => decide)
    | (with_reducible apply Keeps.step (abortBursts_keeps ..); on_goal 1 => decide)
    | (with_reducible apply Keeps.step (pinLines_keeps ..); on_goal 1 => decide)
    | (with_reducible apply Keeps.step (serveHeld_keeps ..); on_goal 1 => decide)
    | (with_reducible apply Keeps.step (stopHelper_keeps ..); on_goal 1 => decide)
    | (with_reducible apply Keeps.step (State.modChan_keeps ..); on_goal 1 => decide)
    | with_reducible apply Keeps.ite
    | (extract_lets +onlyGivenNames x; with_reducible apply Keeps.cut (x := by apply x) <;> [(unfold x; clear x); (clear_value x; intro _; revert x; intros)])
    | (extract_lets +onlyGivenNames x; clear_value x; revert x; intros)
    | dsimp -zeta only)

theorem blankBay_keeps (b : Nat) (s : State) : Keeps 8556249087 s (blankBay b s) := by
  unfold blankBay
  repeat' (first
    | with_reducible exact Keeps.refl _
    | with_reducible assumption
    | (with_reducible apply Keeps.step (State.modBay_keeps ..); on_goal 1 => decide)
    | (extract_lets +onlyGivenNames x; with_reducible apply Keeps.cut (x := by apply x) <;> [(unfold x; clear x); (clear_value x; intro _; revert x; intros)])
    | (extract_lets +onlyGivenNames x; with_reducible apply Keeps.cut (x := by apply x.1) <;> [(unfold x; clear x); (clear_value x; intro _; revert x; intros)])
    | (extract_lets +onlyGivenNames x; clear_value x; revert x; intros)
    | fail_if_no_progress (with_reducible apply Keeps.upd_dram <;> [skip; decide])
    | dsimp -zeta only)

theorem deviceErrorLeak_keeps (c : Nat) (s : State) : Keeps 8589934575 s (deviceErrorLeak c s) := by
  unfold deviceErrorLeak
  repeat' (first
    | with_reducible exact Keeps.refl _
    | with_reducible assumption
    | (with_reducible apply Keeps.step (State.modChan_keeps ..); on_goal 1 => decide)
    | with_reducible apply Keeps.ite
    | with_reducible apply Keeps.ite_fst
    | dsimp -zeta only)

theorem execDeviceErrorLeak_keeps (c : Fin 16) (s : State) {t : State} (h : execDeviceErrorLeak c s = .next t) : Keeps 8589934575 s t := by
  obtain rfl := Host.Outcome.next.inj h
  repeat' (first
    | with_reducible exact Keeps.refl _
    | with_reducible assumption
    | (with_reducible apply Keeps.step (deviceErrorLeak_keeps ..); on_goal 1 => decide)
    | dsimp -zeta only)

theorem eraseWrite_keeps (c entry v : Nat) (s : State) : Keeps 8587837423 s (eraseWrite c entry v s) := by
  unfold eraseWrite
  repeat' (first
    | with_reducible exact Keeps.refl _
    | with_reducible assumption
    | (with_reducible apply Keeps.step (setErased_keeps ..); on_goal 1 => decide)
    | (with_reducible apply Keeps.step (State.modChan_keeps ..); on_goal 1 => decide)
    | with_reducible apply Keeps.ite
    | (extract_lets +onlyGivenNames x; with_reducible apply Keeps.cut (x := by apply x) <;> [(unfold x; clear x); (clear_value x; intro _; revert x; intros)])
    | (extract_lets +onlyGivenNames x; clear_value x; revert x; intros)
    | dsimp -zeta only)

end Sys2Proof.Machine
end

