-- ==== Sys2Proof/Laws/KeepsKeyCmds.lean ====
section
/-! SUPPORT. What each function of Machine/KeyCmds.lean can do (see Laws/Keeps.lean). -/

set_option linter.tactic.unusedName false
set_option linter.unusedTactic false
set_option linter.unreachableTactic false

namespace Sys2Proof.Machine

theorem endStage_keeps (k : Nat) (s : State) : Keeps 2952790015 s (endStage k s) := by
  unfold endStage
  repeat' (first
    | with_reducible exact Keeps.refl _
    | with_reducible assumption
    | (with_reducible apply Keeps.step (State.tickFree_keeps ..); on_goal 1 => decide)
    | (with_reducible apply Keeps.step (State.setRec_keeps ..); on_goal 1 => decide)
    | (extract_lets +onlyGivenNames x; with_reducible apply Keeps.cut (x := by apply x) <;> [(unfold x; clear x); (clear_value x; intro _; revert x; intros)])
    | (extract_lets +onlyGivenNames x; clear_value x; revert x; intros)
    | fail_if_no_progress (with_reducible apply Keeps.upd_blk <;> [skip; decide])
    | dsimp -zeta only)

theorem startResult_keeps (b : Nat) (s : State) : Keeps 8053063679 s (startResult b s) := by
  unfold startResult
  repeat' (first
    | with_reducible exact Keeps.refl _
    | with_reducible assumption
    | (with_reducible apply Keeps.step (State.setObjBit_keeps ..); on_goal 1 => decide)
    | dsimp -zeta only)

theorem adoptKeys_keeps (pair : KeyPair) (source : Nat) (s : State) : Keeps 8049917951 s (adoptKeys pair source s) := by
  unfold adoptKeys
  repeat' (first
    | with_reducible exact Keeps.refl _
    | with_reducible assumption
    | (with_reducible apply Keeps.step (writeVault_keeps ..); on_goal 1 => decide)
    | (with_reducible apply Keeps.step (publishVault_keeps ..); on_goal 1 => decide)
    | fail_if_no_progress (with_reducible apply Keeps.upd_vault <;> [skip; decide])
    | dsimp -zeta only)

theorem noteLinks_keeps (links : Option LinkKeys) (s : State) : Keeps 8586788863 s (noteLinks links s) := by
  unfold noteLinks
  repeat' (first
    | with_reducible exact Keeps.refl _
    | with_reducible assumption
    | (with_reducible apply Keeps.step (writeVault_keeps ..); on_goal 1 => decide)
    | with_reducible apply Keeps.ite
    | split
    | fail_if_no_progress (with_reducible apply Keeps.upd_vault <;> [skip; decide])
    | dsimp -zeta only)

theorem loadKeys_keeps (cur : KeyPair) (succ : Option KeyPair) (links : Option LinkKeys) (s : State) : Keeps 8586264575 s (loadKeys cur succ links s) := by
  unfold loadKeys
  repeat' (first
    | with_reducible exact Keeps.refl _
    | with_reducible assumption
    | (with_reducible apply Keeps.step (noteLinks_keeps ..); on_goal 1 => decide)
    | fail_if_no_progress (with_reducible apply Keeps.upd_keys <;> [skip; decide])
    | dsimp -zeta only)

theorem keyMismatchDistricts_keeps (s : State) : Keeps 8052801535 s (keyMismatchDistricts s) := by
  unfold keyMismatchDistricts
  repeat' (first
    | with_reducible exact Keeps.refl _
    | with_reducible assumption
    | (with_reducible apply Keeps.step (State.setObjBit_keeps ..); on_goal 1 => decide)
    | (with_reducible apply Keeps.step (State.modDist_keeps ..); on_goal 1 => decide)
    | with_reducible apply Keeps.ite
    | (with_reducible apply Keeps.forN <;> [skip; intro _ _ _])
    | dsimp -zeta only)

theorem intakeFails_keeps (s : State) : Keeps 3688628223 s (intakeFails s) := by
  unfold intakeFails
  repeat' (first
    | with_reducible exact Keeps.refl _
    | with_reducible assumption
    | (with_reducible apply Keeps.step (startResult_keeps ..); on_goal 1 => decide)
    | (with_reducible apply Keeps.step (keyMismatchDistricts_keeps ..); on_goal 1 => decide)
    | (with_reducible apply Keeps.step (State.setObj_keeps ..); on_goal 1 => decide)
    | (with_reducible apply Keeps.step (State.raise_keeps ..); on_goal 1 => decide)
    | dsimp -zeta only)

theorem intakeMismatch_keeps (found : Option Intake) (s : State) : Keeps 3688103935 s (intakeMismatch found s) := by
  unfold intakeMismatch
  repeat' (first
    | with_reducible exact Keeps.refl _
    | with_reducible assumption
    | (with_reducible apply Keeps.step (startResult_keeps ..); on_goal 1 => decide)
    | (with_reducible apply Keeps.step (keyMismatchDistricts_keeps ..); on_goal 1 => decide)
    | (with_reducible apply Keeps.step (State.setObj_keeps ..); on_goal 1 => decide)
    | (with_reducible apply Keeps.step (State.raise_keeps ..); on_goal 1 => decide)
    | (extract_lets +onlyGivenNames x; with_reducible apply Keeps.cut (x := by apply x) <;> [(unfold x; clear x); (clear_value x; intro _; revert x; intros)])
    | (extract_lets +onlyGivenNames x; clear_value x; revert x; intros)
    | fail_if_no_progress (with_reducible apply Keeps.upd_keys <;> [skip; decide])
    | dsimp -zeta only)

theorem startRoll_keeps (succ : KeyPair) (s : State) : Keeps 3687219199 s (startRoll succ s) := by
  unfold startRoll
  repeat' (first
    | with_reducible exact Keeps.refl _
    | with_reducible assumption
    | (with_reducible apply Keeps.step (writeVault_keeps ..); on_goal 1 => decide)
    | (with_reducible apply Keeps.step (publishVault_keeps ..); on_goal 1 => decide)
    | (with_reducible apply Keeps.step (rollSkip_keeps ..); on_goal 1 => decide)
    | (with_reducible apply Keeps.step (State.setObj_keeps ..); on_goal 1 => decide)
    | (with_reducible apply Keeps.step (State.raise_keeps ..); on_goal 1 => decide)
    | (with_reducible apply Keeps.forN <;> [skip; intro _ _ _])
    | (extract_lets +onlyGivenNames x; with_reducible apply Keeps.cut (x := by apply x) <;> [(unfold x; clear x); (clear_value x; intro _; revert x; intros)])
    | (extract_lets +onlyGivenNames x; clear_value x; revert x; intros)
    | fail_if_no_progress (with_reducible apply Keeps.upd_vault <;> [skip; decide])
    | dsimp -zeta only)

theorem intakeRecord_keeps (r : KeyRec) (s : State) : Keeps 3686957055 s (intakeRecord r s) := by
  unfold intakeRecord
  repeat' (first
    | with_reducible exact Keeps.refl _
    | with_reducible assumption
    | (with_reducible apply Keeps.step (rollSkip_keeps ..); on_goal 1 => decide)
    | (with_reducible apply Keeps.step (adoptKeys_keeps ..); on_goal 1 => decide)
    | (with_reducible apply Keeps.step (loadKeys_keeps ..); on_goal 1 => decide)
    | (with_reducible apply Keeps.step (intakeMismatch_keeps ..); on_goal 1 => decide)
    | (with_reducible apply Keeps.step (startRoll_keeps ..); on_goal 1 => decide)
    | (with_reducible apply Keeps.step (State.setObj_keeps ..); on_goal 1 => decide)
    | with_reducible apply Keeps.ite
    | (extract_lets +onlyGivenNames x; with_reducible apply Keeps.cut (x := by apply x) <;> [(unfold x; clear x); (clear_value x; intro _; revert x; intros)])
    | (extract_lets +onlyGivenNames x; unfold x; clear x)
    | split
    | dsimp -zeta only)

theorem intakeNone_keeps (s : State) : Keeps 3687055359 s (intakeNone s) := by
  unfold intakeNone
  repeat' (first
    | with_reducible exact Keeps.refl _
    | with_reducible assumption
    | (with_reducible apply Keeps.step (startResult_keeps ..); on_goal 1 => decide)
    | (with_reducible apply Keeps.step (adoptKeys_keeps ..); on_goal 1 => decide)
    | (with_reducible apply Keeps.step (loadKeys_keeps ..); on_goal 1 => decide)
    | (with_reducible apply Keeps.step (intakeFails_keeps ..); on_goal 1 => decide)
    | (with_reducible apply Keeps.step (intakeMismatch_keeps ..); on_goal 1 => decide)
    | (with_reducible apply Keeps.step (State.setObj_keeps ..); on_goal 1 => decide)
    | with_reducible apply Keeps.ite
    | (extract_lets +onlyGivenNames x; with_reducible apply Keeps.cut (x := by apply x) <;> [(unfold x; clear x); (clear_value x; intro _; revert x; intros)])
    | (extract_lets +onlyGivenNames x; unfold x; clear x)
    | dsimp -zeta only)

theorem intakeEnds_keeps (s : State) : Keeps 2952265727 s (intakeEnds s) := by
  unfold intakeEnds
  repeat' (first
    | with_reducible exact Keeps.refl _
    | with_reducible assumption
    | (with_reducible apply Keeps.step (endStage_keeps ..); on_goal 1 => decide)
    | (extract_lets +onlyGivenNames x; with_reducible apply Keeps.cut (x := by apply x) <;> [(unfold x; clear x); (clear_value x; intro _; revert x; intros)])
    | (extract_lets +onlyGivenNames x; clear_value x; revert x; intros)
    | fail_if_no_progress (with_reducible apply Keeps.upd_blk <;> [skip; decide])
    | fail_if_no_progress (with_reducible apply Keeps.upd_keys <;> [skip; decide])
    | dsimp -zeta only)

theorem keyRecord_keeps (ws : List (BitVec 32)) (s : State) : Keeps 2344779775 s (keyRecord ws s) := by
  unfold keyRecord
  repeat' (first
    | with_reducible exact Keeps.refl _
    | with_reducible assumption
    | (with_reducible apply Keeps.step (intakeFails_keeps ..); on_goal 1 => decide)
    | (with_reducible apply Keeps.step (intakeRecord_keeps ..); on_goal 1 => decide)
    | (with_reducible apply Keeps.step (intakeEnds_keeps ..); on_goal 1 => decide)
    | with_reducible apply Keeps.ite
    | (extract_lets +onlyGivenNames x; with_reducible apply Keeps.cut (x := by apply x) <;> [(unfold x; clear x); (clear_value x; intro _; revert x; intros)])
    | (extract_lets +onlyGivenNames x; clear_value x; revert x; intros)
    | split
    | fail_if_no_progress (with_reducible apply Keeps.upd_keys <;> [skip; decide])
    | dsimp -zeta only)

theorem execKeyRecord_keeps (words : List (BitVec 32)) (s : State) {t : State} (h : execKeyRecord words s = .next t) : Keeps 2344779775 s t := by
  obtain rfl := Host.Outcome.next.inj h
  repeat' (first
    | with_reducible exact Keeps.refl _
    | with_reducible assumption
    | (with_reducible apply Keeps.step (keyRecord_keeps ..); on_goal 1 => decide)
    | dsimp -zeta only)

theorem keyTimeout_keeps (s : State) : Keeps 2344878079 s (keyTimeout s) := by
  unfold keyTimeout
  repeat' (first
    | with_reducible exact Keeps.refl _
    | with_reducible assumption
    | (with_reducible apply Keeps.step (intakeNone_keeps ..); on_goal 1 => decide)
    | (with_reducible apply Keeps.step (intakeEnds_keeps ..); on_goal 1 => decide)
    | with_reducible apply Keeps.ite
    | dsimp -zeta only)

theorem execKeyIntakeTimeout_keeps (s : State) {t : State} (h : execKeyIntakeTimeout s = .next t) : Keeps 2344878079 s t := by
  obtain rfl := Host.Outcome.next.inj h
  repeat' (first
    | with_reducible exact Keeps.refl _
    | with_reducible assumption
    | (with_reducible apply Keeps.step (keyTimeout_keeps ..); on_goal 1 => decide)
    | dsimp -zeta only)

theorem startMirror_keeps (s : State) : Keeps 3658217821 s (startMirror s) := by
  unfold startMirror
  repeat' (first
    | with_reducible exact Keeps.refl _
    | with_reducible assumption
    | (with_reducible apply Keeps.step (startSession_keeps ..); on_goal 1 => decide)
    | (with_reducible apply Keeps.step (roleEffect_keeps ..); on_goal 1 => decide)
    | with_reducible apply Keeps.ite
    | (with_reducible apply Keeps.forN <;> [skip; intro _ _ _])
    | dsimp -zeta only)

theorem keyAdopt_keeps (v : Nat) (s : State) : Keeps 3623891277 s (keyAdopt v s).1 := by
  unfold keyAdopt
  repeat' (first
    | with_reducible exact Keeps.refl _
    | with_reducible assumption
    | (with_reducible apply Keeps.step (formDistrict_keeps ..); on_goal 1 => decide)
    | (with_reducible apply Keeps.step (adoptKeys_keeps ..); on_goal 1 => decide)
    | (with_reducible apply Keeps.step (loadKeys_keeps ..); on_goal 1 => decide)
    | (with_reducible apply Keeps.step (startMirror_keeps ..); on_goal 1 => decide)
    | (with_reducible apply Keeps.step (State.setObj_keeps ..); on_goal 1 => decide)
    | with_reducible apply Keeps.ite
    | with_reducible apply Keeps.ite_fst
    | (with_reducible apply Keeps.foldl <;> [skip; intro _ _ _])
    | (with_reducible apply Keeps.foldl_fst <;> [skip; intro _ _ _])
    | (extract_lets +onlyGivenNames x; with_reducible apply Keeps.cut (x := by apply x) <;> [(unfold x; clear x); (clear_value x; intro _; revert x; intros)])
    | (extract_lets +onlyGivenNames x; with_reducible apply Keeps.cut (x := by apply x.1) <;> [(unfold x; clear x); (clear_value x; intro _; revert x; intros)])
    | (extract_lets +onlyGivenNames x; clear_value x; revert x; intros)
    | split
    | fail_if_no_progress (with_reducible apply Keeps.upd_keys_vault <;> [skip; decide])
    | dsimp -zeta only)

end Sys2Proof.Machine
end

