-- ==== Sys2Proof/Laws/KeepsCalib.lean ====
section
/-! SUPPORT. What each function of Machine/Calib.lean can do (see Laws/Keeps.lean). -/

set_option linter.tactic.unusedName false
set_option linter.unusedTactic false
set_option linter.unreachableTactic false

namespace Sys2Proof.Machine

theorem writeTrims_keeps (c mask : Nat) (points : List Byte) (s : State) : Keeps 8587837439 s (writeTrims c mask points s) := by
  unfold writeTrims
  repeat' (first
    | with_reducible exact Keeps.refl _
    | with_reducible assumption
    | with_reducible apply Keeps.ite
    | with_reducible apply Keeps.ite_fst
    | (with_reducible apply Keeps.foldl <;> [skip; intro _ _ _])
    | (with_reducible apply Keeps.foldl_fst <;> [skip; intro _ _ _])
    | (extract_lets +onlyGivenNames x; with_reducible apply Keeps.cut (x := by apply x) <;> [(unfold x; clear x); (clear_value x; intro _; revert x; intros)])
    | (extract_lets +onlyGivenNames x; with_reducible apply Keeps.cut (x := by apply x.1) <;> [(unfold x; clear x); (clear_value x; intro _; revert x; intros)])
    | (extract_lets +onlyGivenNames x; clear_value x; revert x; intros)
    | fail_if_no_progress (with_reducible apply Keeps.upd_mram <;> [skip; decide; (intros; repeat' (first | with_reducible assumption | with_reducible exact Memory.wf_nil | with_reducible apply Memory.wf_sbN | with_reducible apply Memory.wf_sbNat | with_reducible apply Memory.wf_sb | with_reducible apply Memory.wf_filter | with_reducible apply Memory.wf_writeWords | with_reducible apply Memory.wf_foldl_sb | with_reducible exact Keeps.mramOk (by assumption) (by assumption) | split | dsimp only))])
    | dsimp -zeta only)

theorem storeTrained_keeps (c : Nat) (s : State) : Keeps 8587837439 s (storeTrained c s) := by
  unfold storeTrained
  repeat' (first
    | with_reducible exact Keeps.refl _
    | with_reducible assumption
    | (with_reducible apply Keeps.step (writeTrims_keeps ..); on_goal 1 => decide)
    | (extract_lets +onlyGivenNames x; with_reducible apply Keeps.cut (x := by apply x) <;> [(unfold x; clear x); (clear_value x; intro _; revert x; intros)])
    | (extract_lets +onlyGivenNames x; clear_value x; revert x; intros)
    | dsimp -zeta only)

theorem sweepFails_keeps (c step : Nat) (s : State) : Keeps 8053063663 s (sweepFails c step s) := by
  unfold sweepFails
  repeat' (first
    | with_reducible exact Keeps.refl _
    | with_reducible assumption
    | (with_reducible apply Keeps.step (State.setObj_keeps ..); on_goal 1 => decide)
    | (with_reducible apply Keeps.step (State.modChan_keeps ..); on_goal 1 => decide)
    | with_reducible apply Keeps.ite
    | (extract_lets +onlyGivenNames x; with_reducible apply Keeps.cut (x := by apply x) <;> [(unfold x; clear x); (clear_value x; intro _; revert x; intros)])
    | (extract_lets +onlyGivenNames x; clear_value x; revert x; intros)
    | dsimp -zeta only)

theorem newBase_keeps (c : Nat) (s : State) : Keeps 8589934575 s (newBase c s) := by
  unfold newBase
  repeat' (first
    | with_reducible exact Keeps.refl _
    | with_reducible assumption
    | (with_reducible apply Keeps.step (State.modChan_keeps ..); on_goal 1 => decide)
    | dsimp -zeta only)

theorem sweepResult_keeps (c rate kind : Nat) (r : SweepResult) (s : State) : Keeps 2615148527 s (sweepResult c rate kind r s) := by
  unfold sweepResult
  repeat' (first
    | with_reducible exact Keeps.refl _
    | with_reducible assumption
    | (with_reducible apply Keeps.step (calCause_keeps ..); on_goal 1 => decide)
    | (with_reducible apply Keeps.step (setTrims_keeps ..); on_goal 1 => decide)
    | (with_reducible apply Keeps.step (storeTrained_keeps ..); on_goal 1 => decide)
    | (with_reducible apply Keeps.step (sweepFails_keeps ..); on_goal 1 => decide)
    | (with_reducible apply Keeps.step (newBase_keeps ..); on_goal 1 => decide)
    | (with_reducible apply Keeps.step (State.setObj_keeps ..); on_goal 1 => decide)
    | (with_reducible apply Keeps.step (State.setRec_keeps ..); on_goal 1 => decide)
    | (with_reducible apply Keeps.step (State.modChan_keeps ..); on_goal 1 => decide)
    | with_reducible apply Keeps.ite
    | (extract_lets +onlyGivenNames x; with_reducible apply Keeps.cut (x := by apply x) <;> [(unfold x; clear x); (clear_value x; intro _; revert x; intros)])
    | (extract_lets +onlyGivenNames x; clear_value x; revert x; intros)
    | fail_if_no_progress (with_reducible apply Keeps.upd_freeCtr <;> [skip; decide])
    | dsimp -zeta only)

theorem hardwareSweep_keeps (c : Nat) (r : SweepResult) (s : State) : Keeps 2615148527 s (hardwareSweep c r s) := by
  unfold hardwareSweep
  repeat' (first
    | with_reducible exact Keeps.refl _
    | with_reducible assumption
    | (with_reducible apply Keeps.step (sweepResult_keeps ..); on_goal 1 => decide)
    | (with_reducible apply Keeps.step (State.setObj_keeps ..); on_goal 1 => decide)
    | with_reducible apply Keeps.ite
    | with_reducible apply Keeps.ite_fst
    | (extract_lets +onlyGivenNames x; with_reducible apply Keeps.cut (x := by apply x) <;> [(unfold x; clear x); (clear_value x; intro _; revert x; intros)])
    | (extract_lets +onlyGivenNames x; with_reducible apply Keeps.cut (x := by apply x.1) <;> [(unfold x; clear x); (clear_value x; intro _; revert x; intros)])
    | (extract_lets +onlyGivenNames x; clear_value x; revert x; intros)
    | dsimp -zeta only)

theorem execHardwareSweep_keeps (c : Fin 16) (r : SweepResult) (s : State) {t : State} (h : execHardwareSweep c r s = .next t) : Keeps 2615148527 s t := by
  obtain rfl := Host.Outcome.next.inj h
  repeat' (first
    | with_reducible exact Keeps.refl _
    | with_reducible assumption
    | (with_reducible apply Keeps.step (hardwareSweep_keeps ..); on_goal 1 => decide)
    | dsimp -zeta only)

theorem copyTrained_keeps (c : Nat) (s : State) : Keeps 7516192767 s (copyTrained c s) := by
  unfold copyTrained
  repeat' (first
    | with_reducible exact Keeps.refl _
    | with_reducible assumption
    | (with_reducible apply Keeps.step (State.setRec_keeps ..); on_goal 1 => decide)
    | with_reducible apply Keeps.ite
    | with_reducible apply Keeps.ite_fst
    | (with_reducible apply Keeps.foldl <;> [skip; intro _ _ _])
    | (with_reducible apply Keeps.foldl_fst <;> [skip; intro _ _ _])
    | (with_reducible apply Keeps.forN_fst <;> [skip; intro _ _ _])
    | (with_reducible apply Keeps.forN <;> [skip; intro _ _ _])
    | (extract_lets +onlyGivenNames x; with_reducible apply Keeps.cut (x := by apply x) <;> [(unfold x; clear x); (clear_value x; intro _; revert x; intros)])
    | (extract_lets +onlyGivenNames x; with_reducible apply Keeps.cut (x := by apply x.1) <;> [(unfold x; clear x); (clear_value x; intro _; revert x; intros)])
    | (extract_lets +onlyGivenNames x; clear_value x; revert x; intros)
    | dsimp -zeta only)

theorem rank0Fallback_keeps (c : Nat) (r : SweepResult) (s : State) : Keeps 2615148527 s (rank0Fallback c r s) := by
  unfold rank0Fallback
  repeat' (first
    | with_reducible exact Keeps.refl _
    | with_reducible assumption
    | (with_reducible apply Keeps.step (calCause_keeps ..); on_goal 1 => decide)
    | (with_reducible apply Keeps.step (storeTrained_keeps ..); on_goal 1 => decide)
    | (with_reducible apply Keeps.step (sweepResult_keeps ..); on_goal 1 => decide)
    | (with_reducible apply Keeps.step (copyTrained_keeps ..); on_goal 1 => decide)
    | (with_reducible apply Keeps.step (State.setObj_keeps ..); on_goal 1 => decide)
    | with_reducible apply Keeps.ite
    | (extract_lets +onlyGivenNames x; with_reducible apply Keeps.cut (x := by apply x) <;> [(unfold x; clear x); (clear_value x; intro _; revert x; intros)])
    | (extract_lets +onlyGivenNames x; clear_value x; revert x; intros)
    | dsimp -zeta only)

theorem execRank0Fallback_keeps (c : Fin 16) (r : SweepResult) (s : State) {t : State} (h : execRank0Fallback c r s = .next t) : Keeps 2615148527 s t := by
  obtain rfl := Host.Outcome.next.inj h
  repeat' (first
    | with_reducible exact Keeps.refl _
    | with_reducible assumption
    | (with_reducible apply Keeps.step (rank0Fallback_keeps ..); on_goal 1 => decide)
    | dsimp -zeta only)

theorem trainingDone_keeps (c v : Nat) (verified : Bool) (s : State) : Keeps 6977224687 s (trainingDone c v verified s).1 := by
  unfold trainingDone
  repeat' (first
    | with_reducible exact Keeps.refl _
    | with_reducible assumption
    | (with_reducible apply Keeps.step (storeTrained_keeps ..); on_goal 1 => decide)
    | (with_reducible apply Keeps.step (newBase_keeps ..); on_goal 1 => decide)
    | (with_reducible apply Keeps.step (State.setObj_keeps ..); on_goal 1 => decide)
    | (with_reducible apply Keeps.step (State.setRec_keeps ..); on_goal 1 => decide)
    | (with_reducible apply Keeps.step (State.modChan_keeps ..); on_goal 1 => decide)
    | with_reducible apply Keeps.ite
    | with_reducible apply Keeps.ite_fst
    | (extract_lets +onlyGivenNames x; with_reducible apply Keeps.cut (x := by apply x) <;> [(unfold x; clear x); (clear_value x; intro _; revert x; intros)])
    | (extract_lets +onlyGivenNames x; with_reducible apply Keeps.cut (x := by apply x.1) <;> [(unfold x; clear x); (clear_value x; intro _; revert x; intros)])
    | (extract_lets +onlyGivenNames x; clear_value x; revert x; intros)
    | dsimp -zeta only)

theorem firmwareTimeout_keeps (c : Nat) (s : State) : Keeps 6979321839 s (firmwareTimeout c s) := by
  unfold firmwareTimeout
  repeat' (first
    | with_reducible exact Keeps.refl _
    | with_reducible assumption
    | (with_reducible apply Keeps.step (stopHelper_keeps ..); on_goal 1 => decide)
    | (with_reducible apply Keeps.step (State.setObj_keeps ..); on_goal 1 => decide)
    | (with_reducible apply Keeps.step (State.setChan_keeps ..); on_goal 1 => decide)
    | with_reducible apply Keeps.ite
    | (extract_lets +onlyGivenNames x; with_reducible apply Keeps.cut (x := by apply x) <;> [(unfold x; clear x); (clear_value x; intro _; revert x; intros)])
    | (extract_lets +onlyGivenNames x; clear_value x; revert x; intros)
    | dsimp -zeta only)

theorem execFirmwareTrainTimeout_keeps (c : Fin 16) (s : State) {t : State} (h : execFirmwareTrainTimeout c s = .next t) : Keeps 6979321839 s t := by
  obtain rfl := Host.Outcome.next.inj h
  repeat' (first
    | with_reducible exact Keeps.refl _
    | with_reducible assumption
    | (with_reducible apply Keeps.step (firmwareTimeout_keeps ..); on_goal 1 => decide)
    | dsimp -zeta only)

theorem trainRequest_keeps (c v : Nat) (s : State) : Keeps 6979059695 s (trainRequest c v s).1 := by
  unfold trainRequest
  repeat' (first
    | with_reducible exact Keeps.refl _
    | with_reducible assumption
    | (with_reducible apply Keeps.step (startTraining_keeps ..); on_goal 1 => decide)
    | with_reducible apply Keeps.ite
    | with_reducible apply Keeps.ite_fst
    | (extract_lets +onlyGivenNames x; with_reducible apply Keeps.cut (x := by apply x) <;> [(unfold x; clear x); (clear_value x; intro _; revert x; intros)])
    | (extract_lets +onlyGivenNames x; with_reducible apply Keeps.cut (x := by apply x.1) <;> [(unfold x; clear x); (clear_value x; intro _; revert x; intros)])
    | (extract_lets +onlyGivenNames x; clear_value x; revert x; intros)
    | dsimp -zeta only)

theorem claimPaths_keeps (c : Nat) (s : State) : Keeps 3688890367 s (claimPaths c s) := by
  unfold claimPaths
  repeat' (first
    | with_reducible exact Keeps.refl _
    | with_reducible assumption
    | (with_reducible apply Keeps.step (claim_keeps ..); on_goal 1 => decide)
    | with_reducible apply Keeps.ite
    | with_reducible apply Keeps.ite_fst
    | (with_reducible apply Keeps.forN_fst <;> [skip; intro _ _ _])
    | (with_reducible apply Keeps.forN <;> [skip; intro _ _ _])
    | dsimp -zeta only)

theorem startRun_keeps (c : Nat) (s : State) : Keeps 8589934575 s (startRun c s) := by
  unfold startRun
  repeat' (first
    | with_reducible exact Keeps.refl _
    | with_reducible assumption
    | (with_reducible apply Keeps.step (State.setChan_keeps ..); on_goal 1 => decide)
    | (with_reducible apply Keeps.foldl <;> [skip; intro _ _ _])
    | (with_reducible apply Keeps.foldl_fst <;> [skip; intro _ _ _])
    | (extract_lets +onlyGivenNames x; with_reducible apply Keeps.cut (x := by apply x) <;> [(unfold x; clear x); (clear_value x; intro _; revert x; intros)])
    | (extract_lets +onlyGivenNames x; with_reducible apply Keeps.cut (x := by apply x.1) <;> [(unfold x; clear x); (clear_value x; intro _; revert x; intros)])
    | (extract_lets +onlyGivenNames x; clear_value x; revert x; intros)
    | split
    | dsimp -zeta only)

theorem applyNow_keeps (c : Nat) (s : State) : Keeps 8589934575 s (applyNow c s) := by
  unfold applyNow
  repeat' (first
    | with_reducible exact Keeps.refl _
    | with_reducible assumption
    | (with_reducible apply Keeps.step (State.modChan_keeps ..); on_goal 1 => decide)
    | (with_reducible apply Keeps.foldl <;> [skip; intro _ _ _])
    | (with_reducible apply Keeps.foldl_fst <;> [skip; intro _ _ _])
    | (extract_lets +onlyGivenNames x; with_reducible apply Keeps.cut (x := by apply x) <;> [(unfold x; clear x); (clear_value x; intro _; revert x; intros)])
    | (extract_lets +onlyGivenNames x; with_reducible apply Keeps.cut (x := by apply x.1) <;> [(unfold x; clear x); (clear_value x; intro _; revert x; intros)])
    | (extract_lets +onlyGivenNames x; clear_value x; revert x; intros)
    | dsimp -zeta only)

theorem trainedChannel_keeps (c : Nat) (quick : Bool) (s : State) : Keeps 2581331919 s (trainedChannel c quick s) := by
  unfold trainedChannel
  repeat' (first
    | with_reducible exact Keeps.refl _
    | with_reducible assumption
    | (with_reducible apply Keeps.step (bayInService_keeps ..); on_goal 1 => decide)
    | (with_reducible apply Keeps.step (claim_keeps ..); on_goal 1 => decide)
    | (with_reducible apply Keeps.step (resumeChannel_keeps ..); on_goal 1 => decide)
    | (with_reducible apply Keeps.step (claimPaths_keeps ..); on_goal 1 => decide)
    | (with_reducible apply Keeps.step (startRun_keeps ..); on_goal 1 => decide)
    | (with_reducible apply Keeps.step (applyNow_keeps ..); on_goal 1 => decide)
    | (with_reducible apply Keeps.step (State.setObj_keeps ..); on_goal 1 => decide)
    | (with_reducible apply Keeps.step (State.modChan_keeps ..); on_goal 1 => decide)
    | (with_reducible apply Keeps.step (State.modBay_keeps ..); on_goal 1 => decide)
    | with_reducible apply Keeps.ite
    | with_reducible apply Keeps.ite_fst
    | (with_reducible apply Keeps.forN_fst <;> [skip; intro _ _ _])
    | (with_reducible apply Keeps.forN <;> [skip; intro _ _ _])
    | (extract_lets +onlyGivenNames x; with_reducible apply Keeps.cut (x := by apply x) <;> [(unfold x; clear x); (clear_value x; intro _; revert x; intros)])
    | (extract_lets +onlyGivenNames x; with_reducible apply Keeps.cut (x := by apply x.1) <;> [(unfold x; clear x); (clear_value x; intro _; revert x; intros)])
    | (extract_lets +onlyGivenNames x; clear_value x; revert x; intros)
    | dsimp -zeta only)

theorem trainingFailed_keeps (c : Nat) (s : State) : Keeps 2581331951 s (trainingFailed c s) := by
  unfold trainingFailed
  repeat' (first
    | with_reducible exact Keeps.refl _
    | with_reducible assumption
    | (with_reducible apply Keeps.step (calCause_keeps ..); on_goal 1 => decide)
    | (with_reducible apply Keeps.step (setChanState_keeps ..); on_goal 1 => decide)
    | (with_reducible apply Keeps.step (stopHelper_keeps ..); on_goal 1 => decide)
    | (with_reducible apply Keeps.step (bayFault_keeps ..); on_goal 1 => decide)
    | (with_reducible apply Keeps.step (State.setObj_keeps ..); on_goal 1 => decide)
    | (with_reducible apply Keeps.step (State.modChan_keeps ..); on_goal 1 => decide)
    | with_reducible apply Keeps.ite
    | (with_reducible apply Keeps.forN <;> [skip; intro _ _ _])
    | (extract_lets +onlyGivenNames x; with_reducible apply Keeps.cut (x := by apply x) <;> [(unfold x; clear x); (clear_value x; intro _; revert x; intros)])
    | (extract_lets +onlyGivenNames x; clear_value x; revert x; intros)
    | dsimp -zeta only)

theorem quickStart_keeps (c : Nat) (verified : Bool) (s : State) : Keeps 2581331919 s (quickStart c verified s) := by
  unfold quickStart
  repeat' (first
    | with_reducible exact Keeps.refl _
    | with_reducible assumption
    | (with_reducible apply Keeps.step (calCause_keeps ..); on_goal 1 => decide)
    | (with_reducible apply Keeps.step (setTrims_keeps ..); on_goal 1 => decide)
    | (with_reducible apply Keeps.step (newBase_keeps ..); on_goal 1 => decide)
    | (with_reducible apply Keeps.step (trainedChannel_keeps ..); on_goal 1 => decide)
    | (with_reducible apply Keeps.step (State.setObj_keeps ..); on_goal 1 => decide)
    | (with_reducible apply Keeps.step (State.setRec_keeps ..); on_goal 1 => decide)
    | (with_reducible apply Keeps.step (State.modChan_keeps ..); on_goal 1 => decide)
    | with_reducible apply Keeps.ite
    | (extract_lets +onlyGivenNames x; with_reducible apply Keeps.cut (x := by apply x) <;> [(unfold x; clear x); (clear_value x; intro _; revert x; intros)])
    | (extract_lets +onlyGivenNames x; clear_value x; revert x; intros)
    | dsimp -zeta only)

theorem trainingComplete_keeps (c : Nat) (verified : Bool) (s : State) : Keeps 2581331919 s (trainingComplete c verified s) := by
  unfold trainingComplete
  repeat' (first
    | with_reducible exact Keeps.refl _
    | with_reducible assumption
    | (with_reducible apply Keeps.step (thawChannel_keeps ..); on_goal 1 => decide)
    | (with_reducible apply Keeps.step (claimPaths_keeps ..); on_goal 1 => decide)
    | (with_reducible apply Keeps.step (applyNow_keeps ..); on_goal 1 => decide)
    | (with_reducible apply Keeps.step (trainedChannel_keeps ..); on_goal 1 => decide)
    | (with_reducible apply Keeps.step (trainingFailed_keeps ..); on_goal 1 => decide)
    | (with_reducible apply Keeps.step (quickStart_keeps ..); on_goal 1 => decide)
    | (with_reducible apply Keeps.step (State.setObj_keeps ..); on_goal 1 => decide)
    | with_reducible apply Keeps.ite
    | (extract_lets +onlyGivenNames x; with_reducible apply Keeps.cut (x := by apply x) <;> [(unfold x; clear x); (clear_value x; intro _; revert x; intros)])
    | (extract_lets +onlyGivenNames x; clear_value x; revert x; intros)
    | split
    | dsimp -zeta only)

theorem execTrainingComplete_keeps (c : Fin 16) (verified : Bool) (s : State) {t : State} (h : execTrainingComplete c verified s = .next t) : Keeps 2581331919 s t := by
  obtain rfl := Host.Outcome.next.inj h
  repeat' (first
    | with_reducible exact Keeps.refl _
    | with_reducible assumption
    | (with_reducible apply Keeps.step (trainingComplete_keeps ..); on_goal 1 => decide)
    | dsimp -zeta only)

theorem loadLane_keeps (c l : Nat) (bs : List (Nat × Byte)) (s : State) : Keeps 8589934575 s (loadLane c l bs s) := by
  unfold loadLane
  repeat' (first
    | with_reducible exact Keeps.refl _
    | with_reducible assumption
    | (with_reducible apply Keeps.step (State.modChan_keeps ..); on_goal 1 => decide)
    | (extract_lets +onlyGivenNames x; with_reducible apply Keeps.cut (x := by apply x) <;> [(unfold x; clear x); (clear_value x; intro _; revert x; intros)])
    | (extract_lets +onlyGivenNames x; with_reducible apply Keeps.cut (x := by apply x.1) <;> [(unfold x; clear x); (clear_value x; intro _; revert x; intros)])
    | (extract_lets +onlyGivenNames x; clear_value x; revert x; intros)
    | dsimp -zeta only)

theorem crossScan_keeps (c l : Nat) (x : LaneScan) (s : State) : Keeps 2615148527 s (crossScan c l x s) := by
  unfold crossScan
  repeat' (first
    | with_reducible exact Keeps.refl _
    | with_reducible assumption
    | (with_reducible apply Keeps.step (calCause_keeps ..); on_goal 1 => decide)
    | (with_reducible apply Keeps.step (loadLane_keeps ..); on_goal 1 => decide)
    | (with_reducible apply Keeps.step (State.setRec_keeps ..); on_goal 1 => decide)
    | (with_reducible apply Keeps.step (State.modChan_keeps ..); on_goal 1 => decide)
    | with_reducible apply Keeps.ite
    | with_reducible apply Keeps.ite_fst
    | (with_reducible apply Keeps.foldl <;> [skip; intro _ _ _])
    | (with_reducible apply Keeps.foldl_fst <;> [skip; intro _ _ _])
    | (extract_lets +onlyGivenNames x; with_reducible apply Keeps.cut (x := by apply x) <;> [(unfold x; clear x); (clear_value x; intro _; revert x; intros)])
    | (extract_lets +onlyGivenNames x; with_reducible apply Keeps.cut (x := by apply x.1) <;> [(unfold x; clear x); (clear_value x; intro _; revert x; intros)])
    | (extract_lets +onlyGivenNames x; unfold x; clear x)
    | dsimp -zeta only)

theorem execCrossScanComplete_keeps (c : Fin 16) (lane : Fin 10) (scan : LaneScan) (s : State) {t : State} (h : execCrossScanComplete c lane scan s = .next t) : Keeps 2615148527 s t := by
  obtain rfl := Host.Outcome.next.inj h
  repeat' (first
    | with_reducible exact Keeps.refl _
    | with_reducible assumption
    | (with_reducible apply Keeps.step (crossScan_keeps ..); on_goal 1 => decide)
    | dsimp -zeta only)

theorem calSwap_keeps (c : Nat) (s : State) : Keeps 2615148527 s (calSwap c s) := by
  unfold calSwap
  repeat' (first
    | with_reducible exact Keeps.refl _
    | with_reducible assumption
    | (with_reducible apply Keeps.step (calCause_keeps ..); on_goal 1 => decide)
    | (with_reducible apply Keeps.step (swapAll_keeps ..); on_goal 1 => decide)
    | (with_reducible apply Keeps.step (State.addObj_keeps ..); on_goal 1 => decide)
    | (with_reducible apply Keeps.step (State.setChan_keeps ..); on_goal 1 => decide)
    | with_reducible apply Keeps.ite
    | (extract_lets +onlyGivenNames x; with_reducible apply Keeps.cut (x := by apply x) <;> [(unfold x; clear x); (clear_value x; intro _; revert x; intros)])
    | (extract_lets +onlyGivenNames x; clear_value x; revert x; intros)
    | dsimp -zeta only)

theorem execCalibrationSwap_keeps (c : Fin 16) (s : State) {t : State} (h : execCalibrationSwap c s = .next t) : Keeps 2615148527 s t := by
  obtain rfl := Host.Outcome.next.inj h
  repeat' (first
    | with_reducible exact Keeps.refl _
    | with_reducible assumption
    | (with_reducible apply Keeps.step (calSwap_keeps ..); on_goal 1 => decide)
    | dsimp -zeta only)

theorem applyBaseline_keeps (c : Nat) (t : Int) (s : State) : Keeps 8589934575 s (applyBaseline c t s) := by
  unfold applyBaseline
  repeat' (first
    | with_reducible exact Keeps.refl _
    | with_reducible assumption
    | (with_reducible apply Keeps.step (loadLane_keeps ..); on_goal 1 => decide)
    | (with_reducible apply Keeps.step (State.modChan_keeps ..); on_goal 1 => decide)
    | with_reducible apply Keeps.ite
    | (with_reducible apply Keeps.forN <;> [skip; intro _ _ _])
    | (extract_lets +onlyGivenNames x; with_reducible apply Keeps.cut (x := by apply x) <;> [(unfold x; clear x); (clear_value x; intro _; revert x; intros)])
    | (extract_lets +onlyGivenNames x; clear_value x; revert x; intros)
    | dsimp -zeta only)

theorem tempAdjust_keeps (c : Nat) (s : State) : Keeps 8589934575 s (tempAdjust c s) := by
  unfold tempAdjust
  repeat' (first
    | with_reducible exact Keeps.refl _
    | with_reducible assumption
    | (with_reducible apply Keeps.step (applyBaseline_keeps ..); on_goal 1 => decide)
    | with_reducible apply Keeps.ite
    | (extract_lets +onlyGivenNames x; with_reducible apply Keeps.cut (x := by apply x) <;> [(unfold x; clear x); (clear_value x; intro _; revert x; intros)])
    | (extract_lets +onlyGivenNames x; clear_value x; revert x; intros)
    | dsimp -zeta only)

theorem execTempBaselineAdjust_keeps (c : Fin 16) (s : State) {t : State} (h : execTempBaselineAdjust c s = .next t) : Keeps 8589934575 s t := by
  obtain rfl := Host.Outcome.next.inj h
  repeat' (first
    | with_reducible exact Keeps.refl _
    | with_reducible assumption
    | (with_reducible apply Keeps.step (tempAdjust_keeps ..); on_goal 1 => decide)
    | dsimp -zeta only)

theorem adjustNow_keeps (c : Nat) (s : State) : Keeps 7516192751 s (adjustNow c s) := by
  unfold adjustNow
  repeat' (first
    | with_reducible exact Keeps.refl _
    | with_reducible assumption
    | (with_reducible apply Keeps.step (applyPending_keeps ..); on_goal 1 => decide)
    | (with_reducible apply Keeps.step (swapAll_keeps ..); on_goal 1 => decide)
    | (with_reducible apply Keeps.step (applyBaseline_keeps ..); on_goal 1 => decide)
    | with_reducible apply Keeps.ite
    | dsimp -zeta only)

theorem execPowerExitComplete_keeps (c : Fin 16) (s : State) {t : State} (h : execPowerExitComplete c s = .next t) : Keeps 2315780105 s t := by
  obtain rfl := Host.Outcome.next.inj h
  repeat' (first
    | with_reducible exact Keeps.refl _
    | with_reducible assumption
    | (with_reducible apply Keeps.step (powerExitDone_keeps ..); on_goal 1 => decide)
    | (with_reducible apply Keeps.step (openBridge_keeps ..); on_goal 1 => decide)
    | (with_reducible apply Keeps.step (adjustNow_keeps ..); on_goal 1 => decide)
    | with_reducible apply Keeps.ite
    | (extract_lets +onlyGivenNames x; with_reducible apply Keeps.cut (x := by apply x) <;> [(unfold x; clear x); (clear_value x; intro _; revert x; intros)])
    | (extract_lets +onlyGivenNames x; clear_value x; revert x; intros)
    | dsimp -zeta only)

theorem calRunRequest_keeps (c v : Nat) (s : State) : Keeps 8589934575 s (calRunRequest c v s).1 := by
  unfold calRunRequest
  repeat' (first
    | with_reducible exact Keeps.refl _
    | with_reducible assumption
    | (with_reducible apply Keeps.step (startRun_keeps ..); on_goal 1 => decide)
    | with_reducible apply Keeps.ite
    | with_reducible apply Keeps.ite_fst
    | dsimp -zeta only)

theorem calRunTrigger_keeps (c : Nat) (s : State) : Keeps 8589934575 s (calRunTrigger c s) := by
  unfold calRunTrigger
  repeat' (first
    | with_reducible exact Keeps.refl _
    | with_reducible assumption
    | (with_reducible apply Keeps.step (startRun_keeps ..); on_goal 1 => decide)
    | with_reducible apply Keeps.ite
    | (extract_lets +onlyGivenNames x; with_reducible apply Keeps.cut (x := by apply x) <;> [(unfold x; clear x); (clear_value x; intro _; revert x; intros)])
    | (extract_lets +onlyGivenNames x; clear_value x; revert x; intros)
    | dsimp -zeta only)

theorem runEnd_keeps (c : Nat) (s : State) : Keeps 3755999215 s (runEnd c s) := by
  unfold runEnd
  repeat' (first
    | with_reducible exact Keeps.refl _
    | with_reducible assumption
    | (with_reducible apply Keeps.step (writeTrims_keeps ..); on_goal 1 => decide)
    | (with_reducible apply Keeps.step (startRun_keeps ..); on_goal 1 => decide)
    | (with_reducible apply Keeps.step (State.tickFree_keeps ..); on_goal 1 => decide)
    | (with_reducible apply Keeps.step (State.setObj_keeps ..); on_goal 1 => decide)
    | (with_reducible apply Keeps.step (State.modChan_keeps ..); on_goal 1 => decide)
    | with_reducible apply Keeps.ite
    | with_reducible apply Keeps.ite_fst
    | (with_reducible apply Keeps.foldl <;> [skip; intro _ _ _])
    | (with_reducible apply Keeps.foldl_fst <;> [skip; intro _ _ _])
    | (extract_lets +onlyGivenNames x; with_reducible apply Keeps.cut (x := by apply x) <;> [(unfold x; clear x); (clear_value x; intro _; revert x; intros)])
    | (extract_lets +onlyGivenNames x; with_reducible apply Keeps.cut (x := by apply x.1) <;> [(unfold x; clear x); (clear_value x; intro _; revert x; intros)])
    | (extract_lets +onlyGivenNames x; clear_value x; revert x; intros)
    | split
    | dsimp -zeta only)

theorem execMeasurementRunEnd_keeps (c : Fin 16) (s : State) {t : State} (h : execMeasurementRunEnd c s = .next t) : Keeps 3755999215 s t := by
  obtain rfl := Host.Outcome.next.inj h
  repeat' (first
    | with_reducible exact Keeps.refl _
    | with_reducible assumption
    | (with_reducible apply Keeps.step (runEnd_keeps ..); on_goal 1 => decide)
    | dsimp -zeta only)

theorem trackOne_keeps (c rs runtime : Nat) (t : State) (e : Nat × Nat) : Keeps 4294967279 t (trackOne c rs runtime t e) := by
  unfold trackOne
  repeat' (first
    | with_reducible exact Keeps.refl _
    | with_reducible assumption
    | (with_reducible apply Keeps.step (loadLane_keeps ..); on_goal 1 => decide)
    | (with_reducible apply Keeps.step (State.tickFree_keeps ..); on_goal 1 => decide)
    | (with_reducible apply Keeps.step (State.setChan_keeps ..); on_goal 1 => decide)
    | (with_reducible apply Keeps.step (State.modChan_keeps ..); on_goal 1 => decide)
    | with_reducible apply Keeps.ite
    | with_reducible apply Keeps.ite_fst
    | (extract_lets +onlyGivenNames x; with_reducible apply Keeps.cut (x := by apply x) <;> [(unfold x; clear x); (clear_value x; intro _; revert x; intros)])
    | (extract_lets +onlyGivenNames x; with_reducible apply Keeps.cut (x := by apply x.1) <;> [(unfold x; clear x); (clear_value x; intro _; revert x; intros)])
    | (extract_lets +onlyGivenNames x; clear_value x; revert x; intros)
    | split
    | dsimp -zeta only)

theorem writeTrack_keeps (c rs runtime : Nat) (counts : List Nat) (s : State) : Keeps 3688890351 s (writeTrack c rs runtime counts s) := by
  unfold writeTrack
  repeat' (first
    | with_reducible exact Keeps.refl _
    | with_reducible assumption
    | (with_reducible apply Keeps.step (calCause_keeps ..); on_goal 1 => decide)
    | (with_reducible apply Keeps.step (trackOne_keeps ..); on_goal 1 => decide)
    | with_reducible apply Keeps.ite
    | with_reducible apply Keeps.ite_fst
    | (with_reducible apply Keeps.foldl <;> [skip; intro _ _ _])
    | (with_reducible apply Keeps.foldl_fst <;> [skip; intro _ _ _])
    | (extract_lets +onlyGivenNames x; with_reducible apply Keeps.cut (x := by apply x) <;> [(unfold x; clear x); (clear_value x; intro _; revert x; intros)])
    | (extract_lets +onlyGivenNames x; with_reducible apply Keeps.cut (x := by apply x.1) <;> [(unfold x; clear x); (clear_value x; intro _; revert x; intros)])
    | (extract_lets +onlyGivenNames x; clear_value x; revert x; intros)
    | dsimp -zeta only)

theorem execWriteTrack_keeps (c : Fin 16) (rankSlot : Fin 8) (runtime : Nat) (counts : List Nat) (s : State) {t : State} (h : execWriteTrack c rankSlot runtime counts s = .next t) : Keeps 3688890351 s t := by
  obtain rfl := Host.Outcome.next.inj h
  repeat' (first
    | with_reducible exact Keeps.refl _
    | with_reducible assumption
    | (with_reducible apply Keeps.step (writeTrack_keeps ..); on_goal 1 => decide)
    | dsimp -zeta only)

theorem writeRetrain_keeps (c : Nat) (centres : List Int) (s : State) : Keeps 2598371311 s (writeRetrain c centres s) := by
  unfold writeRetrain
  repeat' (first
    | with_reducible exact Keeps.refl _
    | with_reducible assumption
    | (with_reducible apply Keeps.step (claim_keeps ..); on_goal 1 => decide)
    | (with_reducible apply Keeps.step (releaseOwn_keeps ..); on_goal 1 => decide)
    | (with_reducible apply Keeps.step (endCtx_keeps ..); on_goal 1 => decide)
    | (with_reducible apply Keeps.step (setTrims_keeps ..); on_goal 1 => decide)
    | (with_reducible apply Keeps.step (applyPending_keeps ..); on_goal 1 => decide)
    | (with_reducible apply Keeps.step (deferBurst_keeps ..); on_goal 1 => decide)
    | (with_reducible apply Keeps.step (noteBurst_keeps ..); on_goal 1 => decide)
    | (with_reducible apply Keeps.step (writeTrims_keeps ..); on_goal 1 => decide)
    | (with_reducible apply Keeps.step (newBase_keeps ..); on_goal 1 => decide)
    | (with_reducible apply Keeps.step (State.addObj_keeps ..); on_goal 1 => decide)
    | with_reducible apply Keeps.ite
    | with_reducible apply Keeps.ite_fst
    | (with_reducible apply Keeps.foldl <;> [skip; intro _ _ _])
    | (with_reducible apply Keeps.foldl_fst <;> [skip; intro _ _ _])
    | (with_reducible apply Keeps.forN_fst <;> [skip; intro _ _ _])
    | (with_reducible apply Keeps.forN <;> [skip; intro _ _ _])
    | (extract_lets +onlyGivenNames x; with_reducible apply Keeps.cut (x := by apply x) <;> [(unfold x; clear x); (clear_value x; intro _; revert x; intros)])
    | (extract_lets +onlyGivenNames x; with_reducible apply Keeps.cut (x := by apply x.1) <;> [(unfold x; clear x); (clear_value x; intro _; revert x; intros)])
    | (extract_lets +onlyGivenNames x; clear_value x; revert x; intros)
    | dsimp -zeta only)

theorem execWriteRetrain_keeps (c : Fin 16) (centres : List Int) (s : State) {t : State} (h : execWriteRetrain c centres s = .next t) : Keeps 2598371311 s t := by
  obtain rfl := Host.Outcome.next.inj h
  repeat' (first
    | with_reducible exact Keeps.refl _
    | with_reducible assumption
    | (with_reducible apply Keeps.step (writeRetrain_keeps ..); on_goal 1 => decide)
    | dsimp -zeta only)

theorem refCalibrate_keeps (c : Nat) (targets : List Int) (s : State) : Keeps 2615148543 s (refCalibrate c targets s) := by
  unfold refCalibrate
  repeat' (first
    | with_reducible exact Keeps.refl _
    | with_reducible assumption
    | (with_reducible apply Keeps.step (calCause_keeps ..); on_goal 1 => decide)
    | (with_reducible apply Keeps.step (setTrims_keeps ..); on_goal 1 => decide)
    | with_reducible apply Keeps.ite
    | with_reducible apply Keeps.ite_fst
    | (with_reducible apply Keeps.forN_fst <;> [skip; intro _ _ _])
    | (with_reducible apply Keeps.forN <;> [skip; intro _ _ _])
    | (extract_lets +onlyGivenNames x; with_reducible apply Keeps.cut (x := by apply x) <;> [(unfold x; clear x); (clear_value x; intro _; revert x; intros)])
    | (extract_lets +onlyGivenNames x; with_reducible apply Keeps.cut (x := by apply x.1) <;> [(unfold x; clear x); (clear_value x; intro _; revert x; intros)])
    | (extract_lets +onlyGivenNames x; clear_value x; revert x; intros)
    | dsimp -zeta only)

theorem execRefCalibration_keeps (c : Fin 16) (targets : List Int) (s : State) {t : State} (h : execRefCalibration c targets s = .next t) : Keeps 2615148543 s t := by
  obtain rfl := Host.Outcome.next.inj h
  repeat' (first
    | with_reducible exact Keeps.refl _
    | with_reducible assumption
    | (with_reducible apply Keeps.step (refCalibrate_keeps ..); on_goal 1 => decide)
    | dsimp -zeta only)

theorem eyeScanRequest_keeps (c v : Nat) (s : State) : Keeps 3688890367 s (eyeScanRequest c v s).1 := by
  unfold eyeScanRequest
  repeat' (first
    | with_reducible exact Keeps.refl _
    | with_reducible assumption
    | (with_reducible apply Keeps.step (claim_keeps ..); on_goal 1 => decide)
    | with_reducible apply Keeps.ite
    | with_reducible apply Keeps.ite_fst
    | (extract_lets +onlyGivenNames x; with_reducible apply Keeps.cut (x := by apply x) <;> [(unfold x; clear x); (clear_value x; intro _; revert x; intros)])
    | (extract_lets +onlyGivenNames x; with_reducible apply Keeps.cut (x := by apply x.1) <;> [(unfold x; clear x); (clear_value x; intro _; revert x; intros)])
    | (extract_lets +onlyGivenNames x; clear_value x; revert x; intros)
    | dsimp -zeta only)

theorem eyeScanDone_keeps (c l : Nat) (map : List Byte) (s : State) : Keeps 6979321855 s (eyeScanDone c l map s) := by
  unfold eyeScanDone
  repeat' (first
    | with_reducible exact Keeps.refl _
    | with_reducible assumption
    | (with_reducible apply Keeps.step (State.setObj_keeps ..); on_goal 1 => decide)
    | (with_reducible apply Keeps.step (State.setRec_keeps ..); on_goal 1 => decide)
    | with_reducible apply Keeps.ite
    | (extract_lets +onlyGivenNames x; with_reducible apply Keeps.cut (x := by apply x) <;> [(unfold x; clear x); (clear_value x; intro _; revert x; intros)])
    | (extract_lets +onlyGivenNames x; clear_value x; revert x; intros)
    | dsimp -zeta only)

theorem execEyeScanComplete_keeps (c : Fin 16) (lane : Fin 10) (map : List (BitVec 8)) (s : State) {t : State} (h : execEyeScanComplete c lane map s = .next t) : Keeps 6979321855 s t := by
  obtain rfl := Host.Outcome.next.inj h
  repeat' (first
    | with_reducible exact Keeps.refl _
    | with_reducible assumption
    | (with_reducible apply Keeps.step (eyeScanDone_keeps ..); on_goal 1 => decide)
    | dsimp -zeta only)

end Sys2Proof.Machine
end

