-- ==== Sys2Proof/Laws/KeepsBays.lean ====
section
/-! SUPPORT. What each function of Machine/Bays.lean can do (see Laws/Keeps.lean). -/

set_option linter.tactic.unusedName false
set_option linter.unusedTactic false
set_option linter.unreachableTactic false

namespace Sys2Proof.Machine

theorem writeSaveFlags_keeps (b flags serial : Nat) (s : State) : Keeps 8587837439 s (writeSaveFlags b flags serial s) := by
  unfold writeSaveFlags
  repeat' (first
    | with_reducible exact Keeps.refl _
    | with_reducible assumption
    | fail_if_no_progress (with_reducible apply Keeps.upd_mram <;> [skip; decide; (intros; repeat' (first | with_reducible assumption | with_reducible exact Memory.wf_nil | with_reducible apply Memory.wf_sbN | with_reducible apply Memory.wf_sbNat | with_reducible apply Memory.wf_sb | with_reducible apply Memory.wf_filter | with_reducible apply Memory.wf_writeWords | with_reducible apply Memory.wf_foldl_sb | with_reducible exact Keeps.mramOk (by assumption) (by assumption) | split | dsimp only))])
    | dsimp -zeta only)

theorem computeTiming_keeps (c : Nat) (s : State) : Keeps 8053063679 s (computeTiming c s) := by
  unfold computeTiming
  repeat' (first
    | with_reducible exact Keeps.refl _
    | with_reducible assumption
    | (with_reducible apply Keeps.step (State.setObj_keeps ..); on_goal 1 => decide)
    | with_reducible apply Keeps.ite
    | with_reducible apply Keeps.ite_fst
    | (with_reducible apply Keeps.foldl <;> [skip; intro _ _ _])
    | (with_reducible apply Keeps.foldl_fst <;> [skip; intro _ _ _])
    | (extract_lets +onlyGivenNames x; with_reducible apply Keeps.cut (x := by apply x) <;> [(unfold x; clear x); (clear_value x; intro _; revert x; intros)])
    | (extract_lets +onlyGivenNames x; with_reducible apply Keeps.cut (x := by apply x.1) <;> [(unfold x; clear x); (clear_value x; intro _; revert x; intros)])
    | (extract_lets +onlyGivenNames x; clear_value x; revert x; intros)
    | split
    | dsimp -zeta only)

theorem retrainFenced_keeps (c : Nat) (s : State) : Keeps 6979059695 s (retrainFenced c s) := by
  unfold retrainFenced
  repeat' (first
    | with_reducible exact Keeps.refl _
    | with_reducible assumption
    | (with_reducible apply Keeps.step (startTraining_keeps ..); on_goal 1 => decide)
    | with_reducible apply Keeps.ite
    | (extract_lets +onlyGivenNames x; with_reducible apply Keeps.cut (x := by apply x) <;> [(unfold x; clear x); (clear_value x; intro _; revert x; intros)])
    | (extract_lets +onlyGivenNames x; clear_value x; revert x; intros)
    | dsimp -zeta only)

theorem discoveryFault_keeps (b cause ev : Nat) (s : State) : Keeps 3655335935 s (discoveryFault b cause ev s) := by
  unfold discoveryFault
  repeat' (first
    | with_reducible exact Keeps.refl _
    | with_reducible assumption
    | (with_reducible apply Keeps.step (releaseOwn_keeps ..); on_goal 1 => decide)
    | (with_reducible apply Keeps.step (bayFault_keeps ..); on_goal 1 => decide)
    | (with_reducible apply Keeps.step (State.raise_keeps ..); on_goal 1 => decide)
    | dsimp -zeta only)

theorem presenceLost_keeps (b : Nat) (s : State) : Keeps 2282225933 s (presenceLost b s) := by
  unfold presenceLost
  repeat' (first
    | with_reducible exact Keeps.refl _
    | with_reducible assumption
    | (with_reducible apply Keeps.step (releaseOwn_keeps ..); on_goal 1 => decide)
    | (with_reducible apply Keeps.step (setTemps_keeps ..); on_goal 1 => decide)
    | (with_reducible apply Keeps.step (setNeeds_keeps ..); on_goal 1 => decide)
    | (with_reducible apply Keeps.step (absentChannel_keeps ..); on_goal 1 => decide)
    | (with_reducible apply Keeps.step (blankBay_keeps ..); on_goal 1 => decide)
    | (with_reducible apply Keeps.step (writeSaveFlags_keeps ..); on_goal 1 => decide)
    | (with_reducible apply Keeps.step (State.setObj_keeps ..); on_goal 1 => decide)
    | (with_reducible apply Keeps.step (State.modBay_keeps ..); on_goal 1 => decide)
    | (with_reducible apply Keeps.step (State.raise_keeps ..); on_goal 1 => decide)
    | with_reducible apply Keeps.ite
    | (extract_lets +onlyGivenNames x; with_reducible apply Keeps.cut (x := by apply x) <;> [(unfold x; clear x); (clear_value x; intro _; revert x; intros)])
    | (extract_lets +onlyGivenNames x; clear_value x; revert x; intros)
    | split
    | fail_if_no_progress (with_reducible apply Keeps.upd_sup <;> [skip; decide])
    | dsimp -zeta only)

theorem latchOpened_keeps (b : Nat) (s : State) : Keeps 2282225933 s (latchOpened b s) := by
  unfold latchOpened
  repeat' (first
    | with_reducible exact Keeps.refl _
    | with_reducible assumption
    | (with_reducible apply Keeps.step (fenceChannel_keeps ..); on_goal 1 => decide)
    | (with_reducible apply Keeps.step (State.modBay_keeps ..); on_goal 1 => decide)
    | (with_reducible apply Keeps.step (State.raise_keeps ..); on_goal 1 => decide)
    | (extract_lets +onlyGivenNames x; with_reducible apply Keeps.cut (x := by apply x) <;> [(unfold x; clear x); (clear_value x; intro _; revert x; intros)])
    | (extract_lets +onlyGivenNames x; clear_value x; revert x; intros)
    | dsimp -zeta only)

theorem latchClosed_keeps (b : Nat) (s : State) : Keeps 2648440783 s (latchClosed b s) := by
  unfold latchClosed
  repeat' (first
    | with_reducible exact Keeps.refl _
    | with_reducible assumption
    | (with_reducible apply Keeps.step (bayInService_keeps ..); on_goal 1 => decide)
    | (with_reducible apply Keeps.step (exitNow_keeps ..); on_goal 1 => decide)
    | (with_reducible apply Keeps.step (bayFault_keeps ..); on_goal 1 => decide)
    | (with_reducible apply Keeps.step (setNeeds_keeps ..); on_goal 1 => decide)
    | (with_reducible apply Keeps.step (resumeChannel_keeps ..); on_goal 1 => decide)
    | (with_reducible apply Keeps.step (adjustNow_keeps ..); on_goal 1 => decide)
    | (with_reducible apply Keeps.step (State.tickFree_keeps ..); on_goal 1 => decide)
    | (with_reducible apply Keeps.step (State.modChan_keeps ..); on_goal 1 => decide)
    | with_reducible apply Keeps.ite
    | (extract_lets +onlyGivenNames x; with_reducible apply Keeps.cut (x := by apply x) <;> [(unfold x; clear x); (clear_value x; intro _; revert x; intros)])
    | (extract_lets +onlyGivenNames x; clear_value x; revert x; intros)
    | dsimp -zeta only)

theorem powerLost_keeps (b : Nat) (s : State) : Keeps 2282225933 s (powerLost b s) := by
  unfold powerLost
  repeat' (first
    | with_reducible exact Keeps.refl _
    | with_reducible assumption
    | (with_reducible apply Keeps.step (bayFault_keeps ..); on_goal 1 => decide)
    | (with_reducible apply Keeps.step (setNeeds_keeps ..); on_goal 1 => decide)
    | (with_reducible apply Keeps.step (fenceChannel_keeps ..); on_goal 1 => decide)
    | (with_reducible apply Keeps.step (blankBay_keeps ..); on_goal 1 => decide)
    | (with_reducible apply Keeps.step (State.raise_keeps ..); on_goal 1 => decide)
    | (extract_lets +onlyGivenNames x; with_reducible apply Keeps.cut (x := by apply x) <;> [(unfold x; clear x); (clear_value x; intro _; revert x; intros)])
    | (extract_lets +onlyGivenNames x; clear_value x; revert x; intros)
    | dsimp -zeta only)

theorem safeToRemove_keeps (b : Nat) (s : State) : Keeps 3655335935 s (safeToRemove b s) := by
  unfold safeToRemove
  repeat' (first
    | with_reducible exact Keeps.refl _
    | with_reducible assumption
    | (with_reducible apply Keeps.step (State.addObj_keeps ..); on_goal 1 => decide)
    | (with_reducible apply Keeps.step (State.modBay_keeps ..); on_goal 1 => decide)
    | (with_reducible apply Keeps.step (State.raise_keeps ..); on_goal 1 => decide)
    | dsimp -zeta only)

theorem bayInput_keeps (b : Nat) (held : Bool) (s : State) : Keeps 2282225933 s (bayInput b held s) := by
  unfold bayInput
  repeat' (first
    | with_reducible exact Keeps.refl _
    | with_reducible assumption
    | (with_reducible apply Keeps.step (presenceLost_keeps ..); on_goal 1 => decide)
    | (with_reducible apply Keeps.step (latchOpened_keeps ..); on_goal 1 => decide)
    | (with_reducible apply Keeps.step (latchClosed_keeps ..); on_goal 1 => decide)
    | (with_reducible apply Keeps.step (powerLost_keeps ..); on_goal 1 => decide)
    | (with_reducible apply Keeps.step (safeToRemove_keeps ..); on_goal 1 => decide)
    | (with_reducible apply Keeps.step (State.setBay_keeps ..); on_goal 1 => decide)
    | (with_reducible apply Keeps.step (State.modBay_keeps ..); on_goal 1 => decide)
    | with_reducible apply Keeps.ite
    | (extract_lets +onlyGivenNames x; with_reducible apply Keeps.cut (x := by apply x) <;> [(unfold x; clear x); (clear_value x; intro _; revert x; intros)])
    | (extract_lets +onlyGivenNames x; clear_value x; revert x; intros)
    | split
    | dsimp -zeta only)

theorem chainScan_keeps (v : BitVec 192) (s : State) : Keeps 2282225933 s (chainScan v s) := by
  unfold chainScan
  repeat' (first
    | with_reducible exact Keeps.refl _
    | with_reducible assumption
    | (with_reducible apply Keeps.step (bayInput_keeps ..); on_goal 1 => decide)
    | (with_reducible apply Keeps.step (State.tickFree_keeps ..); on_goal 1 => decide)
    | (with_reducible apply Keeps.step (State.setObj_keeps ..); on_goal 1 => decide)
    | (with_reducible apply Keeps.step (State.addObj_keeps ..); on_goal 1 => decide)
    | (with_reducible apply Keeps.step (State.modBay_keeps ..); on_goal 1 => decide)
    | (with_reducible apply Keeps.step (State.raise_keeps ..); on_goal 1 => decide)
    | with_reducible apply Keeps.ite
    | (with_reducible apply Keeps.forN <;> [skip; intro _ _ _])
    | (extract_lets +onlyGivenNames x; with_reducible apply Keeps.cut (x := by apply x) <;> [(unfold x; clear x); (clear_value x; intro _; revert x; intros)])
    | (extract_lets +onlyGivenNames x; clear_value x; revert x; intros)
    | fail_if_no_progress (with_reducible apply Keeps.upd_sup <;> [skip; decide])
    | dsimp -zeta only)

theorem execBayChainScan_keeps (bits : BitVec 192) (s : State) {t : State} (h : execBayChainScan bits s = .next t) : Keeps 2282225933 s t := by
  obtain rfl := Host.Outcome.next.inj h
  repeat' (first
    | with_reducible exact Keeps.refl _
    | with_reducible assumption
    | (with_reducible apply Keeps.step (chainScan_keeps ..); on_goal 1 => decide)
    | dsimp -zeta only)

theorem askRemoval_keeps (b : Nat) (s : State) : Keeps 3655335935 s (askRemoval b s) := by
  unfold askRemoval
  repeat' (first
    | with_reducible exact Keeps.refl _
    | with_reducible assumption
    | (with_reducible apply Keeps.step (State.setObj_keeps ..); on_goal 1 => decide)
    | (with_reducible apply Keeps.step (State.modBay_keeps ..); on_goal 1 => decide)
    | (with_reducible apply Keeps.step (State.raise_keeps ..); on_goal 1 => decide)
    | with_reducible apply Keeps.ite
    | dsimp -zeta only)

theorem fenceDue_keeps (c : Nat) (s : State) : Keeps 2315780365 s (fenceDue c s) := by
  unfold fenceDue
  repeat' (first
    | with_reducible exact Keeps.refl _
    | with_reducible assumption
    | (with_reducible apply Keeps.step (fenceSettle_keeps ..); on_goal 1 => decide)
    | (with_reducible apply Keeps.step (fenceChannel_keeps ..); on_goal 1 => decide)
    | with_reducible apply Keeps.ite
    | (extract_lets +onlyGivenNames x; with_reducible apply Keeps.cut (x := by apply x) <;> [(unfold x; clear x); (clear_value x; intro _; revert x; intros)])
    | (extract_lets +onlyGivenNames x; clear_value x; revert x; intros)
    | dsimp -zeta only)

theorem startDiscovery_keeps (b : Nat) (s : State) : Keeps 3655335935 s (startDiscovery b s) := by
  unfold startDiscovery
  repeat' (first
    | with_reducible exact Keeps.refl _
    | with_reducible assumption
    | (with_reducible apply Keeps.step (claim_keeps ..); on_goal 1 => decide)
    | (with_reducible apply Keeps.step (State.modBay_keeps ..); on_goal 1 => decide)
    | with_reducible apply Keeps.ite
    | with_reducible apply Keeps.ite_fst
    | (extract_lets +onlyGivenNames x; with_reducible apply Keeps.cut (x := by apply x) <;> [(unfold x; clear x); (clear_value x; intro _; revert x; intros)])
    | (extract_lets +onlyGivenNames x; with_reducible apply Keeps.cut (x := by apply x.1) <;> [(unfold x; clear x); (clear_value x; intro _; revert x; intros)])
    | (extract_lets +onlyGivenNames x; clear_value x; revert x; intros)
    | dsimp -zeta only)

theorem buttonPress_keeps (b : Nat) (s : State) : Keeps 3655335935 s (buttonPress b s) := by
  unfold buttonPress
  repeat' (first
    | with_reducible exact Keeps.refl _
    | with_reducible assumption
    | (with_reducible apply Keeps.step (askRemoval_keeps ..); on_goal 1 => decide)
    | (with_reducible apply Keeps.step (startDiscovery_keeps ..); on_goal 1 => decide)
    | with_reducible apply Keeps.ite
    | split
    | dsimp -zeta only)

theorem execButtonPress_keeps (b : Fin 32) (s : State) {t : State} (h : execButtonPress b s = .next t) : Keeps 3655335935 s t := by
  obtain rfl := Host.Outcome.next.inj h
  repeat' (first
    | with_reducible exact Keeps.refl _
    | with_reducible assumption
    | (with_reducible apply Keeps.step (buttonPress_keeps ..); on_goal 1 => decide)
    | dsimp -zeta only)

theorem bayCommand_keeps (b v : Nat) (s : State) : Keeps 3655335935 s (bayCommand b v s).1 := by
  unfold bayCommand
  repeat' (first
    | with_reducible exact Keeps.refl _
    | with_reducible assumption
    | (with_reducible apply Keeps.step (askRemoval_keeps ..); on_goal 1 => decide)
    | (with_reducible apply Keeps.step (State.modBay_keeps ..); on_goal 1 => decide)
    | with_reducible apply Keeps.ite
    | with_reducible apply Keeps.ite_fst
    | split
    | dsimp -zeta only)

theorem execLedTestExpiry_keeps (b : Fin 32) (s : State) {t : State} (h : execLedTestExpiry b s = .next t) : Keeps 8556380159 s t := by
  obtain rfl := Host.Outcome.next.inj h
  repeat' (first
    | with_reducible exact Keeps.refl _
    | with_reducible assumption
    | (with_reducible apply Keeps.step (State.modBay_keeps ..); on_goal 1 => decide)
    | dsimp -zeta only)

theorem execRefusedPressBlinkEnd_keeps (b : Fin 32) (s : State) {t : State} (h : execRefusedPressBlinkEnd b s = .next t) : Keeps 8556380159 s t := by
  obtain rfl := Host.Outcome.next.inj h
  repeat' (first
    | with_reducible exact Keeps.refl _
    | with_reducible assumption
    | (with_reducible apply Keeps.step (State.modBay_keeps ..); on_goal 1 => decide)
    | dsimp -zeta only)

theorem insertion_keeps (b : Nat) (s : State) : Keeps 3655335935 s (insertion b s) := by
  unfold insertion
  repeat' (first
    | with_reducible exact Keeps.refl _
    | with_reducible assumption
    | (with_reducible apply Keeps.step (claim_keeps ..); on_goal 1 => decide)
    | (with_reducible apply Keeps.step (State.modBay_keeps ..); on_goal 1 => decide)
    | (with_reducible apply Keeps.step (State.raise_keeps ..); on_goal 1 => decide)
    | with_reducible apply Keeps.ite
    | with_reducible apply Keeps.ite_fst
    | (extract_lets +onlyGivenNames x; with_reducible apply Keeps.cut (x := by apply x) <;> [(unfold x; clear x); (clear_value x; intro _; revert x; intros)])
    | (extract_lets +onlyGivenNames x; with_reducible apply Keeps.cut (x := by apply x.1) <;> [(unfold x; clear x); (clear_value x; intro _; revert x; intros)])
    | (extract_lets +onlyGivenNames x; clear_value x; revert x; intros)
    | split
    | dsimp -zeta only)

theorem execInsertion_keeps (b : Fin 32) (s : State) {t : State} (h : execInsertion b s = .next t) : Keeps 3655335935 s t := by
  obtain rfl := Host.Outcome.next.inj h
  repeat' (first
    | with_reducible exact Keeps.refl _
    | with_reducible assumption
    | (with_reducible apply Keeps.step (insertion_keeps ..); on_goal 1 => decide)
    | dsimp -zeta only)

theorem newModule_keeps (b : Nat) (m : ModuleInfo) (s : State) : Keeps 8017281007 s (newModule b m s) := by
  unfold newModule
  repeat' (first
    | with_reducible exact Keeps.refl _
    | with_reducible assumption
    | (with_reducible apply Keeps.step (setErased_keeps ..); on_goal 1 => decide)
    | (with_reducible apply Keeps.step (setNeeds_keeps ..); on_goal 1 => decide)
    | (with_reducible apply Keeps.step (blankBay_keeps ..); on_goal 1 => decide)
    | (with_reducible apply Keeps.step (writeSaveFlags_keeps ..); on_goal 1 => decide)
    | (with_reducible apply Keeps.step (State.setObj_keeps ..); on_goal 1 => decide)
    | (with_reducible apply Keeps.step (State.modChan_keeps ..); on_goal 1 => decide)
    | (with_reducible apply Keeps.step (State.modBay_keeps ..); on_goal 1 => decide)
    | with_reducible apply Keeps.ite
    | with_reducible apply Keeps.ite_fst
    | (with_reducible apply Keeps.forN_fst <;> [skip; intro _ _ _])
    | (with_reducible apply Keeps.forN <;> [skip; intro _ _ _])
    | (extract_lets +onlyGivenNames x; with_reducible apply Keeps.cut (x := by apply x) <;> [(unfold x; clear x); (clear_value x; intro _; revert x; intros)])
    | (extract_lets +onlyGivenNames x; with_reducible apply Keeps.cut (x := by apply x.1) <;> [(unfold x; clear x); (clear_value x; intro _; revert x; intros)])
    | (extract_lets +onlyGivenNames x; clear_value x; revert x; intros)
    | dsimp -zeta only)

theorem discovered_keeps (b : Nat) (m : ModuleInfo) (s : State) : Keeps 2581200879 s (discovered b m s) := by
  unfold discovered
  repeat' (first
    | with_reducible exact Keeps.refl _
    | with_reducible assumption
    | (with_reducible apply Keeps.step (releaseOwn_keeps ..); on_goal 1 => decide)
    | (with_reducible apply Keeps.step (computeTiming_keeps ..); on_goal 1 => decide)
    | (with_reducible apply Keeps.step (retrainFenced_keeps ..); on_goal 1 => decide)
    | (with_reducible apply Keeps.step (discoveryFault_keeps ..); on_goal 1 => decide)
    | (with_reducible apply Keeps.step (newModule_keeps ..); on_goal 1 => decide)
    | (with_reducible apply Keeps.step (State.modBay_keeps ..); on_goal 1 => decide)
    | with_reducible apply Keeps.ite
    | (extract_lets +onlyGivenNames x; with_reducible apply Keeps.cut (x := by apply x) <;> [(unfold x; clear x); (clear_value x; intro _; revert x; intros)])
    | (extract_lets +onlyGivenNames x; clear_value x; revert x; intros)
    | split
    | dsimp -zeta only)

theorem execDiscoveryComplete_keeps (b : Fin 32) (m : ModuleInfo) (s : State) {t : State} (h : execDiscoveryComplete b m s = .next t) : Keeps 2581200879 s t := by
  obtain rfl := Host.Outcome.next.inj h
  repeat' (first
    | with_reducible exact Keeps.refl _
    | with_reducible assumption
    | (with_reducible apply Keeps.step (discovered_keeps ..); on_goal 1 => decide)
    | dsimp -zeta only)

theorem pmicOnTimeout_keeps (b : Nat) (s : State) : Keeps 3655335935 s (pmicOnTimeout b s) := by
  unfold pmicOnTimeout
  repeat' (first
    | with_reducible exact Keeps.refl _
    | with_reducible assumption
    | (with_reducible apply Keeps.step (discoveryFault_keeps ..); on_goal 1 => decide)
    | with_reducible apply Keeps.ite
    | dsimp -zeta only)

theorem execPmicOnTimeout_keeps (b : Fin 32) (s : State) {t : State} (h : execPmicOnTimeout b s = .next t) : Keeps 3655335935 s t := by
  obtain rfl := Host.Outcome.next.inj h
  repeat' (first
    | with_reducible exact Keeps.refl _
    | with_reducible assumption
    | (with_reducible apply Keeps.step (pmicOnTimeout_keeps ..); on_goal 1 => decide)
    | dsimp -zeta only)

theorem pmicOffTimeout_keeps (b : Nat) (s : State) : Keeps 8019509247 s (pmicOffTimeout b s) := by
  unfold pmicOffTimeout
  repeat' (first
    | with_reducible exact Keeps.refl _
    | with_reducible assumption
    | (with_reducible apply Keeps.step (bayFault_keeps ..); on_goal 1 => decide)
    | with_reducible apply Keeps.ite
    | dsimp -zeta only)

theorem execPmicOffTimeout_keeps (b : Fin 32) (s : State) {t : State} (h : execPmicOffTimeout b s = .next t) : Keeps 8019509247 s t := by
  obtain rfl := Host.Outcome.next.inj h
  repeat' (first
    | with_reducible exact Keeps.refl _
    | with_reducible assumption
    | (with_reducible apply Keeps.step (pmicOffTimeout_keeps ..); on_goal 1 => decide)
    | dsimp -zeta only)

theorem restoreFailed_keeps (b : Nat) (s : State) : Keeps 8017412095 s (restoreFailed b s) := by
  unfold restoreFailed
  repeat' (first
    | with_reducible exact Keeps.refl _
    | with_reducible assumption
    | (with_reducible apply Keeps.step (bayFault_keeps ..); on_goal 1 => decide)
    | (with_reducible apply Keeps.step (setNeeds_keeps ..); on_goal 1 => decide)
    | dsimp -zeta only)

theorem restoreComplete_keeps (b : Nat) (status : Nat) (s : State) : Keeps 8000634879 s (restoreComplete b status s) := by
  unfold restoreComplete
  repeat' (first
    | with_reducible exact Keeps.refl _
    | with_reducible assumption
    | (with_reducible apply Keeps.step (setSaveFlag_keeps ..); on_goal 1 => decide)
    | (with_reducible apply Keeps.step (restoreFailed_keeps ..); on_goal 1 => decide)
    | (with_reducible apply Keeps.step (State.setObj_keeps ..); on_goal 1 => decide)
    | (with_reducible apply Keeps.step (State.modBay_keeps ..); on_goal 1 => decide)
    | with_reducible apply Keeps.ite
    | (extract_lets +onlyGivenNames x; with_reducible apply Keeps.cut (x := by apply x) <;> [(unfold x; clear x); (clear_value x; intro _; revert x; intros)])
    | (extract_lets +onlyGivenNames x; clear_value x; revert x; intros)
    | split
    | fail_if_no_progress (with_reducible apply Keeps.upd_sup <;> [skip; decide])
    | dsimp -zeta only)

theorem execRestoreComplete_keeps (b : Fin 32) (status : BitVec 8) (s : State) {t : State} (h : execRestoreComplete b status s = .next t) : Keeps 8000634879 s t := by
  obtain rfl := Host.Outcome.next.inj h
  repeat' (first
    | with_reducible exact Keeps.refl _
    | with_reducible assumption
    | (with_reducible apply Keeps.step (restoreComplete_keeps ..); on_goal 1 => decide)
    | dsimp -zeta only)

theorem restoreTimeout_keeps (b : Nat) (s : State) : Keeps 3655335935 s (restoreTimeout b s) := by
  unfold restoreTimeout
  repeat' (first
    | with_reducible exact Keeps.refl _
    | with_reducible assumption
    | (with_reducible apply Keeps.step (restoreFailed_keeps ..); on_goal 1 => decide)
    | (with_reducible apply Keeps.step (State.raise_keeps ..); on_goal 1 => decide)
    | with_reducible apply Keeps.ite
    | dsimp -zeta only)

theorem execRestoreTimeout_keeps (b : Fin 32) (s : State) {t : State} (h : execRestoreTimeout b s = .next t) : Keeps 3655335935 s t := by
  obtain rfl := Host.Outcome.next.inj h
  repeat' (first
    | with_reducible exact Keeps.refl _
    | with_reducible assumption
    | (with_reducible apply Keeps.step (restoreTimeout_keeps ..); on_goal 1 => decide)
    | dsimp -zeta only)

theorem tempPoll_keeps (b : Nat) (reading : Option Int) (s : State) : Keeps 3655335919 s (tempPoll b reading s) := by
  unfold tempPoll
  repeat' (first
    | with_reducible exact Keeps.refl _
    | with_reducible assumption
    | (with_reducible apply Keeps.step (setTemps_keeps ..); on_goal 1 => decide)
    | (with_reducible apply Keeps.step (noteTemp_keeps ..); on_goal 1 => decide)
    | (with_reducible apply Keeps.step (State.modBay_keeps ..); on_goal 1 => decide)
    | (with_reducible apply Keeps.step (State.raise_keeps ..); on_goal 1 => decide)
    | with_reducible apply Keeps.ite
    | (extract_lets +onlyGivenNames x; with_reducible apply Keeps.cut (x := by apply x) <;> [(unfold x; clear x); (clear_value x; intro _; revert x; intros)])
    | (extract_lets +onlyGivenNames x; clear_value x; revert x; intros)
    | split
    | dsimp -zeta only)

theorem execSidebandTempPoll_keeps (b : Fin 32) (reading : Option Int) (s : State) {t : State} (h : execSidebandTempPoll b reading s = .next t) : Keeps 3655335919 s t := by
  obtain rfl := Host.Outcome.next.inj h
  repeat' (first
    | with_reducible exact Keeps.refl _
    | with_reducible assumption
    | (with_reducible apply Keeps.step (tempPoll_keeps ..); on_goal 1 => decide)
    | dsimp -zeta only)

end Sys2Proof.Machine
end

