-- ==== Sys2Proof/Laws/KeepsReset.lean ====
section
/-! SUPPORT. What each function of Machine/Reset.lean can do (see Laws/Keeps.lean). -/

set_option linter.tactic.unusedName false
set_option linter.unusedTactic false
set_option linter.unreachableTactic false

namespace Sys2Proof.Machine

theorem discardStaged_keeps (s : State) : Keeps 8455716863 s (discardStaged s) := by
  unfold discardStaged
  repeat' (first
    | with_reducible exact Keeps.refl _
    | with_reducible assumption
    | fail_if_no_progress (with_reducible apply Keeps.upd_mgmt <;> [skip; decide; (intros; repeat' (first | with_reducible assumption | with_reducible exact Memory.wf_nil | with_reducible apply Memory.wf_sbN | with_reducible apply Memory.wf_sbNat | with_reducible apply Memory.wf_sb | with_reducible apply Memory.wf_filter | with_reducible apply Memory.wf_writeWords | with_reducible apply Memory.wf_foldl_sb | with_reducible exact Keeps.mramOk (by assumption) (by assumption) | split | dsimp only)); (intros; repeat' (first | with_reducible assumption | with_reducible exact Memory.wf_nil | with_reducible apply Memory.wf_sbN | with_reducible apply Memory.wf_sbNat | with_reducible apply Memory.wf_sb | with_reducible apply Memory.wf_filter | with_reducible apply Memory.wf_writeWords | with_reducible apply Memory.wf_foldl_sb | with_reducible exact Keeps.mramOk (by assumption) (by assumption) | split | dsimp only))])
    | dsimp -zeta only)

theorem cancelCommit_keeps (s : State) : Keeps 7918845951 s (cancelCommit s) := by
  unfold cancelCommit
  repeat' (first
    | with_reducible exact Keeps.refl _
    | with_reducible assumption
    | (with_reducible apply Keeps.step (discardStaged_keeps ..); on_goal 1 => decide)
    | (with_reducible apply Keeps.step (State.setObj_keeps ..); on_goal 1 => decide)
    | with_reducible apply Keeps.ite
    | dsimp -zeta only)

theorem resetLogic_keeps (kind : Nat) (s : State) : Keeps 4313972736 s (resetLogic kind s) := by
  unfold resetLogic
  dsimp only
  refine Keeps.step (State.setObj_keeps ..) (by decide) (Keeps.step (State.setObj_keeps ..) (by decide) ?_)
  constructor
  case mramOk => exact id
  case recsOk => exact fun _ => rfl
  case stagedOk => intro _; dsimp only; split <;> rfl
  case winOk => intro _; dsimp only; split <;> rfl
  all_goals first | rfl | exact fun _ => rfl | exact fun b => absurd b (by decide)


theorem startAtS1_keeps (kind : Nat) (s : State) : Keeps 4297195520 s (startAtS1 kind s) := by
  unfold startAtS1
  repeat' (first
    | with_reducible exact Keeps.refl _
    | with_reducible assumption
    | (with_reducible apply Keeps.step (resetLogic_keeps ..); on_goal 1 => decide)
    | (extract_lets +onlyGivenNames x; with_reducible apply Keeps.cut (x := by apply x) <;> [(unfold x; clear x); (clear_value x; intro _; revert x; intros)])
    | (extract_lets +onlyGivenNames x; clear_value x; revert x; intros)
    | fail_if_no_progress (with_reducible apply Keeps.upd_sup_blk <;> [skip; decide])
    | dsimp -zeta only)

theorem startAtS0_keeps (s : State) : Keeps 4297195520 s (startAtS0 s) := by
  unfold startAtS0
  repeat' (first
    | with_reducible exact Keeps.refl _
    | with_reducible assumption
    | (with_reducible apply Keeps.step (resetLogic_keeps ..); on_goal 1 => decide)
    | (extract_lets +onlyGivenNames x; with_reducible apply Keeps.cut (x := by apply x) <;> [(unfold x; clear x); (clear_value x; intro _; revert x; intros)])
    | (extract_lets +onlyGivenNames x; clear_value x; revert x; intros)
    | fail_if_no_progress (with_reducible apply Keeps.upd_sup_blk <;> [skip; decide])
    | dsimp -zeta only)

theorem recomputePower_keeps (s : State) : Keeps 3758096383 s (recomputePower s) := by
  unfold recomputePower
  repeat' (first
    | with_reducible exact Keeps.refl _
    | with_reducible assumption
    | (with_reducible apply Keeps.step (State.tickFree_keeps ..); on_goal 1 => decide)
    | (with_reducible apply Keeps.step (State.setObj_keeps ..); on_goal 1 => decide)
    | (extract_lets +onlyGivenNames x; with_reducible apply Keeps.cut (x := by apply x) <;> [(unfold x; clear x); (clear_value x; intro _; revert x; intros)])
    | (extract_lets +onlyGivenNames x; clear_value x; revert x; intros)
    | dsimp -zeta only)

end Sys2Proof.Machine
end

