-- ==== Sys2Proof/Laws/KeepsSupply.lean ====
section
/-! SUPPORT. What each function of Machine/Supply.lean can do (see Laws/Keeps.lean). -/

set_option linter.tactic.unusedName false
set_option linter.unusedTactic false
set_option linter.unreachableTactic false

namespace Sys2Proof.Machine

theorem Memory.wf_writeWords (ws : List (Nat × List Byte)) (m : List Host.Cell) (h : Memory.wf m = true) :
    Memory.wf (writeWords ws m) = true := by
  induction ws generalizing m with
  | nil => exact h
  | cons w ws ih => exact ih _ (Memory.wf_sbN m w.1 w.2 h)

theorem squallWriteBack_keeps (c l : Nat) (s : State) : Keeps 8053062607 s (squallWriteBack c l s) := by
  unfold squallWriteBack
  repeat' (first
    | with_reducible exact Keeps.refl _
    | with_reducible assumption
    | (with_reducible apply Keeps.step (enqueue_keeps ..); on_goal 1 => decide)
    | (with_reducible apply Keeps.step (queueMetaReads_keeps ..); on_goal 1 => decide)
    | (with_reducible apply Keeps.step (State.modChan_keeps ..); on_goal 1 => decide)
    | (with_reducible apply Keeps.step (State.setPline_keeps ..); on_goal 1 => decide)
    | with_reducible apply Keeps.ite
    | (extract_lets +onlyGivenNames x; with_reducible apply Keeps.cut (x := by apply x) <;> [(unfold x; clear x); (clear_value x; intro _; revert x; intros)])
    | (extract_lets +onlyGivenNames x; unfold x; clear x)
    | split
    | dsimp -zeta only)

theorem flushKey_keeps (k : Nat) (s : State) : Keeps 2340947919 s (flushKey k s) := by
  unfold flushKey
  repeat' (first
    | with_reducible exact Keeps.refl _
    | with_reducible assumption
    | (with_reducible apply Keeps.step (flushLedger_keeps ..); on_goal 1 => decide)
    | with_reducible apply Keeps.ite
    | split
    | dsimp -zeta only)

theorem commitGroup_keeps (g : DrainGroup) (cost : Nat) (s : State) : Keeps 2324169679 s (commitGroup g cost s) := by
  unfold commitGroup
  repeat' (first
    | with_reducible exact Keeps.refl _
    | with_reducible assumption
    | (with_reducible apply Keeps.step (squallWriteBack_keeps ..); on_goal 1 => decide)
    | (with_reducible apply Keeps.step (flushKey_keeps ..); on_goal 1 => decide)
    | with_reducible apply Keeps.ite
    | with_reducible apply Keeps.ite_fst
    | (with_reducible apply Keeps.foldl <;> [skip; intro _ _ _])
    | (with_reducible apply Keeps.foldl_fst <;> [skip; intro _ _ _])
    | (extract_lets +onlyGivenNames x; with_reducible apply Keeps.cut (x := by apply x) <;> [(unfold x; clear x); (clear_value x; intro _; revert x; intros)])
    | (extract_lets +onlyGivenNames x; with_reducible apply Keeps.cut (x := by apply x.1) <;> [(unfold x; clear x); (clear_value x; intro _; revert x; intros)])
    | (extract_lets +onlyGivenNames x; clear_value x; revert x; intros)
    | fail_if_no_progress (with_reducible apply Keeps.upd_sup <;> [skip; decide])
    | dsimp -zeta only)

theorem leaveGroup_keeps (g : DrainGroup) (s : State) : Keeps 8573157375 s (leaveGroup g s) := by
  unfold leaveGroup
  repeat' (first
    | with_reducible exact Keeps.refl _
    | with_reducible assumption
    | with_reducible apply Keeps.ite
    | (extract_lets +onlyGivenNames x; with_reducible apply Keeps.cut (x := by apply x) <;> [(unfold x; clear x); (clear_value x; intro _; revert x; intros)])
    | (extract_lets +onlyGivenNames x; clear_value x; revert x; intros)
    | fail_if_no_progress (with_reducible apply Keeps.upd_sup <;> [skip; decide])
    | dsimp -zeta only)

theorem planDrain_keeps (s : State) : Keeps 2324169679 s (planDrain s) := by
  unfold planDrain
  repeat' (first
    | with_reducible exact Keeps.refl _
    | with_reducible assumption
    | (with_reducible apply Keeps.step (commitGroup_keeps ..); on_goal 1 => decide)
    | (with_reducible apply Keeps.step (leaveGroup_keeps ..); on_goal 1 => decide)
    | with_reducible apply Keeps.ite
    | with_reducible apply Keeps.ite_fst
    | (with_reducible apply Keeps.foldl <;> [skip; intro _ _ _])
    | (with_reducible apply Keeps.foldl_fst <;> [skip; intro _ _ _])
    | (extract_lets +onlyGivenNames x; with_reducible apply Keeps.cut (x := by apply x) <;> [(unfold x; clear x); (clear_value x; intro _; revert x; intros)])
    | (extract_lets +onlyGivenNames x; with_reducible apply Keeps.cut (x := by apply x.1) <;> [(unfold x; clear x); (clear_value x; intro _; revert x; intros)])
    | (extract_lets +onlyGivenNames x; clear_value x; revert x; intros)
    | split
    | fail_if_no_progress (with_reducible apply Keeps.upd_sup <;> [skip; decide])
    | dsimp -zeta only)

theorem drainStep_keeps (s : State) : Keeps 2324169679 s (drainStep s) := by
  unfold drainStep
  repeat' (first
    | with_reducible exact Keeps.refl _
    | with_reducible assumption
    | (with_reducible apply Keeps.step (squallWriteBack_keeps ..); on_goal 1 => decide)
    | (with_reducible apply Keeps.step (planDrain_keeps ..); on_goal 1 => decide)
    | with_reducible apply Keeps.ite
    | with_reducible apply Keeps.ite_fst
    | (with_reducible apply Keeps.foldl <;> [skip; intro _ _ _])
    | (with_reducible apply Keeps.foldl_fst <;> [skip; intro _ _ _])
    | (extract_lets +onlyGivenNames x; with_reducible apply Keeps.cut (x := by apply x) <;> [(unfold x; clear x); (clear_value x; intro _; revert x; intros)])
    | (extract_lets +onlyGivenNames x; with_reducible apply Keeps.cut (x := by apply x.1) <;> [(unfold x; clear x); (clear_value x; intro _; revert x; intros)])
    | (extract_lets +onlyGivenNames x; clear_value x; revert x; intros)
    | split
    | dsimp -zeta only)

theorem withdraw_keeps (r : Req) (s : State) : Keeps 8589933645 s (withdraw r s) := by
  unfold withdraw
  repeat' (first
    | with_reducible exact Keeps.refl _
    | with_reducible assumption
    | (with_reducible apply Keeps.step (State.modPort_keeps ..); on_goal 1 => decide)
    | (with_reducible apply Keeps.step (State.modChan_keeps ..); on_goal 1 => decide)
    | with_reducible apply Keeps.ite
    | with_reducible apply Keeps.ite_fst
    | (with_reducible apply Keeps.forN_fst <;> [skip; intro _ _ _])
    | (with_reducible apply Keeps.forN <;> [skip; intro _ _ _])
    | (extract_lets +onlyGivenNames x; with_reducible apply Keeps.cut (x := by apply x) <;> [(unfold x; clear x); (clear_value x; intro _; revert x; intros)])
    | (extract_lets +onlyGivenNames x; with_reducible apply Keeps.cut (x := by apply x.1) <;> [(unfold x; clear x); (clear_value x; intro _; revert x; intros)])
    | (extract_lets +onlyGivenNames x; unfold x; clear x)
    | split
    | fail_if_no_progress (with_reducible apply Keeps.upd_plaza_order_transit_gathers <;> [skip; decide])
    | dsimp -zeta only)

theorem failReads_keeps (s : State) : Keeps 3688889421 s (failReads s) := by
  unfold failReads
  repeat' (first
    | with_reducible exact Keeps.refl _
    | with_reducible assumption
    | (with_reducible apply Keeps.step (respond_keeps ..); on_goal 1 => decide)
    | (with_reducible apply Keeps.step (withdraw_keeps ..); on_goal 1 => decide)
    | with_reducible apply Keeps.ite
    | with_reducible apply Keeps.ite_fst
    | (with_reducible apply Keeps.foldl <;> [skip; intro _ _ _])
    | (with_reducible apply Keeps.foldl_fst <;> [skip; intro _ _ _])
    | dsimp -zeta only)

theorem closeAllFrames_keeps (s : State) : Keeps 8044675071 s (closeAllFrames s) := by
  unfold closeAllFrames
  repeat' (first
    | with_reducible exact Keeps.refl _
    | with_reducible assumption
    | (with_reducible apply Keeps.step (closeFrame_keeps ..); on_goal 1 => decide)
    | with_reducible apply Keeps.ite
    | (with_reducible apply Keeps.forN <;> [skip; intro _ _ _])
    | dsimp -zeta only)

theorem discardForwarded_keeps (s : State) : Keeps 8581545983 s (discardForwarded s) := by
  unfold discardForwarded
  repeat' (first
    | with_reducible exact Keeps.refl _
    | with_reducible assumption
    | (with_reducible apply Keeps.step (State.setRx_keeps ..); on_goal 1 => decide)
    | with_reducible apply Keeps.ite
    | (with_reducible apply Keeps.forN <;> [skip; intro _ _ _])
    | dsimp -zeta only)

theorem setEnergy_keeps (cause : Nat) (s : State) : Keeps 3741319167 s (setEnergy cause s) := by
  unfold setEnergy
  repeat' (first
    | with_reducible exact Keeps.refl _
    | with_reducible assumption
    | (with_reducible apply Keeps.step (recomputePower_keeps ..); on_goal 1 => decide)
    | (with_reducible apply Keeps.step (State.setObj_keeps ..); on_goal 1 => decide)
    | with_reducible apply Keeps.ite
    | (extract_lets +onlyGivenNames x; with_reducible apply Keeps.cut (x := by apply x) <;> [(unfold x; clear x); (clear_value x; intro _; revert x; intros)])
    | (extract_lets +onlyGivenNames x; clear_value x; revert x; intros)
    | split
    | fail_if_no_progress (with_reducible apply Keeps.upd_sup <;> [skip; decide])
    | dsimp -zeta only)

theorem cutOff_keeps (cause input after : Nat) (s : State) : Keeps 2181562445 s (cutOff cause input after s) := by
  unfold cutOff
  repeat' (first
    | with_reducible exact Keeps.refl _
    | with_reducible assumption
    | (with_reducible apply Keeps.step (abortBursts_keeps ..); on_goal 1 => decide)
    | (with_reducible apply Keeps.step (sendAnswer_keeps ..); on_goal 1 => decide)
    | (with_reducible apply Keeps.step (cancelCommit_keeps ..); on_goal 1 => decide)
    | (with_reducible apply Keeps.step (planDrain_keeps ..); on_goal 1 => decide)
    | (with_reducible apply Keeps.step (failReads_keeps ..); on_goal 1 => decide)
    | (with_reducible apply Keeps.step (closeAllFrames_keeps ..); on_goal 1 => decide)
    | (with_reducible apply Keeps.step (discardForwarded_keeps ..); on_goal 1 => decide)
    | (with_reducible apply Keeps.step (setEnergy_keeps ..); on_goal 1 => decide)
    | (with_reducible apply Keeps.step (State.setObj_keeps ..); on_goal 1 => decide)
    | (with_reducible apply Keeps.step (State.raise_keeps ..); on_goal 1 => decide)
    | with_reducible apply Keeps.ite
    | with_reducible apply Keeps.ite_fst
    | (with_reducible apply Keeps.foldl <;> [skip; intro _ _ _])
    | (with_reducible apply Keeps.foldl_fst <;> [skip; intro _ _ _])
    | (with_reducible apply Keeps.forN_fst <;> [skip; intro _ _ _])
    | (with_reducible apply Keeps.forN <;> [skip; intro _ _ _])
    | (extract_lets +onlyGivenNames x; with_reducible apply Keeps.cut (x := by apply x) <;> [(unfold x; clear x); (clear_value x; intro _; revert x; intros)])
    | (extract_lets +onlyGivenNames x; with_reducible apply Keeps.cut (x := by apply x.1) <;> [(unfold x; clear x); (clear_value x; intro _; revert x; intros)])
    | (extract_lets +onlyGivenNames x; clear_value x; revert x; intros)
    | split
    | fail_if_no_progress (with_reducible apply Keeps.upd_sup_blk <;> [skip; decide])
    | dsimp -zeta only)

theorem loseBehind_keeps (s : State) : Keeps 8589933641 s (loseBehind s) := by
  unfold loseBehind
  repeat' (first
    | with_reducible exact Keeps.refl _
    | with_reducible assumption
    | (with_reducible apply Keeps.step (dropUnits_keeps ..); on_goal 1 => decide)
    | (with_reducible apply Keeps.step (withdraw_keeps ..); on_goal 1 => decide)
    | (with_reducible apply Keeps.foldl <;> [skip; intro _ _ _])
    | (with_reducible apply Keeps.foldl_fst <;> [skip; intro _ _ _])
    | dsimp -zeta only)

theorem storeCursors_keeps (s : State) : Keeps 8587837439 s (storeCursors s) := by
  unfold storeCursors
  repeat' (first
    | with_reducible exact Keeps.refl _
    | with_reducible assumption
    | with_reducible apply Keeps.ite
    | (with_reducible apply Keeps.forN <;> [skip; intro _ _ _])
    | (extract_lets +onlyGivenNames x; with_reducible apply Keeps.cut (x := by apply x) <;> [(unfold x; clear x); (clear_value x; intro _; revert x; intros)])
    | (extract_lets +onlyGivenNames x; clear_value x; revert x; intros)
    | fail_if_no_progress (with_reducible apply Keeps.upd_mram <;> [skip; decide; (intros; repeat' (first | with_reducible assumption | with_reducible exact Memory.wf_nil | with_reducible apply Memory.wf_sbN | with_reducible apply Memory.wf_sbNat | with_reducible apply Memory.wf_sb | with_reducible apply Memory.wf_filter | with_reducible apply Memory.wf_writeWords | with_reducible apply Memory.wf_foldl_sb | with_reducible exact Keeps.mramOk (by assumption) (by assumption) | split | dsimp only))])
    | dsimp -zeta only)

theorem squallLog_keeps (cause : Nat) (s : State) : Keeps 8571060223 s (squallLog cause s) := by
  unfold squallLog
  repeat' (first
    | with_reducible exact Keeps.refl _
    | with_reducible assumption
    | (with_reducible apply Keeps.step (writeFailure_keeps ..); on_goal 1 => decide)
    | dsimp -zeta only)

theorem reportDrain_keeps (tooMany : Bool) (entries : Nat) (s : State) : Keeps 3688890367 s (reportDrain tooMany entries s) := by
  unfold reportDrain
  repeat' (first
    | with_reducible exact Keeps.refl _
    | with_reducible assumption
    | (with_reducible apply Keeps.step (State.setObj_keeps ..); on_goal 1 => decide)
    | (with_reducible apply Keeps.step (State.raise_keeps ..); on_goal 1 => decide)
    | with_reducible apply Keeps.ite
    | with_reducible apply Keeps.ite_fst
    | (with_reducible apply Keeps.foldl <;> [skip; intro _ _ _])
    | (with_reducible apply Keeps.foldl_fst <;> [skip; intro _ _ _])
    | (extract_lets +onlyGivenNames x; with_reducible apply Keeps.cut (x := by apply x) <;> [(unfold x; clear x); (clear_value x; intro _; revert x; intros)])
    | (extract_lets +onlyGivenNames x; with_reducible apply Keeps.cut (x := by apply x.1) <;> [(unfold x; clear x); (clear_value x; intro _; revert x; intros)])
    | (extract_lets +onlyGivenNames x; clear_value x; revert x; intros)
    | dsimp -zeta only)

theorem parkChannels_keeps (p : PowSt) (s : State) : Keeps 6979321839 s (parkChannels p s) := by
  unfold parkChannels
  repeat' (first
    | with_reducible exact Keeps.refl _
    | with_reducible assumption
    | (with_reducible apply Keeps.step (enterPower_keeps ..); on_goal 1 => decide)
    | with_reducible apply Keeps.ite
    | (with_reducible apply Keeps.forN <;> [skip; intro _ _ _])
    | dsimp -zeta only)

theorem beginCommit_keeps (s : State) : Keeps 2324169801 s (beginCommit s) := by
  unfold beginCommit
  extract_lets +onlyGivenNames cause s1
  have h1 : Keeps 2324169801 s s1 := by unfold s1; repeat' (first | with_reducible exact Keeps.refl _ | with_reducible assumption | (with_reducible apply Keeps.step (writeVault_keeps ..); on_goal 1 => decide) | (with_reducible apply Keeps.step (writeRootSlot_keeps ..); on_goal 1 => decide) | (with_reducible apply Keeps.step (flushKey_keeps ..); on_goal 1 => decide) | (with_reducible apply Keeps.step (loseBehind_keeps ..); on_goal 1 => decide) | (with_reducible apply Keeps.step (storeCursors_keeps ..); on_goal 1 => decide) | (with_reducible apply Keeps.step (squallLog_keeps ..); on_goal 1 => decide) | (with_reducible apply Keeps.step (reportDrain_keeps ..); on_goal 1 => decide) | (with_reducible apply Keeps.step (parkChannels_keeps ..); on_goal 1 => decide) | (with_reducible apply Keeps.step (State.modDist_keeps ..); on_goal 1 => decide) | with_reducible apply Keeps.ite | with_reducible apply Keeps.ite_fst | (with_reducible apply Keeps.forN_fst <;> [skip; intro _ _ _]) | (with_reducible apply Keeps.forN <;> [skip; intro _ _ _]) | (extract_lets +onlyGivenNames x; with_reducible apply Keeps.cut (x := by apply x) <;> [(unfold x; clear x); (clear_value x; intro _; revert x; intros)]) | (extract_lets +onlyGivenNames x; with_reducible apply Keeps.cut (x := by apply x.1) <;> [(unfold x; clear x); (clear_value x; intro _; revert x; intros)]) | (extract_lets +onlyGivenNames x; unfold x; clear x) | split | fail_if_no_progress (with_reducible apply Keeps.upd_mram <;> [skip; decide; (intros; repeat' (first | with_reducible assumption | with_reducible exact Memory.wf_nil | with_reducible apply Memory.wf_sbN | with_reducible apply Memory.wf_sbNat | with_reducible apply Memory.wf_sb | with_reducible apply Memory.wf_filter | with_reducible apply Memory.wf_writeWords | with_reducible apply Memory.wf_foldl_sb | with_reducible exact Keeps.mramOk (by assumption) (by assumption) | split | dsimp only))]) | fail_if_no_progress (with_reducible apply Keeps.upd_mram_sup <;> [skip; decide; (intros; repeat' (first | with_reducible assumption | with_reducible exact Memory.wf_nil | with_reducible apply Memory.wf_sbN | with_reducible apply Memory.wf_sbNat | with_reducible apply Memory.wf_sb | with_reducible apply Memory.wf_filter | with_reducible apply Memory.wf_writeWords | with_reducible apply Memory.wf_foldl_sb | with_reducible exact Keeps.mramOk (by assumption) (by assumption) | split | dsimp only))]) | fail_if_no_progress (with_reducible apply Keeps.upd_vault <;> [skip; decide]) | dsimp -zeta only)
  clear_value s1
  extract_lets +onlyGivenNames s2
  have h2 : Keeps 2324169801 s s2 := by unfold s2; repeat' (first | with_reducible exact Keeps.refl _ | with_reducible assumption | (with_reducible apply Keeps.step (writeVault_keeps ..); on_goal 1 => decide) | (with_reducible apply Keeps.step (writeRootSlot_keeps ..); on_goal 1 => decide) | (with_reducible apply Keeps.step (flushKey_keeps ..); on_goal 1 => decide) | (with_reducible apply Keeps.step (loseBehind_keeps ..); on_goal 1 => decide) | (with_reducible apply Keeps.step (storeCursors_keeps ..); on_goal 1 => decide) | (with_reducible apply Keeps.step (squallLog_keeps ..); on_goal 1 => decide) | (with_reducible apply Keeps.step (reportDrain_keeps ..); on_goal 1 => decide) | (with_reducible apply Keeps.step (parkChannels_keeps ..); on_goal 1 => decide) | (with_reducible apply Keeps.step (State.modDist_keeps ..); on_goal 1 => decide) | with_reducible apply Keeps.ite | with_reducible apply Keeps.ite_fst | (with_reducible apply Keeps.forN_fst <;> [skip; intro _ _ _]) | (with_reducible apply Keeps.forN <;> [skip; intro _ _ _]) | (extract_lets +onlyGivenNames x; with_reducible apply Keeps.cut (x := by apply x) <;> [(unfold x; clear x); (clear_value x; intro _; revert x; intros)]) | (extract_lets +onlyGivenNames x; with_reducible apply Keeps.cut (x := by apply x.1) <;> [(unfold x; clear x); (clear_value x; intro _; revert x; intros)]) | (extract_lets +onlyGivenNames x; unfold x; clear x) | split | fail_if_no_progress (with_reducible apply Keeps.upd_mram <;> [skip; decide; (intros; repeat' (first | with_reducible assumption | with_reducible exact Memory.wf_nil | with_reducible apply Memory.wf_sbN | with_reducible apply Memory.wf_sbNat | with_reducible apply Memory.wf_sb | with_reducible apply Memory.wf_filter | with_reducible apply Memory.wf_writeWords | with_reducible apply Memory.wf_foldl_sb | with_reducible exact Keeps.mramOk (by assumption) (by assumption) | split | dsimp only))]) | fail_if_no_progress (with_reducible apply Keeps.upd_mram_sup <;> [skip; decide; (intros; repeat' (first | with_reducible assumption | with_reducible exact Memory.wf_nil | with_reducible apply Memory.wf_sbN | with_reducible apply Memory.wf_sbNat | with_reducible apply Memory.wf_sb | with_reducible apply Memory.wf_filter | with_reducible apply Memory.wf_writeWords | with_reducible apply Memory.wf_foldl_sb | with_reducible exact Keeps.mramOk (by assumption) (by assumption) | split | dsimp only))]) | fail_if_no_progress (with_reducible apply Keeps.upd_vault <;> [skip; decide]) | dsimp -zeta only)
  clear_value s2
  extract_lets +onlyGivenNames m0
  have hm : Memory.wf s.mram = true → Memory.wf m0 = true := h2.mramOk
  clear_value m0
  repeat' (first | with_reducible exact Keeps.refl _ | with_reducible assumption | (with_reducible apply Keeps.step (writeVault_keeps ..); on_goal 1 => decide) | (with_reducible apply Keeps.step (writeRootSlot_keeps ..); on_goal 1 => decide) | (with_reducible apply Keeps.step (flushKey_keeps ..); on_goal 1 => decide) | (with_reducible apply Keeps.step (loseBehind_keeps ..); on_goal 1 => decide) | (with_reducible apply Keeps.step (storeCursors_keeps ..); on_goal 1 => decide) | (with_reducible apply Keeps.step (squallLog_keeps ..); on_goal 1 => decide) | (with_reducible apply Keeps.step (reportDrain_keeps ..); on_goal 1 => decide) | (with_reducible apply Keeps.step (parkChannels_keeps ..); on_goal 1 => decide) | (with_reducible apply Keeps.step (State.modDist_keeps ..); on_goal 1 => decide) | with_reducible apply Keeps.ite | with_reducible apply Keeps.ite_fst | (with_reducible apply Keeps.forN_fst <;> [skip; intro _ _ _]) | (with_reducible apply Keeps.forN <;> [skip; intro _ _ _]) | (extract_lets +onlyGivenNames x; with_reducible apply Keeps.cut (x := by apply x) <;> [(unfold x; clear x); (clear_value x; intro _; revert x; intros)]) | (extract_lets +onlyGivenNames x; with_reducible apply Keeps.cut (x := by apply x.1) <;> [(unfold x; clear x); (clear_value x; intro _; revert x; intros)]) | (extract_lets +onlyGivenNames x; unfold x; clear x) | split | fail_if_no_progress (with_reducible apply Keeps.upd_mram <;> [skip; decide; (intros; repeat' (first | with_reducible assumption | with_reducible exact Memory.wf_nil | with_reducible apply Memory.wf_sbN | with_reducible apply Memory.wf_sbNat | with_reducible apply Memory.wf_sb | with_reducible apply Memory.wf_filter | with_reducible apply Memory.wf_writeWords | with_reducible apply Memory.wf_foldl_sb | with_reducible exact Keeps.mramOk (by assumption) (by assumption) | split | dsimp only))]) | fail_if_no_progress (with_reducible apply Keeps.upd_mram_sup <;> [skip; decide; (intros; repeat' (first | with_reducible assumption | with_reducible exact Memory.wf_nil | with_reducible apply Memory.wf_sbN | with_reducible apply Memory.wf_sbNat | with_reducible apply Memory.wf_sb | with_reducible apply Memory.wf_filter | with_reducible apply Memory.wf_writeWords | with_reducible apply Memory.wf_foldl_sb | with_reducible exact Keeps.mramOk (by assumption) (by assumption) | split | dsimp only))]) | fail_if_no_progress (with_reducible apply Keeps.upd_vault <;> [skip; decide]) | dsimp -zeta only)
  all_goals exact hm (by assumption)


theorem drainComplete_keeps (s : State) : Keeps 2324168777 s (drainComplete s) := by
  unfold drainComplete
  repeat' (first
    | with_reducible exact Keeps.refl _
    | with_reducible assumption
    | (with_reducible apply Keeps.step (drainStep_keeps ..); on_goal 1 => decide)
    | (with_reducible apply Keeps.step (beginCommit_keeps ..); on_goal 1 => decide)
    | with_reducible apply Keeps.ite
    | (extract_lets +onlyGivenNames x; with_reducible apply Keeps.cut (x := by apply x) <;> [(unfold x; clear x); (clear_value x; intro _; revert x; intros)])
    | (extract_lets +onlyGivenNames x; clear_value x; revert x; intros)
    | dsimp -zeta only)

theorem execDrainComplete_keeps (s : State) {t : State} (h : execDrainComplete s = .next t) : Keeps 2324168777 s t := by
  obtain rfl := Host.Outcome.next.inj h
  repeat' (first
    | with_reducible exact Keeps.refl _
    | with_reducible assumption
    | (with_reducible apply Keeps.step (drainComplete_keeps ..); on_goal 1 => decide)
    | dsimp -zeta only)

theorem commitComplete_keeps (s : State) : Keeps 2598371311 s (commitComplete s) := by
  unfold commitComplete
  repeat' (first
    | with_reducible exact Keeps.refl _
    | with_reducible assumption
    | (with_reducible apply Keeps.step (parkChannels_keeps ..); on_goal 1 => decide)
    | (with_reducible apply Keeps.step (State.raise_keeps ..); on_goal 1 => decide)
    | with_reducible apply Keeps.ite
    | (extract_lets +onlyGivenNames x; with_reducible apply Keeps.cut (x := by apply x) <;> [(unfold x; clear x); (clear_value x; intro _; revert x; intros)])
    | (extract_lets +onlyGivenNames x; unfold x; clear x)
    | fail_if_no_progress (with_reducible apply Keeps.upd_mram_sup <;> [skip; decide; (intros; repeat' (first | with_reducible assumption | with_reducible exact Memory.wf_nil | with_reducible apply Memory.wf_sbN | with_reducible apply Memory.wf_sbNat | with_reducible apply Memory.wf_sb | with_reducible apply Memory.wf_filter | with_reducible apply Memory.wf_writeWords | with_reducible apply Memory.wf_foldl_sb | with_reducible exact Keeps.mramOk (by assumption) (by assumption) | split | dsimp only))])
    | dsimp -zeta only)

theorem execRootCommitComplete_keeps (s : State) {t : State} (h : execRootCommitComplete s = .next t) : Keeps 2598371311 s t := by
  obtain rfl := Host.Outcome.next.inj h
  repeat' (first
    | with_reducible exact Keeps.refl _
    | with_reducible assumption
    | (with_reducible apply Keeps.step (commitComplete_keeps ..); on_goal 1 => decide)
    | dsimp -zeta only)

theorem assertSave_keeps (note : Bool) (s : State) : Keeps 8034189311 s (assertSave note s) := by
  unfold assertSave
  repeat' (first
    | with_reducible exact Keeps.refl _
    | with_reducible assumption
    | (with_reducible apply Keeps.step (setSaveFlag_keeps ..); on_goal 1 => decide)
    | (with_reducible apply Keeps.step (State.setObj_keeps ..); on_goal 1 => decide)
    | with_reducible apply Keeps.ite
    | with_reducible apply Keeps.ite_fst
    | (with_reducible apply Keeps.foldl <;> [skip; intro _ _ _])
    | (with_reducible apply Keeps.foldl_fst <;> [skip; intro _ _ _])
    | (extract_lets +onlyGivenNames x; with_reducible apply Keeps.cut (x := by apply x) <;> [(unfold x; clear x); (clear_value x; intro _; revert x; intros)])
    | (extract_lets +onlyGivenNames x; with_reducible apply Keeps.cut (x := by apply x.1) <;> [(unfold x; clear x); (clear_value x; intro _; revert x; intros)])
    | (extract_lets +onlyGivenNames x; clear_value x; revert x; intros)
    | fail_if_no_progress (with_reducible apply Keeps.upd_sup <;> [skip; decide])
    | dsimp -zeta only)

theorem beginShutdown_keeps (s : State) : Keeps 8573157375 s (beginShutdown s) := by
  unfold beginShutdown
  repeat' (first
    | with_reducible exact Keeps.refl _
    | with_reducible assumption
    | with_reducible apply Keeps.ite
    | (extract_lets +onlyGivenNames x; with_reducible apply Keeps.cut (x := by apply x) <;> [(unfold x; clear x); (clear_value x; intro _; revert x; intros)])
    | (extract_lets +onlyGivenNames x; clear_value x; revert x; intros)
    | fail_if_no_progress (with_reducible apply Keeps.upd_sup <;> [skip; decide])
    | dsimp -zeta only)

theorem beginSaving_keeps (s : State) : Keeps 3672113151 s (beginSaving s) := by
  unfold beginSaving
  repeat' (first
    | with_reducible exact Keeps.refl _
    | with_reducible assumption
    | (with_reducible apply Keeps.step (assertSave_keeps ..); on_goal 1 => decide)
    | (with_reducible apply Keeps.step (beginShutdown_keeps ..); on_goal 1 => decide)
    | (with_reducible apply Keeps.step (State.raise_keeps ..); on_goal 1 => decide)
    | dsimp -zeta only)

theorem startSquall_keeps (cause input after : Nat) (s : State) : Keeps 2181562445 s (startSquall cause input after s) := by
  unfold startSquall
  repeat' (first
    | with_reducible exact Keeps.refl _
    | with_reducible assumption
    | (with_reducible apply Keeps.step (planDrain_keeps ..); on_goal 1 => decide)
    | (with_reducible apply Keeps.step (setEnergy_keeps ..); on_goal 1 => decide)
    | (with_reducible apply Keeps.step (cutOff_keeps ..); on_goal 1 => decide)
    | (with_reducible apply Keeps.step (beginSaving_keeps ..); on_goal 1 => decide)
    | (with_reducible apply Keeps.step (State.setObj_keeps ..); on_goal 1 => decide)
    | with_reducible apply Keeps.ite
    | (extract_lets +onlyGivenNames x; with_reducible apply Keeps.cut (x := by apply x) <;> [(unfold x; clear x); (clear_value x; intro _; revert x; intros)])
    | (extract_lets +onlyGivenNames x; clear_value x; revert x; intros)
    | fail_if_no_progress (with_reducible apply Keeps.upd_sup <;> [skip; decide])
    | dsimp -zeta only)

theorem enterTestState_keeps (s : State) : Keeps 8304197631 s (enterTestState s) := by
  unfold enterTestState
  repeat' (first
    | with_reducible exact Keeps.refl _
    | with_reducible assumption
    | fail_if_no_progress (with_reducible apply Keeps.upd_keys_sup_blk <;> [skip; decide])
    | dsimp -zeta only)

theorem afterDrain_keeps (s : State) : Keeps 4297195520 s (afterDrain s) := by
  unfold afterDrain
  repeat' (first
    | with_reducible exact Keeps.refl _
    | with_reducible assumption
    | (with_reducible apply Keeps.step (startAtS1_keeps ..); on_goal 1 => decide)
    | (with_reducible apply Keeps.step (enterTestState_keeps ..); on_goal 1 => decide)
    | with_reducible apply Keeps.ite
    | dsimp -zeta only)

theorem resetDue_keeps (s : State) : Keeps 4297195520 s (resetDue s) := by
  unfold resetDue
  repeat' (first
    | with_reducible exact Keeps.refl _
    | with_reducible assumption
    | (with_reducible apply Keeps.step (afterDrain_keeps ..); on_goal 1 => decide)
    | with_reducible apply Keeps.ite
    | dsimp -zeta only)

theorem selfRefreshDone_keeps (vinIn : Bool) (s : State) : Keeps 131072 s (selfRefreshDone vinIn s) := by
  unfold selfRefreshDone
  repeat' (first
    | with_reducible exact Keeps.refl _
    | with_reducible assumption
    | (with_reducible apply Keeps.step (beginSaving_keeps ..); on_goal 1 => decide)
    | (with_reducible apply Keeps.step (resetDue_keeps ..); on_goal 1 => decide)
    | (with_reducible apply Keeps.step (State.setObj_keeps ..); on_goal 1 => decide)
    | (with_reducible apply Keeps.step (State.setSense_keeps ..); on_goal 1 => decide)
    | (with_reducible apply Keeps.step (State.raise_keeps ..); on_goal 1 => decide)
    | with_reducible apply Keeps.ite
    | (extract_lets +onlyGivenNames x; with_reducible apply Keeps.cut (x := by apply x) <;> [(unfold x; clear x); (clear_value x; intro _; revert x; intros)])
    | (extract_lets +onlyGivenNames x; clear_value x; revert x; intros)
    | fail_if_no_progress (with_reducible apply Keeps.upd_sup <;> [skip; decide])
    | dsimp -zeta only)

theorem execSquallSelfRefreshDone_keeps (vinIn : Bool) (s : State) {t : State} (h : execSquallSelfRefreshDone vinIn s = .next t) : Keeps 131072 s t := by
  obtain rfl := Host.Outcome.next.inj h
  repeat' (first
    | with_reducible exact Keeps.refl _
    | with_reducible assumption
    | (with_reducible apply Keeps.step (selfRefreshDone_keeps ..); on_goal 1 => decide)
    | dsimp -zeta only)

theorem Memory.wf_staleCleared (m : List Host.Cell) (k : Nat) (w : Memory.wf m = true) : Memory.wf (staleCleared m k) = true :=
  Memory.wf_sbN _ _ _ w

theorem clearStale_keeps (s : State) : Keeps 8587837439 s (clearStale s) := by
  rw [clearStale]
  cases rootNewest s.mram with
  | some k => exact Keeps.upd_mram (Keeps.refl s) (by decide) (fun w _ => Memory.wf_staleCleared _ _ w)
  | none => exact Keeps.refl s


theorem beginThaw_keeps (s : State) : Keeps 7228882927 s (beginThaw s) := by
  unfold beginThaw
  repeat' (first
    | with_reducible exact Keeps.refl _
    | with_reducible assumption
    | (with_reducible apply Keeps.step (adjustNow_keeps ..); on_goal 1 => decide)
    | (with_reducible apply Keeps.step (clearStale_keeps ..); on_goal 1 => decide)
    | (with_reducible apply Keeps.step (State.modChan_keeps ..); on_goal 1 => decide)
    | with_reducible apply Keeps.ite
    | (with_reducible apply Keeps.forN <;> [skip; intro _ _ _])
    | (extract_lets +onlyGivenNames x; with_reducible apply Keeps.cut (x := by apply x) <;> [(unfold x; clear x); (clear_value x; intro _; revert x; intros)])
    | (extract_lets +onlyGivenNames x; clear_value x; revert x; intros)
    | fail_if_no_progress (with_reducible apply Keeps.upd_sup_blk <;> [skip; decide])
    | dsimp -zeta only)

theorem saveEnds_keeps (s : State) : Keeps 4297195520 s (saveEnds s) := by
  unfold saveEnds
  repeat' (first
    | with_reducible exact Keeps.refl _
    | with_reducible assumption
    | (with_reducible apply Keeps.step (startAtS0_keeps ..); on_goal 1 => decide)
    | (with_reducible apply Keeps.step (State.setObj_keeps ..); on_goal 1 => decide)
    | dsimp -zeta only)

theorem awaitSave_keeps (s : State) : Keeps 4297195520 s (awaitSave s) := by
  unfold awaitSave
  repeat' (first
    | with_reducible exact Keeps.refl _
    | with_reducible assumption
    | (with_reducible apply Keeps.step (saveEnds_keeps ..); on_goal 1 => decide)
    | with_reducible apply Keeps.ite
    | fail_if_no_progress (with_reducible apply Keeps.upd_sup <;> [skip; decide])
    | dsimp -zeta only)

theorem sequencingEnds_keeps (s : State) : Keeps 4297195520 s (sequencingEnds s) := by
  unfold sequencingEnds
  repeat' (first
    | with_reducible exact Keeps.refl _
    | with_reducible assumption
    | (with_reducible apply Keeps.step (awaitSave_keeps ..); on_goal 1 => decide)
    | with_reducible apply Keeps.ite
    | fail_if_no_progress (with_reducible apply Keeps.upd_sup_blk <;> [skip; decide])
    | dsimp -zeta only)

theorem thawQualify_keeps (s : State) : Keeps 4295098368 s (thawQualify s) := by
  unfold thawQualify
  repeat' (first
    | with_reducible exact Keeps.refl _
    | with_reducible assumption
    | (with_reducible apply Keeps.step (beginThaw_keeps ..); on_goal 1 => decide)
    | (with_reducible apply Keeps.step (sequencingEnds_keeps ..); on_goal 1 => decide)
    | (with_reducible apply Keeps.step (State.setObj_keeps ..); on_goal 1 => decide)
    | (with_reducible apply Keeps.step (State.setSense_keeps ..); on_goal 1 => decide)
    | with_reducible apply Keeps.ite
    | (extract_lets +onlyGivenNames x; with_reducible apply Keeps.cut (x := by apply x) <;> [(unfold x; clear x); (clear_value x; intro _; revert x; intros)])
    | (extract_lets +onlyGivenNames x; clear_value x; revert x; intros)
    | fail_if_no_progress (with_reducible apply Keeps.upd_sup <;> [skip; decide])
    | dsimp -zeta only)

theorem execThawQualify_keeps (s : State) {t : State} (h : execThawQualify s = .next t) : Keeps 4295098368 s t := by
  obtain rfl := Host.Outcome.next.inj h
  repeat' (first
    | with_reducible exact Keeps.refl _
    | with_reducible assumption
    | (with_reducible apply Keeps.step (thawQualify_keeps ..); on_goal 1 => decide)
    | dsimp -zeta only)

theorem thawComplete_keeps (s : State) : Keeps 8301576191 s (thawComplete s) := by
  unfold thawComplete
  repeat' (first
    | with_reducible exact Keeps.refl _
    | with_reducible assumption
    | (with_reducible apply Keeps.step (writeVault_keeps ..); on_goal 1 => decide)
    | with_reducible apply Keeps.ite
    | (extract_lets +onlyGivenNames x; with_reducible apply Keeps.cut (x := by apply x) <;> [(unfold x; clear x); (clear_value x; intro _; revert x; intros)])
    | (extract_lets +onlyGivenNames x; clear_value x; revert x; intros)
    | fail_if_no_progress (with_reducible apply Keeps.upd_sup_blk <;> [skip; decide])
    | fail_if_no_progress (with_reducible apply Keeps.upd_vault <;> [skip; decide])
    | dsimp -zeta only)

theorem execThawComplete_keeps (s : State) {t : State} (h : execThawComplete s = .next t) : Keeps 8301576191 s t := by
  obtain rfl := Host.Outcome.next.inj h
  repeat' (first
    | with_reducible exact Keeps.refl _
    | with_reducible assumption
    | (with_reducible apply Keeps.step (thawComplete_keeps ..); on_goal 1 => decide)
    | dsimp -zeta only)

theorem saveComplete_keeps (bays : Nat) (s : State) : Keeps 4295098368 s (saveComplete bays s) := by
  unfold saveComplete
  repeat' (first
    | with_reducible exact Keeps.refl _
    | with_reducible assumption
    | (with_reducible apply Keeps.step (setSaveFlag_keeps ..); on_goal 1 => decide)
    | (with_reducible apply Keeps.step (saveEnds_keeps ..); on_goal 1 => decide)
    | (with_reducible apply Keeps.step (State.setObjBit_keeps ..); on_goal 1 => decide)
    | with_reducible apply Keeps.ite
    | with_reducible apply Keeps.ite_fst
    | (with_reducible apply Keeps.foldl <;> [skip; intro _ _ _])
    | (with_reducible apply Keeps.foldl_fst <;> [skip; intro _ _ _])
    | (extract_lets +onlyGivenNames x; with_reducible apply Keeps.cut (x := by apply x) <;> [(unfold x; clear x); (clear_value x; intro _; revert x; intros)])
    | (extract_lets +onlyGivenNames x; with_reducible apply Keeps.cut (x := by apply x.1) <;> [(unfold x; clear x); (clear_value x; intro _; revert x; intros)])
    | (extract_lets +onlyGivenNames x; clear_value x; revert x; intros)
    | split
    | dsimp -zeta only)

theorem execSaveComplete_keeps (bays : BitVec 32) (s : State) {t : State} (h : execSaveComplete bays s = .next t) : Keeps 4295098368 s t := by
  obtain rfl := Host.Outcome.next.inj h
  repeat' (first
    | with_reducible exact Keeps.refl _
    | with_reducible assumption
    | (with_reducible apply Keeps.step (saveComplete_keeps ..); on_goal 1 => decide)
    | dsimp -zeta only)

theorem saveTimeout_keeps (s : State) : Keeps 131072 s (saveTimeout s) := by
  unfold saveTimeout
  repeat' (first
    | with_reducible exact Keeps.refl _
    | with_reducible assumption
    | (with_reducible apply Keeps.step (setSaveFlag_keeps ..); on_goal 1 => decide)
    | (with_reducible apply Keeps.step (saveEnds_keeps ..); on_goal 1 => decide)
    | (with_reducible apply Keeps.step (State.raise_keeps ..); on_goal 1 => decide)
    | with_reducible apply Keeps.ite
    | with_reducible apply Keeps.ite_fst
    | (with_reducible apply Keeps.foldl <;> [skip; intro _ _ _])
    | (with_reducible apply Keeps.foldl_fst <;> [skip; intro _ _ _])
    | (extract_lets +onlyGivenNames x; with_reducible apply Keeps.cut (x := by apply x) <;> [(unfold x; clear x); (clear_value x; intro _; revert x; intros)])
    | (extract_lets +onlyGivenNames x; with_reducible apply Keeps.cut (x := by apply x.1) <;> [(unfold x; clear x); (clear_value x; intro _; revert x; intros)])
    | (extract_lets +onlyGivenNames x; clear_value x; revert x; intros)
    | dsimp -zeta only)

theorem execSaveCompleteTimeout_keeps (s : State) {t : State} (h : execSaveCompleteTimeout s = .next t) : Keeps 131072 s t := by
  obtain rfl := Host.Outcome.next.inj h
  repeat' (first
    | with_reducible exact Keeps.refl _
    | with_reducible assumption
    | (with_reducible apply Keeps.step (saveTimeout_keeps ..); on_goal 1 => decide)
    | dsimp -zeta only)

theorem holdStop_keeps (mv : Nat) (s : State) : Keeps 2324169679 s (holdStop mv s) := by
  unfold holdStop
  repeat' (first
    | with_reducible exact Keeps.refl _
    | with_reducible assumption
    | (with_reducible apply Keeps.step (planDrain_keeps ..); on_goal 1 => decide)
    | (with_reducible apply Keeps.step (beginSaving_keeps ..); on_goal 1 => decide)
    | (with_reducible apply Keeps.step (State.setObj_keeps ..); on_goal 1 => decide)
    | with_reducible apply Keeps.ite
    | (extract_lets +onlyGivenNames x; with_reducible apply Keeps.cut (x := by apply x) <;> [(unfold x; clear x); (clear_value x; intro _; revert x; intros)])
    | (extract_lets +onlyGivenNames x; clear_value x; revert x; intros)
    | fail_if_no_progress (with_reducible apply Keeps.upd_sup <;> [skip; decide])
    | dsimp -zeta only)

theorem execHoldHardStop_keeps (mv : Nat) (s : State) {t : State} (h : execHoldHardStop mv s = .next t) : Keeps 2324169679 s t := by
  obtain rfl := Host.Outcome.next.inj h
  repeat' (first
    | with_reducible exact Keeps.refl _
    | with_reducible assumption
    | (with_reducible apply Keeps.step (holdStop_keeps ..); on_goal 1 => decide)
    | dsimp -zeta only)

theorem collapse_keeps (s : State) : Keeps 3470786559 s (collapse s) := by
  unfold collapse
  repeat' (first
    | with_reducible exact Keeps.refl _
    | with_reducible assumption
    | (with_reducible apply Keeps.step (assertSave_keeps ..); on_goal 1 => decide)
    | (with_reducible apply Keeps.step (State.tickFree_keeps ..); on_goal 1 => decide)
    | (extract_lets +onlyGivenNames x; with_reducible apply Keeps.cut (x := by apply x) <;> [(unfold x; clear x); (clear_value x; intro _; revert x; intros)])
    | (extract_lets +onlyGivenNames x; unfold x; clear x)
    | fail_if_no_progress (with_reducible apply Keeps.upd_mram_sup_blk <;> [skip; decide; (intros; repeat' (first | with_reducible assumption | with_reducible exact Memory.wf_nil | with_reducible apply Memory.wf_sbN | with_reducible apply Memory.wf_sbNat | with_reducible apply Memory.wf_sb | with_reducible apply Memory.wf_filter | with_reducible apply Memory.wf_writeWords | with_reducible apply Memory.wf_foldl_sb | with_reducible exact Keeps.mramOk (by assumption) (by assumption) | split | dsimp only))])
    | dsimp -zeta only)

theorem execCollapse_keeps (s : State) {t : State} (h : execCollapse s = .next t) : Keeps 3470786559 s t := by
  obtain rfl := Host.Outcome.next.inj h
  repeat' (first
    | with_reducible exact Keeps.refl _
    | with_reducible assumption
    | (with_reducible apply Keeps.step (collapse_keeps ..); on_goal 1 => decide)
    | dsimp -zeta only)

end Sys2Proof.Machine
end

