-- ==== Sys2Proof/Laws/KeepsSense.lean ====
section
/-! SUPPORT. What each function of Machine/Sense.lean can do (see Laws/Keeps.lean). -/

set_option linter.tactic.unusedName false
set_option linter.unusedTactic false
set_option linter.unreachableTactic false

namespace Sys2Proof.Machine

theorem recordSense_keeps (i mv : Nat) (isIn good : Bool) (s : State) : Keeps 8036286463 s (recordSense i mv isIn good s) := by
  unfold recordSense
  repeat' (first
    | with_reducible exact Keeps.refl _
    | with_reducible assumption
    | (with_reducible apply Keeps.step (State.setObj_keeps ..); on_goal 1 => decide)
    | (with_reducible apply Keeps.step (State.setSense_keeps ..); on_goal 1 => decide)
    | with_reducible apply Keeps.ite
    | dsimp -zeta only)

theorem logFailure_keeps (kind input cause : Nat) (s : State) : Keeps 8571060223 s (logFailure kind input cause s) := by
  unfold logFailure
  repeat' (first
    | with_reducible exact Keeps.refl _
    | with_reducible assumption
    | (with_reducible apply Keeps.step (writeFailure_keeps ..); on_goal 1 => decide)
    | with_reducible apply Keeps.ite
    | (extract_lets +onlyGivenNames x; with_reducible apply Keeps.cut (x := by apply x) <;> [(unfold x; clear x); (clear_value x; intro _; revert x; intros)])
    | (extract_lets +onlyGivenNames x; unfold x; clear x)
    | fail_if_no_progress (with_reducible apply Keeps.upd_mram <;> [skip; decide; (intros; repeat' (first | with_reducible assumption | with_reducible exact Memory.wf_nil | with_reducible apply Memory.wf_sbN | with_reducible apply Memory.wf_sbNat | with_reducible apply Memory.wf_sb | with_reducible apply Memory.wf_filter | with_reducible apply Memory.wf_writeWords | with_reducible apply Memory.wf_foldl_sb | with_reducible exact Keeps.mramOk (by assumption) (by assumption) | split | dsimp only))])
    | fail_if_no_progress (with_reducible apply Keeps.upd_mram_sup <;> [skip; decide; (intros; repeat' (first | with_reducible assumption | with_reducible exact Memory.wf_nil | with_reducible apply Memory.wf_sbN | with_reducible apply Memory.wf_sbNat | with_reducible apply Memory.wf_sb | with_reducible apply Memory.wf_filter | with_reducible apply Memory.wf_writeWords | with_reducible apply Memory.wf_foldl_sb | with_reducible exact Keeps.mramOk (by assumption) (by assumption) | split | dsimp only))])
    | dsimp -zeta only)

theorem abortRails_keeps (i : Nat) (s : State) : Keeps 3672113151 s (abortRails i s) := by
  unfold abortRails
  repeat' (first
    | with_reducible exact Keeps.refl _
    | with_reducible assumption
    | (with_reducible apply Keeps.step (logFailure_keeps ..); on_goal 1 => decide)
    | (with_reducible apply Keeps.step (State.raise_keeps ..); on_goal 1 => decide)
    | (extract_lets +onlyGivenNames x; with_reducible apply Keeps.cut (x := by apply x) <;> [(unfold x; clear x); (clear_value x; intro _; revert x; intros)])
    | (extract_lets +onlyGivenNames x; clear_value x; revert x; intros)
    | fail_if_no_progress (with_reducible apply Keeps.upd_sup <;> [skip; decide])
    | dsimp -zeta only)

theorem startRails_keeps (s : State) : Keeps 8573157375 s (startRails s) := by
  unfold startRails
  repeat' (first
    | with_reducible exact Keeps.refl _
    | with_reducible assumption
    | with_reducible apply Keeps.ite
    | fail_if_no_progress (with_reducible apply Keeps.upd_sup <;> [skip; decide])
    | dsimp -zeta only)

theorem railGood_keeps (i : Nat) (s : State) : Keeps 2936012799 s (railGood i s) := by
  unfold railGood
  repeat' (first
    | with_reducible exact Keeps.refl _
    | with_reducible assumption
    | (with_reducible apply Keeps.step (endStage_keeps ..); on_goal 1 => decide)
    | (with_reducible apply Keeps.step (startRails_keeps ..); on_goal 1 => decide)
    | with_reducible apply Keeps.ite
    | (extract_lets +onlyGivenNames x; with_reducible apply Keeps.cut (x := by apply x) <;> [(unfold x; clear x); (clear_value x; intro _; revert x; intros)])
    | (extract_lets +onlyGivenNames x; clear_value x; revert x; intros)
    | fail_if_no_progress (with_reducible apply Keeps.upd_blk <;> [skip; decide])
    | fail_if_no_progress (with_reducible apply Keeps.upd_sup <;> [skip; decide])
    | dsimp -zeta only)

theorem senseQualified_keeps (i mv : Nat) (s : State) : Keeps 2399141887 s (senseQualified i mv s) := by
  unfold senseQualified
  repeat' (first
    | with_reducible exact Keeps.refl _
    | with_reducible assumption
    | (with_reducible apply Keeps.step (recordSense_keeps ..); on_goal 1 => decide)
    | (with_reducible apply Keeps.step (railGood_keeps ..); on_goal 1 => decide)
    | with_reducible apply Keeps.ite
    | dsimp -zeta only)

theorem execSenseQualified_keeps (i : Fin 6) (mv : Nat) (s : State) {t : State} (h : execSenseQualified i mv s = .next t) : Keeps 2399141887 s t := by
  obtain rfl := Host.Outcome.next.inj h
  repeat' (first
    | with_reducible exact Keeps.refl _
    | with_reducible assumption
    | (with_reducible apply Keeps.step (senseQualified_keeps ..); on_goal 1 => decide)
    | dsimp -zeta only)

theorem leaveCommitted_keeps (s : State) : Keeps 8573157375 s (leaveCommitted s) := by
  unfold leaveCommitted
  repeat' (first
    | with_reducible exact Keeps.refl _
    | with_reducible assumption
    | (with_reducible apply Keeps.step (leaveGroup_keeps ..); on_goal 1 => decide)
    | (with_reducible apply Keeps.foldl <;> [skip; intro _ _ _])
    | (with_reducible apply Keeps.foldl_fst <;> [skip; intro _ _ _])
    | (extract_lets +onlyGivenNames x; with_reducible apply Keeps.cut (x := by apply x) <;> [(unfold x; clear x); (clear_value x; intro _; revert x; intros)])
    | (extract_lets +onlyGivenNames x; with_reducible apply Keeps.cut (x := by apply x.1) <;> [(unfold x; clear x); (clear_value x; intro _; revert x; intros)])
    | (extract_lets +onlyGivenNames x; clear_value x; revert x; intros)
    | split
    | fail_if_no_progress (with_reducible apply Keeps.upd_sup <;> [skip; decide])
    | dsimp -zeta only)

theorem vddpCutoff_keeps (s : State) : Keeps 8573157375 s (vddpCutoff s) := by
  unfold vddpCutoff
  repeat' (first
    | with_reducible exact Keeps.refl _
    | with_reducible assumption
    | (with_reducible apply Keeps.step (leaveCommitted_keeps ..); on_goal 1 => decide)
    | with_reducible apply Keeps.ite
    | (extract_lets +onlyGivenNames x; with_reducible apply Keeps.cut (x := by apply x) <;> [(unfold x; clear x); (clear_value x; intro _; revert x; intros)])
    | (extract_lets +onlyGivenNames x; clear_value x; revert x; intros)
    | fail_if_no_progress (with_reducible apply Keeps.upd_sup <;> [skip; decide])
    | dsimp -zeta only)

theorem chatter_keeps (i : Nat) (s : State) : Keeps 3672113151 s (chatter i s) := by
  unfold chatter
  repeat' (first
    | with_reducible exact Keeps.refl _
    | with_reducible assumption
    | (with_reducible apply Keeps.step (abortRails_keeps ..); on_goal 1 => decide)
    | (with_reducible apply Keeps.step (State.setObj_keeps ..); on_goal 1 => decide)
    | with_reducible apply Keeps.ite
    | (extract_lets +onlyGivenNames x; with_reducible apply Keeps.cut (x := by apply x) <;> [(unfold x; clear x); (clear_value x; intro _; revert x; intros)])
    | (extract_lets +onlyGivenNames x; clear_value x; revert x; intros)
    | split
    | dsimp -zeta only)

theorem goodExcursion_keeps (i : Nat) (s : State) : Keeps 2181562445 s (goodExcursion i s) := by
  unfold goodExcursion
  repeat' (first
    | with_reducible exact Keeps.refl _
    | with_reducible assumption
    | (with_reducible apply Keeps.step (beginSaving_keeps ..); on_goal 1 => decide)
    | (with_reducible apply Keeps.step (startSquall_keeps ..); on_goal 1 => decide)
    | (with_reducible apply Keeps.step (logFailure_keeps ..); on_goal 1 => decide)
    | (with_reducible apply Keeps.step (State.raise_keeps ..); on_goal 1 => decide)
    | with_reducible apply Keeps.ite
    | (extract_lets +onlyGivenNames x; with_reducible apply Keeps.cut (x := by apply x) <;> [(unfold x; clear x); (clear_value x; intro _; revert x; intros)])
    | (extract_lets +onlyGivenNames x; clear_value x; revert x; intros)
    | dsimp -zeta only)

theorem senseExcursion_keeps (i mv : Nat) (s : State) : Keeps 2181562445 s (senseExcursion i mv s) := by
  unfold senseExcursion
  repeat' (first
    | with_reducible exact Keeps.refl _
    | with_reducible assumption
    | (with_reducible apply Keeps.step (collapse_keeps ..); on_goal 1 => decide)
    | (with_reducible apply Keeps.step (recordSense_keeps ..); on_goal 1 => decide)
    | (with_reducible apply Keeps.step (logFailure_keeps ..); on_goal 1 => decide)
    | (with_reducible apply Keeps.step (vddpCutoff_keeps ..); on_goal 1 => decide)
    | (with_reducible apply Keeps.step (chatter_keeps ..); on_goal 1 => decide)
    | (with_reducible apply Keeps.step (goodExcursion_keeps ..); on_goal 1 => decide)
    | (with_reducible apply Keeps.step (State.addObj_keeps ..); on_goal 1 => decide)
    | (with_reducible apply Keeps.step (State.raise_keeps ..); on_goal 1 => decide)
    | with_reducible apply Keeps.ite
    | (extract_lets +onlyGivenNames x; with_reducible apply Keeps.cut (x := by apply x) <;> [(unfold x; clear x); (clear_value x; intro _; revert x; intros)])
    | (extract_lets +onlyGivenNames x; clear_value x; revert x; intros)
    | fail_if_no_progress (with_reducible apply Keeps.upd_sup <;> [skip; decide])
    | dsimp -zeta only)

theorem execSenseExcursion_keeps (i : Fin 6) (mv : Nat) (s : State) {t : State} (h : execSenseExcursion i mv s = .next t) : Keeps 2181562445 s t := by
  obtain rfl := Host.Outcome.next.inj h
  repeat' (first
    | with_reducible exact Keeps.refl _
    | with_reducible assumption
    | (with_reducible apply Keeps.step (senseExcursion_keeps ..); on_goal 1 => decide)
    | dsimp -zeta only)

theorem rampTimeout_keeps (s : State) : Keeps 3672113151 s (rampTimeout s) := by
  unfold rampTimeout
  repeat' (first
    | with_reducible exact Keeps.refl _
    | with_reducible assumption
    | (with_reducible apply Keeps.step (abortRails_keeps ..); on_goal 1 => decide)
    | split
    | dsimp -zeta only)

theorem execRampTimeout_keeps (s : State) {t : State} (h : execRampTimeout s = .next t) : Keeps 3672113151 s t := by
  obtain rfl := Host.Outcome.next.inj h
  repeat' (first
    | with_reducible exact Keeps.refl _
    | with_reducible assumption
    | (with_reducible apply Keeps.step (rampTimeout_keeps ..); on_goal 1 => decide)
    | dsimp -zeta only)

theorem railDischarged_keeps (rail : Nat) (s : State) : Keeps 4297195520 s (railDischarged rail s) := by
  unfold railDischarged
  repeat' (first
    | with_reducible exact Keeps.refl _
    | with_reducible assumption
    | (with_reducible apply Keeps.step (sequencingEnds_keeps ..); on_goal 1 => decide)
    | with_reducible apply Keeps.ite
    | fail_if_no_progress (with_reducible apply Keeps.upd_sup <;> [skip; decide])
    | dsimp -zeta only)

theorem execRailDischarged_keeps (rail : Fin 3) (s : State) {t : State} (h : execRailDischarged rail s = .next t) : Keeps 4297195520 s t := by
  obtain rfl := Host.Outcome.next.inj h
  repeat' (first
    | with_reducible exact Keeps.refl _
    | with_reducible assumption
    | (with_reducible apply Keeps.step (railDischarged_keeps ..); on_goal 1 => decide)
    | dsimp -zeta only)

theorem dischargeTimeout_keeps (rail : Nat) (s : State) : Keeps 131072 s (dischargeTimeout rail s) := by
  unfold dischargeTimeout
  repeat' (first
    | with_reducible exact Keeps.refl _
    | with_reducible assumption
    | (with_reducible apply Keeps.step (sequencingEnds_keeps ..); on_goal 1 => decide)
    | (with_reducible apply Keeps.step (logFailure_keeps ..); on_goal 1 => decide)
    | (with_reducible apply Keeps.step (State.setObjBit_keeps ..); on_goal 1 => decide)
    | (with_reducible apply Keeps.step (State.raise_keeps ..); on_goal 1 => decide)
    | with_reducible apply Keeps.ite
    | (extract_lets +onlyGivenNames x; with_reducible apply Keeps.cut (x := by apply x) <;> [(unfold x; clear x); (clear_value x; intro _; revert x; intros)])
    | (extract_lets +onlyGivenNames x; clear_value x; revert x; intros)
    | fail_if_no_progress (with_reducible apply Keeps.upd_sup <;> [skip; decide])
    | dsimp -zeta only)

theorem execDischargeTimeout_keeps (rail : Fin 3) (s : State) {t : State} (h : execDischargeTimeout rail s = .next t) : Keeps 131072 s t := by
  obtain rfl := Host.Outcome.next.inj h
  repeat' (first
    | with_reducible exact Keeps.refl _
    | with_reducible assumption
    | (with_reducible apply Keeps.step (dischargeTimeout_keeps ..); on_goal 1 => decide)
    | dsimp -zeta only)

theorem supplyCommand_keeps (v : Nat) (s : State) : Keeps 8036286463 s (supplyCommand v s).1 := by
  unfold supplyCommand
  repeat' (first
    | with_reducible exact Keeps.refl _
    | with_reducible assumption
    | (with_reducible apply Keeps.step (startRails_keeps ..); on_goal 1 => decide)
    | (with_reducible apply Keeps.step (State.setObj_keeps ..); on_goal 1 => decide)
    | with_reducible apply Keeps.ite
    | with_reducible apply Keeps.ite_fst
    | (with_reducible apply Keeps.forN_fst <;> [skip; intro _ _ _])
    | (with_reducible apply Keeps.forN <;> [skip; intro _ _ _])
    | (extract_lets +onlyGivenNames x; with_reducible apply Keeps.cut (x := by apply x) <;> [(unfold x; clear x); (clear_value x; intro _; revert x; intros)])
    | (extract_lets +onlyGivenNames x; with_reducible apply Keeps.cut (x := by apply x.1) <;> [(unfold x; clear x); (clear_value x; intro _; revert x; intros)])
    | (extract_lets +onlyGivenNames x; clear_value x; revert x; intros)
    | fail_if_no_progress (with_reducible apply Keeps.upd_sup <;> [skip; decide])
    | dsimp -zeta only)

theorem execVddpLowCutoff_keeps (s : State) {t : State} (h : execVddpLowCutoff s = .next t) : Keeps 8573157375 s t := by
  obtain rfl := Host.Outcome.next.inj h
  repeat' (first
    | with_reducible exact Keeps.refl _
    | with_reducible assumption
    | (with_reducible apply Keeps.step (vddpCutoff_keeps ..); on_goal 1 => decide)
    | dsimp -zeta only)

end Sys2Proof.Machine
end

