-- ==== Sys2Proof/Laws/KeepsDictionary.lean ====
section
/-! SUPPORT. What each function of Machine/Dictionary.lean can do (see Laws/Keeps.lean). -/

set_option linter.tactic.unusedName false
set_option linter.unusedTactic false
set_option linter.unreachableTactic false

namespace Sys2Proof.Machine

theorem Keeps.opt_ite {M : Nat} {s : State} {a b : Option (State × Nat)} {c : Prop} [Decidable c]
    (ha : ∀ r, a = some r → Keeps M s r.1) (hb : ∀ r, b = some r → Keeps M s r.1) :
    ∀ r, (if c then a else b) = some r → Keeps M s r.1 := by split <;> assumption

theorem Keeps.opt_some {M : Nat} {s : State} {x : State × Nat} (h : Keeps M s x.1) : ∀ r, some x = some r → Keeps M s r.1 :=
  fun _ e => Option.some.inj e ▸ h

theorem Keeps.opt_none {M : Nat} {s : State} : ∀ r, (none : Option (State × Nat)) = some r → Keeps M s r.1 :=
  fun _ e => absurd e (by simp)

theorem readObject_keeps (link idx sub : Nat) (r : ObjRow) (shadow : Bool) (s : State) : Keeps 4294967295 s (readObject link idx sub r shadow s).1 := by
  unfold readObject
  repeat' (first
    | with_reducible exact Keeps.refl _
    | with_reducible assumption
    | (with_reducible apply Keeps.step (State.tickFree_keeps ..); on_goal 1 => decide)
    | with_reducible apply Keeps.ite
    | with_reducible apply Keeps.ite_fst
    | (extract_lets +onlyGivenNames x; with_reducible apply Keeps.cut (x := by apply x) <;> [(unfold x; clear x); (clear_value x; intro _; revert x; intros)])
    | (extract_lets +onlyGivenNames x; with_reducible apply Keeps.cut (x := by apply x.1) <;> [(unfold x; clear x); (clear_value x; intro _; revert x; intros)])
    | (extract_lets +onlyGivenNames x; clear_value x; revert x; intros)
    | dsimp -zeta only)

theorem readRecord_keeps (idx sub off n : Nat) (shadow : Bool) (s : State) : Keeps 3690987519 s (readRecord idx sub off n shadow s).1 := by
  unfold readRecord
  repeat' (first
    | with_reducible exact Keeps.refl _
    | with_reducible assumption
    | (with_reducible apply Keeps.step (readEventQueue_keeps ..); on_goal 1 => decide)
    | with_reducible apply Keeps.ite
    | with_reducible apply Keeps.ite_fst
    | (extract_lets +onlyGivenNames x; with_reducible apply Keeps.cut (x := by apply x) <;> [(unfold x; clear x); (clear_value x; intro _; revert x; intros)])
    | (extract_lets +onlyGivenNames x; with_reducible apply Keeps.cut (x := by apply x.1) <;> [(unfold x; clear x); (clear_value x; intro _; revert x; intros)])
    | (extract_lets +onlyGivenNames x; clear_value x; revert x; intros)
    | dsimp -zeta only)

theorem blockHook_keeps (link idx sub v : Nat) (s : State) : ∀ r, blockHook link idx sub v s = some r → Keeps 0 s r.1 := by
  unfold blockHook
  repeat' (first | with_reducible apply Keeps.opt_ite | with_reducible exact Keeps.opt_none | (with_reducible refine Keeps.opt_some ?_) | with_reducible exact Keeps.refl _ | with_reducible assumption | (with_reducible apply Keeps.step (writeClaim_keeps ..); on_goal 1 => decide) | (with_reducible apply Keeps.step (memGo_keeps ..); on_goal 1 => decide) | (with_reducible apply Keeps.step (translate_keeps ..); on_goal 1 => decide) | (with_reducible apply Keeps.step (linkRights_keeps ..); on_goal 1 => decide) | (with_reducible apply Keeps.step (lockProfile_keeps ..); on_goal 1 => decide) | (with_reducible apply Keeps.step (blockCommand_keeps ..); on_goal 1 => decide) | with_reducible apply Keeps.ite | with_reducible apply Keeps.ite_fst | dsimp -zeta only)


theorem channelHook_keeps (hint : Bool) (page c sub v : Nat) (s : State) : ∀ r, channelHook hint page c sub v s = some r → Keeps 2282225933 s r.1 := by
  unfold channelHook
  repeat' (first | with_reducible apply Keeps.opt_ite | with_reducible exact Keeps.opt_none | (with_reducible refine Keeps.opt_some ?_) | with_reducible exact Keeps.refl _ | with_reducible assumption | (with_reducible apply Keeps.step (thawAction_keeps ..); on_goal 1 => decide) | (with_reducible apply Keeps.step (freezeRequest_keeps ..); on_goal 1 => decide) | (with_reducible apply Keeps.step (eraseWrite_keeps ..); on_goal 1 => decide) | (with_reducible apply Keeps.step (trainingDone_keeps ..); on_goal 1 => decide) | (with_reducible apply Keeps.step (trainRequest_keeps ..); on_goal 1 => decide) | (with_reducible apply Keeps.step (calRunRequest_keeps ..); on_goal 1 => decide) | (with_reducible apply Keeps.step (eyeScanRequest_keeps ..); on_goal 1 => decide) | (with_reducible apply Keeps.step (helperStart_keeps ..); on_goal 1 => decide) | with_reducible apply Keeps.ite | with_reducible apply Keeps.ite_fst | dsimp -zeta only)


theorem unitHook_keeps (link page u idx sub v : Nat) (s : State) : ∀ r, unitHook link page u idx sub v s = some r → Keeps 2147483661 s r.1 := by
  unfold unitHook
  repeat' (first | with_reducible apply Keeps.opt_ite | with_reducible exact Keeps.opt_none | (with_reducible refine Keeps.opt_some ?_) | with_reducible exact Keeps.refl _ | with_reducible assumption | (with_reducible apply Keeps.step (evtSync_keeps ..); on_goal 1 => decide) | (with_reducible apply Keeps.step (clearPending_keeps ..); on_goal 1 => decide) | (with_reducible apply Keeps.step (mirrorCommand_keeps ..); on_goal 1 => decide) | (with_reducible apply Keeps.step (keyAdopt_keeps ..); on_goal 1 => decide) | (with_reducible apply Keeps.step (bayCommand_keeps ..); on_goal 1 => decide) | (with_reducible apply Keeps.step (supplyCommand_keeps ..); on_goal 1 => decide) | (with_reducible apply Keeps.step (eventControl_keeps ..); on_goal 1 => decide) | (with_reducible apply Keeps.step (clearEventLog_keeps ..); on_goal 1 => decide) | (with_reducible apply Keeps.step (armSnapshot_keeps ..); on_goal 1 => decide) | (with_reducible apply Keeps.step (enableSampling_keeps ..); on_goal 1 => decide) | (with_reducible apply Keeps.step (releaseSamples_keeps ..); on_goal 1 => decide) | (with_reducible apply Keeps.step (testGo_keeps ..); on_goal 1 => decide) | (with_reducible apply Keeps.step (injectKind_keeps ..); on_goal 1 => decide) | (with_reducible apply Keeps.step (injectGo_keeps ..); on_goal 1 => decide) | (with_reducible apply Keeps.step (State.setObj_keeps ..); on_goal 1 => decide) | (with_reducible apply Keeps.step (State.setLink_keeps ..); on_goal 1 => decide) | with_reducible apply Keeps.ite | with_reducible apply Keeps.ite_fst | dsimp -zeta only)


theorem writeNow_keeps (hint : Bool) (link idx sub v : Nat) (s : State) : Keeps 0 s (writeNow hint link idx sub v s).1 := by
  unfold writeNow
  dsimp only
  split
  · exact Keeps.refl s
  · split
    · exact Keeps.mono (blockHook_keeps _ _ _ _ _ _ (by assumption)) (by decide)
    · split
      · exact Keeps.mono (channelHook_keeps _ _ _ _ _ _ _ (by assumption)) (by decide)
      · split
        · exact Keeps.mono (unitHook_keeps _ _ _ _ _ _ _ _ (by assumption)) (by decide)
        · exact Keeps.step (State.setObj_keeps ..) (by decide) (Keeps.refl s)


theorem stageValue_keeps (link idx sub v : Nat) (s : State) : Keeps 8455716863 s (stageValue link idx sub v s).1 := by
  unfold stageValue
  repeat' (first
    | with_reducible exact Keeps.refl _
    | with_reducible assumption
    | (with_reducible apply Keeps.step (ownStaging_keeps ..); on_goal 1 => decide)
    | with_reducible apply Keeps.ite
    | with_reducible apply Keeps.ite_fst
    | fail_if_no_progress (with_reducible apply Keeps.upd_mgmt <;> [skip; decide; (intros; repeat' (first | with_reducible assumption | with_reducible exact Memory.wf_nil | with_reducible apply Memory.wf_sbN | with_reducible apply Memory.wf_sbNat | with_reducible apply Memory.wf_sb | with_reducible apply Memory.wf_filter | with_reducible apply Memory.wf_writeWords | with_reducible apply Memory.wf_foldl_sb | with_reducible exact Keeps.mramOk (by assumption) (by assumption) | split | dsimp only)); (intros; repeat' (first | with_reducible assumption | with_reducible exact Memory.wf_nil | with_reducible apply Memory.wf_sbN | with_reducible apply Memory.wf_sbNat | with_reducible apply Memory.wf_sb | with_reducible apply Memory.wf_filter | with_reducible apply Memory.wf_writeWords | with_reducible apply Memory.wf_foldl_sb | with_reducible exact Keeps.mramOk (by assumption) (by assumption) | split | dsimp only))])
    | dsimp -zeta only)

theorem writeObject_keeps (hint : Bool) (link idx sub v : Nat) (r : ObjRow) (s : State) : Keeps 0 s (writeObject hint link idx sub v r s).1 := by
  unfold writeObject
  repeat' (first
    | with_reducible exact Keeps.refl _
    | with_reducible assumption
    | (with_reducible apply Keeps.step (writeNow_keeps ..); on_goal 1 => decide)
    | (with_reducible apply Keeps.step (stageValue_keeps ..); on_goal 1 => decide)
    | with_reducible apply Keeps.ite
    | with_reducible apply Keeps.ite_fst
    | (extract_lets +onlyGivenNames x; with_reducible apply Keeps.cut (x := by apply x) <;> [(unfold x; clear x); (clear_value x; intro _; revert x; intros)])
    | (extract_lets +onlyGivenNames x; with_reducible apply Keeps.cut (x := by apply x.1) <;> [(unfold x; clear x); (clear_value x; intro _; revert x; intros)])
    | (extract_lets +onlyGivenNames x; clear_value x; revert x; intros)
    | dsimp -zeta only)

theorem stageRecord_keeps (link idx sub off : Nat) (bs : List Byte) (s : State) : Keeps 8455716863 s (stageRecord link idx sub off bs s).1 := by
  unfold stageRecord
  repeat' (first
    | with_reducible exact Keeps.refl _
    | with_reducible assumption
    | (with_reducible apply Keeps.step (ownStaging_keeps ..); on_goal 1 => decide)
    | with_reducible apply Keeps.ite
    | with_reducible apply Keeps.ite_fst
    | (with_reducible apply Keeps.foldl <;> [skip; intro _ _ _])
    | (with_reducible apply Keeps.foldl_fst <;> [skip; intro _ _ _])
    | (extract_lets +onlyGivenNames x; with_reducible apply Keeps.cut (x := by apply x) <;> [(unfold x; clear x); (clear_value x; intro _; revert x; intros)])
    | (extract_lets +onlyGivenNames x; with_reducible apply Keeps.cut (x := by apply x.1) <;> [(unfold x; clear x); (clear_value x; intro _; revert x; intros)])
    | (extract_lets +onlyGivenNames x; unfold x; clear x)
    | fail_if_no_progress (with_reducible apply Keeps.upd_mgmt <;> [skip; decide; (intros; repeat' (first | with_reducible assumption | with_reducible exact Memory.wf_nil | with_reducible apply Memory.wf_sbN | with_reducible apply Memory.wf_sbNat | with_reducible apply Memory.wf_sb | with_reducible apply Memory.wf_filter | with_reducible apply Memory.wf_writeWords | with_reducible apply Memory.wf_foldl_sb | with_reducible exact Keeps.mramOk (by assumption) (by assumption) | split | dsimp only)); (intros; repeat' (first | with_reducible assumption | with_reducible exact Memory.wf_nil | with_reducible apply Memory.wf_sbN | with_reducible apply Memory.wf_sbNat | with_reducible apply Memory.wf_sb | with_reducible apply Memory.wf_filter | with_reducible apply Memory.wf_writeWords | with_reducible apply Memory.wf_foldl_sb | with_reducible exact Keeps.mramOk (by assumption) (by assumption) | split | dsimp only))])
    | dsimp -zeta only)

theorem writeRecord_keeps (link idx sub off : Nat) (bs : List Byte) (r : ObjRow) (s : State) : Keeps 2483027967 s (writeRecord link idx sub off bs r s).1 := by
  unfold writeRecord
  repeat' (first
    | with_reducible exact Keeps.refl _
    | with_reducible assumption
    | (with_reducible apply Keeps.step (writeSummary_keeps ..); on_goal 1 => decide)
    | (with_reducible apply Keeps.step (stageRecord_keeps ..); on_goal 1 => decide)
    | (with_reducible apply Keeps.step (State.setRec_keeps ..); on_goal 1 => decide)
    | with_reducible apply Keeps.ite
    | with_reducible apply Keeps.ite_fst
    | (extract_lets +onlyGivenNames x; with_reducible apply Keeps.cut (x := by apply x) <;> [(unfold x; clear x); (clear_value x; intro _; revert x; intros)])
    | (extract_lets +onlyGivenNames x; with_reducible apply Keeps.cut (x := by apply x.1) <;> [(unfold x; clear x); (clear_value x; intro _; revert x; intros)])
    | (extract_lets +onlyGivenNames x; clear_value x; revert x; intros)
    | dsimp -zeta only)

theorem storeConfig_keeps (s : State) : Keeps 8050966527 s (storeConfig s).1 := by
  unfold storeConfig
  repeat' (first
    | with_reducible exact Keeps.refl _
    | with_reducible assumption
    | (with_reducible apply Keeps.step (State.setObj_keeps ..); on_goal 1 => decide)
    | with_reducible apply Keeps.ite
    | with_reducible apply Keeps.ite_fst
    | (extract_lets +onlyGivenNames x; with_reducible apply Keeps.cut (x := by apply x) <;> [(unfold x; clear x); (clear_value x; intro _; revert x; intros)])
    | (extract_lets +onlyGivenNames x; with_reducible apply Keeps.cut (x := by apply x.1) <;> [(unfold x; clear x); (clear_value x; intro _; revert x; intros)])
    | (extract_lets +onlyGivenNames x; clear_value x; revert x; intros)
    | split
    | fail_if_no_progress (with_reducible apply Keeps.upd_mram <;> [skip; decide; (intros; repeat' (first | with_reducible assumption | with_reducible exact Memory.wf_nil | with_reducible apply Memory.wf_sbN | with_reducible apply Memory.wf_sbNat | with_reducible apply Memory.wf_sb | with_reducible apply Memory.wf_filter | with_reducible apply Memory.wf_writeWords | with_reducible apply Memory.wf_foldl_sb | with_reducible exact Keeps.mramOk (by assumption) (by assumption) | split | dsimp only))])
    | dsimp -zeta only)

theorem restoreOne_keeps (link : Nat) (x : State × Nat) (e : Nat × Nat × Nat × Nat) : Keeps 0 x.1 (restoreOne link x e).1 := by
  unfold restoreOne
  dsimp only
  repeat' (first | with_reducible exact Keeps.refl _ | with_reducible assumption | (with_reducible apply Keeps.step (writeNow_keeps ..); on_goal 1 => decide) | (with_reducible apply Keeps.step (stageValue_keeps ..); on_goal 1 => decide) | with_reducible apply Keeps.ite | with_reducible apply Keeps.ite_fst | (extract_lets +onlyGivenNames x; with_reducible apply Keeps.cut (x := by apply x) <;> [(unfold x; clear x); (clear_value x; intro _; revert x; intros)]) | (extract_lets +onlyGivenNames x; with_reducible apply Keeps.cut (x := by apply x.1) <;> [(unfold x; clear x); (clear_value x; intro _; revert x; intros)]) | (extract_lets +onlyGivenNames x; clear_value x; revert x; intros) | split | dsimp -zeta only)


theorem restoreConfig_keeps (link source : Nat) (s : State) : Keeps 0 s (restoreConfig link source s).1 := by
  unfold restoreConfig
  repeat' (first
    | with_reducible exact Keeps.refl _
    | with_reducible assumption
    | (with_reducible apply Keeps.step (restoreOne_keeps ..); on_goal 1 => decide)
    | with_reducible apply Keeps.ite
    | with_reducible apply Keeps.ite_fst
    | (with_reducible apply Keeps.foldl <;> [skip; intro _ _ _])
    | (with_reducible apply Keeps.foldl_fst <;> [skip; intro _ _ _])
    | (extract_lets +onlyGivenNames x; with_reducible apply Keeps.cut (x := by apply x) <;> [(unfold x; clear x); (clear_value x; intro _; revert x; intros)])
    | (extract_lets +onlyGivenNames x; with_reducible apply Keeps.cut (x := by apply x.1) <;> [(unfold x; clear x); (clear_value x; intro _; revert x; intros)])
    | (extract_lets +onlyGivenNames x; clear_value x; revert x; intros)
    | split
    | dsimp -zeta only)

theorem installConfig_keeps (s : State) : Keeps 8053063679 s (installConfig s) := by
  unfold installConfig
  repeat' (first
    | with_reducible exact Keeps.refl _
    | with_reducible assumption
    | (with_reducible apply Keeps.step (State.setObj_keeps ..); on_goal 1 => decide)
    | (with_reducible apply Keeps.step (State.setObjBit_keeps ..); on_goal 1 => decide)
    | with_reducible apply Keeps.ite
    | with_reducible apply Keeps.ite_fst
    | (with_reducible apply Keeps.foldl <;> [skip; intro _ _ _])
    | (with_reducible apply Keeps.foldl_fst <;> [skip; intro _ _ _])
    | (extract_lets +onlyGivenNames x; with_reducible apply Keeps.cut (x := by apply x) <;> [(unfold x; clear x); (clear_value x; intro _; revert x; intros)])
    | (extract_lets +onlyGivenNames x; with_reducible apply Keeps.cut (x := by apply x.1) <;> [(unfold x; clear x); (clear_value x; intro _; revert x; intros)])
    | (extract_lets +onlyGivenNames x; clear_value x; revert x; intros)
    | split
    | dsimp -zeta only)

end Sys2Proof.Machine
end

