-- ==== Sys2Proof/Laws/KeepsFrames.lean ====
section
/-! SUPPORT. What each function of Machine/Frames.lean can do (see Laws/Keeps.lean). -/

set_option linter.tactic.unusedName false
set_option linter.unusedTactic false
set_option linter.unreachableTactic false

namespace Sys2Proof.Machine

theorem Keeps.ite_st {M : Nat} {s : State} {a b : MgmtOut} {c : Prop} [Decidable c] (ha : Keeps M s a.st) (hb : Keeps M s b.st) :
    Keeps M s (if c then a else b).st := by split <;> assumption

theorem Keeps.refuse_st {M : Nat} {s t : State} {r d : Nat} (h : Keeps M s t) : Keeps M s (MgmtOut.refuse t r d).st := h

theorem MgmtOut.refuse_keeps (s : State) (result : Nat) (detail : Nat) : Keeps 8589934591 s (MgmtOut.refuse s result detail).st := by
  unfold MgmtOut.refuse
  repeat' (first
    | with_reducible exact Keeps.refl _
    | with_reducible assumption
    | with_reducible apply Keeps.ite_st
    | with_reducible apply Keeps.refuse_st
    | dsimp -zeta only)

theorem doRead_keeps (link idx sub len : Nat) (shadow : Bool) (s : State) : Keeps 4294967295 s (doRead link idx sub len shadow s).st := by
  unfold doRead
  repeat' (first
    | with_reducible exact Keeps.refl _
    | with_reducible assumption
    | (with_reducible apply Keeps.step (readObject_keeps ..); on_goal 1 => decide)
    | with_reducible apply Keeps.ite
    | with_reducible apply Keeps.ite_fst
    | with_reducible apply Keeps.ite_st
    | with_reducible apply Keeps.refuse_st
    | (extract_lets +onlyGivenNames x; with_reducible apply Keeps.cut (x := by apply x) <;> [(unfold x; clear x); (clear_value x; intro _; revert x; intros)])
    | (extract_lets +onlyGivenNames x; with_reducible apply Keeps.cut (x := by apply x.1) <;> [(unfold x; clear x); (clear_value x; intro _; revert x; intros)])
    | (extract_lets +onlyGivenNames x; clear_value x; revert x; intros)
    | split
    | dsimp -zeta only)

theorem doWrite_keeps (hint : Bool) (link idx sub : Nat) (bytes : List Byte) (s : State) : Keeps 0 s (doWrite hint link idx sub bytes s).st := by
  unfold doWrite
  repeat' (first
    | with_reducible exact Keeps.refl _
    | with_reducible assumption
    | (with_reducible apply Keeps.step (writeObject_keeps ..); on_goal 1 => decide)
    | with_reducible apply Keeps.ite
    | with_reducible apply Keeps.ite_fst
    | with_reducible apply Keeps.ite_st
    | with_reducible apply Keeps.refuse_st
    | (extract_lets +onlyGivenNames x; with_reducible apply Keeps.cut (x := by apply x) <;> [(unfold x; clear x); (clear_value x; intro _; revert x; intros)])
    | (extract_lets +onlyGivenNames x; with_reducible apply Keeps.cut (x := by apply x.1) <;> [(unfold x; clear x); (clear_value x; intro _; revert x; intros)])
    | (extract_lets +onlyGivenNames x; clear_value x; revert x; intros)
    | split
    | dsimp -zeta only)

theorem doReadBlock_keeps (idx sub off len : Nat) (shadow : Bool) (s : State) : Keeps 3690987519 s (doReadBlock idx sub off len shadow s).st := by
  unfold doReadBlock
  repeat' (first
    | with_reducible exact Keeps.refl _
    | with_reducible assumption
    | (with_reducible apply Keeps.step (readRecord_keeps ..); on_goal 1 => decide)
    | with_reducible apply Keeps.ite
    | with_reducible apply Keeps.ite_fst
    | with_reducible apply Keeps.ite_st
    | with_reducible apply Keeps.refuse_st
    | (extract_lets +onlyGivenNames x; with_reducible apply Keeps.cut (x := by apply x) <;> [(unfold x; clear x); (clear_value x; intro _; revert x; intros)])
    | (extract_lets +onlyGivenNames x; with_reducible apply Keeps.cut (x := by apply x.1) <;> [(unfold x; clear x); (clear_value x; intro _; revert x; intros)])
    | (extract_lets +onlyGivenNames x; clear_value x; revert x; intros)
    | split
    | dsimp -zeta only)

theorem doWriteBlock_keeps (link idx sub off : Nat) (bytes : List Byte) (s : State) : Keeps 2483027967 s (doWriteBlock link idx sub off bytes s).st := by
  unfold doWriteBlock
  repeat' (first
    | with_reducible exact Keeps.refl _
    | with_reducible assumption
    | (with_reducible apply Keeps.step (writeRecord_keeps ..); on_goal 1 => decide)
    | with_reducible apply Keeps.ite
    | with_reducible apply Keeps.ite_fst
    | with_reducible apply Keeps.ite_st
    | with_reducible apply Keeps.refuse_st
    | (extract_lets +onlyGivenNames x; with_reducible apply Keeps.cut (x := by apply x) <;> [(unfold x; clear x); (clear_value x; intro _; revert x; intros)])
    | (extract_lets +onlyGivenNames x; with_reducible apply Keeps.cut (x := by apply x.1) <;> [(unfold x; clear x); (clear_value x; intro _; revert x; intros)])
    | (extract_lets +onlyGivenNames x; clear_value x; revert x; intros)
    | split
    | dsimp -zeta only)

theorem doBlockOp_keeps (link op : Nat) (bytes : List Byte) (s : State) : Keeps 0 s (doBlockOp link op bytes s).st := by
  unfold doBlockOp
  dsimp only
  repeat' (first
    | with_reducible exact Keeps.refl _
    | with_reducible assumption
    | (with_reducible apply Keeps.step (commitCmd_keeps ..); on_goal 1 => decide)
    | (with_reducible apply Keeps.step (abortCmd_keeps ..); on_goal 1 => decide)
    | (with_reducible apply Keeps.step (storeConfig_keeps ..); on_goal 1 => decide)
    | (with_reducible apply Keeps.step (restoreConfig_keeps ..); on_goal 1 => decide)
    | with_reducible apply Keeps.ite
    | with_reducible apply Keeps.ite_fst
    | with_reducible apply Keeps.ite_st
    | with_reducible apply Keeps.refuse_st
    | (extract_lets +onlyGivenNames x; with_reducible apply Keeps.cut (x := by apply x) <;> [(unfold x; clear x); (clear_value x; intro _; revert x; intros)])
    | (extract_lets +onlyGivenNames x; with_reducible apply Keeps.cut (x := by apply x.1) <;> [(unfold x; clear x); (clear_value x; intro _; revert x; intros)])
    | (extract_lets +onlyGivenNames x; unfold x; clear x)
    | dsimp -zeta only)

theorem runRequest_keeps (link : Nat) (q : MgmtReq) (s : State) : Keeps 0 s (runRequest link q s).st := by
  unfold runRequest
  repeat' (first
    | with_reducible exact Keeps.refl _
    | with_reducible assumption
    | (with_reducible apply Keeps.step (doRead_keeps ..); on_goal 1 => decide)
    | (with_reducible apply Keeps.step (doWrite_keeps ..); on_goal 1 => decide)
    | (with_reducible apply Keeps.step (doReadBlock_keeps ..); on_goal 1 => decide)
    | (with_reducible apply Keeps.step (doWriteBlock_keeps ..); on_goal 1 => decide)
    | (with_reducible apply Keeps.step (doBlockOp_keeps ..); on_goal 1 => decide)
    | with_reducible apply Keeps.ite
    | with_reducible apply Keeps.ite_fst
    | with_reducible apply Keeps.ite_st
    | with_reducible apply Keeps.refuse_st
    | (extract_lets +onlyGivenNames x; with_reducible apply Keeps.cut (x := by apply x) <;> [(unfold x; clear x); (clear_value x; intro _; revert x; intros)])
    | (extract_lets +onlyGivenNames x; with_reducible apply Keeps.cut (x := by apply x.1) <;> [(unfold x; clear x); (clear_value x; intro _; revert x; intros)])
    | (extract_lets +onlyGivenNames x; clear_value x; revert x; intros)
    | dsimp -zeta only)

theorem beginFrame_keeps (link : Nat) (s : State) : Keeps 7918845951 s (beginFrame link s) := by
  unfold beginFrame
  repeat' (first
    | with_reducible exact Keeps.refl _
    | with_reducible assumption
    | (with_reducible apply Keeps.step (State.addObj_keeps ..); on_goal 1 => decide)
    | (with_reducible apply Keeps.step (State.setLink_keeps ..); on_goal 1 => decide)
    | with_reducible apply Keeps.ite
    | (extract_lets +onlyGivenNames x; with_reducible apply Keeps.cut (x := by apply x) <;> [(unfold x; clear x); (clear_value x; intro _; revert x; intros)])
    | (extract_lets +onlyGivenNames x; clear_value x; revert x; intros)
    | dsimp -zeta only)

theorem endFrame_keeps (link op : Nat) (h : ReqHdr) (o : MgmtOut) : Keeps 7918845951 o.st (endFrame link op h o) := by
  unfold endFrame
  repeat' (first | with_reducible exact Keeps.refl _ | with_reducible assumption | (with_reducible apply Keeps.step (State.addObj_keeps ..); on_goal 1 => decide) | (with_reducible apply Keeps.step (State.setLink_keeps ..); on_goal 1 => decide) | with_reducible apply Keeps.ite | (extract_lets +onlyGivenNames x; with_reducible apply Keeps.cut (x := by apply x) <;> [(unfold x; clear x); (clear_value x; intro _; revert x; intros)]) | (extract_lets +onlyGivenNames x; unfold x; clear x) | fail_if_no_progress (with_reducible apply Keeps.upd_mgmt <;> [skip; decide; (intros; repeat' (first | with_reducible assumption | with_reducible exact Memory.wf_nil | with_reducible apply Memory.wf_sbN | with_reducible apply Memory.wf_sbNat | with_reducible apply Memory.wf_sb | with_reducible apply Memory.wf_filter | with_reducible apply Memory.wf_writeWords | with_reducible apply Memory.wf_foldl_sb | with_reducible exact Keeps.mramOk (by assumption) (by assumption) | split | dsimp only)); (intros; repeat' (first | with_reducible assumption | with_reducible exact Memory.wf_nil | with_reducible apply Memory.wf_sbN | with_reducible apply Memory.wf_sbNat | with_reducible apply Memory.wf_sb | with_reducible apply Memory.wf_filter | with_reducible apply Memory.wf_writeWords | with_reducible apply Memory.wf_foldl_sb | with_reducible exact Keeps.mramOk (by assumption) (by assumption) | split | dsimp only))]) | dsimp -zeta only)


theorem transact_keeps (link : Nat) (q : MgmtReq) (s : State) : Keeps 0 s (transact link q s) := by
  unfold transact
  repeat' (first
    | with_reducible exact Keeps.refl _
    | with_reducible assumption
    | (with_reducible apply Keeps.step (runRequest_keeps ..); on_goal 1 => decide)
    | (with_reducible apply Keeps.step (beginFrame_keeps ..); on_goal 1 => decide)
    | (with_reducible apply Keeps.step (endFrame_keeps ..); on_goal 1 => decide)
    | (with_reducible apply Keeps.step (State.addObj_keeps ..); on_goal 1 => decide)
    | with_reducible apply Keeps.ite
    | with_reducible apply Keeps.ite_st
    | with_reducible apply Keeps.refuse_st
    | (extract_lets +onlyGivenNames x; with_reducible apply Keeps.cut (x := by apply x) <;> [(unfold x; clear x); (clear_value x; intro _; revert x; intros)])
    | (extract_lets +onlyGivenNames x; clear_value x; revert x; intros)
    | dsimp -zeta only)

theorem execObjectRead_keeps (link : Fin 2) (hdr : ReqHdr) (s : State) {t : State} (h : execObjectRead link hdr s = .next t) : Keeps 0 s t := by
  obtain rfl := Host.Outcome.next.inj h
  repeat' (first
    | with_reducible exact Keeps.refl _
    | with_reducible assumption
    | (with_reducible apply Keeps.step (transact_keeps ..); on_goal 1 => decide)
    | dsimp -zeta only)

theorem execObjectWrite_keeps (link : Fin 2) (hdr : ReqHdr) (bytes : List (BitVec 8)) (s : State) {t : State} (h : execObjectWrite link hdr bytes s = .next t) : Keeps 0 s t := by
  obtain rfl := Host.Outcome.next.inj h
  repeat' (first
    | with_reducible exact Keeps.refl _
    | with_reducible assumption
    | (with_reducible apply Keeps.step (transact_keeps ..); on_goal 1 => decide)
    | (with_reducible apply Keeps.step (State.tickFree_keeps ..); on_goal 1 => decide)
    | dsimp -zeta only)

theorem execReadBlock_keeps (link : Fin 2) (hdr : ReqHdr) (s : State) {t : State} (h : execReadBlock link hdr s = .next t) : Keeps 0 s t := by
  obtain rfl := Host.Outcome.next.inj h
  repeat' (first
    | with_reducible exact Keeps.refl _
    | with_reducible assumption
    | (with_reducible apply Keeps.step (transact_keeps ..); on_goal 1 => decide)
    | dsimp -zeta only)

theorem execWriteBlock_keeps (link : Fin 2) (hdr : ReqHdr) (bytes : List (BitVec 8)) (s : State) {t : State} (h : execWriteBlock link hdr bytes s = .next t) : Keeps 0 s t := by
  obtain rfl := Host.Outcome.next.inj h
  repeat' (first
    | with_reducible exact Keeps.refl _
    | with_reducible assumption
    | (with_reducible apply Keeps.step (transact_keeps ..); on_goal 1 => decide)
    | dsimp -zeta only)

theorem execCommit_keeps (link : Fin 2) (hdr : ReqHdr) (bytes : List (BitVec 8)) (s : State) {t : State} (h : execCommit link hdr bytes s = .next t) : Keeps 0 s t := by
  obtain rfl := Host.Outcome.next.inj h
  repeat' (first
    | with_reducible exact Keeps.refl _
    | with_reducible assumption
    | (with_reducible apply Keeps.step (transact_keeps ..); on_goal 1 => decide)
    | dsimp -zeta only)

theorem execAbort_keeps (link : Fin 2) (hdr : ReqHdr) (s : State) {t : State} (h : execAbort link hdr s = .next t) : Keeps 0 s t := by
  obtain rfl := Host.Outcome.next.inj h
  repeat' (first
    | with_reducible exact Keeps.refl _
    | with_reducible assumption
    | (with_reducible apply Keeps.step (transact_keeps ..); on_goal 1 => decide)
    | dsimp -zeta only)

theorem execStore_keeps (link : Fin 2) (hdr : ReqHdr) (s : State) {t : State} (h : execStore link hdr s = .next t) : Keeps 0 s t := by
  obtain rfl := Host.Outcome.next.inj h
  repeat' (first
    | with_reducible exact Keeps.refl _
    | with_reducible assumption
    | (with_reducible apply Keeps.step (transact_keeps ..); on_goal 1 => decide)
    | dsimp -zeta only)

theorem execRestore_keeps (link : Fin 2) (hdr : ReqHdr) (bytes : List (BitVec 8)) (s : State) {t : State} (h : execRestore link hdr bytes s = .next t) : Keeps 0 s t := by
  obtain rfl := Host.Outcome.next.inj h
  repeat' (first
    | with_reducible exact Keeps.refl _
    | with_reducible assumption
    | (with_reducible apply Keeps.step (transact_keeps ..); on_goal 1 => decide)
    | dsimp -zeta only)

theorem badOpcode_keeps (link op : Nat) (h : ReqHdr) (s : State) : Keeps 7918845951 s (badOpcode link op h s) := by
  unfold badOpcode
  repeat' (first
    | with_reducible exact Keeps.refl _
    | with_reducible assumption
    | (with_reducible apply Keeps.step (beginFrame_keeps ..); on_goal 1 => decide)
    | (with_reducible apply Keeps.step (endFrame_keeps ..); on_goal 1 => decide)
    | (with_reducible apply Keeps.step (State.addObj_keeps ..); on_goal 1 => decide)
    | with_reducible apply Keeps.ite
    | with_reducible apply Keeps.ite_st
    | with_reducible apply Keeps.refuse_st
    | dsimp -zeta only)

theorem execBadOpcode_keeps (link : Fin 2) (opcode : BitVec 8) (hdr : ReqHdr) (s : State) {t : State} (h : execBadOpcode link opcode hdr s = .next t) : Keeps 7918845951 s t := by
  obtain rfl := Host.Outcome.next.inj h
  repeat' (first
    | with_reducible exact Keeps.refl _
    | with_reducible assumption
    | (with_reducible apply Keeps.step (badOpcode_keeps ..); on_goal 1 => decide)
    | dsimp -zeta only)

theorem frameError_keeps (link kind op : Nat) (h : ReqHdr) (s : State) : Keeps 7918845951 s (frameError link kind op h s) := by
  unfold frameError
  repeat' (first
    | with_reducible exact Keeps.refl _
    | with_reducible assumption
    | (with_reducible apply Keeps.step (beginFrame_keeps ..); on_goal 1 => decide)
    | (with_reducible apply Keeps.step (endFrame_keeps ..); on_goal 1 => decide)
    | (with_reducible apply Keeps.step (State.addObj_keeps ..); on_goal 1 => decide)
    | with_reducible apply Keeps.ite
    | with_reducible apply Keeps.ite_st
    | with_reducible apply Keeps.refuse_st
    | (extract_lets +onlyGivenNames x; with_reducible apply Keeps.cut (x := by apply x) <;> [(unfold x; clear x); (clear_value x; intro _; revert x; intros)])
    | (extract_lets +onlyGivenNames x; unfold x; clear x)
    | fail_if_no_progress (with_reducible apply Keeps.upd_mgmt <;> [skip; decide; (intros; repeat' (first | with_reducible assumption | with_reducible exact Memory.wf_nil | with_reducible apply Memory.wf_sbN | with_reducible apply Memory.wf_sbNat | with_reducible apply Memory.wf_sb | with_reducible apply Memory.wf_filter | with_reducible apply Memory.wf_writeWords | with_reducible apply Memory.wf_foldl_sb | with_reducible exact Keeps.mramOk (by assumption) (by assumption) | split | dsimp only)); (intros; repeat' (first | with_reducible assumption | with_reducible exact Memory.wf_nil | with_reducible apply Memory.wf_sbN | with_reducible apply Memory.wf_sbNat | with_reducible apply Memory.wf_sb | with_reducible apply Memory.wf_filter | with_reducible apply Memory.wf_writeWords | with_reducible apply Memory.wf_foldl_sb | with_reducible exact Keeps.mramOk (by assumption) (by assumption) | split | dsimp only))])
    | dsimp -zeta only)

theorem execFrameCrcError_keeps (link : Fin 2) (fault : FrameFault) (hdr : ReqHdr) (s : State) {t : State} (h : execFrameCrcError link fault hdr s = .next t) : Keeps 7918845951 s t := by
  obtain rfl := Host.Outcome.next.inj h
  repeat' (first
    | with_reducible exact Keeps.refl _
    | with_reducible assumption
    | (with_reducible apply Keeps.step (frameError_keeps ..); on_goal 1 => decide)
    | dsimp -zeta only)

theorem windowRun_keeps (s : State) : Keeps 0 s (windowRun s) := by
  unfold windowRun
  repeat' (first
    | with_reducible exact Keeps.refl _
    | with_reducible assumption
    | (with_reducible apply Keeps.step (beginFrame_keeps ..); on_goal 1 => decide)
    | (with_reducible apply Keeps.step (endFrame_keeps ..); on_goal 1 => decide)
    | (with_reducible apply Keeps.step (transact_keeps ..); on_goal 1 => decide)
    | (with_reducible apply Keeps.step (badOpcode_keeps ..); on_goal 1 => decide)
    | (with_reducible apply Keeps.step (State.tickFree_keeps ..); on_goal 1 => decide)
    | (with_reducible apply Keeps.step (State.addObj_keeps ..); on_goal 1 => decide)
    | with_reducible apply Keeps.ite
    | with_reducible apply Keeps.ite_st
    | with_reducible apply Keeps.refuse_st
    | (extract_lets +onlyGivenNames x; with_reducible apply Keeps.cut (x := by apply x) <;> [(unfold x; clear x); (clear_value x; intro _; revert x; intros)])
    | (extract_lets +onlyGivenNames x; unfold x; clear x)
    | fail_if_no_progress (with_reducible apply Keeps.upd_mgmt <;> [skip; decide; (intros; repeat' (first | with_reducible assumption | with_reducible exact Memory.wf_nil | with_reducible apply Memory.wf_sbN | with_reducible apply Memory.wf_sbNat | with_reducible apply Memory.wf_sb | with_reducible apply Memory.wf_filter | with_reducible apply Memory.wf_writeWords | with_reducible apply Memory.wf_foldl_sb | with_reducible exact Keeps.mramOk (by assumption) (by assumption) | split | dsimp only)); (intros; repeat' (first | with_reducible assumption | with_reducible exact Memory.wf_nil | with_reducible apply Memory.wf_sbN | with_reducible apply Memory.wf_sbNat | with_reducible apply Memory.wf_sb | with_reducible apply Memory.wf_filter | with_reducible apply Memory.wf_writeWords | with_reducible apply Memory.wf_foldl_sb | with_reducible exact Keeps.mramOk (by assumption) (by assumption) | split | dsimp only))])
    | dsimp -zeta only)

theorem doorbell_keeps (v : Nat) (s : State) : Keeps 7918845951 s (doorbell v s) := by
  unfold doorbell
  repeat' (first
    | with_reducible exact Keeps.refl _
    | with_reducible assumption
    | (with_reducible apply Keeps.step (State.addObj_keeps ..); on_goal 1 => decide)
    | with_reducible apply Keeps.ite
    | fail_if_no_progress (with_reducible apply Keeps.upd_mgmt <;> [skip; decide; (intros; repeat' (first | with_reducible assumption | with_reducible exact Memory.wf_nil | with_reducible apply Memory.wf_sbN | with_reducible apply Memory.wf_sbNat | with_reducible apply Memory.wf_sb | with_reducible apply Memory.wf_filter | with_reducible apply Memory.wf_writeWords | with_reducible apply Memory.wf_foldl_sb | with_reducible exact Keeps.mramOk (by assumption) (by assumption) | split | dsimp only)); (intros; repeat' (first | with_reducible assumption | with_reducible exact Memory.wf_nil | with_reducible apply Memory.wf_sbN | with_reducible apply Memory.wf_sbNat | with_reducible apply Memory.wf_sb | with_reducible apply Memory.wf_filter | with_reducible apply Memory.wf_writeWords | with_reducible apply Memory.wf_foldl_sb | with_reducible exact Keeps.mramOk (by assumption) (by assumption) | split | dsimp only))])
    | dsimp -zeta only)

theorem execWindowDoorbell_keeps (value : BitVec 32) (s : State) {t : State} (h : execWindowDoorbell value s = .next t) : Keeps 7918845951 s t := by
  obtain rfl := Host.Outcome.next.inj h
  repeat' (first
    | with_reducible exact Keeps.refl _
    | with_reducible assumption
    | (with_reducible apply Keeps.step (doorbell_keeps ..); on_goal 1 => decide)
    | dsimp -zeta only)

theorem windowWrite_keeps (o : Nat) (bs : List Byte) (s : State) : Keeps 7918845951 s (windowWrite o bs s) := by
  unfold windowWrite
  repeat' (first
    | with_reducible exact Keeps.refl _
    | with_reducible assumption
    | (with_reducible apply Keeps.step (doorbell_keeps ..); on_goal 1 => decide)
    | (with_reducible apply Keeps.step (State.addObj_keeps ..); on_goal 1 => decide)
    | with_reducible apply Keeps.ite
    | (extract_lets +onlyGivenNames x; with_reducible apply Keeps.cut (x := by apply x) <;> [(unfold x; clear x); (clear_value x; intro _; revert x; intros)])
    | (extract_lets +onlyGivenNames x; unfold x; clear x)
    | fail_if_no_progress (with_reducible apply Keeps.upd_mgmt <;> [skip; decide; (intros; repeat' (first | with_reducible assumption | with_reducible exact Memory.wf_nil | with_reducible apply Memory.wf_sbN | with_reducible apply Memory.wf_sbNat | with_reducible apply Memory.wf_sb | with_reducible apply Memory.wf_filter | with_reducible apply Memory.wf_writeWords | with_reducible apply Memory.wf_foldl_sb | with_reducible exact Keeps.mramOk (by assumption) (by assumption) | split | dsimp only)); (intros; repeat' (first | with_reducible assumption | with_reducible exact Memory.wf_nil | with_reducible apply Memory.wf_sbN | with_reducible apply Memory.wf_sbNat | with_reducible apply Memory.wf_sb | with_reducible apply Memory.wf_filter | with_reducible apply Memory.wf_writeWords | with_reducible apply Memory.wf_foldl_sb | with_reducible exact Keeps.mramOk (by assumption) (by assumption) | split | dsimp only))])
    | dsimp -zeta only)

theorem execWindowBufferWrite_keeps (offset : BitVec 12) (bytes : List (BitVec 8)) (s : State) {t : State} (h : execWindowBufferWrite offset bytes s = .next t) : Keeps 7918845951 s t := by
  obtain rfl := Host.Outcome.next.inj h
  repeat' (first
    | with_reducible exact Keeps.refl _
    | with_reducible assumption
    | (with_reducible apply Keeps.step (windowWrite_keeps ..); on_goal 1 => decide)
    | dsimp -zeta only)

theorem entdaa_keeps (addr : Nat) (twin : Bool) (s : State) : Keeps 3758096383 s (entdaa addr twin s) := by
  unfold entdaa
  repeat' (first
    | with_reducible exact Keeps.refl _
    | with_reducible assumption
    | (with_reducible apply Keeps.step (State.tickFree_keeps ..); on_goal 1 => decide)
    | (with_reducible apply Keeps.step (State.setObj_keeps ..); on_goal 1 => decide)
    | with_reducible apply Keeps.ite
    | dsimp -zeta only)

theorem execEntdaa_keeps (addr : BitVec 7) (twinPid : Bool) (s : State) {t : State} (h : execEntdaa addr twinPid s = .next t) : Keeps 3758096383 s t := by
  obtain rfl := Host.Outcome.next.inj h
  repeat' (first
    | with_reducible exact Keeps.refl _
    | with_reducible assumption
    | (with_reducible apply Keeps.step (entdaa_keeps ..); on_goal 1 => decide)
    | dsimp -zeta only)

theorem execRstdaa_keeps (s : State) {t : State} (h : execRstdaa s = .next t) : Keeps 8053063679 s t := by
  obtain rfl := Host.Outcome.next.inj h
  repeat' (first
    | with_reducible exact Keeps.refl _
    | with_reducible assumption
    | (with_reducible apply Keeps.step (State.setObj_keeps ..); on_goal 1 => decide)
    | with_reducible apply Keeps.ite
    | dsimp -zeta only)

theorem execSetnewda_keeps (addr : BitVec 7) (s : State) {t : State} (h : execSetnewda addr s = .next t) : Keeps 8053063679 s t := by
  obtain rfl := Host.Outcome.next.inj h
  repeat' (first
    | with_reducible exact Keeps.refl _
    | with_reducible assumption
    | (with_reducible apply Keeps.step (State.setObj_keeps ..); on_goal 1 => decide)
    | with_reducible apply Keeps.ite
    | dsimp -zeta only)

theorem setEnec_keeps (on : Bool) (bits' : BitVec 8) (s : State) : Keeps 8053063679 s (setEnec on bits' s) := by
  unfold setEnec
  repeat' (first
    | with_reducible exact Keeps.refl _
    | with_reducible assumption
    | (with_reducible apply Keeps.step (State.setObj_keeps ..); on_goal 1 => decide)
    | with_reducible apply Keeps.ite
    | dsimp -zeta only)

theorem execEnec_keeps (bits : BitVec 8) (s : State) {t : State} (h : execEnec bits s = .next t) : Keeps 8053063679 s t := by
  obtain rfl := Host.Outcome.next.inj h
  repeat' (first
    | with_reducible exact Keeps.refl _
    | with_reducible assumption
    | (with_reducible apply Keeps.step (setEnec_keeps ..); on_goal 1 => decide)
    | dsimp -zeta only)

theorem execDisec_keeps (bits : BitVec 8) (s : State) {t : State} (h : execDisec bits s = .next t) : Keeps 8053063679 s t := by
  obtain rfl := Host.Outcome.next.inj h
  repeat' (first
    | with_reducible exact Keeps.refl _
    | with_reducible assumption
    | (with_reducible apply Keeps.step (setEnec_keeps ..); on_goal 1 => decide)
    | dsimp -zeta only)

theorem ccc_keeps (n v : Nat) (s : State) : Keeps 8455716863 s (ccc n v s) := by
  unfold ccc
  repeat' (first
    | with_reducible exact Keeps.refl _
    | with_reducible assumption
    | fail_if_no_progress (with_reducible apply Keeps.upd_mgmt <;> [skip; decide; (intros; repeat' (first | with_reducible assumption | with_reducible exact Memory.wf_nil | with_reducible apply Memory.wf_sbN | with_reducible apply Memory.wf_sbNat | with_reducible apply Memory.wf_sb | with_reducible apply Memory.wf_filter | with_reducible apply Memory.wf_writeWords | with_reducible apply Memory.wf_foldl_sb | with_reducible exact Keeps.mramOk (by assumption) (by assumption) | split | dsimp only)); (intros; repeat' (first | with_reducible assumption | with_reducible exact Memory.wf_nil | with_reducible apply Memory.wf_sbN | with_reducible apply Memory.wf_sbNat | with_reducible apply Memory.wf_sb | with_reducible apply Memory.wf_filter | with_reducible apply Memory.wf_writeWords | with_reducible apply Memory.wf_foldl_sb | with_reducible exact Keeps.mramOk (by assumption) (by assumption) | split | dsimp only))])
    | dsimp -zeta only)

theorem execGetpid_keeps (s : State) {t : State} (h : execGetpid s = .next t) : Keeps 8455716863 s t := by
  obtain rfl := Host.Outcome.next.inj h
  repeat' (first
    | with_reducible exact Keeps.refl _
    | with_reducible assumption
    | (with_reducible apply Keeps.step (ccc_keeps ..); on_goal 1 => decide)
    | with_reducible apply Keeps.ite
    | dsimp -zeta only)

theorem execGetbcr_keeps (s : State) {t : State} (h : execGetbcr s = .next t) : Keeps 8455716863 s t := by
  obtain rfl := Host.Outcome.next.inj h
  repeat' (first
    | with_reducible exact Keeps.refl _
    | with_reducible assumption
    | (with_reducible apply Keeps.step (ccc_keeps ..); on_goal 1 => decide)
    | with_reducible apply Keeps.ite
    | dsimp -zeta only)

theorem execGetdcr_keeps (s : State) {t : State} (h : execGetdcr s = .next t) : Keeps 8455716863 s t := by
  obtain rfl := Host.Outcome.next.inj h
  repeat' (first
    | with_reducible exact Keeps.refl _
    | with_reducible assumption
    | (with_reducible apply Keeps.step (ccc_keeps ..); on_goal 1 => decide)
    | with_reducible apply Keeps.ite
    | dsimp -zeta only)

theorem getStatus_keeps (s : State) : Keeps 8455716863 s (getStatus s) := by
  unfold getStatus
  repeat' (first
    | with_reducible exact Keeps.refl _
    | with_reducible assumption
    | (with_reducible apply Keeps.step (ccc_keeps ..); on_goal 1 => decide)
    | with_reducible apply Keeps.ite
    | (extract_lets +onlyGivenNames x; with_reducible apply Keeps.cut (x := by apply x) <;> [(unfold x; clear x); (clear_value x; intro _; revert x; intros)])
    | (extract_lets +onlyGivenNames x; unfold x; clear x)
    | fail_if_no_progress (with_reducible apply Keeps.upd_mgmt <;> [skip; decide; (intros; repeat' (first | with_reducible assumption | with_reducible exact Memory.wf_nil | with_reducible apply Memory.wf_sbN | with_reducible apply Memory.wf_sbNat | with_reducible apply Memory.wf_sb | with_reducible apply Memory.wf_filter | with_reducible apply Memory.wf_writeWords | with_reducible apply Memory.wf_foldl_sb | with_reducible exact Keeps.mramOk (by assumption) (by assumption) | split | dsimp only)); (intros; repeat' (first | with_reducible assumption | with_reducible exact Memory.wf_nil | with_reducible apply Memory.wf_sbN | with_reducible apply Memory.wf_sbNat | with_reducible apply Memory.wf_sb | with_reducible apply Memory.wf_filter | with_reducible apply Memory.wf_writeWords | with_reducible apply Memory.wf_foldl_sb | with_reducible exact Keeps.mramOk (by assumption) (by assumption) | split | dsimp only))])
    | dsimp -zeta only)

theorem execGetstatus_keeps (s : State) {t : State} (h : execGetstatus s = .next t) : Keeps 8455716863 s t := by
  obtain rfl := Host.Outcome.next.inj h
  repeat' (first
    | with_reducible exact Keeps.refl _
    | with_reducible assumption
    | (with_reducible apply Keeps.step (getStatus_keeps ..); on_goal 1 => decide)
    | dsimp -zeta only)

theorem setLength_keeps (sub v : Nat) (s : State) : Keeps 8053063679 s (setLength sub v s) := by
  unfold setLength
  repeat' (first
    | with_reducible exact Keeps.refl _
    | with_reducible assumption
    | (with_reducible apply Keeps.step (State.setObj_keeps ..); on_goal 1 => decide)
    | with_reducible apply Keeps.ite
    | dsimp -zeta only)

theorem execSetmwl_keeps (len : BitVec 16) (s : State) {t : State} (h : execSetmwl len s = .next t) : Keeps 8053063679 s t := by
  obtain rfl := Host.Outcome.next.inj h
  repeat' (first
    | with_reducible exact Keeps.refl _
    | with_reducible assumption
    | (with_reducible apply Keeps.step (setLength_keeps ..); on_goal 1 => decide)
    | dsimp -zeta only)

theorem execSetmrl_keeps (len : BitVec 16) (s : State) {t : State} (h : execSetmrl len s = .next t) : Keeps 8053063679 s t := by
  obtain rfl := Host.Outcome.next.inj h
  repeat' (first
    | with_reducible exact Keeps.refl _
    | with_reducible assumption
    | (with_reducible apply Keeps.step (setLength_keeps ..); on_goal 1 => decide)
    | dsimp -zeta only)

theorem execGetmwl_keeps (s : State) {t : State} (h : execGetmwl s = .next t) : Keeps 8455716863 s t := by
  obtain rfl := Host.Outcome.next.inj h
  repeat' (first
    | with_reducible exact Keeps.refl _
    | with_reducible assumption
    | (with_reducible apply Keeps.step (ccc_keeps ..); on_goal 1 => decide)
    | with_reducible apply Keeps.ite
    | dsimp -zeta only)

theorem execGetmrl_keeps (s : State) {t : State} (h : execGetmrl s = .next t) : Keeps 8455716863 s t := by
  obtain rfl := Host.Outcome.next.inj h
  repeat' (first
    | with_reducible exact Keeps.refl _
    | with_reducible assumption
    | (with_reducible apply Keeps.step (ccc_keeps ..); on_goal 1 => decide)
    | with_reducible apply Keeps.ite
    | dsimp -zeta only)

theorem execGetcaps_keeps (s : State) {t : State} (h : execGetcaps s = .next t) : Keeps 8455716863 s t := by
  obtain rfl := Host.Outcome.next.inj h
  repeat' (first
    | with_reducible exact Keeps.refl _
    | with_reducible assumption
    | (with_reducible apply Keeps.step (ccc_keeps ..); on_goal 1 => decide)
    | with_reducible apply Keeps.ite
    | dsimp -zeta only)

theorem execEnthdr0_keeps (s : State) {t : State} (h : execEnthdr0 s = .next t) : Keeps 8455716863 s t := by
  obtain rfl := Host.Outcome.next.inj h
  repeat' (first
    | with_reducible exact Keeps.refl _
    | with_reducible assumption
    | with_reducible apply Keeps.ite
    | fail_if_no_progress (with_reducible apply Keeps.upd_mgmt <;> [skip; decide; (intros; repeat' (first | with_reducible assumption | with_reducible exact Memory.wf_nil | with_reducible apply Memory.wf_sbN | with_reducible apply Memory.wf_sbNat | with_reducible apply Memory.wf_sb | with_reducible apply Memory.wf_filter | with_reducible apply Memory.wf_writeWords | with_reducible apply Memory.wf_foldl_sb | with_reducible exact Keeps.mramOk (by assumption) (by assumption) | split | dsimp only)); (intros; repeat' (first | with_reducible assumption | with_reducible exact Memory.wf_nil | with_reducible apply Memory.wf_sbN | with_reducible apply Memory.wf_sbNat | with_reducible apply Memory.wf_sb | with_reducible apply Memory.wf_filter | with_reducible apply Memory.wf_writeWords | with_reducible apply Memory.wf_foldl_sb | with_reducible exact Keeps.mramOk (by assumption) (by assumption) | split | dsimp only))])
    | dsimp -zeta only)

theorem execHdrExit_keeps (s : State) {t : State} (h : execHdrExit s = .next t) : Keeps 8455716863 s t := by
  obtain rfl := Host.Outcome.next.inj h
  repeat' (first
    | with_reducible exact Keeps.refl _
    | with_reducible assumption
    | fail_if_no_progress (with_reducible apply Keeps.upd_mgmt <;> [skip; decide; (intros; repeat' (first | with_reducible assumption | with_reducible exact Memory.wf_nil | with_reducible apply Memory.wf_sbN | with_reducible apply Memory.wf_sbNat | with_reducible apply Memory.wf_sb | with_reducible apply Memory.wf_filter | with_reducible apply Memory.wf_writeWords | with_reducible apply Memory.wf_foldl_sb | with_reducible exact Keeps.mramOk (by assumption) (by assumption) | split | dsimp only)); (intros; repeat' (first | with_reducible assumption | with_reducible exact Memory.wf_nil | with_reducible apply Memory.wf_sbN | with_reducible apply Memory.wf_sbNat | with_reducible apply Memory.wf_sb | with_reducible apply Memory.wf_filter | with_reducible apply Memory.wf_writeWords | with_reducible apply Memory.wf_foldl_sb | with_reducible exact Keeps.mramOk (by assumption) (by assumption) | split | dsimp only))])
    | dsimp -zeta only)

theorem privateRead_keeps (s : State) : Keeps 8455716863 s (privateRead s) := by
  unfold privateRead
  repeat' (first
    | with_reducible exact Keeps.refl _
    | with_reducible assumption
    | (with_reducible apply Keeps.step (State.setLink_keeps ..); on_goal 1 => decide)
    | with_reducible apply Keeps.ite
    | (extract_lets +onlyGivenNames x; with_reducible apply Keeps.cut (x := by apply x) <;> [(unfold x; clear x); (clear_value x; intro _; revert x; intros)])
    | (extract_lets +onlyGivenNames x; unfold x; clear x)
    | split
    | fail_if_no_progress (with_reducible apply Keeps.upd_mgmt <;> [skip; decide; (intros; repeat' (first | with_reducible assumption | with_reducible exact Memory.wf_nil | with_reducible apply Memory.wf_sbN | with_reducible apply Memory.wf_sbNat | with_reducible apply Memory.wf_sb | with_reducible apply Memory.wf_filter | with_reducible apply Memory.wf_writeWords | with_reducible apply Memory.wf_foldl_sb | with_reducible exact Keeps.mramOk (by assumption) (by assumption) | split | dsimp only)); (intros; repeat' (first | with_reducible assumption | with_reducible exact Memory.wf_nil | with_reducible apply Memory.wf_sbN | with_reducible apply Memory.wf_sbNat | with_reducible apply Memory.wf_sb | with_reducible apply Memory.wf_filter | with_reducible apply Memory.wf_writeWords | with_reducible apply Memory.wf_foldl_sb | with_reducible exact Keeps.mramOk (by assumption) (by assumption) | split | dsimp only))])
    | dsimp -zeta only)

theorem execI3cPrivateRead_keeps (s : State) {t : State} (h : execI3cPrivateRead s = .next t) : Keeps 8455716863 s t := by
  obtain rfl := Host.Outcome.next.inj h
  repeat' (first
    | with_reducible exact Keeps.refl _
    | with_reducible assumption
    | (with_reducible apply Keeps.step (privateRead_keeps ..); on_goal 1 => decide)
    | dsimp -zeta only)

theorem ibiSent_keeps (s : State) : Keeps 8522825727 s (ibiSent s) := by
  unfold ibiSent
  repeat' (first
    | with_reducible exact Keeps.refl _
    | with_reducible assumption
    | with_reducible apply Keeps.ite
    | (extract_lets +onlyGivenNames x; with_reducible apply Keeps.cut (x := by apply x) <;> [(unfold x; clear x); (clear_value x; intro _; revert x; intros)])
    | (extract_lets +onlyGivenNames x; clear_value x; revert x; intros)
    | split
    | fail_if_no_progress (with_reducible apply Keeps.upd_ev <;> [skip; decide])
    | dsimp -zeta only)

theorem execIbiSent_keeps (s : State) {t : State} (h : execIbiSent s = .next t) : Keeps 8522825727 s t := by
  obtain rfl := Host.Outcome.next.inj h
  repeat' (first
    | with_reducible exact Keeps.refl _
    | with_reducible assumption
    | (with_reducible apply Keeps.step (ibiSent_keeps ..); on_goal 1 => decide)
    | dsimp -zeta only)

theorem writeOf_keeps (link : Nat) (tag : BitVec 8) (idx sub v : Nat) (hint : Bool) (s : State) : Keeps 0 s (writeOf link tag idx sub v hint s) := by
  unfold writeOf
  repeat' (first
    | with_reducible exact Keeps.refl _
    | with_reducible assumption
    | (with_reducible apply Keeps.step (transact_keeps ..); on_goal 1 => decide)
    | (extract_lets +onlyGivenNames x; with_reducible apply Keeps.cut (x := by apply x) <;> [(unfold x; clear x); (clear_value x; intro _; revert x; intros)])
    | (extract_lets +onlyGivenNames x; clear_value x; revert x; intros)
    | split
    | dsimp -zeta only)

theorem execClaimResource_keeps (link : Fin 2) (tag : BitVec 8) (sub : BitVec 8) (s : State) {t : State} (h : execClaimResource link tag sub s = .next t) : Keeps 0 s t := by
  obtain rfl := Host.Outcome.next.inj h
  repeat' (first
    | with_reducible exact Keeps.refl _
    | with_reducible assumption
    | (with_reducible apply Keeps.step (writeOf_keeps ..); on_goal 1 => decide)
    | dsimp -zeta only)

theorem execReleaseClaim_keeps (link : Fin 2) (tag : BitVec 8) (sub : BitVec 8) (s : State) {t : State} (h : execReleaseClaim link tag sub s = .next t) : Keeps 0 s t := by
  obtain rfl := Host.Outcome.next.inj h
  repeat' (first
    | with_reducible exact Keeps.refl _
    | with_reducible assumption
    | (with_reducible apply Keeps.step (writeOf_keeps ..); on_goal 1 => decide)
    | dsimp -zeta only)

theorem execKeyAdopt_keeps (link : Fin 2) (tag : BitVec 8) (s : State) {t : State} (h : execKeyAdopt link tag s = .next t) : Keeps 0 s t := by
  obtain rfl := Host.Outcome.next.inj h
  repeat' (first
    | with_reducible exact Keeps.refl _
    | with_reducible assumption
    | (with_reducible apply Keeps.step (writeOf_keeps ..); on_goal 1 => decide)
    | dsimp -zeta only)

theorem execErasedDeviceWrite_keeps (link : Fin 2) (tag : BitVec 8) (c : Fin 16) (entry : Fin 16) (value : BitVec 8) (s : State) {t : State} (h : execErasedDeviceWrite link tag c entry value s = .next t) : Keeps 0 s t := by
  obtain rfl := Host.Outcome.next.inj h
  repeat' (first
    | with_reducible exact Keeps.refl _
    | with_reducible assumption
    | (with_reducible apply Keeps.step (writeOf_keeps ..); on_goal 1 => decide)
    | dsimp -zeta only)

theorem execFreezeRequest_keeps (link : Fin 2) (tag : BitVec 8) (c : Fin 16) (s : State) {t : State} (h : execFreezeRequest link tag c s = .next t) : Keeps 0 s t := by
  obtain rfl := Host.Outcome.next.inj h
  repeat' (first
    | with_reducible exact Keeps.refl _
    | with_reducible assumption
    | (with_reducible apply Keeps.step (writeOf_keeps ..); on_goal 1 => decide)
    | dsimp -zeta only)

theorem execResume_keeps (link : Fin 2) (tag : BitVec 8) (c : Fin 16) (s : State) {t : State} (h : execResume link tag c s = .next t) : Keeps 0 s t := by
  obtain rfl := Host.Outcome.next.inj h
  repeat' (first
    | with_reducible exact Keeps.refl _
    | with_reducible assumption
    | (with_reducible apply Keeps.step (writeOf_keeps ..); on_goal 1 => decide)
    | dsimp -zeta only)

theorem execRetrainResume_keeps (link : Fin 2) (tag : BitVec 8) (c : Fin 16) (s : State) {t : State} (h : execRetrainResume link tag c s = .next t) : Keeps 0 s t := by
  obtain rfl := Host.Outcome.next.inj h
  repeat' (first
    | with_reducible exact Keeps.refl _
    | with_reducible assumption
    | (with_reducible apply Keeps.step (writeOf_keeps ..); on_goal 1 => decide)
    | dsimp -zeta only)

theorem execRetireRank_keeps (link : Fin 2) (tag : BitVec 8) (c : Fin 16) (s : State) {t : State} (h : execRetireRank link tag c s = .next t) : Keeps 0 s t := by
  obtain rfl := Host.Outcome.next.inj h
  repeat' (first
    | with_reducible exact Keeps.refl _
    | with_reducible assumption
    | (with_reducible apply Keeps.step (writeOf_keeps ..); on_goal 1 => decide)
    | dsimp -zeta only)

theorem execPromote_keeps (link : Fin 2) (tag : BitVec 8) (d : Fin 4) (s : State) {t : State} (h : execPromote link tag d s = .next t) : Keeps 0 s t := by
  obtain rfl := Host.Outcome.next.inj h
  repeat' (first
    | with_reducible exact Keeps.refl _
    | with_reducible assumption
    | (with_reducible apply Keeps.step (writeOf_keeps ..); on_goal 1 => decide)
    | dsimp -zeta only)

theorem execDemote_keeps (link : Fin 2) (tag : BitVec 8) (d : Fin 4) (s : State) {t : State} (h : execDemote link tag d s = .next t) : Keeps 0 s t := by
  obtain rfl := Host.Outcome.next.inj h
  repeat' (first
    | with_reducible exact Keeps.refl _
    | with_reducible assumption
    | (with_reducible apply Keeps.step (writeOf_keeps ..); on_goal 1 => decide)
    | dsimp -zeta only)

theorem execMirrorBreak_keeps (link : Fin 2) (tag : BitVec 8) (d : Fin 4) (s : State) {t : State} (h : execMirrorBreak link tag d s = .next t) : Keeps 0 s t := by
  obtain rfl := Host.Outcome.next.inj h
  repeat' (first
    | with_reducible exact Keeps.refl _
    | with_reducible assumption
    | (with_reducible apply Keeps.step (writeOf_keeps ..); on_goal 1 => decide)
    | dsimp -zeta only)

theorem execFullPush_keeps (link : Fin 2) (tag : BitVec 8) (d : Fin 4) (s : State) {t : State} (h : execFullPush link tag d s = .next t) : Keeps 0 s t := by
  obtain rfl := Host.Outcome.next.inj h
  repeat' (first
    | with_reducible exact Keeps.refl _
    | with_reducible assumption
    | (with_reducible apply Keeps.step (writeOf_keeps ..); on_goal 1 => decide)
    | dsimp -zeta only)

theorem execTrainingDone_keeps (link : Fin 2) (tag : BitVec 8) (c : Fin 16) (verified : Bool) (s : State) {t : State} (h : execTrainingDone link tag c verified s = .next t) : Keeps 0 s t := by
  obtain rfl := Host.Outcome.next.inj h
  repeat' (first
    | with_reducible exact Keeps.refl _
    | with_reducible assumption
    | (with_reducible apply Keeps.step (writeOf_keeps ..); on_goal 1 => decide)
    | dsimp -zeta only)

theorem execTrainRequest_keeps (link : Fin 2) (tag : BitVec 8) (c : Fin 16) (s : State) {t : State} (h : execTrainRequest link tag c s = .next t) : Keeps 0 s t := by
  obtain rfl := Host.Outcome.next.inj h
  repeat' (first
    | with_reducible exact Keeps.refl _
    | with_reducible assumption
    | (with_reducible apply Keeps.step (writeOf_keeps ..); on_goal 1 => decide)
    | dsimp -zeta only)

theorem execMrr_keeps (link : Fin 2) (tag : BitVec 8) (c : Fin 16) (s : State) {t : State} (h : execMrr link tag c s = .next t) : Keeps 0 s t := by
  obtain rfl := Host.Outcome.next.inj h
  repeat' (first
    | with_reducible exact Keeps.refl _
    | with_reducible assumption
    | (with_reducible apply Keeps.step (writeOf_keeps ..); on_goal 1 => decide)
    | dsimp -zeta only)

theorem execMrw_keeps (link : Fin 2) (tag : BitVec 8) (c : Fin 16) (owned : Bool) (s : State) {t : State} (h : execMrw link tag c owned s = .next t) : Keeps 0 s t := by
  obtain rfl := Host.Outcome.next.inj h
  repeat' (first
    | with_reducible exact Keeps.refl _
    | with_reducible assumption
    | (with_reducible apply Keeps.step (writeOf_keeps ..); on_goal 1 => decide)
    | dsimp -zeta only)

theorem execMpc_keeps (link : Fin 2) (tag : BitVec 8) (c : Fin 16) (owned : Bool) (s : State) {t : State} (h : execMpc link tag c owned s = .next t) : Keeps 0 s t := by
  obtain rfl := Host.Outcome.next.inj h
  repeat' (first
    | with_reducible exact Keeps.refl _
    | with_reducible assumption
    | (with_reducible apply Keeps.step (writeOf_keeps ..); on_goal 1 => decide)
    | dsimp -zeta only)

theorem execControlWordWrite_keeps (link : Fin 2) (tag : BitVec 8) (c : Fin 16) (owned : Bool) (s : State) {t : State} (h : execControlWordWrite link tag c owned s = .next t) : Keeps 0 s t := by
  obtain rfl := Host.Outcome.next.inj h
  repeat' (first
    | with_reducible exact Keeps.refl _
    | with_reducible assumption
    | (with_reducible apply Keeps.step (writeOf_keeps ..); on_goal 1 => decide)
    | dsimp -zeta only)

theorem execReadSweep_keeps (link : Fin 2) (tag : BitVec 8) (c : Fin 16) (s : State) {t : State} (h : execReadSweep link tag c s = .next t) : Keeps 0 s t := by
  obtain rfl := Host.Outcome.next.inj h
  repeat' (first
    | with_reducible exact Keeps.refl _
    | with_reducible assumption
    | (with_reducible apply Keeps.step (writeOf_keeps ..); on_goal 1 => decide)
    | dsimp -zeta only)

theorem execWriteReadSweep_keeps (link : Fin 2) (tag : BitVec 8) (c : Fin 16) (s : State) {t : State} (h : execWriteReadSweep link tag c s = .next t) : Keeps 0 s t := by
  obtain rfl := Host.Outcome.next.inj h
  repeat' (first
    | with_reducible exact Keeps.refl _
    | with_reducible assumption
    | (with_reducible apply Keeps.step (writeOf_keeps ..); on_goal 1 => decide)
    | dsimp -zeta only)

theorem execWritePattern_keeps (link : Fin 2) (tag : BitVec 8) (c : Fin 16) (s : State) {t : State} (h : execWritePattern link tag c s = .next t) : Keeps 0 s t := by
  obtain rfl := Host.Outcome.next.inj h
  repeat' (first
    | with_reducible exact Keeps.refl _
    | with_reducible assumption
    | (with_reducible apply Keeps.step (writeOf_keeps ..); on_goal 1 => decide)
    | dsimp -zeta only)

theorem execLevelingSweep_keeps (link : Fin 2) (tag : BitVec 8) (c : Fin 16) (s : State) {t : State} (h : execLevelingSweep link tag c s = .next t) : Keeps 0 s t := by
  obtain rfl := Host.Outcome.next.inj h
  repeat' (first
    | with_reducible exact Keeps.refl _
    | with_reducible assumption
    | (with_reducible apply Keeps.step (writeOf_keeps ..); on_goal 1 => decide)
    | dsimp -zeta only)

theorem execEnableSweep_keeps (link : Fin 2) (tag : BitVec 8) (c : Fin 16) (s : State) {t : State} (h : execEnableSweep link tag c s = .next t) : Keeps 0 s t := by
  obtain rfl := Host.Outcome.next.inj h
  repeat' (first
    | with_reducible exact Keeps.refl _
    | with_reducible assumption
    | (with_reducible apply Keeps.step (writeOf_keeps ..); on_goal 1 => decide)
    | dsimp -zeta only)

theorem execCalRunRequest_keeps (link : Fin 2) (tag : BitVec 8) (c : Fin 16) (s : State) {t : State} (h : execCalRunRequest link tag c s = .next t) : Keeps 0 s t := by
  obtain rfl := Host.Outcome.next.inj h
  repeat' (first
    | with_reducible exact Keeps.refl _
    | with_reducible assumption
    | (with_reducible apply Keeps.step (writeOf_keeps ..); on_goal 1 => decide)
    | dsimp -zeta only)

theorem execEyeScanRequest_keeps (link : Fin 2) (tag : BitVec 8) (c : Fin 16) (value : BitVec 8) (s : State) {t : State} (h : execEyeScanRequest link tag c value s = .next t) : Keeps 0 s t := by
  obtain rfl := Host.Outcome.next.inj h
  repeat' (first
    | with_reducible exact Keeps.refl _
    | with_reducible assumption
    | (with_reducible apply Keeps.step (writeOf_keeps ..); on_goal 1 => decide)
    | dsimp -zeta only)

theorem execSupplyRetry_keeps (link : Fin 2) (tag : BitVec 8) (s : State) {t : State} (h : execSupplyRetry link tag s = .next t) : Keeps 0 s t := by
  obtain rfl := Host.Outcome.next.inj h
  repeat' (first
    | with_reducible exact Keeps.refl _
    | with_reducible assumption
    | (with_reducible apply Keeps.step (writeOf_keeps ..); on_goal 1 => decide)
    | dsimp -zeta only)

theorem execStartRemoval_keeps (link : Fin 2) (tag : BitVec 8) (b : Fin 32) (s : State) {t : State} (h : execStartRemoval link tag b s = .next t) : Keeps 0 s t := by
  obtain rfl := Host.Outcome.next.inj h
  repeat' (first
    | with_reducible exact Keeps.refl _
    | with_reducible assumption
    | (with_reducible apply Keeps.step (writeOf_keeps ..); on_goal 1 => decide)
    | dsimp -zeta only)

theorem execAllowRemoval_keeps (link : Fin 2) (tag : BitVec 8) (b : Fin 32) (s : State) {t : State} (h : execAllowRemoval link tag b s = .next t) : Keeps 0 s t := by
  obtain rfl := Host.Outcome.next.inj h
  repeat' (first
    | with_reducible exact Keeps.refl _
    | with_reducible assumption
    | (with_reducible apply Keeps.step (writeOf_keeps ..); on_goal 1 => decide)
    | dsimp -zeta only)

theorem execLedTest_keeps (link : Fin 2) (tag : BitVec 8) (b : Fin 32) (s : State) {t : State} (h : execLedTest link tag b s = .next t) : Keeps 0 s t := by
  obtain rfl := Host.Outcome.next.inj h
  repeat' (first
    | with_reducible exact Keeps.refl _
    | with_reducible assumption
    | (with_reducible apply Keeps.step (writeOf_keeps ..); on_goal 1 => decide)
    | dsimp -zeta only)

theorem execEventPendingClear_keeps (link : Fin 2) (tag : BitVec 8) (n : Fin 512) (s : State) {t : State} (h : execEventPendingClear link tag n s = .next t) : Keeps 0 s t := by
  obtain rfl := Host.Outcome.next.inj h
  repeat' (first
    | with_reducible exact Keeps.refl _
    | with_reducible assumption
    | (with_reducible apply Keeps.step (writeOf_keeps ..); on_goal 1 => decide)
    | dsimp -zeta only)

theorem execEventQueueRead_keeps (link : Fin 2) (tag : BitVec 8) (s : State) {t : State} (h : execEventQueueRead link tag s = .next t) : Keeps 0 s t := by
  obtain rfl := Host.Outcome.next.inj h
  repeat' (first
    | with_reducible exact Keeps.refl _
    | with_reducible assumption
    | (with_reducible apply Keeps.step (transact_keeps ..); on_goal 1 => decide)
    | dsimp -zeta only)

theorem execEventQueueMark_keeps (link : Fin 2) (tag : BitVec 8) (s : State) {t : State} (h : execEventQueueMark link tag s = .next t) : Keeps 0 s t := by
  obtain rfl := Host.Outcome.next.inj h
  repeat' (first
    | with_reducible exact Keeps.refl _
    | with_reducible assumption
    | (with_reducible apply Keeps.step (writeOf_keeps ..); on_goal 1 => decide)
    | dsimp -zeta only)

theorem execEventQueueRewind_keeps (link : Fin 2) (tag : BitVec 8) (s : State) {t : State} (h : execEventQueueRewind link tag s = .next t) : Keeps 0 s t := by
  obtain rfl := Host.Outcome.next.inj h
  repeat' (first
    | with_reducible exact Keeps.refl _
    | with_reducible assumption
    | (with_reducible apply Keeps.step (writeOf_keeps ..); on_goal 1 => decide)
    | dsimp -zeta only)

theorem execEventQueueRelease_keeps (link : Fin 2) (tag : BitVec 8) (s : State) {t : State} (h : execEventQueueRelease link tag s = .next t) : Keeps 0 s t := by
  obtain rfl := Host.Outcome.next.inj h
  repeat' (first
    | with_reducible exact Keeps.refl _
    | with_reducible assumption
    | (with_reducible apply Keeps.step (writeOf_keeps ..); on_goal 1 => decide)
    | dsimp -zeta only)

theorem execEventLogClear_keeps (link : Fin 2) (tag : BitVec 8) (s : State) {t : State} (h : execEventLogClear link tag s = .next t) : Keeps 0 s t := by
  obtain rfl := Host.Outcome.next.inj h
  repeat' (first
    | with_reducible exact Keeps.refl _
    | with_reducible assumption
    | (with_reducible apply Keeps.step (writeOf_keeps ..); on_goal 1 => decide)
    | dsimp -zeta only)

theorem execSnapshotArm_keeps (link : Fin 2) (tag : BitVec 8) (frame : BitVec 64) (s : State) {t : State} (h : execSnapshotArm link tag frame s = .next t) : Keeps 0 s t := by
  obtain rfl := Host.Outcome.next.inj h
  repeat' (first
    | with_reducible exact Keeps.refl _
    | with_reducible assumption
    | (with_reducible apply Keeps.step (writeOf_keeps ..); on_goal 1 => decide)
    | dsimp -zeta only)

theorem execSampleRelease_keeps (link : Fin 2) (tag : BitVec 8) (index : BitVec 16) (s : State) {t : State} (h : execSampleRelease link tag index s = .next t) : Keeps 0 s t := by
  obtain rfl := Host.Outcome.next.inj h
  repeat' (first
    | with_reducible exact Keeps.refl _
    | with_reducible assumption
    | (with_reducible apply Keeps.step (writeOf_keeps ..); on_goal 1 => decide)
    | dsimp -zeta only)

theorem execLinkRightsConfig_keeps (link : Fin 2) (tag : BitVec 8) (value : BitVec 16) (s : State) {t : State} (h : execLinkRightsConfig link tag value s = .next t) : Keeps 0 s t := by
  obtain rfl := Host.Outcome.next.inj h
  repeat' (first
    | with_reducible exact Keeps.refl _
    | with_reducible assumption
    | (with_reducible apply Keeps.step (writeOf_keeps ..); on_goal 1 => decide)
    | dsimp -zeta only)

theorem execProfileLock_keeps (link : Fin 2) (tag : BitVec 8) (port : Fin 112) (s : State) {t : State} (h : execProfileLock link tag port s = .next t) : Keeps 0 s t := by
  obtain rfl := Host.Outcome.next.inj h
  repeat' (first
    | with_reducible exact Keeps.refl _
    | with_reducible assumption
    | (with_reducible apply Keeps.step (writeOf_keeps ..); on_goal 1 => decide)
    | dsimp -zeta only)

theorem execEnterConfig_keeps (link : Fin 2) (tag : BitVec 8) (s : State) {t : State} (h : execEnterConfig link tag s = .next t) : Keeps 0 s t := by
  obtain rfl := Host.Outcome.next.inj h
  repeat' (first
    | with_reducible exact Keeps.refl _
    | with_reducible assumption
    | (with_reducible apply Keeps.step (writeOf_keeps ..); on_goal 1 => decide)
    | dsimp -zeta only)

theorem execLeaveConfig_keeps (link : Fin 2) (tag : BitVec 8) (s : State) {t : State} (h : execLeaveConfig link tag s = .next t) : Keeps 0 s t := by
  obtain rfl := Host.Outcome.next.inj h
  repeat' (first
    | with_reducible exact Keeps.refl _
    | with_reducible assumption
    | (with_reducible apply Keeps.step (writeOf_keeps ..); on_goal 1 => decide)
    | dsimp -zeta only)

theorem execBlockReset_keeps (link : Fin 2) (tag : BitVec 8) (s : State) {t : State} (h : execBlockReset link tag s = .next t) : Keeps 0 s t := by
  obtain rfl := Host.Outcome.next.inj h
  repeat' (first
    | with_reducible exact Keeps.refl _
    | with_reducible assumption
    | (with_reducible apply Keeps.step (writeOf_keeps ..); on_goal 1 => decide)
    | dsimp -zeta only)

theorem execTestReset_keeps (link : Option (Fin 2)) (tag : BitVec 8) (s : State) {t : State} (h : execTestReset link tag s = .next t) : Keeps 0 s t := by
  obtain rfl := Host.Outcome.next.inj h
  repeat' (first
    | with_reducible exact Keeps.refl _
    | with_reducible assumption
    | (with_reducible apply Keeps.step (testResetNow_keeps ..); on_goal 1 => decide)
    | (with_reducible apply Keeps.step (writeOf_keeps ..); on_goal 1 => decide)
    | split
    | dsimp -zeta only)

theorem execEnterTest_keeps (link : Fin 2) (tag : BitVec 8) (s : State) {t : State} (h : execEnterTest link tag s = .next t) : Keeps 0 s t := by
  obtain rfl := Host.Outcome.next.inj h
  repeat' (first
    | with_reducible exact Keeps.refl _
    | with_reducible assumption
    | (with_reducible apply Keeps.step (writeOf_keeps ..); on_goal 1 => decide)
    | dsimp -zeta only)

theorem execMemGo_keeps (link : Fin 2) (tag : BitVec 8) (s : State) {t : State} (h : execMemGo link tag s = .next t) : Keeps 0 s t := by
  obtain rfl := Host.Outcome.next.inj h
  repeat' (first
    | with_reducible exact Keeps.refl _
    | with_reducible assumption
    | (with_reducible apply Keeps.step (writeOf_keeps ..); on_goal 1 => decide)
    | dsimp -zeta only)

theorem execTranslateAddress_keeps (link : Fin 2) (tag : BitVec 8) (addr : BitVec 64) (s : State) {t : State} (h : execTranslateAddress link tag addr s = .next t) : Keeps 0 s t := by
  obtain rfl := Host.Outcome.next.inj h
  repeat' (first
    | with_reducible exact Keeps.refl _
    | with_reducible assumption
    | (with_reducible apply Keeps.step (writeOf_keeps ..); on_goal 1 => decide)
    | dsimp -zeta only)

theorem testOf_keeps (link : Nat) (tag : BitVec 8) (n : Nat) (s : State) : Keeps 0 s (testOf link tag n s) := by
  unfold testOf
  repeat' (first
    | with_reducible exact Keeps.refl _
    | with_reducible assumption
    | (with_reducible apply Keeps.step (writeOf_keeps ..); on_goal 1 => decide)
    | dsimp -zeta only)

theorem execDdrConnectivity_keeps (link : Fin 2) (tag : BitVec 8) (s : State) {t : State} (h : execDdrConnectivity link tag s = .next t) : Keeps 0 s t := by
  obtain rfl := Host.Outcome.next.inj h
  repeat' (first
    | with_reducible exact Keeps.refl _
    | with_reducible assumption
    | (with_reducible apply Keeps.step (testOf_keeps ..); on_goal 1 => decide)
    | dsimp -zeta only)

theorem execSramBist_keeps (link : Fin 2) (tag : BitVec 8) (s : State) {t : State} (h : execSramBist link tag s = .next t) : Keeps 0 s t := by
  obtain rfl := Host.Outcome.next.inj h
  repeat' (first
    | with_reducible exact Keeps.refl _
    | with_reducible assumption
    | (with_reducible apply Keeps.step (testOf_keeps ..); on_goal 1 => decide)
    | dsimp -zeta only)

theorem execMramReadCheck_keeps (link : Fin 2) (tag : BitVec 8) (s : State) {t : State} (h : execMramReadCheck link tag s = .next t) : Keeps 0 s t := by
  obtain rfl := Host.Outcome.next.inj h
  repeat' (first
    | with_reducible exact Keeps.refl _
    | with_reducible assumption
    | (with_reducible apply Keeps.step (testOf_keeps ..); on_goal 1 => decide)
    | dsimp -zeta only)

theorem execMramBist_keeps (link : Fin 2) (tag : BitVec 8) (s : State) {t : State} (h : execMramBist link tag s = .next t) : Keeps 0 s t := by
  obtain rfl := Host.Outcome.next.inj h
  repeat' (first
    | with_reducible exact Keeps.refl _
    | with_reducible assumption
    | (with_reducible apply Keeps.step (testOf_keeps ..); on_goal 1 => decide)
    | dsimp -zeta only)

theorem execMirrorLoopInternal_keeps (link : Fin 2) (tag : BitVec 8) (s : State) {t : State} (h : execMirrorLoopInternal link tag s = .next t) : Keeps 0 s t := by
  obtain rfl := Host.Outcome.next.inj h
  repeat' (first
    | with_reducible exact Keeps.refl _
    | with_reducible assumption
    | (with_reducible apply Keeps.step (testOf_keeps ..); on_goal 1 => decide)
    | dsimp -zeta only)

theorem execMirrorLoopExternal_keeps (link : Fin 2) (tag : BitVec 8) (s : State) {t : State} (h : execMirrorLoopExternal link tag s = .next t) : Keeps 0 s t := by
  obtain rfl := Host.Outcome.next.inj h
  repeat' (first
    | with_reducible exact Keeps.refl _
    | with_reducible assumption
    | (with_reducible apply Keeps.step (testOf_keeps ..); on_goal 1 => decide)
    | dsimp -zeta only)

theorem injectOf_keeps (link : Nat) (tag : BitVec 8) (k : Nat) (s : State) : Keeps 0 s (injectOf link tag k s) := by
  unfold injectOf
  repeat' (first
    | with_reducible exact Keeps.refl _
    | with_reducible assumption
    | (with_reducible apply Keeps.step (writeOf_keeps ..); on_goal 1 => decide)
    | dsimp -zeta only)

theorem execInjectEcc_keeps (link : Fin 2) (tag : BitVec 8) (s : State) {t : State} (h : execInjectEcc link tag s = .next t) : Keeps 0 s t := by
  obtain rfl := Host.Outcome.next.inj h
  repeat' (first
    | with_reducible exact Keeps.refl _
    | with_reducible assumption
    | (with_reducible apply Keeps.step (injectOf_keeps ..); on_goal 1 => decide)
    | dsimp -zeta only)

theorem execInjectMac_keeps (link : Fin 2) (tag : BitVec 8) (s : State) {t : State} (h : execInjectMac link tag s = .next t) : Keeps 0 s t := by
  obtain rfl := Host.Outcome.next.inj h
  repeat' (first
    | with_reducible exact Keeps.refl _
    | with_reducible assumption
    | (with_reducible apply Keeps.step (injectOf_keeps ..); on_goal 1 => decide)
    | dsimp -zeta only)

theorem execInjectPointer_keeps (link : Fin 2) (tag : BitVec 8) (s : State) {t : State} (h : execInjectPointer link tag s = .next t) : Keeps 0 s t := by
  obtain rfl := Host.Outcome.next.inj h
  repeat' (first
    | with_reducible exact Keeps.refl _
    | with_reducible assumption
    | (with_reducible apply Keeps.step (injectOf_keeps ..); on_goal 1 => decide)
    | dsimp -zeta only)

theorem execInjectCrossingLink_keeps (link : Fin 2) (tag : BitVec 8) (s : State) {t : State} (h : execInjectCrossingLink link tag s = .next t) : Keeps 0 s t := by
  obtain rfl := Host.Outcome.next.inj h
  repeat' (first
    | with_reducible exact Keeps.refl _
    | with_reducible assumption
    | (with_reducible apply Keeps.step (injectOf_keeps ..); on_goal 1 => decide)
    | dsimp -zeta only)

theorem execInjectMirrorFrame_keeps (link : Fin 2) (tag : BitVec 8) (s : State) {t : State} (h : execInjectMirrorFrame link tag s = .next t) : Keeps 0 s t := by
  obtain rfl := Host.Outcome.next.inj h
  repeat' (first
    | with_reducible exact Keeps.refl _
    | with_reducible assumption
    | (with_reducible apply Keeps.step (injectOf_keeps ..); on_goal 1 => decide)
    | dsimp -zeta only)

theorem execInjectDisarm_keeps (link : Fin 2) (tag : BitVec 8) (s : State) {t : State} (h : execInjectDisarm link tag s = .next t) : Keeps 0 s t := by
  obtain rfl := Host.Outcome.next.inj h
  repeat' (first
    | with_reducible exact Keeps.refl _
    | with_reducible assumption
    | (with_reducible apply Keeps.step (writeOf_keeps ..); on_goal 1 => decide)
    | dsimp -zeta only)

end Sys2Proof.Machine
end

