-- ==== Sys2Proof/Laws/KeepsStartup.lean ====
section
/-! SUPPORT. What each function of Machine/Startup.lean can do (see Laws/Keeps.lean). -/

set_option linter.tactic.unusedName false
set_option linter.unusedTactic false
set_option linter.unreachableTactic false

namespace Sys2Proof.Machine

theorem powerOnReset_keeps (straps : Nat) (s : State) : Keeps 4297195520 s (powerOnReset straps s) := by
  unfold powerOnReset
  repeat' (first
    | with_reducible exact Keeps.refl _
    | with_reducible assumption
    | (with_reducible apply Keeps.step (startAtS0_keeps ..); on_goal 1 => decide)
    | (with_reducible apply Keeps.step (State.setObj_keeps ..); on_goal 1 => decide)
    | (with_reducible apply Keeps.step (State.setSense_keeps ..); on_goal 1 => decide)
    | with_reducible apply Keeps.ite
    | (extract_lets +onlyGivenNames x; with_reducible apply Keeps.cut (x := by apply x) <;> [(unfold x; clear x); (clear_value x; intro _; revert x; intros)])
    | (extract_lets +onlyGivenNames x; clear_value x; revert x; intros)
    | fail_if_no_progress (with_reducible apply Keeps.upd_blk <;> [skip; decide])
    | dsimp -zeta only)

theorem execPowerOnReset_keeps (straps : BitVec 4) (s : State) {t : State} (h : execPowerOnReset straps s = .next t) : Keeps 4297195520 s t := by
  obtain rfl := Host.Outcome.next.inj h
  repeat' (first
    | with_reducible exact Keeps.refl _
    | with_reducible assumption
    | (with_reducible apply Keeps.step (powerOnReset_keeps ..); on_goal 1 => decide)
    | dsimp -zeta only)

theorem execRefclkPllLock_keeps (s : State) {t : State} (h : execRefclkPllLock s = .next t) : Keeps 8589934590 s t := by
  obtain rfl := Host.Outcome.next.inj h
  repeat' (first
    | with_reducible exact Keeps.refl _
    | with_reducible assumption
    | with_reducible apply Keeps.ite
    | fail_if_no_progress (with_reducible apply Keeps.upd_cad <;> [skip; decide])
    | dsimp -zeta only)

theorem readVault_keeps (s : State) : Keeps 8052015103 s (readVault s) := by
  unfold readVault
  repeat' (first
    | with_reducible exact Keeps.refl _
    | with_reducible assumption
    | (with_reducible apply Keeps.step (publishVault_keeps ..); on_goal 1 => decide)
    | (with_reducible apply Keeps.step (State.setObj_keeps ..); on_goal 1 => decide)
    | (with_reducible apply Keeps.forN <;> [skip; intro _ _ _])
    | (extract_lets +onlyGivenNames x; with_reducible apply Keeps.cut (x := by apply x) <;> [(unfold x; clear x); (clear_value x; intro _; revert x; intros)])
    | (extract_lets +onlyGivenNames x; clear_value x; revert x; intros)
    | split
    | fail_if_no_progress (with_reducible apply Keeps.upd_vault <;> [skip; decide])
    | dsimp -zeta only)

theorem readFailureLog_keeps (s : State) : Keeps 3672113151 s (readFailureLog s) := by
  unfold readFailureLog
  repeat' (first
    | with_reducible exact Keeps.refl _
    | with_reducible assumption
    | (with_reducible apply Keeps.step (writeFailure_keeps ..); on_goal 1 => decide)
    | (with_reducible apply Keeps.step (State.raise_keeps ..); on_goal 1 => decide)
    | with_reducible apply Keeps.ite
    | (with_reducible apply Keeps.forN <;> [skip; intro _ _ _])
    | (extract_lets +onlyGivenNames x; with_reducible apply Keeps.cut (x := by apply x) <;> [(unfold x; clear x); (clear_value x; intro _; revert x; intros)])
    | (extract_lets +onlyGivenNames x; clear_value x; revert x; intros)
    | fail_if_no_progress (with_reducible apply Keeps.upd_mram <;> [skip; decide; (intros; repeat' (first | with_reducible assumption | with_reducible exact Memory.wf_nil | with_reducible apply Memory.wf_sbN | with_reducible apply Memory.wf_sbNat | with_reducible apply Memory.wf_sb | with_reducible apply Memory.wf_filter | with_reducible apply Memory.wf_writeWords | with_reducible apply Memory.wf_foldl_sb | with_reducible exact Keeps.mramOk (by assumption) (by assumption) | split | dsimp only))])
    | dsimp -zeta only)

theorem readDistrict_keeps (d : Nat) (s : State) : Keeps 8052801519 s (readDistrict d s) := by
  unfold readDistrict
  repeat' (first
    | with_reducible exact Keeps.refl _
    | with_reducible assumption
    | (with_reducible apply Keeps.step (publishCarve_keeps ..); on_goal 1 => decide)
    | (with_reducible apply Keeps.step (State.setObj_keeps ..); on_goal 1 => decide)
    | (with_reducible apply Keeps.step (State.setObjBit_keeps ..); on_goal 1 => decide)
    | (with_reducible apply Keeps.step (State.modChan_keeps ..); on_goal 1 => decide)
    | (with_reducible apply Keeps.step (State.modDist_keeps ..); on_goal 1 => decide)
    | with_reducible apply Keeps.ite
    | with_reducible apply Keeps.ite_fst
    | (with_reducible apply Keeps.foldl <;> [skip; intro _ _ _])
    | (with_reducible apply Keeps.foldl_fst <;> [skip; intro _ _ _])
    | (extract_lets +onlyGivenNames x; with_reducible apply Keeps.cut (x := by apply x) <;> [(unfold x; clear x); (clear_value x; intro _; revert x; intros)])
    | (extract_lets +onlyGivenNames x; with_reducible apply Keeps.cut (x := by apply x.1) <;> [(unfold x; clear x); (clear_value x; intro _; revert x; intros)])
    | (extract_lets +onlyGivenNames x; clear_value x; revert x; intros)
    | dsimp -zeta only)

theorem readTables_keeps (s : State) : Keeps 8048836607 s (readTables s) := by
  unfold readTables
  repeat' (first
    | with_reducible exact Keeps.refl _
    | with_reducible assumption
    | (with_reducible apply Keeps.step (State.setObj_keeps ..); on_goal 1 => decide)
    | (with_reducible apply Keeps.step (State.setRepair_keeps ..); on_goal 1 => decide)
    | with_reducible apply Keeps.ite
    | with_reducible apply Keeps.ite_fst
    | (with_reducible apply Keeps.forN_fst <;> [skip; intro _ _ _])
    | (with_reducible apply Keeps.forN <;> [skip; intro _ _ _])
    | (extract_lets +onlyGivenNames x; with_reducible apply Keeps.cut (x := by apply x) <;> [(unfold x; clear x); (clear_value x; intro _; revert x; intros)])
    | (extract_lets +onlyGivenNames x; with_reducible apply Keeps.cut (x := by apply x.1) <;> [(unfold x; clear x); (clear_value x; intro _; revert x; intros)])
    | (extract_lets +onlyGivenNames x; clear_value x; revert x; intros)
    | fail_if_no_progress (with_reducible apply Keeps.upd_sealedList <;> [skip; decide])
    | dsimp -zeta only)

theorem readCeilings_keeps (s : State) : Keeps 8049655807 s (readCeilings s) := by
  unfold readCeilings
  repeat' (first
    | with_reducible exact Keeps.refl _
    | with_reducible assumption
    | (with_reducible apply Keeps.step (writeVault_keeps ..); on_goal 1 => decide)
    | (with_reducible apply Keeps.step (State.setObj_keeps ..); on_goal 1 => decide)
    | (with_reducible apply Keeps.step (State.modDist_keeps ..); on_goal 1 => decide)
    | with_reducible apply Keeps.ite
    | (with_reducible apply Keeps.forN <;> [skip; intro _ _ _])
    | (extract_lets +onlyGivenNames x; with_reducible apply Keeps.cut (x := by apply x) <;> [(unfold x; clear x); (clear_value x; intro _; revert x; intros)])
    | (extract_lets +onlyGivenNames x; unfold x; clear x)
    | fail_if_no_progress (with_reducible apply Keeps.upd_vault <;> [skip; decide])
    | dsimp -zeta only)

theorem readConfig_keeps (s : State) : Keeps 8053063673 s (readConfig s) := by
  unfold readConfig
  repeat' (first
    | with_reducible exact Keeps.refl _
    | with_reducible assumption
    | (with_reducible apply Keeps.step (installConfig_keeps ..); on_goal 1 => decide)
    | (with_reducible apply Keeps.step (State.setObj_keeps ..); on_goal 1 => decide)
    | (with_reducible apply Keeps.step (State.modPort_keeps ..); on_goal 1 => decide)
    | (with_reducible apply Keeps.step (State.setXbar_keeps ..); on_goal 1 => decide)
    | with_reducible apply Keeps.ite
    | with_reducible apply Keeps.ite_fst
    | (with_reducible apply Keeps.foldl <;> [skip; intro _ _ _])
    | (with_reducible apply Keeps.foldl_fst <;> [skip; intro _ _ _])
    | (with_reducible apply Keeps.forN_fst <;> [skip; intro _ _ _])
    | (with_reducible apply Keeps.forN <;> [skip; intro _ _ _])
    | (extract_lets +onlyGivenNames x; with_reducible apply Keeps.cut (x := by apply x) <;> [(unfold x; clear x); (clear_value x; intro _; revert x; intros)])
    | (extract_lets +onlyGivenNames x; with_reducible apply Keeps.cut (x := by apply x.1) <;> [(unfold x; clear x); (clear_value x; intro _; revert x; intros)])
    | (extract_lets +onlyGivenNames x; clear_value x; revert x; intros)
    | dsimp -zeta only)

theorem mramRead_keeps (s : State) : Keeps 2324398057 s (mramRead s) := by
  unfold mramRead
  repeat' (first
    | with_reducible exact Keeps.refl _
    | with_reducible assumption
    | (with_reducible apply Keeps.step (endStage_keeps ..); on_goal 1 => decide)
    | (with_reducible apply Keeps.step (readVault_keeps ..); on_goal 1 => decide)
    | (with_reducible apply Keeps.step (readFailureLog_keeps ..); on_goal 1 => decide)
    | (with_reducible apply Keeps.step (readDistrict_keeps ..); on_goal 1 => decide)
    | (with_reducible apply Keeps.step (readTables_keeps ..); on_goal 1 => decide)
    | (with_reducible apply Keeps.step (readCeilings_keeps ..); on_goal 1 => decide)
    | (with_reducible apply Keeps.step (readConfig_keeps ..); on_goal 1 => decide)
    | with_reducible apply Keeps.ite
    | (with_reducible apply Keeps.forN <;> [skip; intro _ _ _])
    | (extract_lets +onlyGivenNames x; with_reducible apply Keeps.cut (x := by apply x) <;> [(unfold x; clear x); (clear_value x; intro _; revert x; intros)])
    | (extract_lets +onlyGivenNames x; clear_value x; revert x; intros)
    | dsimp -zeta only)

theorem execMramRead_keeps (s : State) {t : State} (h : execMramRead s = .next t) : Keeps 2324398057 s t := by
  obtain rfl := Host.Outcome.next.inj h
  repeat' (first
    | with_reducible exact Keeps.refl _
    | with_reducible assumption
    | (with_reducible apply Keeps.step (mramRead_keeps ..); on_goal 1 => decide)
    | dsimp -zeta only)

theorem discoverBay_keeps (mods : List (Option ModuleInfo)) (b : Nat) (s : State) : Keeps 3655335935 s (discoverBay mods b s) := by
  unfold discoverBay
  repeat' (first
    | with_reducible exact Keeps.refl _
    | with_reducible assumption
    | (with_reducible apply Keeps.step (bayFault_keeps ..); on_goal 1 => decide)
    | (with_reducible apply Keeps.step (writeSaveFlags_keeps ..); on_goal 1 => decide)
    | (with_reducible apply Keeps.step (State.setObj_keeps ..); on_goal 1 => decide)
    | (with_reducible apply Keeps.step (State.modBay_keeps ..); on_goal 1 => decide)
    | (with_reducible apply Keeps.step (State.raise_keeps ..); on_goal 1 => decide)
    | with_reducible apply Keeps.ite
    | (extract_lets +onlyGivenNames x; with_reducible apply Keeps.cut (x := by apply x) <;> [(unfold x; clear x); (clear_value x; intro _; revert x; intros)])
    | (extract_lets +onlyGivenNames x; clear_value x; revert x; intros)
    | split
    | dsimp -zeta only)

theorem compareDistrict_keeps (d : Nat) (s : State) : Keeps 8052801535 s (compareDistrict d s) := by
  unfold compareDistrict
  repeat' (first
    | with_reducible exact Keeps.refl _
    | with_reducible assumption
    | (with_reducible apply Keeps.step (State.setObj_keeps ..); on_goal 1 => decide)
    | (with_reducible apply Keeps.step (State.modDist_keeps ..); on_goal 1 => decide)
    | with_reducible apply Keeps.ite
    | (extract_lets +onlyGivenNames x; with_reducible apply Keeps.cut (x := by apply x) <;> [(unfold x; clear x); (clear_value x; intro _; revert x; intros)])
    | (extract_lets +onlyGivenNames x; clear_value x; revert x; intros)
    | dsimp -zeta only)

theorem reportBay_keeps (b : Nat) (s : State) : Keeps 8000634879 s (reportBay b s) := by
  unfold reportBay
  repeat' (first
    | with_reducible exact Keeps.refl _
    | with_reducible assumption
    | (with_reducible apply Keeps.step (restoreComplete_keeps ..); on_goal 1 => decide)
    | with_reducible apply Keeps.ite
    | (extract_lets +onlyGivenNames x; with_reducible apply Keeps.cut (x := by apply x) <;> [(unfold x; clear x); (clear_value x; intro _; revert x; intros)])
    | (extract_lets +onlyGivenNames x; clear_value x; revert x; intros)
    | split
    | dsimp -zeta only)

theorem trustBay_keeps (late : List Nat) (b : Nat) (s : State) : Keeps 3655204863 s (trustBay late b s) := by
  unfold trustBay
  repeat' (first
    | with_reducible exact Keeps.refl _
    | with_reducible assumption
    | (with_reducible apply Keeps.step (setErased_keeps ..); on_goal 1 => decide)
    | (with_reducible apply Keeps.step (bayFault_keeps ..); on_goal 1 => decide)
    | (with_reducible apply Keeps.step (setNeeds_keeps ..); on_goal 1 => decide)
    | (with_reducible apply Keeps.step (blankBay_keeps ..); on_goal 1 => decide)
    | (with_reducible apply Keeps.step (writeSaveFlags_keeps ..); on_goal 1 => decide)
    | (with_reducible apply Keeps.step (State.raise_keeps ..); on_goal 1 => decide)
    | with_reducible apply Keeps.ite
    | (with_reducible apply Keeps.forN <;> [skip; intro _ _ _])
    | (extract_lets +onlyGivenNames x; with_reducible apply Keeps.cut (x := by apply x) <;> [(unfold x; clear x); (clear_value x; intro _; revert x; intros)])
    | (extract_lets +onlyGivenNames x; clear_value x; revert x; intros)
    | split
    | dsimp -zeta only)

theorem discoveryDone_keeps (mods : List (Option ModuleInfo)) (s : State) : Keeps 2295988207 s (discoveryDone mods s) := by
  unfold discoveryDone
  repeat' (first
    | with_reducible exact Keeps.refl _
    | with_reducible assumption
    | (with_reducible apply Keeps.step (startTraining_keeps ..); on_goal 1 => decide)
    | (with_reducible apply Keeps.step (endStage_keeps ..); on_goal 1 => decide)
    | (with_reducible apply Keeps.step (computeTiming_keeps ..); on_goal 1 => decide)
    | (with_reducible apply Keeps.step (discoverBay_keeps ..); on_goal 1 => decide)
    | (with_reducible apply Keeps.step (compareDistrict_keeps ..); on_goal 1 => decide)
    | (with_reducible apply Keeps.step (reportBay_keeps ..); on_goal 1 => decide)
    | (with_reducible apply Keeps.step (trustBay_keeps ..); on_goal 1 => decide)
    | with_reducible apply Keeps.ite
    | (with_reducible apply Keeps.forN <;> [skip; intro _ _ _])
    | (extract_lets +onlyGivenNames x; with_reducible apply Keeps.cut (x := by apply x) <;> [(unfold x; clear x); (clear_value x; intro _; revert x; intros)])
    | (extract_lets +onlyGivenNames x; clear_value x; revert x; intros)
    | dsimp -zeta only)

theorem execModuleDiscoveryDone_keeps (mods : List (Option ModuleInfo)) (s : State) {t : State} (h : execModuleDiscoveryDone mods s = .next t) : Keeps 2295988207 s t := by
  obtain rfl := Host.Outcome.next.inj h
  repeat' (first
    | with_reducible exact Keeps.refl _
    | with_reducible assumption
    | (with_reducible apply Keeps.step (discoveryDone_keeps ..); on_goal 1 => decide)
    | dsimp -zeta only)

theorem trainingStageEnd_keeps (s : State) : Keeps 2952265727 s (trainingStageEnd s) := by
  unfold trainingStageEnd
  repeat' (first
    | with_reducible exact Keeps.refl _
    | with_reducible assumption
    | (with_reducible apply Keeps.step (endStage_keeps ..); on_goal 1 => decide)
    | with_reducible apply Keeps.ite
    | (extract_lets +onlyGivenNames x; with_reducible apply Keeps.cut (x := by apply x) <;> [(unfold x; clear x); (clear_value x; intro _; revert x; intros)])
    | (extract_lets +onlyGivenNames x; clear_value x; revert x; intros)
    | fail_if_no_progress (with_reducible apply Keeps.upd_keys <;> [skip; decide])
    | dsimp -zeta only)

theorem execTrainingStageEnd_keeps (s : State) {t : State} (h : execTrainingStageEnd s = .next t) : Keeps 2952265727 s t := by
  obtain rfl := Host.Outcome.next.inj h
  repeat' (first
    | with_reducible exact Keeps.refl _
    | with_reducible assumption
    | (with_reducible apply Keeps.step (trainingStageEnd_keeps ..); on_goal 1 => decide)
    | dsimp -zeta only)

theorem pinNode_keeps (d j idx : Nat) (s : State) : Keeps 2340947919 s (pinNode d j idx s) := by
  unfold pinNode
  repeat' (first
    | with_reducible exact Keeps.refl _
    | with_reducible assumption
    | (with_reducible apply Keeps.step (readCopies_keeps ..); on_goal 1 => decide)
    | (with_reducible apply Keeps.step (countNodeRead_keeps ..); on_goal 1 => decide)
    | (with_reducible apply Keeps.step (renewNode_keeps ..); on_goal 1 => decide)
    | (with_reducible apply Keeps.step (installReplacement_keeps ..); on_goal 1 => decide)
    | (with_reducible apply Keeps.step (lose_keeps ..); on_goal 1 => decide)
    | (with_reducible apply Keeps.step (startResult_keeps ..); on_goal 1 => decide)
    | with_reducible apply Keeps.ite
    | with_reducible apply Keeps.ite_fst
    | (extract_lets +onlyGivenNames x; with_reducible apply Keeps.cut (x := by apply x) <;> [(unfold x; clear x); (clear_value x; intro _; revert x; intros)])
    | (extract_lets +onlyGivenNames x; with_reducible apply Keeps.cut (x := by apply x.1) <;> [(unfold x; clear x); (clear_value x; intro _; revert x; intros)])
    | (extract_lets +onlyGivenNames x; clear_value x; revert x; intros)
    | split
    | fail_if_no_progress (with_reducible apply Keeps.upd_pinned <;> [skip; decide])
    | dsimp -zeta only)

theorem pinLevels_keeps (d n : Nat) (s : State) : Keeps 2340947919 s (pinLevels d s n) := by
  induction n generalizing s with
  | zero => unfold pinLevels; repeat' (first | (with_reducible apply Keeps.step (ih ..); on_goal 1 => decide) | with_reducible exact Keeps.refl _ | with_reducible assumption | (with_reducible apply Keeps.step (pinNode_keeps ..); on_goal 1 => decide) | with_reducible apply Keeps.ite | with_reducible apply Keeps.ite_fst | (with_reducible apply Keeps.forN_fst <;> [skip; intro _ _ _]) | (with_reducible apply Keeps.forN <;> [skip; intro _ _ _]) | dsimp -zeta only)
  | succ n ih => unfold pinLevels; repeat' (first | (with_reducible apply Keeps.step (ih ..); on_goal 1 => decide) | with_reducible exact Keeps.refl _ | with_reducible assumption | (with_reducible apply Keeps.step (pinNode_keeps ..); on_goal 1 => decide) | with_reducible apply Keeps.ite | with_reducible apply Keeps.ite_fst | (with_reducible apply Keeps.forN_fst <;> [skip; intro _ _ _]) | (with_reducible apply Keeps.forN <;> [skip; intro _ _ _]) | dsimp -zeta only)


theorem checkTop_keeps (d : Nat) (s : State) : Keeps 2340947919 s (checkTop d s) := by
  unfold checkTop
  repeat' (first
    | with_reducible exact Keeps.refl _
    | with_reducible assumption
    | (with_reducible apply Keeps.step (needLine_keeps ..); on_goal 1 => decide)
    | (with_reducible apply Keeps.step (startResult_keeps ..); on_goal 1 => decide)
    | (with_reducible apply Keeps.forN_fst <;> [skip; intro _ _ _])
    | (with_reducible apply Keeps.forN <;> [skip; intro _ _ _])
    | (extract_lets +onlyGivenNames x; with_reducible apply Keeps.cut (x := by apply x) <;> [(unfold x; clear x); (clear_value x; intro _; revert x; intros)])
    | (extract_lets +onlyGivenNames x; with_reducible apply Keeps.cut (x := by apply x.1) <;> [(unfold x; clear x); (clear_value x; intro _; revert x; intros)])
    | (extract_lets +onlyGivenNames x; clear_value x; revert x; intros)
    | split
    | dsimp -zeta only)

theorem replaceRoot_keeps (d : Nat) (s : State) : Keeps 2340947919 s (replaceRoot d s) := by
  unfold replaceRoot
  repeat' (first
    | with_reducible exact Keeps.refl _
    | with_reducible assumption
    | (with_reducible apply Keeps.step (raiseCeiling_keeps ..); on_goal 1 => decide)
    | (with_reducible apply Keeps.step (loseRoot_keeps ..); on_goal 1 => decide)
    | (with_reducible apply Keeps.step (startResult_keeps ..); on_goal 1 => decide)
    | (with_reducible apply Keeps.step (State.modDist_keeps ..); on_goal 1 => decide)
    | (extract_lets +onlyGivenNames x; with_reducible apply Keeps.cut (x := by apply x) <;> [(unfold x; clear x); (clear_value x; intro _; revert x; intros)])
    | (extract_lets +onlyGivenNames x; clear_value x; revert x; intros)
    | dsimp -zeta only)

theorem checkDistrict_keeps (d : Nat) (s : State) : Keeps 2340947919 s (checkDistrict d s) := by
  unfold checkDistrict
  repeat' (first
    | with_reducible exact Keeps.refl _
    | with_reducible assumption
    | (with_reducible apply Keeps.step (pinLevels_keeps ..); on_goal 1 => decide)
    | (with_reducible apply Keeps.step (checkTop_keeps ..); on_goal 1 => decide)
    | (with_reducible apply Keeps.step (replaceRoot_keeps ..); on_goal 1 => decide)
    | (with_reducible apply Keeps.step (State.modDist_keeps ..); on_goal 1 => decide)
    | with_reducible apply Keeps.ite
    | (extract_lets +onlyGivenNames x; with_reducible apply Keeps.cut (x := by apply x) <;> [(unfold x; clear x); (clear_value x; intro _; revert x; intros)])
    | (extract_lets +onlyGivenNames x; clear_value x; revert x; intros)
    | dsimp -zeta only)

theorem asUnformed_keeps (s : State) (d : Nat) : Keeps 8053063679 s (asUnformed s d) := by
  unfold asUnformed
  repeat' (first
    | with_reducible exact Keeps.refl _
    | with_reducible assumption
    | (with_reducible apply Keeps.step (State.setObj_keeps ..); on_goal 1 => decide)
    | dsimp -zeta only)

theorem autoForm_keeps (d : Nat) (s : State) : Keeps 8011659215 s (autoForm d s) := by
  unfold autoForm
  repeat' (first
    | with_reducible exact Keeps.refl _
    | with_reducible assumption
    | (with_reducible apply Keeps.step (formDistrict_keeps ..); on_goal 1 => decide)
    | (with_reducible apply Keeps.step (startResult_keeps ..); on_goal 1 => decide)
    | (with_reducible apply Keeps.step (asUnformed_keeps ..); on_goal 1 => decide)
    | with_reducible apply Keeps.ite
    | (extract_lets +onlyGivenNames x; with_reducible apply Keeps.cut (x := by apply x) <;> [(unfold x; clear x); (clear_value x; intro _; revert x; intros)])
    | (extract_lets +onlyGivenNames x; clear_value x; revert x; intros)
    | dsimp -zeta only)

theorem planDistrict_keeps (d : Nat) (s : State) : Keeps 8589672447 s (planDistrict d s) := by
  unfold planDistrict
  repeat' (first
    | with_reducible exact Keeps.refl _
    | with_reducible assumption
    | (with_reducible apply Keeps.step (State.setDist_keeps ..); on_goal 1 => decide)
    | with_reducible apply Keeps.ite
    | with_reducible apply Keeps.ite_fst
    | (extract_lets +onlyGivenNames x; with_reducible apply Keeps.cut (x := by apply x) <;> [(unfold x; clear x); (clear_value x; intro _; revert x; intros)])
    | (extract_lets +onlyGivenNames x; with_reducible apply Keeps.cut (x := by apply x.1) <;> [(unfold x; clear x); (clear_value x; intro _; revert x; intros)])
    | (extract_lets +onlyGivenNames x; clear_value x; revert x; intros)
    | dsimp -zeta only)

theorem lostRanges_keeps (d : Nat) (s : State) : Keeps 8589672447 s (lostRanges d s) := by
  unfold lostRanges
  repeat' (first
    | with_reducible exact Keeps.refl _
    | with_reducible assumption
    | (with_reducible apply Keeps.step (State.modDist_keeps ..); on_goal 1 => decide)
    | with_reducible apply Keeps.ite
    | with_reducible apply Keeps.ite_fst
    | (extract_lets +onlyGivenNames x; with_reducible apply Keeps.cut (x := by apply x) <;> [(unfold x; clear x); (clear_value x; intro _; revert x; intros)])
    | (extract_lets +onlyGivenNames x; with_reducible apply Keeps.cut (x := by apply x.1) <;> [(unfold x; clear x); (clear_value x; intro _; revert x; intros)])
    | (extract_lets +onlyGivenNames x; clear_value x; revert x; intros)
    | dsimp -zeta only)

theorem metadataCheck_keeps (s : State) : Keeps 2282225997 s (metadataCheck s) := by
  unfold metadataCheck
  repeat' (first
    | with_reducible exact Keeps.refl _
    | with_reducible assumption
    | (with_reducible apply Keeps.step (endStage_keeps ..); on_goal 1 => decide)
    | (with_reducible apply Keeps.step (startMirror_keeps ..); on_goal 1 => decide)
    | (with_reducible apply Keeps.step (checkDistrict_keeps ..); on_goal 1 => decide)
    | (with_reducible apply Keeps.step (autoForm_keeps ..); on_goal 1 => decide)
    | (with_reducible apply Keeps.step (planDistrict_keeps ..); on_goal 1 => decide)
    | (with_reducible apply Keeps.step (lostRanges_keeps ..); on_goal 1 => decide)
    | with_reducible apply Keeps.ite
    | (with_reducible apply Keeps.forN <;> [skip; intro _ _ _])
    | (extract_lets +onlyGivenNames x; with_reducible apply Keeps.cut (x := by apply x) <;> [(unfold x; clear x); (clear_value x; intro _; revert x; intros)])
    | (extract_lets +onlyGivenNames x; clear_value x; revert x; intros)
    | dsimp -zeta only)

theorem execMetadataCheck_keeps (s : State) {t : State} (h : execMetadataCheck s = .next t) : Keeps 2282225997 s t := by
  obtain rfl := Host.Outcome.next.inj h
  repeat' (first
    | with_reducible exact Keeps.refl _
    | with_reducible assumption
    | (with_reducible apply Keeps.step (metadataCheck_keeps ..); on_goal 1 => decide)
    | dsimp -zeta only)

theorem fenceUntrained_keeps (c : Nat) (s : State) : Keeps 8019247087 s (fenceUntrained c s) := by
  unfold fenceUntrained
  repeat' (first
    | with_reducible exact Keeps.refl _
    | with_reducible assumption
    | (with_reducible apply Keeps.step (setChanState_keeps ..); on_goal 1 => decide)
    | (with_reducible apply Keeps.step (bayFault_keeps ..); on_goal 1 => decide)
    | with_reducible apply Keeps.ite
    | (with_reducible apply Keeps.forN <;> [skip; intro _ _ _])
    | (extract_lets +onlyGivenNames x; with_reducible apply Keeps.cut (x := by apply x) <;> [(unfold x; clear x); (clear_value x; intro _; revert x; intros)])
    | (extract_lets +onlyGivenNames x; clear_value x; revert x; intros)
    | split
    | dsimp -zeta only)

theorem mirrorStartEnd_keeps (s : State) : Keeps 2382102511 s (mirrorStartEnd s) := by
  unfold mirrorStartEnd
  repeat' (first
    | with_reducible exact Keeps.refl _
    | with_reducible assumption
    | (with_reducible apply Keeps.step (endStage_keeps ..); on_goal 1 => decide)
    | (with_reducible apply Keeps.step (startResult_keeps ..); on_goal 1 => decide)
    | (with_reducible apply Keeps.step (fenceUntrained_keeps ..); on_goal 1 => decide)
    | with_reducible apply Keeps.ite
    | (with_reducible apply Keeps.forN <;> [skip; intro _ _ _])
    | (extract_lets +onlyGivenNames x; with_reducible apply Keeps.cut (x := by apply x) <;> [(unfold x; clear x); (clear_value x; intro _; revert x; intros)])
    | (extract_lets +onlyGivenNames x; clear_value x; revert x; intros)
    | dsimp -zeta only)

theorem execMirrorStartEnd_keeps (s : State) {t : State} (h : execMirrorStartEnd s = .next t) : Keeps 2382102511 s t := by
  obtain rfl := Host.Outcome.next.inj h
  repeat' (first
    | with_reducible exact Keeps.refl _
    | with_reducible assumption
    | (with_reducible apply Keeps.step (mirrorStartEnd_keeps ..); on_goal 1 => decide)
    | dsimp -zeta only)

end Sys2Proof.Machine
end

