-- ==== Sys2Proof/Laws/KeepsCadence.lean ====
section
/-! SUPPORT. What each function of Machine/Cadence.lean can do (see Laws/Keeps.lean). -/

set_option linter.tactic.unusedName false
set_option linter.unusedTactic false
set_option linter.unreachableTactic false

namespace Sys2Proof.Machine

theorem loseCadence_keeps (s : State) : Keeps 3688890366 s (loseCadence s) := by
  unfold loseCadence
  repeat' (first
    | with_reducible exact Keeps.refl _
    | with_reducible assumption
    | (with_reducible apply Keeps.step (State.addObj_keeps ..); on_goal 1 => decide)
    | (with_reducible apply Keeps.step (State.raise_keeps ..); on_goal 1 => decide)
    | (extract_lets +onlyGivenNames x; with_reducible apply Keeps.cut (x := by apply x) <;> [(unfold x; clear x); (clear_value x; intro _; revert x; intros)])
    | (extract_lets +onlyGivenNames x; clear_value x; revert x; intros)
    | fail_if_no_progress (with_reducible apply Keeps.upd_cad <;> [skip; decide])
    | dsimp -zeta only)

theorem relock_keeps (s : State) : Keeps 8589934590 s (relock s) := by
  unfold relock
  repeat' (first
    | with_reducible exact Keeps.refl _
    | with_reducible assumption
    | fail_if_no_progress (with_reducible apply Keeps.upd_cad <;> [skip; decide])
    | dsimp -zeta only)

theorem thermal_keeps (tj : Int) (s : State) : Keeps 2181562445 s (thermal tj s) := by
  unfold thermal
  repeat' (first
    | with_reducible exact Keeps.refl _
    | with_reducible assumption
    | (with_reducible apply Keeps.step (startSquall_keeps ..); on_goal 1 => decide)
    | (with_reducible apply Keeps.step (State.setObj_keeps ..); on_goal 1 => decide)
    | (with_reducible apply Keeps.step (State.raise_keeps ..); on_goal 1 => decide)
    | with_reducible apply Keeps.ite
    | (extract_lets +onlyGivenNames x; with_reducible apply Keeps.cut (x := by apply x) <;> [(unfold x; clear x); (clear_value x; intro _; revert x; intros)])
    | (extract_lets +onlyGivenNames x; clear_value x; revert x; intros)
    | dsimp -zeta only)

theorem renewBudget_keeps (s : State) : Keeps 8573157375 s (renewBudget s) := by
  unfold renewBudget
  repeat' (first
    | with_reducible exact Keeps.refl _
    | with_reducible assumption
    | fail_if_no_progress (with_reducible apply Keeps.upd_sup <;> [skip; decide])
    | dsimp -zeta only)

theorem markLost_keeps (d : Nat) (s : State) : Keeps 7784234991 s (markLost d s) := by
  unfold markLost
  repeat' (first
    | with_reducible exact Keeps.refl _
    | with_reducible assumption
    | (with_reducible apply Keeps.step (markPoison_keeps ..); on_goal 1 => decide)
    | (with_reducible apply Keeps.step (State.modDist_keeps ..); on_goal 1 => decide)
    | with_reducible apply Keeps.ite
    | with_reducible apply Keeps.ite_fst
    | (with_reducible apply Keeps.foldl <;> [skip; intro _ _ _])
    | (with_reducible apply Keeps.foldl_fst <;> [skip; intro _ _ _])
    | (with_reducible apply Keeps.forN_fst <;> [skip; intro _ _ _])
    | (with_reducible apply Keeps.forN <;> [skip; intro _ _ _])
    | (extract_lets +onlyGivenNames x; with_reducible apply Keeps.cut (x := by apply x) <;> [(unfold x; clear x); (clear_value x; intro _; revert x; intros)])
    | (extract_lets +onlyGivenNames x; with_reducible apply Keeps.cut (x := by apply x.1) <;> [(unfold x; clear x); (clear_value x; intro _; revert x; intros)])
    | (extract_lets +onlyGivenNames x; clear_value x; revert x; intros)
    | dsimp -zeta only)

theorem openAdmission_keeps (s : State) : Keeps 2277638127 s (openAdmission s) := by
  unfold openAdmission
  repeat' (first
    | with_reducible exact Keeps.refl _
    | with_reducible assumption
    | (with_reducible apply Keeps.step (writeVault_keeps ..); on_goal 1 => decide)
    | (with_reducible apply Keeps.step (endStage_keeps ..); on_goal 1 => decide)
    | (with_reducible apply Keeps.step (recomputePower_keeps ..); on_goal 1 => decide)
    | (with_reducible apply Keeps.step (markLost_keeps ..); on_goal 1 => decide)
    | (with_reducible apply Keeps.step (State.setObj_keeps ..); on_goal 1 => decide)
    | with_reducible apply Keeps.ite
    | (with_reducible apply Keeps.forN <;> [skip; intro _ _ _])
    | (extract_lets +onlyGivenNames x; with_reducible apply Keeps.cut (x := by apply x) <;> [(unfold x; clear x); (clear_value x; intro _; revert x; intros)])
    | (extract_lets +onlyGivenNames x; unfold x; clear x)
    | fail_if_no_progress (with_reducible apply Keeps.upd_blk <;> [skip; decide])
    | fail_if_no_progress (with_reducible apply Keeps.upd_keys_mgmt_blk <;> [skip; decide; (intros; repeat' (first | with_reducible assumption | with_reducible exact Memory.wf_nil | with_reducible apply Memory.wf_sbN | with_reducible apply Memory.wf_sbNat | with_reducible apply Memory.wf_sb | with_reducible apply Memory.wf_filter | with_reducible apply Memory.wf_writeWords | with_reducible apply Memory.wf_foldl_sb | with_reducible exact Keeps.mramOk (by assumption) (by assumption) | split | dsimp only)); (intros; repeat' (first | with_reducible assumption | with_reducible exact Memory.wf_nil | with_reducible apply Memory.wf_sbN | with_reducible apply Memory.wf_sbNat | with_reducible apply Memory.wf_sb | with_reducible apply Memory.wf_filter | with_reducible apply Memory.wf_writeWords | with_reducible apply Memory.wf_foldl_sb | with_reducible exact Keeps.mramOk (by assumption) (by assumption) | split | dsimp only))])
    | fail_if_no_progress (with_reducible apply Keeps.upd_vault <;> [skip; decide])
    | dsimp -zeta only)

theorem blockRows_keeps (s : State) : Keeps 2277638127 s (blockRows s) := by
  unfold blockRows
  repeat' (first
    | with_reducible exact Keeps.refl _
    | with_reducible assumption
    | (with_reducible apply Keeps.step (openAdmission_keeps ..); on_goal 1 => decide)
    | with_reducible apply Keeps.ite
    | (extract_lets +onlyGivenNames x; with_reducible apply Keeps.cut (x := by apply x) <;> [(unfold x; clear x); (clear_value x; intro _; revert x; intros)])
    | (extract_lets +onlyGivenNames x; clear_value x; revert x; intros)
    | split
    | fail_if_no_progress (with_reducible apply Keeps.upd_blk <;> [skip; decide])
    | dsimp -zeta only)

theorem frameChannel_keeps (c : Nat) (s : State) : Keeps 3688890351 s (frameChannel c s) := by
  unfold frameChannel
  repeat' (first
    | with_reducible exact Keeps.refl _
    | with_reducible assumption
    | (with_reducible apply Keeps.step (refreshFrame_keeps ..); on_goal 1 => decide)
    | (with_reducible apply Keeps.step (calRunTrigger_keeps ..); on_goal 1 => decide)
    | (with_reducible apply Keeps.step (State.setObj_keeps ..); on_goal 1 => decide)
    | with_reducible apply Keeps.ite
    | (extract_lets +onlyGivenNames x; with_reducible apply Keeps.cut (x := by apply x) <;> [(unfold x; clear x); (clear_value x; intro _; revert x; intros)])
    | (extract_lets +onlyGivenNames x; clear_value x; revert x; intros)
    | dsimp -zeta only)

theorem frameStart_keeps (s : State) : Keeps 268972352 s (frameStart s) := by
  unfold frameStart
  repeat' (first
    | with_reducible exact Keeps.refl _
    | with_reducible assumption
    | (with_reducible apply Keeps.step (takeSnapshot_keeps ..); on_goal 1 => decide)
    | (with_reducible apply Keeps.step (commitBoundary_keeps ..); on_goal 1 => decide)
    | with_reducible apply Keeps.ite
    | with_reducible apply Keeps.ite_fst
    | (extract_lets +onlyGivenNames x; with_reducible apply Keeps.cut (x := by apply x) <;> [(unfold x; clear x); (clear_value x; intro _; revert x; intros)])
    | (extract_lets +onlyGivenNames x; with_reducible apply Keeps.cut (x := by apply x.1) <;> [(unfold x; clear x); (clear_value x; intro _; revert x; intros)])
    | (extract_lets +onlyGivenNames x; clear_value x; revert x; intros)
    | split
    | fail_if_no_progress (with_reducible apply Keeps.upd_cad <;> [skip; decide])
    | fail_if_no_progress (with_reducible apply Keeps.upd_chans <;> [skip; decide])
    | dsimp -zeta only)

theorem frameWork_keeps (tj : Option Int) (s : State) : Keeps 64 s (frameWork tj s) := by
  unfold frameWork
  repeat' (first
    | with_reducible exact Keeps.refl _
    | with_reducible assumption
    | (with_reducible apply Keeps.step (thermal_keeps ..); on_goal 1 => decide)
    | (with_reducible apply Keeps.step (renewBudget_keeps ..); on_goal 1 => decide)
    | (with_reducible apply Keeps.step (blockRows_keeps ..); on_goal 1 => decide)
    | (with_reducible apply Keeps.step (frameChannel_keeps ..); on_goal 1 => decide)
    | (with_reducible apply Keeps.step (frameStart_keeps ..); on_goal 1 => decide)
    | (with_reducible apply Keeps.step (State.addObj_keeps ..); on_goal 1 => decide)
    | (with_reducible apply Keeps.step (State.modDist_keeps ..); on_goal 1 => decide)
    | with_reducible apply Keeps.ite
    | (with_reducible apply Keeps.forN <;> [skip; intro _ _ _])
    | (extract_lets +onlyGivenNames x; with_reducible apply Keeps.cut (x := by apply x) <;> [(unfold x; clear x); (clear_value x; intro _; revert x; intros)])
    | (extract_lets +onlyGivenNames x; clear_value x; revert x; intros)
    | split
    | fail_if_no_progress (with_reducible apply Keeps.upd_blk <;> [skip; decide])
    | fail_if_no_progress (with_reducible apply Keeps.upd_mirror <;> [skip; decide])
    | dsimp -zeta only)

theorem delayAll_keeps (n : Nat) (s : State) : Keeps 8581544009 s (delayAll n s) := by
  unfold delayAll
  repeat' (first
    | with_reducible exact Keeps.refl _
    | with_reducible assumption
    | with_reducible apply Keeps.ite
    | with_reducible apply Keeps.ite_fst
    | (extract_lets +onlyGivenNames x; with_reducible apply Keeps.cut (x := by apply x) <;> [(unfold x; clear x); (clear_value x; intro _; revert x; intros)])
    | (extract_lets +onlyGivenNames x; with_reducible apply Keeps.cut (x := by apply x.1) <;> [(unfold x; clear x); (clear_value x; intro _; revert x; intros)])
    | (extract_lets +onlyGivenNames x; clear_value x; revert x; intros)
    | fail_if_no_progress (with_reducible apply Keeps.upd_ports_xbars_chans_plaza_order_transit_gathers_samples_mirror <;> [skip; decide])
    | dsimp -zeta only)

theorem skipTo_keeps (r : Count) (n : Nat) (s : State) : Keeps 64 s (skipTo r n s) := by
  unfold skipTo
  repeat' (first
    | with_reducible exact Keeps.refl _
    | with_reducible assumption
    | (with_reducible apply Keeps.step (frameWork_keeps ..); on_goal 1 => decide)
    | (with_reducible apply Keeps.step (delayAll_keeps ..); on_goal 1 => decide)
    | (with_reducible apply Keeps.step (State.setNow_keeps ..); on_goal 1 => decide)
    | (with_reducible apply Keeps.step (State.addObj_keeps ..); on_goal 1 => decide)
    | (with_reducible apply Keeps.step (State.raise_keeps ..); on_goal 1 => decide)
    | (extract_lets +onlyGivenNames x; with_reducible apply Keeps.cut (x := by apply x) <;> [(unfold x; clear x); (clear_value x; intro _; revert x; intros)])
    | (extract_lets +onlyGivenNames x; clear_value x; revert x; intros)
    | fail_if_no_progress (with_reducible apply Keeps.upd_cad <;> [skip; decide])
    | dsimp -zeta only)

theorem acquire_keeps (r : Count) (s : State) : Keeps 64 s (acquire r s) := by
  unfold acquire
  repeat' (first
    | with_reducible exact Keeps.refl _
    | with_reducible assumption
    | (with_reducible apply Keeps.step (endStage_keeps ..); on_goal 1 => decide)
    | (with_reducible apply Keeps.step (relock_keeps ..); on_goal 1 => decide)
    | (with_reducible apply Keeps.step (frameWork_keeps ..); on_goal 1 => decide)
    | (with_reducible apply Keeps.step (skipTo_keeps ..); on_goal 1 => decide)
    | (with_reducible apply Keeps.step (State.setNow_keeps ..); on_goal 1 => decide)
    | (with_reducible apply Keeps.step (State.raise_keeps ..); on_goal 1 => decide)
    | with_reducible apply Keeps.ite
    | (extract_lets +onlyGivenNames x; with_reducible apply Keeps.cut (x := by apply x) <;> [(unfold x; clear x); (clear_value x; intro _; revert x; intros)])
    | (extract_lets +onlyGivenNames x; clear_value x; revert x; intros)
    | split
    | fail_if_no_progress (with_reducible apply Keeps.upd_cad <;> [skip; decide])
    | dsimp -zeta only)

theorem trackFrame_keeps (r : Count) (s : State) : Keeps 3688890366 s (trackFrame r s) := by
  unfold trackFrame
  repeat' (first
    | with_reducible exact Keeps.refl _
    | with_reducible assumption
    | (with_reducible apply Keeps.step (loseCadence_keeps ..); on_goal 1 => decide)
    | with_reducible apply Keeps.ite
    | (extract_lets +onlyGivenNames x; with_reducible apply Keeps.cut (x := by apply x) <;> [(unfold x; clear x); (clear_value x; intro _; revert x; intros)])
    | (extract_lets +onlyGivenNames x; clear_value x; revert x; intros)
    | fail_if_no_progress (with_reducible apply Keeps.upd_cad <;> [skip; decide])
    | dsimp -zeta only)

theorem remeasure_keeps (r : Count) (s : State) : Keeps 3688890366 s (remeasure r s) := by
  unfold remeasure
  repeat' (first
    | with_reducible exact Keeps.refl _
    | with_reducible assumption
    | (with_reducible apply Keeps.step (loseCadence_keeps ..); on_goal 1 => decide)
    | with_reducible apply Keeps.ite
    | (extract_lets +onlyGivenNames x; with_reducible apply Keeps.cut (x := by apply x) <;> [(unfold x; clear x); (clear_value x; intro _; revert x; intros)])
    | (extract_lets +onlyGivenNames x; clear_value x; revert x; intros)
    | fail_if_no_progress (with_reducible apply Keeps.upd_cad <;> [skip; decide])
    | dsimp -zeta only)

theorem frameReceived_keeps (w : BitVec 192) (s : State) : Keeps 64 s (frameReceived w s) := by
  unfold frameReceived
  repeat' (first
    | with_reducible exact Keeps.refl _
    | with_reducible assumption
    | (with_reducible apply Keeps.step (loseCadence_keeps ..); on_goal 1 => decide)
    | (with_reducible apply Keeps.step (acquire_keeps ..); on_goal 1 => decide)
    | (with_reducible apply Keeps.step (trackFrame_keeps ..); on_goal 1 => decide)
    | (with_reducible apply Keeps.step (remeasure_keeps ..); on_goal 1 => decide)
    | (with_reducible apply Keeps.step (State.addObj_keeps ..); on_goal 1 => decide)
    | with_reducible apply Keeps.ite
    | (extract_lets +onlyGivenNames x; with_reducible apply Keeps.cut (x := by apply x) <;> [(unfold x; clear x); (clear_value x; intro _; revert x; intros)])
    | (extract_lets +onlyGivenNames x; clear_value x; revert x; intros)
    | split
    | fail_if_no_progress (with_reducible apply Keeps.upd_cad <;> [skip; decide])
    | dsimp -zeta only)

theorem execCadenceFrameReceived_keeps (word : BitVec 192) (s : State) {t : State} (h : execCadenceFrameReceived word s = .next t) : Keeps 64 s t := by
  obtain rfl := Host.Outcome.next.inj h
  repeat' (first
    | with_reducible exact Keeps.refl _
    | with_reducible assumption
    | (with_reducible apply Keeps.step (frameReceived_keeps ..); on_goal 1 => decide)
    | dsimp -zeta only)

theorem acquireTimeout_keeps (s : State) : Keeps 64 s (acquireTimeout s) := by
  unfold acquireTimeout
  repeat' (first
    | with_reducible exact Keeps.refl _
    | with_reducible assumption
    | (with_reducible apply Keeps.step (endStage_keeps ..); on_goal 1 => decide)
    | (with_reducible apply Keeps.step (frameWork_keeps ..); on_goal 1 => decide)
    | (with_reducible apply Keeps.step (State.setNow_keeps ..); on_goal 1 => decide)
    | (with_reducible apply Keeps.step (State.raise_keeps ..); on_goal 1 => decide)
    | with_reducible apply Keeps.ite
    | (extract_lets +onlyGivenNames x; with_reducible apply Keeps.cut (x := by apply x) <;> [(unfold x; clear x); (clear_value x; intro _; revert x; intros)])
    | (extract_lets +onlyGivenNames x; clear_value x; revert x; intros)
    | split
    | fail_if_no_progress (with_reducible apply Keeps.upd_cad <;> [skip; decide])
    | dsimp -zeta only)

theorem execCadenceAcquireTimeout_keeps (s : State) {t : State} (h : execCadenceAcquireTimeout s = .next t) : Keeps 64 s t := by
  obtain rfl := Host.Outcome.next.inj h
  repeat' (first
    | with_reducible exact Keeps.refl _
    | with_reducible assumption
    | (with_reducible apply Keeps.step (acquireTimeout_keeps ..); on_goal 1 => decide)
    | dsimp -zeta only)

theorem clockLoss_keeps (s : State) : Keeps 3688890366 s (clockLoss s) := by
  unfold clockLoss
  repeat' (first
    | with_reducible exact Keeps.refl _
    | with_reducible assumption
    | (with_reducible apply Keeps.step (loseCadence_keeps ..); on_goal 1 => decide)
    | split
    | fail_if_no_progress (with_reducible apply Keeps.upd_cad <;> [skip; decide])
    | dsimp -zeta only)

theorem execCadenceClockLoss_keeps (s : State) {t : State} (h : execCadenceClockLoss s = .next t) : Keeps 3688890366 s t := by
  obtain rfl := Host.Outcome.next.inj h
  repeat' (first
    | with_reducible exact Keeps.refl _
    | with_reducible assumption
    | (with_reducible apply Keeps.step (clockLoss_keeps ..); on_goal 1 => decide)
    | dsimp -zeta only)

theorem cycleWork_keeps (s : State) : Keeps 0 s (cycleWork s) := by
  unfold cycleWork
  repeat' (first
    | with_reducible exact Keeps.refl _
    | with_reducible assumption
    | (with_reducible apply Keeps.step (evtTick_keeps ..); on_goal 1 => decide)
    | (with_reducible apply Keeps.step (countPort_keeps ..); on_goal 1 => decide)
    | (with_reducible apply Keeps.step (drainStaging_keeps ..); on_goal 1 => decide)
    | (with_reducible apply Keeps.step (resetDue_keeps ..); on_goal 1 => decide)
    | (with_reducible apply Keeps.step (injectCycle_keeps ..); on_goal 1 => decide)
    | (with_reducible apply Keeps.step (windowRun_keeps ..); on_goal 1 => decide)
    | (with_reducible apply Keeps.foldl <;> [skip; intro _ _ _])
    | (with_reducible apply Keeps.foldl_fst <;> [skip; intro _ _ _])
    | (extract_lets +onlyGivenNames x; with_reducible apply Keeps.cut (x := by apply x) <;> [(unfold x; clear x); (clear_value x; intro _; revert x; intros)])
    | (extract_lets +onlyGivenNames x; with_reducible apply Keeps.cut (x := by apply x.1) <;> [(unfold x; clear x); (clear_value x; intro _; revert x; intros)])
    | (extract_lets +onlyGivenNames x; clear_value x; revert x; intros)
    | fail_if_no_progress (with_reducible apply Keeps.upd_cad <;> [skip; decide])
    | dsimp -zeta only)

theorem refill_keeps (p : Nat) (s : State) : Keeps 8589934589 s (refill p s) := by
  unfold refill
  repeat' (first
    | with_reducible exact Keeps.refl _
    | with_reducible assumption
    | (with_reducible apply Keeps.step (State.modPort_keeps ..); on_goal 1 => decide)
    | with_reducible apply Keeps.ite
    | (extract_lets +onlyGivenNames x; with_reducible apply Keeps.cut (x := by apply x) <;> [(unfold x; clear x); (clear_value x; intro _; revert x; intros)])
    | (extract_lets +onlyGivenNames x; clear_value x; revert x; intros)
    | dsimp -zeta only)

theorem slotChannel_keeps (c : Nat) (s : State) : Keeps 2315780365 s (slotChannel c s) := by
  unfold slotChannel
  repeat' (first
    | with_reducible exact Keeps.refl _
    | with_reducible assumption
    | (with_reducible apply Keeps.step (powerEntry_keeps ..); on_goal 1 => decide)
    | (with_reducible apply Keeps.step (powerResidency_keeps ..); on_goal 1 => decide)
    | (with_reducible apply Keeps.step (returnLent_keeps ..); on_goal 1 => decide)
    | (with_reducible apply Keeps.step (resumeDue_keeps ..); on_goal 1 => decide)
    | (with_reducible apply Keeps.step (fenceDue_keeps ..); on_goal 1 => decide)
    | with_reducible apply Keeps.ite
    | (extract_lets +onlyGivenNames x; with_reducible apply Keeps.cut (x := by apply x) <;> [(unfold x; clear x); (clear_value x; intro _; revert x; intros)])
    | (extract_lets +onlyGivenNames x; clear_value x; revert x; intros)
    | dsimp -zeta only)

theorem slotEnd_keeps (tj : Option Int) (phase : Int) (s : State) : Keeps 0 s (slotEnd tj phase s) := by
  unfold slotEnd
  repeat' (first
    | with_reducible exact Keeps.refl _
    | with_reducible assumption
    | (with_reducible apply Keeps.step (drainStep_keeps ..); on_goal 1 => decide)
    | (with_reducible apply Keeps.step (loseCadence_keeps ..); on_goal 1 => decide)
    | (with_reducible apply Keeps.step (relock_keeps ..); on_goal 1 => decide)
    | (with_reducible apply Keeps.step (frameWork_keeps ..); on_goal 1 => decide)
    | (with_reducible apply Keeps.step (refill_keeps ..); on_goal 1 => decide)
    | (with_reducible apply Keeps.step (slotChannel_keeps ..); on_goal 1 => decide)
    | (with_reducible apply Keeps.step (State.setNow_keeps ..); on_goal 1 => decide)
    | (with_reducible apply Keeps.step (State.raise_keeps ..); on_goal 1 => decide)
    | with_reducible apply Keeps.ite
    | (with_reducible apply Keeps.forN <;> [skip; intro _ _ _])
    | (extract_lets +onlyGivenNames x; with_reducible apply Keeps.cut (x := by apply x) <;> [(unfold x; clear x); (clear_value x; intro _; revert x; intros)])
    | (extract_lets +onlyGivenNames x; clear_value x; revert x; intros)
    | fail_if_no_progress (with_reducible apply Keeps.upd_cad <;> [skip; decide])
    | dsimp -zeta only)

theorem passSlot_keeps (tj : Option Int) (phase : Int) (s : State) : Keeps 0 s (passSlot tj phase s) := by
  unfold passSlot
  repeat' (first
    | with_reducible exact Keeps.refl _
    | with_reducible assumption
    | (with_reducible apply Keeps.step (cycleWork_keeps ..); on_goal 1 => decide)
    | (with_reducible apply Keeps.step (slotEnd_keeps ..); on_goal 1 => decide)
    | with_reducible apply Keeps.ite
    | (with_reducible apply Keeps.forN <;> [skip; intro _ _ _])
    | dsimp -zeta only)

theorem slotBoundary_keeps (phase : Int) (s : State) : Keeps 0 s (slotBoundary phase s) := by
  unfold slotBoundary
  repeat' (first
    | with_reducible exact Keeps.refl _
    | with_reducible assumption
    | (with_reducible apply Keeps.step (passSlot_keeps ..); on_goal 1 => decide)
    | dsimp -zeta only)

theorem execSlotBoundary_keeps (phase : Int) (s : State) {t : State} (h : execSlotBoundary phase s = .next t) : Keeps 0 s t := by
  obtain rfl := Host.Outcome.next.inj h
  repeat' (first
    | with_reducible exact Keeps.refl _
    | with_reducible assumption
    | (with_reducible apply Keeps.step (slotBoundary_keeps ..); on_goal 1 => decide)
    | dsimp -zeta only)

theorem tick_keeps (s : State) : Keeps 0 s (tick s) := by
  unfold tick
  repeat' (first
    | with_reducible exact Keeps.refl _
    | with_reducible assumption
    | (with_reducible apply Keeps.step (cycleWork_keeps ..); on_goal 1 => decide)
    | (with_reducible apply Keeps.step (slotEnd_keeps ..); on_goal 1 => decide)
    | (with_reducible apply Keeps.step (State.setNow_keeps ..); on_goal 1 => decide)
    | with_reducible apply Keeps.ite
    | (extract_lets +onlyGivenNames x; with_reducible apply Keeps.cut (x := by apply x) <;> [(unfold x; clear x); (clear_value x; intro _; revert x; intros)])
    | (extract_lets +onlyGivenNames x; clear_value x; revert x; intros)
    | fail_if_no_progress (with_reducible apply Keeps.upd_cad <;> [skip; decide])
    | dsimp -zeta only)

theorem frameBoundary_keeps (tj : Int) (s : State) : Keeps 0 s (frameBoundary tj s) := by
  unfold frameBoundary
  repeat' (first
    | with_reducible exact Keeps.refl _
    | with_reducible assumption
    | (with_reducible apply Keeps.step (frameWork_keeps ..); on_goal 1 => decide)
    | (with_reducible apply Keeps.step (passSlot_keeps ..); on_goal 1 => decide)
    | (with_reducible apply Keeps.step (slotBoundary_keeps ..); on_goal 1 => decide)
    | with_reducible apply Keeps.ite
    | (with_reducible apply Keeps.forN <;> [skip; intro _ _ _])
    | dsimp -zeta only)

theorem execFrameBoundary_keeps (tj : Int) (s : State) {t : State} (h : execFrameBoundary tj s = .next t) : Keeps 0 s t := by
  obtain rfl := Host.Outcome.next.inj h
  repeat' (first
    | with_reducible exact Keeps.refl _
    | with_reducible assumption
    | (with_reducible apply Keeps.step (frameBoundary_keeps ..); on_goal 1 => decide)
    | dsimp -zeta only)

theorem checkpoint_keeps (s : State) : Keeps 8586788863 s (checkpoint s) := by
  unfold checkpoint
  repeat' (first
    | with_reducible exact Keeps.refl _
    | with_reducible assumption
    | (with_reducible apply Keeps.step (writeVault_keeps ..); on_goal 1 => decide)
    | with_reducible apply Keeps.ite
    | fail_if_no_progress (with_reducible apply Keeps.upd_vault <;> [skip; decide])
    | dsimp -zeta only)

theorem execLastFrameCheckpoint_keeps (s : State) {t : State} (h : execLastFrameCheckpoint s = .next t) : Keeps 8586788863 s t := by
  obtain rfl := Host.Outcome.next.inj h
  repeat' (first
    | with_reducible exact Keeps.refl _
    | with_reducible assumption
    | (with_reducible apply Keeps.step (checkpoint_keeps ..); on_goal 1 => decide)
    | dsimp -zeta only)

theorem voteNow_keeps (a b c : Count) (s : State) : Keeps 3688890366 s (voteNow a b c s) := by
  unfold voteNow
  repeat' (first
    | with_reducible exact Keeps.refl _
    | with_reducible assumption
    | (with_reducible apply Keeps.step (raiseFull_keeps ..); on_goal 1 => decide)
    | (with_reducible apply Keeps.step (State.setNow_keeps ..); on_goal 1 => decide)
    | (with_reducible apply Keeps.step (State.addObj_keeps ..); on_goal 1 => decide)
    | with_reducible apply Keeps.ite
    | (extract_lets +onlyGivenNames x; with_reducible apply Keeps.cut (x := by apply x) <;> [(unfold x; clear x); (clear_value x; intro _; revert x; intros)])
    | (extract_lets +onlyGivenNames x; clear_value x; revert x; intros)
    | dsimp -zeta only)

theorem execSlotCountCorrected_keeps (a b c : Count) (s : State) {t : State} (h : execSlotCountCorrected a b c s = .next t) : Keeps 3688890366 s t := by
  obtain rfl := Host.Outcome.next.inj h
  repeat' (first
    | with_reducible exact Keeps.refl _
    | with_reducible assumption
    | (with_reducible apply Keeps.step (voteNow_keeps ..); on_goal 1 => decide)
    | dsimp -zeta only)

end Sys2Proof.Machine
end

