-- ==== Sys2Proof/Laws/State.lean ====
section
/-! SUPPORT. What each named update of the state leaves as it was, field by field and read by read, and what it is read
back as, so that no proof unfolds a record update. -/

namespace Sys2Proof.Machine

/-! ### State.setNow -/

@[simp] theorem State.setNow_pending (s : State) (c : Count) : (s.setNow c).pending = s.pending := rfl
@[simp] theorem State.setNow_ports (s : State) (c : Count) : (s.setNow c).ports = s.ports := rfl
@[simp] theorem State.setNow_xbars (s : State) (c : Count) : (s.setNow c).xbars = s.xbars := rfl
@[simp] theorem State.setNow_net (s : State) (c : Count) : (s.setNow c).net = s.net := rfl
@[simp] theorem State.setNow_chans (s : State) (c : Count) : (s.setNow c).chans = s.chans := rfl
@[simp] theorem State.setNow_plaza (s : State) (c : Count) : (s.setNow c).plaza = s.plaza := rfl
@[simp] theorem State.setNow_plazaLru (s : State) (c : Count) : (s.setNow c).plazaLru = s.plazaLru := rfl
@[simp] theorem State.setNow_order (s : State) (c : Count) : (s.setNow c).order = s.order := rfl
@[simp] theorem State.setNow_transit (s : State) (c : Count) : (s.setNow c).transit = s.transit := rfl
@[simp] theorem State.setNow_gathers (s : State) (c : Count) : (s.setNow c).gathers = s.gathers := rfl
@[simp] theorem State.setNow_samples (s : State) (c : Count) : (s.setNow c).samples = s.samples := rfl
@[simp] theorem State.setNow_ledger (s : State) (c : Count) : (s.setNow c).ledger = s.ledger := rfl
@[simp] theorem State.setNow_ledgerLru (s : State) (c : Count) : (s.setNow c).ledgerLru = s.ledgerLru := rfl
@[simp] theorem State.setNow_found (s : State) (c : Count) : (s.setNow c).found = s.found := rfl
@[simp] theorem State.setNow_pinned (s : State) (c : Count) : (s.setNow c).pinned = s.pinned := rfl
@[simp] theorem State.setNow_sealedList (s : State) (c : Count) : (s.setNow c).sealedList = s.sealedList := rfl
@[simp] theorem State.setNow_sealedFrom (s : State) (c : Count) : (s.setNow c).sealedFrom = s.sealedFrom := rfl
@[simp] theorem State.setNow_dram (s : State) (c : Count) : (s.setNow c).dram = s.dram := rfl
@[simp] theorem State.setNow_dists (s : State) (c : Count) : (s.setNow c).dists = s.dists := rfl
@[simp] theorem State.setNow_keys (s : State) (c : Count) : (s.setNow c).keys = s.keys := rfl
@[simp] theorem State.setNow_vault (s : State) (c : Count) : (s.setNow c).vault = s.vault := rfl
@[simp] theorem State.setNow_mram (s : State) (c : Count) : (s.setNow c).mram = s.mram := rfl
@[simp] theorem State.setNow_repair (s : State) (c : Count) : (s.setNow c).repair = s.repair := rfl
@[simp] theorem State.setNow_mirror (s : State) (c : Count) : (s.setNow c).mirror = s.mirror := rfl
@[simp] theorem State.setNow_sup (s : State) (c : Count) : (s.setNow c).sup = s.sup := rfl
@[simp] theorem State.setNow_bays (s : State) (c : Count) : (s.setNow c).bays = s.bays := rfl
@[simp] theorem State.setNow_ev (s : State) (c : Count) : (s.setNow c).ev = s.ev := rfl
@[simp] theorem State.setNow_mgmt (s : State) (c : Count) : (s.setNow c).mgmt = s.mgmt := rfl
@[simp] theorem State.setNow_blk (s : State) (c : Count) : (s.setNow c).blk = s.blk := rfl
@[simp] theorem State.setNow_objs (s : State) (c : Count) : (s.setNow c).objs = s.objs := rfl
@[simp] theorem State.setNow_recs (s : State) (c : Count) : (s.setNow c).recs = s.recs := rfl
@[simp] theorem State.setNow_shadowObjs (s : State) (c : Count) : (s.setNow c).shadowObjs = s.shadowObjs := rfl
@[simp] theorem State.setNow_freeCtr (s : State) (c : Count) : (s.setNow c).freeCtr = s.freeCtr := rfl
@[simp] theorem State.setNow_at_port (s : State) (c : Count) (y : Nat) : (s.setNow c).port y = s.port y := rfl
@[simp] theorem State.setNow_at_xbar (s : State) (c : Count) (y : Nat) : (s.setNow c).xbar y = s.xbar y := rfl
@[simp] theorem State.setNow_at_chan (s : State) (c : Count) (y : Nat) : (s.setNow c).chan y = s.chan y := rfl
@[simp] theorem State.setNow_at_dist (s : State) (c : Count) (y : Nat) : (s.setNow c).dist y = s.dist y := rfl
@[simp] theorem State.setNow_at_bay (s : State) (c : Count) (y : Nat) : (s.setNow c).bay y = s.bay y := rfl
@[simp] theorem State.setNow_at_sense (s : State) (c : Count) (y : Nat) : (s.setNow c).sense y = s.sense y := rfl
@[simp] theorem State.setNow_at_repairAt (s : State) (c : Count) (y : Nat) : (s.setNow c).repairAt y = s.repairAt y := rfl
@[simp] theorem State.setNow_at_tx (s : State) (c : Count) (y : Nat) : (s.setNow c).tx y = s.tx y := rfl
@[simp] theorem State.setNow_at_rx (s : State) (c : Count) (y : Nat) : (s.setNow c).rx y = s.rx y := rfl
@[simp] theorem State.setNow_at_link (s : State) (c : Count) (y : Nat) : (s.setNow c).link y = s.link y := rfl
@[simp] theorem State.setNow_at_obj (s : State) (c : Count) (y z : Nat) : (s.setNow c).obj y z = s.obj y z := rfl
@[simp] theorem State.setNow_at_recN (s : State) (c : Count) (y z o n : Nat) : (s.setNow c).recN y z o n = s.recN y z o n := rfl
@[simp] theorem State.setNow_at_moduleAt (s : State) (c : Count) (y : Nat) : (s.setNow c).moduleAt y = s.moduleAt y := rfl

/-! ### State.tickFree -/

@[simp] theorem State.tickFree_pending (s : State) : (s.tickFree).pending = s.pending := rfl
@[simp] theorem State.tickFree_cad (s : State) : (s.tickFree).cad = s.cad := rfl
@[simp] theorem State.tickFree_ports (s : State) : (s.tickFree).ports = s.ports := rfl
@[simp] theorem State.tickFree_xbars (s : State) : (s.tickFree).xbars = s.xbars := rfl
@[simp] theorem State.tickFree_net (s : State) : (s.tickFree).net = s.net := rfl
@[simp] theorem State.tickFree_chans (s : State) : (s.tickFree).chans = s.chans := rfl
@[simp] theorem State.tickFree_plaza (s : State) : (s.tickFree).plaza = s.plaza := rfl
@[simp] theorem State.tickFree_plazaLru (s : State) : (s.tickFree).plazaLru = s.plazaLru := rfl
@[simp] theorem State.tickFree_order (s : State) : (s.tickFree).order = s.order := rfl
@[simp] theorem State.tickFree_transit (s : State) : (s.tickFree).transit = s.transit := rfl
@[simp] theorem State.tickFree_gathers (s : State) : (s.tickFree).gathers = s.gathers := rfl
@[simp] theorem State.tickFree_samples (s : State) : (s.tickFree).samples = s.samples := rfl
@[simp] theorem State.tickFree_ledger (s : State) : (s.tickFree).ledger = s.ledger := rfl
@[simp] theorem State.tickFree_ledgerLru (s : State) : (s.tickFree).ledgerLru = s.ledgerLru := rfl
@[simp] theorem State.tickFree_found (s : State) : (s.tickFree).found = s.found := rfl
@[simp] theorem State.tickFree_pinned (s : State) : (s.tickFree).pinned = s.pinned := rfl
@[simp] theorem State.tickFree_sealedList (s : State) : (s.tickFree).sealedList = s.sealedList := rfl
@[simp] theorem State.tickFree_sealedFrom (s : State) : (s.tickFree).sealedFrom = s.sealedFrom := rfl
@[simp] theorem State.tickFree_dram (s : State) : (s.tickFree).dram = s.dram := rfl
@[simp] theorem State.tickFree_dists (s : State) : (s.tickFree).dists = s.dists := rfl
@[simp] theorem State.tickFree_keys (s : State) : (s.tickFree).keys = s.keys := rfl
@[simp] theorem State.tickFree_vault (s : State) : (s.tickFree).vault = s.vault := rfl
@[simp] theorem State.tickFree_mram (s : State) : (s.tickFree).mram = s.mram := rfl
@[simp] theorem State.tickFree_repair (s : State) : (s.tickFree).repair = s.repair := rfl
@[simp] theorem State.tickFree_mirror (s : State) : (s.tickFree).mirror = s.mirror := rfl
@[simp] theorem State.tickFree_sup (s : State) : (s.tickFree).sup = s.sup := rfl
@[simp] theorem State.tickFree_bays (s : State) : (s.tickFree).bays = s.bays := rfl
@[simp] theorem State.tickFree_ev (s : State) : (s.tickFree).ev = s.ev := rfl
@[simp] theorem State.tickFree_mgmt (s : State) : (s.tickFree).mgmt = s.mgmt := rfl
@[simp] theorem State.tickFree_blk (s : State) : (s.tickFree).blk = s.blk := rfl
@[simp] theorem State.tickFree_objs (s : State) : (s.tickFree).objs = s.objs := rfl
@[simp] theorem State.tickFree_recs (s : State) : (s.tickFree).recs = s.recs := rfl
@[simp] theorem State.tickFree_shadowObjs (s : State) : (s.tickFree).shadowObjs = s.shadowObjs := rfl
@[simp] theorem State.tickFree_at_port (s : State) (y : Nat) : (s.tickFree).port y = s.port y := rfl
@[simp] theorem State.tickFree_at_xbar (s : State) (y : Nat) : (s.tickFree).xbar y = s.xbar y := rfl
@[simp] theorem State.tickFree_at_chan (s : State) (y : Nat) : (s.tickFree).chan y = s.chan y := rfl
@[simp] theorem State.tickFree_at_dist (s : State) (y : Nat) : (s.tickFree).dist y = s.dist y := rfl
@[simp] theorem State.tickFree_at_bay (s : State) (y : Nat) : (s.tickFree).bay y = s.bay y := rfl
@[simp] theorem State.tickFree_at_sense (s : State) (y : Nat) : (s.tickFree).sense y = s.sense y := rfl
@[simp] theorem State.tickFree_at_repairAt (s : State) (y : Nat) : (s.tickFree).repairAt y = s.repairAt y := rfl
@[simp] theorem State.tickFree_at_tx (s : State) (y : Nat) : (s.tickFree).tx y = s.tx y := rfl
@[simp] theorem State.tickFree_at_rx (s : State) (y : Nat) : (s.tickFree).rx y = s.rx y := rfl
@[simp] theorem State.tickFree_at_link (s : State) (y : Nat) : (s.tickFree).link y = s.link y := rfl
@[simp] theorem State.tickFree_at_obj (s : State) (y z : Nat) : (s.tickFree).obj y z = s.obj y z := rfl
@[simp] theorem State.tickFree_at_recN (s : State) (y z o n : Nat) : (s.tickFree).recN y z o n = s.recN y z o n := rfl
@[simp] theorem State.tickFree_at_now (s : State) : (s.tickFree).now = s.now := rfl
@[simp] theorem State.tickFree_at_slotNow (s : State) : (s.tickFree).slotNow = s.slotNow := rfl
@[simp] theorem State.tickFree_at_cycleNow (s : State) : (s.tickFree).cycleNow = s.cycleNow := rfl
@[simp] theorem State.tickFree_at_stampNow (s : State) (y : Nat) : (s.tickFree).stampNow y = s.stampNow y := rfl
@[simp] theorem State.tickFree_at_moduleAt (s : State) (y : Nat) : (s.tickFree).moduleAt y = s.moduleAt y := rfl

/-! ### State.setObj -/

@[simp] theorem State.setObj_pending (s : State) (i k v : Nat) : (s.setObj i k v).pending = s.pending := rfl
@[simp] theorem State.setObj_cad (s : State) (i k v : Nat) : (s.setObj i k v).cad = s.cad := rfl
@[simp] theorem State.setObj_ports (s : State) (i k v : Nat) : (s.setObj i k v).ports = s.ports := rfl
@[simp] theorem State.setObj_xbars (s : State) (i k v : Nat) : (s.setObj i k v).xbars = s.xbars := rfl
@[simp] theorem State.setObj_net (s : State) (i k v : Nat) : (s.setObj i k v).net = s.net := rfl
@[simp] theorem State.setObj_chans (s : State) (i k v : Nat) : (s.setObj i k v).chans = s.chans := rfl
@[simp] theorem State.setObj_plaza (s : State) (i k v : Nat) : (s.setObj i k v).plaza = s.plaza := rfl
@[simp] theorem State.setObj_plazaLru (s : State) (i k v : Nat) : (s.setObj i k v).plazaLru = s.plazaLru := rfl
@[simp] theorem State.setObj_order (s : State) (i k v : Nat) : (s.setObj i k v).order = s.order := rfl
@[simp] theorem State.setObj_transit (s : State) (i k v : Nat) : (s.setObj i k v).transit = s.transit := rfl
@[simp] theorem State.setObj_gathers (s : State) (i k v : Nat) : (s.setObj i k v).gathers = s.gathers := rfl
@[simp] theorem State.setObj_samples (s : State) (i k v : Nat) : (s.setObj i k v).samples = s.samples := rfl
@[simp] theorem State.setObj_ledger (s : State) (i k v : Nat) : (s.setObj i k v).ledger = s.ledger := rfl
@[simp] theorem State.setObj_ledgerLru (s : State) (i k v : Nat) : (s.setObj i k v).ledgerLru = s.ledgerLru := rfl
@[simp] theorem State.setObj_found (s : State) (i k v : Nat) : (s.setObj i k v).found = s.found := rfl
@[simp] theorem State.setObj_pinned (s : State) (i k v : Nat) : (s.setObj i k v).pinned = s.pinned := rfl
@[simp] theorem State.setObj_sealedList (s : State) (i k v : Nat) : (s.setObj i k v).sealedList = s.sealedList := rfl
@[simp] theorem State.setObj_sealedFrom (s : State) (i k v : Nat) : (s.setObj i k v).sealedFrom = s.sealedFrom := rfl
@[simp] theorem State.setObj_dram (s : State) (i k v : Nat) : (s.setObj i k v).dram = s.dram := rfl
@[simp] theorem State.setObj_dists (s : State) (i k v : Nat) : (s.setObj i k v).dists = s.dists := rfl
@[simp] theorem State.setObj_keys (s : State) (i k v : Nat) : (s.setObj i k v).keys = s.keys := rfl
@[simp] theorem State.setObj_vault (s : State) (i k v : Nat) : (s.setObj i k v).vault = s.vault := rfl
@[simp] theorem State.setObj_mram (s : State) (i k v : Nat) : (s.setObj i k v).mram = s.mram := rfl
@[simp] theorem State.setObj_repair (s : State) (i k v : Nat) : (s.setObj i k v).repair = s.repair := rfl
@[simp] theorem State.setObj_mirror (s : State) (i k v : Nat) : (s.setObj i k v).mirror = s.mirror := rfl
@[simp] theorem State.setObj_sup (s : State) (i k v : Nat) : (s.setObj i k v).sup = s.sup := rfl
@[simp] theorem State.setObj_bays (s : State) (i k v : Nat) : (s.setObj i k v).bays = s.bays := rfl
@[simp] theorem State.setObj_ev (s : State) (i k v : Nat) : (s.setObj i k v).ev = s.ev := rfl
@[simp] theorem State.setObj_mgmt (s : State) (i k v : Nat) : (s.setObj i k v).mgmt = s.mgmt := rfl
@[simp] theorem State.setObj_blk (s : State) (i k v : Nat) : (s.setObj i k v).blk = s.blk := rfl
@[simp] theorem State.setObj_recs (s : State) (i k v : Nat) : (s.setObj i k v).recs = s.recs := rfl
@[simp] theorem State.setObj_shadowObjs (s : State) (i k v : Nat) : (s.setObj i k v).shadowObjs = s.shadowObjs := rfl
@[simp] theorem State.setObj_freeCtr (s : State) (i k v : Nat) : (s.setObj i k v).freeCtr = s.freeCtr := rfl
@[simp] theorem State.setObj_at_port (s : State) (i k v : Nat) (y : Nat) : (s.setObj i k v).port y = s.port y := rfl
@[simp] theorem State.setObj_at_xbar (s : State) (i k v : Nat) (y : Nat) : (s.setObj i k v).xbar y = s.xbar y := rfl
@[simp] theorem State.setObj_at_chan (s : State) (i k v : Nat) (y : Nat) : (s.setObj i k v).chan y = s.chan y := rfl
@[simp] theorem State.setObj_at_dist (s : State) (i k v : Nat) (y : Nat) : (s.setObj i k v).dist y = s.dist y := rfl
@[simp] theorem State.setObj_at_bay (s : State) (i k v : Nat) (y : Nat) : (s.setObj i k v).bay y = s.bay y := rfl
@[simp] theorem State.setObj_at_sense (s : State) (i k v : Nat) (y : Nat) : (s.setObj i k v).sense y = s.sense y := rfl
@[simp] theorem State.setObj_at_repairAt (s : State) (i k v : Nat) (y : Nat) : (s.setObj i k v).repairAt y = s.repairAt y := rfl
@[simp] theorem State.setObj_at_tx (s : State) (i k v : Nat) (y : Nat) : (s.setObj i k v).tx y = s.tx y := rfl
@[simp] theorem State.setObj_at_rx (s : State) (i k v : Nat) (y : Nat) : (s.setObj i k v).rx y = s.rx y := rfl
@[simp] theorem State.setObj_at_link (s : State) (i k v : Nat) (y : Nat) : (s.setObj i k v).link y = s.link y := rfl
@[simp] theorem State.setObj_at_recN (s : State) (i k v : Nat) (y z o n : Nat) : (s.setObj i k v).recN y z o n = s.recN y z o n := rfl
@[simp] theorem State.setObj_at_now (s : State) (i k v : Nat) : (s.setObj i k v).now = s.now := rfl
@[simp] theorem State.setObj_at_slotNow (s : State) (i k v : Nat) : (s.setObj i k v).slotNow = s.slotNow := rfl
@[simp] theorem State.setObj_at_cycleNow (s : State) (i k v : Nat) : (s.setObj i k v).cycleNow = s.cycleNow := rfl
@[simp] theorem State.setObj_at_stampNow (s : State) (i k v : Nat) (y : Nat) : (s.setObj i k v).stampNow y = s.stampNow y := rfl
@[simp] theorem State.setObj_at_moduleAt (s : State) (i k v : Nat) (y : Nat) : (s.setObj i k v).moduleAt y = s.moduleAt y := rfl

/-! ### State.addObj -/

@[simp] theorem State.addObj_pending (s : State) (i k v : Nat) : (s.addObj i k v).pending = s.pending := rfl
@[simp] theorem State.addObj_cad (s : State) (i k v : Nat) : (s.addObj i k v).cad = s.cad := rfl
@[simp] theorem State.addObj_ports (s : State) (i k v : Nat) : (s.addObj i k v).ports = s.ports := rfl
@[simp] theorem State.addObj_xbars (s : State) (i k v : Nat) : (s.addObj i k v).xbars = s.xbars := rfl
@[simp] theorem State.addObj_net (s : State) (i k v : Nat) : (s.addObj i k v).net = s.net := rfl
@[simp] theorem State.addObj_chans (s : State) (i k v : Nat) : (s.addObj i k v).chans = s.chans := rfl
@[simp] theorem State.addObj_plaza (s : State) (i k v : Nat) : (s.addObj i k v).plaza = s.plaza := rfl
@[simp] theorem State.addObj_plazaLru (s : State) (i k v : Nat) : (s.addObj i k v).plazaLru = s.plazaLru := rfl
@[simp] theorem State.addObj_order (s : State) (i k v : Nat) : (s.addObj i k v).order = s.order := rfl
@[simp] theorem State.addObj_transit (s : State) (i k v : Nat) : (s.addObj i k v).transit = s.transit := rfl
@[simp] theorem State.addObj_gathers (s : State) (i k v : Nat) : (s.addObj i k v).gathers = s.gathers := rfl
@[simp] theorem State.addObj_samples (s : State) (i k v : Nat) : (s.addObj i k v).samples = s.samples := rfl
@[simp] theorem State.addObj_ledger (s : State) (i k v : Nat) : (s.addObj i k v).ledger = s.ledger := rfl
@[simp] theorem State.addObj_ledgerLru (s : State) (i k v : Nat) : (s.addObj i k v).ledgerLru = s.ledgerLru := rfl
@[simp] theorem State.addObj_found (s : State) (i k v : Nat) : (s.addObj i k v).found = s.found := rfl
@[simp] theorem State.addObj_pinned (s : State) (i k v : Nat) : (s.addObj i k v).pinned = s.pinned := rfl
@[simp] theorem State.addObj_sealedList (s : State) (i k v : Nat) : (s.addObj i k v).sealedList = s.sealedList := rfl
@[simp] theorem State.addObj_sealedFrom (s : State) (i k v : Nat) : (s.addObj i k v).sealedFrom = s.sealedFrom := rfl
@[simp] theorem State.addObj_dram (s : State) (i k v : Nat) : (s.addObj i k v).dram = s.dram := rfl
@[simp] theorem State.addObj_dists (s : State) (i k v : Nat) : (s.addObj i k v).dists = s.dists := rfl
@[simp] theorem State.addObj_keys (s : State) (i k v : Nat) : (s.addObj i k v).keys = s.keys := rfl
@[simp] theorem State.addObj_vault (s : State) (i k v : Nat) : (s.addObj i k v).vault = s.vault := rfl
@[simp] theorem State.addObj_mram (s : State) (i k v : Nat) : (s.addObj i k v).mram = s.mram := rfl
@[simp] theorem State.addObj_repair (s : State) (i k v : Nat) : (s.addObj i k v).repair = s.repair := rfl
@[simp] theorem State.addObj_mirror (s : State) (i k v : Nat) : (s.addObj i k v).mirror = s.mirror := rfl
@[simp] theorem State.addObj_sup (s : State) (i k v : Nat) : (s.addObj i k v).sup = s.sup := rfl
@[simp] theorem State.addObj_bays (s : State) (i k v : Nat) : (s.addObj i k v).bays = s.bays := rfl
@[simp] theorem State.addObj_ev (s : State) (i k v : Nat) : (s.addObj i k v).ev = s.ev := rfl
@[simp] theorem State.addObj_mgmt (s : State) (i k v : Nat) : (s.addObj i k v).mgmt = s.mgmt := rfl
@[simp] theorem State.addObj_blk (s : State) (i k v : Nat) : (s.addObj i k v).blk = s.blk := rfl
@[simp] theorem State.addObj_recs (s : State) (i k v : Nat) : (s.addObj i k v).recs = s.recs := rfl
@[simp] theorem State.addObj_shadowObjs (s : State) (i k v : Nat) : (s.addObj i k v).shadowObjs = s.shadowObjs := rfl
@[simp] theorem State.addObj_freeCtr (s : State) (i k v : Nat) : (s.addObj i k v).freeCtr = s.freeCtr := rfl
@[simp] theorem State.addObj_at_port (s : State) (i k v : Nat) (y : Nat) : (s.addObj i k v).port y = s.port y := rfl
@[simp] theorem State.addObj_at_xbar (s : State) (i k v : Nat) (y : Nat) : (s.addObj i k v).xbar y = s.xbar y := rfl
@[simp] theorem State.addObj_at_chan (s : State) (i k v : Nat) (y : Nat) : (s.addObj i k v).chan y = s.chan y := rfl
@[simp] theorem State.addObj_at_dist (s : State) (i k v : Nat) (y : Nat) : (s.addObj i k v).dist y = s.dist y := rfl
@[simp] theorem State.addObj_at_bay (s : State) (i k v : Nat) (y : Nat) : (s.addObj i k v).bay y = s.bay y := rfl
@[simp] theorem State.addObj_at_sense (s : State) (i k v : Nat) (y : Nat) : (s.addObj i k v).sense y = s.sense y := rfl
@[simp] theorem State.addObj_at_repairAt (s : State) (i k v : Nat) (y : Nat) : (s.addObj i k v).repairAt y = s.repairAt y := rfl
@[simp] theorem State.addObj_at_tx (s : State) (i k v : Nat) (y : Nat) : (s.addObj i k v).tx y = s.tx y := rfl
@[simp] theorem State.addObj_at_rx (s : State) (i k v : Nat) (y : Nat) : (s.addObj i k v).rx y = s.rx y := rfl
@[simp] theorem State.addObj_at_link (s : State) (i k v : Nat) (y : Nat) : (s.addObj i k v).link y = s.link y := rfl
@[simp] theorem State.addObj_at_recN (s : State) (i k v : Nat) (y z o n : Nat) : (s.addObj i k v).recN y z o n = s.recN y z o n := rfl
@[simp] theorem State.addObj_at_now (s : State) (i k v : Nat) : (s.addObj i k v).now = s.now := rfl
@[simp] theorem State.addObj_at_slotNow (s : State) (i k v : Nat) : (s.addObj i k v).slotNow = s.slotNow := rfl
@[simp] theorem State.addObj_at_cycleNow (s : State) (i k v : Nat) : (s.addObj i k v).cycleNow = s.cycleNow := rfl
@[simp] theorem State.addObj_at_stampNow (s : State) (i k v : Nat) (y : Nat) : (s.addObj i k v).stampNow y = s.stampNow y := rfl
@[simp] theorem State.addObj_at_moduleAt (s : State) (i k v : Nat) (y : Nat) : (s.addObj i k v).moduleAt y = s.moduleAt y := rfl

/-! ### State.setObjBit -/

@[simp] theorem State.setObjBit_pending (s : State) (i k j : Nat) (b : Bool) : (s.setObjBit i k j b).pending = s.pending := rfl
@[simp] theorem State.setObjBit_cad (s : State) (i k j : Nat) (b : Bool) : (s.setObjBit i k j b).cad = s.cad := rfl
@[simp] theorem State.setObjBit_ports (s : State) (i k j : Nat) (b : Bool) : (s.setObjBit i k j b).ports = s.ports := rfl
@[simp] theorem State.setObjBit_xbars (s : State) (i k j : Nat) (b : Bool) : (s.setObjBit i k j b).xbars = s.xbars := rfl
@[simp] theorem State.setObjBit_net (s : State) (i k j : Nat) (b : Bool) : (s.setObjBit i k j b).net = s.net := rfl
@[simp] theorem State.setObjBit_chans (s : State) (i k j : Nat) (b : Bool) : (s.setObjBit i k j b).chans = s.chans := rfl
@[simp] theorem State.setObjBit_plaza (s : State) (i k j : Nat) (b : Bool) : (s.setObjBit i k j b).plaza = s.plaza := rfl
@[simp] theorem State.setObjBit_plazaLru (s : State) (i k j : Nat) (b : Bool) : (s.setObjBit i k j b).plazaLru = s.plazaLru := rfl
@[simp] theorem State.setObjBit_order (s : State) (i k j : Nat) (b : Bool) : (s.setObjBit i k j b).order = s.order := rfl
@[simp] theorem State.setObjBit_transit (s : State) (i k j : Nat) (b : Bool) : (s.setObjBit i k j b).transit = s.transit := rfl
@[simp] theorem State.setObjBit_gathers (s : State) (i k j : Nat) (b : Bool) : (s.setObjBit i k j b).gathers = s.gathers := rfl
@[simp] theorem State.setObjBit_samples (s : State) (i k j : Nat) (b : Bool) : (s.setObjBit i k j b).samples = s.samples := rfl
@[simp] theorem State.setObjBit_ledger (s : State) (i k j : Nat) (b : Bool) : (s.setObjBit i k j b).ledger = s.ledger := rfl
@[simp] theorem State.setObjBit_ledgerLru (s : State) (i k j : Nat) (b : Bool) : (s.setObjBit i k j b).ledgerLru = s.ledgerLru := rfl
@[simp] theorem State.setObjBit_found (s : State) (i k j : Nat) (b : Bool) : (s.setObjBit i k j b).found = s.found := rfl
@[simp] theorem State.setObjBit_pinned (s : State) (i k j : Nat) (b : Bool) : (s.setObjBit i k j b).pinned = s.pinned := rfl
@[simp] theorem State.setObjBit_sealedList (s : State) (i k j : Nat) (b : Bool) : (s.setObjBit i k j b).sealedList = s.sealedList := rfl
@[simp] theorem State.setObjBit_sealedFrom (s : State) (i k j : Nat) (b : Bool) : (s.setObjBit i k j b).sealedFrom = s.sealedFrom := rfl
@[simp] theorem State.setObjBit_dram (s : State) (i k j : Nat) (b : Bool) : (s.setObjBit i k j b).dram = s.dram := rfl
@[simp] theorem State.setObjBit_dists (s : State) (i k j : Nat) (b : Bool) : (s.setObjBit i k j b).dists = s.dists := rfl
@[simp] theorem State.setObjBit_keys (s : State) (i k j : Nat) (b : Bool) : (s.setObjBit i k j b).keys = s.keys := rfl
@[simp] theorem State.setObjBit_vault (s : State) (i k j : Nat) (b : Bool) : (s.setObjBit i k j b).vault = s.vault := rfl
@[simp] theorem State.setObjBit_mram (s : State) (i k j : Nat) (b : Bool) : (s.setObjBit i k j b).mram = s.mram := rfl
@[simp] theorem State.setObjBit_repair (s : State) (i k j : Nat) (b : Bool) : (s.setObjBit i k j b).repair = s.repair := rfl
@[simp] theorem State.setObjBit_mirror (s : State) (i k j : Nat) (b : Bool) : (s.setObjBit i k j b).mirror = s.mirror := rfl
@[simp] theorem State.setObjBit_sup (s : State) (i k j : Nat) (b : Bool) : (s.setObjBit i k j b).sup = s.sup := rfl
@[simp] theorem State.setObjBit_bays (s : State) (i k j : Nat) (b : Bool) : (s.setObjBit i k j b).bays = s.bays := rfl
@[simp] theorem State.setObjBit_ev (s : State) (i k j : Nat) (b : Bool) : (s.setObjBit i k j b).ev = s.ev := rfl
@[simp] theorem State.setObjBit_mgmt (s : State) (i k j : Nat) (b : Bool) : (s.setObjBit i k j b).mgmt = s.mgmt := rfl
@[simp] theorem State.setObjBit_blk (s : State) (i k j : Nat) (b : Bool) : (s.setObjBit i k j b).blk = s.blk := rfl
@[simp] theorem State.setObjBit_recs (s : State) (i k j : Nat) (b : Bool) : (s.setObjBit i k j b).recs = s.recs := rfl
@[simp] theorem State.setObjBit_shadowObjs (s : State) (i k j : Nat) (b : Bool) : (s.setObjBit i k j b).shadowObjs = s.shadowObjs := rfl
@[simp] theorem State.setObjBit_freeCtr (s : State) (i k j : Nat) (b : Bool) : (s.setObjBit i k j b).freeCtr = s.freeCtr := rfl
@[simp] theorem State.setObjBit_at_port (s : State) (i k j : Nat) (b : Bool) (y : Nat) : (s.setObjBit i k j b).port y = s.port y := rfl
@[simp] theorem State.setObjBit_at_xbar (s : State) (i k j : Nat) (b : Bool) (y : Nat) : (s.setObjBit i k j b).xbar y = s.xbar y := rfl
@[simp] theorem State.setObjBit_at_chan (s : State) (i k j : Nat) (b : Bool) (y : Nat) : (s.setObjBit i k j b).chan y = s.chan y := rfl
@[simp] theorem State.setObjBit_at_dist (s : State) (i k j : Nat) (b : Bool) (y : Nat) : (s.setObjBit i k j b).dist y = s.dist y := rfl
@[simp] theorem State.setObjBit_at_bay (s : State) (i k j : Nat) (b : Bool) (y : Nat) : (s.setObjBit i k j b).bay y = s.bay y := rfl
@[simp] theorem State.setObjBit_at_sense (s : State) (i k j : Nat) (b : Bool) (y : Nat) : (s.setObjBit i k j b).sense y = s.sense y := rfl
@[simp] theorem State.setObjBit_at_repairAt (s : State) (i k j : Nat) (b : Bool) (y : Nat) : (s.setObjBit i k j b).repairAt y = s.repairAt y := rfl
@[simp] theorem State.setObjBit_at_tx (s : State) (i k j : Nat) (b : Bool) (y : Nat) : (s.setObjBit i k j b).tx y = s.tx y := rfl
@[simp] theorem State.setObjBit_at_rx (s : State) (i k j : Nat) (b : Bool) (y : Nat) : (s.setObjBit i k j b).rx y = s.rx y := rfl
@[simp] theorem State.setObjBit_at_link (s : State) (i k j : Nat) (b : Bool) (y : Nat) : (s.setObjBit i k j b).link y = s.link y := rfl
@[simp] theorem State.setObjBit_at_recN (s : State) (i k j : Nat) (b : Bool) (y z o n : Nat) : (s.setObjBit i k j b).recN y z o n = s.recN y z o n := rfl
@[simp] theorem State.setObjBit_at_now (s : State) (i k j : Nat) (b : Bool) : (s.setObjBit i k j b).now = s.now := rfl
@[simp] theorem State.setObjBit_at_slotNow (s : State) (i k j : Nat) (b : Bool) : (s.setObjBit i k j b).slotNow = s.slotNow := rfl
@[simp] theorem State.setObjBit_at_cycleNow (s : State) (i k j : Nat) (b : Bool) : (s.setObjBit i k j b).cycleNow = s.cycleNow := rfl
@[simp] theorem State.setObjBit_at_stampNow (s : State) (i k j : Nat) (b : Bool) (y : Nat) : (s.setObjBit i k j b).stampNow y = s.stampNow y := rfl
@[simp] theorem State.setObjBit_at_moduleAt (s : State) (i k j : Nat) (b : Bool) (y : Nat) : (s.setObjBit i k j b).moduleAt y = s.moduleAt y := rfl

/-! ### State.setRec -/

@[simp] theorem State.setRec_pending (s : State) (i k o : Nat) (bs : List Byte) : (s.setRec i k o bs).pending = s.pending := rfl
@[simp] theorem State.setRec_cad (s : State) (i k o : Nat) (bs : List Byte) : (s.setRec i k o bs).cad = s.cad := rfl
@[simp] theorem State.setRec_ports (s : State) (i k o : Nat) (bs : List Byte) : (s.setRec i k o bs).ports = s.ports := rfl
@[simp] theorem State.setRec_xbars (s : State) (i k o : Nat) (bs : List Byte) : (s.setRec i k o bs).xbars = s.xbars := rfl
@[simp] theorem State.setRec_net (s : State) (i k o : Nat) (bs : List Byte) : (s.setRec i k o bs).net = s.net := rfl
@[simp] theorem State.setRec_chans (s : State) (i k o : Nat) (bs : List Byte) : (s.setRec i k o bs).chans = s.chans := rfl
@[simp] theorem State.setRec_plaza (s : State) (i k o : Nat) (bs : List Byte) : (s.setRec i k o bs).plaza = s.plaza := rfl
@[simp] theorem State.setRec_plazaLru (s : State) (i k o : Nat) (bs : List Byte) : (s.setRec i k o bs).plazaLru = s.plazaLru := rfl
@[simp] theorem State.setRec_order (s : State) (i k o : Nat) (bs : List Byte) : (s.setRec i k o bs).order = s.order := rfl
@[simp] theorem State.setRec_transit (s : State) (i k o : Nat) (bs : List Byte) : (s.setRec i k o bs).transit = s.transit := rfl
@[simp] theorem State.setRec_gathers (s : State) (i k o : Nat) (bs : List Byte) : (s.setRec i k o bs).gathers = s.gathers := rfl
@[simp] theorem State.setRec_samples (s : State) (i k o : Nat) (bs : List Byte) : (s.setRec i k o bs).samples = s.samples := rfl
@[simp] theorem State.setRec_ledger (s : State) (i k o : Nat) (bs : List Byte) : (s.setRec i k o bs).ledger = s.ledger := rfl
@[simp] theorem State.setRec_ledgerLru (s : State) (i k o : Nat) (bs : List Byte) : (s.setRec i k o bs).ledgerLru = s.ledgerLru := rfl
@[simp] theorem State.setRec_found (s : State) (i k o : Nat) (bs : List Byte) : (s.setRec i k o bs).found = s.found := rfl
@[simp] theorem State.setRec_pinned (s : State) (i k o : Nat) (bs : List Byte) : (s.setRec i k o bs).pinned = s.pinned := rfl
@[simp] theorem State.setRec_sealedList (s : State) (i k o : Nat) (bs : List Byte) : (s.setRec i k o bs).sealedList = s.sealedList := rfl
@[simp] theorem State.setRec_sealedFrom (s : State) (i k o : Nat) (bs : List Byte) : (s.setRec i k o bs).sealedFrom = s.sealedFrom := rfl
@[simp] theorem State.setRec_dram (s : State) (i k o : Nat) (bs : List Byte) : (s.setRec i k o bs).dram = s.dram := rfl
@[simp] theorem State.setRec_dists (s : State) (i k o : Nat) (bs : List Byte) : (s.setRec i k o bs).dists = s.dists := rfl
@[simp] theorem State.setRec_keys (s : State) (i k o : Nat) (bs : List Byte) : (s.setRec i k o bs).keys = s.keys := rfl
@[simp] theorem State.setRec_vault (s : State) (i k o : Nat) (bs : List Byte) : (s.setRec i k o bs).vault = s.vault := rfl
@[simp] theorem State.setRec_mram (s : State) (i k o : Nat) (bs : List Byte) : (s.setRec i k o bs).mram = s.mram := rfl
@[simp] theorem State.setRec_repair (s : State) (i k o : Nat) (bs : List Byte) : (s.setRec i k o bs).repair = s.repair := rfl
@[simp] theorem State.setRec_mirror (s : State) (i k o : Nat) (bs : List Byte) : (s.setRec i k o bs).mirror = s.mirror := rfl
@[simp] theorem State.setRec_sup (s : State) (i k o : Nat) (bs : List Byte) : (s.setRec i k o bs).sup = s.sup := rfl
@[simp] theorem State.setRec_bays (s : State) (i k o : Nat) (bs : List Byte) : (s.setRec i k o bs).bays = s.bays := rfl
@[simp] theorem State.setRec_ev (s : State) (i k o : Nat) (bs : List Byte) : (s.setRec i k o bs).ev = s.ev := rfl
@[simp] theorem State.setRec_mgmt (s : State) (i k o : Nat) (bs : List Byte) : (s.setRec i k o bs).mgmt = s.mgmt := rfl
@[simp] theorem State.setRec_blk (s : State) (i k o : Nat) (bs : List Byte) : (s.setRec i k o bs).blk = s.blk := rfl
@[simp] theorem State.setRec_objs (s : State) (i k o : Nat) (bs : List Byte) : (s.setRec i k o bs).objs = s.objs := rfl
@[simp] theorem State.setRec_shadowObjs (s : State) (i k o : Nat) (bs : List Byte) : (s.setRec i k o bs).shadowObjs = s.shadowObjs := rfl
@[simp] theorem State.setRec_freeCtr (s : State) (i k o : Nat) (bs : List Byte) : (s.setRec i k o bs).freeCtr = s.freeCtr := rfl
@[simp] theorem State.setRec_at_port (s : State) (i k o : Nat) (bs : List Byte) (y : Nat) : (s.setRec i k o bs).port y = s.port y := rfl
@[simp] theorem State.setRec_at_xbar (s : State) (i k o : Nat) (bs : List Byte) (y : Nat) : (s.setRec i k o bs).xbar y = s.xbar y := rfl
@[simp] theorem State.setRec_at_chan (s : State) (i k o : Nat) (bs : List Byte) (y : Nat) : (s.setRec i k o bs).chan y = s.chan y := rfl
@[simp] theorem State.setRec_at_dist (s : State) (i k o : Nat) (bs : List Byte) (y : Nat) : (s.setRec i k o bs).dist y = s.dist y := rfl
@[simp] theorem State.setRec_at_bay (s : State) (i k o : Nat) (bs : List Byte) (y : Nat) : (s.setRec i k o bs).bay y = s.bay y := rfl
@[simp] theorem State.setRec_at_sense (s : State) (i k o : Nat) (bs : List Byte) (y : Nat) : (s.setRec i k o bs).sense y = s.sense y := rfl
@[simp] theorem State.setRec_at_repairAt (s : State) (i k o : Nat) (bs : List Byte) (y : Nat) : (s.setRec i k o bs).repairAt y = s.repairAt y := rfl
@[simp] theorem State.setRec_at_tx (s : State) (i k o : Nat) (bs : List Byte) (y : Nat) : (s.setRec i k o bs).tx y = s.tx y := rfl
@[simp] theorem State.setRec_at_rx (s : State) (i k o : Nat) (bs : List Byte) (y : Nat) : (s.setRec i k o bs).rx y = s.rx y := rfl
@[simp] theorem State.setRec_at_link (s : State) (i k o : Nat) (bs : List Byte) (y : Nat) : (s.setRec i k o bs).link y = s.link y := rfl
@[simp] theorem State.setRec_at_obj (s : State) (i k o : Nat) (bs : List Byte) (y z : Nat) : (s.setRec i k o bs).obj y z = s.obj y z := rfl
@[simp] theorem State.setRec_at_now (s : State) (i k o : Nat) (bs : List Byte) : (s.setRec i k o bs).now = s.now := rfl
@[simp] theorem State.setRec_at_slotNow (s : State) (i k o : Nat) (bs : List Byte) : (s.setRec i k o bs).slotNow = s.slotNow := rfl
@[simp] theorem State.setRec_at_cycleNow (s : State) (i k o : Nat) (bs : List Byte) : (s.setRec i k o bs).cycleNow = s.cycleNow := rfl
@[simp] theorem State.setRec_at_stampNow (s : State) (i k o : Nat) (bs : List Byte) (y : Nat) : (s.setRec i k o bs).stampNow y = s.stampNow y := rfl
@[simp] theorem State.setRec_at_moduleAt (s : State) (i k o : Nat) (bs : List Byte) (y : Nat) : (s.setRec i k o bs).moduleAt y = s.moduleAt y := rfl

/-! ### State.clearRec -/

@[simp] theorem State.clearRec_pending (s : State) (i k : Nat) : (s.clearRec i k).pending = s.pending := rfl
@[simp] theorem State.clearRec_cad (s : State) (i k : Nat) : (s.clearRec i k).cad = s.cad := rfl
@[simp] theorem State.clearRec_ports (s : State) (i k : Nat) : (s.clearRec i k).ports = s.ports := rfl
@[simp] theorem State.clearRec_xbars (s : State) (i k : Nat) : (s.clearRec i k).xbars = s.xbars := rfl
@[simp] theorem State.clearRec_net (s : State) (i k : Nat) : (s.clearRec i k).net = s.net := rfl
@[simp] theorem State.clearRec_chans (s : State) (i k : Nat) : (s.clearRec i k).chans = s.chans := rfl
@[simp] theorem State.clearRec_plaza (s : State) (i k : Nat) : (s.clearRec i k).plaza = s.plaza := rfl
@[simp] theorem State.clearRec_plazaLru (s : State) (i k : Nat) : (s.clearRec i k).plazaLru = s.plazaLru := rfl
@[simp] theorem State.clearRec_order (s : State) (i k : Nat) : (s.clearRec i k).order = s.order := rfl
@[simp] theorem State.clearRec_transit (s : State) (i k : Nat) : (s.clearRec i k).transit = s.transit := rfl
@[simp] theorem State.clearRec_gathers (s : State) (i k : Nat) : (s.clearRec i k).gathers = s.gathers := rfl
@[simp] theorem State.clearRec_samples (s : State) (i k : Nat) : (s.clearRec i k).samples = s.samples := rfl
@[simp] theorem State.clearRec_ledger (s : State) (i k : Nat) : (s.clearRec i k).ledger = s.ledger := rfl
@[simp] theorem State.clearRec_ledgerLru (s : State) (i k : Nat) : (s.clearRec i k).ledgerLru = s.ledgerLru := rfl
@[simp] theorem State.clearRec_found (s : State) (i k : Nat) : (s.clearRec i k).found = s.found := rfl
@[simp] theorem State.clearRec_pinned (s : State) (i k : Nat) : (s.clearRec i k).pinned = s.pinned := rfl
@[simp] theorem State.clearRec_sealedList (s : State) (i k : Nat) : (s.clearRec i k).sealedList = s.sealedList := rfl
@[simp] theorem State.clearRec_sealedFrom (s : State) (i k : Nat) : (s.clearRec i k).sealedFrom = s.sealedFrom := rfl
@[simp] theorem State.clearRec_dram (s : State) (i k : Nat) : (s.clearRec i k).dram = s.dram := rfl
@[simp] theorem State.clearRec_dists (s : State) (i k : Nat) : (s.clearRec i k).dists = s.dists := rfl
@[simp] theorem State.clearRec_keys (s : State) (i k : Nat) : (s.clearRec i k).keys = s.keys := rfl
@[simp] theorem State.clearRec_vault (s : State) (i k : Nat) : (s.clearRec i k).vault = s.vault := rfl
@[simp] theorem State.clearRec_mram (s : State) (i k : Nat) : (s.clearRec i k).mram = s.mram := rfl
@[simp] theorem State.clearRec_repair (s : State) (i k : Nat) : (s.clearRec i k).repair = s.repair := rfl
@[simp] theorem State.clearRec_mirror (s : State) (i k : Nat) : (s.clearRec i k).mirror = s.mirror := rfl
@[simp] theorem State.clearRec_sup (s : State) (i k : Nat) : (s.clearRec i k).sup = s.sup := rfl
@[simp] theorem State.clearRec_bays (s : State) (i k : Nat) : (s.clearRec i k).bays = s.bays := rfl
@[simp] theorem State.clearRec_ev (s : State) (i k : Nat) : (s.clearRec i k).ev = s.ev := rfl
@[simp] theorem State.clearRec_mgmt (s : State) (i k : Nat) : (s.clearRec i k).mgmt = s.mgmt := rfl
@[simp] theorem State.clearRec_blk (s : State) (i k : Nat) : (s.clearRec i k).blk = s.blk := rfl
@[simp] theorem State.clearRec_objs (s : State) (i k : Nat) : (s.clearRec i k).objs = s.objs := rfl
@[simp] theorem State.clearRec_shadowObjs (s : State) (i k : Nat) : (s.clearRec i k).shadowObjs = s.shadowObjs := rfl
@[simp] theorem State.clearRec_freeCtr (s : State) (i k : Nat) : (s.clearRec i k).freeCtr = s.freeCtr := rfl
@[simp] theorem State.clearRec_at_port (s : State) (i k : Nat) (y : Nat) : (s.clearRec i k).port y = s.port y := rfl
@[simp] theorem State.clearRec_at_xbar (s : State) (i k : Nat) (y : Nat) : (s.clearRec i k).xbar y = s.xbar y := rfl
@[simp] theorem State.clearRec_at_chan (s : State) (i k : Nat) (y : Nat) : (s.clearRec i k).chan y = s.chan y := rfl
@[simp] theorem State.clearRec_at_dist (s : State) (i k : Nat) (y : Nat) : (s.clearRec i k).dist y = s.dist y := rfl
@[simp] theorem State.clearRec_at_bay (s : State) (i k : Nat) (y : Nat) : (s.clearRec i k).bay y = s.bay y := rfl
@[simp] theorem State.clearRec_at_sense (s : State) (i k : Nat) (y : Nat) : (s.clearRec i k).sense y = s.sense y := rfl
@[simp] theorem State.clearRec_at_repairAt (s : State) (i k : Nat) (y : Nat) : (s.clearRec i k).repairAt y = s.repairAt y := rfl
@[simp] theorem State.clearRec_at_tx (s : State) (i k : Nat) (y : Nat) : (s.clearRec i k).tx y = s.tx y := rfl
@[simp] theorem State.clearRec_at_rx (s : State) (i k : Nat) (y : Nat) : (s.clearRec i k).rx y = s.rx y := rfl
@[simp] theorem State.clearRec_at_link (s : State) (i k : Nat) (y : Nat) : (s.clearRec i k).link y = s.link y := rfl
@[simp] theorem State.clearRec_at_obj (s : State) (i k : Nat) (y z : Nat) : (s.clearRec i k).obj y z = s.obj y z := rfl
@[simp] theorem State.clearRec_at_now (s : State) (i k : Nat) : (s.clearRec i k).now = s.now := rfl
@[simp] theorem State.clearRec_at_slotNow (s : State) (i k : Nat) : (s.clearRec i k).slotNow = s.slotNow := rfl
@[simp] theorem State.clearRec_at_cycleNow (s : State) (i k : Nat) : (s.clearRec i k).cycleNow = s.cycleNow := rfl
@[simp] theorem State.clearRec_at_stampNow (s : State) (i k : Nat) (y : Nat) : (s.clearRec i k).stampNow y = s.stampNow y := rfl
@[simp] theorem State.clearRec_at_moduleAt (s : State) (i k : Nat) (y : Nat) : (s.clearRec i k).moduleAt y = s.moduleAt y := rfl

/-! ### State.setPort -/

@[simp] theorem State.setPort_pending (s : State) (p : Nat) (v : Port) : (s.setPort p v).pending = s.pending := rfl
@[simp] theorem State.setPort_cad (s : State) (p : Nat) (v : Port) : (s.setPort p v).cad = s.cad := rfl
@[simp] theorem State.setPort_xbars (s : State) (p : Nat) (v : Port) : (s.setPort p v).xbars = s.xbars := rfl
@[simp] theorem State.setPort_net (s : State) (p : Nat) (v : Port) : (s.setPort p v).net = s.net := rfl
@[simp] theorem State.setPort_chans (s : State) (p : Nat) (v : Port) : (s.setPort p v).chans = s.chans := rfl
@[simp] theorem State.setPort_plaza (s : State) (p : Nat) (v : Port) : (s.setPort p v).plaza = s.plaza := rfl
@[simp] theorem State.setPort_plazaLru (s : State) (p : Nat) (v : Port) : (s.setPort p v).plazaLru = s.plazaLru := rfl
@[simp] theorem State.setPort_order (s : State) (p : Nat) (v : Port) : (s.setPort p v).order = s.order := rfl
@[simp] theorem State.setPort_transit (s : State) (p : Nat) (v : Port) : (s.setPort p v).transit = s.transit := rfl
@[simp] theorem State.setPort_gathers (s : State) (p : Nat) (v : Port) : (s.setPort p v).gathers = s.gathers := rfl
@[simp] theorem State.setPort_samples (s : State) (p : Nat) (v : Port) : (s.setPort p v).samples = s.samples := rfl
@[simp] theorem State.setPort_ledger (s : State) (p : Nat) (v : Port) : (s.setPort p v).ledger = s.ledger := rfl
@[simp] theorem State.setPort_ledgerLru (s : State) (p : Nat) (v : Port) : (s.setPort p v).ledgerLru = s.ledgerLru := rfl
@[simp] theorem State.setPort_found (s : State) (p : Nat) (v : Port) : (s.setPort p v).found = s.found := rfl
@[simp] theorem State.setPort_pinned (s : State) (p : Nat) (v : Port) : (s.setPort p v).pinned = s.pinned := rfl
@[simp] theorem State.setPort_sealedList (s : State) (p : Nat) (v : Port) : (s.setPort p v).sealedList = s.sealedList := rfl
@[simp] theorem State.setPort_sealedFrom (s : State) (p : Nat) (v : Port) : (s.setPort p v).sealedFrom = s.sealedFrom := rfl
@[simp] theorem State.setPort_dram (s : State) (p : Nat) (v : Port) : (s.setPort p v).dram = s.dram := rfl
@[simp] theorem State.setPort_dists (s : State) (p : Nat) (v : Port) : (s.setPort p v).dists = s.dists := rfl
@[simp] theorem State.setPort_keys (s : State) (p : Nat) (v : Port) : (s.setPort p v).keys = s.keys := rfl
@[simp] theorem State.setPort_vault (s : State) (p : Nat) (v : Port) : (s.setPort p v).vault = s.vault := rfl
@[simp] theorem State.setPort_mram (s : State) (p : Nat) (v : Port) : (s.setPort p v).mram = s.mram := rfl
@[simp] theorem State.setPort_repair (s : State) (p : Nat) (v : Port) : (s.setPort p v).repair = s.repair := rfl
@[simp] theorem State.setPort_mirror (s : State) (p : Nat) (v : Port) : (s.setPort p v).mirror = s.mirror := rfl
@[simp] theorem State.setPort_sup (s : State) (p : Nat) (v : Port) : (s.setPort p v).sup = s.sup := rfl
@[simp] theorem State.setPort_bays (s : State) (p : Nat) (v : Port) : (s.setPort p v).bays = s.bays := rfl
@[simp] theorem State.setPort_ev (s : State) (p : Nat) (v : Port) : (s.setPort p v).ev = s.ev := rfl
@[simp] theorem State.setPort_mgmt (s : State) (p : Nat) (v : Port) : (s.setPort p v).mgmt = s.mgmt := rfl
@[simp] theorem State.setPort_blk (s : State) (p : Nat) (v : Port) : (s.setPort p v).blk = s.blk := rfl
@[simp] theorem State.setPort_objs (s : State) (p : Nat) (v : Port) : (s.setPort p v).objs = s.objs := rfl
@[simp] theorem State.setPort_recs (s : State) (p : Nat) (v : Port) : (s.setPort p v).recs = s.recs := rfl
@[simp] theorem State.setPort_shadowObjs (s : State) (p : Nat) (v : Port) : (s.setPort p v).shadowObjs = s.shadowObjs := rfl
@[simp] theorem State.setPort_freeCtr (s : State) (p : Nat) (v : Port) : (s.setPort p v).freeCtr = s.freeCtr := rfl
@[simp] theorem State.setPort_at_xbar (s : State) (p : Nat) (v : Port) (y : Nat) : (s.setPort p v).xbar y = s.xbar y := rfl
@[simp] theorem State.setPort_at_chan (s : State) (p : Nat) (v : Port) (y : Nat) : (s.setPort p v).chan y = s.chan y := rfl
@[simp] theorem State.setPort_at_dist (s : State) (p : Nat) (v : Port) (y : Nat) : (s.setPort p v).dist y = s.dist y := rfl
@[simp] theorem State.setPort_at_bay (s : State) (p : Nat) (v : Port) (y : Nat) : (s.setPort p v).bay y = s.bay y := rfl
@[simp] theorem State.setPort_at_sense (s : State) (p : Nat) (v : Port) (y : Nat) : (s.setPort p v).sense y = s.sense y := rfl
@[simp] theorem State.setPort_at_repairAt (s : State) (p : Nat) (v : Port) (y : Nat) : (s.setPort p v).repairAt y = s.repairAt y := rfl
@[simp] theorem State.setPort_at_tx (s : State) (p : Nat) (v : Port) (y : Nat) : (s.setPort p v).tx y = s.tx y := rfl
@[simp] theorem State.setPort_at_rx (s : State) (p : Nat) (v : Port) (y : Nat) : (s.setPort p v).rx y = s.rx y := rfl
@[simp] theorem State.setPort_at_link (s : State) (p : Nat) (v : Port) (y : Nat) : (s.setPort p v).link y = s.link y := rfl
@[simp] theorem State.setPort_at_obj (s : State) (p : Nat) (v : Port) (y z : Nat) : (s.setPort p v).obj y z = s.obj y z := rfl
@[simp] theorem State.setPort_at_recN (s : State) (p : Nat) (v : Port) (y z o n : Nat) : (s.setPort p v).recN y z o n = s.recN y z o n := rfl
@[simp] theorem State.setPort_at_now (s : State) (p : Nat) (v : Port) : (s.setPort p v).now = s.now := rfl
@[simp] theorem State.setPort_at_slotNow (s : State) (p : Nat) (v : Port) : (s.setPort p v).slotNow = s.slotNow := rfl
@[simp] theorem State.setPort_at_cycleNow (s : State) (p : Nat) (v : Port) : (s.setPort p v).cycleNow = s.cycleNow := rfl
@[simp] theorem State.setPort_at_stampNow (s : State) (p : Nat) (v : Port) (y : Nat) : (s.setPort p v).stampNow y = s.stampNow y := rfl
@[simp] theorem State.setPort_at_moduleAt (s : State) (p : Nat) (v : Port) (y : Nat) : (s.setPort p v).moduleAt y = s.moduleAt y := rfl

/-! ### State.modPort -/

@[simp] theorem State.modPort_pending (s : State) (p : Nat) (f : Port → Port) : (s.modPort p f).pending = s.pending := rfl
@[simp] theorem State.modPort_cad (s : State) (p : Nat) (f : Port → Port) : (s.modPort p f).cad = s.cad := rfl
@[simp] theorem State.modPort_xbars (s : State) (p : Nat) (f : Port → Port) : (s.modPort p f).xbars = s.xbars := rfl
@[simp] theorem State.modPort_net (s : State) (p : Nat) (f : Port → Port) : (s.modPort p f).net = s.net := rfl
@[simp] theorem State.modPort_chans (s : State) (p : Nat) (f : Port → Port) : (s.modPort p f).chans = s.chans := rfl
@[simp] theorem State.modPort_plaza (s : State) (p : Nat) (f : Port → Port) : (s.modPort p f).plaza = s.plaza := rfl
@[simp] theorem State.modPort_plazaLru (s : State) (p : Nat) (f : Port → Port) : (s.modPort p f).plazaLru = s.plazaLru := rfl
@[simp] theorem State.modPort_order (s : State) (p : Nat) (f : Port → Port) : (s.modPort p f).order = s.order := rfl
@[simp] theorem State.modPort_transit (s : State) (p : Nat) (f : Port → Port) : (s.modPort p f).transit = s.transit := rfl
@[simp] theorem State.modPort_gathers (s : State) (p : Nat) (f : Port → Port) : (s.modPort p f).gathers = s.gathers := rfl
@[simp] theorem State.modPort_samples (s : State) (p : Nat) (f : Port → Port) : (s.modPort p f).samples = s.samples := rfl
@[simp] theorem State.modPort_ledger (s : State) (p : Nat) (f : Port → Port) : (s.modPort p f).ledger = s.ledger := rfl
@[simp] theorem State.modPort_ledgerLru (s : State) (p : Nat) (f : Port → Port) : (s.modPort p f).ledgerLru = s.ledgerLru := rfl
@[simp] theorem State.modPort_found (s : State) (p : Nat) (f : Port → Port) : (s.modPort p f).found = s.found := rfl
@[simp] theorem State.modPort_pinned (s : State) (p : Nat) (f : Port → Port) : (s.modPort p f).pinned = s.pinned := rfl
@[simp] theorem State.modPort_sealedList (s : State) (p : Nat) (f : Port → Port) : (s.modPort p f).sealedList = s.sealedList := rfl
@[simp] theorem State.modPort_sealedFrom (s : State) (p : Nat) (f : Port → Port) : (s.modPort p f).sealedFrom = s.sealedFrom := rfl
@[simp] theorem State.modPort_dram (s : State) (p : Nat) (f : Port → Port) : (s.modPort p f).dram = s.dram := rfl
@[simp] theorem State.modPort_dists (s : State) (p : Nat) (f : Port → Port) : (s.modPort p f).dists = s.dists := rfl
@[simp] theorem State.modPort_keys (s : State) (p : Nat) (f : Port → Port) : (s.modPort p f).keys = s.keys := rfl
@[simp] theorem State.modPort_vault (s : State) (p : Nat) (f : Port → Port) : (s.modPort p f).vault = s.vault := rfl
@[simp] theorem State.modPort_mram (s : State) (p : Nat) (f : Port → Port) : (s.modPort p f).mram = s.mram := rfl
@[simp] theorem State.modPort_repair (s : State) (p : Nat) (f : Port → Port) : (s.modPort p f).repair = s.repair := rfl
@[simp] theorem State.modPort_mirror (s : State) (p : Nat) (f : Port → Port) : (s.modPort p f).mirror = s.mirror := rfl
@[simp] theorem State.modPort_sup (s : State) (p : Nat) (f : Port → Port) : (s.modPort p f).sup = s.sup := rfl
@[simp] theorem State.modPort_bays (s : State) (p : Nat) (f : Port → Port) : (s.modPort p f).bays = s.bays := rfl
@[simp] theorem State.modPort_ev (s : State) (p : Nat) (f : Port → Port) : (s.modPort p f).ev = s.ev := rfl
@[simp] theorem State.modPort_mgmt (s : State) (p : Nat) (f : Port → Port) : (s.modPort p f).mgmt = s.mgmt := rfl
@[simp] theorem State.modPort_blk (s : State) (p : Nat) (f : Port → Port) : (s.modPort p f).blk = s.blk := rfl
@[simp] theorem State.modPort_objs (s : State) (p : Nat) (f : Port → Port) : (s.modPort p f).objs = s.objs := rfl
@[simp] theorem State.modPort_recs (s : State) (p : Nat) (f : Port → Port) : (s.modPort p f).recs = s.recs := rfl
@[simp] theorem State.modPort_shadowObjs (s : State) (p : Nat) (f : Port → Port) : (s.modPort p f).shadowObjs = s.shadowObjs := rfl
@[simp] theorem State.modPort_freeCtr (s : State) (p : Nat) (f : Port → Port) : (s.modPort p f).freeCtr = s.freeCtr := rfl
@[simp] theorem State.modPort_at_xbar (s : State) (p : Nat) (f : Port → Port) (y : Nat) : (s.modPort p f).xbar y = s.xbar y := rfl
@[simp] theorem State.modPort_at_chan (s : State) (p : Nat) (f : Port → Port) (y : Nat) : (s.modPort p f).chan y = s.chan y := rfl
@[simp] theorem State.modPort_at_dist (s : State) (p : Nat) (f : Port → Port) (y : Nat) : (s.modPort p f).dist y = s.dist y := rfl
@[simp] theorem State.modPort_at_bay (s : State) (p : Nat) (f : Port → Port) (y : Nat) : (s.modPort p f).bay y = s.bay y := rfl
@[simp] theorem State.modPort_at_sense (s : State) (p : Nat) (f : Port → Port) (y : Nat) : (s.modPort p f).sense y = s.sense y := rfl
@[simp] theorem State.modPort_at_repairAt (s : State) (p : Nat) (f : Port → Port) (y : Nat) : (s.modPort p f).repairAt y = s.repairAt y := rfl
@[simp] theorem State.modPort_at_tx (s : State) (p : Nat) (f : Port → Port) (y : Nat) : (s.modPort p f).tx y = s.tx y := rfl
@[simp] theorem State.modPort_at_rx (s : State) (p : Nat) (f : Port → Port) (y : Nat) : (s.modPort p f).rx y = s.rx y := rfl
@[simp] theorem State.modPort_at_link (s : State) (p : Nat) (f : Port → Port) (y : Nat) : (s.modPort p f).link y = s.link y := rfl
@[simp] theorem State.modPort_at_obj (s : State) (p : Nat) (f : Port → Port) (y z : Nat) : (s.modPort p f).obj y z = s.obj y z := rfl
@[simp] theorem State.modPort_at_recN (s : State) (p : Nat) (f : Port → Port) (y z o n : Nat) : (s.modPort p f).recN y z o n = s.recN y z o n := rfl
@[simp] theorem State.modPort_at_now (s : State) (p : Nat) (f : Port → Port) : (s.modPort p f).now = s.now := rfl
@[simp] theorem State.modPort_at_slotNow (s : State) (p : Nat) (f : Port → Port) : (s.modPort p f).slotNow = s.slotNow := rfl
@[simp] theorem State.modPort_at_cycleNow (s : State) (p : Nat) (f : Port → Port) : (s.modPort p f).cycleNow = s.cycleNow := rfl
@[simp] theorem State.modPort_at_stampNow (s : State) (p : Nat) (f : Port → Port) (y : Nat) : (s.modPort p f).stampNow y = s.stampNow y := rfl
@[simp] theorem State.modPort_at_moduleAt (s : State) (p : Nat) (f : Port → Port) (y : Nat) : (s.modPort p f).moduleAt y = s.moduleAt y := rfl

/-! ### State.setXbar -/

@[simp] theorem State.setXbar_pending (s : State) (x : Nat) (v : Xbar) : (s.setXbar x v).pending = s.pending := rfl
@[simp] theorem State.setXbar_cad (s : State) (x : Nat) (v : Xbar) : (s.setXbar x v).cad = s.cad := rfl
@[simp] theorem State.setXbar_ports (s : State) (x : Nat) (v : Xbar) : (s.setXbar x v).ports = s.ports := rfl
@[simp] theorem State.setXbar_net (s : State) (x : Nat) (v : Xbar) : (s.setXbar x v).net = s.net := rfl
@[simp] theorem State.setXbar_chans (s : State) (x : Nat) (v : Xbar) : (s.setXbar x v).chans = s.chans := rfl
@[simp] theorem State.setXbar_plaza (s : State) (x : Nat) (v : Xbar) : (s.setXbar x v).plaza = s.plaza := rfl
@[simp] theorem State.setXbar_plazaLru (s : State) (x : Nat) (v : Xbar) : (s.setXbar x v).plazaLru = s.plazaLru := rfl
@[simp] theorem State.setXbar_order (s : State) (x : Nat) (v : Xbar) : (s.setXbar x v).order = s.order := rfl
@[simp] theorem State.setXbar_transit (s : State) (x : Nat) (v : Xbar) : (s.setXbar x v).transit = s.transit := rfl
@[simp] theorem State.setXbar_gathers (s : State) (x : Nat) (v : Xbar) : (s.setXbar x v).gathers = s.gathers := rfl
@[simp] theorem State.setXbar_samples (s : State) (x : Nat) (v : Xbar) : (s.setXbar x v).samples = s.samples := rfl
@[simp] theorem State.setXbar_ledger (s : State) (x : Nat) (v : Xbar) : (s.setXbar x v).ledger = s.ledger := rfl
@[simp] theorem State.setXbar_ledgerLru (s : State) (x : Nat) (v : Xbar) : (s.setXbar x v).ledgerLru = s.ledgerLru := rfl
@[simp] theorem State.setXbar_found (s : State) (x : Nat) (v : Xbar) : (s.setXbar x v).found = s.found := rfl
@[simp] theorem State.setXbar_pinned (s : State) (x : Nat) (v : Xbar) : (s.setXbar x v).pinned = s.pinned := rfl
@[simp] theorem State.setXbar_sealedList (s : State) (x : Nat) (v : Xbar) : (s.setXbar x v).sealedList = s.sealedList := rfl
@[simp] theorem State.setXbar_sealedFrom (s : State) (x : Nat) (v : Xbar) : (s.setXbar x v).sealedFrom = s.sealedFrom := rfl
@[simp] theorem State.setXbar_dram (s : State) (x : Nat) (v : Xbar) : (s.setXbar x v).dram = s.dram := rfl
@[simp] theorem State.setXbar_dists (s : State) (x : Nat) (v : Xbar) : (s.setXbar x v).dists = s.dists := rfl
@[simp] theorem State.setXbar_keys (s : State) (x : Nat) (v : Xbar) : (s.setXbar x v).keys = s.keys := rfl
@[simp] theorem State.setXbar_vault (s : State) (x : Nat) (v : Xbar) : (s.setXbar x v).vault = s.vault := rfl
@[simp] theorem State.setXbar_mram (s : State) (x : Nat) (v : Xbar) : (s.setXbar x v).mram = s.mram := rfl
@[simp] theorem State.setXbar_repair (s : State) (x : Nat) (v : Xbar) : (s.setXbar x v).repair = s.repair := rfl
@[simp] theorem State.setXbar_mirror (s : State) (x : Nat) (v : Xbar) : (s.setXbar x v).mirror = s.mirror := rfl
@[simp] theorem State.setXbar_sup (s : State) (x : Nat) (v : Xbar) : (s.setXbar x v).sup = s.sup := rfl
@[simp] theorem State.setXbar_bays (s : State) (x : Nat) (v : Xbar) : (s.setXbar x v).bays = s.bays := rfl
@[simp] theorem State.setXbar_ev (s : State) (x : Nat) (v : Xbar) : (s.setXbar x v).ev = s.ev := rfl
@[simp] theorem State.setXbar_mgmt (s : State) (x : Nat) (v : Xbar) : (s.setXbar x v).mgmt = s.mgmt := rfl
@[simp] theorem State.setXbar_blk (s : State) (x : Nat) (v : Xbar) : (s.setXbar x v).blk = s.blk := rfl
@[simp] theorem State.setXbar_objs (s : State) (x : Nat) (v : Xbar) : (s.setXbar x v).objs = s.objs := rfl
@[simp] theorem State.setXbar_recs (s : State) (x : Nat) (v : Xbar) : (s.setXbar x v).recs = s.recs := rfl
@[simp] theorem State.setXbar_shadowObjs (s : State) (x : Nat) (v : Xbar) : (s.setXbar x v).shadowObjs = s.shadowObjs := rfl
@[simp] theorem State.setXbar_freeCtr (s : State) (x : Nat) (v : Xbar) : (s.setXbar x v).freeCtr = s.freeCtr := rfl
@[simp] theorem State.setXbar_at_port (s : State) (x : Nat) (v : Xbar) (y : Nat) : (s.setXbar x v).port y = s.port y := rfl
@[simp] theorem State.setXbar_at_chan (s : State) (x : Nat) (v : Xbar) (y : Nat) : (s.setXbar x v).chan y = s.chan y := rfl
@[simp] theorem State.setXbar_at_dist (s : State) (x : Nat) (v : Xbar) (y : Nat) : (s.setXbar x v).dist y = s.dist y := rfl
@[simp] theorem State.setXbar_at_bay (s : State) (x : Nat) (v : Xbar) (y : Nat) : (s.setXbar x v).bay y = s.bay y := rfl
@[simp] theorem State.setXbar_at_sense (s : State) (x : Nat) (v : Xbar) (y : Nat) : (s.setXbar x v).sense y = s.sense y := rfl
@[simp] theorem State.setXbar_at_repairAt (s : State) (x : Nat) (v : Xbar) (y : Nat) : (s.setXbar x v).repairAt y = s.repairAt y := rfl
@[simp] theorem State.setXbar_at_tx (s : State) (x : Nat) (v : Xbar) (y : Nat) : (s.setXbar x v).tx y = s.tx y := rfl
@[simp] theorem State.setXbar_at_rx (s : State) (x : Nat) (v : Xbar) (y : Nat) : (s.setXbar x v).rx y = s.rx y := rfl
@[simp] theorem State.setXbar_at_link (s : State) (x : Nat) (v : Xbar) (y : Nat) : (s.setXbar x v).link y = s.link y := rfl
@[simp] theorem State.setXbar_at_obj (s : State) (x : Nat) (v : Xbar) (y z : Nat) : (s.setXbar x v).obj y z = s.obj y z := rfl
@[simp] theorem State.setXbar_at_recN (s : State) (x : Nat) (v : Xbar) (y z o n : Nat) : (s.setXbar x v).recN y z o n = s.recN y z o n := rfl
@[simp] theorem State.setXbar_at_now (s : State) (x : Nat) (v : Xbar) : (s.setXbar x v).now = s.now := rfl
@[simp] theorem State.setXbar_at_slotNow (s : State) (x : Nat) (v : Xbar) : (s.setXbar x v).slotNow = s.slotNow := rfl
@[simp] theorem State.setXbar_at_cycleNow (s : State) (x : Nat) (v : Xbar) : (s.setXbar x v).cycleNow = s.cycleNow := rfl
@[simp] theorem State.setXbar_at_stampNow (s : State) (x : Nat) (v : Xbar) (y : Nat) : (s.setXbar x v).stampNow y = s.stampNow y := rfl
@[simp] theorem State.setXbar_at_moduleAt (s : State) (x : Nat) (v : Xbar) (y : Nat) : (s.setXbar x v).moduleAt y = s.moduleAt y := rfl

/-! ### State.setChan -/

@[simp] theorem State.setChan_pending (s : State) (c : Nat) (v : Chan) : (s.setChan c v).pending = s.pending := rfl
@[simp] theorem State.setChan_cad (s : State) (c : Nat) (v : Chan) : (s.setChan c v).cad = s.cad := rfl
@[simp] theorem State.setChan_ports (s : State) (c : Nat) (v : Chan) : (s.setChan c v).ports = s.ports := rfl
@[simp] theorem State.setChan_xbars (s : State) (c : Nat) (v : Chan) : (s.setChan c v).xbars = s.xbars := rfl
@[simp] theorem State.setChan_net (s : State) (c : Nat) (v : Chan) : (s.setChan c v).net = s.net := rfl
@[simp] theorem State.setChan_plaza (s : State) (c : Nat) (v : Chan) : (s.setChan c v).plaza = s.plaza := rfl
@[simp] theorem State.setChan_plazaLru (s : State) (c : Nat) (v : Chan) : (s.setChan c v).plazaLru = s.plazaLru := rfl
@[simp] theorem State.setChan_order (s : State) (c : Nat) (v : Chan) : (s.setChan c v).order = s.order := rfl
@[simp] theorem State.setChan_transit (s : State) (c : Nat) (v : Chan) : (s.setChan c v).transit = s.transit := rfl
@[simp] theorem State.setChan_gathers (s : State) (c : Nat) (v : Chan) : (s.setChan c v).gathers = s.gathers := rfl
@[simp] theorem State.setChan_samples (s : State) (c : Nat) (v : Chan) : (s.setChan c v).samples = s.samples := rfl
@[simp] theorem State.setChan_ledger (s : State) (c : Nat) (v : Chan) : (s.setChan c v).ledger = s.ledger := rfl
@[simp] theorem State.setChan_ledgerLru (s : State) (c : Nat) (v : Chan) : (s.setChan c v).ledgerLru = s.ledgerLru := rfl
@[simp] theorem State.setChan_found (s : State) (c : Nat) (v : Chan) : (s.setChan c v).found = s.found := rfl
@[simp] theorem State.setChan_pinned (s : State) (c : Nat) (v : Chan) : (s.setChan c v).pinned = s.pinned := rfl
@[simp] theorem State.setChan_sealedList (s : State) (c : Nat) (v : Chan) : (s.setChan c v).sealedList = s.sealedList := rfl
@[simp] theorem State.setChan_sealedFrom (s : State) (c : Nat) (v : Chan) : (s.setChan c v).sealedFrom = s.sealedFrom := rfl
@[simp] theorem State.setChan_dram (s : State) (c : Nat) (v : Chan) : (s.setChan c v).dram = s.dram := rfl
@[simp] theorem State.setChan_dists (s : State) (c : Nat) (v : Chan) : (s.setChan c v).dists = s.dists := rfl
@[simp] theorem State.setChan_keys (s : State) (c : Nat) (v : Chan) : (s.setChan c v).keys = s.keys := rfl
@[simp] theorem State.setChan_vault (s : State) (c : Nat) (v : Chan) : (s.setChan c v).vault = s.vault := rfl
@[simp] theorem State.setChan_mram (s : State) (c : Nat) (v : Chan) : (s.setChan c v).mram = s.mram := rfl
@[simp] theorem State.setChan_repair (s : State) (c : Nat) (v : Chan) : (s.setChan c v).repair = s.repair := rfl
@[simp] theorem State.setChan_mirror (s : State) (c : Nat) (v : Chan) : (s.setChan c v).mirror = s.mirror := rfl
@[simp] theorem State.setChan_sup (s : State) (c : Nat) (v : Chan) : (s.setChan c v).sup = s.sup := rfl
@[simp] theorem State.setChan_bays (s : State) (c : Nat) (v : Chan) : (s.setChan c v).bays = s.bays := rfl
@[simp] theorem State.setChan_ev (s : State) (c : Nat) (v : Chan) : (s.setChan c v).ev = s.ev := rfl
@[simp] theorem State.setChan_mgmt (s : State) (c : Nat) (v : Chan) : (s.setChan c v).mgmt = s.mgmt := rfl
@[simp] theorem State.setChan_blk (s : State) (c : Nat) (v : Chan) : (s.setChan c v).blk = s.blk := rfl
@[simp] theorem State.setChan_objs (s : State) (c : Nat) (v : Chan) : (s.setChan c v).objs = s.objs := rfl
@[simp] theorem State.setChan_recs (s : State) (c : Nat) (v : Chan) : (s.setChan c v).recs = s.recs := rfl
@[simp] theorem State.setChan_shadowObjs (s : State) (c : Nat) (v : Chan) : (s.setChan c v).shadowObjs = s.shadowObjs := rfl
@[simp] theorem State.setChan_freeCtr (s : State) (c : Nat) (v : Chan) : (s.setChan c v).freeCtr = s.freeCtr := rfl
@[simp] theorem State.setChan_at_port (s : State) (c : Nat) (v : Chan) (y : Nat) : (s.setChan c v).port y = s.port y := rfl
@[simp] theorem State.setChan_at_xbar (s : State) (c : Nat) (v : Chan) (y : Nat) : (s.setChan c v).xbar y = s.xbar y := rfl
@[simp] theorem State.setChan_at_dist (s : State) (c : Nat) (v : Chan) (y : Nat) : (s.setChan c v).dist y = s.dist y := rfl
@[simp] theorem State.setChan_at_bay (s : State) (c : Nat) (v : Chan) (y : Nat) : (s.setChan c v).bay y = s.bay y := rfl
@[simp] theorem State.setChan_at_sense (s : State) (c : Nat) (v : Chan) (y : Nat) : (s.setChan c v).sense y = s.sense y := rfl
@[simp] theorem State.setChan_at_repairAt (s : State) (c : Nat) (v : Chan) (y : Nat) : (s.setChan c v).repairAt y = s.repairAt y := rfl
@[simp] theorem State.setChan_at_tx (s : State) (c : Nat) (v : Chan) (y : Nat) : (s.setChan c v).tx y = s.tx y := rfl
@[simp] theorem State.setChan_at_rx (s : State) (c : Nat) (v : Chan) (y : Nat) : (s.setChan c v).rx y = s.rx y := rfl
@[simp] theorem State.setChan_at_link (s : State) (c : Nat) (v : Chan) (y : Nat) : (s.setChan c v).link y = s.link y := rfl
@[simp] theorem State.setChan_at_obj (s : State) (c : Nat) (v : Chan) (y z : Nat) : (s.setChan c v).obj y z = s.obj y z := rfl
@[simp] theorem State.setChan_at_recN (s : State) (c : Nat) (v : Chan) (y z o n : Nat) : (s.setChan c v).recN y z o n = s.recN y z o n := rfl
@[simp] theorem State.setChan_at_now (s : State) (c : Nat) (v : Chan) : (s.setChan c v).now = s.now := rfl
@[simp] theorem State.setChan_at_slotNow (s : State) (c : Nat) (v : Chan) : (s.setChan c v).slotNow = s.slotNow := rfl
@[simp] theorem State.setChan_at_cycleNow (s : State) (c : Nat) (v : Chan) : (s.setChan c v).cycleNow = s.cycleNow := rfl
@[simp] theorem State.setChan_at_stampNow (s : State) (c : Nat) (v : Chan) (y : Nat) : (s.setChan c v).stampNow y = s.stampNow y := rfl
@[simp] theorem State.setChan_at_moduleAt (s : State) (c : Nat) (v : Chan) (y : Nat) : (s.setChan c v).moduleAt y = s.moduleAt y := rfl

/-! ### State.modChan -/

@[simp] theorem State.modChan_pending (s : State) (c : Nat) (f : Chan → Chan) : (s.modChan c f).pending = s.pending := rfl
@[simp] theorem State.modChan_cad (s : State) (c : Nat) (f : Chan → Chan) : (s.modChan c f).cad = s.cad := rfl
@[simp] theorem State.modChan_ports (s : State) (c : Nat) (f : Chan → Chan) : (s.modChan c f).ports = s.ports := rfl
@[simp] theorem State.modChan_xbars (s : State) (c : Nat) (f : Chan → Chan) : (s.modChan c f).xbars = s.xbars := rfl
@[simp] theorem State.modChan_net (s : State) (c : Nat) (f : Chan → Chan) : (s.modChan c f).net = s.net := rfl
@[simp] theorem State.modChan_plaza (s : State) (c : Nat) (f : Chan → Chan) : (s.modChan c f).plaza = s.plaza := rfl
@[simp] theorem State.modChan_plazaLru (s : State) (c : Nat) (f : Chan → Chan) : (s.modChan c f).plazaLru = s.plazaLru := rfl
@[simp] theorem State.modChan_order (s : State) (c : Nat) (f : Chan → Chan) : (s.modChan c f).order = s.order := rfl
@[simp] theorem State.modChan_transit (s : State) (c : Nat) (f : Chan → Chan) : (s.modChan c f).transit = s.transit := rfl
@[simp] theorem State.modChan_gathers (s : State) (c : Nat) (f : Chan → Chan) : (s.modChan c f).gathers = s.gathers := rfl
@[simp] theorem State.modChan_samples (s : State) (c : Nat) (f : Chan → Chan) : (s.modChan c f).samples = s.samples := rfl
@[simp] theorem State.modChan_ledger (s : State) (c : Nat) (f : Chan → Chan) : (s.modChan c f).ledger = s.ledger := rfl
@[simp] theorem State.modChan_ledgerLru (s : State) (c : Nat) (f : Chan → Chan) : (s.modChan c f).ledgerLru = s.ledgerLru := rfl
@[simp] theorem State.modChan_found (s : State) (c : Nat) (f : Chan → Chan) : (s.modChan c f).found = s.found := rfl
@[simp] theorem State.modChan_pinned (s : State) (c : Nat) (f : Chan → Chan) : (s.modChan c f).pinned = s.pinned := rfl
@[simp] theorem State.modChan_sealedList (s : State) (c : Nat) (f : Chan → Chan) : (s.modChan c f).sealedList = s.sealedList := rfl
@[simp] theorem State.modChan_sealedFrom (s : State) (c : Nat) (f : Chan → Chan) : (s.modChan c f).sealedFrom = s.sealedFrom := rfl
@[simp] theorem State.modChan_dram (s : State) (c : Nat) (f : Chan → Chan) : (s.modChan c f).dram = s.dram := rfl
@[simp] theorem State.modChan_dists (s : State) (c : Nat) (f : Chan → Chan) : (s.modChan c f).dists = s.dists := rfl
@[simp] theorem State.modChan_keys (s : State) (c : Nat) (f : Chan → Chan) : (s.modChan c f).keys = s.keys := rfl
@[simp] theorem State.modChan_vault (s : State) (c : Nat) (f : Chan → Chan) : (s.modChan c f).vault = s.vault := rfl
@[simp] theorem State.modChan_mram (s : State) (c : Nat) (f : Chan → Chan) : (s.modChan c f).mram = s.mram := rfl
@[simp] theorem State.modChan_repair (s : State) (c : Nat) (f : Chan → Chan) : (s.modChan c f).repair = s.repair := rfl
@[simp] theorem State.modChan_mirror (s : State) (c : Nat) (f : Chan → Chan) : (s.modChan c f).mirror = s.mirror := rfl
@[simp] theorem State.modChan_sup (s : State) (c : Nat) (f : Chan → Chan) : (s.modChan c f).sup = s.sup := rfl
@[simp] theorem State.modChan_bays (s : State) (c : Nat) (f : Chan → Chan) : (s.modChan c f).bays = s.bays := rfl
@[simp] theorem State.modChan_ev (s : State) (c : Nat) (f : Chan → Chan) : (s.modChan c f).ev = s.ev := rfl
@[simp] theorem State.modChan_mgmt (s : State) (c : Nat) (f : Chan → Chan) : (s.modChan c f).mgmt = s.mgmt := rfl
@[simp] theorem State.modChan_blk (s : State) (c : Nat) (f : Chan → Chan) : (s.modChan c f).blk = s.blk := rfl
@[simp] theorem State.modChan_objs (s : State) (c : Nat) (f : Chan → Chan) : (s.modChan c f).objs = s.objs := rfl
@[simp] theorem State.modChan_recs (s : State) (c : Nat) (f : Chan → Chan) : (s.modChan c f).recs = s.recs := rfl
@[simp] theorem State.modChan_shadowObjs (s : State) (c : Nat) (f : Chan → Chan) : (s.modChan c f).shadowObjs = s.shadowObjs := rfl
@[simp] theorem State.modChan_freeCtr (s : State) (c : Nat) (f : Chan → Chan) : (s.modChan c f).freeCtr = s.freeCtr := rfl
@[simp] theorem State.modChan_at_port (s : State) (c : Nat) (f : Chan → Chan) (y : Nat) : (s.modChan c f).port y = s.port y := rfl
@[simp] theorem State.modChan_at_xbar (s : State) (c : Nat) (f : Chan → Chan) (y : Nat) : (s.modChan c f).xbar y = s.xbar y := rfl
@[simp] theorem State.modChan_at_dist (s : State) (c : Nat) (f : Chan → Chan) (y : Nat) : (s.modChan c f).dist y = s.dist y := rfl
@[simp] theorem State.modChan_at_bay (s : State) (c : Nat) (f : Chan → Chan) (y : Nat) : (s.modChan c f).bay y = s.bay y := rfl
@[simp] theorem State.modChan_at_sense (s : State) (c : Nat) (f : Chan → Chan) (y : Nat) : (s.modChan c f).sense y = s.sense y := rfl
@[simp] theorem State.modChan_at_repairAt (s : State) (c : Nat) (f : Chan → Chan) (y : Nat) : (s.modChan c f).repairAt y = s.repairAt y := rfl
@[simp] theorem State.modChan_at_tx (s : State) (c : Nat) (f : Chan → Chan) (y : Nat) : (s.modChan c f).tx y = s.tx y := rfl
@[simp] theorem State.modChan_at_rx (s : State) (c : Nat) (f : Chan → Chan) (y : Nat) : (s.modChan c f).rx y = s.rx y := rfl
@[simp] theorem State.modChan_at_link (s : State) (c : Nat) (f : Chan → Chan) (y : Nat) : (s.modChan c f).link y = s.link y := rfl
@[simp] theorem State.modChan_at_obj (s : State) (c : Nat) (f : Chan → Chan) (y z : Nat) : (s.modChan c f).obj y z = s.obj y z := rfl
@[simp] theorem State.modChan_at_recN (s : State) (c : Nat) (f : Chan → Chan) (y z o n : Nat) : (s.modChan c f).recN y z o n = s.recN y z o n := rfl
@[simp] theorem State.modChan_at_now (s : State) (c : Nat) (f : Chan → Chan) : (s.modChan c f).now = s.now := rfl
@[simp] theorem State.modChan_at_slotNow (s : State) (c : Nat) (f : Chan → Chan) : (s.modChan c f).slotNow = s.slotNow := rfl
@[simp] theorem State.modChan_at_cycleNow (s : State) (c : Nat) (f : Chan → Chan) : (s.modChan c f).cycleNow = s.cycleNow := rfl
@[simp] theorem State.modChan_at_stampNow (s : State) (c : Nat) (f : Chan → Chan) (y : Nat) : (s.modChan c f).stampNow y = s.stampNow y := rfl
@[simp] theorem State.modChan_at_moduleAt (s : State) (c : Nat) (f : Chan → Chan) (y : Nat) : (s.modChan c f).moduleAt y = s.moduleAt y := rfl

/-! ### State.setDist -/

@[simp] theorem State.setDist_pending (s : State) (d : Nat) (v : District) : (s.setDist d v).pending = s.pending := rfl
@[simp] theorem State.setDist_cad (s : State) (d : Nat) (v : District) : (s.setDist d v).cad = s.cad := rfl
@[simp] theorem State.setDist_ports (s : State) (d : Nat) (v : District) : (s.setDist d v).ports = s.ports := rfl
@[simp] theorem State.setDist_xbars (s : State) (d : Nat) (v : District) : (s.setDist d v).xbars = s.xbars := rfl
@[simp] theorem State.setDist_net (s : State) (d : Nat) (v : District) : (s.setDist d v).net = s.net := rfl
@[simp] theorem State.setDist_chans (s : State) (d : Nat) (v : District) : (s.setDist d v).chans = s.chans := rfl
@[simp] theorem State.setDist_plaza (s : State) (d : Nat) (v : District) : (s.setDist d v).plaza = s.plaza := rfl
@[simp] theorem State.setDist_plazaLru (s : State) (d : Nat) (v : District) : (s.setDist d v).plazaLru = s.plazaLru := rfl
@[simp] theorem State.setDist_order (s : State) (d : Nat) (v : District) : (s.setDist d v).order = s.order := rfl
@[simp] theorem State.setDist_transit (s : State) (d : Nat) (v : District) : (s.setDist d v).transit = s.transit := rfl
@[simp] theorem State.setDist_gathers (s : State) (d : Nat) (v : District) : (s.setDist d v).gathers = s.gathers := rfl
@[simp] theorem State.setDist_samples (s : State) (d : Nat) (v : District) : (s.setDist d v).samples = s.samples := rfl
@[simp] theorem State.setDist_ledger (s : State) (d : Nat) (v : District) : (s.setDist d v).ledger = s.ledger := rfl
@[simp] theorem State.setDist_ledgerLru (s : State) (d : Nat) (v : District) : (s.setDist d v).ledgerLru = s.ledgerLru := rfl
@[simp] theorem State.setDist_found (s : State) (d : Nat) (v : District) : (s.setDist d v).found = s.found := rfl
@[simp] theorem State.setDist_pinned (s : State) (d : Nat) (v : District) : (s.setDist d v).pinned = s.pinned := rfl
@[simp] theorem State.setDist_sealedList (s : State) (d : Nat) (v : District) : (s.setDist d v).sealedList = s.sealedList := rfl
@[simp] theorem State.setDist_sealedFrom (s : State) (d : Nat) (v : District) : (s.setDist d v).sealedFrom = s.sealedFrom := rfl
@[simp] theorem State.setDist_dram (s : State) (d : Nat) (v : District) : (s.setDist d v).dram = s.dram := rfl
@[simp] theorem State.setDist_keys (s : State) (d : Nat) (v : District) : (s.setDist d v).keys = s.keys := rfl
@[simp] theorem State.setDist_vault (s : State) (d : Nat) (v : District) : (s.setDist d v).vault = s.vault := rfl
@[simp] theorem State.setDist_mram (s : State) (d : Nat) (v : District) : (s.setDist d v).mram = s.mram := rfl
@[simp] theorem State.setDist_repair (s : State) (d : Nat) (v : District) : (s.setDist d v).repair = s.repair := rfl
@[simp] theorem State.setDist_mirror (s : State) (d : Nat) (v : District) : (s.setDist d v).mirror = s.mirror := rfl
@[simp] theorem State.setDist_sup (s : State) (d : Nat) (v : District) : (s.setDist d v).sup = s.sup := rfl
@[simp] theorem State.setDist_bays (s : State) (d : Nat) (v : District) : (s.setDist d v).bays = s.bays := rfl
@[simp] theorem State.setDist_ev (s : State) (d : Nat) (v : District) : (s.setDist d v).ev = s.ev := rfl
@[simp] theorem State.setDist_mgmt (s : State) (d : Nat) (v : District) : (s.setDist d v).mgmt = s.mgmt := rfl
@[simp] theorem State.setDist_blk (s : State) (d : Nat) (v : District) : (s.setDist d v).blk = s.blk := rfl
@[simp] theorem State.setDist_objs (s : State) (d : Nat) (v : District) : (s.setDist d v).objs = s.objs := rfl
@[simp] theorem State.setDist_recs (s : State) (d : Nat) (v : District) : (s.setDist d v).recs = s.recs := rfl
@[simp] theorem State.setDist_shadowObjs (s : State) (d : Nat) (v : District) : (s.setDist d v).shadowObjs = s.shadowObjs := rfl
@[simp] theorem State.setDist_freeCtr (s : State) (d : Nat) (v : District) : (s.setDist d v).freeCtr = s.freeCtr := rfl
@[simp] theorem State.setDist_at_port (s : State) (d : Nat) (v : District) (y : Nat) : (s.setDist d v).port y = s.port y := rfl
@[simp] theorem State.setDist_at_xbar (s : State) (d : Nat) (v : District) (y : Nat) : (s.setDist d v).xbar y = s.xbar y := rfl
@[simp] theorem State.setDist_at_chan (s : State) (d : Nat) (v : District) (y : Nat) : (s.setDist d v).chan y = s.chan y := rfl
@[simp] theorem State.setDist_at_bay (s : State) (d : Nat) (v : District) (y : Nat) : (s.setDist d v).bay y = s.bay y := rfl
@[simp] theorem State.setDist_at_sense (s : State) (d : Nat) (v : District) (y : Nat) : (s.setDist d v).sense y = s.sense y := rfl
@[simp] theorem State.setDist_at_repairAt (s : State) (d : Nat) (v : District) (y : Nat) : (s.setDist d v).repairAt y = s.repairAt y := rfl
@[simp] theorem State.setDist_at_tx (s : State) (d : Nat) (v : District) (y : Nat) : (s.setDist d v).tx y = s.tx y := rfl
@[simp] theorem State.setDist_at_rx (s : State) (d : Nat) (v : District) (y : Nat) : (s.setDist d v).rx y = s.rx y := rfl
@[simp] theorem State.setDist_at_link (s : State) (d : Nat) (v : District) (y : Nat) : (s.setDist d v).link y = s.link y := rfl
@[simp] theorem State.setDist_at_obj (s : State) (d : Nat) (v : District) (y z : Nat) : (s.setDist d v).obj y z = s.obj y z := rfl
@[simp] theorem State.setDist_at_recN (s : State) (d : Nat) (v : District) (y z o n : Nat) : (s.setDist d v).recN y z o n = s.recN y z o n := rfl
@[simp] theorem State.setDist_at_now (s : State) (d : Nat) (v : District) : (s.setDist d v).now = s.now := rfl
@[simp] theorem State.setDist_at_slotNow (s : State) (d : Nat) (v : District) : (s.setDist d v).slotNow = s.slotNow := rfl
@[simp] theorem State.setDist_at_cycleNow (s : State) (d : Nat) (v : District) : (s.setDist d v).cycleNow = s.cycleNow := rfl
@[simp] theorem State.setDist_at_stampNow (s : State) (d : Nat) (v : District) (y : Nat) : (s.setDist d v).stampNow y = s.stampNow y := rfl
@[simp] theorem State.setDist_at_moduleAt (s : State) (d : Nat) (v : District) (y : Nat) : (s.setDist d v).moduleAt y = s.moduleAt y := rfl

/-! ### State.modDist -/

@[simp] theorem State.modDist_pending (s : State) (d : Nat) (f : District → District) : (s.modDist d f).pending = s.pending := rfl
@[simp] theorem State.modDist_cad (s : State) (d : Nat) (f : District → District) : (s.modDist d f).cad = s.cad := rfl
@[simp] theorem State.modDist_ports (s : State) (d : Nat) (f : District → District) : (s.modDist d f).ports = s.ports := rfl
@[simp] theorem State.modDist_xbars (s : State) (d : Nat) (f : District → District) : (s.modDist d f).xbars = s.xbars := rfl
@[simp] theorem State.modDist_net (s : State) (d : Nat) (f : District → District) : (s.modDist d f).net = s.net := rfl
@[simp] theorem State.modDist_chans (s : State) (d : Nat) (f : District → District) : (s.modDist d f).chans = s.chans := rfl
@[simp] theorem State.modDist_plaza (s : State) (d : Nat) (f : District → District) : (s.modDist d f).plaza = s.plaza := rfl
@[simp] theorem State.modDist_plazaLru (s : State) (d : Nat) (f : District → District) : (s.modDist d f).plazaLru = s.plazaLru := rfl
@[simp] theorem State.modDist_order (s : State) (d : Nat) (f : District → District) : (s.modDist d f).order = s.order := rfl
@[simp] theorem State.modDist_transit (s : State) (d : Nat) (f : District → District) : (s.modDist d f).transit = s.transit := rfl
@[simp] theorem State.modDist_gathers (s : State) (d : Nat) (f : District → District) : (s.modDist d f).gathers = s.gathers := rfl
@[simp] theorem State.modDist_samples (s : State) (d : Nat) (f : District → District) : (s.modDist d f).samples = s.samples := rfl
@[simp] theorem State.modDist_ledger (s : State) (d : Nat) (f : District → District) : (s.modDist d f).ledger = s.ledger := rfl
@[simp] theorem State.modDist_ledgerLru (s : State) (d : Nat) (f : District → District) : (s.modDist d f).ledgerLru = s.ledgerLru := rfl
@[simp] theorem State.modDist_found (s : State) (d : Nat) (f : District → District) : (s.modDist d f).found = s.found := rfl
@[simp] theorem State.modDist_pinned (s : State) (d : Nat) (f : District → District) : (s.modDist d f).pinned = s.pinned := rfl
@[simp] theorem State.modDist_sealedList (s : State) (d : Nat) (f : District → District) : (s.modDist d f).sealedList = s.sealedList := rfl
@[simp] theorem State.modDist_sealedFrom (s : State) (d : Nat) (f : District → District) : (s.modDist d f).sealedFrom = s.sealedFrom := rfl
@[simp] theorem State.modDist_dram (s : State) (d : Nat) (f : District → District) : (s.modDist d f).dram = s.dram := rfl
@[simp] theorem State.modDist_keys (s : State) (d : Nat) (f : District → District) : (s.modDist d f).keys = s.keys := rfl
@[simp] theorem State.modDist_vault (s : State) (d : Nat) (f : District → District) : (s.modDist d f).vault = s.vault := rfl
@[simp] theorem State.modDist_mram (s : State) (d : Nat) (f : District → District) : (s.modDist d f).mram = s.mram := rfl
@[simp] theorem State.modDist_repair (s : State) (d : Nat) (f : District → District) : (s.modDist d f).repair = s.repair := rfl
@[simp] theorem State.modDist_mirror (s : State) (d : Nat) (f : District → District) : (s.modDist d f).mirror = s.mirror := rfl
@[simp] theorem State.modDist_sup (s : State) (d : Nat) (f : District → District) : (s.modDist d f).sup = s.sup := rfl
@[simp] theorem State.modDist_bays (s : State) (d : Nat) (f : District → District) : (s.modDist d f).bays = s.bays := rfl
@[simp] theorem State.modDist_ev (s : State) (d : Nat) (f : District → District) : (s.modDist d f).ev = s.ev := rfl
@[simp] theorem State.modDist_mgmt (s : State) (d : Nat) (f : District → District) : (s.modDist d f).mgmt = s.mgmt := rfl
@[simp] theorem State.modDist_blk (s : State) (d : Nat) (f : District → District) : (s.modDist d f).blk = s.blk := rfl
@[simp] theorem State.modDist_objs (s : State) (d : Nat) (f : District → District) : (s.modDist d f).objs = s.objs := rfl
@[simp] theorem State.modDist_recs (s : State) (d : Nat) (f : District → District) : (s.modDist d f).recs = s.recs := rfl
@[simp] theorem State.modDist_shadowObjs (s : State) (d : Nat) (f : District → District) : (s.modDist d f).shadowObjs = s.shadowObjs := rfl
@[simp] theorem State.modDist_freeCtr (s : State) (d : Nat) (f : District → District) : (s.modDist d f).freeCtr = s.freeCtr := rfl
@[simp] theorem State.modDist_at_port (s : State) (d : Nat) (f : District → District) (y : Nat) : (s.modDist d f).port y = s.port y := rfl
@[simp] theorem State.modDist_at_xbar (s : State) (d : Nat) (f : District → District) (y : Nat) : (s.modDist d f).xbar y = s.xbar y := rfl
@[simp] theorem State.modDist_at_chan (s : State) (d : Nat) (f : District → District) (y : Nat) : (s.modDist d f).chan y = s.chan y := rfl
@[simp] theorem State.modDist_at_bay (s : State) (d : Nat) (f : District → District) (y : Nat) : (s.modDist d f).bay y = s.bay y := rfl
@[simp] theorem State.modDist_at_sense (s : State) (d : Nat) (f : District → District) (y : Nat) : (s.modDist d f).sense y = s.sense y := rfl
@[simp] theorem State.modDist_at_repairAt (s : State) (d : Nat) (f : District → District) (y : Nat) : (s.modDist d f).repairAt y = s.repairAt y := rfl
@[simp] theorem State.modDist_at_tx (s : State) (d : Nat) (f : District → District) (y : Nat) : (s.modDist d f).tx y = s.tx y := rfl
@[simp] theorem State.modDist_at_rx (s : State) (d : Nat) (f : District → District) (y : Nat) : (s.modDist d f).rx y = s.rx y := rfl
@[simp] theorem State.modDist_at_link (s : State) (d : Nat) (f : District → District) (y : Nat) : (s.modDist d f).link y = s.link y := rfl
@[simp] theorem State.modDist_at_obj (s : State) (d : Nat) (f : District → District) (y z : Nat) : (s.modDist d f).obj y z = s.obj y z := rfl
@[simp] theorem State.modDist_at_recN (s : State) (d : Nat) (f : District → District) (y z o n : Nat) : (s.modDist d f).recN y z o n = s.recN y z o n := rfl
@[simp] theorem State.modDist_at_now (s : State) (d : Nat) (f : District → District) : (s.modDist d f).now = s.now := rfl
@[simp] theorem State.modDist_at_slotNow (s : State) (d : Nat) (f : District → District) : (s.modDist d f).slotNow = s.slotNow := rfl
@[simp] theorem State.modDist_at_cycleNow (s : State) (d : Nat) (f : District → District) : (s.modDist d f).cycleNow = s.cycleNow := rfl
@[simp] theorem State.modDist_at_stampNow (s : State) (d : Nat) (f : District → District) (y : Nat) : (s.modDist d f).stampNow y = s.stampNow y := rfl
@[simp] theorem State.modDist_at_moduleAt (s : State) (d : Nat) (f : District → District) (y : Nat) : (s.modDist d f).moduleAt y = s.moduleAt y := rfl

/-! ### State.setBay -/

@[simp] theorem State.setBay_pending (s : State) (b : Nat) (v : Bay) : (s.setBay b v).pending = s.pending := rfl
@[simp] theorem State.setBay_cad (s : State) (b : Nat) (v : Bay) : (s.setBay b v).cad = s.cad := rfl
@[simp] theorem State.setBay_ports (s : State) (b : Nat) (v : Bay) : (s.setBay b v).ports = s.ports := rfl
@[simp] theorem State.setBay_xbars (s : State) (b : Nat) (v : Bay) : (s.setBay b v).xbars = s.xbars := rfl
@[simp] theorem State.setBay_net (s : State) (b : Nat) (v : Bay) : (s.setBay b v).net = s.net := rfl
@[simp] theorem State.setBay_chans (s : State) (b : Nat) (v : Bay) : (s.setBay b v).chans = s.chans := rfl
@[simp] theorem State.setBay_plaza (s : State) (b : Nat) (v : Bay) : (s.setBay b v).plaza = s.plaza := rfl
@[simp] theorem State.setBay_plazaLru (s : State) (b : Nat) (v : Bay) : (s.setBay b v).plazaLru = s.plazaLru := rfl
@[simp] theorem State.setBay_order (s : State) (b : Nat) (v : Bay) : (s.setBay b v).order = s.order := rfl
@[simp] theorem State.setBay_transit (s : State) (b : Nat) (v : Bay) : (s.setBay b v).transit = s.transit := rfl
@[simp] theorem State.setBay_gathers (s : State) (b : Nat) (v : Bay) : (s.setBay b v).gathers = s.gathers := rfl
@[simp] theorem State.setBay_samples (s : State) (b : Nat) (v : Bay) : (s.setBay b v).samples = s.samples := rfl
@[simp] theorem State.setBay_ledger (s : State) (b : Nat) (v : Bay) : (s.setBay b v).ledger = s.ledger := rfl
@[simp] theorem State.setBay_ledgerLru (s : State) (b : Nat) (v : Bay) : (s.setBay b v).ledgerLru = s.ledgerLru := rfl
@[simp] theorem State.setBay_found (s : State) (b : Nat) (v : Bay) : (s.setBay b v).found = s.found := rfl
@[simp] theorem State.setBay_pinned (s : State) (b : Nat) (v : Bay) : (s.setBay b v).pinned = s.pinned := rfl
@[simp] theorem State.setBay_sealedList (s : State) (b : Nat) (v : Bay) : (s.setBay b v).sealedList = s.sealedList := rfl
@[simp] theorem State.setBay_sealedFrom (s : State) (b : Nat) (v : Bay) : (s.setBay b v).sealedFrom = s.sealedFrom := rfl
@[simp] theorem State.setBay_dram (s : State) (b : Nat) (v : Bay) : (s.setBay b v).dram = s.dram := rfl
@[simp] theorem State.setBay_dists (s : State) (b : Nat) (v : Bay) : (s.setBay b v).dists = s.dists := rfl
@[simp] theorem State.setBay_keys (s : State) (b : Nat) (v : Bay) : (s.setBay b v).keys = s.keys := rfl
@[simp] theorem State.setBay_vault (s : State) (b : Nat) (v : Bay) : (s.setBay b v).vault = s.vault := rfl
@[simp] theorem State.setBay_mram (s : State) (b : Nat) (v : Bay) : (s.setBay b v).mram = s.mram := rfl
@[simp] theorem State.setBay_repair (s : State) (b : Nat) (v : Bay) : (s.setBay b v).repair = s.repair := rfl
@[simp] theorem State.setBay_mirror (s : State) (b : Nat) (v : Bay) : (s.setBay b v).mirror = s.mirror := rfl
@[simp] theorem State.setBay_sup (s : State) (b : Nat) (v : Bay) : (s.setBay b v).sup = s.sup := rfl
@[simp] theorem State.setBay_ev (s : State) (b : Nat) (v : Bay) : (s.setBay b v).ev = s.ev := rfl
@[simp] theorem State.setBay_mgmt (s : State) (b : Nat) (v : Bay) : (s.setBay b v).mgmt = s.mgmt := rfl
@[simp] theorem State.setBay_blk (s : State) (b : Nat) (v : Bay) : (s.setBay b v).blk = s.blk := rfl
@[simp] theorem State.setBay_objs (s : State) (b : Nat) (v : Bay) : (s.setBay b v).objs = s.objs := rfl
@[simp] theorem State.setBay_recs (s : State) (b : Nat) (v : Bay) : (s.setBay b v).recs = s.recs := rfl
@[simp] theorem State.setBay_shadowObjs (s : State) (b : Nat) (v : Bay) : (s.setBay b v).shadowObjs = s.shadowObjs := rfl
@[simp] theorem State.setBay_freeCtr (s : State) (b : Nat) (v : Bay) : (s.setBay b v).freeCtr = s.freeCtr := rfl
@[simp] theorem State.setBay_at_port (s : State) (b : Nat) (v : Bay) (y : Nat) : (s.setBay b v).port y = s.port y := rfl
@[simp] theorem State.setBay_at_xbar (s : State) (b : Nat) (v : Bay) (y : Nat) : (s.setBay b v).xbar y = s.xbar y := rfl
@[simp] theorem State.setBay_at_chan (s : State) (b : Nat) (v : Bay) (y : Nat) : (s.setBay b v).chan y = s.chan y := rfl
@[simp] theorem State.setBay_at_dist (s : State) (b : Nat) (v : Bay) (y : Nat) : (s.setBay b v).dist y = s.dist y := rfl
@[simp] theorem State.setBay_at_sense (s : State) (b : Nat) (v : Bay) (y : Nat) : (s.setBay b v).sense y = s.sense y := rfl
@[simp] theorem State.setBay_at_repairAt (s : State) (b : Nat) (v : Bay) (y : Nat) : (s.setBay b v).repairAt y = s.repairAt y := rfl
@[simp] theorem State.setBay_at_tx (s : State) (b : Nat) (v : Bay) (y : Nat) : (s.setBay b v).tx y = s.tx y := rfl
@[simp] theorem State.setBay_at_rx (s : State) (b : Nat) (v : Bay) (y : Nat) : (s.setBay b v).rx y = s.rx y := rfl
@[simp] theorem State.setBay_at_link (s : State) (b : Nat) (v : Bay) (y : Nat) : (s.setBay b v).link y = s.link y := rfl
@[simp] theorem State.setBay_at_obj (s : State) (b : Nat) (v : Bay) (y z : Nat) : (s.setBay b v).obj y z = s.obj y z := rfl
@[simp] theorem State.setBay_at_recN (s : State) (b : Nat) (v : Bay) (y z o n : Nat) : (s.setBay b v).recN y z o n = s.recN y z o n := rfl
@[simp] theorem State.setBay_at_now (s : State) (b : Nat) (v : Bay) : (s.setBay b v).now = s.now := rfl
@[simp] theorem State.setBay_at_slotNow (s : State) (b : Nat) (v : Bay) : (s.setBay b v).slotNow = s.slotNow := rfl
@[simp] theorem State.setBay_at_cycleNow (s : State) (b : Nat) (v : Bay) : (s.setBay b v).cycleNow = s.cycleNow := rfl
@[simp] theorem State.setBay_at_stampNow (s : State) (b : Nat) (v : Bay) (y : Nat) : (s.setBay b v).stampNow y = s.stampNow y := rfl

/-! ### State.modBay -/

@[simp] theorem State.modBay_pending (s : State) (b : Nat) (f : Bay → Bay) : (s.modBay b f).pending = s.pending := rfl
@[simp] theorem State.modBay_cad (s : State) (b : Nat) (f : Bay → Bay) : (s.modBay b f).cad = s.cad := rfl
@[simp] theorem State.modBay_ports (s : State) (b : Nat) (f : Bay → Bay) : (s.modBay b f).ports = s.ports := rfl
@[simp] theorem State.modBay_xbars (s : State) (b : Nat) (f : Bay → Bay) : (s.modBay b f).xbars = s.xbars := rfl
@[simp] theorem State.modBay_net (s : State) (b : Nat) (f : Bay → Bay) : (s.modBay b f).net = s.net := rfl
@[simp] theorem State.modBay_chans (s : State) (b : Nat) (f : Bay → Bay) : (s.modBay b f).chans = s.chans := rfl
@[simp] theorem State.modBay_plaza (s : State) (b : Nat) (f : Bay → Bay) : (s.modBay b f).plaza = s.plaza := rfl
@[simp] theorem State.modBay_plazaLru (s : State) (b : Nat) (f : Bay → Bay) : (s.modBay b f).plazaLru = s.plazaLru := rfl
@[simp] theorem State.modBay_order (s : State) (b : Nat) (f : Bay → Bay) : (s.modBay b f).order = s.order := rfl
@[simp] theorem State.modBay_transit (s : State) (b : Nat) (f : Bay → Bay) : (s.modBay b f).transit = s.transit := rfl
@[simp] theorem State.modBay_gathers (s : State) (b : Nat) (f : Bay → Bay) : (s.modBay b f).gathers = s.gathers := rfl
@[simp] theorem State.modBay_samples (s : State) (b : Nat) (f : Bay → Bay) : (s.modBay b f).samples = s.samples := rfl
@[simp] theorem State.modBay_ledger (s : State) (b : Nat) (f : Bay → Bay) : (s.modBay b f).ledger = s.ledger := rfl
@[simp] theorem State.modBay_ledgerLru (s : State) (b : Nat) (f : Bay → Bay) : (s.modBay b f).ledgerLru = s.ledgerLru := rfl
@[simp] theorem State.modBay_found (s : State) (b : Nat) (f : Bay → Bay) : (s.modBay b f).found = s.found := rfl
@[simp] theorem State.modBay_pinned (s : State) (b : Nat) (f : Bay → Bay) : (s.modBay b f).pinned = s.pinned := rfl
@[simp] theorem State.modBay_sealedList (s : State) (b : Nat) (f : Bay → Bay) : (s.modBay b f).sealedList = s.sealedList := rfl
@[simp] theorem State.modBay_sealedFrom (s : State) (b : Nat) (f : Bay → Bay) : (s.modBay b f).sealedFrom = s.sealedFrom := rfl
@[simp] theorem State.modBay_dram (s : State) (b : Nat) (f : Bay → Bay) : (s.modBay b f).dram = s.dram := rfl
@[simp] theorem State.modBay_dists (s : State) (b : Nat) (f : Bay → Bay) : (s.modBay b f).dists = s.dists := rfl
@[simp] theorem State.modBay_keys (s : State) (b : Nat) (f : Bay → Bay) : (s.modBay b f).keys = s.keys := rfl
@[simp] theorem State.modBay_vault (s : State) (b : Nat) (f : Bay → Bay) : (s.modBay b f).vault = s.vault := rfl
@[simp] theorem State.modBay_mram (s : State) (b : Nat) (f : Bay → Bay) : (s.modBay b f).mram = s.mram := rfl
@[simp] theorem State.modBay_repair (s : State) (b : Nat) (f : Bay → Bay) : (s.modBay b f).repair = s.repair := rfl
@[simp] theorem State.modBay_mirror (s : State) (b : Nat) (f : Bay → Bay) : (s.modBay b f).mirror = s.mirror := rfl
@[simp] theorem State.modBay_sup (s : State) (b : Nat) (f : Bay → Bay) : (s.modBay b f).sup = s.sup := rfl
@[simp] theorem State.modBay_ev (s : State) (b : Nat) (f : Bay → Bay) : (s.modBay b f).ev = s.ev := rfl
@[simp] theorem State.modBay_mgmt (s : State) (b : Nat) (f : Bay → Bay) : (s.modBay b f).mgmt = s.mgmt := rfl
@[simp] theorem State.modBay_blk (s : State) (b : Nat) (f : Bay → Bay) : (s.modBay b f).blk = s.blk := rfl
@[simp] theorem State.modBay_objs (s : State) (b : Nat) (f : Bay → Bay) : (s.modBay b f).objs = s.objs := rfl
@[simp] theorem State.modBay_recs (s : State) (b : Nat) (f : Bay → Bay) : (s.modBay b f).recs = s.recs := rfl
@[simp] theorem State.modBay_shadowObjs (s : State) (b : Nat) (f : Bay → Bay) : (s.modBay b f).shadowObjs = s.shadowObjs := rfl
@[simp] theorem State.modBay_freeCtr (s : State) (b : Nat) (f : Bay → Bay) : (s.modBay b f).freeCtr = s.freeCtr := rfl
@[simp] theorem State.modBay_at_port (s : State) (b : Nat) (f : Bay → Bay) (y : Nat) : (s.modBay b f).port y = s.port y := rfl
@[simp] theorem State.modBay_at_xbar (s : State) (b : Nat) (f : Bay → Bay) (y : Nat) : (s.modBay b f).xbar y = s.xbar y := rfl
@[simp] theorem State.modBay_at_chan (s : State) (b : Nat) (f : Bay → Bay) (y : Nat) : (s.modBay b f).chan y = s.chan y := rfl
@[simp] theorem State.modBay_at_dist (s : State) (b : Nat) (f : Bay → Bay) (y : Nat) : (s.modBay b f).dist y = s.dist y := rfl
@[simp] theorem State.modBay_at_sense (s : State) (b : Nat) (f : Bay → Bay) (y : Nat) : (s.modBay b f).sense y = s.sense y := rfl
@[simp] theorem State.modBay_at_repairAt (s : State) (b : Nat) (f : Bay → Bay) (y : Nat) : (s.modBay b f).repairAt y = s.repairAt y := rfl
@[simp] theorem State.modBay_at_tx (s : State) (b : Nat) (f : Bay → Bay) (y : Nat) : (s.modBay b f).tx y = s.tx y := rfl
@[simp] theorem State.modBay_at_rx (s : State) (b : Nat) (f : Bay → Bay) (y : Nat) : (s.modBay b f).rx y = s.rx y := rfl
@[simp] theorem State.modBay_at_link (s : State) (b : Nat) (f : Bay → Bay) (y : Nat) : (s.modBay b f).link y = s.link y := rfl
@[simp] theorem State.modBay_at_obj (s : State) (b : Nat) (f : Bay → Bay) (y z : Nat) : (s.modBay b f).obj y z = s.obj y z := rfl
@[simp] theorem State.modBay_at_recN (s : State) (b : Nat) (f : Bay → Bay) (y z o n : Nat) : (s.modBay b f).recN y z o n = s.recN y z o n := rfl
@[simp] theorem State.modBay_at_now (s : State) (b : Nat) (f : Bay → Bay) : (s.modBay b f).now = s.now := rfl
@[simp] theorem State.modBay_at_slotNow (s : State) (b : Nat) (f : Bay → Bay) : (s.modBay b f).slotNow = s.slotNow := rfl
@[simp] theorem State.modBay_at_cycleNow (s : State) (b : Nat) (f : Bay → Bay) : (s.modBay b f).cycleNow = s.cycleNow := rfl
@[simp] theorem State.modBay_at_stampNow (s : State) (b : Nat) (f : Bay → Bay) (y : Nat) : (s.modBay b f).stampNow y = s.stampNow y := rfl

/-! ### State.setSense -/

@[simp] theorem State.setSense_pending (s : State) (i : Nat) (v : Sense) : (s.setSense i v).pending = s.pending := rfl
@[simp] theorem State.setSense_cad (s : State) (i : Nat) (v : Sense) : (s.setSense i v).cad = s.cad := rfl
@[simp] theorem State.setSense_ports (s : State) (i : Nat) (v : Sense) : (s.setSense i v).ports = s.ports := rfl
@[simp] theorem State.setSense_xbars (s : State) (i : Nat) (v : Sense) : (s.setSense i v).xbars = s.xbars := rfl
@[simp] theorem State.setSense_net (s : State) (i : Nat) (v : Sense) : (s.setSense i v).net = s.net := rfl
@[simp] theorem State.setSense_chans (s : State) (i : Nat) (v : Sense) : (s.setSense i v).chans = s.chans := rfl
@[simp] theorem State.setSense_plaza (s : State) (i : Nat) (v : Sense) : (s.setSense i v).plaza = s.plaza := rfl
@[simp] theorem State.setSense_plazaLru (s : State) (i : Nat) (v : Sense) : (s.setSense i v).plazaLru = s.plazaLru := rfl
@[simp] theorem State.setSense_order (s : State) (i : Nat) (v : Sense) : (s.setSense i v).order = s.order := rfl
@[simp] theorem State.setSense_transit (s : State) (i : Nat) (v : Sense) : (s.setSense i v).transit = s.transit := rfl
@[simp] theorem State.setSense_gathers (s : State) (i : Nat) (v : Sense) : (s.setSense i v).gathers = s.gathers := rfl
@[simp] theorem State.setSense_samples (s : State) (i : Nat) (v : Sense) : (s.setSense i v).samples = s.samples := rfl
@[simp] theorem State.setSense_ledger (s : State) (i : Nat) (v : Sense) : (s.setSense i v).ledger = s.ledger := rfl
@[simp] theorem State.setSense_ledgerLru (s : State) (i : Nat) (v : Sense) : (s.setSense i v).ledgerLru = s.ledgerLru := rfl
@[simp] theorem State.setSense_found (s : State) (i : Nat) (v : Sense) : (s.setSense i v).found = s.found := rfl
@[simp] theorem State.setSense_pinned (s : State) (i : Nat) (v : Sense) : (s.setSense i v).pinned = s.pinned := rfl
@[simp] theorem State.setSense_sealedList (s : State) (i : Nat) (v : Sense) : (s.setSense i v).sealedList = s.sealedList := rfl
@[simp] theorem State.setSense_sealedFrom (s : State) (i : Nat) (v : Sense) : (s.setSense i v).sealedFrom = s.sealedFrom := rfl
@[simp] theorem State.setSense_dram (s : State) (i : Nat) (v : Sense) : (s.setSense i v).dram = s.dram := rfl
@[simp] theorem State.setSense_dists (s : State) (i : Nat) (v : Sense) : (s.setSense i v).dists = s.dists := rfl
@[simp] theorem State.setSense_keys (s : State) (i : Nat) (v : Sense) : (s.setSense i v).keys = s.keys := rfl
@[simp] theorem State.setSense_vault (s : State) (i : Nat) (v : Sense) : (s.setSense i v).vault = s.vault := rfl
@[simp] theorem State.setSense_mram (s : State) (i : Nat) (v : Sense) : (s.setSense i v).mram = s.mram := rfl
@[simp] theorem State.setSense_repair (s : State) (i : Nat) (v : Sense) : (s.setSense i v).repair = s.repair := rfl
@[simp] theorem State.setSense_mirror (s : State) (i : Nat) (v : Sense) : (s.setSense i v).mirror = s.mirror := rfl
@[simp] theorem State.setSense_bays (s : State) (i : Nat) (v : Sense) : (s.setSense i v).bays = s.bays := rfl
@[simp] theorem State.setSense_ev (s : State) (i : Nat) (v : Sense) : (s.setSense i v).ev = s.ev := rfl
@[simp] theorem State.setSense_mgmt (s : State) (i : Nat) (v : Sense) : (s.setSense i v).mgmt = s.mgmt := rfl
@[simp] theorem State.setSense_blk (s : State) (i : Nat) (v : Sense) : (s.setSense i v).blk = s.blk := rfl
@[simp] theorem State.setSense_objs (s : State) (i : Nat) (v : Sense) : (s.setSense i v).objs = s.objs := rfl
@[simp] theorem State.setSense_recs (s : State) (i : Nat) (v : Sense) : (s.setSense i v).recs = s.recs := rfl
@[simp] theorem State.setSense_shadowObjs (s : State) (i : Nat) (v : Sense) : (s.setSense i v).shadowObjs = s.shadowObjs := rfl
@[simp] theorem State.setSense_freeCtr (s : State) (i : Nat) (v : Sense) : (s.setSense i v).freeCtr = s.freeCtr := rfl
@[simp] theorem State.setSense_sup_st (s : State) (i : Nat) (v : Sense) : (s.setSense i v).sup.st = s.sup.st := rfl
@[simp] theorem State.setSense_sup_enVaa (s : State) (i : Nat) (v : Sense) : (s.setSense i v).sup.enVaa = s.sup.enVaa := rfl
@[simp] theorem State.setSense_sup_enVddp (s : State) (i : Nat) (v : Sense) : (s.setSense i v).sup.enVddp = s.sup.enVddp := rfl
@[simp] theorem State.setSense_sup_enVddq (s : State) (i : Nat) (v : Sense) : (s.setSense i v).sup.enVddq = s.sup.enVddq := rfl
@[simp] theorem State.setSense_sup_firstLogged (s : State) (i : Nat) (v : Sense) : (s.setSense i v).sup.firstLogged = s.sup.firstLogged := rfl
@[simp] theorem State.setSense_sup_squall (s : State) (i : Nat) (v : Sense) : (s.setSense i v).sup.squall = s.sup.squall := rfl
@[simp] theorem State.setSense_sup_vddpCut (s : State) (i : Nat) (v : Sense) : (s.setSense i v).sup.vddpCut = s.sup.vddpCut := rfl
@[simp] theorem State.setSense_sup_returned (s : State) (i : Nat) (v : Sense) : (s.setSense i v).sup.returned = s.sup.returned := rfl
@[simp] theorem State.setSense_sup_committed (s : State) (i : Nat) (v : Sense) : (s.setSense i v).sup.committed = s.sup.committed := rfl
@[simp] theorem State.setSense_sup_planned (s : State) (i : Nat) (v : Sense) : (s.setSense i v).sup.planned = s.sup.planned := rfl
@[simp] theorem State.setSense_sup_left (s : State) (i : Nat) (v : Sense) : (s.setSense i v).sup.left = s.sup.left := rfl
@[simp] theorem State.setSense_sup_leftMeta (s : State) (i : Nat) (v : Sense) : (s.setSense i v).sup.leftMeta = s.sup.leftMeta := rfl
@[simp] theorem State.setSense_sup_touched (s : State) (i : Nat) (v : Sense) : (s.setSense i v).sup.touched = s.sup.touched := rfl
@[simp] theorem State.setSense_sup_drained (s : State) (i : Nat) (v : Sense) : (s.setSense i v).sup.drained = s.sup.drained := rfl
@[simp] theorem State.setSense_sup_spent (s : State) (i : Nat) (v : Sense) : (s.setSense i v).sup.spent = s.sup.spent := rfl
@[simp] theorem State.setSense_sup_hardStop (s : State) (i : Nat) (v : Sense) : (s.setSense i v).sup.hardStop = s.sup.hardStop := rfl
@[simp] theorem State.setSense_sup_parked (s : State) (i : Nat) (v : Sense) : (s.setSense i v).sup.parked = s.sup.parked := rfl
@[simp] theorem State.setSense_sup_failInput (s : State) (i : Nat) (v : Sense) : (s.setSense i v).sup.failInput = s.sup.failInput := rfl
@[simp] theorem State.setSense_sup_words (s : State) (i : Nat) (v : Sense) : (s.setSense i v).sup.words = s.sup.words := rfl
@[simp] theorem State.setSense_sup_cutoff (s : State) (i : Nat) (v : Sense) : (s.setSense i v).sup.cutoff = s.sup.cutoff := rfl
@[simp] theorem State.setSense_sup_after (s : State) (i : Nat) (v : Sense) : (s.setSense i v).sup.after = s.sup.after := rfl
@[simp] theorem State.setSense_sup_unlimited (s : State) (i : Nat) (v : Sense) : (s.setSense i v).sup.unlimited = s.sup.unlimited := rfl
@[simp] theorem State.setSense_sup_budget (s : State) (i : Nat) (v : Sense) : (s.setSense i v).sup.budget = s.sup.budget := rfl
@[simp] theorem State.setSense_sup_capFailed (s : State) (i : Nat) (v : Sense) : (s.setSense i v).sup.capFailed = s.sup.capFailed := rfl
@[simp] theorem State.setSense_sup_capRun (s : State) (i : Nat) (v : Sense) : (s.setSense i v).sup.capRun = s.sup.capRun := rfl
@[simp] theorem State.setSense_sup_logSeq (s : State) (i : Nat) (v : Sense) : (s.setSense i v).sup.logSeq = s.sup.logSeq := rfl
@[simp] theorem State.setSense_sup_restored (s : State) (i : Nat) (v : Sense) : (s.setSense i v).sup.restored = s.sup.restored := rfl
@[simp] theorem State.setSense_sup_chainBad (s : State) (i : Nat) (v : Sense) : (s.setSense i v).sup.chainBad = s.sup.chainBad := rfl
@[simp] theorem State.setSense_sup_chainGood (s : State) (i : Nat) (v : Sense) : (s.setSense i v).sup.chainGood = s.sup.chainGood := rfl
@[simp] theorem State.setSense_at_port (s : State) (i : Nat) (v : Sense) (y : Nat) : (s.setSense i v).port y = s.port y := rfl
@[simp] theorem State.setSense_at_xbar (s : State) (i : Nat) (v : Sense) (y : Nat) : (s.setSense i v).xbar y = s.xbar y := rfl
@[simp] theorem State.setSense_at_chan (s : State) (i : Nat) (v : Sense) (y : Nat) : (s.setSense i v).chan y = s.chan y := rfl
@[simp] theorem State.setSense_at_dist (s : State) (i : Nat) (v : Sense) (y : Nat) : (s.setSense i v).dist y = s.dist y := rfl
@[simp] theorem State.setSense_at_bay (s : State) (i : Nat) (v : Sense) (y : Nat) : (s.setSense i v).bay y = s.bay y := rfl
@[simp] theorem State.setSense_at_repairAt (s : State) (i : Nat) (v : Sense) (y : Nat) : (s.setSense i v).repairAt y = s.repairAt y := rfl
@[simp] theorem State.setSense_at_tx (s : State) (i : Nat) (v : Sense) (y : Nat) : (s.setSense i v).tx y = s.tx y := rfl
@[simp] theorem State.setSense_at_rx (s : State) (i : Nat) (v : Sense) (y : Nat) : (s.setSense i v).rx y = s.rx y := rfl
@[simp] theorem State.setSense_at_link (s : State) (i : Nat) (v : Sense) (y : Nat) : (s.setSense i v).link y = s.link y := rfl
@[simp] theorem State.setSense_at_obj (s : State) (i : Nat) (v : Sense) (y z : Nat) : (s.setSense i v).obj y z = s.obj y z := rfl
@[simp] theorem State.setSense_at_recN (s : State) (i : Nat) (v : Sense) (y z o n : Nat) : (s.setSense i v).recN y z o n = s.recN y z o n := rfl
@[simp] theorem State.setSense_at_now (s : State) (i : Nat) (v : Sense) : (s.setSense i v).now = s.now := rfl
@[simp] theorem State.setSense_at_slotNow (s : State) (i : Nat) (v : Sense) : (s.setSense i v).slotNow = s.slotNow := rfl
@[simp] theorem State.setSense_at_cycleNow (s : State) (i : Nat) (v : Sense) : (s.setSense i v).cycleNow = s.cycleNow := rfl
@[simp] theorem State.setSense_at_stampNow (s : State) (i : Nat) (v : Sense) (y : Nat) : (s.setSense i v).stampNow y = s.stampNow y := rfl
@[simp] theorem State.setSense_at_moduleAt (s : State) (i : Nat) (v : Sense) (y : Nat) : (s.setSense i v).moduleAt y = s.moduleAt y := rfl

/-! ### State.setRepair -/

@[simp] theorem State.setRepair_pending (s : State) (e : Nat) (v : Repair) : (s.setRepair e v).pending = s.pending := rfl
@[simp] theorem State.setRepair_cad (s : State) (e : Nat) (v : Repair) : (s.setRepair e v).cad = s.cad := rfl
@[simp] theorem State.setRepair_ports (s : State) (e : Nat) (v : Repair) : (s.setRepair e v).ports = s.ports := rfl
@[simp] theorem State.setRepair_xbars (s : State) (e : Nat) (v : Repair) : (s.setRepair e v).xbars = s.xbars := rfl
@[simp] theorem State.setRepair_net (s : State) (e : Nat) (v : Repair) : (s.setRepair e v).net = s.net := rfl
@[simp] theorem State.setRepair_chans (s : State) (e : Nat) (v : Repair) : (s.setRepair e v).chans = s.chans := rfl
@[simp] theorem State.setRepair_plaza (s : State) (e : Nat) (v : Repair) : (s.setRepair e v).plaza = s.plaza := rfl
@[simp] theorem State.setRepair_plazaLru (s : State) (e : Nat) (v : Repair) : (s.setRepair e v).plazaLru = s.plazaLru := rfl
@[simp] theorem State.setRepair_order (s : State) (e : Nat) (v : Repair) : (s.setRepair e v).order = s.order := rfl
@[simp] theorem State.setRepair_transit (s : State) (e : Nat) (v : Repair) : (s.setRepair e v).transit = s.transit := rfl
@[simp] theorem State.setRepair_gathers (s : State) (e : Nat) (v : Repair) : (s.setRepair e v).gathers = s.gathers := rfl
@[simp] theorem State.setRepair_samples (s : State) (e : Nat) (v : Repair) : (s.setRepair e v).samples = s.samples := rfl
@[simp] theorem State.setRepair_ledger (s : State) (e : Nat) (v : Repair) : (s.setRepair e v).ledger = s.ledger := rfl
@[simp] theorem State.setRepair_ledgerLru (s : State) (e : Nat) (v : Repair) : (s.setRepair e v).ledgerLru = s.ledgerLru := rfl
@[simp] theorem State.setRepair_found (s : State) (e : Nat) (v : Repair) : (s.setRepair e v).found = s.found := rfl
@[simp] theorem State.setRepair_pinned (s : State) (e : Nat) (v : Repair) : (s.setRepair e v).pinned = s.pinned := rfl
@[simp] theorem State.setRepair_sealedList (s : State) (e : Nat) (v : Repair) : (s.setRepair e v).sealedList = s.sealedList := rfl
@[simp] theorem State.setRepair_sealedFrom (s : State) (e : Nat) (v : Repair) : (s.setRepair e v).sealedFrom = s.sealedFrom := rfl
@[simp] theorem State.setRepair_dram (s : State) (e : Nat) (v : Repair) : (s.setRepair e v).dram = s.dram := rfl
@[simp] theorem State.setRepair_dists (s : State) (e : Nat) (v : Repair) : (s.setRepair e v).dists = s.dists := rfl
@[simp] theorem State.setRepair_keys (s : State) (e : Nat) (v : Repair) : (s.setRepair e v).keys = s.keys := rfl
@[simp] theorem State.setRepair_vault (s : State) (e : Nat) (v : Repair) : (s.setRepair e v).vault = s.vault := rfl
@[simp] theorem State.setRepair_mram (s : State) (e : Nat) (v : Repair) : (s.setRepair e v).mram = s.mram := rfl
@[simp] theorem State.setRepair_mirror (s : State) (e : Nat) (v : Repair) : (s.setRepair e v).mirror = s.mirror := rfl
@[simp] theorem State.setRepair_sup (s : State) (e : Nat) (v : Repair) : (s.setRepair e v).sup = s.sup := rfl
@[simp] theorem State.setRepair_bays (s : State) (e : Nat) (v : Repair) : (s.setRepair e v).bays = s.bays := rfl
@[simp] theorem State.setRepair_ev (s : State) (e : Nat) (v : Repair) : (s.setRepair e v).ev = s.ev := rfl
@[simp] theorem State.setRepair_mgmt (s : State) (e : Nat) (v : Repair) : (s.setRepair e v).mgmt = s.mgmt := rfl
@[simp] theorem State.setRepair_blk (s : State) (e : Nat) (v : Repair) : (s.setRepair e v).blk = s.blk := rfl
@[simp] theorem State.setRepair_objs (s : State) (e : Nat) (v : Repair) : (s.setRepair e v).objs = s.objs := rfl
@[simp] theorem State.setRepair_recs (s : State) (e : Nat) (v : Repair) : (s.setRepair e v).recs = s.recs := rfl
@[simp] theorem State.setRepair_shadowObjs (s : State) (e : Nat) (v : Repair) : (s.setRepair e v).shadowObjs = s.shadowObjs := rfl
@[simp] theorem State.setRepair_freeCtr (s : State) (e : Nat) (v : Repair) : (s.setRepair e v).freeCtr = s.freeCtr := rfl
@[simp] theorem State.setRepair_at_port (s : State) (e : Nat) (v : Repair) (y : Nat) : (s.setRepair e v).port y = s.port y := rfl
@[simp] theorem State.setRepair_at_xbar (s : State) (e : Nat) (v : Repair) (y : Nat) : (s.setRepair e v).xbar y = s.xbar y := rfl
@[simp] theorem State.setRepair_at_chan (s : State) (e : Nat) (v : Repair) (y : Nat) : (s.setRepair e v).chan y = s.chan y := rfl
@[simp] theorem State.setRepair_at_dist (s : State) (e : Nat) (v : Repair) (y : Nat) : (s.setRepair e v).dist y = s.dist y := rfl
@[simp] theorem State.setRepair_at_bay (s : State) (e : Nat) (v : Repair) (y : Nat) : (s.setRepair e v).bay y = s.bay y := rfl
@[simp] theorem State.setRepair_at_sense (s : State) (e : Nat) (v : Repair) (y : Nat) : (s.setRepair e v).sense y = s.sense y := rfl
@[simp] theorem State.setRepair_at_tx (s : State) (e : Nat) (v : Repair) (y : Nat) : (s.setRepair e v).tx y = s.tx y := rfl
@[simp] theorem State.setRepair_at_rx (s : State) (e : Nat) (v : Repair) (y : Nat) : (s.setRepair e v).rx y = s.rx y := rfl
@[simp] theorem State.setRepair_at_link (s : State) (e : Nat) (v : Repair) (y : Nat) : (s.setRepair e v).link y = s.link y := rfl
@[simp] theorem State.setRepair_at_obj (s : State) (e : Nat) (v : Repair) (y z : Nat) : (s.setRepair e v).obj y z = s.obj y z := rfl
@[simp] theorem State.setRepair_at_recN (s : State) (e : Nat) (v : Repair) (y z o n : Nat) : (s.setRepair e v).recN y z o n = s.recN y z o n := rfl
@[simp] theorem State.setRepair_at_now (s : State) (e : Nat) (v : Repair) : (s.setRepair e v).now = s.now := rfl
@[simp] theorem State.setRepair_at_slotNow (s : State) (e : Nat) (v : Repair) : (s.setRepair e v).slotNow = s.slotNow := rfl
@[simp] theorem State.setRepair_at_cycleNow (s : State) (e : Nat) (v : Repair) : (s.setRepair e v).cycleNow = s.cycleNow := rfl
@[simp] theorem State.setRepair_at_stampNow (s : State) (e : Nat) (v : Repair) (y : Nat) : (s.setRepair e v).stampNow y = s.stampNow y := rfl
@[simp] theorem State.setRepair_at_moduleAt (s : State) (e : Nat) (v : Repair) (y : Nat) : (s.setRepair e v).moduleAt y = s.moduleAt y := rfl

/-! ### State.setTx -/

@[simp] theorem State.setTx_pending (s : State) (i : Nat) (v : TxStream) : (s.setTx i v).pending = s.pending := rfl
@[simp] theorem State.setTx_cad (s : State) (i : Nat) (v : TxStream) : (s.setTx i v).cad = s.cad := rfl
@[simp] theorem State.setTx_ports (s : State) (i : Nat) (v : TxStream) : (s.setTx i v).ports = s.ports := rfl
@[simp] theorem State.setTx_xbars (s : State) (i : Nat) (v : TxStream) : (s.setTx i v).xbars = s.xbars := rfl
@[simp] theorem State.setTx_net (s : State) (i : Nat) (v : TxStream) : (s.setTx i v).net = s.net := rfl
@[simp] theorem State.setTx_chans (s : State) (i : Nat) (v : TxStream) : (s.setTx i v).chans = s.chans := rfl
@[simp] theorem State.setTx_plaza (s : State) (i : Nat) (v : TxStream) : (s.setTx i v).plaza = s.plaza := rfl
@[simp] theorem State.setTx_plazaLru (s : State) (i : Nat) (v : TxStream) : (s.setTx i v).plazaLru = s.plazaLru := rfl
@[simp] theorem State.setTx_order (s : State) (i : Nat) (v : TxStream) : (s.setTx i v).order = s.order := rfl
@[simp] theorem State.setTx_transit (s : State) (i : Nat) (v : TxStream) : (s.setTx i v).transit = s.transit := rfl
@[simp] theorem State.setTx_gathers (s : State) (i : Nat) (v : TxStream) : (s.setTx i v).gathers = s.gathers := rfl
@[simp] theorem State.setTx_samples (s : State) (i : Nat) (v : TxStream) : (s.setTx i v).samples = s.samples := rfl
@[simp] theorem State.setTx_ledger (s : State) (i : Nat) (v : TxStream) : (s.setTx i v).ledger = s.ledger := rfl
@[simp] theorem State.setTx_ledgerLru (s : State) (i : Nat) (v : TxStream) : (s.setTx i v).ledgerLru = s.ledgerLru := rfl
@[simp] theorem State.setTx_found (s : State) (i : Nat) (v : TxStream) : (s.setTx i v).found = s.found := rfl
@[simp] theorem State.setTx_pinned (s : State) (i : Nat) (v : TxStream) : (s.setTx i v).pinned = s.pinned := rfl
@[simp] theorem State.setTx_sealedList (s : State) (i : Nat) (v : TxStream) : (s.setTx i v).sealedList = s.sealedList := rfl
@[simp] theorem State.setTx_sealedFrom (s : State) (i : Nat) (v : TxStream) : (s.setTx i v).sealedFrom = s.sealedFrom := rfl
@[simp] theorem State.setTx_dram (s : State) (i : Nat) (v : TxStream) : (s.setTx i v).dram = s.dram := rfl
@[simp] theorem State.setTx_dists (s : State) (i : Nat) (v : TxStream) : (s.setTx i v).dists = s.dists := rfl
@[simp] theorem State.setTx_keys (s : State) (i : Nat) (v : TxStream) : (s.setTx i v).keys = s.keys := rfl
@[simp] theorem State.setTx_vault (s : State) (i : Nat) (v : TxStream) : (s.setTx i v).vault = s.vault := rfl
@[simp] theorem State.setTx_mram (s : State) (i : Nat) (v : TxStream) : (s.setTx i v).mram = s.mram := rfl
@[simp] theorem State.setTx_repair (s : State) (i : Nat) (v : TxStream) : (s.setTx i v).repair = s.repair := rfl
@[simp] theorem State.setTx_sup (s : State) (i : Nat) (v : TxStream) : (s.setTx i v).sup = s.sup := rfl
@[simp] theorem State.setTx_bays (s : State) (i : Nat) (v : TxStream) : (s.setTx i v).bays = s.bays := rfl
@[simp] theorem State.setTx_ev (s : State) (i : Nat) (v : TxStream) : (s.setTx i v).ev = s.ev := rfl
@[simp] theorem State.setTx_mgmt (s : State) (i : Nat) (v : TxStream) : (s.setTx i v).mgmt = s.mgmt := rfl
@[simp] theorem State.setTx_blk (s : State) (i : Nat) (v : TxStream) : (s.setTx i v).blk = s.blk := rfl
@[simp] theorem State.setTx_objs (s : State) (i : Nat) (v : TxStream) : (s.setTx i v).objs = s.objs := rfl
@[simp] theorem State.setTx_recs (s : State) (i : Nat) (v : TxStream) : (s.setTx i v).recs = s.recs := rfl
@[simp] theorem State.setTx_shadowObjs (s : State) (i : Nat) (v : TxStream) : (s.setTx i v).shadowObjs = s.shadowObjs := rfl
@[simp] theorem State.setTx_freeCtr (s : State) (i : Nat) (v : TxStream) : (s.setTx i v).freeCtr = s.freeCtr := rfl
@[simp] theorem State.setTx_mirror_rx (s : State) (i : Nat) (v : TxStream) : (s.setTx i v).mirror.rx = s.mirror.rx := rfl
@[simp] theorem State.setTx_mirror_replay (s : State) (i : Nat) (v : TxStream) : (s.setTx i v).mirror.replay = s.mirror.replay := rfl
@[simp] theorem State.setTx_mirror_ackSeq (s : State) (i : Nat) (v : TxStream) : (s.setTx i v).mirror.ackSeq = s.mirror.ackSeq := rfl
@[simp] theorem State.setTx_mirror_reqSeq (s : State) (i : Nat) (v : TxStream) : (s.setTx i v).mirror.reqSeq = s.mirror.reqSeq := rfl
@[simp] theorem State.setTx_mirror_respSeq (s : State) (i : Nat) (v : TxStream) : (s.setTx i v).mirror.respSeq = s.mirror.respSeq := rfl
@[simp] theorem State.setTx_mirror_helloSeq (s : State) (i : Nat) (v : TxStream) : (s.setTx i v).mirror.helloSeq = s.mirror.helloSeq := rfl
@[simp] theorem State.setTx_mirror_started (s : State) (i : Nat) (v : TxStream) : (s.setTx i v).mirror.started = s.mirror.started := rfl
@[simp] theorem State.setTx_mirror_havePeer (s : State) (i : Nat) (v : TxStream) : (s.setTx i v).mirror.havePeer = s.mirror.havePeer := rfl
@[simp] theorem State.setTx_mirror_lastAck (s : State) (i : Nat) (v : TxStream) : (s.setTx i v).mirror.lastAck = s.mirror.lastAck := rfl
@[simp] theorem State.setTx_mirror_lastHello (s : State) (i : Nat) (v : TxStream) : (s.setTx i v).mirror.lastHello = s.mirror.lastHello := rfl
@[simp] theorem State.setTx_mirror_recent (s : State) (i : Nat) (v : TxStream) : (s.setTx i v).mirror.recent = s.mirror.recent := rfl
@[simp] theorem State.setTx_mirror_peers (s : State) (i : Nat) (v : TxStream) : (s.setTx i v).mirror.peers = s.mirror.peers := rfl
@[simp] theorem State.setTx_mirror_up (s : State) (i : Nat) (v : TxStream) : (s.setTx i v).mirror.up = s.mirror.up := rfl
@[simp] theorem State.setTx_mirror_sent (s : State) (i : Nat) (v : TxStream) : (s.setTx i v).mirror.sent = s.mirror.sent := rfl
@[simp] theorem State.setTx_mirror_reqs (s : State) (i : Nat) (v : TxStream) : (s.setTx i v).mirror.reqs = s.mirror.reqs := rfl
@[simp] theorem State.setTx_mirror_serving (s : State) (i : Nat) (v : TxStream) : (s.setTx i v).mirror.serving = s.mirror.serving := rfl
@[simp] theorem State.setTx_mirror_waits (s : State) (i : Nat) (v : TxStream) : (s.setTx i v).mirror.waits = s.mirror.waits := rfl
@[simp] theorem State.setTx_mirror_recovery (s : State) (i : Nat) (v : TxStream) : (s.setTx i v).mirror.recovery = s.mirror.recovery := rfl
@[simp] theorem State.setTx_at_port (s : State) (i : Nat) (v : TxStream) (y : Nat) : (s.setTx i v).port y = s.port y := rfl
@[simp] theorem State.setTx_at_xbar (s : State) (i : Nat) (v : TxStream) (y : Nat) : (s.setTx i v).xbar y = s.xbar y := rfl
@[simp] theorem State.setTx_at_chan (s : State) (i : Nat) (v : TxStream) (y : Nat) : (s.setTx i v).chan y = s.chan y := rfl
@[simp] theorem State.setTx_at_dist (s : State) (i : Nat) (v : TxStream) (y : Nat) : (s.setTx i v).dist y = s.dist y := rfl
@[simp] theorem State.setTx_at_bay (s : State) (i : Nat) (v : TxStream) (y : Nat) : (s.setTx i v).bay y = s.bay y := rfl
@[simp] theorem State.setTx_at_sense (s : State) (i : Nat) (v : TxStream) (y : Nat) : (s.setTx i v).sense y = s.sense y := rfl
@[simp] theorem State.setTx_at_repairAt (s : State) (i : Nat) (v : TxStream) (y : Nat) : (s.setTx i v).repairAt y = s.repairAt y := rfl
@[simp] theorem State.setTx_at_rx (s : State) (i : Nat) (v : TxStream) (y : Nat) : (s.setTx i v).rx y = s.rx y := rfl
@[simp] theorem State.setTx_at_link (s : State) (i : Nat) (v : TxStream) (y : Nat) : (s.setTx i v).link y = s.link y := rfl
@[simp] theorem State.setTx_at_obj (s : State) (i : Nat) (v : TxStream) (y z : Nat) : (s.setTx i v).obj y z = s.obj y z := rfl
@[simp] theorem State.setTx_at_recN (s : State) (i : Nat) (v : TxStream) (y z o n : Nat) : (s.setTx i v).recN y z o n = s.recN y z o n := rfl
@[simp] theorem State.setTx_at_now (s : State) (i : Nat) (v : TxStream) : (s.setTx i v).now = s.now := rfl
@[simp] theorem State.setTx_at_slotNow (s : State) (i : Nat) (v : TxStream) : (s.setTx i v).slotNow = s.slotNow := rfl
@[simp] theorem State.setTx_at_cycleNow (s : State) (i : Nat) (v : TxStream) : (s.setTx i v).cycleNow = s.cycleNow := rfl
@[simp] theorem State.setTx_at_stampNow (s : State) (i : Nat) (v : TxStream) (y : Nat) : (s.setTx i v).stampNow y = s.stampNow y := rfl
@[simp] theorem State.setTx_at_moduleAt (s : State) (i : Nat) (v : TxStream) (y : Nat) : (s.setTx i v).moduleAt y = s.moduleAt y := rfl

/-! ### State.setRx -/

@[simp] theorem State.setRx_pending (s : State) (i : Nat) (v : RxStream) : (s.setRx i v).pending = s.pending := rfl
@[simp] theorem State.setRx_cad (s : State) (i : Nat) (v : RxStream) : (s.setRx i v).cad = s.cad := rfl
@[simp] theorem State.setRx_ports (s : State) (i : Nat) (v : RxStream) : (s.setRx i v).ports = s.ports := rfl
@[simp] theorem State.setRx_xbars (s : State) (i : Nat) (v : RxStream) : (s.setRx i v).xbars = s.xbars := rfl
@[simp] theorem State.setRx_net (s : State) (i : Nat) (v : RxStream) : (s.setRx i v).net = s.net := rfl
@[simp] theorem State.setRx_chans (s : State) (i : Nat) (v : RxStream) : (s.setRx i v).chans = s.chans := rfl
@[simp] theorem State.setRx_plaza (s : State) (i : Nat) (v : RxStream) : (s.setRx i v).plaza = s.plaza := rfl
@[simp] theorem State.setRx_plazaLru (s : State) (i : Nat) (v : RxStream) : (s.setRx i v).plazaLru = s.plazaLru := rfl
@[simp] theorem State.setRx_order (s : State) (i : Nat) (v : RxStream) : (s.setRx i v).order = s.order := rfl
@[simp] theorem State.setRx_transit (s : State) (i : Nat) (v : RxStream) : (s.setRx i v).transit = s.transit := rfl
@[simp] theorem State.setRx_gathers (s : State) (i : Nat) (v : RxStream) : (s.setRx i v).gathers = s.gathers := rfl
@[simp] theorem State.setRx_samples (s : State) (i : Nat) (v : RxStream) : (s.setRx i v).samples = s.samples := rfl
@[simp] theorem State.setRx_ledger (s : State) (i : Nat) (v : RxStream) : (s.setRx i v).ledger = s.ledger := rfl
@[simp] theorem State.setRx_ledgerLru (s : State) (i : Nat) (v : RxStream) : (s.setRx i v).ledgerLru = s.ledgerLru := rfl
@[simp] theorem State.setRx_found (s : State) (i : Nat) (v : RxStream) : (s.setRx i v).found = s.found := rfl
@[simp] theorem State.setRx_pinned (s : State) (i : Nat) (v : RxStream) : (s.setRx i v).pinned = s.pinned := rfl
@[simp] theorem State.setRx_sealedList (s : State) (i : Nat) (v : RxStream) : (s.setRx i v).sealedList = s.sealedList := rfl
@[simp] theorem State.setRx_sealedFrom (s : State) (i : Nat) (v : RxStream) : (s.setRx i v).sealedFrom = s.sealedFrom := rfl
@[simp] theorem State.setRx_dram (s : State) (i : Nat) (v : RxStream) : (s.setRx i v).dram = s.dram := rfl
@[simp] theorem State.setRx_dists (s : State) (i : Nat) (v : RxStream) : (s.setRx i v).dists = s.dists := rfl
@[simp] theorem State.setRx_keys (s : State) (i : Nat) (v : RxStream) : (s.setRx i v).keys = s.keys := rfl
@[simp] theorem State.setRx_vault (s : State) (i : Nat) (v : RxStream) : (s.setRx i v).vault = s.vault := rfl
@[simp] theorem State.setRx_mram (s : State) (i : Nat) (v : RxStream) : (s.setRx i v).mram = s.mram := rfl
@[simp] theorem State.setRx_repair (s : State) (i : Nat) (v : RxStream) : (s.setRx i v).repair = s.repair := rfl
@[simp] theorem State.setRx_sup (s : State) (i : Nat) (v : RxStream) : (s.setRx i v).sup = s.sup := rfl
@[simp] theorem State.setRx_bays (s : State) (i : Nat) (v : RxStream) : (s.setRx i v).bays = s.bays := rfl
@[simp] theorem State.setRx_ev (s : State) (i : Nat) (v : RxStream) : (s.setRx i v).ev = s.ev := rfl
@[simp] theorem State.setRx_mgmt (s : State) (i : Nat) (v : RxStream) : (s.setRx i v).mgmt = s.mgmt := rfl
@[simp] theorem State.setRx_blk (s : State) (i : Nat) (v : RxStream) : (s.setRx i v).blk = s.blk := rfl
@[simp] theorem State.setRx_objs (s : State) (i : Nat) (v : RxStream) : (s.setRx i v).objs = s.objs := rfl
@[simp] theorem State.setRx_recs (s : State) (i : Nat) (v : RxStream) : (s.setRx i v).recs = s.recs := rfl
@[simp] theorem State.setRx_shadowObjs (s : State) (i : Nat) (v : RxStream) : (s.setRx i v).shadowObjs = s.shadowObjs := rfl
@[simp] theorem State.setRx_freeCtr (s : State) (i : Nat) (v : RxStream) : (s.setRx i v).freeCtr = s.freeCtr := rfl
@[simp] theorem State.setRx_mirror_tx (s : State) (i : Nat) (v : RxStream) : (s.setRx i v).mirror.tx = s.mirror.tx := rfl
@[simp] theorem State.setRx_mirror_replay (s : State) (i : Nat) (v : RxStream) : (s.setRx i v).mirror.replay = s.mirror.replay := rfl
@[simp] theorem State.setRx_mirror_ackSeq (s : State) (i : Nat) (v : RxStream) : (s.setRx i v).mirror.ackSeq = s.mirror.ackSeq := rfl
@[simp] theorem State.setRx_mirror_reqSeq (s : State) (i : Nat) (v : RxStream) : (s.setRx i v).mirror.reqSeq = s.mirror.reqSeq := rfl
@[simp] theorem State.setRx_mirror_respSeq (s : State) (i : Nat) (v : RxStream) : (s.setRx i v).mirror.respSeq = s.mirror.respSeq := rfl
@[simp] theorem State.setRx_mirror_helloSeq (s : State) (i : Nat) (v : RxStream) : (s.setRx i v).mirror.helloSeq = s.mirror.helloSeq := rfl
@[simp] theorem State.setRx_mirror_started (s : State) (i : Nat) (v : RxStream) : (s.setRx i v).mirror.started = s.mirror.started := rfl
@[simp] theorem State.setRx_mirror_havePeer (s : State) (i : Nat) (v : RxStream) : (s.setRx i v).mirror.havePeer = s.mirror.havePeer := rfl
@[simp] theorem State.setRx_mirror_lastAck (s : State) (i : Nat) (v : RxStream) : (s.setRx i v).mirror.lastAck = s.mirror.lastAck := rfl
@[simp] theorem State.setRx_mirror_lastHello (s : State) (i : Nat) (v : RxStream) : (s.setRx i v).mirror.lastHello = s.mirror.lastHello := rfl
@[simp] theorem State.setRx_mirror_recent (s : State) (i : Nat) (v : RxStream) : (s.setRx i v).mirror.recent = s.mirror.recent := rfl
@[simp] theorem State.setRx_mirror_peers (s : State) (i : Nat) (v : RxStream) : (s.setRx i v).mirror.peers = s.mirror.peers := rfl
@[simp] theorem State.setRx_mirror_up (s : State) (i : Nat) (v : RxStream) : (s.setRx i v).mirror.up = s.mirror.up := rfl
@[simp] theorem State.setRx_mirror_sent (s : State) (i : Nat) (v : RxStream) : (s.setRx i v).mirror.sent = s.mirror.sent := rfl
@[simp] theorem State.setRx_mirror_reqs (s : State) (i : Nat) (v : RxStream) : (s.setRx i v).mirror.reqs = s.mirror.reqs := rfl
@[simp] theorem State.setRx_mirror_serving (s : State) (i : Nat) (v : RxStream) : (s.setRx i v).mirror.serving = s.mirror.serving := rfl
@[simp] theorem State.setRx_mirror_waits (s : State) (i : Nat) (v : RxStream) : (s.setRx i v).mirror.waits = s.mirror.waits := rfl
@[simp] theorem State.setRx_mirror_recovery (s : State) (i : Nat) (v : RxStream) : (s.setRx i v).mirror.recovery = s.mirror.recovery := rfl
@[simp] theorem State.setRx_at_port (s : State) (i : Nat) (v : RxStream) (y : Nat) : (s.setRx i v).port y = s.port y := rfl
@[simp] theorem State.setRx_at_xbar (s : State) (i : Nat) (v : RxStream) (y : Nat) : (s.setRx i v).xbar y = s.xbar y := rfl
@[simp] theorem State.setRx_at_chan (s : State) (i : Nat) (v : RxStream) (y : Nat) : (s.setRx i v).chan y = s.chan y := rfl
@[simp] theorem State.setRx_at_dist (s : State) (i : Nat) (v : RxStream) (y : Nat) : (s.setRx i v).dist y = s.dist y := rfl
@[simp] theorem State.setRx_at_bay (s : State) (i : Nat) (v : RxStream) (y : Nat) : (s.setRx i v).bay y = s.bay y := rfl
@[simp] theorem State.setRx_at_sense (s : State) (i : Nat) (v : RxStream) (y : Nat) : (s.setRx i v).sense y = s.sense y := rfl
@[simp] theorem State.setRx_at_repairAt (s : State) (i : Nat) (v : RxStream) (y : Nat) : (s.setRx i v).repairAt y = s.repairAt y := rfl
@[simp] theorem State.setRx_at_tx (s : State) (i : Nat) (v : RxStream) (y : Nat) : (s.setRx i v).tx y = s.tx y := rfl
@[simp] theorem State.setRx_at_link (s : State) (i : Nat) (v : RxStream) (y : Nat) : (s.setRx i v).link y = s.link y := rfl
@[simp] theorem State.setRx_at_obj (s : State) (i : Nat) (v : RxStream) (y z : Nat) : (s.setRx i v).obj y z = s.obj y z := rfl
@[simp] theorem State.setRx_at_recN (s : State) (i : Nat) (v : RxStream) (y z o n : Nat) : (s.setRx i v).recN y z o n = s.recN y z o n := rfl
@[simp] theorem State.setRx_at_now (s : State) (i : Nat) (v : RxStream) : (s.setRx i v).now = s.now := rfl
@[simp] theorem State.setRx_at_slotNow (s : State) (i : Nat) (v : RxStream) : (s.setRx i v).slotNow = s.slotNow := rfl
@[simp] theorem State.setRx_at_cycleNow (s : State) (i : Nat) (v : RxStream) : (s.setRx i v).cycleNow = s.cycleNow := rfl
@[simp] theorem State.setRx_at_stampNow (s : State) (i : Nat) (v : RxStream) (y : Nat) : (s.setRx i v).stampNow y = s.stampNow y := rfl
@[simp] theorem State.setRx_at_moduleAt (s : State) (i : Nat) (v : RxStream) (y : Nat) : (s.setRx i v).moduleAt y = s.moduleAt y := rfl

/-! ### State.setLink -/

@[simp] theorem State.setLink_pending (s : State) (l : Nat) (v : Link) : (s.setLink l v).pending = s.pending := rfl
@[simp] theorem State.setLink_cad (s : State) (l : Nat) (v : Link) : (s.setLink l v).cad = s.cad := rfl
@[simp] theorem State.setLink_ports (s : State) (l : Nat) (v : Link) : (s.setLink l v).ports = s.ports := rfl
@[simp] theorem State.setLink_xbars (s : State) (l : Nat) (v : Link) : (s.setLink l v).xbars = s.xbars := rfl
@[simp] theorem State.setLink_net (s : State) (l : Nat) (v : Link) : (s.setLink l v).net = s.net := rfl
@[simp] theorem State.setLink_chans (s : State) (l : Nat) (v : Link) : (s.setLink l v).chans = s.chans := rfl
@[simp] theorem State.setLink_plaza (s : State) (l : Nat) (v : Link) : (s.setLink l v).plaza = s.plaza := rfl
@[simp] theorem State.setLink_plazaLru (s : State) (l : Nat) (v : Link) : (s.setLink l v).plazaLru = s.plazaLru := rfl
@[simp] theorem State.setLink_order (s : State) (l : Nat) (v : Link) : (s.setLink l v).order = s.order := rfl
@[simp] theorem State.setLink_transit (s : State) (l : Nat) (v : Link) : (s.setLink l v).transit = s.transit := rfl
@[simp] theorem State.setLink_gathers (s : State) (l : Nat) (v : Link) : (s.setLink l v).gathers = s.gathers := rfl
@[simp] theorem State.setLink_samples (s : State) (l : Nat) (v : Link) : (s.setLink l v).samples = s.samples := rfl
@[simp] theorem State.setLink_ledger (s : State) (l : Nat) (v : Link) : (s.setLink l v).ledger = s.ledger := rfl
@[simp] theorem State.setLink_ledgerLru (s : State) (l : Nat) (v : Link) : (s.setLink l v).ledgerLru = s.ledgerLru := rfl
@[simp] theorem State.setLink_found (s : State) (l : Nat) (v : Link) : (s.setLink l v).found = s.found := rfl
@[simp] theorem State.setLink_pinned (s : State) (l : Nat) (v : Link) : (s.setLink l v).pinned = s.pinned := rfl
@[simp] theorem State.setLink_sealedList (s : State) (l : Nat) (v : Link) : (s.setLink l v).sealedList = s.sealedList := rfl
@[simp] theorem State.setLink_sealedFrom (s : State) (l : Nat) (v : Link) : (s.setLink l v).sealedFrom = s.sealedFrom := rfl
@[simp] theorem State.setLink_dram (s : State) (l : Nat) (v : Link) : (s.setLink l v).dram = s.dram := rfl
@[simp] theorem State.setLink_dists (s : State) (l : Nat) (v : Link) : (s.setLink l v).dists = s.dists := rfl
@[simp] theorem State.setLink_keys (s : State) (l : Nat) (v : Link) : (s.setLink l v).keys = s.keys := rfl
@[simp] theorem State.setLink_vault (s : State) (l : Nat) (v : Link) : (s.setLink l v).vault = s.vault := rfl
@[simp] theorem State.setLink_mram (s : State) (l : Nat) (v : Link) : (s.setLink l v).mram = s.mram := rfl
@[simp] theorem State.setLink_repair (s : State) (l : Nat) (v : Link) : (s.setLink l v).repair = s.repair := rfl
@[simp] theorem State.setLink_mirror (s : State) (l : Nat) (v : Link) : (s.setLink l v).mirror = s.mirror := rfl
@[simp] theorem State.setLink_sup (s : State) (l : Nat) (v : Link) : (s.setLink l v).sup = s.sup := rfl
@[simp] theorem State.setLink_bays (s : State) (l : Nat) (v : Link) : (s.setLink l v).bays = s.bays := rfl
@[simp] theorem State.setLink_ev (s : State) (l : Nat) (v : Link) : (s.setLink l v).ev = s.ev := rfl
@[simp] theorem State.setLink_blk (s : State) (l : Nat) (v : Link) : (s.setLink l v).blk = s.blk := rfl
@[simp] theorem State.setLink_objs (s : State) (l : Nat) (v : Link) : (s.setLink l v).objs = s.objs := rfl
@[simp] theorem State.setLink_recs (s : State) (l : Nat) (v : Link) : (s.setLink l v).recs = s.recs := rfl
@[simp] theorem State.setLink_shadowObjs (s : State) (l : Nat) (v : Link) : (s.setLink l v).shadowObjs = s.shadowObjs := rfl
@[simp] theorem State.setLink_freeCtr (s : State) (l : Nat) (v : Link) : (s.setLink l v).freeCtr = s.freeCtr := rfl
@[simp] theorem State.setLink_mgmt_winStatus (s : State) (l : Nat) (v : Link) : (s.setLink l v).mgmt.winStatus = s.mgmt.winStatus := rfl
@[simp] theorem State.setLink_mgmt_winLength (s : State) (l : Nat) (v : Link) : (s.setLink l v).mgmt.winLength = s.mgmt.winLength := rfl
@[simp] theorem State.setLink_mgmt_winBuf (s : State) (l : Nat) (v : Link) : (s.setLink l v).mgmt.winBuf = s.mgmt.winBuf := rfl
@[simp] theorem State.setLink_mgmt_staged (s : State) (l : Nat) (v : Link) : (s.setLink l v).mgmt.staged = s.mgmt.staged := rfl
@[simp] theorem State.setLink_mgmt_stagedRecs (s : State) (l : Nat) (v : Link) : (s.setLink l v).mgmt.stagedRecs = s.mgmt.stagedRecs := rfl
@[simp] theorem State.setLink_mgmt_stagedKeys (s : State) (l : Nat) (v : Link) : (s.setLink l v).mgmt.stagedKeys = s.mgmt.stagedKeys := rfl
@[simp] theorem State.setLink_mgmt_owner (s : State) (l : Nat) (v : Link) : (s.setLink l v).mgmt.owner = s.mgmt.owner := rfl
@[simp] theorem State.setLink_mgmt_pendingFrame (s : State) (l : Nat) (v : Link) : (s.setLink l v).mgmt.pendingFrame = s.mgmt.pendingFrame := rfl
@[simp] theorem State.setLink_mgmt_hdrMode (s : State) (l : Nat) (v : Link) : (s.setLink l v).mgmt.hdrMode = s.mgmt.hdrMode := rfl
@[simp] theorem State.setLink_mgmt_crcSeen (s : State) (l : Nat) (v : Link) : (s.setLink l v).mgmt.crcSeen = s.mgmt.crcSeen := rfl
@[simp] theorem State.setLink_mgmt_cccOut (s : State) (l : Nat) (v : Link) : (s.setLink l v).mgmt.cccOut = s.mgmt.cccOut := rfl
@[simp] theorem State.setLink_mgmt_i3cOut (s : State) (l : Nat) (v : Link) : (s.setLink l v).mgmt.i3cOut = s.mgmt.i3cOut := rfl
@[simp] theorem State.setLink_mgmt_memBusy (s : State) (l : Nat) (v : Link) : (s.setLink l v).mgmt.memBusy = s.mgmt.memBusy := rfl
@[simp] theorem State.setLink_mgmt_locked (s : State) (l : Nat) (v : Link) : (s.setLink l v).mgmt.locked = s.mgmt.locked := rfl
@[simp] theorem State.setLink_mgmt_profiles (s : State) (l : Nat) (v : Link) : (s.setLink l v).mgmt.profiles = s.mgmt.profiles := rfl
@[simp] theorem State.setLink_mgmt_snapArmed (s : State) (l : Nat) (v : Link) : (s.setLink l v).mgmt.snapArmed = s.mgmt.snapArmed := rfl
@[simp] theorem State.setLink_at_port (s : State) (l : Nat) (v : Link) (y : Nat) : (s.setLink l v).port y = s.port y := rfl
@[simp] theorem State.setLink_at_xbar (s : State) (l : Nat) (v : Link) (y : Nat) : (s.setLink l v).xbar y = s.xbar y := rfl
@[simp] theorem State.setLink_at_chan (s : State) (l : Nat) (v : Link) (y : Nat) : (s.setLink l v).chan y = s.chan y := rfl
@[simp] theorem State.setLink_at_dist (s : State) (l : Nat) (v : Link) (y : Nat) : (s.setLink l v).dist y = s.dist y := rfl
@[simp] theorem State.setLink_at_bay (s : State) (l : Nat) (v : Link) (y : Nat) : (s.setLink l v).bay y = s.bay y := rfl
@[simp] theorem State.setLink_at_sense (s : State) (l : Nat) (v : Link) (y : Nat) : (s.setLink l v).sense y = s.sense y := rfl
@[simp] theorem State.setLink_at_repairAt (s : State) (l : Nat) (v : Link) (y : Nat) : (s.setLink l v).repairAt y = s.repairAt y := rfl
@[simp] theorem State.setLink_at_tx (s : State) (l : Nat) (v : Link) (y : Nat) : (s.setLink l v).tx y = s.tx y := rfl
@[simp] theorem State.setLink_at_rx (s : State) (l : Nat) (v : Link) (y : Nat) : (s.setLink l v).rx y = s.rx y := rfl
@[simp] theorem State.setLink_at_obj (s : State) (l : Nat) (v : Link) (y z : Nat) : (s.setLink l v).obj y z = s.obj y z := rfl
@[simp] theorem State.setLink_at_recN (s : State) (l : Nat) (v : Link) (y z o n : Nat) : (s.setLink l v).recN y z o n = s.recN y z o n := rfl
@[simp] theorem State.setLink_at_now (s : State) (l : Nat) (v : Link) : (s.setLink l v).now = s.now := rfl
@[simp] theorem State.setLink_at_slotNow (s : State) (l : Nat) (v : Link) : (s.setLink l v).slotNow = s.slotNow := rfl
@[simp] theorem State.setLink_at_cycleNow (s : State) (l : Nat) (v : Link) : (s.setLink l v).cycleNow = s.cycleNow := rfl
@[simp] theorem State.setLink_at_stampNow (s : State) (l : Nat) (v : Link) (y : Nat) : (s.setLink l v).stampNow y = s.stampNow y := rfl
@[simp] theorem State.setLink_at_moduleAt (s : State) (l : Nat) (v : Link) (y : Nat) : (s.setLink l v).moduleAt y = s.moduleAt y := rfl

/-! ### What an update is read back as -/

@[simp] theorem State.setPort_same (s : State) (p : Nat) (v : Port) : (s.setPort p v).port p = v := by
  simp [State.setPort, State.port]
theorem State.setPort_ne (s : State) (p q : Nat) (v : Port) (h : q ≠ p) : (s.setPort p v).port q = s.port q := by
  simp only [State.setPort, State.port]; exact tget_tput_ne _ _ _ _ _ _ h
@[simp] theorem State.modPort_same (s : State) (p : Nat) (f : Port → Port) : (s.modPort p f).port p = f (s.port p) := by
  simp [State.modPort]
theorem State.modPort_ne (s : State) (p q : Nat) (f : Port → Port) (h : q ≠ p) : (s.modPort p f).port q = s.port q :=
  State.setPort_ne s p q _ h
@[simp] theorem State.setXbar_same (s : State) (p : Nat) (v : Xbar) : (s.setXbar p v).xbar p = v := by
  simp [State.setXbar, State.xbar]
theorem State.setXbar_ne (s : State) (p q : Nat) (v : Xbar) (h : q ≠ p) : (s.setXbar p v).xbar q = s.xbar q := by
  simp only [State.setXbar, State.xbar]; exact tget_tput_ne _ _ _ _ _ _ h
@[simp] theorem State.setChan_same (s : State) (p : Nat) (v : Chan) : (s.setChan p v).chan p = v := by
  simp [State.setChan, State.chan]
theorem State.setChan_ne (s : State) (p q : Nat) (v : Chan) (h : q ≠ p) : (s.setChan p v).chan q = s.chan q := by
  simp only [State.setChan, State.chan]; exact tget_tput_ne _ _ _ _ _ _ h
@[simp] theorem State.modChan_same (s : State) (p : Nat) (f : Chan → Chan) : (s.modChan p f).chan p = f (s.chan p) := by
  simp [State.modChan]
theorem State.modChan_ne (s : State) (p q : Nat) (f : Chan → Chan) (h : q ≠ p) : (s.modChan p f).chan q = s.chan q :=
  State.setChan_ne s p q _ h
@[simp] theorem State.setDist_same (s : State) (p : Nat) (v : District) : (s.setDist p v).dist p = v := by
  simp [State.setDist, State.dist]
theorem State.setDist_ne (s : State) (p q : Nat) (v : District) (h : q ≠ p) : (s.setDist p v).dist q = s.dist q := by
  simp only [State.setDist, State.dist]; exact tget_tput_ne _ _ _ _ _ _ h
@[simp] theorem State.modDist_same (s : State) (p : Nat) (f : District → District) : (s.modDist p f).dist p = f (s.dist p) := by
  simp [State.modDist]
theorem State.modDist_ne (s : State) (p q : Nat) (f : District → District) (h : q ≠ p) : (s.modDist p f).dist q = s.dist q :=
  State.setDist_ne s p q _ h
@[simp] theorem State.setBay_same (s : State) (p : Nat) (v : Bay) : (s.setBay p v).bay p = v := by
  simp [State.setBay, State.bay]
theorem State.setBay_ne (s : State) (p q : Nat) (v : Bay) (h : q ≠ p) : (s.setBay p v).bay q = s.bay q := by
  simp only [State.setBay, State.bay]; exact tget_tput_ne _ _ _ _ _ _ h
@[simp] theorem State.modBay_same (s : State) (p : Nat) (f : Bay → Bay) : (s.modBay p f).bay p = f (s.bay p) := by
  simp [State.modBay]
theorem State.modBay_ne (s : State) (p q : Nat) (f : Bay → Bay) (h : q ≠ p) : (s.modBay p f).bay q = s.bay q :=
  State.setBay_ne s p q _ h
@[simp] theorem State.setRepair_same (s : State) (p : Nat) (v : Repair) : (s.setRepair p v).repairAt p = v := by
  simp [State.setRepair, State.repairAt]
theorem State.setRepair_ne (s : State) (p q : Nat) (v : Repair) (h : q ≠ p) : (s.setRepair p v).repairAt q = s.repairAt q := by
  simp only [State.setRepair, State.repairAt]; exact tget_tput_ne _ _ _ _ _ _ h
@[simp] theorem State.setSense_same (s : State) (p : Nat) (v : Sense) : (s.setSense p v).sense p = v := by
  simp [State.setSense, State.sense]
theorem State.setSense_ne (s : State) (p q : Nat) (v : Sense) (h : q ≠ p) : (s.setSense p v).sense q = s.sense q := by
  simp only [State.setSense, State.sense]; exact tget_tput_ne _ _ _ _ _ _ h
@[simp] theorem State.setTx_same (s : State) (p : Nat) (v : TxStream) : (s.setTx p v).tx p = v := by
  simp [State.setTx, State.tx]
theorem State.setTx_ne (s : State) (p q : Nat) (v : TxStream) (h : q ≠ p) : (s.setTx p v).tx q = s.tx q := by
  simp only [State.setTx, State.tx]; exact tget_tput_ne _ _ _ _ _ _ h
@[simp] theorem State.setRx_same (s : State) (p : Nat) (v : RxStream) : (s.setRx p v).rx p = v := by
  simp [State.setRx, State.rx]
theorem State.setRx_ne (s : State) (p q : Nat) (v : RxStream) (h : q ≠ p) : (s.setRx p v).rx q = s.rx q := by
  simp only [State.setRx, State.rx]; exact tget_tput_ne _ _ _ _ _ _ h
@[simp] theorem State.setLink_same (s : State) (p : Nat) (v : Link) : (s.setLink p v).link p = v := by
  simp [State.setLink, State.link]
theorem State.setLink_ne (s : State) (p q : Nat) (v : Link) (h : q ≠ p) : (s.setLink p v).link q = s.link q := by
  simp only [State.setLink, State.link]; exact tget_tput_ne _ _ _ _ _ _ h

/-- Two objects with subindices below 256 share a home only where they are the same object. -/
theorem objKey_inj (i k i' k' : Nat) (hk : k < 256) (hk' : k' < 256) (h : objKey i k = objKey i' k') : i = i' ∧ k = k' := by
  unfold objKey at h; omega
@[simp] theorem State.setObj_same (s : State) (i k v : Nat) : (s.setObj i k v).obj i k = v := by
  simp [State.setObj, State.obj]
theorem State.setObj_ne (s : State) (i k v i' k' : Nat) (h : objKey i' k' ≠ objKey i k) :
    (s.setObj i k v).obj i' k' = s.obj i' k' := by
  simp only [State.setObj, State.obj]; exact tget_tput_ne _ _ _ _ _ _ h
theorem State.addObj_ne (s : State) (i k v i' k' : Nat) (h : objKey i' k' ≠ objKey i k) :
    (s.addObj i k v).obj i' k' = s.obj i' k' := State.setObj_ne s i k _ i' k' h
@[simp] theorem State.addObj_same (s : State) (i k v : Nat) :
    (s.addObj i k v).obj i k = min (s.obj i k + v) (objMax i k) := by simp [State.addObj]
theorem State.setObjBit_ne (s : State) (i k j : Nat) (b : Bool) (i' k' : Nat) (h : objKey i' k' ≠ objKey i k) :
    (s.setObjBit i k j b).obj i' k' = s.obj i' k' := State.setObj_ne s i k _ i' k' h
@[simp] theorem State.setObjBit_same (s : State) (i k j : Nat) (b : Bool) :
    (s.setObjBit i k j b).obj i k = setBit (s.obj i k) j b := by simp [State.setObjBit]
@[simp] theorem voteCount_same (c : Count) : voteCount c c c = c := by simp [voteCount]
@[simp] theorem State.setNow_now (s : State) (c : Count) : (s.setNow c).now = c := by simp [State.setNow, State.now]
@[simp] theorem bit_setBit (v i : Nat) (b : Bool) : bit (setBit v i b) i = b := by
  unfold setBit
  split
  · assumption
  · rename_i h
    split
    · rename_i hb
      have hv : v.testBit i = false := by
        cases hx : v.testBit i with
        | false => rfl
        | true => exact absurd (by simp [bit, hx, hb]) h
      simp only [bit, hb]
      rw [Nat.add_comm, Nat.testBit_two_pow_add_eq]; simp [hv]
    · rename_i hb
      have hv : v.testBit i = true := by
        cases hx : v.testBit i with
        | true => rfl
        | false => exact absurd (by simp [bit, hx]; simpa using hb) h
      have hle : 2 ^ i ≤ v := Nat.ge_two_pow_of_testBit hv
      have : v.testBit i = !((v - 2 ^ i).testBit i) := by
        conv_lhs => rw [← Nat.sub_add_cancel hle]
        rw [Nat.add_comm, Nat.testBit_two_pow_add_eq]
      simp only [bit]
      simp only [hv] at this
      cases b with
      | true => exact absurd rfl hb
      | false => simpa using this.symm

end Sys2Proof.Machine
end

