-- ==== Sys2Proof/Laws/Events.lean ====
section
/-! SUPPORT. What raising an event and counting can do: they write the event objects, the counters that select what
happened, the event unit, the event log in MRAM and the counter of free values, and nothing else (R380-R392). -/

namespace Sys2Proof.Machine

/-- The objects raising an event may write: those of the event sources, EventsLost, and the counters of a channel, a port and
a Crossing (R380, R385, R389). -/
def evKey (i k : Nat) : Bool :=
  decide ((0x8000 ≤ i ∧ i < 0x8200) ∨ (i = 0x5102 ∧ k = 0x30) ∨
    (i % 256 = 0x60 ∧ 0x3000 ≤ i ∧ i < 0x4000 ∧ 0x11 ≤ k ∧ k ≤ 0x18) ∨
    (0x2200 ≤ i ∧ i < 0x2270 ∧ 0x48 ≤ k ∧ k ≤ 0x4B) ∨
    (0x4000 ≤ i ∧ i < 0x4040 ∧ 0x38 ≤ k ∧ k ≤ 0x39))

/-- Only objects, the event unit, MRAM and the counter of free values differ. -/
def EvForm (s t : State) : Prop := ∃ o e m f, t = { s with objs := o, ev := e, mram := m, freeCtr := f }

/-- The objects outside those of `evKey` read as before. -/
def EvObjs (s t : State) : Prop := ∀ i k, k < 256 → evKey i k = false → t.obj i k = s.obj i k

/-- What a raise does: the form, the objects, and MRAM kept canonical. -/
def EvOnly (s t : State) : Prop := EvForm s t ∧ EvObjs s t ∧ (Memory.wf s.mram = true → Memory.wf t.mram = true)

theorem EvForm.refl (s : State) : EvForm s s := ⟨s.objs, s.ev, s.mram, s.freeCtr, rfl⟩
theorem EvForm.trans {s t u : State} (h : EvForm s t) (h' : EvForm t u) : EvForm s u := by
  obtain ⟨o, e, m, f, rfl⟩ := h
  obtain ⟨o', e', m', f', rfl⟩ := h'
  exact ⟨o', e', m', f', rfl⟩
theorem EvOnly.refl (s : State) : EvOnly s s := ⟨EvForm.refl s, fun _ _ _ _ => rfl, id⟩
theorem EvOnly.trans {s t u : State} (h : EvOnly s t) (h' : EvOnly t u) : EvOnly s u :=
  ⟨h.1.trans h'.1, fun i k hk he => (h'.2.1 i k hk he).trans (h.2.1 i k hk he), fun w => h'.2.2 (h.2.2 w)⟩

theorem EvForm.setObj (s : State) (i k v : Nat) : EvForm s (s.setObj i k v) := ⟨_, s.ev, s.mram, s.freeCtr, rfl⟩
theorem EvForm.addObj (s : State) (i k v : Nat) : EvForm s (s.addObj i k v) := ⟨_, s.ev, s.mram, s.freeCtr, rfl⟩
theorem EvForm.setObjBit (s : State) (i k j : Nat) (b : Bool) : EvForm s (s.setObjBit i k j b) := ⟨_, s.ev, s.mram, s.freeCtr, rfl⟩

theorem EvOnly.setObj (s : State) (i k v : Nat) (hk : k < 256) (h : evKey i k = true) : EvOnly s (s.setObj i k v) := by
  refine ⟨EvForm.setObj s i k v, fun i' k' hk' h' => State.setObj_ne s i k v i' k' ?_, id⟩
  intro e
  obtain ⟨rfl, rfl⟩ := objKey_inj _ _ _ _ hk' hk e
  simp [h] at h'

theorem EvOnly.addObj (s : State) (i k v : Nat) (hk : k < 256) (h : evKey i k = true) : EvOnly s (s.addObj i k v) :=
  EvOnly.setObj s i k _ hk h

/-- Changes of the event unit and of the counter of free values. -/
theorem EvOnly.ev (s : State) (e : Ev) (f : Nat) : EvOnly s { s with ev := e, freeCtr := f } :=
  ⟨⟨s.objs, e, s.mram, f, rfl⟩, fun _ _ _ _ => rfl, id⟩
theorem EvOnly.evOnly (s : State) (e : Ev) : EvOnly s { s with ev := e } := EvOnly.ev s e s.freeCtr

theorem EvOnly.foldl {γ : Type} (f : State → γ → State) (l : List γ) (s : State) (h : ∀ t c, c ∈ l → EvOnly t (f t c)) :
    EvOnly s (l.foldl f s) :=
  foldl_keeps (fun t => EvOnly s t) f l s (EvOnly.refl s) (fun t c hc ht => ht.trans (h t c hc))

theorem EvOnly.forN (n : Nat) (f : Nat → State → State) (s : State) (h : ∀ i t, EvOnly t (f i t)) :
    EvOnly s (forN n s f) := EvOnly.foldl _ _ s (fun t c _ => h c t)

theorem EvOnly.ite {s a b : State} {c : Prop} [Decidable c] (ha : EvOnly s a) (hb : EvOnly s b) :
    EvOnly s (if c then a else b) := by split <;> assumption

theorem evtSync_only (s : State) : EvOnly s (evtSync s) := by
  unfold evtSync
  split
  · exact EvOnly.evOnly s _
  · split
    · exact EvOnly.ev s _ _
    · exact EvOnly.refl s

theorem evtTick_only (s : State) : EvOnly s (evtTick s) := by
  unfold evtTick
  split
  · exact EvOnly.refl s
  · split <;> exact EvOnly.evOnly s _

theorem evWrite_only (e : EvEntry) (s : State) : EvOnly s (evWrite e s).1 := by
  unfold evWrite
  split
  · exact EvOnly.evOnly s _
  · exact (EvOnly.addObj s 0x5102 0x30 1 (by decide) (by decide)).trans (EvOnly.evOnly _ _)

theorem evEnqueue_only (e : EvEntry) (s : State) : EvOnly s (evEnqueue e s).1 := by
  unfold evEnqueue
  simp only
  split
  · split
    · exact evWrite_only e s
    · exact (evWrite_only e s).trans (EvOnly.evOnly _ _)
  · split
    · exact EvOnly.evOnly s _
    · exact (EvOnly.addObj s 0x5102 0x30 1 (by decide) (by decide)).trans (EvOnly.evOnly _ _)

theorem logWrite_only (e : EvEntry) (s : State) : EvOnly s (logWrite e s) := by
  unfold logWrite
  simp only
  repeat' (first
    | exact EvOnly.refl s
    | exact ⟨⟨s.objs, _, _, s.freeCtr, rfl⟩, fun _ _ _ _ => rfl, fun w => Memory.wf_sbN _ _ _ w⟩
    | split)

theorem ite_fst_eq (c : Prop) [Decidable c] (a b : Nat × Nat) (x : Nat) :
    (if c then a else b).1 = x ↔ (c ∧ a.1 = x) ∨ (¬c ∧ b.1 = x) := by split <;> simp_all

/-- Page 0x3060 holds the counters of the channels only, 0x2200 those of the ports, 0x4000 those of the Crossings. -/
theorem pageOf_chan (i : Nat) (h : (pageOf i).1 = 0x3060) : i % 256 = 0x60 ∧ 0x3000 ≤ i ∧ i < 0x4000 := by
  unfold pageOf at h; simp only [ite_fst_eq] at h; omega
theorem pageOf_port (i : Nat) (h : (pageOf i).1 = 0x2200) : 0x2200 ≤ i ∧ i < 0x2270 := by
  unfold pageOf at h; simp only [ite_fst_eq] at h; omega
theorem pageOf_crossing (i : Nat) (h : (pageOf i).1 = 0x4000) : 0x4000 ≤ i ∧ i < 0x4040 := by
  unfold pageOf at h; simp only [ite_fst_eq] at h; omega

theorem countSource_only (n : Nat) (s : State) : EvOnly s (countSource n s) := by
  unfold countSource
  refine EvOnly.foldl _ _ s (fun t e _ => ?_)
  simp only
  split
  · split
    · rename_i h
      simp only [Bool.and_eq_true, decide_eq_true_eq] at h
      obtain ⟨a, b, c⟩ := pageOf_chan _ h.1.1
      exact EvOnly.addObj _ _ _ _ (by omega) (by unfold evKey; exact decide_eq_true (by omega))
    · split
      · rename_i h
        simp only [Bool.and_eq_true, decide_eq_true_eq] at h
        obtain ⟨a, b⟩ := pageOf_port _ h.1.1
        exact EvOnly.addObj _ _ _ _ (by omega) (by unfold evKey; exact decide_eq_true (by omega))
      · split
        · rename_i h
          simp only [Bool.and_eq_true, decide_eq_true_eq] at h
          obtain ⟨a, b⟩ := pageOf_crossing _ h.1.1
          exact EvOnly.addObj _ _ _ _ (by omega) (by unfold evKey; exact decide_eq_true (by omega))
        · exact EvOnly.refl _
  · exact EvOnly.refl _

theorem evKey_source (n k : Nat) (h : n < 512) : evKey (evIdx n) k = true := by
  unfold evKey evIdx; exact decide_eq_true (by omega)

theorem markRaise_only (n sev port : Nat) (b : Bool) (s : State) (h : n < 512) : EvOnly s (markRaise n sev port b s) := by
  have k := fun j => evKey_source n j h
  have base : EvOnly s (((countSource n s).addObj (evIdx n) 4 1).setObj (evIdx n) 6 (s.stampNow port).word) :=
    ((countSource_only n s).trans (EvOnly.addObj _ _ _ _ (by decide) (k 4))).trans (EvOnly.setObj _ _ _ _ (by decide) (k 6))
  have h1 : ∀ (b : Bool) (u : State), EvOnly u (if b = true then u.setObj (evIdx n) 5 1 else u) :=
    fun b u => by cases b; exacts [EvOnly.refl u, EvOnly.setObj u _ _ _ (by decide) (k 5)]
  have h2 : ∀ (b : Bool) (u : State) (e : Ev), EvOnly u (if b = true then { u with ev := e } else u) :=
    fun b u e => by cases b; exacts [EvOnly.refl u, EvOnly.evOnly u e]
  exact (base.trans (h1 _ _)).trans (h2 _ _ _)

theorem routeRaise_only (n sev detail port : Nat) (b : Bool) (s : State) : EvOnly s (routeRaise n sev detail port b s).1 := by
  have h2 : ∀ (b : Bool) (u : State) (e : Ev), EvOnly u (if b = true then { u with ev := e } else u) :=
    fun b u e => by cases b; exacts [EvOnly.refl u, EvOnly.evOnly u e]
  have h3 : ∀ (b : Bool) (u : State) (e : EvEntry), EvOnly u (if b = true then logWrite e u else u) :=
    fun b u e => by cases b; exacts [EvOnly.refl u, logWrite_only e u]
  have h4 : ∀ (b : Bool) (u : State) (e : EvEntry), EvOnly u (if b = true then evEnqueue e u else (u, false)).1 :=
    fun b u e => by cases b; exacts [EvOnly.refl u, evEnqueue_only e u]
  exact ((h2 _ _ _).trans (h3 _ _ _)).trans (h4 _ _ _)

theorem raiseOne_only (n fixed detail port : Nat) (s : State) (h : n < 512) :
    EvOnly s (raiseOne n fixed detail port s).1 := by
  unfold raiseOne
  simp only
  split
  · exact (markRaise_only n _ _ _ s h).trans (evtSync_only _)
  · exact ((markRaise_only n _ _ _ s h).trans (routeRaise_only ..)).trans (evtSync_only _)

/-- Raising an event does what `EvOnly` says. -/
theorem raiseFull_only (n fixed detail port : Nat) (s : State) : EvOnly s (raiseFull n fixed detail port s) := by
  unfold raiseFull
  split
  · exact EvOnly.refl s
  · rename_i h
    have h : n < 512 := by simp at h; omega
    simp only
    split
    · exact ((raiseOne_only n _ _ _ s h).trans (EvOnly.evOnly _ _)).trans (raiseOne_only _ _ _ _ _ (by decide))
    · exact raiseOne_only n _ _ _ s h

theorem raise_only (s : State) (n : Nat) : EvOnly s (s.raise n) := raiseFull_only n 0 0 0 s
theorem raiseChan_only (s : State) (c k sub rankSlot : Nat) : EvOnly s (s.raiseChan c k sub rankSlot) :=
  raiseFull_only _ _ _ _ s

theorem drainStaging_only (s : State) : EvOnly s (drainStaging s) := by
  unfold drainStaging
  simp only
  have fold : ∀ (l : List EvEntry) (x : State × Bool), EvOnly x.1
      (l.foldl (fun (x : State × Bool) e => let w := evWrite e x.1; (w.1, x.2 || w.2)) x).1 := by
    intro l
    induction l with
    | nil => intro x; exact EvOnly.refl _
    | cons e l ih => intro x; exact (evWrite_only e x.1).trans (ih _)
  split
  · exact (((EvOnly.evOnly s _).trans (fold _ _)).trans (EvOnly.evOnly _ _)).trans (raiseOne_only _ _ _ _ _ (by decide))
  · exact (EvOnly.evOnly s _).trans (fold _ _)

theorem bumpSelected_form (idx a b n k : Nat) (hit : Nat → Bool) (s : State) : EvForm s (bumpSelected idx a b n k hit s) := by
  unfold bumpSelected
  exact forN_keeps (fun t => EvForm s t) n _ s (EvForm.refl s) (fun i t ht => by
    split
    · exact ht.trans (EvForm.addObj _ _ _ _)
    · exact ht)

theorem countChan_form (c code k : Nat) (sub : Option Nat) (s : State) : EvForm s (countChan c code k sub s) := by
  unfold countChan
  split
  · exact EvForm.refl s
  · exact bumpSelected_form ..
theorem countPort_form (p code k : Nat) (s : State) : EvForm s (countPort p code k s) := by
  unfold countPort
  split
  · exact EvForm.refl s
  · exact bumpSelected_form ..
theorem countCrossing_form (x code o k : Nat) (s : State) : EvForm s (countCrossing x code o k s) := by
  unfold countCrossing
  split
  · exact EvForm.refl s
  · exact bumpSelected_form ..

theorem countPort_objs (p code k : Nat) (s : State) (hp : p < 112) : EvObjs s (countPort p code k s) := by
  have : EvOnly s (countPort p code k s) := by
    unfold countPort
    split
    · exact EvOnly.refl s
    · unfold bumpSelected
      refine foldl_keeps (fun t => EvOnly s t) _ _ s (EvOnly.refl s) (fun t i hi ht => ?_)
      simp only [List.mem_range] at hi
      simp only
      split
      · exact ht.trans (EvOnly.addObj _ _ _ _ (by omega) (by unfold evKey; exact decide_eq_true (by omega)))
      · exact ht
  exact this.2.1

theorem portCause_form (p b : Nat) (s : State) : EvForm s (portCause p b s) := by
  unfold portCause
  simp only
  split
  · exact (EvForm.setObjBit ..).trans (raiseFull_only ..).1
  · exact EvForm.setObjBit ..
theorem crossingCause_form (x b fixed : Nat) (s : State) : EvForm s (crossingCause x b fixed s) :=
  (EvForm.setObjBit ..).trans (raiseFull_only ..).1
theorem calCause_form (c b : Nat) (s : State) : EvForm s (calCause c b s) :=
  (EvForm.setObjBit ..).trans (raiseFull_only ..).1
theorem clearPending_form (n : Nat) (s : State) : EvForm s (clearPending n s) :=
  ((EvForm.setObj ..).trans (EvOnly.evOnly _ _).1).trans (evtSync_only _).1
theorem storeReset_form (k : Nat) (s : State) : EvForm s (storeReset k s) :=
  (EvForm.addObj ..).trans (raise_only _ _).1

/-! ### Field by field -/

theorem EvForm.pending {s t : State} (h : EvForm s t) : t.pending = s.pending := by obtain ⟨_, _, _, _, rfl⟩ := h; rfl
theorem EvForm.cad {s t : State} (h : EvForm s t) : t.cad = s.cad := by obtain ⟨_, _, _, _, rfl⟩ := h; rfl
theorem EvForm.ports {s t : State} (h : EvForm s t) : t.ports = s.ports := by obtain ⟨_, _, _, _, rfl⟩ := h; rfl
theorem EvForm.xbars {s t : State} (h : EvForm s t) : t.xbars = s.xbars := by obtain ⟨_, _, _, _, rfl⟩ := h; rfl
theorem EvForm.net {s t : State} (h : EvForm s t) : t.net = s.net := by obtain ⟨_, _, _, _, rfl⟩ := h; rfl
theorem EvForm.chans {s t : State} (h : EvForm s t) : t.chans = s.chans := by obtain ⟨_, _, _, _, rfl⟩ := h; rfl
theorem EvForm.plaza {s t : State} (h : EvForm s t) : t.plaza = s.plaza := by obtain ⟨_, _, _, _, rfl⟩ := h; rfl
theorem EvForm.plazaLru {s t : State} (h : EvForm s t) : t.plazaLru = s.plazaLru := by obtain ⟨_, _, _, _, rfl⟩ := h; rfl
theorem EvForm.order {s t : State} (h : EvForm s t) : t.order = s.order := by obtain ⟨_, _, _, _, rfl⟩ := h; rfl
theorem EvForm.transit {s t : State} (h : EvForm s t) : t.transit = s.transit := by obtain ⟨_, _, _, _, rfl⟩ := h; rfl
theorem EvForm.gathers {s t : State} (h : EvForm s t) : t.gathers = s.gathers := by obtain ⟨_, _, _, _, rfl⟩ := h; rfl
theorem EvForm.samples {s t : State} (h : EvForm s t) : t.samples = s.samples := by obtain ⟨_, _, _, _, rfl⟩ := h; rfl
theorem EvForm.ledger {s t : State} (h : EvForm s t) : t.ledger = s.ledger := by obtain ⟨_, _, _, _, rfl⟩ := h; rfl
theorem EvForm.ledgerLru {s t : State} (h : EvForm s t) : t.ledgerLru = s.ledgerLru := by obtain ⟨_, _, _, _, rfl⟩ := h; rfl
theorem EvForm.found {s t : State} (h : EvForm s t) : t.found = s.found := by obtain ⟨_, _, _, _, rfl⟩ := h; rfl
theorem EvForm.pinned {s t : State} (h : EvForm s t) : t.pinned = s.pinned := by obtain ⟨_, _, _, _, rfl⟩ := h; rfl
theorem EvForm.sealedList {s t : State} (h : EvForm s t) : t.sealedList = s.sealedList := by obtain ⟨_, _, _, _, rfl⟩ := h; rfl
theorem EvForm.sealedFrom {s t : State} (h : EvForm s t) : t.sealedFrom = s.sealedFrom := by obtain ⟨_, _, _, _, rfl⟩ := h; rfl
theorem EvForm.dram {s t : State} (h : EvForm s t) : t.dram = s.dram := by obtain ⟨_, _, _, _, rfl⟩ := h; rfl
theorem EvForm.dists {s t : State} (h : EvForm s t) : t.dists = s.dists := by obtain ⟨_, _, _, _, rfl⟩ := h; rfl
theorem EvForm.keys {s t : State} (h : EvForm s t) : t.keys = s.keys := by obtain ⟨_, _, _, _, rfl⟩ := h; rfl
theorem EvForm.vault {s t : State} (h : EvForm s t) : t.vault = s.vault := by obtain ⟨_, _, _, _, rfl⟩ := h; rfl
theorem EvForm.repair {s t : State} (h : EvForm s t) : t.repair = s.repair := by obtain ⟨_, _, _, _, rfl⟩ := h; rfl
theorem EvForm.mirror {s t : State} (h : EvForm s t) : t.mirror = s.mirror := by obtain ⟨_, _, _, _, rfl⟩ := h; rfl
theorem EvForm.sup {s t : State} (h : EvForm s t) : t.sup = s.sup := by obtain ⟨_, _, _, _, rfl⟩ := h; rfl
theorem EvForm.bays {s t : State} (h : EvForm s t) : t.bays = s.bays := by obtain ⟨_, _, _, _, rfl⟩ := h; rfl
theorem EvForm.mgmt {s t : State} (h : EvForm s t) : t.mgmt = s.mgmt := by obtain ⟨_, _, _, _, rfl⟩ := h; rfl
theorem EvForm.blk {s t : State} (h : EvForm s t) : t.blk = s.blk := by obtain ⟨_, _, _, _, rfl⟩ := h; rfl
theorem EvForm.recs {s t : State} (h : EvForm s t) : t.recs = s.recs := by obtain ⟨_, _, _, _, rfl⟩ := h; rfl
theorem EvForm.shadowObjs {s t : State} (h : EvForm s t) : t.shadowObjs = s.shadowObjs := by obtain ⟨_, _, _, _, rfl⟩ := h; rfl
theorem EvForm.at_port {s t : State} (h : EvForm s t) (y : Nat) : t.port y = s.port y := by obtain ⟨_, _, _, _, rfl⟩ := h; rfl
theorem EvForm.at_xbar {s t : State} (h : EvForm s t) (y : Nat) : t.xbar y = s.xbar y := by obtain ⟨_, _, _, _, rfl⟩ := h; rfl
theorem EvForm.at_chan {s t : State} (h : EvForm s t) (y : Nat) : t.chan y = s.chan y := by obtain ⟨_, _, _, _, rfl⟩ := h; rfl
theorem EvForm.at_dist {s t : State} (h : EvForm s t) (y : Nat) : t.dist y = s.dist y := by obtain ⟨_, _, _, _, rfl⟩ := h; rfl
theorem EvForm.at_bay {s t : State} (h : EvForm s t) (y : Nat) : t.bay y = s.bay y := by obtain ⟨_, _, _, _, rfl⟩ := h; rfl
theorem EvForm.at_sense {s t : State} (h : EvForm s t) (y : Nat) : t.sense y = s.sense y := by obtain ⟨_, _, _, _, rfl⟩ := h; rfl
theorem EvForm.at_repairAt {s t : State} (h : EvForm s t) (y : Nat) : t.repairAt y = s.repairAt y := by obtain ⟨_, _, _, _, rfl⟩ := h; rfl
theorem EvForm.at_tx {s t : State} (h : EvForm s t) (y : Nat) : t.tx y = s.tx y := by obtain ⟨_, _, _, _, rfl⟩ := h; rfl
theorem EvForm.at_rx {s t : State} (h : EvForm s t) (y : Nat) : t.rx y = s.rx y := by obtain ⟨_, _, _, _, rfl⟩ := h; rfl
theorem EvForm.at_link {s t : State} (h : EvForm s t) (y : Nat) : t.link y = s.link y := by obtain ⟨_, _, _, _, rfl⟩ := h; rfl
theorem EvForm.at_recN {s t : State} (h : EvForm s t) (y z o n : Nat) : t.recN y z o n = s.recN y z o n := by obtain ⟨_, _, _, _, rfl⟩ := h; rfl
theorem EvForm.at_now {s t : State} (h : EvForm s t) : t.now = s.now := by obtain ⟨_, _, _, _, rfl⟩ := h; rfl
theorem EvForm.at_slotNow {s t : State} (h : EvForm s t) : t.slotNow = s.slotNow := by obtain ⟨_, _, _, _, rfl⟩ := h; rfl
theorem EvForm.at_cycleNow {s t : State} (h : EvForm s t) : t.cycleNow = s.cycleNow := by obtain ⟨_, _, _, _, rfl⟩ := h; rfl
theorem EvForm.at_stampNow {s t : State} (h : EvForm s t) (y : Nat) : t.stampNow y = s.stampNow y := by obtain ⟨_, _, _, _, rfl⟩ := h; rfl
theorem EvForm.at_moduleAt {s t : State} (h : EvForm s t) (y : Nat) : t.moduleAt y = s.moduleAt y := by obtain ⟨_, _, _, _, rfl⟩ := h; rfl

@[simp] theorem raiseFull_pending (n a b c : Nat) (s : State) : (raiseFull n a b c s).pending = s.pending := (raiseFull_only n a b c s).1.pending
@[simp] theorem raiseFull_cad (n a b c : Nat) (s : State) : (raiseFull n a b c s).cad = s.cad := (raiseFull_only n a b c s).1.cad
@[simp] theorem raiseFull_ports (n a b c : Nat) (s : State) : (raiseFull n a b c s).ports = s.ports := (raiseFull_only n a b c s).1.ports
@[simp] theorem raiseFull_xbars (n a b c : Nat) (s : State) : (raiseFull n a b c s).xbars = s.xbars := (raiseFull_only n a b c s).1.xbars
@[simp] theorem raiseFull_net (n a b c : Nat) (s : State) : (raiseFull n a b c s).net = s.net := (raiseFull_only n a b c s).1.net
@[simp] theorem raiseFull_chans (n a b c : Nat) (s : State) : (raiseFull n a b c s).chans = s.chans := (raiseFull_only n a b c s).1.chans
@[simp] theorem raiseFull_plaza (n a b c : Nat) (s : State) : (raiseFull n a b c s).plaza = s.plaza := (raiseFull_only n a b c s).1.plaza
@[simp] theorem raiseFull_plazaLru (n a b c : Nat) (s : State) : (raiseFull n a b c s).plazaLru = s.plazaLru := (raiseFull_only n a b c s).1.plazaLru
@[simp] theorem raiseFull_order (n a b c : Nat) (s : State) : (raiseFull n a b c s).order = s.order := (raiseFull_only n a b c s).1.order
@[simp] theorem raiseFull_transit (n a b c : Nat) (s : State) : (raiseFull n a b c s).transit = s.transit := (raiseFull_only n a b c s).1.transit
@[simp] theorem raiseFull_gathers (n a b c : Nat) (s : State) : (raiseFull n a b c s).gathers = s.gathers := (raiseFull_only n a b c s).1.gathers
@[simp] theorem raiseFull_samples (n a b c : Nat) (s : State) : (raiseFull n a b c s).samples = s.samples := (raiseFull_only n a b c s).1.samples
@[simp] theorem raiseFull_ledger (n a b c : Nat) (s : State) : (raiseFull n a b c s).ledger = s.ledger := (raiseFull_only n a b c s).1.ledger
@[simp] theorem raiseFull_ledgerLru (n a b c : Nat) (s : State) : (raiseFull n a b c s).ledgerLru = s.ledgerLru := (raiseFull_only n a b c s).1.ledgerLru
@[simp] theorem raiseFull_found (n a b c : Nat) (s : State) : (raiseFull n a b c s).found = s.found := (raiseFull_only n a b c s).1.found
@[simp] theorem raiseFull_pinned (n a b c : Nat) (s : State) : (raiseFull n a b c s).pinned = s.pinned := (raiseFull_only n a b c s).1.pinned
@[simp] theorem raiseFull_sealedList (n a b c : Nat) (s : State) : (raiseFull n a b c s).sealedList = s.sealedList := (raiseFull_only n a b c s).1.sealedList
@[simp] theorem raiseFull_sealedFrom (n a b c : Nat) (s : State) : (raiseFull n a b c s).sealedFrom = s.sealedFrom := (raiseFull_only n a b c s).1.sealedFrom
@[simp] theorem raiseFull_dram (n a b c : Nat) (s : State) : (raiseFull n a b c s).dram = s.dram := (raiseFull_only n a b c s).1.dram
@[simp] theorem raiseFull_dists (n a b c : Nat) (s : State) : (raiseFull n a b c s).dists = s.dists := (raiseFull_only n a b c s).1.dists
@[simp] theorem raiseFull_keys (n a b c : Nat) (s : State) : (raiseFull n a b c s).keys = s.keys := (raiseFull_only n a b c s).1.keys
@[simp] theorem raiseFull_vault (n a b c : Nat) (s : State) : (raiseFull n a b c s).vault = s.vault := (raiseFull_only n a b c s).1.vault
@[simp] theorem raiseFull_repair (n a b c : Nat) (s : State) : (raiseFull n a b c s).repair = s.repair := (raiseFull_only n a b c s).1.repair
@[simp] theorem raiseFull_mirror (n a b c : Nat) (s : State) : (raiseFull n a b c s).mirror = s.mirror := (raiseFull_only n a b c s).1.mirror
@[simp] theorem raiseFull_sup (n a b c : Nat) (s : State) : (raiseFull n a b c s).sup = s.sup := (raiseFull_only n a b c s).1.sup
@[simp] theorem raiseFull_bays (n a b c : Nat) (s : State) : (raiseFull n a b c s).bays = s.bays := (raiseFull_only n a b c s).1.bays
@[simp] theorem raiseFull_mgmt (n a b c : Nat) (s : State) : (raiseFull n a b c s).mgmt = s.mgmt := (raiseFull_only n a b c s).1.mgmt
@[simp] theorem raiseFull_blk (n a b c : Nat) (s : State) : (raiseFull n a b c s).blk = s.blk := (raiseFull_only n a b c s).1.blk
@[simp] theorem raiseFull_recs (n a b c : Nat) (s : State) : (raiseFull n a b c s).recs = s.recs := (raiseFull_only n a b c s).1.recs
@[simp] theorem raiseFull_shadowObjs (n a b c : Nat) (s : State) : (raiseFull n a b c s).shadowObjs = s.shadowObjs := (raiseFull_only n a b c s).1.shadowObjs
@[simp] theorem raiseFull_at_port (n a b c : Nat) (s : State) (y : Nat) : (raiseFull n a b c s).port y = s.port y := (raiseFull_only n a b c s).1.at_port y
@[simp] theorem raiseFull_at_xbar (n a b c : Nat) (s : State) (y : Nat) : (raiseFull n a b c s).xbar y = s.xbar y := (raiseFull_only n a b c s).1.at_xbar y
@[simp] theorem raiseFull_at_chan (n a b c : Nat) (s : State) (y : Nat) : (raiseFull n a b c s).chan y = s.chan y := (raiseFull_only n a b c s).1.at_chan y
@[simp] theorem raiseFull_at_dist (n a b c : Nat) (s : State) (y : Nat) : (raiseFull n a b c s).dist y = s.dist y := (raiseFull_only n a b c s).1.at_dist y
@[simp] theorem raiseFull_at_bay (n a b c : Nat) (s : State) (y : Nat) : (raiseFull n a b c s).bay y = s.bay y := (raiseFull_only n a b c s).1.at_bay y
@[simp] theorem raiseFull_at_sense (n a b c : Nat) (s : State) (y : Nat) : (raiseFull n a b c s).sense y = s.sense y := (raiseFull_only n a b c s).1.at_sense y
@[simp] theorem raiseFull_at_repairAt (n a b c : Nat) (s : State) (y : Nat) : (raiseFull n a b c s).repairAt y = s.repairAt y := (raiseFull_only n a b c s).1.at_repairAt y
@[simp] theorem raiseFull_at_tx (n a b c : Nat) (s : State) (y : Nat) : (raiseFull n a b c s).tx y = s.tx y := (raiseFull_only n a b c s).1.at_tx y
@[simp] theorem raiseFull_at_rx (n a b c : Nat) (s : State) (y : Nat) : (raiseFull n a b c s).rx y = s.rx y := (raiseFull_only n a b c s).1.at_rx y
@[simp] theorem raiseFull_at_link (n a b c : Nat) (s : State) (y : Nat) : (raiseFull n a b c s).link y = s.link y := (raiseFull_only n a b c s).1.at_link y
@[simp] theorem raiseFull_at_recN (n a b c : Nat) (s : State) (y z o n : Nat) : (raiseFull n a b c s).recN y z o n = s.recN y z o n := (raiseFull_only n a b c s).1.at_recN y z o n
@[simp] theorem raiseFull_at_now (n a b c : Nat) (s : State) : (raiseFull n a b c s).now = s.now := (raiseFull_only n a b c s).1.at_now
@[simp] theorem raiseFull_at_slotNow (n a b c : Nat) (s : State) : (raiseFull n a b c s).slotNow = s.slotNow := (raiseFull_only n a b c s).1.at_slotNow
@[simp] theorem raiseFull_at_cycleNow (n a b c : Nat) (s : State) : (raiseFull n a b c s).cycleNow = s.cycleNow := (raiseFull_only n a b c s).1.at_cycleNow
@[simp] theorem raiseFull_at_stampNow (n a b c : Nat) (s : State) (y : Nat) : (raiseFull n a b c s).stampNow y = s.stampNow y := (raiseFull_only n a b c s).1.at_stampNow y
@[simp] theorem raiseFull_at_moduleAt (n a b c : Nat) (s : State) (y : Nat) : (raiseFull n a b c s).moduleAt y = s.moduleAt y := (raiseFull_only n a b c s).1.at_moduleAt y

@[simp] theorem State.raise_pending (s : State) (n : Nat) : (s.raise n).pending = s.pending := (raise_only s n).1.pending
@[simp] theorem State.raise_cad (s : State) (n : Nat) : (s.raise n).cad = s.cad := (raise_only s n).1.cad
@[simp] theorem State.raise_ports (s : State) (n : Nat) : (s.raise n).ports = s.ports := (raise_only s n).1.ports
@[simp] theorem State.raise_xbars (s : State) (n : Nat) : (s.raise n).xbars = s.xbars := (raise_only s n).1.xbars
@[simp] theorem State.raise_net (s : State) (n : Nat) : (s.raise n).net = s.net := (raise_only s n).1.net
@[simp] theorem State.raise_chans (s : State) (n : Nat) : (s.raise n).chans = s.chans := (raise_only s n).1.chans
@[simp] theorem State.raise_plaza (s : State) (n : Nat) : (s.raise n).plaza = s.plaza := (raise_only s n).1.plaza
@[simp] theorem State.raise_plazaLru (s : State) (n : Nat) : (s.raise n).plazaLru = s.plazaLru := (raise_only s n).1.plazaLru
@[simp] theorem State.raise_order (s : State) (n : Nat) : (s.raise n).order = s.order := (raise_only s n).1.order
@[simp] theorem State.raise_transit (s : State) (n : Nat) : (s.raise n).transit = s.transit := (raise_only s n).1.transit
@[simp] theorem State.raise_gathers (s : State) (n : Nat) : (s.raise n).gathers = s.gathers := (raise_only s n).1.gathers
@[simp] theorem State.raise_samples (s : State) (n : Nat) : (s.raise n).samples = s.samples := (raise_only s n).1.samples
@[simp] theorem State.raise_ledger (s : State) (n : Nat) : (s.raise n).ledger = s.ledger := (raise_only s n).1.ledger
@[simp] theorem State.raise_ledgerLru (s : State) (n : Nat) : (s.raise n).ledgerLru = s.ledgerLru := (raise_only s n).1.ledgerLru
@[simp] theorem State.raise_found (s : State) (n : Nat) : (s.raise n).found = s.found := (raise_only s n).1.found
@[simp] theorem State.raise_pinned (s : State) (n : Nat) : (s.raise n).pinned = s.pinned := (raise_only s n).1.pinned
@[simp] theorem State.raise_sealedList (s : State) (n : Nat) : (s.raise n).sealedList = s.sealedList := (raise_only s n).1.sealedList
@[simp] theorem State.raise_sealedFrom (s : State) (n : Nat) : (s.raise n).sealedFrom = s.sealedFrom := (raise_only s n).1.sealedFrom
@[simp] theorem State.raise_dram (s : State) (n : Nat) : (s.raise n).dram = s.dram := (raise_only s n).1.dram
@[simp] theorem State.raise_dists (s : State) (n : Nat) : (s.raise n).dists = s.dists := (raise_only s n).1.dists
@[simp] theorem State.raise_keys (s : State) (n : Nat) : (s.raise n).keys = s.keys := (raise_only s n).1.keys
@[simp] theorem State.raise_vault (s : State) (n : Nat) : (s.raise n).vault = s.vault := (raise_only s n).1.vault
@[simp] theorem State.raise_repair (s : State) (n : Nat) : (s.raise n).repair = s.repair := (raise_only s n).1.repair
@[simp] theorem State.raise_mirror (s : State) (n : Nat) : (s.raise n).mirror = s.mirror := (raise_only s n).1.mirror
@[simp] theorem State.raise_sup (s : State) (n : Nat) : (s.raise n).sup = s.sup := (raise_only s n).1.sup
@[simp] theorem State.raise_bays (s : State) (n : Nat) : (s.raise n).bays = s.bays := (raise_only s n).1.bays
@[simp] theorem State.raise_mgmt (s : State) (n : Nat) : (s.raise n).mgmt = s.mgmt := (raise_only s n).1.mgmt
@[simp] theorem State.raise_blk (s : State) (n : Nat) : (s.raise n).blk = s.blk := (raise_only s n).1.blk
@[simp] theorem State.raise_recs (s : State) (n : Nat) : (s.raise n).recs = s.recs := (raise_only s n).1.recs
@[simp] theorem State.raise_shadowObjs (s : State) (n : Nat) : (s.raise n).shadowObjs = s.shadowObjs := (raise_only s n).1.shadowObjs
@[simp] theorem State.raise_at_port (s : State) (n : Nat) (y : Nat) : (s.raise n).port y = s.port y := (raise_only s n).1.at_port y
@[simp] theorem State.raise_at_xbar (s : State) (n : Nat) (y : Nat) : (s.raise n).xbar y = s.xbar y := (raise_only s n).1.at_xbar y
@[simp] theorem State.raise_at_chan (s : State) (n : Nat) (y : Nat) : (s.raise n).chan y = s.chan y := (raise_only s n).1.at_chan y
@[simp] theorem State.raise_at_dist (s : State) (n : Nat) (y : Nat) : (s.raise n).dist y = s.dist y := (raise_only s n).1.at_dist y
@[simp] theorem State.raise_at_bay (s : State) (n : Nat) (y : Nat) : (s.raise n).bay y = s.bay y := (raise_only s n).1.at_bay y
@[simp] theorem State.raise_at_sense (s : State) (n : Nat) (y : Nat) : (s.raise n).sense y = s.sense y := (raise_only s n).1.at_sense y
@[simp] theorem State.raise_at_repairAt (s : State) (n : Nat) (y : Nat) : (s.raise n).repairAt y = s.repairAt y := (raise_only s n).1.at_repairAt y
@[simp] theorem State.raise_at_tx (s : State) (n : Nat) (y : Nat) : (s.raise n).tx y = s.tx y := (raise_only s n).1.at_tx y
@[simp] theorem State.raise_at_rx (s : State) (n : Nat) (y : Nat) : (s.raise n).rx y = s.rx y := (raise_only s n).1.at_rx y
@[simp] theorem State.raise_at_link (s : State) (n : Nat) (y : Nat) : (s.raise n).link y = s.link y := (raise_only s n).1.at_link y
@[simp] theorem State.raise_at_recN (s : State) (n : Nat) (y z o n : Nat) : (s.raise n).recN y z o n = s.recN y z o n := (raise_only s n).1.at_recN y z o n
@[simp] theorem State.raise_at_now (s : State) (n : Nat) : (s.raise n).now = s.now := (raise_only s n).1.at_now
@[simp] theorem State.raise_at_slotNow (s : State) (n : Nat) : (s.raise n).slotNow = s.slotNow := (raise_only s n).1.at_slotNow
@[simp] theorem State.raise_at_cycleNow (s : State) (n : Nat) : (s.raise n).cycleNow = s.cycleNow := (raise_only s n).1.at_cycleNow
@[simp] theorem State.raise_at_stampNow (s : State) (n : Nat) (y : Nat) : (s.raise n).stampNow y = s.stampNow y := (raise_only s n).1.at_stampNow y
@[simp] theorem State.raise_at_moduleAt (s : State) (n : Nat) (y : Nat) : (s.raise n).moduleAt y = s.moduleAt y := (raise_only s n).1.at_moduleAt y

@[simp] theorem State.raiseChan_pending (s : State) (c k a b : Nat) : (s.raiseChan c k a b).pending = s.pending := (raiseChan_only s c k a b).1.pending
@[simp] theorem State.raiseChan_cad (s : State) (c k a b : Nat) : (s.raiseChan c k a b).cad = s.cad := (raiseChan_only s c k a b).1.cad
@[simp] theorem State.raiseChan_ports (s : State) (c k a b : Nat) : (s.raiseChan c k a b).ports = s.ports := (raiseChan_only s c k a b).1.ports
@[simp] theorem State.raiseChan_xbars (s : State) (c k a b : Nat) : (s.raiseChan c k a b).xbars = s.xbars := (raiseChan_only s c k a b).1.xbars
@[simp] theorem State.raiseChan_net (s : State) (c k a b : Nat) : (s.raiseChan c k a b).net = s.net := (raiseChan_only s c k a b).1.net
@[simp] theorem State.raiseChan_chans (s : State) (c k a b : Nat) : (s.raiseChan c k a b).chans = s.chans := (raiseChan_only s c k a b).1.chans
@[simp] theorem State.raiseChan_plaza (s : State) (c k a b : Nat) : (s.raiseChan c k a b).plaza = s.plaza := (raiseChan_only s c k a b).1.plaza
@[simp] theorem State.raiseChan_plazaLru (s : State) (c k a b : Nat) : (s.raiseChan c k a b).plazaLru = s.plazaLru := (raiseChan_only s c k a b).1.plazaLru
@[simp] theorem State.raiseChan_order (s : State) (c k a b : Nat) : (s.raiseChan c k a b).order = s.order := (raiseChan_only s c k a b).1.order
@[simp] theorem State.raiseChan_transit (s : State) (c k a b : Nat) : (s.raiseChan c k a b).transit = s.transit := (raiseChan_only s c k a b).1.transit
@[simp] theorem State.raiseChan_gathers (s : State) (c k a b : Nat) : (s.raiseChan c k a b).gathers = s.gathers := (raiseChan_only s c k a b).1.gathers
@[simp] theorem State.raiseChan_samples (s : State) (c k a b : Nat) : (s.raiseChan c k a b).samples = s.samples := (raiseChan_only s c k a b).1.samples
@[simp] theorem State.raiseChan_ledger (s : State) (c k a b : Nat) : (s.raiseChan c k a b).ledger = s.ledger := (raiseChan_only s c k a b).1.ledger
@[simp] theorem State.raiseChan_ledgerLru (s : State) (c k a b : Nat) : (s.raiseChan c k a b).ledgerLru = s.ledgerLru := (raiseChan_only s c k a b).1.ledgerLru
@[simp] theorem State.raiseChan_found (s : State) (c k a b : Nat) : (s.raiseChan c k a b).found = s.found := (raiseChan_only s c k a b).1.found
@[simp] theorem State.raiseChan_pinned (s : State) (c k a b : Nat) : (s.raiseChan c k a b).pinned = s.pinned := (raiseChan_only s c k a b).1.pinned
@[simp] theorem State.raiseChan_sealedList (s : State) (c k a b : Nat) : (s.raiseChan c k a b).sealedList = s.sealedList := (raiseChan_only s c k a b).1.sealedList
@[simp] theorem State.raiseChan_sealedFrom (s : State) (c k a b : Nat) : (s.raiseChan c k a b).sealedFrom = s.sealedFrom := (raiseChan_only s c k a b).1.sealedFrom
@[simp] theorem State.raiseChan_dram (s : State) (c k a b : Nat) : (s.raiseChan c k a b).dram = s.dram := (raiseChan_only s c k a b).1.dram
@[simp] theorem State.raiseChan_dists (s : State) (c k a b : Nat) : (s.raiseChan c k a b).dists = s.dists := (raiseChan_only s c k a b).1.dists
@[simp] theorem State.raiseChan_keys (s : State) (c k a b : Nat) : (s.raiseChan c k a b).keys = s.keys := (raiseChan_only s c k a b).1.keys
@[simp] theorem State.raiseChan_vault (s : State) (c k a b : Nat) : (s.raiseChan c k a b).vault = s.vault := (raiseChan_only s c k a b).1.vault
@[simp] theorem State.raiseChan_repair (s : State) (c k a b : Nat) : (s.raiseChan c k a b).repair = s.repair := (raiseChan_only s c k a b).1.repair
@[simp] theorem State.raiseChan_mirror (s : State) (c k a b : Nat) : (s.raiseChan c k a b).mirror = s.mirror := (raiseChan_only s c k a b).1.mirror
@[simp] theorem State.raiseChan_sup (s : State) (c k a b : Nat) : (s.raiseChan c k a b).sup = s.sup := (raiseChan_only s c k a b).1.sup
@[simp] theorem State.raiseChan_bays (s : State) (c k a b : Nat) : (s.raiseChan c k a b).bays = s.bays := (raiseChan_only s c k a b).1.bays
@[simp] theorem State.raiseChan_mgmt (s : State) (c k a b : Nat) : (s.raiseChan c k a b).mgmt = s.mgmt := (raiseChan_only s c k a b).1.mgmt
@[simp] theorem State.raiseChan_blk (s : State) (c k a b : Nat) : (s.raiseChan c k a b).blk = s.blk := (raiseChan_only s c k a b).1.blk
@[simp] theorem State.raiseChan_recs (s : State) (c k a b : Nat) : (s.raiseChan c k a b).recs = s.recs := (raiseChan_only s c k a b).1.recs
@[simp] theorem State.raiseChan_shadowObjs (s : State) (c k a b : Nat) : (s.raiseChan c k a b).shadowObjs = s.shadowObjs := (raiseChan_only s c k a b).1.shadowObjs
@[simp] theorem State.raiseChan_at_port (s : State) (c k a b : Nat) (y : Nat) : (s.raiseChan c k a b).port y = s.port y := (raiseChan_only s c k a b).1.at_port y
@[simp] theorem State.raiseChan_at_xbar (s : State) (c k a b : Nat) (y : Nat) : (s.raiseChan c k a b).xbar y = s.xbar y := (raiseChan_only s c k a b).1.at_xbar y
@[simp] theorem State.raiseChan_at_chan (s : State) (c k a b : Nat) (y : Nat) : (s.raiseChan c k a b).chan y = s.chan y := (raiseChan_only s c k a b).1.at_chan y
@[simp] theorem State.raiseChan_at_dist (s : State) (c k a b : Nat) (y : Nat) : (s.raiseChan c k a b).dist y = s.dist y := (raiseChan_only s c k a b).1.at_dist y
@[simp] theorem State.raiseChan_at_bay (s : State) (c k a b : Nat) (y : Nat) : (s.raiseChan c k a b).bay y = s.bay y := (raiseChan_only s c k a b).1.at_bay y
@[simp] theorem State.raiseChan_at_sense (s : State) (c k a b : Nat) (y : Nat) : (s.raiseChan c k a b).sense y = s.sense y := (raiseChan_only s c k a b).1.at_sense y
@[simp] theorem State.raiseChan_at_repairAt (s : State) (c k a b : Nat) (y : Nat) : (s.raiseChan c k a b).repairAt y = s.repairAt y := (raiseChan_only s c k a b).1.at_repairAt y
@[simp] theorem State.raiseChan_at_tx (s : State) (c k a b : Nat) (y : Nat) : (s.raiseChan c k a b).tx y = s.tx y := (raiseChan_only s c k a b).1.at_tx y
@[simp] theorem State.raiseChan_at_rx (s : State) (c k a b : Nat) (y : Nat) : (s.raiseChan c k a b).rx y = s.rx y := (raiseChan_only s c k a b).1.at_rx y
@[simp] theorem State.raiseChan_at_link (s : State) (c k a b : Nat) (y : Nat) : (s.raiseChan c k a b).link y = s.link y := (raiseChan_only s c k a b).1.at_link y
@[simp] theorem State.raiseChan_at_recN (s : State) (c k a b : Nat) (y z o n : Nat) : (s.raiseChan c k a b).recN y z o n = s.recN y z o n := (raiseChan_only s c k a b).1.at_recN y z o n
@[simp] theorem State.raiseChan_at_now (s : State) (c k a b : Nat) : (s.raiseChan c k a b).now = s.now := (raiseChan_only s c k a b).1.at_now
@[simp] theorem State.raiseChan_at_slotNow (s : State) (c k a b : Nat) : (s.raiseChan c k a b).slotNow = s.slotNow := (raiseChan_only s c k a b).1.at_slotNow
@[simp] theorem State.raiseChan_at_cycleNow (s : State) (c k a b : Nat) : (s.raiseChan c k a b).cycleNow = s.cycleNow := (raiseChan_only s c k a b).1.at_cycleNow
@[simp] theorem State.raiseChan_at_stampNow (s : State) (c k a b : Nat) (y : Nat) : (s.raiseChan c k a b).stampNow y = s.stampNow y := (raiseChan_only s c k a b).1.at_stampNow y
@[simp] theorem State.raiseChan_at_moduleAt (s : State) (c k a b : Nat) (y : Nat) : (s.raiseChan c k a b).moduleAt y = s.moduleAt y := (raiseChan_only s c k a b).1.at_moduleAt y

@[simp] theorem portCause_pending (p b : Nat) (s : State) : (portCause p b s).pending = s.pending := (portCause_form p b s).pending
@[simp] theorem portCause_cad (p b : Nat) (s : State) : (portCause p b s).cad = s.cad := (portCause_form p b s).cad
@[simp] theorem portCause_ports (p b : Nat) (s : State) : (portCause p b s).ports = s.ports := (portCause_form p b s).ports
@[simp] theorem portCause_xbars (p b : Nat) (s : State) : (portCause p b s).xbars = s.xbars := (portCause_form p b s).xbars
@[simp] theorem portCause_net (p b : Nat) (s : State) : (portCause p b s).net = s.net := (portCause_form p b s).net
@[simp] theorem portCause_chans (p b : Nat) (s : State) : (portCause p b s).chans = s.chans := (portCause_form p b s).chans
@[simp] theorem portCause_plaza (p b : Nat) (s : State) : (portCause p b s).plaza = s.plaza := (portCause_form p b s).plaza
@[simp] theorem portCause_plazaLru (p b : Nat) (s : State) : (portCause p b s).plazaLru = s.plazaLru := (portCause_form p b s).plazaLru
@[simp] theorem portCause_order (p b : Nat) (s : State) : (portCause p b s).order = s.order := (portCause_form p b s).order
@[simp] theorem portCause_transit (p b : Nat) (s : State) : (portCause p b s).transit = s.transit := (portCause_form p b s).transit
@[simp] theorem portCause_gathers (p b : Nat) (s : State) : (portCause p b s).gathers = s.gathers := (portCause_form p b s).gathers
@[simp] theorem portCause_samples (p b : Nat) (s : State) : (portCause p b s).samples = s.samples := (portCause_form p b s).samples
@[simp] theorem portCause_ledger (p b : Nat) (s : State) : (portCause p b s).ledger = s.ledger := (portCause_form p b s).ledger
@[simp] theorem portCause_ledgerLru (p b : Nat) (s : State) : (portCause p b s).ledgerLru = s.ledgerLru := (portCause_form p b s).ledgerLru
@[simp] theorem portCause_found (p b : Nat) (s : State) : (portCause p b s).found = s.found := (portCause_form p b s).found
@[simp] theorem portCause_pinned (p b : Nat) (s : State) : (portCause p b s).pinned = s.pinned := (portCause_form p b s).pinned
@[simp] theorem portCause_sealedList (p b : Nat) (s : State) : (portCause p b s).sealedList = s.sealedList := (portCause_form p b s).sealedList
@[simp] theorem portCause_sealedFrom (p b : Nat) (s : State) : (portCause p b s).sealedFrom = s.sealedFrom := (portCause_form p b s).sealedFrom
@[simp] theorem portCause_dram (p b : Nat) (s : State) : (portCause p b s).dram = s.dram := (portCause_form p b s).dram
@[simp] theorem portCause_dists (p b : Nat) (s : State) : (portCause p b s).dists = s.dists := (portCause_form p b s).dists
@[simp] theorem portCause_keys (p b : Nat) (s : State) : (portCause p b s).keys = s.keys := (portCause_form p b s).keys
@[simp] theorem portCause_vault (p b : Nat) (s : State) : (portCause p b s).vault = s.vault := (portCause_form p b s).vault
@[simp] theorem portCause_repair (p b : Nat) (s : State) : (portCause p b s).repair = s.repair := (portCause_form p b s).repair
@[simp] theorem portCause_mirror (p b : Nat) (s : State) : (portCause p b s).mirror = s.mirror := (portCause_form p b s).mirror
@[simp] theorem portCause_sup (p b : Nat) (s : State) : (portCause p b s).sup = s.sup := (portCause_form p b s).sup
@[simp] theorem portCause_bays (p b : Nat) (s : State) : (portCause p b s).bays = s.bays := (portCause_form p b s).bays
@[simp] theorem portCause_mgmt (p b : Nat) (s : State) : (portCause p b s).mgmt = s.mgmt := (portCause_form p b s).mgmt
@[simp] theorem portCause_blk (p b : Nat) (s : State) : (portCause p b s).blk = s.blk := (portCause_form p b s).blk
@[simp] theorem portCause_recs (p b : Nat) (s : State) : (portCause p b s).recs = s.recs := (portCause_form p b s).recs
@[simp] theorem portCause_shadowObjs (p b : Nat) (s : State) : (portCause p b s).shadowObjs = s.shadowObjs := (portCause_form p b s).shadowObjs
@[simp] theorem portCause_at_port (p b : Nat) (s : State) (y : Nat) : (portCause p b s).port y = s.port y := (portCause_form p b s).at_port y
@[simp] theorem portCause_at_xbar (p b : Nat) (s : State) (y : Nat) : (portCause p b s).xbar y = s.xbar y := (portCause_form p b s).at_xbar y
@[simp] theorem portCause_at_chan (p b : Nat) (s : State) (y : Nat) : (portCause p b s).chan y = s.chan y := (portCause_form p b s).at_chan y
@[simp] theorem portCause_at_dist (p b : Nat) (s : State) (y : Nat) : (portCause p b s).dist y = s.dist y := (portCause_form p b s).at_dist y
@[simp] theorem portCause_at_bay (p b : Nat) (s : State) (y : Nat) : (portCause p b s).bay y = s.bay y := (portCause_form p b s).at_bay y
@[simp] theorem portCause_at_sense (p b : Nat) (s : State) (y : Nat) : (portCause p b s).sense y = s.sense y := (portCause_form p b s).at_sense y
@[simp] theorem portCause_at_repairAt (p b : Nat) (s : State) (y : Nat) : (portCause p b s).repairAt y = s.repairAt y := (portCause_form p b s).at_repairAt y
@[simp] theorem portCause_at_tx (p b : Nat) (s : State) (y : Nat) : (portCause p b s).tx y = s.tx y := (portCause_form p b s).at_tx y
@[simp] theorem portCause_at_rx (p b : Nat) (s : State) (y : Nat) : (portCause p b s).rx y = s.rx y := (portCause_form p b s).at_rx y
@[simp] theorem portCause_at_link (p b : Nat) (s : State) (y : Nat) : (portCause p b s).link y = s.link y := (portCause_form p b s).at_link y
@[simp] theorem portCause_at_recN (p b : Nat) (s : State) (y z o n : Nat) : (portCause p b s).recN y z o n = s.recN y z o n := (portCause_form p b s).at_recN y z o n
@[simp] theorem portCause_at_now (p b : Nat) (s : State) : (portCause p b s).now = s.now := (portCause_form p b s).at_now
@[simp] theorem portCause_at_slotNow (p b : Nat) (s : State) : (portCause p b s).slotNow = s.slotNow := (portCause_form p b s).at_slotNow
@[simp] theorem portCause_at_cycleNow (p b : Nat) (s : State) : (portCause p b s).cycleNow = s.cycleNow := (portCause_form p b s).at_cycleNow
@[simp] theorem portCause_at_stampNow (p b : Nat) (s : State) (y : Nat) : (portCause p b s).stampNow y = s.stampNow y := (portCause_form p b s).at_stampNow y
@[simp] theorem portCause_at_moduleAt (p b : Nat) (s : State) (y : Nat) : (portCause p b s).moduleAt y = s.moduleAt y := (portCause_form p b s).at_moduleAt y

@[simp] theorem crossingCause_pending (x b f : Nat) (s : State) : (crossingCause x b f s).pending = s.pending := (crossingCause_form x b f s).pending
@[simp] theorem crossingCause_cad (x b f : Nat) (s : State) : (crossingCause x b f s).cad = s.cad := (crossingCause_form x b f s).cad
@[simp] theorem crossingCause_ports (x b f : Nat) (s : State) : (crossingCause x b f s).ports = s.ports := (crossingCause_form x b f s).ports
@[simp] theorem crossingCause_xbars (x b f : Nat) (s : State) : (crossingCause x b f s).xbars = s.xbars := (crossingCause_form x b f s).xbars
@[simp] theorem crossingCause_net (x b f : Nat) (s : State) : (crossingCause x b f s).net = s.net := (crossingCause_form x b f s).net
@[simp] theorem crossingCause_chans (x b f : Nat) (s : State) : (crossingCause x b f s).chans = s.chans := (crossingCause_form x b f s).chans
@[simp] theorem crossingCause_plaza (x b f : Nat) (s : State) : (crossingCause x b f s).plaza = s.plaza := (crossingCause_form x b f s).plaza
@[simp] theorem crossingCause_plazaLru (x b f : Nat) (s : State) : (crossingCause x b f s).plazaLru = s.plazaLru := (crossingCause_form x b f s).plazaLru
@[simp] theorem crossingCause_order (x b f : Nat) (s : State) : (crossingCause x b f s).order = s.order := (crossingCause_form x b f s).order
@[simp] theorem crossingCause_transit (x b f : Nat) (s : State) : (crossingCause x b f s).transit = s.transit := (crossingCause_form x b f s).transit
@[simp] theorem crossingCause_gathers (x b f : Nat) (s : State) : (crossingCause x b f s).gathers = s.gathers := (crossingCause_form x b f s).gathers
@[simp] theorem crossingCause_samples (x b f : Nat) (s : State) : (crossingCause x b f s).samples = s.samples := (crossingCause_form x b f s).samples
@[simp] theorem crossingCause_ledger (x b f : Nat) (s : State) : (crossingCause x b f s).ledger = s.ledger := (crossingCause_form x b f s).ledger
@[simp] theorem crossingCause_ledgerLru (x b f : Nat) (s : State) : (crossingCause x b f s).ledgerLru = s.ledgerLru := (crossingCause_form x b f s).ledgerLru
@[simp] theorem crossingCause_found (x b f : Nat) (s : State) : (crossingCause x b f s).found = s.found := (crossingCause_form x b f s).found
@[simp] theorem crossingCause_pinned (x b f : Nat) (s : State) : (crossingCause x b f s).pinned = s.pinned := (crossingCause_form x b f s).pinned
@[simp] theorem crossingCause_sealedList (x b f : Nat) (s : State) : (crossingCause x b f s).sealedList = s.sealedList := (crossingCause_form x b f s).sealedList
@[simp] theorem crossingCause_sealedFrom (x b f : Nat) (s : State) : (crossingCause x b f s).sealedFrom = s.sealedFrom := (crossingCause_form x b f s).sealedFrom
@[simp] theorem crossingCause_dram (x b f : Nat) (s : State) : (crossingCause x b f s).dram = s.dram := (crossingCause_form x b f s).dram
@[simp] theorem crossingCause_dists (x b f : Nat) (s : State) : (crossingCause x b f s).dists = s.dists := (crossingCause_form x b f s).dists
@[simp] theorem crossingCause_keys (x b f : Nat) (s : State) : (crossingCause x b f s).keys = s.keys := (crossingCause_form x b f s).keys
@[simp] theorem crossingCause_vault (x b f : Nat) (s : State) : (crossingCause x b f s).vault = s.vault := (crossingCause_form x b f s).vault
@[simp] theorem crossingCause_repair (x b f : Nat) (s : State) : (crossingCause x b f s).repair = s.repair := (crossingCause_form x b f s).repair
@[simp] theorem crossingCause_mirror (x b f : Nat) (s : State) : (crossingCause x b f s).mirror = s.mirror := (crossingCause_form x b f s).mirror
@[simp] theorem crossingCause_sup (x b f : Nat) (s : State) : (crossingCause x b f s).sup = s.sup := (crossingCause_form x b f s).sup
@[simp] theorem crossingCause_bays (x b f : Nat) (s : State) : (crossingCause x b f s).bays = s.bays := (crossingCause_form x b f s).bays
@[simp] theorem crossingCause_mgmt (x b f : Nat) (s : State) : (crossingCause x b f s).mgmt = s.mgmt := (crossingCause_form x b f s).mgmt
@[simp] theorem crossingCause_blk (x b f : Nat) (s : State) : (crossingCause x b f s).blk = s.blk := (crossingCause_form x b f s).blk
@[simp] theorem crossingCause_recs (x b f : Nat) (s : State) : (crossingCause x b f s).recs = s.recs := (crossingCause_form x b f s).recs
@[simp] theorem crossingCause_shadowObjs (x b f : Nat) (s : State) : (crossingCause x b f s).shadowObjs = s.shadowObjs := (crossingCause_form x b f s).shadowObjs
@[simp] theorem crossingCause_at_port (x b f : Nat) (s : State) (y : Nat) : (crossingCause x b f s).port y = s.port y := (crossingCause_form x b f s).at_port y
@[simp] theorem crossingCause_at_xbar (x b f : Nat) (s : State) (y : Nat) : (crossingCause x b f s).xbar y = s.xbar y := (crossingCause_form x b f s).at_xbar y
@[simp] theorem crossingCause_at_chan (x b f : Nat) (s : State) (y : Nat) : (crossingCause x b f s).chan y = s.chan y := (crossingCause_form x b f s).at_chan y
@[simp] theorem crossingCause_at_dist (x b f : Nat) (s : State) (y : Nat) : (crossingCause x b f s).dist y = s.dist y := (crossingCause_form x b f s).at_dist y
@[simp] theorem crossingCause_at_bay (x b f : Nat) (s : State) (y : Nat) : (crossingCause x b f s).bay y = s.bay y := (crossingCause_form x b f s).at_bay y
@[simp] theorem crossingCause_at_sense (x b f : Nat) (s : State) (y : Nat) : (crossingCause x b f s).sense y = s.sense y := (crossingCause_form x b f s).at_sense y
@[simp] theorem crossingCause_at_repairAt (x b f : Nat) (s : State) (y : Nat) : (crossingCause x b f s).repairAt y = s.repairAt y := (crossingCause_form x b f s).at_repairAt y
@[simp] theorem crossingCause_at_tx (x b f : Nat) (s : State) (y : Nat) : (crossingCause x b f s).tx y = s.tx y := (crossingCause_form x b f s).at_tx y
@[simp] theorem crossingCause_at_rx (x b f : Nat) (s : State) (y : Nat) : (crossingCause x b f s).rx y = s.rx y := (crossingCause_form x b f s).at_rx y
@[simp] theorem crossingCause_at_link (x b f : Nat) (s : State) (y : Nat) : (crossingCause x b f s).link y = s.link y := (crossingCause_form x b f s).at_link y
@[simp] theorem crossingCause_at_recN (x b f : Nat) (s : State) (y z o n : Nat) : (crossingCause x b f s).recN y z o n = s.recN y z o n := (crossingCause_form x b f s).at_recN y z o n
@[simp] theorem crossingCause_at_now (x b f : Nat) (s : State) : (crossingCause x b f s).now = s.now := (crossingCause_form x b f s).at_now
@[simp] theorem crossingCause_at_slotNow (x b f : Nat) (s : State) : (crossingCause x b f s).slotNow = s.slotNow := (crossingCause_form x b f s).at_slotNow
@[simp] theorem crossingCause_at_cycleNow (x b f : Nat) (s : State) : (crossingCause x b f s).cycleNow = s.cycleNow := (crossingCause_form x b f s).at_cycleNow
@[simp] theorem crossingCause_at_stampNow (x b f : Nat) (s : State) (y : Nat) : (crossingCause x b f s).stampNow y = s.stampNow y := (crossingCause_form x b f s).at_stampNow y
@[simp] theorem crossingCause_at_moduleAt (x b f : Nat) (s : State) (y : Nat) : (crossingCause x b f s).moduleAt y = s.moduleAt y := (crossingCause_form x b f s).at_moduleAt y

@[simp] theorem calCause_pending (c b : Nat) (s : State) : (calCause c b s).pending = s.pending := (calCause_form c b s).pending
@[simp] theorem calCause_cad (c b : Nat) (s : State) : (calCause c b s).cad = s.cad := (calCause_form c b s).cad
@[simp] theorem calCause_ports (c b : Nat) (s : State) : (calCause c b s).ports = s.ports := (calCause_form c b s).ports
@[simp] theorem calCause_xbars (c b : Nat) (s : State) : (calCause c b s).xbars = s.xbars := (calCause_form c b s).xbars
@[simp] theorem calCause_net (c b : Nat) (s : State) : (calCause c b s).net = s.net := (calCause_form c b s).net
@[simp] theorem calCause_chans (c b : Nat) (s : State) : (calCause c b s).chans = s.chans := (calCause_form c b s).chans
@[simp] theorem calCause_plaza (c b : Nat) (s : State) : (calCause c b s).plaza = s.plaza := (calCause_form c b s).plaza
@[simp] theorem calCause_plazaLru (c b : Nat) (s : State) : (calCause c b s).plazaLru = s.plazaLru := (calCause_form c b s).plazaLru
@[simp] theorem calCause_order (c b : Nat) (s : State) : (calCause c b s).order = s.order := (calCause_form c b s).order
@[simp] theorem calCause_transit (c b : Nat) (s : State) : (calCause c b s).transit = s.transit := (calCause_form c b s).transit
@[simp] theorem calCause_gathers (c b : Nat) (s : State) : (calCause c b s).gathers = s.gathers := (calCause_form c b s).gathers
@[simp] theorem calCause_samples (c b : Nat) (s : State) : (calCause c b s).samples = s.samples := (calCause_form c b s).samples
@[simp] theorem calCause_ledger (c b : Nat) (s : State) : (calCause c b s).ledger = s.ledger := (calCause_form c b s).ledger
@[simp] theorem calCause_ledgerLru (c b : Nat) (s : State) : (calCause c b s).ledgerLru = s.ledgerLru := (calCause_form c b s).ledgerLru
@[simp] theorem calCause_found (c b : Nat) (s : State) : (calCause c b s).found = s.found := (calCause_form c b s).found
@[simp] theorem calCause_pinned (c b : Nat) (s : State) : (calCause c b s).pinned = s.pinned := (calCause_form c b s).pinned
@[simp] theorem calCause_sealedList (c b : Nat) (s : State) : (calCause c b s).sealedList = s.sealedList := (calCause_form c b s).sealedList
@[simp] theorem calCause_sealedFrom (c b : Nat) (s : State) : (calCause c b s).sealedFrom = s.sealedFrom := (calCause_form c b s).sealedFrom
@[simp] theorem calCause_dram (c b : Nat) (s : State) : (calCause c b s).dram = s.dram := (calCause_form c b s).dram
@[simp] theorem calCause_dists (c b : Nat) (s : State) : (calCause c b s).dists = s.dists := (calCause_form c b s).dists
@[simp] theorem calCause_keys (c b : Nat) (s : State) : (calCause c b s).keys = s.keys := (calCause_form c b s).keys
@[simp] theorem calCause_vault (c b : Nat) (s : State) : (calCause c b s).vault = s.vault := (calCause_form c b s).vault
@[simp] theorem calCause_repair (c b : Nat) (s : State) : (calCause c b s).repair = s.repair := (calCause_form c b s).repair
@[simp] theorem calCause_mirror (c b : Nat) (s : State) : (calCause c b s).mirror = s.mirror := (calCause_form c b s).mirror
@[simp] theorem calCause_sup (c b : Nat) (s : State) : (calCause c b s).sup = s.sup := (calCause_form c b s).sup
@[simp] theorem calCause_bays (c b : Nat) (s : State) : (calCause c b s).bays = s.bays := (calCause_form c b s).bays
@[simp] theorem calCause_mgmt (c b : Nat) (s : State) : (calCause c b s).mgmt = s.mgmt := (calCause_form c b s).mgmt
@[simp] theorem calCause_blk (c b : Nat) (s : State) : (calCause c b s).blk = s.blk := (calCause_form c b s).blk
@[simp] theorem calCause_recs (c b : Nat) (s : State) : (calCause c b s).recs = s.recs := (calCause_form c b s).recs
@[simp] theorem calCause_shadowObjs (c b : Nat) (s : State) : (calCause c b s).shadowObjs = s.shadowObjs := (calCause_form c b s).shadowObjs
@[simp] theorem calCause_at_port (c b : Nat) (s : State) (y : Nat) : (calCause c b s).port y = s.port y := (calCause_form c b s).at_port y
@[simp] theorem calCause_at_xbar (c b : Nat) (s : State) (y : Nat) : (calCause c b s).xbar y = s.xbar y := (calCause_form c b s).at_xbar y
@[simp] theorem calCause_at_chan (c b : Nat) (s : State) (y : Nat) : (calCause c b s).chan y = s.chan y := (calCause_form c b s).at_chan y
@[simp] theorem calCause_at_dist (c b : Nat) (s : State) (y : Nat) : (calCause c b s).dist y = s.dist y := (calCause_form c b s).at_dist y
@[simp] theorem calCause_at_bay (c b : Nat) (s : State) (y : Nat) : (calCause c b s).bay y = s.bay y := (calCause_form c b s).at_bay y
@[simp] theorem calCause_at_sense (c b : Nat) (s : State) (y : Nat) : (calCause c b s).sense y = s.sense y := (calCause_form c b s).at_sense y
@[simp] theorem calCause_at_repairAt (c b : Nat) (s : State) (y : Nat) : (calCause c b s).repairAt y = s.repairAt y := (calCause_form c b s).at_repairAt y
@[simp] theorem calCause_at_tx (c b : Nat) (s : State) (y : Nat) : (calCause c b s).tx y = s.tx y := (calCause_form c b s).at_tx y
@[simp] theorem calCause_at_rx (c b : Nat) (s : State) (y : Nat) : (calCause c b s).rx y = s.rx y := (calCause_form c b s).at_rx y
@[simp] theorem calCause_at_link (c b : Nat) (s : State) (y : Nat) : (calCause c b s).link y = s.link y := (calCause_form c b s).at_link y
@[simp] theorem calCause_at_recN (c b : Nat) (s : State) (y z o n : Nat) : (calCause c b s).recN y z o n = s.recN y z o n := (calCause_form c b s).at_recN y z o n
@[simp] theorem calCause_at_now (c b : Nat) (s : State) : (calCause c b s).now = s.now := (calCause_form c b s).at_now
@[simp] theorem calCause_at_slotNow (c b : Nat) (s : State) : (calCause c b s).slotNow = s.slotNow := (calCause_form c b s).at_slotNow
@[simp] theorem calCause_at_cycleNow (c b : Nat) (s : State) : (calCause c b s).cycleNow = s.cycleNow := (calCause_form c b s).at_cycleNow
@[simp] theorem calCause_at_stampNow (c b : Nat) (s : State) (y : Nat) : (calCause c b s).stampNow y = s.stampNow y := (calCause_form c b s).at_stampNow y
@[simp] theorem calCause_at_moduleAt (c b : Nat) (s : State) (y : Nat) : (calCause c b s).moduleAt y = s.moduleAt y := (calCause_form c b s).at_moduleAt y

@[simp] theorem countChan_pending (c code k : Nat) (sub : Option Nat) (s : State) : (countChan c code k sub s).pending = s.pending := (countChan_form c code k sub s).pending
@[simp] theorem countChan_cad (c code k : Nat) (sub : Option Nat) (s : State) : (countChan c code k sub s).cad = s.cad := (countChan_form c code k sub s).cad
@[simp] theorem countChan_ports (c code k : Nat) (sub : Option Nat) (s : State) : (countChan c code k sub s).ports = s.ports := (countChan_form c code k sub s).ports
@[simp] theorem countChan_xbars (c code k : Nat) (sub : Option Nat) (s : State) : (countChan c code k sub s).xbars = s.xbars := (countChan_form c code k sub s).xbars
@[simp] theorem countChan_net (c code k : Nat) (sub : Option Nat) (s : State) : (countChan c code k sub s).net = s.net := (countChan_form c code k sub s).net
@[simp] theorem countChan_chans (c code k : Nat) (sub : Option Nat) (s : State) : (countChan c code k sub s).chans = s.chans := (countChan_form c code k sub s).chans
@[simp] theorem countChan_plaza (c code k : Nat) (sub : Option Nat) (s : State) : (countChan c code k sub s).plaza = s.plaza := (countChan_form c code k sub s).plaza
@[simp] theorem countChan_plazaLru (c code k : Nat) (sub : Option Nat) (s : State) : (countChan c code k sub s).plazaLru = s.plazaLru := (countChan_form c code k sub s).plazaLru
@[simp] theorem countChan_order (c code k : Nat) (sub : Option Nat) (s : State) : (countChan c code k sub s).order = s.order := (countChan_form c code k sub s).order
@[simp] theorem countChan_transit (c code k : Nat) (sub : Option Nat) (s : State) : (countChan c code k sub s).transit = s.transit := (countChan_form c code k sub s).transit
@[simp] theorem countChan_gathers (c code k : Nat) (sub : Option Nat) (s : State) : (countChan c code k sub s).gathers = s.gathers := (countChan_form c code k sub s).gathers
@[simp] theorem countChan_samples (c code k : Nat) (sub : Option Nat) (s : State) : (countChan c code k sub s).samples = s.samples := (countChan_form c code k sub s).samples
@[simp] theorem countChan_ledger (c code k : Nat) (sub : Option Nat) (s : State) : (countChan c code k sub s).ledger = s.ledger := (countChan_form c code k sub s).ledger
@[simp] theorem countChan_ledgerLru (c code k : Nat) (sub : Option Nat) (s : State) : (countChan c code k sub s).ledgerLru = s.ledgerLru := (countChan_form c code k sub s).ledgerLru
@[simp] theorem countChan_found (c code k : Nat) (sub : Option Nat) (s : State) : (countChan c code k sub s).found = s.found := (countChan_form c code k sub s).found
@[simp] theorem countChan_pinned (c code k : Nat) (sub : Option Nat) (s : State) : (countChan c code k sub s).pinned = s.pinned := (countChan_form c code k sub s).pinned
@[simp] theorem countChan_sealedList (c code k : Nat) (sub : Option Nat) (s : State) : (countChan c code k sub s).sealedList = s.sealedList := (countChan_form c code k sub s).sealedList
@[simp] theorem countChan_sealedFrom (c code k : Nat) (sub : Option Nat) (s : State) : (countChan c code k sub s).sealedFrom = s.sealedFrom := (countChan_form c code k sub s).sealedFrom
@[simp] theorem countChan_dram (c code k : Nat) (sub : Option Nat) (s : State) : (countChan c code k sub s).dram = s.dram := (countChan_form c code k sub s).dram
@[simp] theorem countChan_dists (c code k : Nat) (sub : Option Nat) (s : State) : (countChan c code k sub s).dists = s.dists := (countChan_form c code k sub s).dists
@[simp] theorem countChan_keys (c code k : Nat) (sub : Option Nat) (s : State) : (countChan c code k sub s).keys = s.keys := (countChan_form c code k sub s).keys
@[simp] theorem countChan_vault (c code k : Nat) (sub : Option Nat) (s : State) : (countChan c code k sub s).vault = s.vault := (countChan_form c code k sub s).vault
@[simp] theorem countChan_repair (c code k : Nat) (sub : Option Nat) (s : State) : (countChan c code k sub s).repair = s.repair := (countChan_form c code k sub s).repair
@[simp] theorem countChan_mirror (c code k : Nat) (sub : Option Nat) (s : State) : (countChan c code k sub s).mirror = s.mirror := (countChan_form c code k sub s).mirror
@[simp] theorem countChan_sup (c code k : Nat) (sub : Option Nat) (s : State) : (countChan c code k sub s).sup = s.sup := (countChan_form c code k sub s).sup
@[simp] theorem countChan_bays (c code k : Nat) (sub : Option Nat) (s : State) : (countChan c code k sub s).bays = s.bays := (countChan_form c code k sub s).bays
@[simp] theorem countChan_mgmt (c code k : Nat) (sub : Option Nat) (s : State) : (countChan c code k sub s).mgmt = s.mgmt := (countChan_form c code k sub s).mgmt
@[simp] theorem countChan_blk (c code k : Nat) (sub : Option Nat) (s : State) : (countChan c code k sub s).blk = s.blk := (countChan_form c code k sub s).blk
@[simp] theorem countChan_recs (c code k : Nat) (sub : Option Nat) (s : State) : (countChan c code k sub s).recs = s.recs := (countChan_form c code k sub s).recs
@[simp] theorem countChan_shadowObjs (c code k : Nat) (sub : Option Nat) (s : State) : (countChan c code k sub s).shadowObjs = s.shadowObjs := (countChan_form c code k sub s).shadowObjs
@[simp] theorem countChan_at_port (c code k : Nat) (sub : Option Nat) (s : State) (y : Nat) : (countChan c code k sub s).port y = s.port y := (countChan_form c code k sub s).at_port y
@[simp] theorem countChan_at_xbar (c code k : Nat) (sub : Option Nat) (s : State) (y : Nat) : (countChan c code k sub s).xbar y = s.xbar y := (countChan_form c code k sub s).at_xbar y
@[simp] theorem countChan_at_chan (c code k : Nat) (sub : Option Nat) (s : State) (y : Nat) : (countChan c code k sub s).chan y = s.chan y := (countChan_form c code k sub s).at_chan y
@[simp] theorem countChan_at_dist (c code k : Nat) (sub : Option Nat) (s : State) (y : Nat) : (countChan c code k sub s).dist y = s.dist y := (countChan_form c code k sub s).at_dist y
@[simp] theorem countChan_at_bay (c code k : Nat) (sub : Option Nat) (s : State) (y : Nat) : (countChan c code k sub s).bay y = s.bay y := (countChan_form c code k sub s).at_bay y
@[simp] theorem countChan_at_sense (c code k : Nat) (sub : Option Nat) (s : State) (y : Nat) : (countChan c code k sub s).sense y = s.sense y := (countChan_form c code k sub s).at_sense y
@[simp] theorem countChan_at_repairAt (c code k : Nat) (sub : Option Nat) (s : State) (y : Nat) : (countChan c code k sub s).repairAt y = s.repairAt y := (countChan_form c code k sub s).at_repairAt y
@[simp] theorem countChan_at_tx (c code k : Nat) (sub : Option Nat) (s : State) (y : Nat) : (countChan c code k sub s).tx y = s.tx y := (countChan_form c code k sub s).at_tx y
@[simp] theorem countChan_at_rx (c code k : Nat) (sub : Option Nat) (s : State) (y : Nat) : (countChan c code k sub s).rx y = s.rx y := (countChan_form c code k sub s).at_rx y
@[simp] theorem countChan_at_link (c code k : Nat) (sub : Option Nat) (s : State) (y : Nat) : (countChan c code k sub s).link y = s.link y := (countChan_form c code k sub s).at_link y
@[simp] theorem countChan_at_recN (c code k : Nat) (sub : Option Nat) (s : State) (y z o n : Nat) : (countChan c code k sub s).recN y z o n = s.recN y z o n := (countChan_form c code k sub s).at_recN y z o n
@[simp] theorem countChan_at_now (c code k : Nat) (sub : Option Nat) (s : State) : (countChan c code k sub s).now = s.now := (countChan_form c code k sub s).at_now
@[simp] theorem countChan_at_slotNow (c code k : Nat) (sub : Option Nat) (s : State) : (countChan c code k sub s).slotNow = s.slotNow := (countChan_form c code k sub s).at_slotNow
@[simp] theorem countChan_at_cycleNow (c code k : Nat) (sub : Option Nat) (s : State) : (countChan c code k sub s).cycleNow = s.cycleNow := (countChan_form c code k sub s).at_cycleNow
@[simp] theorem countChan_at_stampNow (c code k : Nat) (sub : Option Nat) (s : State) (y : Nat) : (countChan c code k sub s).stampNow y = s.stampNow y := (countChan_form c code k sub s).at_stampNow y
@[simp] theorem countChan_at_moduleAt (c code k : Nat) (sub : Option Nat) (s : State) (y : Nat) : (countChan c code k sub s).moduleAt y = s.moduleAt y := (countChan_form c code k sub s).at_moduleAt y

@[simp] theorem countPort_pending (p code k : Nat) (s : State) : (countPort p code k s).pending = s.pending := (countPort_form p code k s).pending
@[simp] theorem countPort_cad (p code k : Nat) (s : State) : (countPort p code k s).cad = s.cad := (countPort_form p code k s).cad
@[simp] theorem countPort_ports (p code k : Nat) (s : State) : (countPort p code k s).ports = s.ports := (countPort_form p code k s).ports
@[simp] theorem countPort_xbars (p code k : Nat) (s : State) : (countPort p code k s).xbars = s.xbars := (countPort_form p code k s).xbars
@[simp] theorem countPort_net (p code k : Nat) (s : State) : (countPort p code k s).net = s.net := (countPort_form p code k s).net
@[simp] theorem countPort_chans (p code k : Nat) (s : State) : (countPort p code k s).chans = s.chans := (countPort_form p code k s).chans
@[simp] theorem countPort_plaza (p code k : Nat) (s : State) : (countPort p code k s).plaza = s.plaza := (countPort_form p code k s).plaza
@[simp] theorem countPort_plazaLru (p code k : Nat) (s : State) : (countPort p code k s).plazaLru = s.plazaLru := (countPort_form p code k s).plazaLru
@[simp] theorem countPort_order (p code k : Nat) (s : State) : (countPort p code k s).order = s.order := (countPort_form p code k s).order
@[simp] theorem countPort_transit (p code k : Nat) (s : State) : (countPort p code k s).transit = s.transit := (countPort_form p code k s).transit
@[simp] theorem countPort_gathers (p code k : Nat) (s : State) : (countPort p code k s).gathers = s.gathers := (countPort_form p code k s).gathers
@[simp] theorem countPort_samples (p code k : Nat) (s : State) : (countPort p code k s).samples = s.samples := (countPort_form p code k s).samples
@[simp] theorem countPort_ledger (p code k : Nat) (s : State) : (countPort p code k s).ledger = s.ledger := (countPort_form p code k s).ledger
@[simp] theorem countPort_ledgerLru (p code k : Nat) (s : State) : (countPort p code k s).ledgerLru = s.ledgerLru := (countPort_form p code k s).ledgerLru
@[simp] theorem countPort_found (p code k : Nat) (s : State) : (countPort p code k s).found = s.found := (countPort_form p code k s).found
@[simp] theorem countPort_pinned (p code k : Nat) (s : State) : (countPort p code k s).pinned = s.pinned := (countPort_form p code k s).pinned
@[simp] theorem countPort_sealedList (p code k : Nat) (s : State) : (countPort p code k s).sealedList = s.sealedList := (countPort_form p code k s).sealedList
@[simp] theorem countPort_sealedFrom (p code k : Nat) (s : State) : (countPort p code k s).sealedFrom = s.sealedFrom := (countPort_form p code k s).sealedFrom
@[simp] theorem countPort_dram (p code k : Nat) (s : State) : (countPort p code k s).dram = s.dram := (countPort_form p code k s).dram
@[simp] theorem countPort_dists (p code k : Nat) (s : State) : (countPort p code k s).dists = s.dists := (countPort_form p code k s).dists
@[simp] theorem countPort_keys (p code k : Nat) (s : State) : (countPort p code k s).keys = s.keys := (countPort_form p code k s).keys
@[simp] theorem countPort_vault (p code k : Nat) (s : State) : (countPort p code k s).vault = s.vault := (countPort_form p code k s).vault
@[simp] theorem countPort_repair (p code k : Nat) (s : State) : (countPort p code k s).repair = s.repair := (countPort_form p code k s).repair
@[simp] theorem countPort_mirror (p code k : Nat) (s : State) : (countPort p code k s).mirror = s.mirror := (countPort_form p code k s).mirror
@[simp] theorem countPort_sup (p code k : Nat) (s : State) : (countPort p code k s).sup = s.sup := (countPort_form p code k s).sup
@[simp] theorem countPort_bays (p code k : Nat) (s : State) : (countPort p code k s).bays = s.bays := (countPort_form p code k s).bays
@[simp] theorem countPort_mgmt (p code k : Nat) (s : State) : (countPort p code k s).mgmt = s.mgmt := (countPort_form p code k s).mgmt
@[simp] theorem countPort_blk (p code k : Nat) (s : State) : (countPort p code k s).blk = s.blk := (countPort_form p code k s).blk
@[simp] theorem countPort_recs (p code k : Nat) (s : State) : (countPort p code k s).recs = s.recs := (countPort_form p code k s).recs
@[simp] theorem countPort_shadowObjs (p code k : Nat) (s : State) : (countPort p code k s).shadowObjs = s.shadowObjs := (countPort_form p code k s).shadowObjs
@[simp] theorem countPort_at_port (p code k : Nat) (s : State) (y : Nat) : (countPort p code k s).port y = s.port y := (countPort_form p code k s).at_port y
@[simp] theorem countPort_at_xbar (p code k : Nat) (s : State) (y : Nat) : (countPort p code k s).xbar y = s.xbar y := (countPort_form p code k s).at_xbar y
@[simp] theorem countPort_at_chan (p code k : Nat) (s : State) (y : Nat) : (countPort p code k s).chan y = s.chan y := (countPort_form p code k s).at_chan y
@[simp] theorem countPort_at_dist (p code k : Nat) (s : State) (y : Nat) : (countPort p code k s).dist y = s.dist y := (countPort_form p code k s).at_dist y
@[simp] theorem countPort_at_bay (p code k : Nat) (s : State) (y : Nat) : (countPort p code k s).bay y = s.bay y := (countPort_form p code k s).at_bay y
@[simp] theorem countPort_at_sense (p code k : Nat) (s : State) (y : Nat) : (countPort p code k s).sense y = s.sense y := (countPort_form p code k s).at_sense y
@[simp] theorem countPort_at_repairAt (p code k : Nat) (s : State) (y : Nat) : (countPort p code k s).repairAt y = s.repairAt y := (countPort_form p code k s).at_repairAt y
@[simp] theorem countPort_at_tx (p code k : Nat) (s : State) (y : Nat) : (countPort p code k s).tx y = s.tx y := (countPort_form p code k s).at_tx y
@[simp] theorem countPort_at_rx (p code k : Nat) (s : State) (y : Nat) : (countPort p code k s).rx y = s.rx y := (countPort_form p code k s).at_rx y
@[simp] theorem countPort_at_link (p code k : Nat) (s : State) (y : Nat) : (countPort p code k s).link y = s.link y := (countPort_form p code k s).at_link y
@[simp] theorem countPort_at_recN (p code k : Nat) (s : State) (y z o n : Nat) : (countPort p code k s).recN y z o n = s.recN y z o n := (countPort_form p code k s).at_recN y z o n
@[simp] theorem countPort_at_now (p code k : Nat) (s : State) : (countPort p code k s).now = s.now := (countPort_form p code k s).at_now
@[simp] theorem countPort_at_slotNow (p code k : Nat) (s : State) : (countPort p code k s).slotNow = s.slotNow := (countPort_form p code k s).at_slotNow
@[simp] theorem countPort_at_cycleNow (p code k : Nat) (s : State) : (countPort p code k s).cycleNow = s.cycleNow := (countPort_form p code k s).at_cycleNow
@[simp] theorem countPort_at_stampNow (p code k : Nat) (s : State) (y : Nat) : (countPort p code k s).stampNow y = s.stampNow y := (countPort_form p code k s).at_stampNow y
@[simp] theorem countPort_at_moduleAt (p code k : Nat) (s : State) (y : Nat) : (countPort p code k s).moduleAt y = s.moduleAt y := (countPort_form p code k s).at_moduleAt y

@[simp] theorem countCrossing_pending (x code o k : Nat) (s : State) : (countCrossing x code o k s).pending = s.pending := (countCrossing_form x code o k s).pending
@[simp] theorem countCrossing_cad (x code o k : Nat) (s : State) : (countCrossing x code o k s).cad = s.cad := (countCrossing_form x code o k s).cad
@[simp] theorem countCrossing_ports (x code o k : Nat) (s : State) : (countCrossing x code o k s).ports = s.ports := (countCrossing_form x code o k s).ports
@[simp] theorem countCrossing_xbars (x code o k : Nat) (s : State) : (countCrossing x code o k s).xbars = s.xbars := (countCrossing_form x code o k s).xbars
@[simp] theorem countCrossing_net (x code o k : Nat) (s : State) : (countCrossing x code o k s).net = s.net := (countCrossing_form x code o k s).net
@[simp] theorem countCrossing_chans (x code o k : Nat) (s : State) : (countCrossing x code o k s).chans = s.chans := (countCrossing_form x code o k s).chans
@[simp] theorem countCrossing_plaza (x code o k : Nat) (s : State) : (countCrossing x code o k s).plaza = s.plaza := (countCrossing_form x code o k s).plaza
@[simp] theorem countCrossing_plazaLru (x code o k : Nat) (s : State) : (countCrossing x code o k s).plazaLru = s.plazaLru := (countCrossing_form x code o k s).plazaLru
@[simp] theorem countCrossing_order (x code o k : Nat) (s : State) : (countCrossing x code o k s).order = s.order := (countCrossing_form x code o k s).order
@[simp] theorem countCrossing_transit (x code o k : Nat) (s : State) : (countCrossing x code o k s).transit = s.transit := (countCrossing_form x code o k s).transit
@[simp] theorem countCrossing_gathers (x code o k : Nat) (s : State) : (countCrossing x code o k s).gathers = s.gathers := (countCrossing_form x code o k s).gathers
@[simp] theorem countCrossing_samples (x code o k : Nat) (s : State) : (countCrossing x code o k s).samples = s.samples := (countCrossing_form x code o k s).samples
@[simp] theorem countCrossing_ledger (x code o k : Nat) (s : State) : (countCrossing x code o k s).ledger = s.ledger := (countCrossing_form x code o k s).ledger
@[simp] theorem countCrossing_ledgerLru (x code o k : Nat) (s : State) : (countCrossing x code o k s).ledgerLru = s.ledgerLru := (countCrossing_form x code o k s).ledgerLru
@[simp] theorem countCrossing_found (x code o k : Nat) (s : State) : (countCrossing x code o k s).found = s.found := (countCrossing_form x code o k s).found
@[simp] theorem countCrossing_pinned (x code o k : Nat) (s : State) : (countCrossing x code o k s).pinned = s.pinned := (countCrossing_form x code o k s).pinned
@[simp] theorem countCrossing_sealedList (x code o k : Nat) (s : State) : (countCrossing x code o k s).sealedList = s.sealedList := (countCrossing_form x code o k s).sealedList
@[simp] theorem countCrossing_sealedFrom (x code o k : Nat) (s : State) : (countCrossing x code o k s).sealedFrom = s.sealedFrom := (countCrossing_form x code o k s).sealedFrom
@[simp] theorem countCrossing_dram (x code o k : Nat) (s : State) : (countCrossing x code o k s).dram = s.dram := (countCrossing_form x code o k s).dram
@[simp] theorem countCrossing_dists (x code o k : Nat) (s : State) : (countCrossing x code o k s).dists = s.dists := (countCrossing_form x code o k s).dists
@[simp] theorem countCrossing_keys (x code o k : Nat) (s : State) : (countCrossing x code o k s).keys = s.keys := (countCrossing_form x code o k s).keys
@[simp] theorem countCrossing_vault (x code o k : Nat) (s : State) : (countCrossing x code o k s).vault = s.vault := (countCrossing_form x code o k s).vault
@[simp] theorem countCrossing_repair (x code o k : Nat) (s : State) : (countCrossing x code o k s).repair = s.repair := (countCrossing_form x code o k s).repair
@[simp] theorem countCrossing_mirror (x code o k : Nat) (s : State) : (countCrossing x code o k s).mirror = s.mirror := (countCrossing_form x code o k s).mirror
@[simp] theorem countCrossing_sup (x code o k : Nat) (s : State) : (countCrossing x code o k s).sup = s.sup := (countCrossing_form x code o k s).sup
@[simp] theorem countCrossing_bays (x code o k : Nat) (s : State) : (countCrossing x code o k s).bays = s.bays := (countCrossing_form x code o k s).bays
@[simp] theorem countCrossing_mgmt (x code o k : Nat) (s : State) : (countCrossing x code o k s).mgmt = s.mgmt := (countCrossing_form x code o k s).mgmt
@[simp] theorem countCrossing_blk (x code o k : Nat) (s : State) : (countCrossing x code o k s).blk = s.blk := (countCrossing_form x code o k s).blk
@[simp] theorem countCrossing_recs (x code o k : Nat) (s : State) : (countCrossing x code o k s).recs = s.recs := (countCrossing_form x code o k s).recs
@[simp] theorem countCrossing_shadowObjs (x code o k : Nat) (s : State) : (countCrossing x code o k s).shadowObjs = s.shadowObjs := (countCrossing_form x code o k s).shadowObjs
@[simp] theorem countCrossing_at_port (x code o k : Nat) (s : State) (y : Nat) : (countCrossing x code o k s).port y = s.port y := (countCrossing_form x code o k s).at_port y
@[simp] theorem countCrossing_at_xbar (x code o k : Nat) (s : State) (y : Nat) : (countCrossing x code o k s).xbar y = s.xbar y := (countCrossing_form x code o k s).at_xbar y
@[simp] theorem countCrossing_at_chan (x code o k : Nat) (s : State) (y : Nat) : (countCrossing x code o k s).chan y = s.chan y := (countCrossing_form x code o k s).at_chan y
@[simp] theorem countCrossing_at_dist (x code o k : Nat) (s : State) (y : Nat) : (countCrossing x code o k s).dist y = s.dist y := (countCrossing_form x code o k s).at_dist y
@[simp] theorem countCrossing_at_bay (x code o k : Nat) (s : State) (y : Nat) : (countCrossing x code o k s).bay y = s.bay y := (countCrossing_form x code o k s).at_bay y
@[simp] theorem countCrossing_at_sense (x code o k : Nat) (s : State) (y : Nat) : (countCrossing x code o k s).sense y = s.sense y := (countCrossing_form x code o k s).at_sense y
@[simp] theorem countCrossing_at_repairAt (x code o k : Nat) (s : State) (y : Nat) : (countCrossing x code o k s).repairAt y = s.repairAt y := (countCrossing_form x code o k s).at_repairAt y
@[simp] theorem countCrossing_at_tx (x code o k : Nat) (s : State) (y : Nat) : (countCrossing x code o k s).tx y = s.tx y := (countCrossing_form x code o k s).at_tx y
@[simp] theorem countCrossing_at_rx (x code o k : Nat) (s : State) (y : Nat) : (countCrossing x code o k s).rx y = s.rx y := (countCrossing_form x code o k s).at_rx y
@[simp] theorem countCrossing_at_link (x code o k : Nat) (s : State) (y : Nat) : (countCrossing x code o k s).link y = s.link y := (countCrossing_form x code o k s).at_link y
@[simp] theorem countCrossing_at_recN (x code o k : Nat) (s : State) (y z o n : Nat) : (countCrossing x code o k s).recN y z o n = s.recN y z o n := (countCrossing_form x code o k s).at_recN y z o n
@[simp] theorem countCrossing_at_now (x code o k : Nat) (s : State) : (countCrossing x code o k s).now = s.now := (countCrossing_form x code o k s).at_now
@[simp] theorem countCrossing_at_slotNow (x code o k : Nat) (s : State) : (countCrossing x code o k s).slotNow = s.slotNow := (countCrossing_form x code o k s).at_slotNow
@[simp] theorem countCrossing_at_cycleNow (x code o k : Nat) (s : State) : (countCrossing x code o k s).cycleNow = s.cycleNow := (countCrossing_form x code o k s).at_cycleNow
@[simp] theorem countCrossing_at_stampNow (x code o k : Nat) (s : State) (y : Nat) : (countCrossing x code o k s).stampNow y = s.stampNow y := (countCrossing_form x code o k s).at_stampNow y
@[simp] theorem countCrossing_at_moduleAt (x code o k : Nat) (s : State) (y : Nat) : (countCrossing x code o k s).moduleAt y = s.moduleAt y := (countCrossing_form x code o k s).at_moduleAt y

@[simp] theorem clearPending_pending (n : Nat) (s : State) : (clearPending n s).pending = s.pending := (clearPending_form n s).pending
@[simp] theorem clearPending_cad (n : Nat) (s : State) : (clearPending n s).cad = s.cad := (clearPending_form n s).cad
@[simp] theorem clearPending_ports (n : Nat) (s : State) : (clearPending n s).ports = s.ports := (clearPending_form n s).ports
@[simp] theorem clearPending_xbars (n : Nat) (s : State) : (clearPending n s).xbars = s.xbars := (clearPending_form n s).xbars
@[simp] theorem clearPending_net (n : Nat) (s : State) : (clearPending n s).net = s.net := (clearPending_form n s).net
@[simp] theorem clearPending_chans (n : Nat) (s : State) : (clearPending n s).chans = s.chans := (clearPending_form n s).chans
@[simp] theorem clearPending_plaza (n : Nat) (s : State) : (clearPending n s).plaza = s.plaza := (clearPending_form n s).plaza
@[simp] theorem clearPending_plazaLru (n : Nat) (s : State) : (clearPending n s).plazaLru = s.plazaLru := (clearPending_form n s).plazaLru
@[simp] theorem clearPending_order (n : Nat) (s : State) : (clearPending n s).order = s.order := (clearPending_form n s).order
@[simp] theorem clearPending_transit (n : Nat) (s : State) : (clearPending n s).transit = s.transit := (clearPending_form n s).transit
@[simp] theorem clearPending_gathers (n : Nat) (s : State) : (clearPending n s).gathers = s.gathers := (clearPending_form n s).gathers
@[simp] theorem clearPending_samples (n : Nat) (s : State) : (clearPending n s).samples = s.samples := (clearPending_form n s).samples
@[simp] theorem clearPending_ledger (n : Nat) (s : State) : (clearPending n s).ledger = s.ledger := (clearPending_form n s).ledger
@[simp] theorem clearPending_ledgerLru (n : Nat) (s : State) : (clearPending n s).ledgerLru = s.ledgerLru := (clearPending_form n s).ledgerLru
@[simp] theorem clearPending_found (n : Nat) (s : State) : (clearPending n s).found = s.found := (clearPending_form n s).found
@[simp] theorem clearPending_pinned (n : Nat) (s : State) : (clearPending n s).pinned = s.pinned := (clearPending_form n s).pinned
@[simp] theorem clearPending_sealedList (n : Nat) (s : State) : (clearPending n s).sealedList = s.sealedList := (clearPending_form n s).sealedList
@[simp] theorem clearPending_sealedFrom (n : Nat) (s : State) : (clearPending n s).sealedFrom = s.sealedFrom := (clearPending_form n s).sealedFrom
@[simp] theorem clearPending_dram (n : Nat) (s : State) : (clearPending n s).dram = s.dram := (clearPending_form n s).dram
@[simp] theorem clearPending_dists (n : Nat) (s : State) : (clearPending n s).dists = s.dists := (clearPending_form n s).dists
@[simp] theorem clearPending_keys (n : Nat) (s : State) : (clearPending n s).keys = s.keys := (clearPending_form n s).keys
@[simp] theorem clearPending_vault (n : Nat) (s : State) : (clearPending n s).vault = s.vault := (clearPending_form n s).vault
@[simp] theorem clearPending_repair (n : Nat) (s : State) : (clearPending n s).repair = s.repair := (clearPending_form n s).repair
@[simp] theorem clearPending_mirror (n : Nat) (s : State) : (clearPending n s).mirror = s.mirror := (clearPending_form n s).mirror
@[simp] theorem clearPending_sup (n : Nat) (s : State) : (clearPending n s).sup = s.sup := (clearPending_form n s).sup
@[simp] theorem clearPending_bays (n : Nat) (s : State) : (clearPending n s).bays = s.bays := (clearPending_form n s).bays
@[simp] theorem clearPending_mgmt (n : Nat) (s : State) : (clearPending n s).mgmt = s.mgmt := (clearPending_form n s).mgmt
@[simp] theorem clearPending_blk (n : Nat) (s : State) : (clearPending n s).blk = s.blk := (clearPending_form n s).blk
@[simp] theorem clearPending_recs (n : Nat) (s : State) : (clearPending n s).recs = s.recs := (clearPending_form n s).recs
@[simp] theorem clearPending_shadowObjs (n : Nat) (s : State) : (clearPending n s).shadowObjs = s.shadowObjs := (clearPending_form n s).shadowObjs
@[simp] theorem clearPending_at_port (n : Nat) (s : State) (y : Nat) : (clearPending n s).port y = s.port y := (clearPending_form n s).at_port y
@[simp] theorem clearPending_at_xbar (n : Nat) (s : State) (y : Nat) : (clearPending n s).xbar y = s.xbar y := (clearPending_form n s).at_xbar y
@[simp] theorem clearPending_at_chan (n : Nat) (s : State) (y : Nat) : (clearPending n s).chan y = s.chan y := (clearPending_form n s).at_chan y
@[simp] theorem clearPending_at_dist (n : Nat) (s : State) (y : Nat) : (clearPending n s).dist y = s.dist y := (clearPending_form n s).at_dist y
@[simp] theorem clearPending_at_bay (n : Nat) (s : State) (y : Nat) : (clearPending n s).bay y = s.bay y := (clearPending_form n s).at_bay y
@[simp] theorem clearPending_at_sense (n : Nat) (s : State) (y : Nat) : (clearPending n s).sense y = s.sense y := (clearPending_form n s).at_sense y
@[simp] theorem clearPending_at_repairAt (n : Nat) (s : State) (y : Nat) : (clearPending n s).repairAt y = s.repairAt y := (clearPending_form n s).at_repairAt y
@[simp] theorem clearPending_at_tx (n : Nat) (s : State) (y : Nat) : (clearPending n s).tx y = s.tx y := (clearPending_form n s).at_tx y
@[simp] theorem clearPending_at_rx (n : Nat) (s : State) (y : Nat) : (clearPending n s).rx y = s.rx y := (clearPending_form n s).at_rx y
@[simp] theorem clearPending_at_link (n : Nat) (s : State) (y : Nat) : (clearPending n s).link y = s.link y := (clearPending_form n s).at_link y
@[simp] theorem clearPending_at_recN (n : Nat) (s : State) (y z o n : Nat) : (clearPending n s).recN y z o n = s.recN y z o n := (clearPending_form n s).at_recN y z o n
@[simp] theorem clearPending_at_now (n : Nat) (s : State) : (clearPending n s).now = s.now := (clearPending_form n s).at_now
@[simp] theorem clearPending_at_slotNow (n : Nat) (s : State) : (clearPending n s).slotNow = s.slotNow := (clearPending_form n s).at_slotNow
@[simp] theorem clearPending_at_cycleNow (n : Nat) (s : State) : (clearPending n s).cycleNow = s.cycleNow := (clearPending_form n s).at_cycleNow
@[simp] theorem clearPending_at_stampNow (n : Nat) (s : State) (y : Nat) : (clearPending n s).stampNow y = s.stampNow y := (clearPending_form n s).at_stampNow y
@[simp] theorem clearPending_at_moduleAt (n : Nat) (s : State) (y : Nat) : (clearPending n s).moduleAt y = s.moduleAt y := (clearPending_form n s).at_moduleAt y

@[simp] theorem storeReset_pending (k : Nat) (s : State) : (storeReset k s).pending = s.pending := (storeReset_form k s).pending
@[simp] theorem storeReset_cad (k : Nat) (s : State) : (storeReset k s).cad = s.cad := (storeReset_form k s).cad
@[simp] theorem storeReset_ports (k : Nat) (s : State) : (storeReset k s).ports = s.ports := (storeReset_form k s).ports
@[simp] theorem storeReset_xbars (k : Nat) (s : State) : (storeReset k s).xbars = s.xbars := (storeReset_form k s).xbars
@[simp] theorem storeReset_net (k : Nat) (s : State) : (storeReset k s).net = s.net := (storeReset_form k s).net
@[simp] theorem storeReset_chans (k : Nat) (s : State) : (storeReset k s).chans = s.chans := (storeReset_form k s).chans
@[simp] theorem storeReset_plaza (k : Nat) (s : State) : (storeReset k s).plaza = s.plaza := (storeReset_form k s).plaza
@[simp] theorem storeReset_plazaLru (k : Nat) (s : State) : (storeReset k s).plazaLru = s.plazaLru := (storeReset_form k s).plazaLru
@[simp] theorem storeReset_order (k : Nat) (s : State) : (storeReset k s).order = s.order := (storeReset_form k s).order
@[simp] theorem storeReset_transit (k : Nat) (s : State) : (storeReset k s).transit = s.transit := (storeReset_form k s).transit
@[simp] theorem storeReset_gathers (k : Nat) (s : State) : (storeReset k s).gathers = s.gathers := (storeReset_form k s).gathers
@[simp] theorem storeReset_samples (k : Nat) (s : State) : (storeReset k s).samples = s.samples := (storeReset_form k s).samples
@[simp] theorem storeReset_ledger (k : Nat) (s : State) : (storeReset k s).ledger = s.ledger := (storeReset_form k s).ledger
@[simp] theorem storeReset_ledgerLru (k : Nat) (s : State) : (storeReset k s).ledgerLru = s.ledgerLru := (storeReset_form k s).ledgerLru
@[simp] theorem storeReset_found (k : Nat) (s : State) : (storeReset k s).found = s.found := (storeReset_form k s).found
@[simp] theorem storeReset_pinned (k : Nat) (s : State) : (storeReset k s).pinned = s.pinned := (storeReset_form k s).pinned
@[simp] theorem storeReset_sealedList (k : Nat) (s : State) : (storeReset k s).sealedList = s.sealedList := (storeReset_form k s).sealedList
@[simp] theorem storeReset_sealedFrom (k : Nat) (s : State) : (storeReset k s).sealedFrom = s.sealedFrom := (storeReset_form k s).sealedFrom
@[simp] theorem storeReset_dram (k : Nat) (s : State) : (storeReset k s).dram = s.dram := (storeReset_form k s).dram
@[simp] theorem storeReset_dists (k : Nat) (s : State) : (storeReset k s).dists = s.dists := (storeReset_form k s).dists
@[simp] theorem storeReset_keys (k : Nat) (s : State) : (storeReset k s).keys = s.keys := (storeReset_form k s).keys
@[simp] theorem storeReset_vault (k : Nat) (s : State) : (storeReset k s).vault = s.vault := (storeReset_form k s).vault
@[simp] theorem storeReset_repair (k : Nat) (s : State) : (storeReset k s).repair = s.repair := (storeReset_form k s).repair
@[simp] theorem storeReset_mirror (k : Nat) (s : State) : (storeReset k s).mirror = s.mirror := (storeReset_form k s).mirror
@[simp] theorem storeReset_sup (k : Nat) (s : State) : (storeReset k s).sup = s.sup := (storeReset_form k s).sup
@[simp] theorem storeReset_bays (k : Nat) (s : State) : (storeReset k s).bays = s.bays := (storeReset_form k s).bays
@[simp] theorem storeReset_mgmt (k : Nat) (s : State) : (storeReset k s).mgmt = s.mgmt := (storeReset_form k s).mgmt
@[simp] theorem storeReset_blk (k : Nat) (s : State) : (storeReset k s).blk = s.blk := (storeReset_form k s).blk
@[simp] theorem storeReset_recs (k : Nat) (s : State) : (storeReset k s).recs = s.recs := (storeReset_form k s).recs
@[simp] theorem storeReset_shadowObjs (k : Nat) (s : State) : (storeReset k s).shadowObjs = s.shadowObjs := (storeReset_form k s).shadowObjs
@[simp] theorem storeReset_at_port (k : Nat) (s : State) (y : Nat) : (storeReset k s).port y = s.port y := (storeReset_form k s).at_port y
@[simp] theorem storeReset_at_xbar (k : Nat) (s : State) (y : Nat) : (storeReset k s).xbar y = s.xbar y := (storeReset_form k s).at_xbar y
@[simp] theorem storeReset_at_chan (k : Nat) (s : State) (y : Nat) : (storeReset k s).chan y = s.chan y := (storeReset_form k s).at_chan y
@[simp] theorem storeReset_at_dist (k : Nat) (s : State) (y : Nat) : (storeReset k s).dist y = s.dist y := (storeReset_form k s).at_dist y
@[simp] theorem storeReset_at_bay (k : Nat) (s : State) (y : Nat) : (storeReset k s).bay y = s.bay y := (storeReset_form k s).at_bay y
@[simp] theorem storeReset_at_sense (k : Nat) (s : State) (y : Nat) : (storeReset k s).sense y = s.sense y := (storeReset_form k s).at_sense y
@[simp] theorem storeReset_at_repairAt (k : Nat) (s : State) (y : Nat) : (storeReset k s).repairAt y = s.repairAt y := (storeReset_form k s).at_repairAt y
@[simp] theorem storeReset_at_tx (k : Nat) (s : State) (y : Nat) : (storeReset k s).tx y = s.tx y := (storeReset_form k s).at_tx y
@[simp] theorem storeReset_at_rx (k : Nat) (s : State) (y : Nat) : (storeReset k s).rx y = s.rx y := (storeReset_form k s).at_rx y
@[simp] theorem storeReset_at_link (k : Nat) (s : State) (y : Nat) : (storeReset k s).link y = s.link y := (storeReset_form k s).at_link y
@[simp] theorem storeReset_at_recN (k : Nat) (s : State) (y z o n : Nat) : (storeReset k s).recN y z o n = s.recN y z o n := (storeReset_form k s).at_recN y z o n
@[simp] theorem storeReset_at_now (k : Nat) (s : State) : (storeReset k s).now = s.now := (storeReset_form k s).at_now
@[simp] theorem storeReset_at_slotNow (k : Nat) (s : State) : (storeReset k s).slotNow = s.slotNow := (storeReset_form k s).at_slotNow
@[simp] theorem storeReset_at_cycleNow (k : Nat) (s : State) : (storeReset k s).cycleNow = s.cycleNow := (storeReset_form k s).at_cycleNow
@[simp] theorem storeReset_at_stampNow (k : Nat) (s : State) (y : Nat) : (storeReset k s).stampNow y = s.stampNow y := (storeReset_form k s).at_stampNow y
@[simp] theorem storeReset_at_moduleAt (k : Nat) (s : State) (y : Nat) : (storeReset k s).moduleAt y = s.moduleAt y := (storeReset_form k s).at_moduleAt y

@[simp] theorem drainStaging_pending (s : State) : (drainStaging s).pending = s.pending := (drainStaging_only s).1.pending
@[simp] theorem drainStaging_cad (s : State) : (drainStaging s).cad = s.cad := (drainStaging_only s).1.cad
@[simp] theorem drainStaging_ports (s : State) : (drainStaging s).ports = s.ports := (drainStaging_only s).1.ports
@[simp] theorem drainStaging_xbars (s : State) : (drainStaging s).xbars = s.xbars := (drainStaging_only s).1.xbars
@[simp] theorem drainStaging_net (s : State) : (drainStaging s).net = s.net := (drainStaging_only s).1.net
@[simp] theorem drainStaging_chans (s : State) : (drainStaging s).chans = s.chans := (drainStaging_only s).1.chans
@[simp] theorem drainStaging_plaza (s : State) : (drainStaging s).plaza = s.plaza := (drainStaging_only s).1.plaza
@[simp] theorem drainStaging_plazaLru (s : State) : (drainStaging s).plazaLru = s.plazaLru := (drainStaging_only s).1.plazaLru
@[simp] theorem drainStaging_order (s : State) : (drainStaging s).order = s.order := (drainStaging_only s).1.order
@[simp] theorem drainStaging_transit (s : State) : (drainStaging s).transit = s.transit := (drainStaging_only s).1.transit
@[simp] theorem drainStaging_gathers (s : State) : (drainStaging s).gathers = s.gathers := (drainStaging_only s).1.gathers
@[simp] theorem drainStaging_samples (s : State) : (drainStaging s).samples = s.samples := (drainStaging_only s).1.samples
@[simp] theorem drainStaging_ledger (s : State) : (drainStaging s).ledger = s.ledger := (drainStaging_only s).1.ledger
@[simp] theorem drainStaging_ledgerLru (s : State) : (drainStaging s).ledgerLru = s.ledgerLru := (drainStaging_only s).1.ledgerLru
@[simp] theorem drainStaging_found (s : State) : (drainStaging s).found = s.found := (drainStaging_only s).1.found
@[simp] theorem drainStaging_pinned (s : State) : (drainStaging s).pinned = s.pinned := (drainStaging_only s).1.pinned
@[simp] theorem drainStaging_sealedList (s : State) : (drainStaging s).sealedList = s.sealedList := (drainStaging_only s).1.sealedList
@[simp] theorem drainStaging_sealedFrom (s : State) : (drainStaging s).sealedFrom = s.sealedFrom := (drainStaging_only s).1.sealedFrom
@[simp] theorem drainStaging_dram (s : State) : (drainStaging s).dram = s.dram := (drainStaging_only s).1.dram
@[simp] theorem drainStaging_dists (s : State) : (drainStaging s).dists = s.dists := (drainStaging_only s).1.dists
@[simp] theorem drainStaging_keys (s : State) : (drainStaging s).keys = s.keys := (drainStaging_only s).1.keys
@[simp] theorem drainStaging_vault (s : State) : (drainStaging s).vault = s.vault := (drainStaging_only s).1.vault
@[simp] theorem drainStaging_repair (s : State) : (drainStaging s).repair = s.repair := (drainStaging_only s).1.repair
@[simp] theorem drainStaging_mirror (s : State) : (drainStaging s).mirror = s.mirror := (drainStaging_only s).1.mirror
@[simp] theorem drainStaging_sup (s : State) : (drainStaging s).sup = s.sup := (drainStaging_only s).1.sup
@[simp] theorem drainStaging_bays (s : State) : (drainStaging s).bays = s.bays := (drainStaging_only s).1.bays
@[simp] theorem drainStaging_mgmt (s : State) : (drainStaging s).mgmt = s.mgmt := (drainStaging_only s).1.mgmt
@[simp] theorem drainStaging_blk (s : State) : (drainStaging s).blk = s.blk := (drainStaging_only s).1.blk
@[simp] theorem drainStaging_recs (s : State) : (drainStaging s).recs = s.recs := (drainStaging_only s).1.recs
@[simp] theorem drainStaging_shadowObjs (s : State) : (drainStaging s).shadowObjs = s.shadowObjs := (drainStaging_only s).1.shadowObjs
@[simp] theorem drainStaging_at_port (s : State) (y : Nat) : (drainStaging s).port y = s.port y := (drainStaging_only s).1.at_port y
@[simp] theorem drainStaging_at_xbar (s : State) (y : Nat) : (drainStaging s).xbar y = s.xbar y := (drainStaging_only s).1.at_xbar y
@[simp] theorem drainStaging_at_chan (s : State) (y : Nat) : (drainStaging s).chan y = s.chan y := (drainStaging_only s).1.at_chan y
@[simp] theorem drainStaging_at_dist (s : State) (y : Nat) : (drainStaging s).dist y = s.dist y := (drainStaging_only s).1.at_dist y
@[simp] theorem drainStaging_at_bay (s : State) (y : Nat) : (drainStaging s).bay y = s.bay y := (drainStaging_only s).1.at_bay y
@[simp] theorem drainStaging_at_sense (s : State) (y : Nat) : (drainStaging s).sense y = s.sense y := (drainStaging_only s).1.at_sense y
@[simp] theorem drainStaging_at_repairAt (s : State) (y : Nat) : (drainStaging s).repairAt y = s.repairAt y := (drainStaging_only s).1.at_repairAt y
@[simp] theorem drainStaging_at_tx (s : State) (y : Nat) : (drainStaging s).tx y = s.tx y := (drainStaging_only s).1.at_tx y
@[simp] theorem drainStaging_at_rx (s : State) (y : Nat) : (drainStaging s).rx y = s.rx y := (drainStaging_only s).1.at_rx y
@[simp] theorem drainStaging_at_link (s : State) (y : Nat) : (drainStaging s).link y = s.link y := (drainStaging_only s).1.at_link y
@[simp] theorem drainStaging_at_recN (s : State) (y z o n : Nat) : (drainStaging s).recN y z o n = s.recN y z o n := (drainStaging_only s).1.at_recN y z o n
@[simp] theorem drainStaging_at_now (s : State) : (drainStaging s).now = s.now := (drainStaging_only s).1.at_now
@[simp] theorem drainStaging_at_slotNow (s : State) : (drainStaging s).slotNow = s.slotNow := (drainStaging_only s).1.at_slotNow
@[simp] theorem drainStaging_at_cycleNow (s : State) : (drainStaging s).cycleNow = s.cycleNow := (drainStaging_only s).1.at_cycleNow
@[simp] theorem drainStaging_at_stampNow (s : State) (y : Nat) : (drainStaging s).stampNow y = s.stampNow y := (drainStaging_only s).1.at_stampNow y
@[simp] theorem drainStaging_at_moduleAt (s : State) (y : Nat) : (drainStaging s).moduleAt y = s.moduleAt y := (drainStaging_only s).1.at_moduleAt y

@[simp] theorem evtTick_pending (s : State) : (evtTick s).pending = s.pending := (evtTick_only s).1.pending
@[simp] theorem evtTick_cad (s : State) : (evtTick s).cad = s.cad := (evtTick_only s).1.cad
@[simp] theorem evtTick_ports (s : State) : (evtTick s).ports = s.ports := (evtTick_only s).1.ports
@[simp] theorem evtTick_xbars (s : State) : (evtTick s).xbars = s.xbars := (evtTick_only s).1.xbars
@[simp] theorem evtTick_net (s : State) : (evtTick s).net = s.net := (evtTick_only s).1.net
@[simp] theorem evtTick_chans (s : State) : (evtTick s).chans = s.chans := (evtTick_only s).1.chans
@[simp] theorem evtTick_plaza (s : State) : (evtTick s).plaza = s.plaza := (evtTick_only s).1.plaza
@[simp] theorem evtTick_plazaLru (s : State) : (evtTick s).plazaLru = s.plazaLru := (evtTick_only s).1.plazaLru
@[simp] theorem evtTick_order (s : State) : (evtTick s).order = s.order := (evtTick_only s).1.order
@[simp] theorem evtTick_transit (s : State) : (evtTick s).transit = s.transit := (evtTick_only s).1.transit
@[simp] theorem evtTick_gathers (s : State) : (evtTick s).gathers = s.gathers := (evtTick_only s).1.gathers
@[simp] theorem evtTick_samples (s : State) : (evtTick s).samples = s.samples := (evtTick_only s).1.samples
@[simp] theorem evtTick_ledger (s : State) : (evtTick s).ledger = s.ledger := (evtTick_only s).1.ledger
@[simp] theorem evtTick_ledgerLru (s : State) : (evtTick s).ledgerLru = s.ledgerLru := (evtTick_only s).1.ledgerLru
@[simp] theorem evtTick_found (s : State) : (evtTick s).found = s.found := (evtTick_only s).1.found
@[simp] theorem evtTick_pinned (s : State) : (evtTick s).pinned = s.pinned := (evtTick_only s).1.pinned
@[simp] theorem evtTick_sealedList (s : State) : (evtTick s).sealedList = s.sealedList := (evtTick_only s).1.sealedList
@[simp] theorem evtTick_sealedFrom (s : State) : (evtTick s).sealedFrom = s.sealedFrom := (evtTick_only s).1.sealedFrom
@[simp] theorem evtTick_dram (s : State) : (evtTick s).dram = s.dram := (evtTick_only s).1.dram
@[simp] theorem evtTick_dists (s : State) : (evtTick s).dists = s.dists := (evtTick_only s).1.dists
@[simp] theorem evtTick_keys (s : State) : (evtTick s).keys = s.keys := (evtTick_only s).1.keys
@[simp] theorem evtTick_vault (s : State) : (evtTick s).vault = s.vault := (evtTick_only s).1.vault
@[simp] theorem evtTick_repair (s : State) : (evtTick s).repair = s.repair := (evtTick_only s).1.repair
@[simp] theorem evtTick_mirror (s : State) : (evtTick s).mirror = s.mirror := (evtTick_only s).1.mirror
@[simp] theorem evtTick_sup (s : State) : (evtTick s).sup = s.sup := (evtTick_only s).1.sup
@[simp] theorem evtTick_bays (s : State) : (evtTick s).bays = s.bays := (evtTick_only s).1.bays
@[simp] theorem evtTick_mgmt (s : State) : (evtTick s).mgmt = s.mgmt := (evtTick_only s).1.mgmt
@[simp] theorem evtTick_blk (s : State) : (evtTick s).blk = s.blk := (evtTick_only s).1.blk
@[simp] theorem evtTick_recs (s : State) : (evtTick s).recs = s.recs := (evtTick_only s).1.recs
@[simp] theorem evtTick_shadowObjs (s : State) : (evtTick s).shadowObjs = s.shadowObjs := (evtTick_only s).1.shadowObjs
@[simp] theorem evtTick_at_port (s : State) (y : Nat) : (evtTick s).port y = s.port y := (evtTick_only s).1.at_port y
@[simp] theorem evtTick_at_xbar (s : State) (y : Nat) : (evtTick s).xbar y = s.xbar y := (evtTick_only s).1.at_xbar y
@[simp] theorem evtTick_at_chan (s : State) (y : Nat) : (evtTick s).chan y = s.chan y := (evtTick_only s).1.at_chan y
@[simp] theorem evtTick_at_dist (s : State) (y : Nat) : (evtTick s).dist y = s.dist y := (evtTick_only s).1.at_dist y
@[simp] theorem evtTick_at_bay (s : State) (y : Nat) : (evtTick s).bay y = s.bay y := (evtTick_only s).1.at_bay y
@[simp] theorem evtTick_at_sense (s : State) (y : Nat) : (evtTick s).sense y = s.sense y := (evtTick_only s).1.at_sense y
@[simp] theorem evtTick_at_repairAt (s : State) (y : Nat) : (evtTick s).repairAt y = s.repairAt y := (evtTick_only s).1.at_repairAt y
@[simp] theorem evtTick_at_tx (s : State) (y : Nat) : (evtTick s).tx y = s.tx y := (evtTick_only s).1.at_tx y
@[simp] theorem evtTick_at_rx (s : State) (y : Nat) : (evtTick s).rx y = s.rx y := (evtTick_only s).1.at_rx y
@[simp] theorem evtTick_at_link (s : State) (y : Nat) : (evtTick s).link y = s.link y := (evtTick_only s).1.at_link y
@[simp] theorem evtTick_at_recN (s : State) (y z o n : Nat) : (evtTick s).recN y z o n = s.recN y z o n := (evtTick_only s).1.at_recN y z o n
@[simp] theorem evtTick_at_now (s : State) : (evtTick s).now = s.now := (evtTick_only s).1.at_now
@[simp] theorem evtTick_at_slotNow (s : State) : (evtTick s).slotNow = s.slotNow := (evtTick_only s).1.at_slotNow
@[simp] theorem evtTick_at_cycleNow (s : State) : (evtTick s).cycleNow = s.cycleNow := (evtTick_only s).1.at_cycleNow
@[simp] theorem evtTick_at_stampNow (s : State) (y : Nat) : (evtTick s).stampNow y = s.stampNow y := (evtTick_only s).1.at_stampNow y
@[simp] theorem evtTick_at_moduleAt (s : State) (y : Nat) : (evtTick s).moduleAt y = s.moduleAt y := (evtTick_only s).1.at_moduleAt y

/-! ### Objects -/

theorem raiseFull_obj (n a b c : Nat) (s : State) (i k : Nat) (hk : k < 256) (h : evKey i k = false) :
    (raiseFull n a b c s).obj i k = s.obj i k := (raiseFull_only n a b c s).2.1 i k hk h
theorem State.raise_obj (s : State) (n i k : Nat) (hk : k < 256) (h : evKey i k = false) :
    (s.raise n).obj i k = s.obj i k := (raise_only s n).2.1 i k hk h
theorem State.raiseChan_obj (s : State) (c j a b i k : Nat) (hk : k < 256) (h : evKey i k = false) :
    (s.raiseChan c j a b).obj i k = s.obj i k := (raiseChan_only s c j a b).2.1 i k hk h

end Sys2Proof.Machine
end

