-- ==== Sys2Proof/Laws/Mgmt.lean ====
section
/-! SUPPORT. What a management frame can do: how a request is taken and answered, and what a write of one object comes
to once it is accepted. -/

namespace Sys2Proof.Machine

theorem leNat_natLe (n v : Nat) : leNat (natLe n v) = v % 256 ^ n := by
  induction n generalizing v with
  | zero => simp [natLe, leNat, Nat.mod_one]
  | succ n ih =>
    simp only [natLe, leNat, ih]
    rw [Nat.pow_succ', Nat.mod_mul, BitVec.toNat_ofNat]

@[simp] theorem natLe_length (n v : Nat) : (natLe n v).length = n := by
  induction n generalizing v with
  | zero => rfl
  | succ n ih => simp [natLe, ih]

/-! ### What a frame leaves alone -/

/-- Only objects of page 0x1100 and the management unit differ. -/
def MgForm (s t : State) : Prop := (∃ o m, t = { s with objs := o, mgmt := m }) ∧ ∀ i k, k < 256 → i ≠ 0x1100 → t.obj i k = s.obj i k

theorem MgForm.refl (s : State) : MgForm s s := ⟨⟨s.objs, s.mgmt, rfl⟩, fun _ _ _ _ => rfl⟩
theorem MgForm.trans {s t u : State} (h : MgForm s t) (h' : MgForm t u) : MgForm s u := by
  obtain ⟨⟨o, m, rfl⟩, a⟩ := h
  obtain ⟨⟨o', m', rfl⟩, a'⟩ := h'
  exact ⟨⟨o', m', rfl⟩, fun i k hk hi => (a' i k hk hi).trans (a i k hk hi)⟩
theorem MgForm.addObj (s : State) (k v : Nat) (hk : k < 256) : MgForm s (s.addObj 0x1100 k v) := by
  refine ⟨⟨_, s.mgmt, rfl⟩, fun i j hj hi => State.setObj_ne s _ _ _ i j ?_⟩
  intro e; exact hi (objKey_inj _ _ _ _ hj hk e).1
theorem MgForm.mgmt (s : State) (m : Mgmt) : MgForm s { s with mgmt := m } := ⟨⟨s.objs, m, rfl⟩, fun _ _ _ _ => rfl⟩
theorem MgForm.setLink (s : State) (l : Nat) (v : Link) : MgForm s (s.setLink l v) := ⟨⟨s.objs, _, rfl⟩, fun _ _ _ _ => rfl⟩

theorem beginFrame_form (link : Nat) (s : State) (h : link < 2) : MgForm s (beginFrame link s) := by
  unfold beginFrame
  dsimp only
  refine MgForm.trans ?_ (MgForm.addObj _ _ _ (by omega))
  refine MgForm.trans ?_ (MgForm.setLink _ _ _)
  split
  · exact MgForm.addObj _ _ _ (by omega)
  · exact MgForm.refl s

theorem endFrame_form (link op : Nat) (h : ReqHdr) (o : MgmtOut) (hl : link < 2) : MgForm o.st (endFrame link op h o) := by
  unfold endFrame
  dsimp only
  generalize (if (link == 1 && decide (o.st.obj 0x1100 4 < 18 + o.data.length)) = true then 8 else o.result) = result
  have h1 : MgForm o.st (if result = 0 then o.st else o.st.addObj 0x1100 (0x14 + link) 1) := by
    split
    · exact MgForm.refl _
    · exact MgForm.addObj _ _ _ (by omega)
  generalize (if result = 0 then o.st else o.st.addObj 0x1100 (0x14 + link) 1) = u at h1 ⊢
  split
  · exact h1.trans ((MgForm.setLink _ _ _).trans (MgForm.mgmt _ _))
  · exact h1.trans (MgForm.setLink _ _ _)

theorem MgForm.pending {s t : State} (h : MgForm s t) : t.pending = s.pending := by obtain ⟨⟨_, _, rfl⟩, _⟩ := h; rfl
theorem MgForm.cad {s t : State} (h : MgForm s t) : t.cad = s.cad := by obtain ⟨⟨_, _, rfl⟩, _⟩ := h; rfl
theorem MgForm.ports {s t : State} (h : MgForm s t) : t.ports = s.ports := by obtain ⟨⟨_, _, rfl⟩, _⟩ := h; rfl
theorem MgForm.xbars {s t : State} (h : MgForm s t) : t.xbars = s.xbars := by obtain ⟨⟨_, _, rfl⟩, _⟩ := h; rfl
theorem MgForm.net {s t : State} (h : MgForm s t) : t.net = s.net := by obtain ⟨⟨_, _, rfl⟩, _⟩ := h; rfl
theorem MgForm.chans {s t : State} (h : MgForm s t) : t.chans = s.chans := by obtain ⟨⟨_, _, rfl⟩, _⟩ := h; rfl
theorem MgForm.plaza {s t : State} (h : MgForm s t) : t.plaza = s.plaza := by obtain ⟨⟨_, _, rfl⟩, _⟩ := h; rfl
theorem MgForm.plazaLru {s t : State} (h : MgForm s t) : t.plazaLru = s.plazaLru := by obtain ⟨⟨_, _, rfl⟩, _⟩ := h; rfl
theorem MgForm.order {s t : State} (h : MgForm s t) : t.order = s.order := by obtain ⟨⟨_, _, rfl⟩, _⟩ := h; rfl
theorem MgForm.transit {s t : State} (h : MgForm s t) : t.transit = s.transit := by obtain ⟨⟨_, _, rfl⟩, _⟩ := h; rfl
theorem MgForm.gathers {s t : State} (h : MgForm s t) : t.gathers = s.gathers := by obtain ⟨⟨_, _, rfl⟩, _⟩ := h; rfl
theorem MgForm.samples {s t : State} (h : MgForm s t) : t.samples = s.samples := by obtain ⟨⟨_, _, rfl⟩, _⟩ := h; rfl
theorem MgForm.ledger {s t : State} (h : MgForm s t) : t.ledger = s.ledger := by obtain ⟨⟨_, _, rfl⟩, _⟩ := h; rfl
theorem MgForm.ledgerLru {s t : State} (h : MgForm s t) : t.ledgerLru = s.ledgerLru := by obtain ⟨⟨_, _, rfl⟩, _⟩ := h; rfl
theorem MgForm.found {s t : State} (h : MgForm s t) : t.found = s.found := by obtain ⟨⟨_, _, rfl⟩, _⟩ := h; rfl
theorem MgForm.pinned {s t : State} (h : MgForm s t) : t.pinned = s.pinned := by obtain ⟨⟨_, _, rfl⟩, _⟩ := h; rfl
theorem MgForm.sealedList {s t : State} (h : MgForm s t) : t.sealedList = s.sealedList := by obtain ⟨⟨_, _, rfl⟩, _⟩ := h; rfl
theorem MgForm.sealedFrom {s t : State} (h : MgForm s t) : t.sealedFrom = s.sealedFrom := by obtain ⟨⟨_, _, rfl⟩, _⟩ := h; rfl
theorem MgForm.dram {s t : State} (h : MgForm s t) : t.dram = s.dram := by obtain ⟨⟨_, _, rfl⟩, _⟩ := h; rfl
theorem MgForm.dists {s t : State} (h : MgForm s t) : t.dists = s.dists := by obtain ⟨⟨_, _, rfl⟩, _⟩ := h; rfl
theorem MgForm.keys {s t : State} (h : MgForm s t) : t.keys = s.keys := by obtain ⟨⟨_, _, rfl⟩, _⟩ := h; rfl
theorem MgForm.vault {s t : State} (h : MgForm s t) : t.vault = s.vault := by obtain ⟨⟨_, _, rfl⟩, _⟩ := h; rfl
theorem MgForm.mram {s t : State} (h : MgForm s t) : t.mram = s.mram := by obtain ⟨⟨_, _, rfl⟩, _⟩ := h; rfl
theorem MgForm.repair {s t : State} (h : MgForm s t) : t.repair = s.repair := by obtain ⟨⟨_, _, rfl⟩, _⟩ := h; rfl
theorem MgForm.mirror {s t : State} (h : MgForm s t) : t.mirror = s.mirror := by obtain ⟨⟨_, _, rfl⟩, _⟩ := h; rfl
theorem MgForm.sup {s t : State} (h : MgForm s t) : t.sup = s.sup := by obtain ⟨⟨_, _, rfl⟩, _⟩ := h; rfl
theorem MgForm.bays {s t : State} (h : MgForm s t) : t.bays = s.bays := by obtain ⟨⟨_, _, rfl⟩, _⟩ := h; rfl
theorem MgForm.ev {s t : State} (h : MgForm s t) : t.ev = s.ev := by obtain ⟨⟨_, _, rfl⟩, _⟩ := h; rfl
theorem MgForm.blk {s t : State} (h : MgForm s t) : t.blk = s.blk := by obtain ⟨⟨_, _, rfl⟩, _⟩ := h; rfl
theorem MgForm.recs {s t : State} (h : MgForm s t) : t.recs = s.recs := by obtain ⟨⟨_, _, rfl⟩, _⟩ := h; rfl
theorem MgForm.shadowObjs {s t : State} (h : MgForm s t) : t.shadowObjs = s.shadowObjs := by obtain ⟨⟨_, _, rfl⟩, _⟩ := h; rfl
theorem MgForm.freeCtr {s t : State} (h : MgForm s t) : t.freeCtr = s.freeCtr := by obtain ⟨⟨_, _, rfl⟩, _⟩ := h; rfl
theorem MgForm.at_port {s t : State} (h : MgForm s t) (y : Nat) : t.port y = s.port y := by obtain ⟨⟨_, _, rfl⟩, _⟩ := h; rfl
theorem MgForm.at_xbar {s t : State} (h : MgForm s t) (y : Nat) : t.xbar y = s.xbar y := by obtain ⟨⟨_, _, rfl⟩, _⟩ := h; rfl
theorem MgForm.at_chan {s t : State} (h : MgForm s t) (y : Nat) : t.chan y = s.chan y := by obtain ⟨⟨_, _, rfl⟩, _⟩ := h; rfl
theorem MgForm.at_dist {s t : State} (h : MgForm s t) (y : Nat) : t.dist y = s.dist y := by obtain ⟨⟨_, _, rfl⟩, _⟩ := h; rfl
theorem MgForm.at_bay {s t : State} (h : MgForm s t) (y : Nat) : t.bay y = s.bay y := by obtain ⟨⟨_, _, rfl⟩, _⟩ := h; rfl
theorem MgForm.at_sense {s t : State} (h : MgForm s t) (y : Nat) : t.sense y = s.sense y := by obtain ⟨⟨_, _, rfl⟩, _⟩ := h; rfl
theorem MgForm.at_repairAt {s t : State} (h : MgForm s t) (y : Nat) : t.repairAt y = s.repairAt y := by obtain ⟨⟨_, _, rfl⟩, _⟩ := h; rfl
theorem MgForm.at_tx {s t : State} (h : MgForm s t) (y : Nat) : t.tx y = s.tx y := by obtain ⟨⟨_, _, rfl⟩, _⟩ := h; rfl
theorem MgForm.at_rx {s t : State} (h : MgForm s t) (y : Nat) : t.rx y = s.rx y := by obtain ⟨⟨_, _, rfl⟩, _⟩ := h; rfl
theorem MgForm.at_moduleAt {s t : State} (h : MgForm s t) (y : Nat) : t.moduleAt y = s.moduleAt y := by obtain ⟨⟨_, _, rfl⟩, _⟩ := h; rfl
theorem MgForm.at_now {s t : State} (h : MgForm s t) : t.now = s.now := by obtain ⟨⟨_, _, rfl⟩, _⟩ := h; rfl
theorem MgForm.at_slotNow {s t : State} (h : MgForm s t) : t.slotNow = s.slotNow := by obtain ⟨⟨_, _, rfl⟩, _⟩ := h; rfl
theorem MgForm.at_cycleNow {s t : State} (h : MgForm s t) : t.cycleNow = s.cycleNow := by obtain ⟨⟨_, _, rfl⟩, _⟩ := h; rfl
theorem MgForm.at_recN {s t : State} (h : MgForm s t) (y z o n : Nat) : t.recN y z o n = s.recN y z o n := by obtain ⟨⟨_, _, rfl⟩, _⟩ := h; rfl

variable (link : Fin 2)

@[simp] theorem beginFrame_pending (s : State) : (beginFrame link.val s).pending = s.pending := (beginFrame_form link.val s link.isLt).pending
@[simp] theorem beginFrame_cad (s : State) : (beginFrame link.val s).cad = s.cad := (beginFrame_form link.val s link.isLt).cad
@[simp] theorem beginFrame_ports (s : State) : (beginFrame link.val s).ports = s.ports := (beginFrame_form link.val s link.isLt).ports
@[simp] theorem beginFrame_xbars (s : State) : (beginFrame link.val s).xbars = s.xbars := (beginFrame_form link.val s link.isLt).xbars
@[simp] theorem beginFrame_net (s : State) : (beginFrame link.val s).net = s.net := (beginFrame_form link.val s link.isLt).net
@[simp] theorem beginFrame_chans (s : State) : (beginFrame link.val s).chans = s.chans := (beginFrame_form link.val s link.isLt).chans
@[simp] theorem beginFrame_plaza (s : State) : (beginFrame link.val s).plaza = s.plaza := (beginFrame_form link.val s link.isLt).plaza
@[simp] theorem beginFrame_plazaLru (s : State) : (beginFrame link.val s).plazaLru = s.plazaLru := (beginFrame_form link.val s link.isLt).plazaLru
@[simp] theorem beginFrame_order (s : State) : (beginFrame link.val s).order = s.order := (beginFrame_form link.val s link.isLt).order
@[simp] theorem beginFrame_transit (s : State) : (beginFrame link.val s).transit = s.transit := (beginFrame_form link.val s link.isLt).transit
@[simp] theorem beginFrame_gathers (s : State) : (beginFrame link.val s).gathers = s.gathers := (beginFrame_form link.val s link.isLt).gathers
@[simp] theorem beginFrame_samples (s : State) : (beginFrame link.val s).samples = s.samples := (beginFrame_form link.val s link.isLt).samples
@[simp] theorem beginFrame_ledger (s : State) : (beginFrame link.val s).ledger = s.ledger := (beginFrame_form link.val s link.isLt).ledger
@[simp] theorem beginFrame_ledgerLru (s : State) : (beginFrame link.val s).ledgerLru = s.ledgerLru := (beginFrame_form link.val s link.isLt).ledgerLru
@[simp] theorem beginFrame_found (s : State) : (beginFrame link.val s).found = s.found := (beginFrame_form link.val s link.isLt).found
@[simp] theorem beginFrame_pinned (s : State) : (beginFrame link.val s).pinned = s.pinned := (beginFrame_form link.val s link.isLt).pinned
@[simp] theorem beginFrame_sealedList (s : State) : (beginFrame link.val s).sealedList = s.sealedList := (beginFrame_form link.val s link.isLt).sealedList
@[simp] theorem beginFrame_sealedFrom (s : State) : (beginFrame link.val s).sealedFrom = s.sealedFrom := (beginFrame_form link.val s link.isLt).sealedFrom
@[simp] theorem beginFrame_dram (s : State) : (beginFrame link.val s).dram = s.dram := (beginFrame_form link.val s link.isLt).dram
@[simp] theorem beginFrame_dists (s : State) : (beginFrame link.val s).dists = s.dists := (beginFrame_form link.val s link.isLt).dists
@[simp] theorem beginFrame_keys (s : State) : (beginFrame link.val s).keys = s.keys := (beginFrame_form link.val s link.isLt).keys
@[simp] theorem beginFrame_vault (s : State) : (beginFrame link.val s).vault = s.vault := (beginFrame_form link.val s link.isLt).vault
@[simp] theorem beginFrame_mram (s : State) : (beginFrame link.val s).mram = s.mram := (beginFrame_form link.val s link.isLt).mram
@[simp] theorem beginFrame_repair (s : State) : (beginFrame link.val s).repair = s.repair := (beginFrame_form link.val s link.isLt).repair
@[simp] theorem beginFrame_mirror (s : State) : (beginFrame link.val s).mirror = s.mirror := (beginFrame_form link.val s link.isLt).mirror
@[simp] theorem beginFrame_sup (s : State) : (beginFrame link.val s).sup = s.sup := (beginFrame_form link.val s link.isLt).sup
@[simp] theorem beginFrame_bays (s : State) : (beginFrame link.val s).bays = s.bays := (beginFrame_form link.val s link.isLt).bays
@[simp] theorem beginFrame_ev (s : State) : (beginFrame link.val s).ev = s.ev := (beginFrame_form link.val s link.isLt).ev
@[simp] theorem beginFrame_blk (s : State) : (beginFrame link.val s).blk = s.blk := (beginFrame_form link.val s link.isLt).blk
@[simp] theorem beginFrame_recs (s : State) : (beginFrame link.val s).recs = s.recs := (beginFrame_form link.val s link.isLt).recs
@[simp] theorem beginFrame_shadowObjs (s : State) : (beginFrame link.val s).shadowObjs = s.shadowObjs := (beginFrame_form link.val s link.isLt).shadowObjs
@[simp] theorem beginFrame_freeCtr (s : State) : (beginFrame link.val s).freeCtr = s.freeCtr := (beginFrame_form link.val s link.isLt).freeCtr
@[simp] theorem beginFrame_at_port (s : State) (y : Nat) : (beginFrame link.val s).port y = s.port y := (beginFrame_form link.val s link.isLt).at_port y
@[simp] theorem beginFrame_at_xbar (s : State) (y : Nat) : (beginFrame link.val s).xbar y = s.xbar y := (beginFrame_form link.val s link.isLt).at_xbar y
@[simp] theorem beginFrame_at_chan (s : State) (y : Nat) : (beginFrame link.val s).chan y = s.chan y := (beginFrame_form link.val s link.isLt).at_chan y
@[simp] theorem beginFrame_at_dist (s : State) (y : Nat) : (beginFrame link.val s).dist y = s.dist y := (beginFrame_form link.val s link.isLt).at_dist y
@[simp] theorem beginFrame_at_bay (s : State) (y : Nat) : (beginFrame link.val s).bay y = s.bay y := (beginFrame_form link.val s link.isLt).at_bay y
@[simp] theorem beginFrame_at_sense (s : State) (y : Nat) : (beginFrame link.val s).sense y = s.sense y := (beginFrame_form link.val s link.isLt).at_sense y
@[simp] theorem beginFrame_at_repairAt (s : State) (y : Nat) : (beginFrame link.val s).repairAt y = s.repairAt y := (beginFrame_form link.val s link.isLt).at_repairAt y
@[simp] theorem beginFrame_at_tx (s : State) (y : Nat) : (beginFrame link.val s).tx y = s.tx y := (beginFrame_form link.val s link.isLt).at_tx y
@[simp] theorem beginFrame_at_rx (s : State) (y : Nat) : (beginFrame link.val s).rx y = s.rx y := (beginFrame_form link.val s link.isLt).at_rx y
@[simp] theorem beginFrame_at_moduleAt (s : State) (y : Nat) : (beginFrame link.val s).moduleAt y = s.moduleAt y := (beginFrame_form link.val s link.isLt).at_moduleAt y
@[simp] theorem beginFrame_at_now (s : State) : (beginFrame link.val s).now = s.now := (beginFrame_form link.val s link.isLt).at_now
@[simp] theorem beginFrame_at_slotNow (s : State) : (beginFrame link.val s).slotNow = s.slotNow := (beginFrame_form link.val s link.isLt).at_slotNow
@[simp] theorem beginFrame_at_cycleNow (s : State) : (beginFrame link.val s).cycleNow = s.cycleNow := (beginFrame_form link.val s link.isLt).at_cycleNow
@[simp] theorem beginFrame_at_recN (s : State) (y z o' n : Nat) : (beginFrame link.val s).recN y z o' n = s.recN y z o' n := (beginFrame_form link.val s link.isLt).at_recN y z o' n
theorem beginFrame_at_obj (s : State) (i k : Nat) (hk : k < 256) (hi : i ≠ 0x1100) : (beginFrame link.val s).obj i k = s.obj i k := (beginFrame_form link.val s link.isLt).2 i k hk hi

@[simp] theorem endFrame_pending (op : Nat) (h : ReqHdr) (o : MgmtOut) : (endFrame link.val op h o).pending = o.st.pending := (endFrame_form link.val op h o link.isLt).pending
@[simp] theorem endFrame_cad (op : Nat) (h : ReqHdr) (o : MgmtOut) : (endFrame link.val op h o).cad = o.st.cad := (endFrame_form link.val op h o link.isLt).cad
@[simp] theorem endFrame_ports (op : Nat) (h : ReqHdr) (o : MgmtOut) : (endFrame link.val op h o).ports = o.st.ports := (endFrame_form link.val op h o link.isLt).ports
@[simp] theorem endFrame_xbars (op : Nat) (h : ReqHdr) (o : MgmtOut) : (endFrame link.val op h o).xbars = o.st.xbars := (endFrame_form link.val op h o link.isLt).xbars
@[simp] theorem endFrame_net (op : Nat) (h : ReqHdr) (o : MgmtOut) : (endFrame link.val op h o).net = o.st.net := (endFrame_form link.val op h o link.isLt).net
@[simp] theorem endFrame_chans (op : Nat) (h : ReqHdr) (o : MgmtOut) : (endFrame link.val op h o).chans = o.st.chans := (endFrame_form link.val op h o link.isLt).chans
@[simp] theorem endFrame_plaza (op : Nat) (h : ReqHdr) (o : MgmtOut) : (endFrame link.val op h o).plaza = o.st.plaza := (endFrame_form link.val op h o link.isLt).plaza
@[simp] theorem endFrame_plazaLru (op : Nat) (h : ReqHdr) (o : MgmtOut) : (endFrame link.val op h o).plazaLru = o.st.plazaLru := (endFrame_form link.val op h o link.isLt).plazaLru
@[simp] theorem endFrame_order (op : Nat) (h : ReqHdr) (o : MgmtOut) : (endFrame link.val op h o).order = o.st.order := (endFrame_form link.val op h o link.isLt).order
@[simp] theorem endFrame_transit (op : Nat) (h : ReqHdr) (o : MgmtOut) : (endFrame link.val op h o).transit = o.st.transit := (endFrame_form link.val op h o link.isLt).transit
@[simp] theorem endFrame_gathers (op : Nat) (h : ReqHdr) (o : MgmtOut) : (endFrame link.val op h o).gathers = o.st.gathers := (endFrame_form link.val op h o link.isLt).gathers
@[simp] theorem endFrame_samples (op : Nat) (h : ReqHdr) (o : MgmtOut) : (endFrame link.val op h o).samples = o.st.samples := (endFrame_form link.val op h o link.isLt).samples
@[simp] theorem endFrame_ledger (op : Nat) (h : ReqHdr) (o : MgmtOut) : (endFrame link.val op h o).ledger = o.st.ledger := (endFrame_form link.val op h o link.isLt).ledger
@[simp] theorem endFrame_ledgerLru (op : Nat) (h : ReqHdr) (o : MgmtOut) : (endFrame link.val op h o).ledgerLru = o.st.ledgerLru := (endFrame_form link.val op h o link.isLt).ledgerLru
@[simp] theorem endFrame_found (op : Nat) (h : ReqHdr) (o : MgmtOut) : (endFrame link.val op h o).found = o.st.found := (endFrame_form link.val op h o link.isLt).found
@[simp] theorem endFrame_pinned (op : Nat) (h : ReqHdr) (o : MgmtOut) : (endFrame link.val op h o).pinned = o.st.pinned := (endFrame_form link.val op h o link.isLt).pinned
@[simp] theorem endFrame_sealedList (op : Nat) (h : ReqHdr) (o : MgmtOut) : (endFrame link.val op h o).sealedList = o.st.sealedList := (endFrame_form link.val op h o link.isLt).sealedList
@[simp] theorem endFrame_sealedFrom (op : Nat) (h : ReqHdr) (o : MgmtOut) : (endFrame link.val op h o).sealedFrom = o.st.sealedFrom := (endFrame_form link.val op h o link.isLt).sealedFrom
@[simp] theorem endFrame_dram (op : Nat) (h : ReqHdr) (o : MgmtOut) : (endFrame link.val op h o).dram = o.st.dram := (endFrame_form link.val op h o link.isLt).dram
@[simp] theorem endFrame_dists (op : Nat) (h : ReqHdr) (o : MgmtOut) : (endFrame link.val op h o).dists = o.st.dists := (endFrame_form link.val op h o link.isLt).dists
@[simp] theorem endFrame_keys (op : Nat) (h : ReqHdr) (o : MgmtOut) : (endFrame link.val op h o).keys = o.st.keys := (endFrame_form link.val op h o link.isLt).keys
@[simp] theorem endFrame_vault (op : Nat) (h : ReqHdr) (o : MgmtOut) : (endFrame link.val op h o).vault = o.st.vault := (endFrame_form link.val op h o link.isLt).vault
@[simp] theorem endFrame_mram (op : Nat) (h : ReqHdr) (o : MgmtOut) : (endFrame link.val op h o).mram = o.st.mram := (endFrame_form link.val op h o link.isLt).mram
@[simp] theorem endFrame_repair (op : Nat) (h : ReqHdr) (o : MgmtOut) : (endFrame link.val op h o).repair = o.st.repair := (endFrame_form link.val op h o link.isLt).repair
@[simp] theorem endFrame_mirror (op : Nat) (h : ReqHdr) (o : MgmtOut) : (endFrame link.val op h o).mirror = o.st.mirror := (endFrame_form link.val op h o link.isLt).mirror
@[simp] theorem endFrame_sup (op : Nat) (h : ReqHdr) (o : MgmtOut) : (endFrame link.val op h o).sup = o.st.sup := (endFrame_form link.val op h o link.isLt).sup
@[simp] theorem endFrame_bays (op : Nat) (h : ReqHdr) (o : MgmtOut) : (endFrame link.val op h o).bays = o.st.bays := (endFrame_form link.val op h o link.isLt).bays
@[simp] theorem endFrame_ev (op : Nat) (h : ReqHdr) (o : MgmtOut) : (endFrame link.val op h o).ev = o.st.ev := (endFrame_form link.val op h o link.isLt).ev
@[simp] theorem endFrame_blk (op : Nat) (h : ReqHdr) (o : MgmtOut) : (endFrame link.val op h o).blk = o.st.blk := (endFrame_form link.val op h o link.isLt).blk
@[simp] theorem endFrame_recs (op : Nat) (h : ReqHdr) (o : MgmtOut) : (endFrame link.val op h o).recs = o.st.recs := (endFrame_form link.val op h o link.isLt).recs
@[simp] theorem endFrame_shadowObjs (op : Nat) (h : ReqHdr) (o : MgmtOut) : (endFrame link.val op h o).shadowObjs = o.st.shadowObjs := (endFrame_form link.val op h o link.isLt).shadowObjs
@[simp] theorem endFrame_freeCtr (op : Nat) (h : ReqHdr) (o : MgmtOut) : (endFrame link.val op h o).freeCtr = o.st.freeCtr := (endFrame_form link.val op h o link.isLt).freeCtr
@[simp] theorem endFrame_at_port (op : Nat) (h : ReqHdr) (o : MgmtOut) (y : Nat) : (endFrame link.val op h o).port y = o.st.port y := (endFrame_form link.val op h o link.isLt).at_port y
@[simp] theorem endFrame_at_xbar (op : Nat) (h : ReqHdr) (o : MgmtOut) (y : Nat) : (endFrame link.val op h o).xbar y = o.st.xbar y := (endFrame_form link.val op h o link.isLt).at_xbar y
@[simp] theorem endFrame_at_chan (op : Nat) (h : ReqHdr) (o : MgmtOut) (y : Nat) : (endFrame link.val op h o).chan y = o.st.chan y := (endFrame_form link.val op h o link.isLt).at_chan y
@[simp] theorem endFrame_at_dist (op : Nat) (h : ReqHdr) (o : MgmtOut) (y : Nat) : (endFrame link.val op h o).dist y = o.st.dist y := (endFrame_form link.val op h o link.isLt).at_dist y
@[simp] theorem endFrame_at_bay (op : Nat) (h : ReqHdr) (o : MgmtOut) (y : Nat) : (endFrame link.val op h o).bay y = o.st.bay y := (endFrame_form link.val op h o link.isLt).at_bay y
@[simp] theorem endFrame_at_sense (op : Nat) (h : ReqHdr) (o : MgmtOut) (y : Nat) : (endFrame link.val op h o).sense y = o.st.sense y := (endFrame_form link.val op h o link.isLt).at_sense y
@[simp] theorem endFrame_at_repairAt (op : Nat) (h : ReqHdr) (o : MgmtOut) (y : Nat) : (endFrame link.val op h o).repairAt y = o.st.repairAt y := (endFrame_form link.val op h o link.isLt).at_repairAt y
@[simp] theorem endFrame_at_tx (op : Nat) (h : ReqHdr) (o : MgmtOut) (y : Nat) : (endFrame link.val op h o).tx y = o.st.tx y := (endFrame_form link.val op h o link.isLt).at_tx y
@[simp] theorem endFrame_at_rx (op : Nat) (h : ReqHdr) (o : MgmtOut) (y : Nat) : (endFrame link.val op h o).rx y = o.st.rx y := (endFrame_form link.val op h o link.isLt).at_rx y
@[simp] theorem endFrame_at_moduleAt (op : Nat) (h : ReqHdr) (o : MgmtOut) (y : Nat) : (endFrame link.val op h o).moduleAt y = o.st.moduleAt y := (endFrame_form link.val op h o link.isLt).at_moduleAt y
@[simp] theorem endFrame_at_now (op : Nat) (h : ReqHdr) (o : MgmtOut) : (endFrame link.val op h o).now = o.st.now := (endFrame_form link.val op h o link.isLt).at_now
@[simp] theorem endFrame_at_slotNow (op : Nat) (h : ReqHdr) (o : MgmtOut) : (endFrame link.val op h o).slotNow = o.st.slotNow := (endFrame_form link.val op h o link.isLt).at_slotNow
@[simp] theorem endFrame_at_cycleNow (op : Nat) (h : ReqHdr) (o : MgmtOut) : (endFrame link.val op h o).cycleNow = o.st.cycleNow := (endFrame_form link.val op h o link.isLt).at_cycleNow
@[simp] theorem endFrame_at_recN (op : Nat) (h : ReqHdr) (o : MgmtOut) (y z o' n : Nat) : (endFrame link.val op h o).recN y z o' n = o.st.recN y z o' n := (endFrame_form link.val op h o link.isLt).at_recN y z o' n
theorem endFrame_at_obj (op : Nat) (h : ReqHdr) (o : MgmtOut) (i k : Nat) (hk : k < 256) (hi : i ≠ 0x1100) : (endFrame link.val op h o).obj i k = o.st.obj i k := (endFrame_form link.val op h o link.isLt).2 i k hk hi

/-- The rights of the links, the lengths and the address stand while a frame is taken. -/
theorem beginFrame_at_1100 (s : State) (k : Nat) (hk : k < 0x10) : (beginFrame link.val s).obj 0x1100 k = s.obj 0x1100 k := by
  have ne : ∀ (u : State) (j v : Nat), 0x10 ≤ j → j < 256 → (u.addObj 0x1100 j v).obj 0x1100 k = u.obj 0x1100 k := by
    intro u j v h1 h2
    refine State.setObj_ne u _ _ _ _ k ?_
    intro e
    have := (objKey_inj _ _ _ _ (by omega) (by omega) e).2
    omega
  have hl := link.isLt
  unfold beginFrame
  dsimp only
  rw [ne _ _ _ (by omega) (by omega)]
  split
  · rw [State.setLink_at_obj, ne _ _ _ (by omega) (by omega)]
  · rfl

@[simp] theorem beginFrame_level (s : State) (l : Fin 2) : (beginFrame link.val s).level l = s.level l :=
  beginFrame_at_1100 link s _ (by omega)

theorem rankSlots_begin (s : State) (c : Nat) : rankSlots (beginFrame link.val s) c = rankSlots s c := by
  simp only [rankSlots, beginFrame_at_moduleAt]

theorem role_begin (s : State) (d : Fin 4) : (beginFrame link.val s).role d = s.role d := by
  unfold State.role
  simp (disch := first | decide | omega) only [beginFrame_at_obj]

theorem setObj_ne2 (s : State) (i k v i' k' : Nat) (hk : k < 256) (hk' : k' < 256) (h : i' ≠ i ∨ k' ≠ k) :
    (s.setObj i k v).obj i' k' = s.obj i' k' := by
  refine State.setObj_ne s i k v i' k' ?_
  intro e
  obtain ⟨a, b⟩ := objKey_inj _ _ _ _ hk' hk e
  rcases h with h | h
  · exact h a
  · exact h b

theorem helperAllowed_begin (s : State) (c : Fin 16) (op : Nat) : helperAllowed (beginFrame link.val s) c op = helperAllowed s c op := by
  simp only [helperAllowed, beginFrame_at_chan]
  rw [beginFrame_at_obj _ _ _ _ (by decide) (by simp only [calIdx, chIdx]; omega), beginFrame_at_obj _ _ _ _ (by omega) (by decide)]

theorem endFrame_at_1100 (op : Nat) (h : ReqHdr) (o : MgmtOut) (k : Nat) (hk : k < 0x10) : (endFrame link.val op h o).obj 0x1100 k = o.st.obj 0x1100 k := by
  have hl := link.isLt
  have ne : ∀ (u : State) (j v : Nat), 0x10 ≤ j → j < 256 → (u.addObj 0x1100 j v).obj 0x1100 k = u.obj 0x1100 k := by
    intro u j v h1 h2
    exact setObj_ne2 u _ _ _ _ k (by omega) (by omega) (by omega)
  unfold endFrame
  dsimp only
  generalize (if (link.val == 1 && decide (o.st.obj 0x1100 4 < 18 + o.data.length)) = true then 8 else o.result) = result
  have h1 : (if result = 0 then o.st else o.st.addObj 0x1100 (0x14 + link.val) 1).obj 0x1100 k = o.st.obj 0x1100 k := by
    split
    · rfl
    · exact ne _ _ _ (by omega) (by omega)
  split
  · exact h1
  · exact h1

theorem endFrame_winStatus (op : Nat) (h : ReqHdr) (o : MgmtOut) (hl : link.val = 0) : (endFrame link.val op h o).mgmt.winStatus = 2 := by
  unfold endFrame
  simp [hl]

/-- A link that could write can write again once the response is held. -/
theorem canWrite_again (n lvl op : Nat) (h : ReqHdr) (s u : State) (r d : Nat) (bs : List Byte) (hC : CanWrite link n lvl s) (hb : u.blk = s.blk)
    (ho : ∀ k, k < 0x10 → u.obj 0x1100 k = s.obj 0x1100 k) (hv : u.obj 0x7001 7 = s.obj 0x7001 7) :
    CanWrite link n lvl (endFrame link.val op h ⟨u, r, d, bs⟩) := by
  have hb' : (endFrame link.val op h ⟨u, r, d, bs⟩).blk = s.blk := by simp [hb]
  have ho' : ∀ k, k < 0x10 → (endFrame link.val op h ⟨u, r, d, bs⟩).obj 0x1100 k = s.obj 0x1100 k := fun k hk =>
    (endFrame_at_1100 link op h _ k hk).trans (ho k hk)
  have hv' : (endFrame link.val op h ⟨u, r, d, bs⟩).obj 0x7001 7 = s.obj 0x7001 7 := (endFrame_at_obj link op h _ _ _ (by decide) (by decide)).trans hv
  obtain ⟨⟨h1, _, h3⟩, h4, h5⟩ := hC
  refine ⟨⟨?_, ?_, ?_⟩, ?_, ?_⟩
  · simpa only [linkOpen, mgmtLive, dynAddress, hb', ho' 1 (by decide), hv'] using h1
  · intro h0; rw [endFrame_winStatus link _ _ _ h0]; decide
  · simpa only [ho' 3 (by decide)] using h3
  · simpa only [State.level, ho' (5 + link.val) (by have := link.isLt; omega)] using h4
  · simpa only [drains, hb'] using h5

/-! ### A request is taken -/

theorem transact_any (q : MgmtReq) (s : State) (hT : Takes link q.bytes.length s) :
    transact link.val q s =
      (if s.blk.st == .test && (runRequest link.val q (beginFrame link.val s)).st.blk.st == .resetPhase then
        (runRequest link.val q (beginFrame link.val s)).st
       else endFrame link.val q.op q.hdr (runRequest link.val q (beginFrame link.val s))) := by
  obtain ⟨h1, h2, h3⟩ := hT
  have hl := link.isLt
  have hb : ¬ (link.val = 0 ∧ s.mgmt.winStatus = 1) := fun h => h2 h.1 h.2
  have hlong : (link.val == 1 && decide (s.obj 0x1100 3 < 18 + q.bytes.length)) = false := by
    by_cases hk : link.val = 1
    · have := h3 hk; simp; intro _; omega
    · simp [hk]
  unfold transact
  simp only [h1, Bool.not_true, Bool.false_eq_true, ↓reduceIte, hlong]
  have h0 : (decide (link.val = 0) && decide (s.mgmt.winStatus = 1)) = false := by
    simp only [Bool.and_eq_false_imp, decide_eq_true_eq, decide_eq_false_iff_not]; intro a b; exact hb ⟨a, b⟩
  simp only [h0, Bool.false_eq_true, ↓reduceIte]

theorem transact_takes (q : MgmtReq) (s : State) (hT : Takes link q.bytes.length s)
    (ht : ¬ (s.blk.st = .test ∧ (runRequest link.val q (beginFrame link.val s)).st.blk.st = .resetPhase)) :
    transact link.val q s = endFrame link.val q.op q.hdr (runRequest link.val q (beginFrame link.val s)) := by
  rw [transact_any link q s hT]
  split
  · rename_i hc
    exact absurd (by simpa using hc) ht
  · rfl

/-- The request of a write of one object. -/
theorem runRequest_write (tag : BitVec 8) (idx sub v : Nat) (hint : Bool) (s : State) (r : ObjRow) (hr : objRow idx sub = some r)
    (hrec : r.record = false) (hsz : r.size ≤ 8) (hi : idx < 0x10000) (hs : sub < 256) (hv : v < 256 ^ r.size) :
    runRequest link.val ⟨2, writeHdr tag idx sub r.size, natLe r.size v, hint⟩ s =
      ⟨(writeObject hint link.val idx sub v r s).1, (writeObject hint link.val idx sub v r s).2, 0, []⟩ := by
  have hlen : (BitVec.ofNat 16 r.size).toNat = r.size := by simp; omega
  have hl := link.isLt
  have hd : r.size ≤ linkData link.val := by unfold linkData; split <;> omega
  unfold runRequest doWrite writeHdr
  simp [hlen, Nat.mod_eq_of_lt hi, Nat.mod_eq_of_lt hs, hr, hrec, leNat_natLe, Nat.mod_eq_of_lt hv]
  omega

/-- A write of an object of at most 8 bytes, once it is accepted. -/
theorem writeOf_written (tag : BitVec 8) (idx sub v : Nat) (hint : Bool) (s u : State) (r : ObjRow) (hr : objRow idx sub = some r)
    (hrec : r.record = false) (hsz : r.size ≤ 8) (hi : idx < 0x10000) (hs : sub < 256) (hv : v < 256 ^ r.size)
    (hT : Takes link r.size s) (hw : writeObject hint link.val idx sub v r (beginFrame link.val s) = (u, 0))
    (ht : ¬ (s.blk.st = .test ∧ u.blk.st = .resetPhase)) :
    Written link tag idx sub r.size u (writeOf link.val tag idx sub v hint s) := by
  unfold writeOf Written
  simp only [hr]
  have hrun := runRequest_write link tag idx sub v hint (beginFrame link.val s) r hr hrec hsz hi hs hv
  rw [hw] at hrun
  have := transact_takes link ⟨2, writeHdr tag idx sub r.size, natLe r.size v, hint⟩ s (by simpa using hT) (by rw [hrun]; exact ht)
  rw [hrun] at this
  exact this

/-- A write that restarts the logic out of Test leaves no response (R456). -/
theorem writeOf_restarts (tag : BitVec 8) (idx sub v : Nat) (hint : Bool) (s u : State) (r : ObjRow) (hr : objRow idx sub = some r)
    (hrec : r.record = false) (hsz : r.size ≤ 8) (hi : idx < 0x10000) (hs : sub < 256) (hv : v < 256 ^ r.size)
    (hT : Takes link r.size s) (hw : writeObject hint link.val idx sub v r (beginFrame link.val s) = (u, 0))
    (h1 : s.blk.st = .test) (h2 : u.blk.st = .resetPhase) : writeOf link.val tag idx sub v hint s = u := by
  unfold writeOf
  simp only [hr]
  have hrun := runRequest_write link tag idx sub v hint (beginFrame link.val s) r hr hrec hsz hi hs hv
  rw [hw] at hrun
  have := transact_any link ⟨2, writeHdr tag idx sub r.size, natLe r.size v, hint⟩ s (by simpa using hT)
  rw [hrun] at this
  simpa [writeHdr, h1, h2] using this

/-- An Immediate object's write is its rule once no refusal stands. -/
theorem writeObject_now (hint : Bool) (idx sub v : Nat) (r : ObjRow) (s : State) (hst : r.staged = false) (hacc : accessOf idx sub r ≠ 0)
    (h3 : accessOf idx sub r ≠ 3) (hpg : idx ≠ 0x1100) (hlv : levelOf idx sub v r ≤ s.level link.val)
    (hlk : (pageOf idx).1 = 0x2300 → s.obj idx 1 ≠ 1) (hdr : drains s = false ∨ drainAllows (pageOf idx).1 sub v s = true) (hok : valueOk idx sub v r = true) :
    writeObject hint link.val idx sub v r s = writeNow hint link.val idx sub v s := by
  have : writeRefusal link.val idx sub v r s = 0 := by
    unfold writeRefusal
    have h1 : ¬ (s.level link.val < levelOf idx sub v r) := by omega
    have h2 : (((pageOf idx).1 == 0x2300) && s.obj idx 1 == 1) = false := by
      by_cases hp : (pageOf idx).1 = 0x2300
      · simp [hlk hp]
      · simp [hp]
    have h4 : (drains s && !drainAllows (pageOf idx).1 sub v s) = false := by
      rcases hdr with h | h <;> simp [h]
    have h5 : ((accessOf idx sub r == 3) && s.blk.st != .config) = false := by simp [h3]
    simp [hacc, hpg, h1, h3, h4, hok]
    intro a b
    exact hlk a b
  unfold writeObject
  simp [this, hst]

/-- What a row, its object and a value must be for the write to be at the object's own rule. -/
def plainRow (idx sub v : Nat) (r : ObjRow) : Bool :=
  !r.record && !r.staged && (accessOf idx sub r == 1 || accessOf idx sub r == 2) && decide (idx < 0x10000) && idx != 0x1100 &&
    (pageOf idx).1 != 0x2300 && decide (r.size ≤ 8) && decide (sub < 256) && valueOk idx sub v r && decide (v < 256 ^ r.size)

theorem writeOf_now (tag : BitVec 8) (idx sub v lvl : Nat) (hint : Bool) (s u : State) (r : ObjRow) (hr : objRow idx sub = some r)
    (hp : plainRow idx sub v r = true) (hlv : levelOf idx sub v r = lvl) (hC : CanWrite link r.size lvl s)
    (hw : writeNow hint link.val idx sub v (beginFrame link.val s) = (u, 0)) (ht : ¬ (s.blk.st = .test ∧ u.blk.st = .resetPhase)) :
    Written link tag idx sub r.size u (writeOf link.val tag idx sub v hint s) := by
  simp only [plainRow, Bool.and_eq_true, Bool.or_eq_true, Bool.not_eq_true', decide_eq_true_eq, beq_iff_eq, bne_iff_ne, ne_eq] at hp
  obtain ⟨⟨⟨⟨⟨⟨⟨⟨⟨h1, h2⟩, h3⟩, h4⟩, h5⟩, h6⟩, h7⟩, h8⟩, h9⟩, h10⟩ := hp
  refine writeOf_written link tag idx sub v hint s u r hr h1 h7 h4 h8 h10 hC.1 ?_ ht
  rw [writeObject_now link hint idx sub v r _ h2 (by omega) (by omega) h5 (by rw [beginFrame_level]; rw [hlv]; exact hC.2.1)
    (fun h => absurd h h6) (Or.inl (by simpa [drains] using hC.2.2)) h9]
  exact hw

/-- An Immediate object's write that its own rule refuses is answered with the rule's code. -/
theorem writeOf_refusedNow (tag : BitVec 8) (idx sub v lvl : Nat) (hint : Bool) (s u : State) (code : Nat) (r : ObjRow) (hr : objRow idx sub = some r)
    (hp : plainRow idx sub v r = true) (hlv : levelOf idx sub v r = lvl) (hC : CanWrite link r.size lvl s)
    (hw : writeNow hint link.val idx sub v (beginFrame link.val s) = (u, code)) (ht : ¬ (s.blk.st = .test ∧ u.blk.st = .resetPhase)) :
    writeOf link.val tag idx sub v hint s = endFrame link 2 (writeHdr tag idx sub r.size) ⟨u, code, 0, []⟩ := by
  simp only [plainRow, Bool.and_eq_true, Bool.or_eq_true, Bool.not_eq_true', decide_eq_true_eq, beq_iff_eq, bne_iff_ne, ne_eq] at hp
  obtain ⟨⟨⟨⟨⟨⟨⟨⟨⟨h1, h2⟩, h3⟩, h4⟩, h5⟩, h6⟩, h7⟩, h8⟩, h9⟩, h10⟩ := hp
  have hw' : writeObject hint link.val idx sub v r (beginFrame link.val s) = (u, code) := by
    rw [writeObject_now link hint idx sub v r _ h2 (by omega) (by omega) h5 (by rw [beginFrame_level]; rw [hlv]; exact hC.2.1)
      (fun h => absurd h h6) (Or.inl (by simpa [drains] using hC.2.2)) h9]
    exact hw
  unfold writeOf
  simp only [hr]
  have hrun := runRequest_write link tag idx sub v hint (beginFrame link.val s) r hr h1 h7 h4 h8 h10
  rw [hw'] at hrun
  have := transact_takes link ⟨2, writeHdr tag idx sub r.size, natLe r.size v, hint⟩ s (by simpa using hC.1) (by rw [hrun]; exact ht)
  rw [hrun] at this
  exact this

theorem noReset {s u : State} (h : u.blk = s.blk) : ¬ (s.blk.st = .test ∧ u.blk.st = .resetPhase) := by
  rintro ⟨a, b⟩
  rw [h, a] at b
  exact absurd b (by decide)

theorem blockHook_none (l idx sub v : Nat) (s : State) (h : 0x2F00 < idx) : blockHook l idx sub v s = none := by
  unfold blockHook
  have e1 : idx ≠ 0x1100 := by omega
  have e2 : idx ≠ 0x1200 := by omega
  have e3 : idx ≠ 0x1220 := by omega
  have e4 : idx ≠ 0x1230 := by omega
  have e5 : idx ≠ 0x2F00 := by omega
  have e6 : ¬ idx < 0x2370 := by omega
  simp [e1, e2, e3, e4, e5, e6]

/-- A write on a page whose objects stand in no pair goes to the hooks. -/
theorem writeNow_hooks (hint : Bool) (idx sub v p q : Nat) (s : State) (hp : pageOf idx = (p, q)) (h1 : p ≠ 0x3011) (h2 : p ≠ 0x7001)
    (h3 : p ≠ 0x1220) (h : 0x2F00 < idx) : writeNow hint link.val idx sub v s =
      (match channelHook hint p q sub v s with
       | some r => r
       | none => match unitHook link.val p q idx sub v s with
         | some r => r
         | none => (s.setObj idx sub (if clearsOnly p sub then s.obj idx sub &&& v else v), 0)) := by
  have : pairBroken s p idx sub v = false := by simp [pairBroken, h1, h2, h3]
  unfold writeNow
  simp only [hp, this, blockHook_none _ _ _ _ _ h, Bool.false_eq_true, ↓reduceIte]
  all_goals
    rcases channelHook hint p q sub v s with _ | r
    · rcases unitHook link.val p q idx sub v s with _ | r <;> rfl
    · rfl

end Sys2Proof.Machine
end

