-- ==== Sys2Proof/Laws/Cadence.lean ====
section
/-! SUPPORT. What the work of a frame and the end of a slot do to the cadence. -/

namespace Sys2Proof.Machine

theorem loseCadence_now (s : State) : (loseCadence s).now = s.now := by
  simp only [loseCadence, State.now, State.raise_cad]; rfl

theorem frameStart_cad (s : State) : (frameStart s).cad =
    { s.cad with skipDouble := s.cad.skipDouble && s.cad.workedFrame.isNone, workedFrame := some s.now.frame } := by
  have snap : (match s.mgmt.snapArmed with
      | some f => if serialLe frameMod f s.now.frame then takeSnapshot (f != s.now.frame) s else s
      | none => s).cad = s.cad := by
    split
    · split
      · exact (takeSnapshot_keeps ..).cad (by decide)
      · rfl
    · rfl
  have tail : ∀ v u : State, u.cad = v.cad →
      ({ u.cad with skipDouble := u.cad.skipDouble && u.cad.workedFrame.isNone, workedFrame := some u.now.frame } : Cad) =
      { v.cad with skipDouble := v.cad.skipDouble && v.cad.workedFrame.isNone, workedFrame := some v.now.frame } := by
    intro v u e; simp only [State.now, e]
  rw [frameStart, (commitBoundary_keeps ..).cad (by decide)]
  exact tail _ _ snap

/-- The work of a frame marks it as worked and leaves the rest of the cadence. -/
theorem frameWork_cad (tj : Option Int) (s : State) : (frameWork tj s).cad =
    { s.cad with skipDouble := s.cad.skipDouble && s.cad.workedFrame.isNone, workedFrame := some s.now.frame } := by
  obtain ⟨a, ha⟩ : ∃ v, v = forN 16 (frameStart s) (fun c t => frameChannel c t) := ⟨_, rfl⟩
  obtain ⟨b, hb⟩ : ∃ v : State, v = { a with mirror := { a.mirror with recovery := 0 } } := ⟨_, rfl⟩
  obtain ⟨e, he⟩ : ∃ v, v = forN 4 b (fun d t => if (t.dist d).stopWrites && !(t.dist d).demoting then
      t.modDist d (fun x => { x with stopWrites := false }) else t) := ⟨_, rfl⟩
  obtain ⟨f, hf⟩ : ∃ v, v = renewBudget (match tj with | some x => thermal x e | none => e) := ⟨_, rfl⟩
  obtain ⟨g, hg⟩ : ∃ v, v = if f.cad.st = .holdover || f.cad.st = .conflict then f.addObj 0x1300 9 1 else f := ⟨_, rfl⟩
  have all : frameWork tj s = { blockRows g with blk := { (blockRows g).blk with mode := (blockRows g).blk.st.mode } } := by
    rw [hg, hf, he, hb, ha]; rfl
  have chans : ∀ v : State, (forN 16 v (fun c t => frameChannel c t)).cad = v.cad := fun v =>
    forN_same State.cad _ _ _ (fun i b => (frameChannel_keeps ..).cad (by decide))
  have writes : ∀ v : State, (forN 4 v (fun d t => if (t.dist d).stopWrites && !(t.dist d).demoting then
      t.modDist d (fun x => { x with stopWrites := false }) else t)).cad = v.cad := fun v =>
    forN_same State.cad _ _ _ (fun i b => by split <;> rfl)
  have count : ∀ (q : Prop) [Decidable q] (w : State), (if q then w.addObj 0x1300 9 1 else w).cad = w.cad := by
    intro q _ w; split <;> rfl
  have heat : ∀ w : State, (match tj with | some x => thermal x w | none => w).cad = w.cad := by
    intro w; cases tj
    · rfl
    · exact (thermal_keeps ..).cad (by decide)
  have c1 : a.cad = (frameStart s).cad := by rw [ha]; exact chans _
  have c2 : e.cad = a.cad := by rw [he, writes, hb]
  have c3 : f.cad = e.cad := by rw [hf, (renewBudget_keeps ..).cad (by decide)]; exact heat e
  have c4 : g.cad = f.cad := by rw [hg]; exact count _ _
  rw [all, ← frameStart_cad, ← c1, ← c2, ← c3, ← c4]
  exact (blockRows_keeps ..).cad (by decide)

theorem frameWork_now (tj : Option Int) (s : State) : (frameWork tj s).now = s.now := by
  simp only [State.now, frameWork_cad]

/-- Refills, channels and staged events at a slot's end leave the cadence. -/
theorem slotTail_cad (s : State) :
    (drainStep (forN 16 (forN 112 s (fun p t => refill p t)) (fun c t => slotChannel c t))).cad = s.cad := by
  rw [(drainStep_keeps ..).cad (by decide), forN_same State.cad _ _ _ (fun i b => (slotChannel_keeps ..).cad (by decide)),
    forN_same State.cad _ _ _ (fun i b => (refill_keeps ..).cad (by decide))]

/-- The end of a slot moves the count to the next slot and ends a hold cycle. In Locked a phase error above 8 cycles is the
loss of the cadence, and another sets the next slot's length. -/
theorem slotEnd_cad (tj : Option Int) (phase : Int) (s : State) : (slotEnd tj phase s).now = nextSlot s.now ∧
    (slotEnd tj phase s).cad.hold = false ∧
    (s.cad.st = .locked → phase.natAbs ≤ 8 → (slotEnd tj phase s).cad.st = .locked ∧
      (slotEnd tj phase s).cad.slotLen = if s.cad.adjusted || phase = 0 then 40 else if 0 < phase then 41 else 39) ∧
    (s.cad.st = .locked → 8 < phase.natAbs → (slotEnd tj phase s).cad.st = .holdover ∧ (slotEnd tj phase s).cad.slotLen = 40) := by
  obtain ⟨v1, h1⟩ : ∃ v, v = if s.cad.st = .locked && decide (8 < phase.natAbs) then loseCadence s else s := ⟨_, rfl⟩
  have n1 : v1.now = s.now ∧ (s.cad.st = .locked → phase.natAbs ≤ 8 → v1 = s) ∧ (s.cad.st = .locked → 8 < phase.natAbs → v1.cad.st = .holdover) := by
    rw [h1]
    split
    · rename_i c
      simp only [Bool.and_eq_true, decide_eq_true_eq] at c
      exact ⟨loseCadence_now s, fun _ h => by omega, fun _ _ => by simp [loseCadence]⟩
    · rename_i c
      simp only [Bool.and_eq_true, decide_eq_true_eq, not_and] at c
      exact ⟨rfl, fun _ _ => rfl, fun a b => absurd b (c a)⟩
  obtain ⟨v2, h2⟩ : ∃ v, v = if v1.cad.st = .slewing && v1.cad.slotLen = 41 then { v1 with cad := { v1.cad with d := v1.cad.d + 1 } } else v1 := ⟨_, rfl⟩
  have n2 : v2.now = v1.now ∧ (v1.cad.st ≠ .slewing → v2 = v1) := by
    rw [h2]
    split
    · rename_i c
      simp only [Bool.and_eq_true, decide_eq_true_eq] at c
      exact ⟨rfl, fun h => absurd c.1 h⟩
    · exact ⟨rfl, fun _ => rfl⟩
  obtain ⟨v3, h3⟩ : ∃ v, v = if v2.cad.st = .slewing && decide (0 ≤ v2.cad.d) then (relock v2).raise 0x002 else v2 := ⟨_, rfl⟩
  have n3 : v3.now = v2.now ∧ (v2.cad.st ≠ .slewing → v3 = v2) := by
    rw [h3]
    split
    · rename_i c
      simp only [Bool.and_eq_true, decide_eq_true_eq] at c
      exact ⟨by simp only [State.now, State.raise_cad]; rfl, fun h => absurd c.1 h⟩
    · exact ⟨rfl, fun _ => rfl⟩
  obtain ⟨v4, h4⟩ : ∃ v : State, v = { v3.setNow (nextSlot v3.now) with cad := { (v3.setNow (nextSlot v3.now)).cad with
    slotLen := nextLength phase v3, adjusted := v3.cad.st == .locked && nextLength phase v3 != 40, hold := false } } := ⟨_, rfl⟩
  have e : slotEnd tj phase s = drainStep (forN 16 (forN 112 (if v4.now.slot = 0 then frameWork tj v4 else v4) (fun p t => refill p t)) (fun c t => slotChannel c t)) := by
    rw [h4, h3, h2, h1]; rfl
  have c4 : v4.now = nextSlot s.now ∧ v4.cad.hold = false ∧ v4.cad.slotLen = nextLength phase v3 ∧ v4.cad.st = v3.cad.st := by
    rw [h4]
    refine ⟨?_, rfl, rfl, rfl⟩
    rw [← n1.1, ← n2.1, ← n3.1]
    simp [State.now, State.setNow, voteCount]
  obtain ⟨v5, h5⟩ : ∃ v, v = if v4.now.slot = 0 then frameWork tj v4 else v4 := ⟨_, rfl⟩
  have c5 : v5.now = v4.now ∧ v5.cad.hold = v4.cad.hold ∧ v5.cad.slotLen = v4.cad.slotLen ∧ v5.cad.st = v4.cad.st := by
    rw [h5]
    split
    · exact ⟨frameWork_now .., by rw [frameWork_cad], by rw [frameWork_cad], by rw [frameWork_cad]⟩
    · exact ⟨rfl, rfl, rfl, rfl⟩
  have now : (slotEnd tj phase s).now = v5.now := by rw [e, ← h5]; simp only [State.now, slotTail_cad]
  have cad : (slotEnd tj phase s).cad = v5.cad := by rw [e, ← h5]; exact slotTail_cad _
  refine ⟨now.trans (c5.1.trans c4.1), by rw [cad, c5.2.1, c4.2.1], fun hl hp => ?_, fun hl hp => ?_⟩
  · have a1 := n1.2.1 hl hp
    have a2 := n2.2 (by rw [a1, hl]; decide)
    have a3 := n3.2 (by rw [a2, a1, hl]; decide)
    have l3 : v3 = s := a3.trans (a2.trans a1)
    exact ⟨by rw [cad, c5.2.2.2, c4.2.2.2, l3, hl], by rw [cad, c5.2.2.1, c4.2.2.1, l3, nextLength, hl]⟩
  · have a1 := n1.2.2 hl hp
    have a2 := n2.2 (by rw [a1]; decide)
    have a3 := n3.2 (by rw [a2, a1]; decide)
    have l3 : v3 = v1 := a3.trans a2
    exact ⟨by rw [cad, c5.2.2.2, c4.2.2.2, l3, a1], by rw [cad, c5.2.2.1, c4.2.2.1, l3, nextLength, a1]⟩

end Sys2Proof.Machine
end

