-- ==== Sys2Proof/Laws/Frames.lean ====
section
/-! SUPPORT. From what a function keeps to the frame of a command. -/

namespace Sys2Proof.Machine

/-- Bit of a part in the mask of `Keeps`. -/
def Part.bit : Part → Nat
  | .cad => 0
  | .ports => 1
  | .xbars => 2
  | .net => 3
  | .chans => 4
  | .plaza => 5
  | .plazaLru => 6
  | .order => 7
  | .transit => 8
  | .gathers => 9
  | .samples => 10
  | .ledger => 11
  | .ledgerLru => 12
  | .found => 13
  | .pinned => 14
  | .sealedList => 15
  | .sealedFrom => 16
  | .dram => 17
  | .dists => 18
  | .keys => 19
  | .vault => 20
  | .mram => 21
  | .repair => 22
  | .mirror => 23
  | .sup => 24
  | .bays => 25
  | .ev => 26
  | .mgmt => 27
  | .blk => 28
  | .objs => 29
  | .recs => 30
  | .shadowObjs => 31
  | .freeCtr => 32

theorem Keeps.same {M : Nat} {s t : State} (h : Keeps M s t) (p : Part) (hb : M.testBit p.bit = true) : p.same s t := by
  cases p
  · exact h.cad hb
  · exact h.ports hb
  · exact h.xbars hb
  · exact h.net hb
  · exact h.chans hb
  · exact h.plaza hb
  · exact h.plazaLru hb
  · exact h.order hb
  · exact h.transit hb
  · exact h.gathers hb
  · exact h.samples hb
  · exact h.ledger hb
  · exact h.ledgerLru hb
  · exact h.found hb
  · exact h.pinned hb
  · exact h.sealedList hb
  · exact h.sealedFrom hb
  · exact h.dram hb
  · exact h.dists hb
  · exact h.keys hb
  · exact h.vault hb
  · exact h.mram hb
  · exact h.repair hb
  · exact h.mirror hb
  · exact h.sup hb
  · exact h.bays hb
  · exact h.ev hb
  · exact h.mgmt hb
  · exact h.blk hb
  · exact h.objs hb
  · exact h.recs hb
  · exact h.shadowObjs hb
  · exact h.freeCtr hb

/-- A mask that keeps every part outside a list gives the frame of that list. -/
theorem Keeps.frame {M : Nat} {s t : State} (h : Keeps M s t) (changed : List Part)
    (hb : ∀ p : Part, p ∉ changed → M.testBit p.bit = true) : Frame changed s t :=
  ⟨h.pending, fun p hp => h.same p (hb p hp)⟩

/-- Frames compose. -/
theorem Frame.trans {l : List Part} {s t u : State} (h : Frame l s t) (h' : Frame l t u) : Frame l s u := by
  refine ⟨h'.1.trans h.1, fun p hp => ?_⟩
  have a := h.2 p hp
  have b := h'.2 p hp
  cases p <;> exact Eq.trans b a

end Sys2Proof.Machine
end

