-- ==== Sys2Proof/Laws/Mirror.lean ====
section
/-! SUPPORT. Sending on the mirror, said once: only what left on a port and the sequence numbers of a kind change. -/

namespace Sys2Proof.Machine

/-- Sending on a port changes only what left on it. -/
theorem sendOn_mirror (port : Nat) (hdr pl : List Byte) (s : State) : ∃ x, (sendOn port hdr pl s).mirror = { s.mirror with sent := x } := by
  unfold sendOn
  split
  · exact ⟨_, rfl⟩
  · exact ⟨s.mirror.sent, rfl⟩

/-- Sending on both paths. -/
theorem sendPaths_mirror (k : Nat) (hdr pl : List Byte) (s : State) : ∃ x, (sendPaths k hdr pl s).mirror = { s.mirror with sent := x } := by
  unfold sendPaths
  dsimp only
  rw [State.addObj_mirror]
  cases h0 : choosePort s.mirror.up 0 k with
  | none =>
    dsimp only
    cases choosePort s.mirror.up 1 k with
    | none => exact ⟨s.mirror.sent, rfl⟩
    | some q => exact sendOn_mirror q hdr pl s
  | some p =>
    dsimp only
    obtain ⟨x, hx⟩ := sendOn_mirror p hdr pl s
    generalize sendOn p hdr pl s = v at hx ⊢
    cases choosePort v.mirror.up 1 k with
    | none => exact ⟨x, hx⟩
    | some q =>
      obtain ⟨y, hy⟩ := sendOn_mirror q hdr pl v
      exact ⟨y, by rw [hy, hx]⟩

/-- Sending an Ack takes its number. -/
theorem sendAck_mirror (naks : List (Nat × Nat × Nat)) (s : State) (h : s.mirror.started = true) :
    ∃ x, (sendAck naks s).mirror = { s.mirror with ackSeq := s.mirror.ackSeq + 1, sent := x } := by
  unfold sendAck
  rw [if_pos h]
  dsimp only
  rw [State.addObj_mirror]
  have f : ∀ v : State, (forN 16 v (fun k t => t.setObj (0x6040 + k) 4 (cumAck v k))).mirror = v.mirror := fun v =>
    forN_same State.mirror _ _ _ (fun i b => rfl)
  obtain ⟨x, hx⟩ := sendPaths_mirror s.mirror.ackSeq (frameHeader 1 0 (forN 16 s (fun k t => t.setObj (0x6040 + k) 4 (cumAck s k))).vault.session 3 s.mirror.ackSeq)
    ((List.range 16).flatMap (fun k => natLe 8 (cumAck s k)) ++ fit 64 ((naks.take 4).flatMap (fun x => natLe 1 x.1 ++ natLe 1 0 ++ natLe 2 x.2.2 ++ natLe 4 0 ++ natLe 8 x.2.1)))
    { forN 16 s (fun k t => t.setObj (0x6040 + k) 4 (cumAck s k)) with mirror := { (forN 16 s (fun k t => t.setObj (0x6040 + k) 4 (cumAck s k))).mirror with ackSeq := s.mirror.ackSeq + 1 } }
  exact ⟨x, by rw [hx, f]⟩

/-- Sending a Hello takes its number. -/
theorem sendHello_mirror (s : State) (h : s.mirror.started = true) :
    ∃ x, (sendHello s).mirror = { s.mirror with helloSeq := s.mirror.helloSeq + 1, sent := x } := by
  unfold sendHello
  rw [if_pos h]
  dsimp only
  rw [State.addObj_mirror]
  have f : ∀ (n : Nat) (v : State) (hd pl : List Byte), ∃ x, (forN n v (fun p t => sendOn p hd pl t)).mirror = { v.mirror with sent := x } := by
    intro n v hd pl
    refine forN_keeps (fun t : State => ∃ x, t.mirror = { v.mirror with sent := x }) _ _ _ ⟨v.mirror.sent, rfl⟩ ?_
    intro i t ⟨x, hx⟩
    obtain ⟨y, hy⟩ := sendOn_mirror i hd pl t
    exact ⟨y, by rw [hy, hx]⟩
  obtain ⟨x, hx⟩ := f 16 s (frameHeader 4 0 s.vault.session 1 s.mirror.helloSeq) (helloPayload s)
  exact ⟨x, by rw [hx]⟩

/-- A Data frame that is sent leaves the streams. -/
theorem sendData_tx (f : TxFrame) (s : State) : (sendData f s).mirror.tx = s.mirror.tx := by
  unfold sendData
  dsimp only
  split
  · rfl
  · obtain ⟨x, hx⟩ := sendPaths_mirror (f.stream + f.seq) (frameHeader 0 f.stream s.vault.session ((dataPayload f.cut f.dist f.recs).length / 64) f.seq)
      (dataPayload f.cut f.dist f.recs) s
    rw [hx]

/-- A closed frame leaves its stream with the records that stay open, the close noted. -/
theorem closeBut_tx (keep : MRec → Bool) (c d : Nat) (s : State) (h : (s.chan c).dist = some d) :
    (closeBut keep c s).tx c =
      { open_ := (s.tx c).open_.filter keep, since := if ((s.tx c).open_.filter keep).isEmpty then 0 else s.cycleNow, lastClose := s.slotNow } := by
  have k : ∀ a b : State, a.mirror.tx = b.mirror.tx → a.tx c = b.tx c := fun a b e => by simp only [State.tx, e]
  unfold closeBut
  dsimp only
  rw [h]
  dsimp only
  rw [k _ _ (sendData_tx ..)]
  show (((s.setObj (0x6040 + c) 1 _).setTx c _).tx c) = _
  rw [State.setTx_same]
  rfl

/-- Sending on a port moves no object. -/
theorem sendOn_obj (port : Nat) (hdr pl : List Byte) (s : State) (i k : Nat) : (sendOn port hdr pl s).obj i k = s.obj i k := by
  simp only [State.obj, (sendOn_keeps ..).objs (by decide)]

/-- A Hello moves only the count of frames sent. -/
theorem sendHello_obj (s : State) (i k : Nat) (hk : k < 256) (h : i ≠ 0x6000) : (sendHello s).obj i k = s.obj i k := by
  unfold sendHello
  dsimp only
  split
  · generalize frameHeader 4 0 s.vault.session 1 s.mirror.helloSeq = hd
    generalize helloPayload s = pl
    have f : (forN 16 s (fun p t => sendOn p hd pl t)).obj i k = s.obj i k :=
      forN_same (fun w : State => w.obj i k) _ _ _ (fun j b => sendOn_obj j hd pl b i k)
    generalize forN 16 s (fun p t => sendOn p hd pl t) = v at f ⊢
    rw [State.addObj, setObj_ne2 _ _ _ _ _ _ (by decide) hk (Or.inl h)]
    exact f
  · rfl

/-! ### Loopback frames keep the device state and the running test -/

theorem injectFired_st (s : State) : (injectFired s).blk.st = s.blk.st ∧ (injectFired s).blk.test = s.blk.test := by
  unfold injectFired
  dsimp only
  split
  · split
    · have r := (releaseOwn_keeps 2 6 (({ s.addObj 0xB001 9 1 with blk := { (s.addObj 0xB001 9 1).blk with inj := none } } : State).setObj 0xB001 8 2)).blk (by decide)
      split
      · exact ⟨by rw [r]; rfl, by rw [r]; rfl⟩
      · exact ⟨rfl, rfl⟩
    · exact ⟨rfl, rfl⟩
  · exact ⟨rfl, rfl⟩

theorem loopArrive_st (kind port : Nat) (bs : List Byte) (s : State) :
    (loopArrive kind port bs s).blk.st = s.blk.st ∧ (loopArrive kind port bs s).blk.test = s.blk.test := by
  unfold loopArrive countLoop
  have i := injectFired_st s
  split
  · exact ⟨rfl, rfl⟩
  split
  · exact i
  split <;> exact ⟨rfl, rfl⟩

theorem loopSend_st (inside : Bool) (port n : Nat) (s : State) :
    (loopSend inside port n s).blk.st = s.blk.st ∧ (loopSend inside port n s).blk.test = s.blk.test := by
  unfold loopSend
  dsimp only
  split
  · exact loopArrive_st ..
  · exact ⟨rfl, rfl⟩

theorem runLoops_st (inside : Bool) (s : State) : (runLoops inside s).blk.st = s.blk.st ∧ (runLoops inside s).blk.test = s.blk.test := by
  have one : ∀ n k (v : State), ((forN n v (fun i u => loopSend inside k i u)).blk.st, (forN n v (fun i u => loopSend inside k i u)).blk.test) =
      (v.blk.st, v.blk.test) := fun n k v =>
    forN_same (fun u : State => (u.blk.st, u.blk.test)) n _ v (fun i u => Prod.ext (loopSend_st ..).1 (loopSend_st ..).2)
  have all := forN_same (fun u : State => (u.blk.st, u.blk.test)) 16 (fun k t => if bit (s.obj 0xB000 5) k then
    forN (s.obj 0xB000 6) t (fun i u => loopSend inside k i u) else t) { s with blk := { s.blk with loops := [] } }
    (fun k v => by split; exacts [one .., rfl])
  exact ⟨congrArg Prod.fst all, congrArg Prod.snd all⟩

end Sys2Proof.Machine
end

