-- ==== Sys2Proof/Laws/Ports.lean ====
section
/-! SUPPORT. Admission at a request port, said once: what a packet that passes Forecast makes of its port. -/

namespace Sys2Proof.Machine


/-- A count leaves the ports as they are. -/
theorem countPort_port (p code k : Nat) (s : State) (y : Nat) : (countPort p code k s).port y = s.port y := by
  simp only [State.port, (countPort_keeps ..).ports (by decide)]

/-- What a port holds after a change of it. -/
theorem modPort_port (s : State) (p : Nat) (f : Port → Port) : (s.modPort p f).port p = f (s.port p) := by
  simp [State.modPort]

/-- Sampling changes only the countdown and LFSR of a port. -/
theorem sampleAccept_port (r : Req) (t0 : Nat) (s : State) (y : Nat) :
    ((sampleAccept r t0 s).port y).tags = (s.port y).tags ∧ ((sampleAccept r t0 s).port y).ingress = (s.port y).ingress ∧
      ((sampleAccept r t0 s).port y).bridge = (s.port y).bridge := by
  have h : ∀ q : Port, q.tags = (s.port r.port).tags → q.ingress = (s.port r.port).ingress → q.bridge = (s.port r.port).bridge →
      ((s.setPort r.port q).port y).tags = (s.port y).tags ∧ ((s.setPort r.port q).port y).ingress = (s.port y).ingress ∧
        ((s.setPort r.port q).port y).bridge = (s.port y).bridge := by
    intro q a b d
    by_cases e : y = r.port
    · subst e; simp [a, b, d]
    · have : (s.setPort r.port q).port y = s.port y := by simp only [State.port, State.setPort]; rw [tget_tput_ne _ _ _ _ _ _ e]
      simp [this]
  unfold sampleAccept
  dsimp only
  split
  · exact ⟨rfl, rfl, rfl⟩
  · split
    · exact h _ rfl rfl rfl
    · exact h _ rfl rfl rfl

/-- What registering a packet makes of its port. -/
theorem register_port (p : Nat) (k : Packet) (r : Req) (cost : Nat) (s : State) (rest : List Packet) (hb : (s.port p).bridge = k :: rest) :
    ((register p k r cost s).port p).tags = (s.port p).tags ++ [{ tag := r.tag, req := r, lost := false }] ∧
      ((register p k r cost s).port p).ingress = (s.port p).ingress ∧ ((register p k r cost s).port p).bridge = rest := by
  have ha : ((popBridge p s).port p).bridge = rest ∧ ((popBridge p s).port p).tags = (s.port p).tags ∧ ((popBridge p s).port p).ingress = (s.port p).ingress := by
    simp [popBridge, hb]
  rw [register]
  generalize popBridge p s = a at ha ⊢
  obtain ⟨b, hB⟩ : ∃ b, b = a.modPort p (fun q => { q with
    tags := q.tags ++ [{ tag := r.tag, req := r, lost := false }]
    tokens := if a.obj (0x2200 + p) 7 = 0 then q.tokens else q.tokens - cost
    lastReg := some a.cycleNow
    collide := false }) := ⟨_, rfl⟩
  rw [← hB]
  have hb : (b.port p).bridge = rest ∧ (b.port p).tags = (s.port p).tags ++ [{ tag := r.tag, req := r, lost := false }] ∧ (b.port p).ingress = (s.port p).ingress := by
    rw [hB, modPort_port]; exact ⟨ha.1, by rw [ha.2.1], ha.2.2⟩
  clear hB ha
  obtain ⟨c, hC⟩ : ∃ c, c = countPort p 1 1 (if p = 100 then b.setObj 0x1220 7 r.stamp.word else b) := ⟨_, rfl⟩
  rw [← hC]
  have hc : c.port p = b.port p := by
    rw [hC, countPort_port]; split
    · exact State.setObj_at_port ..
    · rfl
  clear hC
  obtain ⟨d, hD⟩ : ∃ d, d = (if isRead r.cmd = true then countPort p 2 1 c else if (decide (r.cmd = 0x10) || decide (r.cmd = 0x11)) = true then countPort p 3 1 c
    else if isAtomic r.cmd = true then countPort p 4 1 c else c) := ⟨_, rfl⟩
  rw [← hD]
  have hd : d.port p = b.port p := by
    rw [hD, ← hc]; repeat' split
    all_goals first | rfl | exact countPort_port ..
  clear hD
  rw [(sampleAccept_port _ _ _ _).1, (sampleAccept_port _ _ _ _).2.1, (sampleAccept_port _ _ _ _).2.2, countPort_port, hd]
  exact ⟨hb.2.1, hb.2.2, hb.1⟩

/-- Sampling leaves the response buffer. -/
theorem sampleAccept_resp (r : Req) (t0 : Nat) (s : State) (y : Nat) : ((sampleAccept r t0 s).port y).resp = (s.port y).resp := by
  have h : ∀ q : Port, q.resp = (s.port r.port).resp → ((s.setPort r.port q).port y).resp = (s.port y).resp := by
    intro q a
    by_cases e : y = r.port
    · subst e; simp [a]
    · have : (s.setPort r.port q).port y = s.port y := by simp only [State.port, State.setPort]; rw [tget_tput_ne _ _ _ _ _ _ e]
      simp [this]
  unfold sampleAccept
  dsimp only
  split
  · rfl
  · split
    · exact h _ rfl
    · exact h _ rfl

/-- Registering a packet leaves the response buffer. -/
theorem register_resp (p : Nat) (k : Packet) (r : Req) (cost : Nat) (s : State) : ((register p k r cost s).port p).resp = (s.port p).resp := by
  have ha : ((popBridge p s).port p).resp = (s.port p).resp := by
    simp only [popBridge, modPort_port]; split <;> rfl
  rw [register]
  generalize popBridge p s = a at ha ⊢
  obtain ⟨b, hB⟩ : ∃ b, b = a.modPort p (fun q => { q with
    tags := q.tags ++ [{ tag := r.tag, req := r, lost := false }]
    tokens := if a.obj (0x2200 + p) 7 = 0 then q.tokens else q.tokens - cost
    lastReg := some a.cycleNow
    collide := false }) := ⟨_, rfl⟩
  rw [← hB]
  have hb : (b.port p).resp = (s.port p).resp := by rw [hB, modPort_port]; exact ha
  clear hB ha
  obtain ⟨c, hC⟩ : ∃ c, c = countPort p 1 1 (if p = 100 then b.setObj 0x1220 7 r.stamp.word else b) := ⟨_, rfl⟩
  rw [← hC]
  have hc : c.port p = b.port p := by
    rw [hC, countPort_port]; split
    · exact State.setObj_at_port ..
    · rfl
  clear hC
  obtain ⟨d, hD⟩ : ∃ d, d = (if isRead r.cmd = true then countPort p 2 1 c else if (decide (r.cmd = 0x10) || decide (r.cmd = 0x11)) = true then countPort p 3 1 c
    else if isAtomic r.cmd = true then countPort p 4 1 c else c) := ⟨_, rfl⟩
  rw [← hD]
  have hd : d.port p = b.port p := by
    rw [hD, ← hc]; repeat' split
    all_goals first | rfl | exact countPort_port ..
  clear hD
  rw [sampleAccept_resp, countPort_port, hd, hb]

/-- Sampling leaves the cycle of the last registration. -/
theorem sampleAccept_last (r : Req) (t0 : Nat) (s : State) (y : Nat) : ((sampleAccept r t0 s).port y).lastReg = (s.port y).lastReg := by
  have h : ∀ q : Port, q.lastReg = (s.port r.port).lastReg → ((s.setPort r.port q).port y).lastReg = (s.port y).lastReg := by
    intro q a
    by_cases e : y = r.port
    · subst e; simp [a]
    · have : (s.setPort r.port q).port y = s.port y := by simp only [State.port, State.setPort]; rw [tget_tput_ne _ _ _ _ _ _ e]
      simp [this]
  unfold sampleAccept
  dsimp only
  split
  · rfl
  · split
    · exact h _ rfl
    · exact h _ rfl

/-- Registering a packet takes the port's one registration of the cycle (R16). -/
theorem register_last (p : Nat) (k : Packet) (r : Req) (cost : Nat) (s : State) :
    ((register p k r cost s).port p).lastReg = some s.cycleNow := by
  have ha : (popBridge p s).cad = s.cad := (popBridge_keeps ..).cad (by decide)
  rw [register]
  generalize popBridge p s = a at ha ⊢
  obtain ⟨b, hB⟩ : ∃ b, b = a.modPort p (fun q => { q with
    tags := q.tags ++ [{ tag := r.tag, req := r, lost := false }]
    tokens := if a.obj (0x2200 + p) 7 = 0 then q.tokens else q.tokens - cost
    lastReg := some a.cycleNow
    collide := false }) := ⟨_, rfl⟩
  rw [← hB]
  have hb : (b.port p).lastReg = some s.cycleNow := by
    rw [hB, modPort_port]; show some a.cycleNow = _; simp only [State.cycleNow, State.now, ha]
  clear hB ha
  obtain ⟨c, hC⟩ : ∃ c, c = countPort p 1 1 (if p = 100 then b.setObj 0x1220 7 r.stamp.word else b) := ⟨_, rfl⟩
  rw [← hC]
  have hc : c.port p = b.port p := by
    rw [hC, countPort_port]; split
    · exact State.setObj_at_port ..
    · rfl
  clear hC
  obtain ⟨d, hD⟩ : ∃ d, d = (if isRead r.cmd = true then countPort p 2 1 c else if (decide (r.cmd = 0x10) || decide (r.cmd = 0x11)) = true then countPort p 3 1 c
    else if isAtomic r.cmd = true then countPort p 4 1 c else c) := ⟨_, rfl⟩
  rw [← hD]
  have hd : d.port p = b.port p := by
    rw [hD, ← hc]; repeat' split
    all_goals first | rfl | exact countPort_port ..
  clear hD
  rw [sampleAccept_last, countPort_port, hd, hb]

/-- The stamp depends on the cadence alone. -/
theorem stampNow_congr (s u : State) (h : u.cad = s.cad) (p : Nat) : u.stampNow p = s.stampNow p := by
  simp only [State.stampNow, State.now, h]

/-- Taking a grant leaves the queues and tags of the port. -/
theorem takeGrant_port (p c : Nat) (g : Grant) (s : State) : ((takeGrant p c g s).port p).tags = (s.port p).tags ∧
    ((takeGrant p c g s).port p).ingress = (s.port p).ingress ∧ ((takeGrant p c g s).port p).bridge = (s.port p).bridge := by
  unfold takeGrant
  dsimp only
  have e : ∀ (u : State) (z : Sup), ({ u with sup := z } : State).port p = u.port p := fun _ _ => rfl
  refine ⟨?_, ?_, ?_⟩ <;>
  · rw [e]
    split <;> (try simp only [State.modChan, State.setChan_at_port]) <;> split <;> simp [modPort_port]

/-- Noting a mirrored district leaves the queues and tags of the port. -/
theorem noteWrote_port (p d : Nat) (s : State) : ((noteWrote p d s).port p).tags = (s.port p).tags ∧
    ((noteWrote p d s).port p).ingress = (s.port p).ingress ∧ ((noteWrote p d s).port p).bridge = (s.port p).bridge := by
  unfold noteWrote
  split
  · rw [modPort_port]; split <;> exact ⟨rfl, rfl, rfl⟩
  · exact ⟨rfl, rfl, rfl⟩

/-- A packet whose class test passes is registered. -/
theorem admitTested_registered (p c l d : Nat) (k : Packet) (rest : List Packet) (g : Grant) (s : State) (hb : (s.port p).bridge = k :: rest)
    (ht : classTest s p c l d k.hdr (s.stampNow p) = .pass g) : Registered p k rest g s (admitTested p c l d k s) := by
  unfold admitTested
  rw [ht]
  dsimp only
  generalize hu : (if isWrite (hdrCmd k.hdr) = true then noteWrote p d s else s) = u
  have hu' : (u.port p).tags = (s.port p).tags ∧ (u.port p).ingress = (s.port p).ingress ∧ (u.port p).bridge = (s.port p).bridge ∧ u.cad = s.cad := by
    rw [← hu]
    split
    · exact ⟨(noteWrote_port ..).1, (noteWrote_port ..).2.1, (noteWrote_port ..).2.2, (noteWrote_keeps ..).cad (by decide)⟩
    · exact ⟨rfl, rfl, rfl, rfl⟩
  generalize hv : takeGrant p c g u = v
  have hv' : (v.port p).tags = (u.port p).tags ∧ (v.port p).ingress = (u.port p).ingress ∧ (v.port p).bridge = (u.port p).bridge ∧ v.cad = u.cad := by
    rw [← hv]; exact ⟨(takeGrant_port ..).1, (takeGrant_port ..).2.1, (takeGrant_port ..).2.2, (takeGrant_keeps ..).cad (by decide)⟩
  have r := register_port p k (mkReq v p k g.deadline g.res g.positions none) (tokenCost k.hdr) v rest (by rw [hv'.2.2.1, hu'.2.2.1, hb])
  refine ⟨mkReq v p k g.deadline g.res g.positions none, rfl, rfl, rfl, rfl, rfl, rfl, rfl, rfl, ?_, rfl, ?_, ?_, ?_, ?_⟩
  · exact stampNow_congr _ _ (hv'.2.2.2.trans hu'.2.2.2) p
  · rw [modPort_port]; exact r.1.trans (by rw [hv'.1, hu'.1])
  · rw [modPort_port]; show _ ++ _ = _; rw [r.2.1, hv'.2.1, hu'.2.1]
  · rw [modPort_port]; exact r.2.2
  · rw [modPort_port]; refine (register_last ..).trans ?_
    simp only [State.cycleNow, State.now, hv'.2.2.2, hu'.2.2.2]

/-- A packet that passes Forecast is registered. -/
theorem admitFront_registered (p c : Nat) (k : Packet) (rest : List Packet) (g : Grant) (s : State) (h : Passes p c k rest g s) :
    Registered p k rest g s (admitFront p s) := by
  obtain ⟨h1, h0, h2, h3, h4, h5, h6, h7, l, d, x, h8, h9⟩ := h
  have h6' : inSequence (wakeChan c s) p k.hdr = false := h6
  have hl : (s.port p).lock = none := by
    simp only [inSequence, Bool.or_eq_false_iff] at h6; simpa using h6.1
  have e : admitFront p s = admitTested p c l d k (wakeChan c s) := by
    simp only [admitFront, h1, h0, h2, h3, lockTimeout, hl, admitChecked, checkAll, h4, lockRulesFail, h6, h7, h8, h5, h6', bne_iff_ne, ne_eq,
      not_true_eq_false, Bool.false_eq_true, ↓reduceIte, Bool.not_true, Bool.false_and, Option.isNone_some, Bool.and_false]
  rw [e]
  have w : (wakeChan c s).port p = s.port p := rfl
  have r := admitTested_registered p c l d k rest g (wakeChan c s) (by rw [w, h1]) (by rw [stampNow_congr s (wakeChan c s) rfl]; exact h9)
  obtain ⟨q, a1, a2, a3, a4, a5, a6, a7, a8, a9, a10, a11, a12, a13, a14⟩ := r
  exact ⟨q, a1, a2, a3, a4, a5, a6, a7, a8, a9, a10, a11, a12, a13, a14⟩

/-- The last packet of a bridge, where units of it are still to come. -/
theorem partPacket_last (q : Port) (b : List Packet) (k : Packet) (hb : q.bridge = b ++ [k]) (hn : k.need ≠ 0) : q.partPacket = some k := by
  simp [Port.partPacket, hb, hn]

/-- Units a packet still waits for, within the credits, join it; it waits for the others. -/
theorem feedUnits_rest (now : Nat) (l : List (BitVec 512 × Bool)) : ∀ (b : List Packet) (k : Packet) (q : Port), q.bridge = b ++ [k] →
    l.length ≤ k.need → l.length ≤ q.credits → k.at_ = now → feedUnits now l q =
      ({ q with credits := q.credits - l.length, bridge := b ++ [{ k with data := k.data ++ l.map (·.1), need := k.need - l.length, bad := k.bad || l.any (fun e => !e.2) }] }, none) := by
  induction l with
  | nil =>
    intro b k q hb hn _ ha
    obtain ⟨⟩ := k
    obtain ⟨⟩ := q
    simp_all [feedUnits]
  | cons e rest ih =>
    intro b k q hb hn hc ha
    obtain ⟨u, ok⟩ := e
    simp only [List.length_cons] at hn hc
    have hp := partPacket_last q b k hb (by omega)
    have h0 : q.credits ≠ 0 := by omega
    simp only [feedUnits, hp, h0, ↓reduceIte]
    rw [ih b { k with data := k.data ++ [u], need := k.need - 1, bad := k.bad || !ok, at_ := now } _ (by simp [hb]) (by simp; omega) (by simp; omega) rfl]
    simp [Nat.sub_sub, Nat.add_comm, Bool.or_assoc, ha]

/-- A packet within the credits, whole or its first part, is last in the bridge (R47, R60). -/
theorem feed_packet (p : Nat) (u : BitVec 512) (l : List (BitVec 512 × Bool)) (s : State) (hp : (s.port p).partPacket = none)
    (hc : 1 + l.length ≤ (s.port p).credits) (hu : l.length ≤ unitsOwed u l.length) : feed p ((u, true) :: l) s =
      bridged p { hdr := u, data := l.map (·.1), need := unitsOwed u l.length - l.length, bad := l.any (fun e => !e.2), at_ := s.cycleNow } s := by
  have h0 : (s.port p).credits ≠ 0 := by omega
  simp only [feed, feedUnits, hp, h0, ↓reduceIte, Bool.not_true, Bool.false_eq_true]
  rw [feedUnits_rest s.cycleNow l (s.port p).bridge _ _ rfl hu (by simp; omega) rfl]
  simp [bridged, State.modPort, Nat.sub_sub]

/-- A packet in a bridge moves no line. -/
theorem target_bridged (p : Nat) (k : Packet) (s : State) (a : Nat) : (bridged p k s).target a = s.target a := rfl

/-- A request that is issued is registered, then handed to its slice. -/
theorem issue_registered (p c : Nat) (h : BitVec 512) (data : List (BitVec 512)) (g : Grant) (s : State)
    (hc : 1 + data.length ≤ (s.port p).credits) (hu : unitsOwed h data.length = data.length) (hp : Passes p c (packetOf h data s) [] g (bridged p (packetOf h data s) s)) :
    ∃ u, issue p h data s = arriveAt c p (hdrTag h) u ∧ Registered p (packetOf h data s) [] g (bridged p (packetOf h data s) s) u := by
  refine ⟨admitFront p (bridged p (packetOf h data s) s), ?_, admitFront_registered _ _ _ _ _ _ hp⟩
  obtain ⟨l, d, x, h8, _⟩ := hp.target
  have h8' : s.target (hdrAddr h) = some (c, l, d, x) := h8
  have nf : hdrCmd h ≠ 0x30 := hp.fence
  have hb : (s.port p).bridge = [] := by
    have f := hp.front
    simp only [bridged, State.modPort_same] at f
    simpa using f
  have hf := feed_packet p h (data.map (fun d => (d, true))) s (by simp [Port.partPacket, hb]) (by simpa using hc) (by simp [hu])
  have hk : ({ hdr := h, data := (data.map (fun d => (d, true))).map (·.1), need := unitsOwed h (data.map (fun d => (d, true))).length - (data.map (fun d => (d, true))).length, bad := (data.map (fun d => (d, true))).any (fun e => !e.2),
               at_ := s.cycleNow } : Packet) = packetOf h data s := by
    simp [packetOf, Function.comp_def, hu]
  rw [hk] at hf
  unfold issue
  rw [hf, if_neg nf, h8']

/-- A response that fits, for a tag in use, is last in the buffer. -/
theorem respond_resp (r : Resp) (s : State) (hp : r.port < 96)
    (ht : ((s.port r.port).tags.any (fun u => u.tag == r.tag && u.req.stamp == r.stamp && !u.lost)) = true)
    (hn : (s.port r.port).answered r.tag r.stamp = false) (hr : (s.port r.port).respUnits + r.units ≤ 32) : ((respond r s).port r.port).resp = (s.port r.port).resp ++ [r] := by
  unfold respond
  rw [if_neg (by simp; omega)]
  dsimp only
  rw [if_pos (by rw [ht, hn]; rfl), if_pos hr, State.setPort_same]

/-- A fence with no mirror in service is answered at once. -/
theorem admitFence_off (p : Nat) (k : Packet) (s : State) (hp : p < 96) (hm : ∀ d, (s.dist d).mst = .off) (hb : (s.port p).bridge = [k])
    (hu : (s.port p).respUnits < 32) (hn : (s.port p).answered (hdrTag k.hdr) (s.stampNow p) = false) :
    ((admitFence p k s).port p).resp = (s.port p).resp ++
      [{ plainResp (mkReq s p k (lastSlotBy (s.stampNow p) (120 + s.obj 0x2000 3)) false [] none) 0 with status := 2 }] := by
  generalize hr : mkReq s p k (lastSlotBy (s.stampNow p) (120 + s.obj 0x2000 3)) false [] none = r
  have er : r.port = p := by rw [← hr]; rfl
  have hn' : (s.port p).answered r.tag r.stamp = false := by rw [← hr]; exact hn
  generalize hv : register p k r 256 s = v
  have e : admitFence p k s = if mirrorOff v then respond { plainResp r 0 with status := 2 } v else
      settleWaits { v with mirror := { v.mirror with waits := v.mirror.waits ++ [{ fence := true, resp := plainResp r 0, dist := 0, counted := (v.port p).wrote }] } } := by
    rw [admitFence, hr, hv]
  have mo : mirrorOff v = true := by
    have k : ∀ d, v.dist d = s.dist d := fun d => by
      rw [← hv]; simp only [State.dist, (register_keeps ..).dists (by decide)]
    simp [mirrorOff, k, hm]
  have r1 := register_port p k r 256 s [] hb
  have r2 := register_resp p k r 256 s
  rw [hv] at r1 r2
  rw [e, if_pos mo]
  clear e hv hr
  subst er
  rw [← r2]
  refine respond_resp { plainResp r 0 with status := 2 } v hp ?_ ?_ ?_
  · show ((v.port r.port).tags.any _) = true
    rw [r1.1]
    simp [plainResp]
  · show (v.port r.port).answered r.tag r.stamp = false
    simpa only [Port.answered, r2] using hn'
  · show (v.port r.port).respUnits + 1 ≤ 32
    have : (v.port r.port).respUnits = (s.port r.port).respUnits := by simp only [Port.respUnits, r2]
    omega

/-- A fence that Forecast admits. -/
theorem admitFront_fence (p : Nat) (k : Packet) (rest : List Packet) (s : State) (h1 : (s.port p).bridge = k :: rest) (h0 : k.need = 0)
    (h2 : portClosed s p = false) (h3 : ((s.port p).tags.any (fun u => u.tag == hdrTag k.hdr)) = false)
    (h4 : checkRequest s p k.hdr k.data k.bad = none) (h5 : tokensOk s p (tokenCost k.hdr) = true)
    (h6 : (s.port p).lock = none ∧ hdrLock k.hdr = false) (h7 : hdrCmd k.hdr = 0x30) : admitFront p s = admitFence p k s := by
  have hs : inSequence s p k.hdr = false := by simp [inSequence, h6.1, h6.2]
  simp only [admitFront, h1, h0, h2, h3, lockTimeout, h6.1, admitChecked, checkAll, h4, lockRulesFail, hs, h7, h5, bne_iff_ne, ne_eq,
    not_true_eq_false, Bool.false_eq_true, ↓reduceIte, Bool.not_true, Bool.false_and, decide_false, bne_self_eq_false]

end Sys2Proof.Machine
end

