-- ==== Sys2Proof/Laws/Raise.lean ====
section
/-! SUPPORT. What the parts of a raise do to the objects of the event sources and to MRAM (R380-R387): counting leaves the
sources' objects alone, the log is the only part of MRAM written, and only an enabled or Fatal raise is delivered. -/

namespace Sys2Proof.Machine

/-- Counting an occurrence leaves the objects of every source alone. -/
theorem countSource_source : ∀ m i k (v : State), 0x8000 ≤ i → i < 0x8200 → k < 256 → (countSource m v).obj i k = v.obj i k := by
  intro m i k v h1 h2 hk
  unfold countSource
  refine foldl_keeps (fun w : State => w.obj i k = v.obj i k) _ _ _ rfl (fun w e _ hw => ?_)
  dsimp only
  have hne : ∀ i' k', i' ≠ i → k' < 256 → (w.addObj i' k' 1).obj i k = v.obj i k := fun i' k' h h' => by
    unfold State.addObj; rw [setObj_ne2 _ _ _ _ _ _ h' hk (Or.inl (Ne.symm h))]; exact hw
  split
  · split
    · rename_i hp
      have := pageOf_chan _ (by simp at hp; exact hp.1.1)
      exact hne _ _ (by omega) (by simp at hp; omega)
    · split
      · rename_i hp
        have := pageOf_port _ (by simp at hp; exact hp.1.1)
        exact hne _ _ (by omega) (by simp at hp; omega)
      · split
        · rename_i hp
          have := pageOf_crossing _ (by simp at hp; exact hp.1.1)
          exact hne _ _ (by omega) (by simp at hp; omega)
        · exact hw
  · exact hw

/-- A log entry is written inside the event log. -/
theorem logWrite_log : ∀ e v, (logWrite e v).objs = v.objs ∧ ∀ a, (a < 0x6800 ∨ 0x7000 ≤ a) → ld (logWrite e v).mram a = ld v.mram a := by
  intro e v
  have hs : logSlot v.mram < 128 := by
    unfold logSlot; dsimp only
    split
    · decide
    · exact Nat.mod_lt _ (by decide)
  have hl : (evBytes e).length = 16 := by simp [evBytes]
  unfold logWrite
  dsimp only
  split
  · exact ⟨rfl, fun _ _ => rfl⟩
  · have k : ∀ b : Bool, ∀ w : State, w.objs = v.objs → (∀ a, (a < 0x6800 ∨ 0x7000 ≤ a) → ld w.mram a = ld v.mram a) →
        (if b = true then v else w).objs = v.objs ∧ ∀ a, (a < 0x6800 ∨ 0x7000 ≤ a) → ld (if b = true then v else w).mram a = ld v.mram a := by
      intro b w h1 h2; cases b
      · exact ⟨h1, h2⟩
      · exact ⟨rfl, fun _ _ => rfl⟩
    refine k _ _ rfl (fun a ha => ?_)
    exact ld_sbN_out _ _ _ _ (by rw [hl]; unfold logBase; omega)

/-- Writing a queue entry leaves the objects of every source alone. -/
theorem evWrite_source : ∀ e v i k, 0x8000 ≤ i → i < 0x8200 → k < 256 → (evWrite e v).1.obj i k = v.obj i k ∧ (evWrite e v).1.mram = v.mram := by
  intro e v i k h1 h2 hk
  unfold evWrite
  split
  · exact ⟨rfl, rfl⟩
  · exact ⟨setObj_ne2 _ _ _ _ _ _ (by decide) hk (Or.inl (by omega)), rfl⟩

/-- So does taking an entry into the queue or the staging buffer. -/
theorem evEnqueue_source : ∀ e v i k, 0x8000 ≤ i → i < 0x8200 → k < 256 → (evEnqueue e v).1.obj i k = v.obj i k ∧ (evEnqueue e v).1.mram = v.mram := by
  intro e v i k h1 h2 hk
  unfold evEnqueue
  dsimp only
  split
  · split
    · exact evWrite_source _ _ _ _ h1 h2 hk
    · exact ⟨(evWrite_source e v i k h1 h2 hk).1, (evWrite_source e v i k h1 h2 hk).2⟩
  · split
    · exact ⟨rfl, rfl⟩
    · exact ⟨setObj_ne2 _ _ _ _ _ _ (by decide) hk (Or.inl (by omega)), rfl⟩

/-- Following the EVT_N condition changes neither objects nor MRAM nor what is queued. -/
theorem evtSync_same : ∀ v, (evtSync v).objs = v.objs ∧ (evtSync v).mram = v.mram ∧ (evtSync v).ev.queue = v.ev.queue ∧ (evtSync v).ev.ibi = v.ev.ibi := by
  intro v; unfold evtSync
  split
  · exact ⟨rfl, rfl, rfl, rfl⟩
  · split
    · exact ⟨rfl, rfl, rfl, rfl⟩
    · exact ⟨rfl, rfl, rfl, rfl⟩

set_option maxHeartbeats 2000000 in

/-- The objects depend on nothing else. -/
theorem obj_of_objs (v w : State) (i k : Nat) (h : v.objs = w.objs) : v.obj i k = w.obj i k := by unfold State.obj; rw [h]

/-- What marking a raise does: the count, the stamp, EventPending, and nothing else on the sources' pages, in MRAM, in the
queue or among the interrupt requests. -/
theorem markRaise_source (n sev port : Nat) (b : Bool) (s : State) (hn : n < 512) :
    (markRaise n sev port b s).obj (evIdx n) 4 = min (s.obj (evIdx n) 4 + 1) (objMax (evIdx n) 4) ∧
    (markRaise n sev port b s).obj (evIdx n) 6 = (s.stampNow port).word ∧
    (markRaise n sev port b s).obj (evIdx n) 5 = (if b = true ∨ 3 ≤ sev then 1 else s.obj (evIdx n) 5) ∧
    (∀ i k, 0x8000 ≤ i → i < 0x8200 → k < 256 → i ≠ evIdx n → (markRaise n sev port b s).obj i k = s.obj i k) ∧
    (markRaise n sev port b s).mram = s.mram ∧ (markRaise n sev port b s).ev.queue = s.ev.queue ∧
    (markRaise n sev port b s).ev.ibi = s.ev.ibi := by
  have r1 : 0x8000 ≤ evIdx n := by unfold evIdx; omega
  have r2 : evIdx n < 0x8200 := by unfold evIdx; omega
  have fin : ∀ (g : Bool) (w : State) (e : Ev), e.queue = w.ev.queue → e.ibi = w.ev.ibi →
      (if g = true then { w with ev := e } else w).objs = w.objs ∧ (if g = true then { w with ev := e } else w).mram = w.mram ∧
      (if g = true then { w with ev := e } else w).ev.queue = w.ev.queue ∧ (if g = true then { w with ev := e } else w).ev.ibi = w.ev.ibi := by
    intro g w e h1 h2; cases g
    · exact ⟨rfl, rfl, rfl, rfl⟩
    · exact ⟨rfl, rfl, h1, h2⟩
  have mid : ∀ (g : Bool) (w : State), (if g = true then w.setObj (evIdx n) 5 1 else w).mram = w.mram ∧
      (if g = true then w.setObj (evIdx n) 5 1 else w).ev = w.ev ∧
      (if g = true then w.setObj (evIdx n) 5 1 else w).obj (evIdx n) 5 = (if g = true then 1 else w.obj (evIdx n) 5) ∧
      (∀ i k, k < 256 → (i ≠ evIdx n ∨ k ≠ 5) → (if g = true then w.setObj (evIdx n) 5 1 else w).obj i k = w.obj i k) := by
    intro g w; cases g
    · exact ⟨rfl, rfl, rfl, fun _ _ _ _ => rfl⟩
    · exact ⟨State.setObj_mram .., State.setObj_ev .., State.setObj_same .., fun i k hk h => setObj_ne2 _ _ _ _ _ _ (by decide) hk h⟩
  have base4 : (((countSource n s).addObj (evIdx n) 4 1).setObj (evIdx n) 6 (s.stampNow port).word).obj (evIdx n) 4 =
      min (s.obj (evIdx n) 4 + 1) (objMax (evIdx n) 4) := by
    rw [setObj_ne2 _ _ _ _ _ _ (by decide) (by decide) (Or.inr (by decide)), State.addObj_same, countSource_source _ _ _ _ r1 r2 (by decide)]
  have base6 : (((countSource n s).addObj (evIdx n) 4 1).setObj (evIdx n) 6 (s.stampNow port).word).obj (evIdx n) 6 = (s.stampNow port).word :=
    State.setObj_same ..
  have baseo : ∀ i k, 0x8000 ≤ i → i < 0x8200 → k < 256 → (i ≠ evIdx n ∨ (k ≠ 4 ∧ k ≠ 6)) →
      (((countSource n s).addObj (evIdx n) 4 1).setObj (evIdx n) 6 (s.stampNow port).word).obj i k = s.obj i k := by
    intro i k h1 h2 hk h
    rw [setObj_ne2 _ _ _ _ _ _ (by decide) hk (h.imp id (fun x => x.2))]
    unfold State.addObj
    rw [setObj_ne2 _ _ _ _ _ _ (by decide) hk (h.imp id (fun x => x.1)), countSource_source _ _ _ _ h1 h2 hk]
  have basem : (((countSource n s).addObj (evIdx n) 4 1).setObj (evIdx n) 6 (s.stampNow port).word).mram = s.mram := by
    rw [State.setObj_mram]; exact (countSource_keeps ..).mram (by decide)
  have basee : (((countSource n s).addObj (evIdx n) 4 1).setObj (evIdx n) 6 (s.stampNow port).word).ev = s.ev := by
    rw [State.setObj_ev]; exact (countSource_keeps ..).ev (by decide)
  unfold markRaise
  dsimp only
  generalize ((countSource n s).addObj (evIdx n) 4 1).setObj (evIdx n) 6 (s.stampNow port).word = v at *
  obtain ⟨m1, m2, m3, m4⟩ := mid (b || decide (3 ≤ sev)) v
  generalize (if (b || decide (3 ≤ sev)) = true then v.setObj (evIdx n) 5 1 else v) = w at *
  obtain ⟨f1, f2, f3, f4⟩ := fin (decide (3 ≤ sev) && !w.ev.fatal.contains n) w { w.ev with fatal := n :: w.ev.fatal } rfl rfl
  refine ⟨?_, ?_, ?_, fun i k h1 h2 hk h => ?_, ?_, ?_, ?_⟩
  · rw [obj_of_objs _ _ _ _ f1, m4 _ _ (by decide) (Or.inr (by decide)), base4]
  · rw [obj_of_objs _ _ _ _ f1, m4 _ _ (by decide) (Or.inr (by decide)), base6]
  · rw [obj_of_objs _ _ _ _ f1, m3, baseo _ _ r1 r2 (by decide) (Or.inr ⟨by decide, by decide⟩)]
    simp only [Bool.or_eq_true, decide_eq_true_eq]
  · rw [obj_of_objs _ _ _ _ f1, m4 _ _ hk (Or.inl h), baseo _ _ h1 h2 hk (Or.inl h)]
  · rw [f2, m1, basem]
  · rw [f3, m2, basee]
  · rw [f4, m2, basee]

/-- Delivering a raise leaves the sources' objects alone and writes MRAM inside the event log only. -/
theorem routeRaise_source (n sev detail port : Nat) (b : Bool) (s : State) :
    (∀ i k, 0x8000 ≤ i → i < 0x8200 → k < 256 → (routeRaise n sev detail port b s).1.obj i k = s.obj i k) ∧
    ∀ a, (a < 0x6800 ∨ 0x7000 ≤ a) → ld (routeRaise n sev detail port b s).1.mram a = ld s.mram a := by
  have h2 : ∀ (g : Bool) (u : State) (e : Ev), (if g = true then { u with ev := e } else u).objs = u.objs ∧
      (if g = true then { u with ev := e } else u).mram = u.mram := by intro g u e; cases g <;> exact ⟨rfl, rfl⟩
  have h3 : ∀ (g : Bool) (u : State) (e : EvEntry), (if g = true then logWrite e u else u).objs = u.objs ∧
      ∀ a, (a < 0x6800 ∨ 0x7000 ≤ a) → ld (if g = true then logWrite e u else u).mram a = ld u.mram a := by
    intro g u e; cases g
    · exact ⟨rfl, fun _ _ => rfl⟩
    · exact logWrite_log e u
  have h4 : ∀ (g : Bool) (u : State) (e : EvEntry),
      (∀ i k, 0x8000 ≤ i → i < 0x8200 → k < 256 → (if g = true then evEnqueue e u else (u, false)).1.obj i k = u.obj i k) ∧
      (if g = true then evEnqueue e u else (u, false)).1.mram = u.mram := by
    intro g u e; cases g
    · exact ⟨fun _ _ _ _ _ => rfl, rfl⟩
    · exact ⟨fun i k a b c => (evEnqueue_source e u i k a b c).1, (evEnqueue_source e u 0x8000 0 (by decide) (by decide) (by decide)).2⟩
  unfold routeRaise
  dsimp only
  refine ⟨fun i k a c d => ?_, fun a ha => ?_⟩
  · rw [(h4 _ _ _).1 i k a c d, obj_of_objs _ _ _ _ (h3 _ _ _).1, obj_of_objs _ _ _ _ (h2 _ _ _).1]
  · rw [(h4 _ _ _).2, (h3 _ _ _).2 a ha, (h2 _ _ _).2]

end Sys2Proof.Machine
end

