-- ==== Sys2Proof/Laws/Units.lean ====
section
/-! SUPPORT. A command of one channel leaves every other channel as it was. -/

namespace Sys2Proof.Machine

/-- Every channel but c is the same in both states. -/
def OtherChans (c : Nat) (s t : State) : Prop := ∀ k, k ≠ c → t.chan k = s.chan k

namespace OtherChans

variable {c : Nat} {s t u : State}

theorem refl (s : State) : OtherChans c s s := fun _ _ => rfl
theorem trans (h : OtherChans c s t) (k : OtherChans c t u) : OtherChans c s u := fun i hi => (k i hi).trans (h i hi)

/-- A change that leaves the channels. -/
theorem same (h : OtherChans c s t) (e : u.chans = t.chans) : OtherChans c s u :=
  h.trans (fun k _ => by simp only [State.chan, e])

theorem setChan (h : OtherChans c s t) (v : Chan) : OtherChans c s (t.setChan c v) :=
  h.trans (fun k hk => State.setChan_ne t c k v hk)

theorem modChan (h : OtherChans c s t) (f : Chan → Chan) : OtherChans c s (t.modChan c f) := h.setChan _

theorem foldl {γ : Type} {f : State → γ → State} {l : List γ} (h : OtherChans c s t)
    (hf : ∀ x e, OtherChans c s x → OtherChans c s (f x e)) : OtherChans c s (l.foldl f t) :=
  foldl_keeps (fun x => OtherChans c s x) f l t h (fun x e _ hx => hf x e hx)

theorem forN {n : Nat} {f : Nat → State → State} (h : OtherChans c s t)
    (hf : ∀ i x, OtherChans c s x → OtherChans c s (f i x)) : OtherChans c s (Machine.forN n t f) :=
  forN_keeps (fun x => OtherChans c s x) n f t h hf

theorem noteCmd (h : OtherChans c s t) (e : HistCmd) : OtherChans c s (Machine.noteCmd c e t) := h.modChan _

theorem closeBank (h : OtherChans c s t) (key at_ : Nat) : OtherChans c s (Machine.closeBank c key at_ t) := by
  unfold Machine.closeBank
  dsimp only
  split
  · exact h
  · exact (h.setChan _).noteCmd _

theorem takeCa (h : OtherChans c s t) (sub n from_ : Nat) : OtherChans c s (Machine.takeCa c sub n from_ t).1 := h.modChan _

theorem issueRfm (h : OtherChans c s t) (key from_ : Nat) : OtherChans c s (Machine.issueRfm c key from_ t) := by
  unfold Machine.issueRfm
  exact ((((h.takeCa _ _ _).modChan _).same (State.addObj_chans ..)).noteCmd _).same ((countChan_keeps ..).chans (by decide))

theorem issueRef (h : OtherChans c s t) (sub rs b from_ : Nat) : OtherChans c s (Machine.issueRef c sub rs b from_ t) := by
  unfold Machine.issueRef
  exact ((((h.takeCa _ _ _).foldl (fun _ _ k => k.modChan _)).modChan _).noteCmd _).same ((countChan_keeps ..).chans (by decide))

theorem refreshRank (h : OtherChans c s t) (b sub rs from_ : Nat) (refresh : Bool) :
    OtherChans c s (Machine.refreshRank c b sub rs from_ refresh t) := by
  unfold Machine.refreshRank
  dsimp only
  refine OtherChans.foldl ?_ (fun _ _ k => k.issueRfm _ _)
  have a := h.foldl (l := if refresh = true then bankKeys sub rs b else (bankKeys sub rs b).filter (wantsRfm t c))
    (f := fun t k => if ((t.chan c).bank k).openAt from_ then Machine.closeBank c k from_ t else t)
    (fun x e k => by split; exacts [k.closeBank _ _, k])
  generalize List.foldl (fun t k => if ((t.chan c).bank k).openAt from_ then Machine.closeBank c k from_ t else t) t
    (if refresh = true then bankKeys sub rs b else (bankKeys sub rs b).filter (wantsRfm t c)) = v at a ⊢
  cases refresh
  · exact a
  · exact a.issueRef _ _ _ _

theorem heldRefresh (h : OtherChans c s t) (sub : Nat) : OtherChans c s (Machine.heldRefresh c sub t) := by
  unfold Machine.heldRefresh
  refine h.foldl (fun x e k => ?_)
  dsimp only
  split
  · exact k
  · have a := (k.modChan (fun ch => ch.setSub sub { (ch.sub sub) with late := (ch.sub sub).late.erase e })).refreshRank e.1 sub e.2.1
      ((x.modChan c (fun ch => ch.setSub sub { (ch.sub sub) with late := (ch.sub sub).late.erase e })).dckNow c) e.2.2
    split
    · exact (a.same (State.addObj_chans ..)).same ((State.raiseChan_keeps ..).chans (by decide))
    · exact a

theorem replayRefresh (h : OtherChans c s t) (start : Nat) (e : HistCmd) : OtherChans c s (Machine.replayRefresh c start e t) := by
  unfold Machine.replayRefresh
  dsimp only
  split
  · exact h.issueRef _ _ _ _
  · exact h.issueRfm _ _

theorem replayOp (a : State × LockPlan) (h : OtherChans c s a.1) (start : Nat) (e : Entry) : OtherChans c s (Machine.replayOp c start a e).1 := by
  unfold Machine.replayOp
  dsimp only
  split
  · exact (((h.modChan _).noteCmd _).same ((countChan_keeps ..).chans (by decide))).noteCmd _
  · exact h

theorem setTrims (h : OtherChans c s t) (l : List (Nat × Byte)) : OtherChans c s (Machine.setTrims c l t) :=
  h.same ((setTrims_keeps ..).chans (by decide))

theorem swapLane (h : OtherChans c s t) (l : Nat) : OtherChans c s (Machine.swapLane c l t) := by
  unfold Machine.swapLane
  dsimp only
  split
  · exact h
  · exact (h.modChan _).setTrims _

theorem setCtx (h : OtherChans c s t) (d k v : Nat) : OtherChans c s (Machine.setCtx d k v t) :=
  h.same ((setCtx_keeps ..).chans (by decide))

theorem runCtx (h : OtherChans c s t) (d k n : Nat) : OtherChans c s (Machine.runCtx d k n t) :=
  h.same ((runCtx_keeps ..).chans (by decide))

theorem stopHelper (h : OtherChans c s t) : OtherChans c s (Machine.stopHelper c t) := by
  unfold Machine.stopHelper
  split
  · exact h
  · split
    · exact h
    · dsimp only
      refine OtherChans.same (t := closeAll c (State.modChan _ c _)) ?_
        ((State.setObj_chans ..).trans ((helperRelease_keeps ..).chans (by decide)))
      unfold closeAll
      refine OtherChans.foldl (OtherChans.modChan ?_ _) (fun x e k => by split; exacts [k.closeBank _ _, k])
      split
      · exact h.same ((restoreSwept_keeps ..).chans (by decide))
      · exact h

end OtherChans

/-! ### Commands on the banks of a channel leave its ALERT_N episodes -/

/-- The ALERT_N episodes of channel c are the same in both states. -/
def SameAlerts (c : Nat) (s t : State) : Prop := ∀ j, ((t.chan c).sub j).alert = ((s.chan c).sub j).alert

namespace SameAlerts

variable {c : Nat} {s t u : State}

theorem refl (s : State) : SameAlerts c s s := fun _ => rfl

theorem same (h : SameAlerts c s t) (e : u.chans = t.chans) : SameAlerts c s u := fun j => by
  rw [← h j]; simp only [State.chan, e]

theorem setChan (h : SameAlerts c s t) (v : Chan) (hv : ∀ j, (v.sub j).alert = ((t.chan c).sub j).alert) : SameAlerts c s (t.setChan c v) := fun j => by
  rw [State.setChan_same, hv, h j]

theorem modChan (h : SameAlerts c s t) (f : Chan → Chan) (hf : ∀ v j, ((f v).sub j).alert = (v.sub j).alert) : SameAlerts c s (t.modChan c f) :=
  h.setChan _ (hf _)

/-- Replacing a subchannel by one with its alert keeps every alert. -/
theorem sub_alert (v : Chan) (i : Nat) (x : Sub) (hx : x.alert = (v.sub i).alert) (j : Nat) : ((v.setSub i x).sub j).alert = (v.sub j).alert := by
  unfold Chan.setSub Chan.sub at *
  by_cases e : j = i
  · rw [e]; simp only [tget_tput_same]; exact hx
  · simp only [tget_tput_ne _ _ _ _ _ _ e]

theorem foldl {γ : Type} {f : State → γ → State} {l : List γ} (h : SameAlerts c s t)
    (hf : ∀ x e, SameAlerts c s x → SameAlerts c s (f x e)) : SameAlerts c s (l.foldl f t) :=
  foldl_keeps (fun x => SameAlerts c s x) f l t h (fun x e _ hx => hf x e hx)

theorem noteCmd (h : SameAlerts c s t) (e : HistCmd) : SameAlerts c s (Machine.noteCmd c e t) := h.modChan _ (fun _ _ => rfl)

theorem takeCa (h : SameAlerts c s t) (sub n from_ : Nat) : SameAlerts c s (Machine.takeCa c sub n from_ t).1 := by
  unfold Machine.takeCa State.modChan
  dsimp only
  refine h.setChan _ (fun j => ?_)
  exact sub_alert (t.chan c) sub _ (by rfl) j

theorem closeBank (h : SameAlerts c s t) (key at_ : Nat) : SameAlerts c s (Machine.closeBank c key at_ t) := by
  unfold Machine.closeBank
  dsimp only
  split
  · exact h
  · refine (h.setChan _ (fun j => ?_)).noteCmd _
    exact sub_alert ((t.chan c).setBank key _) (key / 256) _ (by rfl) j

theorem setBank (h : SameAlerts c s t) (key : Nat) (f : Chan → Bank) : SameAlerts c s (t.modChan c (fun ch => ch.setBank key (f ch))) :=
  h.modChan _ (fun _ _ => rfl)

theorem issueRfm (h : SameAlerts c s t) (key from_ : Nat) : SameAlerts c s (Machine.issueRfm c key from_ t) := by
  unfold Machine.issueRfm
  dsimp only
  have a := h.takeCa (bankCoord key 0).sub 1 (max from_ (((t.chan c).bank key).preAt + tRP t c))
  generalize Machine.takeCa c (bankCoord key 0).sub 1 (max from_ (((t.chan c).bank key).preAt + tRP t c)) t = r at a ⊢
  refine SameAlerts.same (SameAlerts.noteCmd (SameAlerts.same (a.setBank _ _) (State.addObj_chans ..)) _) ((countChan_keeps ..).chans (by decide))

theorem issueRef (h : SameAlerts c s t) (sub rs b from_ : Nat) : SameAlerts c s (Machine.issueRef c sub rs b from_ t) := by
  unfold Machine.issueRef
  dsimp only
  have a := h.takeCa sub 1 from_
  generalize Machine.takeCa c sub 1 from_ t = r at a ⊢
  have b' := a.foldl (l := bankKeys sub rs b) (f := fun t k => t.modChan c (fun h =>
    h.setBank k { (h.bank k) with refUntil := max (h.bank k).refUntil (r.2 + tRFCsb t c) })) (fun x e k => k.setBank _ _)
  generalize List.foldl (fun t k => State.modChan t c (fun h =>
    h.setBank k { (h.bank k) with refUntil := max (h.bank k).refUntil (r.2 + tRFCsb t c) })) r.1 (bankKeys sub rs b) = w at b' ⊢
  have d := b'.modChan (fun h => h.setSub sub { (h.sub sub) with refs := tins (h.sub sub).refs rs r.2 }) (fun v j => sub_alert v sub _ (by rfl) j)
  exact (d.noteCmd _).same ((countChan_keeps ..).chans (by decide))

theorem refreshRank (h : SameAlerts c s t) (b sub rs from_ : Nat) (refresh : Bool) :
    SameAlerts c s (Machine.refreshRank c b sub rs from_ refresh t) := by
  unfold Machine.refreshRank
  dsimp only
  refine SameAlerts.foldl ?_ (fun _ _ k => k.issueRfm _ _)
  have a := h.foldl (l := if refresh = true then bankKeys sub rs b else (bankKeys sub rs b).filter (wantsRfm t c))
    (f := fun t k => if ((t.chan c).bank k).openAt from_ then Machine.closeBank c k from_ t else t)
    (fun x e k => by split; exacts [k.closeBank _ _, k])
  generalize List.foldl (fun t k => if ((t.chan c).bank k).openAt from_ then Machine.closeBank c k from_ t else t) t
    (if refresh = true then bankKeys sub rs b else (bankKeys sub rs b).filter (wantsRfm t c)) = v at a ⊢
  cases refresh
  · exact a
  · exact a.issueRef _ _ _ _

theorem heldRefresh (h : SameAlerts c s t) (sub : Nat) : SameAlerts c s (Machine.heldRefresh c sub t) := by
  unfold Machine.heldRefresh
  refine h.foldl (fun x e k => ?_)
  dsimp only
  split
  · exact k
  · have a := (k.modChan (fun ch => ch.setSub sub { (ch.sub sub) with late := (ch.sub sub).late.erase e }) (fun v j => sub_alert v _ _ (by rfl) j)).refreshRank
      e.1 sub e.2.1 ((x.modChan c (fun ch => ch.setSub sub { (ch.sub sub) with late := (ch.sub sub).late.erase e })).dckNow c) e.2.2
    split
    · exact (a.same (State.addObj_chans ..)).same ((State.raiseChan_keeps ..).chans (by decide))
    · exact a

theorem replayRefresh (h : SameAlerts c s t) (start : Nat) (e : HistCmd) : SameAlerts c s (Machine.replayRefresh c start e t) := by
  unfold Machine.replayRefresh
  dsimp only
  split
  · exact h.issueRef _ _ _ _
  · exact h.issueRfm _ _

theorem replayOp (a : State × LockPlan) (h : SameAlerts c s a.1) (start : Nat) (e : Entry) : SameAlerts c s (Machine.replayOp c start a e).1 := by
  unfold Machine.replayOp State.modChan
  dsimp only
  split
  · refine (((h.setChan _ (fun j => ?_)).noteCmd _).same ((countChan_keeps ..).chans (by decide))).noteCmd _
    exact sub_alert ((a.1.chan c).setBank _ _) (a.1.coordOf c e.line).sub _ (by rfl) j
  · exact h

end SameAlerts

end Sys2Proof.Machine
end

