-- ==== Sys2Proof/WellFormed.lean ====
section
/-! DEFINITION. Which terms spell a command the boundary can send: the sizes of the lists they carry and the units that
exist. What the spec gives a refusal or an event (a wrong length, a bad CRC, a reserved kind) is well formed. -/

namespace Sys2Proof

/-- A copy of the slot count that its register can hold (R9, R10): 48-bit frame, slot 0-191, cycle 0-40. -/
def Count.wf (c : Count) : Bool := decide (c.frame < 2 ^ 48) && decide (c.slot < 192) && decide (c.cycle < 41)

/-- What a sweep that found every setting brings: ten byte lanes of eight bits, twenty devices of four (R307). -/
def SweepResult.wf (r : SweepResult) : Bool :=
  r.failStep != 0 ||
    (r.readEyes.length == 10 && r.readEyes.all (fun rows => rows.all (fun e => e.bits.length == 8)) &&
      r.writeEyes.length == 20 && r.writeEyes.all (fun rows => rows.all (fun e => e.bits.length == 4)))

/-- Eight bits and the two devices of a byte lane (R316). -/
def LaneScan.wf (x : LaneScan) : Bool := x.edges.length == 8 && x.strobe.length == 2 && x.residual.length == 8

/-- At most 20 mode-register bytes, entries of ErrorCounts, whole capture records (R313, R330). -/
def HelperResult.wf (r : HelperResult) : Bool :=
  decide (r.mrData.length ≤ 20) && r.errors.all (fun e => decide (e.1 < 5120)) && r.captures.all (fun b => b.length == 64)

/-- The units each store has: 16 slices, queues or order buffers, 96 ingress bridges, 112 ports, one of the others. -/
def storeUnits (store : Fin 11) (unit : Fin 112) : Bool :=
  match store.val with
  | 0 | 1 | 5 | 6 => decide (unit.val < 16)
  | 3 => decide (unit.val < 96)
  | 4 => true
  | _ => unit.val == 0

/-- Well-formed commands. -/
def Instr.WellFormed : Instr → Bool
  | .cadenceFrameReceived _ => true
  | .cadenceAcquireTimeout => true
  | .cadenceClockLoss => true
  | .slotBoundary _ => true
  | .frameBoundary _ => true
  | .lastFrameCheckpoint => true
  | .classChangeEffect _ => true
  | .packetReceived _ units => !units.isEmpty
  | .requestAdmission _ => true
  | .read _ _ _ _ _ => true
  | .readRaw _ _ _ _ _ => true
  | .write _ _ _ _ _ ds => decide (ds.length ≤ 7)
  | .writeMasked _ _ _ _ _ _ _ => true
  | .cas8 _ _ _ _ _ _ => true
  | .cas16 _ _ _ _ _ _ => true
  | .fadd8 _ _ _ _ _ => true
  | .swap8 _ _ _ _ _ => true
  | .fenceTwin _ _ => true
  | .lockMemberTimeout _ => true
  | .tagDeadline _ => true
  | .twinDurableDeadline _ _ => true
  | .responseEgress _ => true
  | .lateResponseDrop _ _ => true
  | .egressCredit _ => true
  | .queuePointerMismatch queue unit _ => decide (queue.val ≤ 1 ∨ (queue.val = 2 ∧ unit.val < 16) ∨ unit.val = 0)
  | .outputArbitration _ _ => true
  | .linkCrcFail _ _ => true
  | .linkRetry _ _ _ => true
  | .slotTableSwap => true
  | .calendarSwap => true
  | .creditQueueResize _ _ => true
  | .creditChangeTimeout _ => true
  | .formatComplete _ => true
  | .positionGrant _ => true
  | .entryGuarded _ => true
  | .gateWindowClose _ => true
  | .refreshPlacement _ _ _ _ _ => true
  | .rfmForced _ _ _ _ => true
  | .refreshDoubleExit _ => true
  | .sensorReadingTimeout _ => true
  | .rowIdleTimeout _ _ _ _ => true
  | .alertEpisodeStart _ _ => true
  | .alertReleased _ _ => true
  | .alertStuckTimeout _ _ => true
  | .alertEpisodeEnd _ _ => true
  | .powerStateExit _ => true
  | .powerExitComplete _ => true
  | .sramUncorrectable k unit _ _ => storeUnits k unit
  | .sliceArrival _ _ _ => true
  | .horizonAdvance _ => true
  | .fillComplete _ _ => true
  | .writebackComplete _ _ => true
  | .dirtyAgeExpiry _ _ => true
  | .ledgerDirtyAge _ _ => true
  | .claimResource _ _ _ => true
  | .releaseClaim _ _ _ => true
  | .keyRecord words => !words.isEmpty
  | .keyIntakeTimeout => true
  | .keyAdopt _ _ => true
  | .migrationBurst _ _ => true
  | .deviceErrorLeak _ => true
  | .erasedDeviceWrite _ _ _ _ _ => true
  | .scrubRun _ => true
  | .freezeRequest _ _ _ => true
  | .resume _ _ _ => true
  | .retrainResume _ _ _ => true
  | .retireRank _ _ _ => true
  | .remoteAnswerTimeout _ => true
  | .repairBurst _ => true
  | .frameCloseTimeout _ => true
  | .heartbeat _ => true
  | .data _ bytes => !bytes.isEmpty
  | .ack _ bytes => !bytes.isEmpty
  | .remoteRequest _ bytes => !bytes.isEmpty
  | .remoteResponse _ bytes => !bytes.isEmpty
  | .hello _ bytes => !bytes.isEmpty
  | .nakDelay _ => true
  | .ackInterval => true
  | .helloInterval => true
  | .replayTimeout => true
  | .remoteRequestResend _ => true
  | .remoteServiceExpiry _ => true
  | .pathSilentTimeout _ => true
  | .breakTimeout _ => true
  | .pairingTimeout _ => true
  | .twinSilent _ => true
  | .applyHorizonAdvance _ => true
  | .promote _ _ _ => true
  | .demote _ _ _ => true
  | .demoteComplete _ => true
  | .mirrorBreak _ _ _ => true
  | .fullPush _ _ _ => true
  | .resyncPushBurst _ => true
  | .resyncPullBurst _ => true
  | .rebuildBurst _ => true
  | .hardwareSweep _ r => r.wf
  | .trainingComplete _ _ => true
  | .rank0Fallback _ r => r.wf
  | .trainingDone _ _ _ _ => true
  | .firmwareTrainTimeout _ => true
  | .trainRequest _ _ _ => true
  | .mrr _ _ _ => true
  | .mrw _ _ _ _ => true
  | .mpc _ _ _ _ => true
  | .controlWordWrite _ _ _ _ => true
  | .readSweep _ _ _ => true
  | .writeReadSweep _ _ _ => true
  | .writePattern _ _ _ => true
  | .levelingSweep _ _ _ => true
  | .enableSweep _ _ _ => true
  | .helperOpComplete _ r => r.wf
  | .crossScanComplete _ _ scan => scan.wf
  | .calibrationSwap _ => true
  | .tempBaselineAdjust _ => true
  | .calRunRequest _ _ _ => true
  | .measurementRunEnd _ => true
  | .writeTrack _ _ _ counts => decide (counts.length = 20)
  | .writeRetrain _ centres => decide (centres.length % 20 = 0)
  | .refCalibration _ _ => true
  | .eyeScanRequest _ _ _ _ => true
  | .senseExcursion _ _ => true
  | .senseQualified _ _ => true
  | .rampTimeout => true
  | .railDischarged _ => true
  | .dischargeTimeout _ => true
  | .supplyRetry _ _ => true
  | .vddpLowCutoff => true
  | .collapse => true
  | .holdHardStop _ => true
  | .drainComplete => true
  | .rootCommitComplete => true
  | .squallSelfRefreshDone _ => true
  | .thawQualify => true
  | .thawComplete => true
  | .saveComplete _ => true
  | .saveCompleteTimeout => true
  | .bayChainScan _ => true
  | .buttonPress _ => true
  | .insertion _ => true
  | .discoveryComplete _ _ => true
  | .pmicOnTimeout _ => true
  | .pmicOffTimeout _ => true
  | .startRemoval _ _ _ => true
  | .allowRemoval _ _ _ => true
  | .ledTest _ _ _ => true
  | .ledTestExpiry _ => true
  | .sidebandTempPoll _ _ => true
  | .restoreComplete _ _ => true
  | .restoreTimeout _ => true
  | .eventPendingClear _ _ _ => true
  | .ibiSent => true
  | .eventQueueRead _ _ => true
  | .eventQueueMark _ _ => true
  | .eventQueueRewind _ _ => true
  | .eventQueueRelease _ _ => true
  | .eventLogClear _ _ => true
  | .snapshotArm _ _ _ => true
  | .sampleRelease _ _ _ => true
  | .entdaa _ _ => true
  | .rstdaa => true
  | .setnewda _ => true
  | .enec _ => true
  | .disec _ => true
  | .getpid => true
  | .getbcr => true
  | .getdcr => true
  | .getstatus => true
  | .setmwl _ => true
  | .setmrl _ => true
  | .getmwl => true
  | .getmrl => true
  | .getcaps => true
  | .enthdr0 => true
  | .i3cPrivateRead => true
  | .windowDoorbell _ => true
  | .objectRead _ _ => true
  | .objectWrite _ _ _ => true
  | .readBlock _ _ => true
  | .writeBlock _ _ _ => true
  | .commit _ _ _ => true
  | .abort _ _ => true
  | .store _ _ => true
  | .restore _ _ _ => true
  | .stagingIdleTimeout => true
  | .linkRightsConfig _ _ _ => true
  | .profileLock _ _ _ => true
  | .enterConfig _ _ => true
  | .leaveConfig _ _ => true
  | .blockReset _ _ => true
  | .testReset _ _ => true
  | .enterTest _ _ => true
  | .memGo _ _ => true
  | .translateAddress _ _ _ => true
  | .powerOnReset _ => true
  | .refclkPllLock => true
  | .mramRead => true
  | .moduleDiscoveryDone mods => decide (mods.length = 32)
  | .trainingStageEnd => true
  | .metadataCheck => true
  | .mirrorStartEnd => true
  | .bypass => true
  | .samplePreload => true
  | .extest _ => true
  | .ddrConnectivity _ _ => true
  | .sramBist _ _ => true
  | .mramReadCheck _ _ => true
  | .mramBist _ _ => true
  | .mirrorLoopInternal _ _ => true
  | .mirrorLoopExternal _ _ => true
  | .testComplete findings => decide (findings.length ≤ 256)
  | .injectEcc _ _ => true
  | .injectMac _ _ => true
  | .injectPointer _ _ => true
  | .injectCrossingLink _ _ => true
  | .injectMirrorFrame _ _ => true
  | .injectDisarm _ _ => true
  | .slotCountCorrected a b c => a.wf && b.wf && c.wf
  | .ingressOverrun _ => true
  | .sramCorrected _ => true
  | .eyeScanComplete _ _ map => decide (map.length ≤ 3977)
  | .refusedPressBlinkEnd _ => true
  | .hdrExit => true
  | .frameCrcError _ _ _ => true
  | .badOpcode _ _ _ => true
  | .windowBufferWrite offset bytes => decide (offset.toNat + bytes.length ≤ 4096)
  | .reservedKindFrame _ bytes => !bytes.isEmpty

end Sys2Proof
end

