-- ==== Sys2Proof/Tests/Slice0.lean ====
section
/-! SUPPORT. Tests: for each obligation with hypotheses a state and operands that meet them, the refusals of WellFormed, and
worked examples of the spec. -/

namespace Sys2Proof.Machine.Tests
open Sys2Proof Sys2Proof.Machine

set_option Elab.async false

/-! ### Small states -/

/-- s with objects (index, sub, value) set. -/
def put (l : List (Nat × Nat × Nat)) (s : State) : State := l.foldl (fun t e => t.setObj e.1 e.2.1 e.2.2) s

/-- s in block state b. -/
def inBlk (b : BlockSt) (s : State) : State := { s with blk := { s.blk with st := b } }

/-- s in stage k of ResetPhase or Recovery. -/
def inStg (b : BlockSt) (k : Nat) (s : State) : State := { s with blk := { s.blk with st := b, stage := k } }

/-- s with the supervisor in state a, the Squall in state q. -/
def supply (a : SupSt) (q : SquallSt) (s : State) : State := { s with sup := { s.sup with st := a, squall := q } }

/-- s with channel 0 in state x. -/
def chan0 (x : ChanSt) (s : State) : State := s.modChan 0 (fun c => { c with st := x })

/-- s with district 0's mirror in state x, the district in the role. -/
def mirror0 (role : Nat) (x : MirSt) (s : State) : State := (s.setObj 0x6010 1 role).modDist 0 (fun d => { d with mst := x })

/-- Running, both management links open with rights for everything. -/
def live : State :=
  put [(0x7001, 7, 1), (0x1100, 1, 13), (0x1100, 3, 1042), (0x1100, 4, 1042), (0x1100, 5, 3), (0x1100, 6, 3)]
    { State.reset with
      cad := { State.reset.cad with pllLocked := true }
      blk := { State.reset.blk with st := .running, admission := true } }

/-- Module times of the kind a DDR5 module stores. -/
def times : SpdTimes :=
  { tAA := 16000, tRcd := 16000, tRp := 16000, tRas := 32000, tRc := 48000, tWr := 30000, tRrdL := 5000, tFaw := 13333,
    tCcdL := 5000, tCcdLWr := 20000, tWtrS := 2500, tWtrL := 10000, tRfc1 := 295000, tRfcSb := 130000, tRefSbRd := 30000,
    tRfmSb := 130000, tAlert := 0, raaimt := 32, raammt := 96, cls := [40, 56, 64, 72, 80, 104] }

/-- A usable module of four ranks. -/
def module4 : ModuleInfo :=
  { kind := 2, density := 2, ranks := 4, rate := 8800, serial := 77, energyBacked := false, saveStatus := 0, spdOk := true,
    powerGood := true, width := 4, devices := 10, spd := times }

/-- An Open district over channel 0. -/
def desc0 : Desc :=
  { width := 1, first := 0, order := 0, mode := 2, format := false, density := 2, ranks := 4, modules := 1, base := 0,
    span := 2 ^ 30, limit := 2 ^ 20, retired := [] }

/-- live with one channel of memory. -/
def mem : State :=
  (((put [(0x2100, 3, 3), (timIdx 0, 2, 6400), (0x2300, 0x30, 15)]
    { live with sup := { live.sup with budget := 100000 } }).modDist 0 (fun d => { d with st := .formed, desc := desc0 })).modChan 0
    (fun c => { c with st := .running, dist := some 0 })).modBay 0 (fun b => { b with st := .inService, module := some module4 })

/-- s with bay 0 in state x. -/
def bay0 (x : BaySt) (s : State) : State := s.modBay 0 (fun b => { b with st := x })

/-- The Cadence word of frame n, built from the layout of R3 to R5: the sync bits, six bytes of number and two of CRC, a 0
after each byte. -/
def frameWord (n : Nat) : BitVec 192 :=
  let bytes := (List.range 6).map (fun k => n / 2 ^ (8 * (5 - k)) % 256)
  let crc := crc16 (bytes.map (BitVec.ofNat 8))
  let all := bytes ++ [crc / 256, crc % 256]
  let bits := List.replicate 11 true ++ [false] ++ all.flatMap (fun v => (List.range 8).map (fun i => v.testBit (7 - i)) ++ [false])
  BitVec.ofNat 192 ((bits.zipIdx).foldl (fun a e => a + (if e.1 then 2 ^ (191 - e.2) else 0)) 0)

/-- s at frame 100. -/
def at100 (s : State) : State := { s with cad := { s.cad with c0 := ⟨100, 0, 0⟩, c1 := ⟨100, 0, 0⟩, c2 := ⟨100, 0, 0⟩ } }

/-- A READ of the line at 64, its deadline slot 1. -/
def req0 : Req :=
  { port := 0, tag := 1, cmd := 1, len := 1, addr := 64, stamp := Stamp.zero, deadline := 1, cls := .b, res := false, twin := false,
    alone := false, lock := false, opnd := 0, mask := 0, data := [], pos := [], group := none }

/-- A response of one unit. -/
def resp0 : Resp :=
  { port := 0, tag := 1, code := 1, status := 0, lineStatus := 0, data := [], stamp := Stamp.zero, deadline := 1, addr := 64, cls := .b, src := none }

theorem mem_off (d : Nat) : (mem.dist d).mst = .off := by
  by_cases h : d = 0
  · subst h
    decide +kernel
  · have e : mem.dists = [(0, mem.dist 0)] := by decide +kernel
    unfold State.dist
    rw [e]
    simp [tget, tfind, h, District.reset]

/-- A read of line 1 queued for port 0. -/
def entry0 : Entry :=
  { line := 1, wr := false, kind := .fill, port := 0, deadline := 5, stamp := Stamp.zero, enq := 0, at_ := 0, ftag := 0, gpos := none,
    overdue := false, guarded := false, ctx := none, group := [] }

/-- A Clean line of port 0's last write. -/
def line0 : PLine :=
  { st := .clean, data := 0, valid := 0, wrote := false, wasFilling := false, waiting := [], twinPending := false, seq := 0,
    writer := 0, gCharge := false, since := 0, slice := 0, way := 0, wbQueued := false, wbGranted := false, fillGranted := false,
    dist := 0, dline := 1 }

/-- A read of that line waiting at its slice. -/
def access0 : Access :=
  { port := 0, tag := 1, stamp := Stamp.zero, ord := Stamp.zero, deadline := 5, chan := 0, line := 1, dist := 0, gpos := none, dline := 1,
    k := 0, kind := .rd, cls := .b, res := false, twin := false, group := false, engine := false, copy := false }

/-- A unit for local position 0 of Crossing 0. -/
def unit0 : NetUnit :=
  { src := 0, dest := 0, localPos := 0, vnet := 0, dateline := false, port := 0, tag := 1, cls := .b, stamp := Stamp.zero, deadline := 5,
    first := true, last := true, chain := none, replayed := false, squall := false }

/-- s with one unit waiting at input 0 of Crossing 0. -/
def waiting (u : NetUnit) (s : State) : State := s.setXbar 0 ((s.xbar 0).setQueue 0 0 [u])

/-- An episode of ALERT_N. -/
def alert0 (low : Bool) : Alert := { step := 2, retries := 0, low := low, uncertain := [], at_ := 0 }

/-- s with that episode at subchannel 0 of channel 0. -/
def alerted (low : Bool) (s : State) : State := s.modChan 0 (fun c => c.setSub 0 { (c.sub 0) with alert := some (alert0 low) })

/-- mem with its district in MacOnly mode. -/
def memMac : State := mem.modDist 0 (fun d => { d with desc := { desc0 with mode := 1 } })

/-- Link keys of zeros, and the peer known. -/
def paired (s : State) : State :=
  { s with keys := { s.keys with links := some ⟨0, 0, 0, 0⟩ }, mirror := { s.mirror with havePeer := true, started := true } }

/-- A frame of a kind with an empty payload, sealed under the zero key. -/
def frame0 (kind : Nat) : List (BitVec 8) :=
  sealFrame 0 ([1, BitVec.ofNat 8 (16 * kind)] ++ List.replicate 30 0) []

/-- A Data frame held for a resend. -/
def sent0 : TxFrame := { stream := 0, seq := 0, dist := 0, cut := Stamp.zero, recs := [], sent := 0 }

/-- s with the key port open and n records discarded. -/
def keyOpen (n : Nat) (s : State) : State := { s with keys := { s.keys with portOpen := true, discards := n } }

/-- What a sweep finds of one lane: three Vrefs, the middle one the widest. -/
def eye0 : List EyeRow := [⟨50, List.replicate 4 (0, 60)⟩, ⟨62, List.replicate 4 (0, 64)⟩, ⟨74, List.replicate 4 (0, 60)⟩]

theorem eye0_centre (k : Nat) : eyeCentre eye0 k = eyeCentre eye0 0 := by
  simp [eye0, eyeCentre, rowWidth, Nat.mod_one, List.replicate]

def sweep0 : SweepResult :=
  { failStep := 0, readEyes := List.replicate 10 eye0, writeEyes := List.replicate 20 eye0, trims := [], verified := true,
    quality := [], gaps := (0, 0) }

theorem sweep0_read (s : State) (k : Nat) : sweepCentres s sweep0.readEyes k = List.replicate 10 (eyeCentre eye0 0) := by
  simp [sweepCentres, sweep0, List.replicate, eye0_centre]

theorem sweep0_write (s : State) (k : Nat) : sweepCentres s sweep0.writeEyes k = List.replicate 20 (eyeCentre eye0 0) := by
  simp [sweepCentres, sweep0, List.replicate, eye0_centre]

theorem live_commits : commitReasons (beginFrame ((0 : Fin 2) : Nat) live) (withStaged (beginFrame ((0 : Fin 2) : Nat) live)) = 0 := by
  decide +kernel

/-! ### Each obligation with hypotheses: they can be met -/

theorem test_meets_StepRunsFront :
    (∃ (c : Instr) (q : List Instr) (s : State), s.pending = c :: q) ∧
    (∃ (s : State), s.pending = []) :=
  ⟨⟨(.enthdr0), [], { live with pending := [.enthdr0] }, rfl⟩,
   ⟨live, by decide +kernel⟩⟩

theorem test_meets_ByteStoresStayCanonical : ∃ (s : State) (t : State), step s = .next t ∧ s.bytesOk :=
  ⟨{ live with pending := [.enthdr0] }, _, rfl, by unfold State.bytesOk; decide +kernel⟩

theorem test_meets_EffectsConfined : ∃ (i : Instr) (s : State) (t : State), exec i s = .next t :=
  ⟨(.enthdr0), live, _, rfl⟩

theorem test_meets_OtherChannelsKept_1 :
    (∃ (c : Fin 16) (k : Nat) (s : State) (t : State), k ≠ c.val ∧ exec (.entryGuarded c) s = .next t) ∧
    (∃ (c : Fin 16) (k : Nat) (s : State) (t : State), k ≠ c.val ∧ exec (.sensorReadingTimeout c) s = .next t) ∧
    (∃ (c : Fin 16) (k : Nat) (s : State) (t : State), k ≠ c.val ∧ exec (.deviceErrorLeak c) s = .next t) ∧
    (∃ (c : Fin 16) (sub : Fin 2) (rankSlot : Fin 8) (bank : Fin 32) (k : Nat) (s : State) (t : State), k ≠ c.val ∧ exec (.rowIdleTimeout c sub rankSlot bank) s = .next t) ∧
    (∃ (c : Fin 16) (sub : Fin 2) (rankSlot : Fin 8) (bank : Fin 32) (k : Nat) (s : State) (t : State), k ≠ c.val ∧ exec (.rfmForced c sub rankSlot bank) s = .next t) :=
  ⟨⟨0, 1, live, _, by decide +kernel, rfl⟩,
   ⟨0, 1, live, _, by decide +kernel, rfl⟩,
   ⟨0, 1, live, _, by decide +kernel, rfl⟩,
   ⟨0, 0, 0, 0, 1, live, _, by decide +kernel, rfl⟩,
   ⟨0, 0, 0, 0, 1, live, _, by decide +kernel, rfl⟩⟩

theorem test_meets_OtherChannelsKept_2 :
    (∃ (c : Fin 16) (sub : Fin 2) (k : Nat) (s : State) (t : State), k ≠ c.val ∧ exec (.alertEpisodeEnd c sub) s = .next t) ∧
    (∃ (c : Fin 16) (sub : Fin 2) (k : Nat) (s : State) (t : State), k ≠ c.val ∧ exec (.alertReleased c sub) s = .next t) ∧
    (∃ (c : Fin 16) (k : Nat) (s : State) (t : State), k ≠ c.val ∧ exec (.powerStateExit c) s = .next t) ∧
    (∃ (c : Fin 16) (k : Nat) (s : State) (t : State), k ≠ c.val ∧ exec (.scrubRun c) s = .next t) ∧
    (∃ (c : Fin 16) (k : Nat) (s : State) (t : State), k ≠ c.val ∧ exec (.tempBaselineAdjust c) s = .next t) :=
  ⟨⟨0, 0, 1, live, _, by decide +kernel, rfl⟩,
   ⟨0, 0, 1, live, _, by decide +kernel, rfl⟩,
   ⟨0, 1, live, _, by decide +kernel, rfl⟩,
   ⟨0, 1, live, _, by decide +kernel, rfl⟩,
   ⟨0, 1, live, _, by decide +kernel, rfl⟩⟩

theorem test_meets_OtherChannelsKept_3 :
    (∃ (c : Fin 16) (k : Nat) (s : State) (t : State), k ≠ c.val ∧ exec (.firmwareTrainTimeout c) s = .next t) ∧
    (∃ (c : Fin 16) (k : Nat) (s : State) (t : State), k ≠ c.val ∧ exec (.calibrationSwap c) s = .next t) :=
  ⟨⟨0, 1, live, _, by decide +kernel, rfl⟩,
   ⟨0, 1, live, _, by decide +kernel, rfl⟩⟩

theorem test_meets_FrameNumberOrder : ∃ (a : Nat) (b : Nat), a < 2 ^ 48 ∧ b < 2 ^ 48 ∧ a ≠ b :=
  ⟨0, (2 ^ 48 - 1), by decide +kernel⟩

theorem test_meets_StampsOrdered :
    (∃ (a : Stamp) (b : Stamp), a.frame < 2 ^ 48 ∧ b.frame < 2 ^ 48) ∧
    (∃ (port : Fin 112) (k : Packet) (rest : List Packet) (s : State), (s.port port).bridge = k :: rest ∧ k.need = 0 ∧ (s.cad.hold = true ∨ (s.port port).lastReg = some s.cycleNow)) ∧
    (∃ (port : Fin 112) (c : Nat) (k : Packet) (rest : List Packet) (g : Grant) (s : State), Passes port c k rest g s) :=
  ⟨⟨Stamp.zero, Stamp.zero, by decide +kernel⟩,
   ⟨0, (packetOf 0 [] live), [], (bridged 0 (packetOf 0 [] live) { live with cad := { live.cad with hold := true } }), by decide +kernel⟩,
   ⟨0, 0, (packetOf (mkHeader 0x01 1 1 64 false false 0 0) [] mem), [], ({ deadline := 200, res := false, unreserved := false, positions := [], charge := 1 }), (bridged 0 (packetOf (mkHeader 0x01 1 1 64 false false 0 0) [] mem) mem), ⟨by decide +kernel, by decide +kernel, by decide +kernel, by decide +kernel, by unfold checkRequest rightsOk portRights; generalize Config.productionFuse = f; revert f; decide +kernel, by decide +kernel, by decide +kernel, by decide +kernel, ⟨1, 0, 1, by decide +kernel, by decide +kernel⟩⟩⟩⟩

theorem test_meets_AbortDiscards : ∃ (link : Fin 2) (hdr : ReqHdr) (s : State) (u : State), Takes link 0 s ∧ s.blk.st ≠ .test ∧ hdr.index = 0 ∧ hdr.sub = 0 ∧ hdr.offset = 0 ∧ hdr.reserved = 0 ∧ hdr.flags = 0 ∧ hdr.length = 0 ∧ 1 ≤ s.level link ∧ ((stagedByOther s link = false ∨ 2 ≤ s.level link)) ∧ u = (if s.mgmt.pendingFrame.isSome then (discardStaged (beginFrame link s)).setObj 0x1200 8 3 else discardStaged (beginFrame link s)) :=
  ⟨0, ⟨1, 0, 0, 0, 0, 0, 0⟩, live, _, by decide +kernel, by decide +kernel, by decide +kernel, by decide +kernel, by decide +kernel, ⟨by decide +kernel, by decide +kernel, by decide +kernel, by decide +kernel, by decide +kernel, rfl⟩⟩

theorem test_meets_SlotCountVoted :
    (∃ (a : Count) (b : Count) (c : Count), (a = b ∨ a = c)) ∧
    (∃ (b : Count) (c : Count), b = c) ∧
    (∃ (a : Count) (b : Count) (c : Count), a ≠ b ∧ a ≠ c ∧ b ≠ c) ∧
    (∃ (a : Count) (b : Count) (c : Count) (s : State) (u : State), ¬ (a = b ∧ b = c) ∧ u = (s.setNow (if countLt (voteCount a b c) s.now then s.now else voteCount a b c)).addObj 0x1300 8 (voteFixes a b c)) :=
  ⟨⟨⟨0, 0, 0⟩, ⟨0, 0, 0⟩, ⟨0, 0, 1⟩, by decide +kernel⟩,
   ⟨⟨0, 0, 1⟩, ⟨0, 0, 1⟩, by decide +kernel⟩,
   ⟨⟨0, 0, 0⟩, ⟨0, 1, 0⟩, ⟨1, 0, 0⟩, by decide +kernel⟩,
   ⟨⟨0, 0, 0⟩, ⟨0, 0, 0⟩, ⟨0, 0, 1⟩, live, _, by decide +kernel, rfl⟩⟩

theorem test_meets_CadenceFollowed_1 :
    (∃ (word : BitVec 192) (s : State) (n : Nat), s.cad.pllLocked = true ∧ frameNumber word = some n ∧ s.cad.st = .locked ∧ cyclesBetween s.now ⟨(n + 1) % frameMod, 0, 0⟩ = 0) ∧
    (∃ (word : BitVec 192) (s : State), s.cad.pllLocked = true ∧ frameNumber word = none ∧ (s.cad.st = .locked ∨ s.cad.st = .slewing)) ∧
    (∃ (word : BitVec 192) (s : State) (n : Nat), s.cad.pllLocked = true ∧ frameNumber word = some n ∧ s.cad.st = .acquiring ∧ inStage s 1 = true ∧ s.cad.lastRx = some ((n + frameMod - 1) % frameMod) ∧ 2 ≤ s.cad.run) ∧
    (∃ (s : State), inStage s 1 = true ∧ s.cad.pllLocked = true ∧ s.cad.st = .acquiring) ∧
    (∃ (s : State), (s.cad.st = .locked ∨ s.cad.st = .slewing)) :=
  ⟨⟨(frameWord (2 ^ 48 - 1)), { live with cad := { live.cad with st := .locked } }, (2 ^ 48 - 1), by decide +kernel⟩,
   ⟨0, { live with cad := { live.cad with st := .locked } }, by decide +kernel⟩,
   ⟨(frameWord 7), inStg .resetPhase 1 { live with cad := { live.cad with lastRx := some 6, run := 2 } }, 7, by decide +kernel⟩,
   ⟨inStg .resetPhase 1 live, by decide +kernel⟩,
   ⟨{ live with cad := { live.cad with st := .slewing } }, by decide +kernel⟩⟩

theorem test_meets_CadenceFollowed_2 : ∃ (s : State), s.blk.st = .resetPhase ∧ s.blk.stage = 1 :=
  ⟨inStg .resetPhase 1 live, by decide +kernel⟩

theorem test_meets_BoundariesWork :
    (∃ (s : State), clocked s = true) ∧
    (∃ (s : State), clocked s = true ∧ frameDue s = true) ∧
    (∃ (s : State) (v : State), clocked s = true ∧ frameDue s = false ∧ (v = forN (191 - s.now.slot) s (fun _ t => slotBoundary 0 t)) ∧ clocked v = true ∧ ((forN (cyclesLeft v) v (fun _ t => cycleWork t)).now.slot = 191)) ∧
    (∃ (s : State), 3 ≤ s.blk.stage) :=
  ⟨⟨live, by decide +kernel⟩,
   ⟨live, by decide +kernel⟩,
   ⟨{ live with cad := { live.cad with st := .locked, workedFrame := some 0, c0 := ⟨0, 191, 39⟩, c1 := ⟨0, 191, 39⟩, c2 := ⟨0, 191, 39⟩ } }, _, by decide +kernel, by decide +kernel, rfl, by decide +kernel⟩,
   ⟨inStg .running 8 live, by decide +kernel⟩⟩

theorem test_meets_WritesAnswered :
    (∃ (link : Fin 2) (tag : BitVec 8) (idx : Nat) (sub : Nat) (n : Nat) (u : State) (t : State) (i : Nat) (k : Nat), idx < 2 ^ 16 ∧ sub < 2 ^ 8 ∧ Written link tag idx sub n u t ∧ k < 256 ∧ i ≠ 0x1100) ∧
    (∃ (link : Fin 2) (tag : BitVec 8) (idx : Nat) (sub : Nat) (n : Nat) (u : State) (t : State), idx < 2 ^ 16 ∧ sub < 2 ^ 8 ∧ Written link tag idx sub n u t ∧ link = 0) ∧
    (∃ (link : Fin 2) (tag : BitVec 8) (idx : Nat) (sub : Nat) (n : Nat) (u : State) (t : State), idx < 2 ^ 16 ∧ sub < 2 ^ 8 ∧ Written link tag idx sub n u t ∧ link = 1) :=
  ⟨⟨0, 1, 0x1200, 2, 1, live, _, 0x1200, 3, by decide +kernel, by decide +kernel, rfl, by decide +kernel⟩,
   ⟨0, 1, (2 ^ 16 - 1), 255, 1, live, _, by decide +kernel, by decide +kernel, rfl, by decide +kernel⟩,
   ⟨1, 1, 0x1200, 2, 1, live, _, by decide +kernel, by decide +kernel, rfl, by decide +kernel⟩⟩

theorem test_meets_WritesRefused_1 :
    (∃ (link : Fin 2) (hdr : ReqHdr) (bytes : List (BitVec 8)) (s : State) (r : ObjRow) (code : Nat), Takes link bytes.length s ∧ objRow hdr.index.toNat hdr.sub.toNat = some r ∧ r.record = false ∧ bytes.length = r.size ∧ hdr.length.toNat = r.size ∧ r.size ≤ linkData link ∧ hdr.reserved = 0 ∧ hdr.offset = 0 ∧ hdr.flags = 0 ∧ writeRefusal link hdr.index.toNat hdr.sub.toNat (leNat bytes) r (beginFrame link s.tickFree) = code ∧ code ≠ 0) ∧
    (∃ (link : Fin 2) (hdr : ReqHdr) (bytes : List (BitVec 8)) (s : State), Takes link bytes.length s ∧ objRow hdr.index.toNat hdr.sub.toNat = none ∧ hdr.length.toNat = bytes.length ∧ bytes.length ≤ linkData link ∧ hdr.reserved = 0 ∧ hdr.offset = 0 ∧ hdr.flags = 0) ∧
    (∃ (idx : Nat) (sub : Nat) (r : ObjRow), accessOf idx sub r = 0) ∧
    (∃ (link : Fin 2) (idx : Nat) (sub : Nat) (v : Nat) (r : ObjRow) (s : State), accessOf idx sub r ≠ 0 ∧ idx ≠ 0x1100 ∧ s.level link < levelOf idx sub v r) :=
  ⟨⟨0, ⟨1, 0x1000, 1, 0, 8, 0, 0⟩, [0, 0, 0, 0, 0, 0, 0, 0], live, ({ name := "ProvisionedId", lo := 1, hi := 1, ty := 4, acc := 0, fl := 0, lvl := 255, dflt := 0, size := 8, rng := .any }), 4, by decide +kernel⟩,
   ⟨0, ⟨1, 0xFFFF, 0xFF, 0, 1, 0, 0⟩, [0], live, by decide +kernel⟩,
   ⟨0x1000, 1, ({ name := "ProvisionedId", lo := 1, hi := 1, ty := 4, acc := 0, fl := 0, lvl := 255, dflt := 0, size := 8, rng := .any }), by decide +kernel⟩,
   ⟨0, 0x2200, 2, 0, ({ name := "BBound", lo := 2, hi := 2, ty := 3, acc := 1, fl := 1, lvl := 1, dflt := 4000, size := 4, rng := .span 1000 64000 }), (put [(0x1100, 5, 0)] live), by decide +kernel⟩⟩

theorem test_meets_WritesRefused_2 : ∃ (link : Fin 2) (idx : Nat) (sub : Nat) (v : Nat) (r : ObjRow) (s : State), writeRefusal link idx sub v r s = 0 ∧ idx ≠ 0x1100 :=
  ⟨0, 0x2200, 2, 1000, ({ name := "BBound", lo := 2, hi := 2, ty := 3, acc := 1, fl := 1, lvl := 1, dflt := 4000, size := 4, rng := .span 1000 64000 }), live, by decide +kernel⟩

theorem test_meets_ChannelCommands :
    (∃ (link : Fin 2) (c : Fin 16) (s : State), CanWrite link 1 1 s ∧ s.blk.st ≠ .test ∧ (s.chan c).st.grants = true) ∧
    (∃ (link : Fin 2) (c : Fin 16) (s : State), CanWrite link 1 1 s ∧ (s.chan c).st = .frozen) ∧
    (∃ (link : Fin 2) (c : Fin 16) (s : State), CanWrite link 1 1 s ∧ (s.chan c).st = .frozen) ∧
    (∃ (link : Fin 2) (c : Fin 16) (s : State), CanWrite link 1 1 s ∧ s.blk.st ≠ .test ∧ (s.chan c).st = .frozen ∧ (s.obj (chIdx 0x3080 c) 0x11) ∈ rankSlots s c) :=
  ⟨⟨0, 0, (chan0 .running live), by decide +kernel⟩,
   ⟨0, 0, (chan0 .frozen live), by decide +kernel⟩,
   ⟨1, 0, (chan0 .frozen live), by decide +kernel⟩,
   ⟨0, 0, (chan0 .frozen mem), by decide +kernel⟩⟩

theorem test_meets_TrainingCommands_1 :
    (∃ (link : Fin 2) (c : Fin 16) (s : State), CanWrite link 1 1 s ∧ ((s.chan c).st = .untrained ∨ (s.chan c).st = .fenced) ∧ rankSlots s c ≠ []) ∧
    (∃ (link : Fin 2) (s : State), CanWrite link 1 1 s) ∧
    (∃ (link : Fin 2) (c : Fin 16) (s : State), CanWrite link 1 1 s ∧ (s.chan c).st = .training ∧ s.obj (calIdx c) 1 = 1) ∧
    (∃ (link : Fin 2) (c : Fin 16) (s : State), CanWrite link 1 1 s ∧ (s.chan c).st = .training ∧ s.obj (calIdx c) 1 = 1) ∧
    (∃ (link : Fin 2) (c : Fin 16) (value : BitVec 8) (s : State), CanWrite link 1 1 s ∧ 1 ≤ value.toNat ∧ value.toNat ≤ 10 ∧ s.obj 0x2F00 (laneSub c (value.toNat - 1)) = 0) :=
  ⟨⟨0, 0, (chan0 .untrained mem), by decide +kernel⟩,
   ⟨0, live, by decide +kernel⟩,
   ⟨0, 0, (chan0 .training (put [(calIdx 0, 1, 1)] live)), by decide +kernel⟩,
   ⟨0, 0, (chan0 .training (put [(calIdx 0, 1, 1)] live)), by decide +kernel⟩,
   ⟨0, 0, 10, live, by decide +kernel⟩⟩

theorem test_meets_TrainingCommands_2 : ∃ (link : Fin 2) (value : BitVec 8) (s : State), CanWrite link 1 1 s ∧ (value.toNat ≤ 9 ∨ value.toNat = 255) :=
  ⟨0, 255, live, by decide +kernel⟩

theorem test_meets_HelperOperationsStart_1 :
    (∃ (link : Fin 2) (c : Fin 16) (s : State), CanWrite link 1 1 s ∧ (s.chan c).helper = none ∧ helperAllowed s c 1 = true) ∧
    (∃ (link : Fin 2) (c : Fin 16) (s : State), CanWrite link 1 1 s ∧ (s.chan c).helper = none ∧ helperAllowed s c 2 = true) ∧
    (∃ (link : Fin 2) (c : Fin 16) (s : State), CanWrite link 1 1 s ∧ (s.chan c).helper = none ∧ helperAllowed s c 3 = true) ∧
    (∃ (link : Fin 2) (c : Fin 16) (s : State), CanWrite link 1 1 s ∧ (s.chan c).helper = none ∧ helperAllowed s c 4 = true) ∧
    (∃ (link : Fin 2) (c : Fin 16) (s : State), CanWrite link 1 1 s ∧ (s.chan c).helper = none ∧ helperAllowed s c 8 = true) :=
  ⟨⟨0, 0, (chan0 .fenced (put [(0xA000, 0x12, 1)] live)), by decide +kernel⟩,
   ⟨0, 0, (chan0 .fenced (put [(0xA000, 0x12, 1)] live)), by decide +kernel⟩,
   ⟨0, 0, (chan0 .fenced (put [(0xA000, 0x12, 1)] live)), by decide +kernel⟩,
   ⟨0, 0, (chan0 .fenced (put [(0xA000, 0x12, 1)] live)), by decide +kernel⟩,
   ⟨0, 0, (chan0 .fenced (put [(0xA000, 0x12, 1)] live)), by decide +kernel⟩⟩

theorem test_meets_HelperOperationsStart_2 :
    (∃ (link : Fin 2) (c : Fin 16) (s : State), CanWrite link 1 1 s ∧ (s.chan c).helper = none ∧ helperAllowed s c 5 = true ∧ 0 < s.obj (0xA000 + c) 0x12 ∧ s.obj 0x2F00 1 = 0) ∧
    (∃ (link : Fin 2) (c : Fin 16) (s : State), CanWrite link 1 1 s ∧ (s.chan c).helper = none ∧ helperAllowed s c 9 = true ∧ 0 < s.obj (0xA000 + c) 0x12 ∧ s.obj 0x2F00 1 = 0) ∧
    (∃ (link : Fin 2) (c : Fin 16) (s : State), CanWrite link 1 1 s ∧ (s.chan c).helper = none ∧ helperAllowed s c 7 = true ∧ s.obj 0x2F00 2 = 0) ∧
    (∃ (link : Fin 2) (c : Fin 16) (s : State), CanWrite link 1 1 s ∧ (s.chan c).helper = none ∧ helperAllowed s c 6 = true ∧ 0 < s.obj (0xA000 + c) 0x12 ∧ s.obj 0x2F00 1 = 0 ∧ s.obj 0x2F00 2 = 0) ∧
    (∃ (link : Fin 2) (c : Fin 16) (s : State), CanWrite link 1 1 s ∧ (s.chan c).helper = none) :=
  ⟨⟨0, 0, (chan0 .fenced (put [(0xA000, 0x12, 1)] live)), by decide +kernel⟩,
   ⟨0, 0, (chan0 .fenced (put [(0xA000, 0x12, 1)] live)), by decide +kernel⟩,
   ⟨0, 0, (chan0 .fenced (put [(0xA000, 0x12, 1)] live)), by decide +kernel⟩,
   ⟨0, 0, (chan0 .fenced (put [(0xA000, 0x12, 1)] live)), by decide +kernel⟩,
   ⟨0, 0, live, by decide +kernel⟩⟩

theorem test_meets_HelperOperationsStart_3 :
    (∃ (link : Fin 2) (c : Fin 16) (s : State), CanWrite link 1 1 s ∧ (s.chan c).helper = none) ∧
    (∃ (link : Fin 2) (c : Fin 16) (s : State), CanWrite link 1 1 s ∧ (s.chan c).helper = none) :=
  ⟨⟨0, 0, live, by decide +kernel⟩,
   ⟨0, 0, live, by decide +kernel⟩⟩

theorem test_meets_MirrorCommands :
    (∃ (link : Fin 2) (d : Fin 4) (s : State), CanWrite link 1 1 s ∧ s.blk.st ≠ .test ∧ s.role d = 2) ∧
    (∃ (link : Fin 2) (d : Fin 4) (s : State), CanWrite link 1 1 s ∧ s.role d = 1 ∧ (s.dist d).mst = .inSync) ∧
    (∃ (link : Fin 2) (d : Fin 4) (s : State), CanWrite link 1 1 s ∧ s.blk.st ≠ .test ∧ ((s.dist d).mst = .inSync ∨ (s.dist d).mst = .resyncing)) ∧
    (∃ (link : Fin 2) (d : Fin 4) (s : State), CanWrite link 1 1 s ∧ s.role d = 1 ∧ (s.dist d).mst = .inSync) ∧
    (∃ (link : Fin 2) (d : Fin 4) (s : State), CanWrite link 1 1 s ∧ s.role d = 1 ∧ (s.dist d).mst = .broken) :=
  ⟨⟨0, 0, (mirror0 2 .inSync live), by decide +kernel⟩,
   ⟨0, 0, (mirror0 1 .inSync live), by decide +kernel⟩,
   ⟨0, 0, (mirror0 1 .resyncing live), by decide +kernel⟩,
   ⟨0, 0, (mirror0 1 .inSync live), by decide +kernel⟩,
   ⟨0, 0, (mirror0 1 .broken live), by decide +kernel⟩⟩

theorem test_meets_BayAndEventCommands_1 :
    (∃ (link : Fin 2) (b : Fin 32) (s : State), CanWrite link 1 1 s ∧ ((s.bay b).st = .inService ∨ (s.bay b).st = .fault)) ∧
    (∃ (link : Fin 2) (s : State), CanWrite link 1 1 s) ∧
    (∃ (link : Fin 2) (s : State), CanWrite link 1 1 s) ∧
    (∃ (link : Fin 2) (s : State), CanWrite link 1 1 s ∧ s.sup.st = .aborted) ∧
    (∃ (link : Fin 2) (s : State), CanWrite link 1 1 s) :=
  ⟨⟨0, 0, (bay0 .inService live), by decide +kernel⟩,
   ⟨0, live, by decide +kernel⟩,
   ⟨0, live, by decide +kernel⟩,
   ⟨0, (supply .aborted .idle live), by decide +kernel⟩,
   ⟨0, live, by decide +kernel⟩⟩

theorem test_meets_BayAndEventCommands_2 :
    (∃ (link : Fin 2) (s : State), CanWrite link 1 1 s) ∧
    (∃ (link : Fin 2) (s : State), CanWrite link 1 1 s) ∧
    (∃ (link : Fin 2) (s : State), CanWrite link 1 2 s) ∧
    (∃ (link : Fin 2) (s : State) (e : EvEntry), Takes link 0 s ∧ s.blk.st ≠ .test ∧ s.ev.queue[s.ev.rd]? = some e) ∧
    (∃ (link : Fin 2) (n : Fin 512) (s : State), CanWrite link 1 1 s ∧ (objRow (evIdx n) 5).isSome = true) :=
  ⟨⟨0, live, by decide +kernel⟩,
   ⟨0, live, by decide +kernel⟩,
   ⟨0, live, by decide +kernel⟩,
   ⟨0, { live with ev := { live.ev with queue := [⟨Stamp.zero, 1, 0, false, 1, 0⟩] } }, ⟨Stamp.zero, 1, 0, false, 1, 0⟩, by decide +kernel⟩,
   ⟨0, 1, live, by decide +kernel⟩⟩

theorem test_meets_ClaimsAndSampling_1 :
    (∃ (link : Fin 2) (sub : BitVec 8) (s : State), ((sub.toNat = 1 ∨ sub.toNat = 2 ∨ (0x10 ≤ sub.toNat ∧ sub.toNat < 0xC0))) ∧ CanWrite link 1 1 s ∧ s.obj 0x2F00 sub.toNat = 0) ∧
    (∃ (link : Fin 2) (sub : BitVec 8) (s : State), ((sub.toNat = 1 ∨ sub.toNat = 2 ∨ (0x10 ≤ sub.toNat ∧ sub.toNat < 0xC0))) ∧ CanWrite link 1 1 s ∧ s.obj 0x2F00 sub.toNat = 1) ∧
    (∃ (link : Fin 2) (sub : BitVec 8) (s : State), ((sub.toNat = 1 ∨ sub.toNat = 2 ∨ (0x10 ≤ sub.toNat ∧ sub.toNat < 0xC0))) ∧ CanWrite link 1 1 s ∧ (s.obj 0x2F00 sub.toNat = 2 ∨ s.obj 0x2F00 sub.toNat = 8)) ∧
    (∃ (link : Fin 2) (frame : BitVec 64) (s : State), CanWrite link 8 1 s ∧ frame.toNat < 2 ^ 48 ∧ 0 < framesAhead s frame.toNat ∧ framesAhead s frame.toNat ≤ 2 ^ 20) ∧
    (∃ (link : Fin 2) (index : BitVec 16) (s : State), CanWrite link 2 1 s ∧ index.toNat < 4096 ∧ (index.toNat + 4096 - s.obj 0x9020 4 % 4096) % 4096 ≤ samplesHeld s) :=
  ⟨⟨0, 0xBF, live, by decide +kernel⟩,
   ⟨0, 0xBF, (put [(0x2F00, 0xBF, 1)] live), by decide +kernel⟩,
   ⟨0, 1, (put [(0x2F00, 1, 2)] live), by decide +kernel⟩,
   ⟨0, (2 ^ 20), live, by decide +kernel⟩,
   ⟨0, 0, live, by decide +kernel⟩⟩

theorem test_meets_ClaimsAndSampling_2 :
    (∃ (link : Fin 2) (addr : BitVec 64) (s : State) (r : Nat) (dom : Nat) (c : Nat) (l : Nat) (b : Nat), CanWrite link 8 0 s ∧ addr.toNat < 2 ^ 46 ∧ translated s addr.toNat = some (r, dom, c, l, b)) ∧
    (∃ (link : Fin 2) (s : State) (i : Intake), CanWrite link 1 2 s ∧ s.blk.st = .config ∧ s.keys.intake = some i ∧ s.keys.mismatched = true ∧ ((∀ d : Fin 4, keyMismatched s d = true → bit (s.obj 0x21F0 1) d = true))) ∧
    (∃ (link : Fin 2) (value : BitVec 16) (s : State), link = 0 ∧ Takes link 2 s ∧ s.blk.st = .resetPhase ∧ s.mgmt.locked = false ∧ value.toNat &&& 0x303 = value.toNat ∧ (¬ (Config.productionFuse = true ∧ (bits value.toNat 1 0 = 3 ∨ bits value.toNat 9 8 = 3)))) ∧
    (∃ (link : Fin 2) (port : Fin 112) (s : State), hasProfile port = true ∧ CanWrite link 1 2 s ∧ s.obj (0x2300 + port) 1 = 0) :=
  ⟨⟨0, 64, mem, 0, 64, 0, 1, 0, by decide +kernel⟩,
   ⟨0, { inBlk .config live with keys := { live.keys with mismatched := true, intake := some ⟨⟨1, 0, 0⟩, none, false⟩ } }, ⟨⟨1, 0, 0⟩, none, false⟩, by decide +kernel⟩,
   ⟨0, 0x202, inBlk .resetPhase live, by decide +kernel, by decide +kernel, by decide +kernel, by decide +kernel, by decide +kernel, fun h => absurd h.2 (by decide)⟩,
   ⟨0, 0, live, by decide +kernel⟩⟩

theorem test_meets_BlockCommands_1 :
    (∃ (link : Fin 2) (s : State), CanWrite link 1 2 s ∧ ((s.blk.st = .running ∨ s.blk.st = .recovery))) ∧
    (∃ (link : Fin 2) (s : State), CanWrite link 1 2 s ∧ s.blk.st = .config ∧ s.mgmt.pendingFrame = none) ∧
    (∃ (link : Fin 2) (s : State), CanWrite link 1 2 s ∧ ((s.blk.st = .running ∨ s.blk.st = .recovery ∨ s.blk.st = .config))) ∧
    (∃ (link : Fin 2) (s : State), CanWrite link 1 3 s ∧ ((s.blk.st = .running ∨ s.blk.st = .recovery ∨ s.blk.st = .config))) ∧
    (∃ (link : Fin 2) (s : State), CanWrite link 1 3 s ∧ s.blk.st = .config) :=
  ⟨⟨0, inBlk .running live, by decide +kernel⟩,
   ⟨0, inBlk .config live, by decide +kernel⟩,
   ⟨0, inBlk .running live, by decide +kernel⟩,
   ⟨0, inBlk .recovery live, by decide +kernel⟩,
   ⟨0, inBlk .config live, by decide +kernel⟩⟩

theorem test_meets_BlockCommands_2 :
    (∃ (link : Fin 2) (s : State), CanWrite link 1 3 s ∧ s.blk.st = .test) ∧
    (∃ (s : State), s.blk.st = .test) ∧
    (∃ (s : State), ((s.blk.st = .running ∨ s.blk.st = .recovery ∨ s.blk.st = .config))) :=
  ⟨⟨0, inBlk .test live, by decide +kernel⟩,
   ⟨inBlk .test live, by decide +kernel⟩,
   ⟨inBlk .running live, by decide +kernel⟩⟩

theorem test_meets_BuiltInTests_1 :
    (∃ (link : Fin 2) (s : State), CanWrite link 1 3 s ∧ s.blk.test = 0 ∧ testAllowed s 1 = true) ∧
    (∃ (link : Fin 2) (s : State), CanWrite link 1 3 s ∧ s.blk.test = 0 ∧ testAllowed s 2 = true) ∧
    (∃ (link : Fin 2) (s : State), CanWrite link 1 3 s ∧ s.blk.test = 0 ∧ testAllowed s 3 = true) ∧
    (∃ (link : Fin 2) (s : State), CanWrite link 1 3 s ∧ s.blk.test = 0 ∧ s.blk.st = .test) ∧
    (∃ (link : Fin 2) (s : State), CanWrite link 1 3 s ∧ s.blk.test = 0 ∧ testAllowed s 5 = true) :=
  ⟨⟨0, inBlk .test live, by decide +kernel⟩,
   ⟨0, inBlk .test live, by decide +kernel⟩,
   ⟨0, inBlk .test live, by decide +kernel⟩,
   ⟨0, inBlk .test live, by decide +kernel⟩,
   ⟨0, inBlk .test live, by decide +kernel⟩⟩

theorem test_meets_BuiltInTests_2 :
    (∃ (link : Fin 2) (s : State), CanWrite link 1 3 s ∧ s.blk.test = 0 ∧ testAllowed s 6 = true) ∧
    (∃ (link : Fin 2) (s : State), CanWrite link 1 1 s ∧ s.blk.st ≠ .test ∧ s.obj 0x1220 5 = 0) ∧
    (∃ (s : State), s.blk.test ≠ 0) :=
  ⟨⟨0, inBlk .test live, by decide +kernel⟩,
   ⟨0, live, by decide +kernel⟩,
   ⟨{ live with blk := { live.blk with test := 1 } }, by decide +kernel⟩⟩

theorem test_meets_Injections_1 :
    (∃ (link : Fin 2) (s : State), CanWrite link 1 3 s ∧ ((s.blk.st = .running ∨ s.blk.st = .recovery ∨ s.blk.st = .config ∨ s.blk.st = .test)) ∧ s.blk.inj = none ∧ s.obj 0x2F00 2 = 0) ∧
    (∃ (link : Fin 2) (s : State), CanWrite link 1 3 s ∧ ((s.blk.st = .running ∨ s.blk.st = .recovery ∨ s.blk.st = .config ∨ s.blk.st = .test)) ∧ s.blk.inj = none ∧ s.obj 0x2F00 2 = 0) ∧
    (∃ (link : Fin 2) (s : State), CanWrite link 1 3 s ∧ ((s.blk.st = .running ∨ s.blk.st = .recovery ∨ s.blk.st = .config ∨ s.blk.st = .test))) ∧
    (∃ (link : Fin 2) (s : State), CanWrite link 1 3 s ∧ ((s.blk.st = .running ∨ s.blk.st = .recovery ∨ s.blk.st = .config ∨ s.blk.st = .test))) ∧
    (∃ (link : Fin 2) (s : State), CanWrite link 1 3 s ∧ ((s.blk.st = .running ∨ s.blk.st = .recovery ∨ s.blk.st = .config ∨ s.blk.st = .test))) :=
  ⟨⟨0, inBlk .test live, by decide +kernel⟩,
   ⟨0, inBlk .test live, by decide +kernel⟩,
   ⟨0, inBlk .test live, by decide +kernel⟩,
   ⟨0, inBlk .test live, by decide +kernel⟩,
   ⟨0, inBlk .test live, by decide +kernel⟩⟩

theorem test_meets_Injections_2 : ∃ (link : Fin 2) (s : State), CanWrite link 1 3 s :=
  ⟨0, live, by decide +kernel⟩

theorem test_meets_ObjectFrames_1 : ∃ (link : Fin 2) (hdr : ReqHdr) (s : State) (r : ObjRow), Takes link 0 s ∧ s.blk.st ≠ .test ∧ objRow hdr.index.toNat hdr.sub.toNat = some r ∧ r.record = false ∧ r.acc ≠ 2 ∧ hdr.length.toNat = r.size ∧ r.size ≤ linkData link ∧ hdr.reserved = 0 ∧ hdr.offset = 0 ∧ ((hdr.flags = 0 ∨ (hdr.flags = 1 ∧ r.staged = true))) :=
  ⟨0, ⟨1, 0x2200, 2, 0, 4, 0, 0⟩, live, ({ name := "BBound", lo := 2, hi := 2, ty := 3, acc := 1, fl := 1, lvl := 1, dflt := 4000, size := 4, rng := .span 1000 64000 }), by decide +kernel⟩

theorem test_meets_ObjectFrames_2 : ∃ (link : Fin 2) (hdr : ReqHdr) (bytes : List (BitVec 8)) (s : State) (r : ObjRow), Takes link bytes.length s ∧ s.blk.st ≠ .test ∧ objRow hdr.index.toNat hdr.sub.toNat = some r ∧ r.record = false ∧ r.staged = true ∧ bytes.length = r.size ∧ hdr.length.toNat = r.size ∧ r.size ≤ linkData link ∧ hdr.reserved = 0 ∧ hdr.offset = 0 ∧ hdr.flags = 0 ∧ writeRefusal link hdr.index.toNat hdr.sub.toNat (leNat bytes) r (beginFrame link s.tickFree) = 0 ∧ s.mgmt.pendingFrame = none ∧ stagedByOther s link = false :=
  ⟨0, ⟨1, 0x2200, 2, 0, 4, 0, 0⟩, [0xE8, 3, 0, 0], live, ({ name := "BBound", lo := 2, hi := 2, ty := 3, acc := 1, fl := 1, lvl := 1, dflt := 4000, size := 4, rng := .span 1000 64000 }), by decide +kernel⟩

theorem test_meets_ObjectFrames_3 :
    (∃ (link : Fin 2) (hdr : ReqHdr) (bytes : List (BitVec 8)) (s : State) (r : ObjRow), Takes link bytes.length s ∧ s.blk.st ≠ .test ∧ objRow hdr.index.toNat hdr.sub.toNat = some r ∧ r.record = false ∧ r.staged = false ∧ bytes.length = r.size ∧ hdr.length.toNat = r.size ∧ r.size ≤ linkData link ∧ hdr.reserved = 0 ∧ hdr.offset = 0 ∧ hdr.flags = 0 ∧ writeRefusal link hdr.index.toNat hdr.sub.toNat (leNat bytes) r (beginFrame link s.tickFree) = 0 ∧ (writeNow (Config.freeBit s.freeCtr) link hdr.index.toNat hdr.sub.toNat (leNat bytes) (beginFrame link s.tickFree)).2 = 0) ∧
    (∃ (link : Fin 2) (hdr : ReqHdr) (s : State) (r : ObjRow), Takes link 0 s ∧ s.blk.st ≠ .test ∧ objRow hdr.index.toNat hdr.sub.toNat = some r ∧ r.record = true ∧ hdr.offset.toNat + hdr.length.toNat ≤ recordSize hdr.index.toNat hdr.sub.toNat r ∧ hdr.length.toNat ≤ linkData link ∧ hdr.reserved = 0 ∧ ((hdr.flags = 0 ∨ (hdr.flags = 1 ∧ r.staged = true)))) :=
  ⟨⟨0, ⟨1, 0x1220, 3, 0, 1, 0, 0⟩, [4], live, ({ name := "MemLines", lo := 3, hi := 3, ty := 1, acc := 1, fl := 0, lvl := 1, dflt := 1, size := 1, rng := .span 1 4 }), by decide +kernel⟩,
   ⟨0, ⟨1, 0x3040, 0x20, 0, 8, 0, 0⟩, live, ({ name := "ActiveTrims", lo := 32, hi := 32, ty := 15, acc := 0, fl := 0, lvl := 255, dflt := 0, size := 1040, rng := .any }), by decide +kernel⟩⟩

theorem test_meets_ObjectFrames_4 :
    (∃ (link : Fin 2) (hdr : ReqHdr) (bytes : List (BitVec 8)) (s : State) (r : ObjRow), Takes link bytes.length s ∧ s.blk.st ≠ .test ∧ objRow hdr.index.toNat hdr.sub.toNat = some r ∧ r.record = true ∧ hdr.length.toNat = bytes.length ∧ hdr.offset.toNat + bytes.length ≤ recordSize hdr.index.toNat hdr.sub.toNat r ∧ bytes.length ≤ linkData link ∧ hdr.reserved = 0 ∧ hdr.flags = 0 ∧ (writeRecord link hdr.index.toNat hdr.sub.toNat hdr.offset.toNat bytes r (beginFrame link s)).2 = 0) ∧
    (∃ (link : Fin 2) (opcode : BitVec 8) (s : State), Takes link 0 s ∧ (opcode.toNat = 0 ∨ 8 < opcode.toNat)) ∧
    (∃ (link : Fin 2) (s : State), Takes link 0 s ∧ link = 1) :=
  ⟨⟨0, ⟨1, 0x3040, 0x21, 0, 4, 0, 0⟩, [0, 0, 0, 0], live, ({ name := "ShadowTrims", lo := 33, hi := 33, ty := 15, acc := 1, fl := 0, lvl := 1, dflt := 0, size := 1040, rng := .any }), by decide +kernel⟩,
   ⟨0, 9, live, by decide +kernel⟩,
   ⟨1, live, by decide +kernel⟩⟩

theorem test_meets_ConfigurationCommands_1 : ∃ (link : Fin 2) (hdr : ReqHdr) (s : State), Takes link 0 s ∧ s.blk.st ≠ .test ∧ hdr.index = 0 ∧ hdr.sub = 0 ∧ hdr.offset = 0 ∧ hdr.reserved = 0 ∧ hdr.flags = 0 ∧ hdr.length = 0 ∧ 1 ≤ s.level link ∧ drains s = false ∧ s.mgmt.pendingFrame = none ∧ stagedByOther s link = false ∧ ((stagesRwc s = false ∨ s.blk.st = .config)) ∧ commitReasons (beginFrame link s) (withStaged (beginFrame link s)) = 0 :=
  ⟨0, ⟨1, 0, 0, 0, 0, 0, 0⟩, live, by decide +kernel, by decide +kernel, by decide +kernel, by decide +kernel, by decide +kernel, ⟨by decide +kernel, by decide +kernel, by decide +kernel, by decide +kernel, by decide +kernel, ⟨by decide +kernel, by decide +kernel, by decide +kernel, live_commits⟩⟩⟩

theorem test_meets_ConfigurationCommands_2 :
    (∃ (link : Fin 2) (hdr : ReqHdr) (bytes : List (BitVec 8)) (s : State), Takes link bytes.length s ∧ s.blk.st ≠ .test ∧ hdr.index = 0 ∧ hdr.sub = 0 ∧ hdr.offset = 0 ∧ hdr.reserved = 0 ∧ hdr.flags = 0 ∧ hdr.length = BitVec.ofNat 16 bytes.length ∧ bytes.length = 8 ∧ 1 ≤ s.level link ∧ drains s = false ∧ s.mgmt.pendingFrame = none ∧ stagedByOther s link = false ∧ ((stagesRwc s = false ∨ s.blk.st = .config)) ∧ leNat bytes < frameMod ∧ 16 ≤ framesAhead s (leNat bytes) ∧ framesAhead s (leNat bytes) ≤ 2 ^ 20 ∧ commitReasons (beginFrame link s) (withStaged (beginFrame link s)) = 0) ∧
    (∃ (link : Fin 2) (s : State), s.mgmt.pendingFrame = none ∧ stagedByOther s link = false ∧ ((stagesRwc s = false ∨ s.blk.st = .config)) ∧ commitReasons s (withStaged s) ≠ 0) :=
  ⟨⟨0, ⟨1, 0, 0, 0, 8, 0, 0⟩, [16, 0, 0, 0, 0, 0, 0, 0], live, by decide +kernel, by decide +kernel, by decide +kernel, by decide +kernel, by decide +kernel, ⟨by decide +kernel, by decide +kernel, by decide +kernel, by decide +kernel, by decide +kernel, ⟨by decide +kernel, by decide +kernel, by decide +kernel, by decide +kernel, by decide +kernel, ⟨by decide +kernel, by decide +kernel, live_commits⟩⟩⟩⟩,
   ⟨0, (inBlk .config { live with mgmt := { live.mgmt with staged := [(256 * 0x6010 + 1, 1)] } }), by decide +kernel⟩⟩

theorem test_meets_ConfigurationCommands_3 : ∃ (link : Fin 2) (hdr : ReqHdr) (s : State) (items : List (Nat × Nat × ObjRow)), Takes link 0 s ∧ s.blk.st ≠ .test ∧ hdr.index = 0 ∧ hdr.sub = 0 ∧ hdr.offset = 0 ∧ hdr.reserved = 0 ∧ hdr.flags = 0 ∧ hdr.length = 0 ∧ 2 ≤ s.level link ∧ drains s = false ∧ (items = persistentObjects.filter (fun o => (beginFrame link s).obj o.1 o.2.1 != objDefault o.1 o.2.1)) ∧ ((items.flatMap (fun o => entryBytes o.1 o.2.1 o.2.2.size ((beginFrame link s).obj o.1 o.2.1))).length ≤ 6880) :=
  ⟨0, ⟨1, 0, 0, 0, 0, 0, 0⟩, live, _, by decide +kernel, by decide +kernel, by decide +kernel, by decide +kernel, by decide +kernel, ⟨by decide +kernel, by decide +kernel, by decide +kernel, by decide +kernel, by decide +kernel, rfl, by decide +kernel⟩⟩

theorem test_meets_ConfigurationCommands_4 :
    (∃ (link : Fin 2) (hdr : ReqHdr) (bytes : List (BitVec 8)) (s : State), Takes link bytes.length s ∧ s.blk.st ≠ .test ∧ hdr.index = 0 ∧ hdr.sub = 0 ∧ hdr.offset = 0 ∧ hdr.reserved = 0 ∧ hdr.flags = 0 ∧ hdr.length = BitVec.ofNat 16 bytes.length ∧ bytes.length = 1 ∧ leNat bytes ≤ 1 ∧ 2 ≤ s.level link ∧ drains s = false ∧ (restoreConfig link (leNat bytes) (beginFrame link s)).2.1 = 0) ∧
    (∃ (s : State), s.mgmt.owner ≠ 0 ∧ s.mgmt.pendingFrame = none) :=
  ⟨⟨0, ⟨1, 0, 0, 0, 1, 0, 0⟩, [1], live, by decide +kernel⟩,
   ⟨{ live with mgmt := { live.mgmt with owner := 1 } }, by decide +kernel⟩⟩

theorem test_meets_BusAddressing_1 :
    (∃ (s : State), mgmtLive s = true ∧ dynAddress s = 0) ∧
    (∃ (s : State), mgmtLive s = true ∧ dynAddress s = 0) ∧
    (∃ (s : State), mgmtLive s = true) ∧
    (∃ (s : State), addressed s = true) ∧
    (∃ (bits : BitVec 8) (s : State), mgmtLive s = true ∧ bit bits.toNat 0 = true) :=
  ⟨⟨(put [(0x1100, 1, 0)] live), by decide +kernel⟩,
   ⟨(put [(0x1100, 1, 0)] live), by decide +kernel⟩,
   ⟨live, by decide +kernel⟩,
   ⟨live, by decide +kernel⟩,
   ⟨1, live, by decide +kernel⟩⟩

theorem test_meets_BusAddressing_2 :
    (∃ (bits : BitVec 8) (s : State), mgmtLive s = true ∧ bit bits.toNat 0 = true) ∧
    (∃ (len : BitVec 16) (s : State), addressed s = true ∧ 18 ≤ len.toNat ∧ len.toNat ≤ 1042) ∧
    (∃ (len : BitVec 16) (s : State), addressed s = true ∧ 18 ≤ len.toNat ∧ len.toNat ≤ 1042) ∧
    (∃ (s : State) (n : Nat) (rest : List Nat), addressed s = true ∧ s.obj 0x1100 2 = 1 ∧ (s.ev.ibi.filter (fun n => s.obj (evIdx n) 5 == 1) = n :: rest)) :=
  ⟨⟨1, live, by decide +kernel⟩,
   ⟨18, live, by decide +kernel⟩,
   ⟨1042, live, by decide +kernel⟩,
   ⟨{ put [(0x1100, 2, 1), (evIdx 1, 5, 1)] live with ev := { live.ev with ibi := [1] } }, 1, [], by decide +kernel⟩⟩

theorem test_meets_BusReads_1 :
    (∃ (s : State), addressed s = true) ∧
    (∃ (s : State), addressed s = true) ∧
    (∃ (s : State), addressed s = true) ∧
    (∃ (s : State), addressed s = true) ∧
    (∃ (s : State), addressed s = true) :=
  ⟨⟨live, by decide +kernel⟩,
   ⟨live, by decide +kernel⟩,
   ⟨live, by decide +kernel⟩,
   ⟨live, by decide +kernel⟩,
   ⟨live, by decide +kernel⟩⟩

theorem test_meets_BusReads_2 :
    (∃ (s : State), addressed s = true) ∧
    (∃ (s : State), addressed s = true) ∧
    (∃ (s : State), mgmtLive s = true) ∧
    (∃ (s : State) (f : RspFrame), addressed s = true ∧ (s.link 1).held = some f) :=
  ⟨⟨live, by decide +kernel⟩,
   ⟨live, by decide +kernel⟩,
   ⟨live, by decide +kernel⟩,
   ⟨{ live with mgmt := { live.mgmt with links := [(1, ⟨some ⟨1, 1, 0, 0, 0, 0, 0, []⟩, false, false⟩)] } }, ⟨1, 1, 0, 0, 0, 0, 0, []⟩, by decide +kernel⟩⟩

theorem test_meets_WindowAndScan_1 :
    (∃ (value : BitVec 32) (s : State), mgmtLive s = true ∧ s.mgmt.winStatus ≠ 1 ∧ value.toNat = 1) ∧
    (∃ (s : State), mgmtLive s = true ∧ s.mgmt.winStatus = 1) ∧
    (∃ (value : BitVec 32) (s : State), (mgmtLive s = false ∨ (s.mgmt.winStatus ≠ 1 ∧ value.toNat ≠ 1))) ∧
    (∃ (offset : BitVec 12) (bytes : List (BitVec 8)) (s : State), mgmtLive s = true ∧ s.mgmt.winStatus ≠ 1 ∧ (bytes.length = 4 ∨ bytes.length = 8) ∧ offset.toNat % bytes.length = 0 ∧ 0x40 ≤ offset.toNat) ∧
    (∃ (bytes : List (BitVec 8)) (s : State), mgmtLive s = true ∧ s.mgmt.winStatus ≠ 1 ∧ bytes.length = 4) :=
  ⟨⟨1, live, by decide +kernel⟩,
   ⟨{ live with mgmt := { live.mgmt with winStatus := 1 } }, by decide +kernel⟩,
   ⟨0, live, by decide +kernel⟩,
   ⟨0x40, [1, 2, 3, 4], live, by decide +kernel⟩,
   ⟨[18, 0, 0, 0], live, by decide +kernel⟩⟩

theorem test_meets_WindowAndScan_2 :
    (∃ (s : State), s.blk.st = .test) ∧
    (∃ (s : State), s.blk.st ≠ .test) :=
  ⟨⟨inBlk .test live, by decide +kernel⟩,
   ⟨live, by decide +kernel⟩⟩

theorem test_meets_BoundaryChanges :
    (∃ (port : Fin 112) (s : State), s.obj (0x2200 + port) 0x0F = 1 ∧ atBoundary s = true ∧ portBusy (s.port port) = false ∧ Cls.ofCode (s.obj (0x2200 + port) 1) ≠ (s.port port).cls) ∧
    (∃ (s : State), s.obj 0x2000 7 = 1 ∧ atBoundary s = true ∧ swapReady s = true) ∧
    (∃ (c : Fin 16) (s : State), s.obj 0x2000 7 = 0 ∧ atBoundary s = true ∧ pendingCalendars s = [c.val] ∧ calendarReady s c = true) ∧
    (∃ (x : Fin 64) (queue : Fin 8) (s : State) (l : List (Nat × Nat)), (l = (s.xbar x).resize.filter (fun e => e.1 % 8 == queue.val && (tget (s.xbar x).queues e.1 []).isEmpty)) ∧ l ≠ []) ∧
    (∃ (vnet : Fin 4) (f : Nat) (vs : List Nat) (s : State), s.net.split = some (f, vs) ∧ s.net.hold.contains vnet.val = true ∧ 256 ≤ s.since (7680 * f)) :=
  ⟨⟨0, (put [(0x2200, 0x0F, 1), (0x2200, 1, 1)] live), by decide +kernel⟩,
   ⟨(put [(0x2000, 7, 1)] live), by decide +kernel⟩,
   ⟨0, (put [(arbIdx 0, 1, 1)] live), by decide +kernel⟩,
   ⟨0, 3, (live.setXbar 0 { live.xbar 0 with resize := [(3, 16)] }), [(3, 16)], by decide +kernel⟩,
   ⟨1, 0, [1], { at100 live with net := ⟨[1], some (0, [1])⟩ }, by decide +kernel⟩⟩

theorem test_meets_PacketsReceived :
    (∃ (port : Fin 96) (u : BitVec 544) (rest : List (BitVec 544)) (s : State), (s.port port).partPacket = none ∧ unitOk u = true ∧ 1 + rest.length ≤ (s.port port).credits ∧ rest.length ≤ unitsOwed (unitPayload u) rest.length) ∧
    (∃ (port : Fin 96) (u : BitVec 544) (s : State), (s.port port).partPacket = none ∧ unitOk u = false) ∧
    (∃ (port : Fin 96) (u : BitVec 544) (s : State), (s.port port).partPacket = none ∧ unitOk u = true ∧ (s.port port).credits = 0) :=
  ⟨⟨0, (851383884010105196854129066077847824097732400451402472847733355430208547261447497643656641067347297281169806556519936443114162571356787371097854332372373687238656#544), [], live, by decide +kernel⟩,
   ⟨0, 1, live, by decide +kernel⟩,
   ⟨0, (851383884010105196854129066077847824097732400451402472847733355430208547261447497643656641067347297281169806556519936443114162571356787371097854332372373687238656#544), (live.modPort 0 (fun q => { q with credits := 0 })), by decide +kernel⟩⟩

theorem test_meets_RequestsIssued_1 :
    (∃ (port : Fin 96) (tag : BitVec 8) (addr : BitVec 46) (len : BitVec 3) (lock : Bool) (c : Nat) (g : Grant) (s : State), Issuable port c (mkHeader 0x01 tag.toNat len.toNat addr.toNat false lock 0 0) ([]) g s) ∧
    (∃ (port : Fin 96) (tag : BitVec 8) (addr : BitVec 46) (len : BitVec 3) (lock : Bool) (c : Nat) (g : Grant) (s : State), Issuable port c (mkHeader 0x02 tag.toNat len.toNat addr.toNat false lock 0 0) ([]) g s) ∧
    (∃ (port : Fin 96) (tag : BitVec 8) (addr : BitVec 46) (twin : Bool) (lock : Bool) (data : List (BitVec 512)) (c : Nat) (g : Grant) (s : State), Issuable port c (mkHeader 0x10 tag.toNat (data.length % 8) addr.toNat twin lock 0 0) (data) g s) ∧
    (∃ (port : Fin 96) (tag : BitVec 8) (addr : BitVec 46) (mask : BitVec 64) (twin : Bool) (lock : Bool) (data : BitVec 512) (c : Nat) (g : Grant) (s : State), Issuable port c (mkHeader 0x11 tag.toNat 1 addr.toNat twin lock 0 mask.toNat) ([data]) g s) ∧
    (∃ (port : Fin 96) (tag : BitVec 8) (addr : BitVec 46) (compare : BitVec 64) (swap : BitVec 64) (twin : Bool) (c : Nat) (g : Grant) (s : State), Issuable port c (mkHeader 0x20 tag.toNat 1 addr.toNat twin false compare.toNat 0) ([BitVec.ofNat 512 swap.toNat]) g s) :=
  ⟨⟨0, 1, 64, 1, false, 0, ({ deadline := 200, res := false, unreserved := false, positions := [], charge := 1 }), mem, ⟨by decide +kernel, by decide +kernel, ⟨by decide +kernel, by decide +kernel, by decide +kernel, by decide +kernel, by unfold checkRequest rightsOk portRights; generalize Config.productionFuse = f; revert f; decide +kernel, by decide +kernel, by decide +kernel, by decide +kernel, ⟨1, 0, 1, by decide +kernel, by decide +kernel⟩⟩⟩⟩,
   ⟨0, 1, 64, 1, false, 0, ({ deadline := 200, res := false, unreserved := false, positions := [], charge := 1 }), mem, ⟨by decide +kernel, by decide +kernel, ⟨by decide +kernel, by decide +kernel, by decide +kernel, by decide +kernel, by unfold checkRequest rightsOk portRights; generalize Config.productionFuse = f; revert f; decide +kernel, by decide +kernel, by decide +kernel, by decide +kernel, ⟨1, 0, 1, by decide +kernel, by decide +kernel⟩⟩⟩⟩,
   ⟨0, 1, 64, false, false, [5], 0, ({ deadline := 200, res := false, unreserved := false, positions := [], charge := 1 }), mem, ⟨by decide +kernel, by decide +kernel, ⟨by decide +kernel, by decide +kernel, by decide +kernel, by decide +kernel, by unfold checkRequest rightsOk portRights; generalize Config.productionFuse = f; revert f; decide +kernel, by decide +kernel, by decide +kernel, by decide +kernel, ⟨1, 0, 1, by decide +kernel, by decide +kernel⟩⟩⟩⟩,
   ⟨0, 1, 64, 3, false, false, 5, 0, ({ deadline := 200, res := false, unreserved := false, positions := [], charge := 2 }), mem, ⟨by decide +kernel, by decide +kernel, ⟨by decide +kernel, by decide +kernel, by decide +kernel, by decide +kernel, by unfold checkRequest rightsOk portRights; generalize Config.productionFuse = f; revert f; decide +kernel, by decide +kernel, by decide +kernel, by decide +kernel, ⟨1, 0, 1, by decide +kernel, by decide +kernel⟩⟩⟩⟩,
   ⟨0, 1, 64, 7, 9, false, 0, ({ deadline := 200, res := false, unreserved := false, positions := [], charge := 2 }), mem, ⟨by decide +kernel, by decide +kernel, ⟨by decide +kernel, by decide +kernel, by decide +kernel, by decide +kernel, by unfold checkRequest rightsOk portRights; generalize Config.productionFuse = f; revert f; decide +kernel, by decide +kernel, by decide +kernel, by decide +kernel, ⟨1, 0, 1, by decide +kernel, by decide +kernel⟩⟩⟩⟩⟩

theorem test_meets_RequestsIssued_2 :
    (∃ (port : Fin 96) (tag : BitVec 8) (addr : BitVec 46) (compare : BitVec 128) (swap : BitVec 128) (twin : Bool) (c : Nat) (g : Grant) (s : State), Issuable port c (mkHeader 0x21 tag.toNat 1 addr.toNat twin false 0 0) ([BitVec.ofNat 512 (compare.toNat + swap.toNat * 2 ^ 128)]) g s) ∧
    (∃ (port : Fin 96) (tag : BitVec 8) (addr : BitVec 46) (addend : BitVec 64) (twin : Bool) (c : Nat) (g : Grant) (s : State), Issuable port c (mkHeader 0x22 tag.toNat 0 addr.toNat twin false addend.toNat 0) ([]) g s) ∧
    (∃ (port : Fin 96) (tag : BitVec 8) (addr : BitVec 46) (value : BitVec 64) (twin : Bool) (c : Nat) (g : Grant) (s : State), Issuable port c (mkHeader 0x23 tag.toNat 0 addr.toNat twin false value.toNat 0) ([]) g s) :=
  ⟨⟨0, 1, 64, 7, 9, false, 0, ({ deadline := 200, res := false, unreserved := false, positions := [], charge := 2 }), mem, ⟨by decide +kernel, by decide +kernel, ⟨by decide +kernel, by decide +kernel, by decide +kernel, by decide +kernel, by unfold checkRequest rightsOk portRights; generalize Config.productionFuse = f; revert f; decide +kernel, by decide +kernel, by decide +kernel, by decide +kernel, ⟨1, 0, 1, by decide +kernel, by decide +kernel⟩⟩⟩⟩,
   ⟨0, 1, 64, 5, false, 0, ({ deadline := 200, res := false, unreserved := false, positions := [], charge := 2 }), mem, ⟨by decide +kernel, by decide +kernel, ⟨by decide +kernel, by decide +kernel, by decide +kernel, by decide +kernel, by unfold checkRequest rightsOk portRights; generalize Config.productionFuse = f; revert f; decide +kernel, by decide +kernel, by decide +kernel, by decide +kernel, ⟨1, 0, 1, by decide +kernel, by decide +kernel⟩⟩⟩⟩,
   ⟨0, 1, 64, 5, false, 0, ({ deadline := 200, res := false, unreserved := false, positions := [], charge := 2 }), mem, ⟨by decide +kernel, by decide +kernel, ⟨by decide +kernel, by decide +kernel, by decide +kernel, by decide +kernel, by unfold checkRequest rightsOk portRights; generalize Config.productionFuse = f; revert f; decide +kernel, by decide +kernel, by decide +kernel, by decide +kernel, ⟨1, 0, 1, by decide +kernel, by decide +kernel⟩⟩⟩⟩⟩

theorem test_meets_RequestRefused : ∃ (port : Fin 96) (k : Packet) (rest : List Packet) (code : Nat) (s : State), (s.port port).bridge = k :: rest ∧ k.need = 0 ∧ portClosed s port = false ∧ (((s.port port).tags.any (fun u => u.tag == hdrTag k.hdr)) = false) ∧ checkRequest s port k.hdr k.data k.bad = some code ∧ tokensOk s port 256 = true ∧ (s.port port).lock = none ∧ hdrLock k.hdr = false ∧ k.bad = false ∧ (s.port port).respUnits < 32 ∧ (s.port port).answered (hdrTag k.hdr) (s.stampNow port) = false :=
  ⟨0, (packetOf (mkHeader 0x01 1 1 0 false false 0 0) [] live), [], 0x21, (bridged 0 (packetOf (mkHeader 0x01 1 1 0 false false 0 0) [] live) live), by decide +kernel⟩

theorem test_meets_RequestsEnd_1 :
    (∃ (port : Fin 96) (tag : BitVec 8) (h : BitVec 512) (s : State), h = mkHeader 0x30 tag.toNat 0 0 false false 0 0 ∧ FenceOpen port h s ∧ ((∀ d, (s.dist d).mst = .off)) ∧ (s.port port).respUnits < 32) ∧
    (∃ (port : Fin 96) (l : LockSeq) (s : State), (s.port port).lock = some l ∧ 64 < s.since l.last ∧ l.broken = false) ∧
    (∃ (port : Fin 96) (l : LockSeq) (s : State), (s.port port).lock = some l ∧ 64 < s.since l.last ∧ l.broken = true) ∧
    (∃ (port : Fin 112) (u : TagUse) (s : State), (s.port port).tags = [u] ∧ s.duePassed u.req.deadline = true ∧ u.lost = false ∧ twinWaitOf s port u = none ∧ (s.port port).answered u.tag u.req.stamp = false) ∧
    (∃ (port : Fin 112) (tag : BitVec 8) (u : TagUse) (w : TwinWait) (s : State), ((s.port port).tags.find? (fun x => x.tag == tag.toNat) = some u) ∧ s.duePassed ((u.req.deadline + slotMod - 1) % slotMod) = true ∧ (s.mirror.waits.find? (fun x => x.resp.port == port.val && x.resp.tag == u.tag && x.resp.stamp == u.req.stamp) = some w)) :=
  ⟨⟨0, 1, _, mem, rfl, ⟨by decide +kernel, by decide +kernel, by decide +kernel, by decide +kernel, by decide +kernel, by unfold checkRequest rightsOk portRights; generalize Config.productionFuse = f; revert f; decide +kernel, by decide +kernel, by decide +kernel, by decide +kernel⟩, mem_off, by decide +kernel⟩,
   ⟨0, ⟨0, Stamp.zero, 0, [], 1, false⟩, ((at100 live).modPort 0 (fun q => { q with lock := some ⟨0, Stamp.zero, 0, [], 1, false⟩ })), by decide +kernel⟩,
   ⟨0, ⟨0, Stamp.zero, 0, [], 1, true⟩, ((at100 live).modPort 0 (fun q => { q with lock := some ⟨0, Stamp.zero, 0, [], 1, true⟩ })), by decide +kernel⟩,
   ⟨0, ⟨1, req0, false⟩, ((at100 live).modPort 0 (fun q => { q with tags := [⟨1, req0, false⟩] })), by decide +kernel⟩,
   ⟨0, 1, ⟨1, req0, false⟩, ⟨false, resp0, 0, []⟩, { (at100 live).modPort 0 (fun q => { q with tags := [⟨1, req0, false⟩] }) with mirror := { live.mirror with waits := [⟨false, resp0, 0, []⟩] } }, by decide +kernel⟩⟩

theorem test_meets_RequestsEnd_2 :
    (∃ (port : Fin 112) (tag : BitVec 8) (e : Nat × Stamp) (s : State), ((s.port port).late.find? (fun x => x.1 == tag.toNat) = some e)) ∧
    (∃ (port : Fin 112) (r : Resp) (rest : List Resp) (s : State), port.val ≠ 100 ∧ (s.port port).egress = none ∧ (s.port port).resp = r :: rest ∧ (s.port port).egressCredits = 0) ∧
    (∃ (port : Fin 112) (r : Resp) (rest : List Resp) (s : State), port.val ≠ 100 ∧ (s.port port).egress = none ∧ (s.port port).resp = r :: rest ∧ 0 < (s.port port).egressCredits) ∧
    (∃ (port : Fin 112) (b : Back) (s : State), port.val < 96 ∧ (s.port port).egress = none ∧ (s.port port).resp = [] ∧ ((s.port port).coming.find? (fun b => !backFailed s port b.chan && (b.sent || b.chain || !s.net.hold.contains 1)) = some b) ∧ b.resp.port = port.val ∧ ((s.port port).tags.any (fun u => u.tag == b.resp.tag && u.req.stamp == b.resp.stamp && !u.lost) = true) ∧ b.resp.units ≤ 32) :=
  ⟨⟨0, 1, (1, Stamp.zero), (live.modPort 0 (fun q => { q with late := [(1, Stamp.zero)] })), by decide +kernel⟩,
   ⟨0, resp0, [], (live.modPort 0 (fun q => { q with resp := [resp0], egressCredits := 0 })), by decide +kernel⟩,
   ⟨0, resp0, [], (live.modPort 0 (fun q => { q with resp := [resp0], egressCredits := 1 })), by decide +kernel⟩,
   ⟨0, ⟨resp0, 0, false, false⟩, (live.modPort 0 (fun q => { q with tags := [⟨1, req0, false⟩], coming := [⟨resp0, 0, false, false⟩], egressCredits := 1 })), by decide +kernel⟩⟩

theorem test_meets_AtomicArithmetic :
    (∃ (cmd : Nat) (off : Nat), ((cmd = 0x20 ∨ cmd = 0x21 ∨ cmd = 0x22 ∨ cmd = 0x23)) ∧ off + atomicBytes cmd ≤ 64 ∧ ((cmd = 0x20 ∨ cmd = 0x21))) ∧
    (∃ (cmd : Nat) (off : Nat), ((cmd = 0x20 ∨ cmd = 0x21 ∨ cmd = 0x22 ∨ cmd = 0x23)) ∧ off + atomicBytes cmd ≤ 64 ∧ cmd = 0x22) ∧
    (∃ (cmd : Nat) (off : Nat), ((cmd = 0x20 ∨ cmd = 0x21 ∨ cmd = 0x22 ∨ cmd = 0x23)) ∧ off + atomicBytes cmd ≤ 64 ∧ cmd = 0x23) ∧
    (∃ (cmd : Nat) (off : Nat) (j : Nat), ((cmd = 0x20 ∨ cmd = 0x21 ∨ cmd = 0x22 ∨ cmd = 0x23)) ∧ off + atomicBytes cmd ≤ 64 ∧ ((j < 8 * off ∨ 8 * (off + atomicBytes cmd) ≤ j))) :=
  ⟨⟨0x21, 48, by decide +kernel⟩,
   ⟨0x22, 56, by decide +kernel⟩,
   ⟨0x23, 0, by decide +kernel⟩,
   ⟨0x20, 8, 63, by decide +kernel⟩⟩

theorem test_meets_HeadersReadBack : ∃ (cmd : Nat) (tag : Nat) (len : Nat), cmd < 256 ∧ tag < 256 ∧ len < 8 :=
  ⟨255, 255, 7, by decide +kernel⟩

theorem test_meets_AddressMapInverts : ∃ (x : Desc) (n : Nat), x.width = 2 ^ n ∧ n ∈ [0, 2, 3, 4] ∧ x.order < 4 :=
  ⟨{ desc0 with width := 8, order := 3 }, 3, by decide +kernel⟩

theorem test_meets_CheckCodeCorrects : ∃ (k : Fin 10) (j : Fin 10) (e : Fin 8 → BitVec 8), k ≠ j ∧ ((∃ i, e i ≠ 0)) :=
  ⟨9, 0, (fun _ => 1), by decide +kernel, ⟨0, by decide⟩⟩

theorem test_meets_SealedFramesOpen : ∃ (hdr : List (BitVec 8)), hdr.length = 32 :=
  ⟨(List.replicate 32 0), by decide +kernel⟩

theorem test_meets_RaisesCounted :
    (∃ (n : Nat) (fixed : Nat) (detail : Nat) (port : Nat) (s : State) (t : State) (a : Nat), n < 512 ∧ reservedSource n = false ∧ n ≠ 0x014 ∧ t = raiseFull n fixed detail port s ∧ ((a < 0x6800 ∨ 0x7000 ≤ a))) ∧
    (∃ (n : Nat) (fixed : Nat) (detail : Nat) (port : Nat) (s : State) (t : State), n < 512 ∧ reservedSource n = false ∧ n ≠ 0x014 ∧ t = raiseFull n fixed detail port s ∧ s.obj (evIdx n) 1 ≠ 1 ∧ max (s.obj (evIdx n) 2) fixed < 3) :=
  ⟨⟨1, 0, 0, 0, live, _, 0, by decide +kernel, by decide +kernel, by decide +kernel, rfl, by decide +kernel⟩,
   ⟨1, 1, 0, 0, (put [(evIdx 1, 1, 0)] live), _, by decide +kernel, by decide +kernel, by decide +kernel, rfl, by decide +kernel⟩⟩

theorem test_meets_StoreResets :
    (∃ (unit : Fin 112) (line : Nat) (s : State) (v : State) (x : PLine), v = (s.addObj 0x5102 0x11 1).raise 0x011 ∧ s.pline (unit % 16) line = some x ∧ x.st = .clean) ∧
    (∃ (s : State) (v : State), v = (s.addObj 0x5102 0x18 1).raise 0x011) ∧
    (∃ (s : State) (v : State), v = (s.addObj 0x5102 0x1A 1).raise 0x011) :=
  ⟨⟨0, 1, (mem.setPline 0 1 line0), _, line0, rfl, by decide +kernel⟩,
   ⟨live, _, rfl⟩,
   ⟨live, _, rfl⟩⟩

theorem test_meets_NetworkMoves_1 :
    (∃ (x : Fin 64) (out : Fin 7) (h : Head) (s : State) (v : State), v = beforeCycle x out s ∧ linkOk v x out = true ∧ reservedHead v x out = some h) ∧
    (∃ (x : Fin 64) (out : Fin 7) (h : Head) (s : State) (v : State), v = beforeCycle x out s ∧ linkOk v x out = true ∧ reservedHead v x out = none ∧ (arbWinner v (tget (v.xbar x).rank out []) ((headsFor v x out).filter (fun h => hasCredit v x out h && ownerAllows v x out h)) = some h)) ∧
    (∃ (x : Fin 64) (input : Fin 4) (s : State) (b : Xbar), linkFailed s x input = false ∧ tget (s.xbar x).fails input 0 < 16 ∧ b = { s.xbar x with fails := tput (s.xbar x).fails input (tget (s.xbar x).fails input 0 + 1) 0 }) ∧
    (∃ (x : Fin 64) (input : Fin 4) (s : State), linkFailed s x input = true ∧ injectLink s x input = false) ∧
    (∃ (c : Fin 16) (port : Fin 112) (tag : BitVec 8) (r : Req) (s : State) (v : State), ((tget s.transit c []).find? (fun r => r.port == port.val && r.tag == tag.toNat) = some r) ∧ transitBehind s c r = false ∧ (v = dropUnits 0 port tag.toNat { s with transit := tput s.transit c ((tget s.transit c []).filter (fun x => x.stamp != r.stamp)) [] })) :=
  ⟨⟨0, 4, ((reservedHead ((live.setXbar 0 { live.xbar 0 with express := [(0, [{ unit0 with chain := some 0 }])] }).setRec 0x4000 (0x20 + 4) 4 (natLe 4 (2 ^ 31))) 0 4).getD ⟨0, 0, false, unit0, 0⟩), ((live.setXbar 0 { live.xbar 0 with express := [(0, [{ unit0 with chain := some 0 }])] }).setRec 0x4000 (0x20 + 4) 4 (natLe 4 (2 ^ 31))), _, rfl, by decide +kernel⟩,
   ⟨0, 4, ⟨0, 0, false, unit0, 0⟩, (waiting unit0 live), _, rfl, by decide +kernel⟩,
   ⟨0, 0, live, _, by decide +kernel, by decide +kernel, rfl⟩,
   ⟨0, 0, (put [(0x4000, 6, 1)] live), by decide +kernel⟩,
   ⟨0, 0, 1, req0, { mem with transit := [(0, [req0])] }, _, by decide +kernel, by decide +kernel, rfl⟩⟩

theorem test_meets_NetworkMoves_2 : ∃ (c : Fin 16) (port : Fin 112) (tag : BitVec 8) (r : Req) (rest : List Req) (s : State), ((tget s.transit c []).find? (fun r => r.port == port.val && r.tag == tag.toNat) = none) ∧ routeFailed s port c = false ∧ (s.port port).ingress = r :: rest ∧ r.group = none ∧ r.tag = tag.toNat ∧ reqChan s r = some c.val ∧ s.net.hold.contains 0 = false :=
  ⟨0, 0, 1, req0, [], (mem.modPort 0 (fun q => { q with ingress := [req0] })), by decide +kernel⟩

theorem test_meets_SliceWork_1 :
    (∃ (c : Fin 16) (a : Access) (s : State) (v : State), (s.chan c).st.held = false ∧ s.orderOf c = [a] ∧ stampLt a.ord (horizon s c) = true ∧ a.group = false ∧ v = (applyAccess a { s with order := tput s.order c [] [] }).1 ∧ (applyAccess a { s with order := tput s.order c [] [] }).2 = true) ∧
    (∃ (c : Fin 16) (line : Nat) (e : Entry) (s : State), ((s.chan c).granted.find? (fun e => e.line == line && !e.wr && !(s.chan c).uncertain e) = some e) ∧ e.kind = .fill) ∧
    (∃ (c : Fin 16) (line : Nat) (e : Entry) (s : State) (f : Nat) (k : Nat) (status : Nat) (units : List (BitVec 512)), ((s.chan c).granted.find? (fun e => e.line == line && !e.wr && !(s.chan c).uncertain e) = some e) ∧ e.kind = .raw f k status units) ∧
    (∃ (c : Fin 16) (line : Nat) (x : PLine) (s : State), s.pline c line = some x ∧ x.wbGranted = true ∧ x.st = .dirty ∧ (((s.chan c).granted.filter (fun e => e.line == line && e.wr)).any (s.chan c).uncertain = false) ∧ s.orderOf c = []) ∧
    (∃ (c : Fin 16) (line : Nat) (x : PLine) (s : State), s.pline c line = some x ∧ x.st = .dirty ∧ s.obj 0x5100 2 ≤ s.framesSince x.since ∧ x.wbQueued = false ∧ x.wbGranted = false ∧ writeBackRoom s c x = true) :=
  ⟨⟨0, access0, { at100 mem with order := [(0, [access0])] }, _, by decide +kernel, by decide +kernel, by decide +kernel, by decide +kernel, rfl, by decide +kernel⟩,
   ⟨0, 1, entry0, (mem.modChan 0 (fun c => { c with granted := [entry0] })), by decide +kernel⟩,
   ⟨0, 1, { entry0 with kind := .raw 1 0 0 [] }, (mem.modChan 0 (fun c => { c with granted := [{ entry0 with kind := .raw 1 0 0 [] }] })), 1, 0, 0, [], by decide +kernel⟩,
   ⟨0, 1, { line0 with st := .dirty, wbGranted := true }, (mem.setPline 0 1 { line0 with st := .dirty, wbGranted := true }), by decide +kernel⟩,
   ⟨0, 1, { line0 with st := .dirty }, (put [(0x5100, 2, 100)] (at100 (mem.setPline 0 1 { line0 with st := .dirty }))), by decide +kernel⟩⟩

theorem test_meets_SliceWork_2 : ∃ (c : Fin 16) (line : Nat) (x : LLine) (s : State), tfind s.ledger (lineKey c line) = some x ∧ x.dirty = true ∧ s.obj 0x5100 3 ≤ s.framesSince x.since :=
  ⟨0, 1, ⟨0, true, 0, 0, 0⟩, { put [(0x5100, 3, 100)] (at100 mem) with ledger := [(lineKey 0 1, ⟨0, true, 0, 0, 0⟩)] }, by decide +kernel⟩

theorem test_meets_ChannelGrants :
    (∃ (c : Fin 16) (pos : Nat) (s : State) (u : State) (v : State), s.pSlot c ≠ 0 ∧ pos = nextPosition s c ∧ (u = releaseLock c pos (s.modChan c (fun ch => { ch with pos := pos }))) ∧ v = writeMode c pos 1 (writeMode c pos 0 u) ∧ u.sup.vddpCut = false ∧ (u.chan c).st.grants = true ∧ (u.chan c).pstate = .active ∧ u.yardBehind c = false ∧ (u.chan c).lock = none ∧ u.inRefresh c (u.refreshDoubled c) (pos / s.pSlot c % 192) = false ∧ u.swapSlot c (pos / s.pSlot c % 192) = false ∧ v.arbMode c = 0) ∧
    (∃ (c : Fin 16) (k : Fin 4) (n : Nat) (l : List Nat) (s : State), tget (s.chan c).bursts k [] = n :: l ∧ ((∀ j : Fin 4, j ≠ k → tget (s.chan c).bursts j [] = [])) ∧ ctxState s c k = 1 ∧ (s.chan c).burst = none) ∧
    (∃ (c : Fin 16) (s : State) (v : State), scrubDue s c = true ∧ (v, true) = scrubClaim s) :=
  ⟨⟨0, (2), (put [(arbIdx 0, 0x0A, 1)] (mem.modChan 0 (fun c => { c with bq := [entry0] }))), _, _, by decide +kernel, by decide +kernel, rfl, rfl, by decide +kernel⟩,
   ⟨0, 0, 64, [], (put [(chIdx 0x3021 0, 0x10, 1)] (live.modChan 0 (fun c => { c with bursts := [(0, [64])] }))), by decide +kernel⟩,
   ⟨0, mem, (scrubClaim mem).1, by decide +kernel⟩⟩

theorem test_meets_RefreshAndSensors :
    (∃ (c : Fin 16) (bank : Fin 4) (set : Fin 2) (s : State) (u : State), s.sup.vddpCut = false ∧ s.now.slot = (s.obj (chIdx 0x3011 c) 1 + 24 * bank + 96 * set) % 192 ∧ refreshes (s.chan c) = true ∧ s.pSlot c ≠ 0 ∧ (u = applyPending c ((rankSlots s c).foldl (fun t rs => forN 2 t (fun sub u => placeRefresh c bank sub rs (4 * u.pSlot c * u.slotNow) (set.val == 0 || s.refreshDoubled c) u)) s))) ∧
    (∃ (c : Fin 16) (sub : Fin 2) (rankSlot : Fin 8) (bank : Fin 32) (key : Nat) (s : State), key = 256 * sub.val + 32 * rankSlot.val + bank.val ∧ 0 < (raaLimits s c (bankCoord key 0).pos).2 ∧ (raaLimits s c (bankCoord key 0).pos).2 ≤ ((s.chan c).bank key).raa) ∧
    (∃ (c : Fin 16) (s : State), s.now.slot = 0 ∧ s.now.cycle = 0 ∧ calmEnough s c = true) ∧
    (∃ (c : Fin 16) (sub : Fin 2) (rankSlot : Fin 8) (bank : Fin 32) (r : Nat) (s : State), ((s.chan c).bank (256 * sub + 32 * rankSlot + bank)).row = some r ∧ s.obj (chIdx 0x3012 c) 1 = 0 ∧ ((s.chan c).bank (256 * sub + 32 * rankSlot + bank)).last + s.obj (chIdx 0x3012 c) 2 ≤ s.cycleNow * s.pSlot c / 40) :=
  ⟨⟨0, 0, 0, (put [(chIdx 0x3011 0, 1, 0)] mem), _, by decide +kernel, by decide +kernel, by decide +kernel, by decide +kernel, rfl⟩,
   ⟨0, 0, 0, 0, 0, (mem.modChan 0 (fun c => { c with banks := [(0, { Bank.reset with raa := 96 })] })), by decide +kernel⟩,
   ⟨0, (live.modChan 0 (fun c => { c with calm := 257 })), by decide +kernel⟩,
   ⟨0, 0, 0, 0, 5, (at100 (mem.modChan 0 (fun c => { c with banks := [(0, { Bank.reset with row := some 5 })] }))), by decide +kernel⟩⟩

theorem test_meets_AlertEpisodes_1 :
    (∃ (c : Fin 16) (sub : Fin 2) (s : State) (v : State), (v = s.modChan c (fun ch => { ch with lock := ch.lock.map (fun k => { k with alerted := true }) })) ∧ ((s.chan c).sub sub).alert = none) ∧
    (∃ (c : Fin 16) (sub : Fin 2) (a : Alert) (s : State) (v : State), (v = s.modChan c (fun ch => { ch with lock := ch.lock.map (fun k => { k with alerted := true }) })) ∧ ((s.chan c).sub sub).alert = some a ∧ a.low = false ∧ a.retries < 2) ∧
    (∃ (c : Fin 16) (sub : Fin 2) (a : Alert) (s : State) (v : State), (v = s.modChan c (fun ch => { ch with lock := ch.lock.map (fun k => { k with alerted := true }) })) ∧ ((s.chan c).sub sub).alert = some a ∧ a.low = false ∧ 2 ≤ a.retries) ∧
    (∃ (c : Fin 16) (sub : Fin 2) (a : Alert) (s : State), ((s.chan c).sub sub).alert = some a ∧ a.low = true) ∧
    (∃ (c : Fin 16) (sub : Fin 2) (a : Alert) (s : State), ((s.chan c).sub sub).alert = some a ∧ a.low = true ∧ 2 * s.obj (chIdx 0x3014 c) 4 ≤ s.since a.at_) :=
  ⟨⟨0, 0, live, _, rfl, by decide +kernel⟩,
   ⟨0, 0, alert0 false, (alerted false live), _, rfl, by decide +kernel⟩,
   ⟨0, 0, { alert0 false with retries := 2 }, (live.modChan 0 (fun c => c.setSub 0 { (c.sub 0) with alert := some { alert0 false with retries := 2 } })), _, rfl, by decide +kernel⟩,
   ⟨0, 0, alert0 true, (alerted true live), by decide +kernel⟩,
   ⟨0, 0, alert0 true, (at100 (alerted true live)), by decide +kernel⟩⟩

theorem test_meets_AlertEpisodes_2 : ∃ (c : Fin 16) (sub : Fin 2) (a : Alert) (s : State) (v : State), ((s.chan c).sub sub).alert = some a ∧ a.low = false ∧ (v = s.modChan c (fun ch => ch.setSub sub { (ch.sub sub) with alert := none })) :=
  ⟨0, 0, alert0 false, (alerted false live), _, by decide +kernel, by decide +kernel, rfl⟩

theorem test_meets_ChannelPower :
    (∃ (c : Fin 16) (n : Nat) (s : State), (s.chan c).pstate ≠ .active ∧ (s.chan c).exiting = none ∧ knownEvent s c ((s.chan c).pstate == .powerDown) = some n ∧ 500 * n ≤ latencyOf s c (s.chan c).pstate) ∧
    (∃ (c : Fin 16) (due : Option Nat) (s : State), (s.chan c).exiting = some due) :=
  ⟨⟨0, (520), (put [(timIdx 0, 0x1A, 300000)] (live.modChan 0 (fun c => { c with pstate := .powerDown }))), by decide +kernel⟩,
   ⟨0, none, (live.modChan 0 (fun c => { c with pstate := .selfRefresh, exiting := some none })), by decide +kernel⟩⟩

theorem test_meets_MirrorReceives_1 :
    (∃ (port : Fin 16) (bytes : List (BitVec 8)) (p : List (BitVec 8)) (s : State), Opens 0 port bytes p s ∧ OfSession bytes s) ∧
    (∃ (port : Fin 16) (bytes : List (BitVec 8)) (p : List (BitVec 8)) (s : State), Opens 1 port bytes p s ∧ OfSession bytes s) ∧
    (∃ (port : Fin 16) (bytes : List (BitVec 8)) (p : List (BitVec 8)) (s : State), Opens 2 port bytes p s ∧ OfSession bytes s) ∧
    (∃ (port : Fin 16) (bytes : List (BitVec 8)) (p : List (BitVec 8)) (s : State), Opens 3 port bytes p s ∧ OfSession bytes s) ∧
    (∃ (port : Fin 16) (bytes : List (BitVec 8)) (p : List (BitVec 8)) (s : State), Opens 4 port bytes p s) :=
  ⟨⟨0, (frame0 0), [], (paired live), ⟨by decide +kernel, by decide +kernel, by decide +kernel, ⟨0, 0, 0, 0⟩, by decide +kernel, by decide +kernel⟩, ⟨by decide +kernel, by decide +kernel⟩⟩,
   ⟨0, (frame0 1), [], (paired live), ⟨by decide +kernel, by decide +kernel, by decide +kernel, ⟨0, 0, 0, 0⟩, by decide +kernel, by decide +kernel⟩, ⟨by decide +kernel, by decide +kernel⟩⟩,
   ⟨0, (frame0 2), [], (paired live), ⟨by decide +kernel, by decide +kernel, by decide +kernel, ⟨0, 0, 0, 0⟩, by decide +kernel, by decide +kernel⟩, ⟨by decide +kernel, by decide +kernel⟩⟩,
   ⟨0, (frame0 3), [], (paired live), ⟨by decide +kernel, by decide +kernel, by decide +kernel, ⟨0, 0, 0, 0⟩, by decide +kernel, by decide +kernel⟩, ⟨by decide +kernel, by decide +kernel⟩⟩,
   ⟨0, (frame0 4), [], (paired live), ⟨by decide +kernel, by decide +kernel, by decide +kernel, ⟨0, 0, 0, 0⟩, by decide +kernel, by decide +kernel⟩⟩⟩

theorem test_meets_MirrorReceives_2 :
    (∃ (port : Fin 16) (s : State), looping s port = false) ∧
    (∃ (port : Fin 16) (s : State), looping s port = true) ∧
    (∃ (k : Fin 16) (seq : Nat) (p : List (BitVec 8)) (s : State), (followerFor s (parseData seq p).dist).isSome = true ∧ seq = s.obj (0x6040 + k) 3 ∧ rxUsed s + replayUsed s + frameBytesOf (parseData seq p).recs ≤ 2 ^ 21 ∧ (s.rx k).held = []) ∧
    (∃ (n : Nat) (seq : Nat) (s : State), s.mirror.lastAck = some n ∧ seq ≤ n) ∧
    (∃ (c : Nat) (n : Nat) (s : State) (u : State), s.obj (0x6040 + c) 2 < n ∧ s.mirror.waits = [] ∧ u = s.setObj (0x6040 + c) 2 n) :=
  ⟨⟨0, live, by decide +kernel⟩,
   ⟨0, (put [(0xB000, 5, 1)] { live with blk := { live.blk with st := .test, test := 6 } }), by decide +kernel⟩,
   ⟨0, _, [], (mirror0 2 .inSync live), by decide +kernel, rfl, by decide +kernel⟩,
   ⟨5, 5, { live with mirror := { live.mirror with lastAck := some 5 } }, by decide +kernel⟩,
   ⟨0, 1, live, _, by decide +kernel, by decide +kernel, rfl⟩⟩

theorem test_meets_MirrorTimers_1 :
    (∃ (stream : Fin 16) (g : Nat × Nat) (s : State), gapOf s stream = some g ∧ s.mirror.started = true) ∧
    (∃ (k : Fin 16) (s : State), cumAck s k ≠ s.obj (0x6040 + k) 4 ∧ s.mirror.started = true) ∧
    (∃ (s : State), s.mirror.started = true) ∧
    (∃ (stream : Fin 16) (d : Nat) (s : State), readyFrame s stream = true ∧ s.obj 0x6000 9 ≤ s.since (s.tx stream).since ∧ (s.chan stream).dist = some d) ∧
    (∃ (stream : Fin 16) (d : Nat) (s : State), (s.chan stream).dist = some d ∧ feeds s d = true ∧ (s.tx stream).open_ = [] ∧ s.obj 0x6000 8 ≤ (s.slotNow + slotMod - (s.tx stream).lastClose % slotMod) % slotMod) :=
  ⟨⟨0, (0, 1), (paired live).setRx 0 { RxStream.reset with held := [⟨1, 0, Stamp.zero, [], []⟩] }, by decide +kernel⟩,
   ⟨0, (put [(0x6040, 4, 9)] (paired live)), by decide +kernel⟩,
   ⟨paired live, by decide +kernel⟩,
   ⟨0, 0, ((at100 mem).setTx 0 { TxStream.reset with open_ := [⟨Stamp.zero, 1, false, false, 0, 0, 0, 0⟩] }), by decide +kernel⟩,
   ⟨0, 0, (at100 (mirror0 1 .inSync mem)), by decide +kernel⟩⟩

theorem test_meets_MirrorTimers_2 : ∃ (f : TxFrame) (rest : List TxFrame) (s : State) (v : State), s.mirror.replay = f :: rest ∧ 2 * s.obj 0x6000 5 ≤ s.since f.sent ∧ (v = s.unacked.foldl (fun t g => sendData g t) s) :=
  ⟨sent0, [], { at100 live with mirror := { live.mirror with replay := [sent0] } }, _, by decide +kernel, by decide +kernel, rfl⟩

theorem test_meets_RemoteRequests :
    (∃ (seq : Nat) (r : RemReq) (s : State), (s.mirror.reqs.find? (fun r => r.seq == seq) = some r) ∧ r.purpose ≠ 0) ∧
    (∃ (seq : Nat) (v : Serve) (s : State), (s.mirror.serving.find? (fun v => v.seq == seq) = some v) ∧ serveLate s v = true) ∧
    (∃ (seq : Nat) (r : RemReq) (s : State), (s.mirror.reqs.find? (fun r => r.seq == seq) = some r) ∧ r.purpose = 0 ∧ serialLe cycleMod ((40 * r.deadline + cycleMod - 80) % cycleMod) s.cycleNow = true) :=
  ⟨⟨3, ⟨3, 1, 0, 0, 1, Stamp.zero, 1, 0, 0⟩, { live with mirror := { live.mirror with reqs := [⟨3, 1, 0, 0, 1, Stamp.zero, 1, 0, 0⟩] } }, by decide +kernel⟩,
   ⟨3, ⟨3, 0, 0, 0, 1, Stamp.zero, 1, false, []⟩, { at100 live with mirror := { live.mirror with serving := [⟨3, 0, 0, 0, 1, Stamp.zero, 1, false, []⟩] } }, by decide +kernel⟩,
   ⟨3, ⟨3, 0, 0, 0, 1, Stamp.zero, 1, 0, 0⟩, { at100 live with mirror := { live.mirror with reqs := [⟨3, 0, 0, 0, 1, Stamp.zero, 1, 0, 0⟩] } }, by decide +kernel⟩⟩

theorem test_meets_MirrorStates :
    (∃ (d : Fin 4) (s : State), s.sup.squall = .idle ∧ s.obj 0x6000 6 ≠ 0 ∧ feeds s d = true ∧ allAcked s d = false) ∧
    (∃ (d : Fin 4) (s : State), (s.dist d).mst = .connecting ∧ (s.dist d).mismatch = true) ∧
    (∃ (d : Fin 4) (s : State), s.obj 0x6000 7 ≠ 0 ∧ s.role d = 2) ∧
    (∃ (d : Fin 4) (s : State) (v : State), v = applyHorizon d s) ∧
    (∃ (d : Fin 4) (s : State), (s.dist d).demoting = true ∧ allAcked s d = true ∧ (s.order.any (fun e => e.2.any (fun a => a.dist == d.val && !a.kind.isRead && !a.engine)) = false)) :=
  ⟨⟨0, { put [(0x6000, 6, 1)] (mirror0 1 .inSync live) with mirror := { live.mirror with replay := [sent0] } }, by decide +kernel⟩,
   ⟨0, ((mirror0 1 .connecting live).modDist 0 (fun d => { d with mismatch := true })), by decide +kernel⟩,
   ⟨0, (put [(0x6000, 7, 1)] (mirror0 2 .inSync live)), by decide +kernel⟩,
   ⟨0, live, _, rfl⟩,
   ⟨0, ((mirror0 1 .inSync mem).modDist 0 (fun d => { d with demoting := true })), by decide +kernel⟩⟩

theorem test_meets_EngineBursts_1 :
    (∃ (d : Fin 4) (page : Nat) (s : State), (s.dist d).st.serving = true ∧ (s.dist d).desc.mode ≠ 2 ∧ page < (s.dist d).desc.carve.pages ∧ sweepReady s ((s.dist d).desc.place (4096 * page) 0).1 1 32 = false) ∧
    (∃ (d : Fin 4) (page : Nat) (b : State × Option (BitVec 512)) (block : BitVec 512) (s : State), (s.dist d).st.serving = true ∧ (s.dist d).desc.mode ≠ 2 ∧ page < (s.dist d).desc.carve.pages ∧ sweepReady s ((s.dist d).desc.place (4096 * page) 0).1 1 32 = true ∧ b = needReplaced (.node true d 0 page) d s ∧ b.2 = some block ∧ cursorBusy (nodeCursor block) = true ∧ s.vault.rollActive = false) ∧
    (∃ (entry : Fin 256) (r : Repair) (w : State × Nat) (s : State) (v : State), r = s.repairAt entry ∧ r.state ≠ 0 ∧ r.kind ≠ 0 ∧ r.progress < repairLines r.kind ∧ v = (if r.state = 1 then s.setRepair entry { r with state := repairState s r.dist } else s) ∧ w = repairLines64 entry (r.firstLine + r.progress) (min 64 (repairLines r.kind - r.progress)) 0 true v ∧ r.progress + w.2 < repairLines r.kind ∧ (r.progress + w.2) / 4096 = r.progress / 4096 ∧ (w.1.repairAt entry).kind = r.kind) :=
  ⟨⟨0, 0, (memMac.modChan 0 (fun c => { c with gate := List.replicate 128 entry0 })), by decide +kernel⟩,
   ⟨0, 0, _, (BitVec.ofNat 512 (0x80 * 2 ^ 56)), { memMac with ledger := [(lineKey 0 (let x := desc0; let y := { x with mode := 1 }; (y.place (y.carve.nodeAddr 0 0 0) 0).2), ⟨(BitVec.ofNat 512 (0x80 * 2 ^ 56)), false, 0, 0, 0⟩)] }, by decide +kernel, by decide +kernel, by decide +kernel, by decide +kernel, rfl, by decide +kernel⟩,
   ⟨3, _, _, { mem with repair := [(3, ⟨0, 0, 3, 2, 0, false⟩)] }, _, rfl, by decide +kernel, by decide +kernel, by decide +kernel, rfl, rfl, by decide +kernel⟩⟩

theorem test_meets_EngineBursts_2 :
    (∃ (entry : Fin 256) (r : Repair) (w : State × Nat) (s : State) (v : State), r = s.repairAt entry ∧ r.state ≠ 0 ∧ r.kind ≠ 0 ∧ r.progress < repairLines r.kind ∧ v = (if r.state = 1 then s.setRepair entry { r with state := repairState s r.dist } else s) ∧ w = repairLines64 entry (r.firstLine + r.progress) (min 64 (repairLines r.kind - r.progress)) 0 true v ∧ repairLines r.kind ≤ r.progress + w.2) ∧
    (∃ (c : Fin 16) (s : State), s.obj 0x2F00 (0x10 + c) = 10 ∧ (s.chan c).st = .rebuilding ∧ (gateFits s c 64 && engineOpen s c 2) = false) ∧
    (∃ (c : Fin 16) (w : State × Nat) (s : State), s.obj 0x2F00 (0x10 + c) = 10 ∧ (s.chan c).st = .rebuilding ∧ (gateFits s c 64 && engineOpen s c 2) = true ∧ w = rebuildLines c (s.obj (0x6060 + c) 1) (min 64 (rebuildLast s c - s.obj (0x6060 + c) 1)) 0 true (noteBurst c 2 0 (rebuildLast s c) s) ∧ s.obj (0x6060 + c) 1 + w.2 < rebuildLast s c ∧ (s.obj (0x6060 + c) 1 + w.2) / 2 ^ 20 = s.obj (0x6060 + c) 1 / 2 ^ 20) :=
  ⟨⟨255, _, _, { mem with repair := [(255, ⟨0, 0, 1, 2, 0, false⟩)] }, _, rfl, by decide +kernel, by decide +kernel, by decide +kernel, rfl, rfl, by decide +kernel⟩,
   ⟨0, ((put [(0x2F00, 0x10, 10)] (chan0 .rebuilding mem)).modChan 0 (fun c => { c with gate := List.replicate 3072 entry0 })), by decide +kernel⟩,
   ⟨0, _, (put [(0x2F00, 0x10, 10)] (chan0 .rebuilding mem)), by decide +kernel, by decide +kernel, by decide +kernel, rfl, by decide +kernel⟩⟩

theorem test_meets_EngineBursts_3 :
    (∃ (d : Fin 4) (s : State) (v : State) (chans : List Nat), s.role d = 1 ∧ (s.dist d).mst = .resyncing ∧ (s.dist d).push = true ∧ (s.dist d).pull = [] ∧ 2 ^ 19 ≤ 2 ^ 21 - (replayUsed s + rxUsed s) ∧ recoveryRoom s 64 = true ∧ s.dataPages d ≠ 0 ∧ (chans = ((List.range 64).map (fun k => ((s.dist d).desc.place (4096 * ((s.dist d).pushPage % max 1 (s.dataPages d)) + 64 * k) 0).1)).eraseDups) ∧ (chans.all (fun c => sweepReady s c 2 (64 / max 1 chans.length)) = true) ∧ (v = resyncCount d ((List.range 64).foldl (fun t k => enterOrder (copyAccess t d (64 * ((s.dist d).pushPage % max 1 (s.dataPages d)) + k)) t) (recoverySpend 64 s)))) ∧
    (∃ (d : Fin 4) (r : PageRange) (rest : List PageRange) (s : State) (want : List Nat), (s.dist d).pull = r :: rest ∧ (s.dist d).mst = .resyncing ∧ (s.mirror.reqs.any (fun q => q.dist == d.val && q.purpose == 3) = false) ∧ recoveryRoom s 64 = true ∧ (want = (List.range 64).filter (fun k => !plazaKeeps s d (64 * r.first + k))) ∧ want = []) ∧
    (∃ (d : Fin 4) (r : PageRange) (rest : List PageRange) (s : State) (want : List Nat), (s.dist d).pull = r :: rest ∧ (s.dist d).mst = .resyncing ∧ (s.mirror.reqs.any (fun q => q.dist == d.val && q.purpose == 3) = false) ∧ recoveryRoom s 64 = true ∧ (want = (List.range 64).filter (fun k => !plazaKeeps s d (64 * r.first + k))) ∧ want ≠ []) :=
  ⟨⟨0, ((mirror0 1 .resyncing mem).modDist 0 (fun d => { d with push := true })), _, _, by decide +kernel, by decide +kernel, by decide +kernel, by decide +kernel, by decide +kernel, ⟨by decide +kernel, by decide +kernel, rfl, by decide +kernel, rfl⟩⟩,
   ⟨0, ⟨0, 1⟩, [], { ((mirror0 1 .resyncing mem).modDist 0 (fun d => { d with pull := [⟨0, 1⟩] })) with plaza := (List.range 64).map (fun k => (lineKey 0 (((mirror0 1 .resyncing mem).modDist 0 (fun d => { d with pull := [⟨0, 1⟩] })).dist 0 |>.desc.place (64 * k) 0).2, { line0 with dline := k })) }, _, by decide +kernel, by decide +kernel, by decide +kernel, by decide +kernel, rfl, rfl⟩,
   ⟨0, ⟨0, 1⟩, [], ((mirror0 1 .resyncing mem).modDist 0 (fun d => { d with pull := [⟨0, 1⟩] })), _, by decide +kernel, by decide +kernel, by decide +kernel, by decide +kernel, rfl, by decide +kernel⟩⟩

theorem test_meets_EngineBursts_4 : ∃ (d : Fin 4) (s : State), (s.dist d).st = .formatting :=
  ⟨0, (mem.modDist 0 (fun d => { d with st := .formatting })), by decide +kernel⟩

theorem test_meets_KeysTaken :
    (∃ (words : List (BitVec 32)) (s : State) (r : KeyRec), s.keys.portOpen = true ∧ s.keys.closed = false ∧ readKeyRec words = some r) ∧
    (∃ (words : List (BitVec 32)) (s : State), s.keys.portOpen = true ∧ s.keys.closed = false ∧ readKeyRec words = none ∧ s.keys.discards < 2) ∧
    (∃ (words : List (BitVec 32)) (s : State), s.keys.portOpen = true ∧ s.keys.closed = false ∧ readKeyRec words = none ∧ 2 ≤ s.keys.discards) ∧
    (∃ (s : State), s.keys.portOpen = true ∧ s.keys.closed = false) ∧
    (∃ (s : State), s.blk.st = .resetPhase ∧ s.blk.stage = 4 ∧ (s.chans.all (fun e => e.2.st != .training) = true)) :=
  ⟨⟨([16777221#32] ++ List.replicate 48 7 ++ [3228956447#32]), keyOpen 0 live, (let w : List (BitVec 32) := [0x01000005] ++ List.replicate 48 7; ⟨⟨5, keyAt w 1, keyAt w 9⟩, ⟨keyAt w 17, keyAt w 25, keyAt w 33, keyAt w 41⟩, none⟩), by decide +kernel⟩,
   ⟨[], keyOpen 1 live, by decide +kernel⟩,
   ⟨[], keyOpen 2 live, by decide +kernel⟩,
   ⟨keyOpen 0 live, by decide +kernel⟩,
   ⟨inStg .resetPhase 4 live, by decide +kernel⟩⟩

theorem test_meets_TrainingRuns_1 :
    (∃ (c : Fin 16) (r : SweepResult) (s : State) (u : State), (s.chan c).st = .training ∧ (s.chan c).quick = false ∧ s.obj (calIdx c) 1 = 2 ∧ (s.chan c).verified = none ∧ (s.chan c).fromFrozen = false ∧ multiRank s c = false ∧ u = (s.setObj (timIdx c) 0x20 (min 5000 r.gaps.1)).setObj (timIdx c) 0x21 (min 5000 r.gaps.2) ∧ 2 ≤ r.failStep) ∧
    (∃ (c : Fin 16) (s : State), (s.chan c).st = .training ∧ (s.chan c).quick = true) ∧
    (∃ (c : Fin 16) (s : State), (s.chan c).st = .training ∧ (s.chan c).quick = false ∧ (s.chan c).verified = some false) ∧
    (∃ (c : Fin 16) (s : State), (s.chan c).st = .training ∧ (s.chan c).quick = false ∧ (s.chan c).verified = some true ∧ (s.chan c).fromFrozen = false) ∧
    (∃ (c : Fin 16) (s : State), (s.chan c).st = .training ∧ (s.chan c).quick = false ∧ (s.chan c).verified = some true ∧ (s.chan c).fromFrozen = true) :=
  ⟨⟨0, ⟨3, [], [], [], false, [], (1200, 1300)⟩, (chan0 .training (put [(calIdx 0, 1, 2)] live)), _, by decide +kernel, by decide +kernel, by decide +kernel, by decide +kernel, by decide +kernel, ⟨by decide +kernel, rfl, by decide +kernel⟩⟩,
   ⟨0, ((chan0 .training live).modChan 0 (fun c => { c with quick := true })), by decide +kernel⟩,
   ⟨0, ((chan0 .training live).modChan 0 (fun c => { c with verified := some false, fromFrozen := false })), by decide +kernel⟩,
   ⟨0, ((chan0 .training live).modChan 0 (fun c => { c with verified := some true, fromFrozen := false })), by decide +kernel⟩,
   ⟨0, ((chan0 .training live).modChan 0 (fun c => { c with verified := some true, fromFrozen := true })), by decide +kernel⟩⟩

theorem test_meets_TrainingRuns_2 :
    (∃ (c : Fin 16) (r : SweepResult) (s : State) (u : State), (s.chan c).st = .training ∧ (s.chan c).quick = false ∧ s.obj (calIdx c) 1 = 2 ∧ (s.chan c).verified = none ∧ (s.chan c).fromFrozen = false ∧ multiRank s c = true ∧ u = sweepResult c (fallbackRate (calCause c 1 ((s.setObj (timIdx c) 0x20 5000).setObj (timIdx c) 0x21 5000)) c) 2 r (calCause c 1 ((s.setObj (timIdx c) 0x20 5000).setObj (timIdx c) 0x21 5000)) ∧ (u.chan c).verified = some true) ∧
    (∃ (c : Fin 16) (r : SweepResult) (s : State) (u : State), (s.chan c).st = .training ∧ (s.chan c).quick = false ∧ s.obj (calIdx c) 1 = 2 ∧ (s.chan c).verified = none ∧ (s.chan c).fromFrozen = false ∧ multiRank s c = true ∧ u = sweepResult c (fallbackRate (calCause c 1 ((s.setObj (timIdx c) 0x20 5000).setObj (timIdx c) 0x21 5000)) c) 2 r (calCause c 1 ((s.setObj (timIdx c) 0x20 5000).setObj (timIdx c) 0x21 5000)) ∧ (u.chan c).verified ≠ some true) ∧
    (∃ (c : Fin 16) (s : State), (s.chan c).st = .training ∧ s.obj (calIdx c) 1 = 1 ∧ (s.chan c).verified = none ∧ (s.chan c).fromFrozen = false) :=
  ⟨⟨0, sweep0, (chan0 .training (put [(calIdx 0, 1, 2), (0x7004, 6, 1100)] mem)), _, by decide +kernel, by decide +kernel, by decide +kernel, by decide +kernel, by decide +kernel, ⟨by decide +kernel, rfl, by unfold sweepResult; simp only [sweep0_read, sweep0_write]; decide +kernel⟩⟩,
   ⟨0, ⟨2, [], [], [], false, [], (1200, 1300)⟩, (chan0 .training (put [(calIdx 0, 1, 2)] mem)), _, by decide +kernel, by decide +kernel, by decide +kernel, by decide +kernel, by decide +kernel, ⟨by decide +kernel, rfl, by decide +kernel⟩⟩,
   ⟨0, (chan0 .training (put [(calIdx 0, 1, 1)] live)), by decide +kernel⟩⟩

theorem test_meets_TrainingRuns_3 :
    (∃ (c : Fin 16) (s : State), (s.chan c).st = .training ∧ s.obj (calIdx c) 1 = 1 ∧ (s.chan c).verified = none ∧ (s.chan c).fromFrozen = true) ∧
    (∃ (c : Fin 16) (op : Nat) (s : State), (s.chan c).helper = some op) :=
  ⟨⟨0, ((chan0 .training (put [(calIdx 0, 1, 1)] live)).modChan 0 (fun c => { c with fromFrozen := true })), by decide +kernel⟩,
   ⟨0, 1, (live.modChan 0 (fun c => { c with helper := some 1 })), by decide +kernel⟩⟩

theorem test_meets_CalibrationRuns :
    (∃ (c : Fin 16) (lane : Fin 10) (x : LaneScan) (s : State), calLive s c = true ∧ laneHeld s c lane = true ∧ (s.chan c).pstate = .active ∧ x.edges.length = 8 ∧ x.strobe.length = 2) ∧
    (∃ (c : Fin 16) (s : State), calLive s c = true ∧ isSwapSlot s c = true ∧ ((List.range 10).any (fun l => !((s.chan c).lane l).loaded.isEmpty && laneHeld s c l) = true) ∧ (s.chan c).lock = none ∧ ((s.chan c).subs.any (fun e => e.2.alert.isSome) = false) ∧ s.inRefresh c (s.refreshDoubled c) s.slotNow = false) ∧
    (∃ (c : Fin 16) (l : Fin 10) (s : State), ((s.chan c).lane l).loaded.isEmpty = false) ∧
    (∃ (c : Fin 16) (s : State), calLive s c = true ∧ 4 ≤ (calTemp s c - (s.chan c).applied).natAbs) ∧
    (∃ (c : Fin 16) (r : CalRun) (s : State), (s.chan c).run = some r ∧ calLive s c = true ∧ r.again = false ∧ (((List.range 10).filter (laneHeld s c)).all (fun l => ((s.chan c).lane l).scanned && ((s.chan c).lane l).loaded.isEmpty) = true)) :=
  ⟨⟨0, 0, ⟨List.replicate 8 (1, 1, 1, 1), [1, 1], []⟩, (put [(calIdx 0, 1, 3), (0x2F00, laneSub 0 0, 8)] mem), by decide +kernel⟩,
   ⟨0, ((put [(calIdx 0, 1, 3), (0x2F00, laneSub 0 0, 8), (chIdx 0x3040 0, 0x12, 0), (chIdx 0x3011 0, 1, 12)] mem).modChan 0 (fun c => c.setLane 0 { Lane.reset with loaded := [(0, 1)] })), by decide +kernel⟩,
   ⟨0, 9, (live.modChan 0 (fun c => c.setLane 9 { Lane.reset with loaded := [(0, 1)] })), by decide +kernel⟩,
   ⟨0, (put [(calIdx 0, 1, 3), (calIdx 0, 9, 4)] mem), by decide +kernel⟩,
   ⟨0, ⟨0, false⟩, ((put [(calIdx 0, 1, 3)] mem).modChan 0 (fun c => { c with run := some ⟨0, false⟩ })), by decide +kernel⟩⟩

theorem test_meets_WriteSideCalibration_1 :
    (∃ (c : Fin 16) (rs : Fin 8) (s : State), calLive s c = true ∧ (rankSlots s c).contains rs.val = true) ∧
    (∃ (c : Fin 16) (s : State) (w : State) (n : Nat), calLive s c = true ∧ s.obj 0x2F00 (0x10 + c) = 0 ∧ w = s.setObj 0x2F00 (0x10 + c) 4 ∧ n = retrainLines * (rankSlots w c).length ∧ sweepReady w c 3 16 = false) ∧
    (∃ (c : Fin 16) (centres : List Int) (s : State) (w : State) (u : State) (v : State) (n : Nat), calLive s c = true ∧ s.obj 0x2F00 (0x10 + c) = 0 ∧ w = s.setObj 0x2F00 (0x10 + c) 4 ∧ n = retrainLines * (rankSlots w c).length ∧ sweepReady w c 3 16 = true ∧ u = applyPending c (noteBurst c 3 n n w) ∧ (v = (newBase c (((rankSlots u c).zipIdx).foldl (fun t r => forN 20 t (fun k u => setTrims c (trimLoad (commonOff (k / 10) + 0xF8 + 10 * r.1 + k % 10) .s8 (trimAtOff u c (commonOff (k / 10) + 0xF8 + 10 * r.1 + k % 10) .s8 + centres.getD (20 * r.2 + k) 0)) u)) u)).addObj (calIdx c) 0x18 1)) ∧
    (∃ (c : Fin 16) (targets : List Int) (s : State) (r : State × Bool), calLive s c = true ∧ (r = forN 8 (s, false) (fun k x => let o := commonOff (k / 4) + k % 4; let v := trimAtOff x.1 c o .u8; let w := targets.getD k v; let n := if v < w then v + 1 else if w < v then v - 1 else v; if n < 0 || 63 < n then (x.1, true) else (setTrims c (trimLoad o .u8 n) x.1, x.2))) ∧ r.2 = false) ∧
    (∃ (c : Fin 16) (targets : List Int) (s : State) (r : State × Bool), calLive s c = true ∧ (r = forN 8 (s, false) (fun k x => let o := commonOff (k / 4) + k % 4; let v := trimAtOff x.1 c o .u8; let w := targets.getD k v; let n := if v < w then v + 1 else if w < v then v - 1 else v; if n < 0 || 63 < n then (x.1, true) else (setTrims c (trimLoad o .u8 n) x.1, x.2))) ∧ r.2 = true) :=
  ⟨⟨0, 3, (put [(calIdx 0, 1, 3)] mem), by decide +kernel⟩,
   ⟨0, ((put [(calIdx 0, 1, 3)] mem).modChan 0 (fun c => { c with gate := List.replicate 128 entry0 })), _, _, by decide +kernel, by decide +kernel, rfl, rfl, by decide +kernel⟩,
   ⟨0, [], (put [(calIdx 0, 1, 3)] mem), _, _, _, _, by decide +kernel, by decide +kernel, rfl, rfl, by decide +kernel, rfl, rfl⟩,
   ⟨0, [1, 0, 0, 0, 0, 0, 0, 0], (put [(calIdx 0, 1, 3)] mem), _, by decide +kernel, rfl, by decide +kernel⟩,
   ⟨0, [-5], (put [(calIdx 0, 1, 3)] mem), _, by decide +kernel, rfl, by decide +kernel⟩⟩

theorem test_meets_WriteSideCalibration_2 : ∃ (c : Fin 16) (lane : Fin 10) (s : State), s.obj 0x2F00 (laneSub c lane) = 9 ∧ s.obj (calIdx c) 1 = 3 :=
  ⟨0, 9, (put [(0x2F00, laneSub 0 9, 9), (calIdx 0, 1, 3)] live), by decide +kernel⟩

theorem test_meets_SuppliesSequence_1 :
    (∃ (i : Fin 6) (mv : Nat) (s : State) (u : State), s.sup.st = .good ∧ s.sup.firstLogged = true ∧ ((i = 0 → 5 * s.obj 0x7001 1 ≤ mv)) ∧ u = (recordSense i mv false false s).addObj (0x7001 + i) 9 1) ∧
    (∃ (mv : Nat) (s : State), inWindow s 1 mv = true ∧ s.sup.st = .rampVaa) ∧
    (∃ (mv : Nat) (s : State), inWindow s 2 mv = true ∧ s.sup.st = .rampVddp) ∧
    (∃ (mv : Nat) (s : State), inWindow s 3 mv = true ∧ s.sup.st = .rampVddq ∧ s.blk.st ≠ .sequencing) ∧
    (∃ (mv : Nat) (s : State), inWindow s 3 mv = true ∧ s.sup.st = .rampVddq ∧ s.blk.st = .sequencing) :=
  ⟨⟨0, 2000, { live with sup := { live.sup with st := .good, firstLogged := true } }, _, by decide +kernel, by decide +kernel, by decide +kernel, rfl⟩,
   ⟨(1140), (supply .rampVaa .idle (inBlk .running live)), by decide +kernel⟩,
   ⟨(840), (supply .rampVddp .idle (inBlk .running live)), by decide +kernel⟩,
   ⟨(1155), (supply .rampVddq .idle (inBlk .running live)), by decide +kernel⟩,
   ⟨(1155), (supply .rampVddq .idle (inBlk .sequencing live)), by decide +kernel⟩⟩

theorem test_meets_SuppliesSequence_2 :
    (∃ (s : State) (i : Nat), (((s.sup.st = .rampVaa ∧ i = 1) ∨ (s.sup.st = .rampVddp ∧ i = 2) ∨ (s.sup.st = .rampVddq ∧ i = 3)))) ∧
    (∃ (s : State), s.sup.st = .downVddq) ∧
    (∃ (s : State), s.sup.st = .downVddp) ∧
    (∃ (s : State), s.sup.st = .downVaa ∧ s.sup.squall ≠ .sequencing) ∧
    (∃ (s : State), s.sup.st = .downVaa ∧ s.sup.squall = .sequencing ∧ s.sup.returned = false) :=
  ⟨⟨(supply .rampVaa .idle (inBlk .running live)), 1, Or.inl ⟨by decide +kernel, rfl⟩⟩,
   ⟨(supply .downVddq .idle (inBlk .running live)), by decide +kernel⟩,
   ⟨(supply .downVddp .idle (inBlk .running live)), by decide +kernel⟩,
   ⟨(supply .downVaa .idle (inBlk .running live)), by decide +kernel⟩,
   ⟨(supply .downVaa .sequencing (inBlk .running live)), by decide +kernel⟩⟩

theorem test_meets_SuppliesSequence_3 :
    (∃ (s : State) (u : State) (rail : Fin 3), u = ((logFailure 3 (rail + 1) 0 s).setObjBit 0x7000 5 (rail + 1) true).raise 0x1E2 ∧ s.sup.st = .downVddp ∧ rail = 1) ∧
    (∃ (s : State) (u : State) (rail : Fin 3), u = ((logFailure 3 (rail + 1) 0 s).setObjBit 0x7000 5 (rail + 1) true).raise 0x1E2 ∧ s.sup.st = .downVaa ∧ rail = 0) ∧
    (∃ (s : State) (u : State) (rail : Fin 3), u = ((logFailure 3 (rail + 1) 0 s).setObjBit 0x7000 5 (rail + 1) true).raise 0x1E2 ∧ s.sup.st = .downVddq ∧ rail = 2) ∧
    (∃ (s : State) (u : State), u = { s with sup := { s.sup with vddpCut := true, enVddq := false } } ∧ s.sup.squall ≠ .draining) ∧
    (∃ (s : State) (u : State), u = { s with sup := { s.sup with vddpCut := true, enVddq := false } } ∧ s.sup.squall = .draining) :=
  ⟨⟨(supply .downVddp .idle (inBlk .running live)), _, 1, rfl, by decide +kernel⟩,
   ⟨(supply .downVaa .idle (inBlk .running live)), _, 0, rfl, by decide +kernel⟩,
   ⟨(supply .downVddq .idle (inBlk .running live)), _, 2, rfl, by decide +kernel⟩,
   ⟨live, _, rfl, by decide +kernel⟩,
   ⟨(supply .good .draining (inBlk .running live)), _, rfl, by decide +kernel⟩⟩

theorem test_meets_SuppliesSequence_4 :
    (∃ (mv : Nat) (s : State) (u : State), u = s.setObj 0x7006 6 mv ∧ mv ≤ s.obj 0x7010 0x0A ∧ s.obj 0x7010 4 ≠ 0 ∧ s.sup.squall = .draining ∧ s.sup.unlimited = false) ∧
    (∃ (mv : Nat) (s : State) (u : State), u = s.setObj 0x7006 6 mv ∧ mv ≤ s.obj 0x7010 0x0A ∧ s.obj 0x7010 4 ≠ 0 ∧ s.sup.squall = .holding) :=
  ⟨⟨500, (put [(0x7010, 0x0A, 600), (0x7010, 4, 1)] (supply .good .draining (inBlk .running live))), _, rfl, by decide +kernel⟩,
   ⟨600, (put [(0x7010, 0x0A, 600), (0x7010, 4, 1)] (supply .good .holding (inBlk .running live))), _, rfl, by decide +kernel⟩⟩

theorem test_meets_SquallRuns_1 :
    (∃ (s : State), s.sup.squall = .draining ∧ (drainStep s).sup.committed = [] ∧ writesUnderway (drainStep s) = false ∧ (((drainStep s).chans.all (fun e => e.2.lock.isNone)) = true)) ∧
    (∃ (s : State) (u : State), s.sup.squall = .committing ∧ u = { s with mram := writeWords s.sup.words s.mram, sup := { s.sup with squall := .selfRefresh, words := [] } }) ∧
    (∃ (s : State) (u : State), s.sup.squall = .selfRefresh ∧ u = (s.setSense 4 { (s.sense 4) with inWindow := true }).setObj 0x7005 7 1 ∧ s.obj 0x7010 2 = 4) ∧
    (∃ (vinIn : Bool) (s : State) (u : State), s.sup.squall = .selfRefresh ∧ u = (s.setSense 4 { (s.sense 4) with inWindow := true }).setObj 0x7005 7 1 ∧ s.obj 0x7010 2 = 1 ∧ vinIn = true) ∧
    (∃ (vinIn : Bool) (s : State) (u : State), s.sup.squall = .selfRefresh ∧ u = (s.setSense 4 { (s.sense 4) with inWindow := true }).setObj 0x7005 7 1 ∧ s.obj 0x7010 2 ≠ 4 ∧ ¬ (s.obj 0x7010 2 = 1 ∧ vinIn = true)) :=
  ⟨⟨(supply .good .draining (inBlk .running live)), by decide +kernel⟩,
   ⟨(supply .good .committing (inBlk .running live)), _, by decide +kernel, rfl⟩,
   ⟨(put [(0x7010, 2, 4)] (supply .good .selfRefresh (inBlk .running live))), _, by decide +kernel, rfl, by decide +kernel⟩,
   ⟨true, (put [(0x7010, 2, 1)] (supply .good .selfRefresh (inBlk .running live))), _, by decide +kernel, rfl, by decide +kernel⟩,
   ⟨false, (put [(0x7010, 2, 1)] (supply .good .selfRefresh (inBlk .running live))), _, by decide +kernel, rfl, by decide +kernel⟩⟩

theorem test_meets_SquallRuns_2 :
    (∃ (s : State) (u : State), u = (s.setSense 4 { (s.sense 4) with inWindow := true }).setObj 0x7005 7 1 ∧ s.sup.squall = .holding) ∧
    (∃ (s : State), s.sup.squall = .thawing ∧ ((∀ c < 16, trained s c = true → (s.chan c).st = .fenced ∨ (s.chan c).pstate = .active))) ∧
    (∃ (s : State), s.sup.squall = .sequencing) ∧
    (∃ (s : State), s.sup.squall = .awaitSave) ∧
    (∃ (b : Fin 32) (status : BitVec 8) (m : ModuleInfo) (s : State) (u : State), s.moduleAt b = some m ∧ m.energyBacked = true ∧ u = s.setObj (0x7100 + b) 8 status.toNat ∧ bit status.toNat 4 = true) :=
  ⟨⟨(supply .good .holding (inBlk .running live)), _, rfl, by decide +kernel⟩,
   ⟨(supply .good .thawing mem), by decide +kernel⟩,
   ⟨(supply .good .sequencing (inBlk .running live)), by decide +kernel⟩,
   ⟨(supply .good .awaitSave (inBlk .running live)), by decide +kernel⟩,
   ⟨31, 0x10, { module4 with energyBacked := true }, (live.modBay 31 (fun b => { b with module := some { module4 with energyBacked := true } })), _, by decide +kernel, by decide +kernel, rfl, by decide +kernel⟩⟩

theorem test_meets_SquallRuns_3 :
    (∃ (b : Fin 32) (status : BitVec 8) (m : ModuleInfo) (s : State) (u : State), s.moduleAt b = some m ∧ m.energyBacked = true ∧ u = s.setObj (0x7100 + b) 8 status.toNat ∧ bit status.toNat 4 = false ∧ bit status.toNat 1 = true ∧ bit status.toNat 3 = true) ∧
    (∃ (b : Fin 32) (status : BitVec 8) (m : ModuleInfo) (s : State) (u : State), s.moduleAt b = some m ∧ m.energyBacked = true ∧ u = s.setObj (0x7100 + b) 8 status.toNat ∧ bit status.toNat 4 = false ∧ ¬ (bit status.toNat 1 = true ∧ bit status.toNat 3 = true)) ∧
    (∃ (b : Fin 32) (s : State), s.blk.st = .resetPhase ∧ s.blk.stage = 3 ∧ s.sup.restored.contains b.val = false) :=
  ⟨⟨31, 0x0A, { module4 with energyBacked := true }, (live.modBay 31 (fun b => { b with module := some { module4 with energyBacked := true } })), _, by decide +kernel, by decide +kernel, rfl, by decide +kernel⟩,
   ⟨31, 0x02, { module4 with energyBacked := true }, (live.modBay 31 (fun b => { b with module := some { module4 with energyBacked := true } })), _, by decide +kernel, by decide +kernel, rfl, by decide +kernel⟩,
   ⟨31, inStg .resetPhase 3 live, by decide +kernel⟩⟩

theorem test_meets_BaysServed_1 :
    (∃ (v : BitVec 192) (s : State), s.blk.st ≠ .off ∧ ((List.range 32).all (fun b => bits (scanGroup v b) 5 4 == 2) = false) ∧ s.sup.chainBad ≠ 2) ∧
    (∃ (v : BitVec 192) (s : State) (u : State), s.blk.st ≠ .off ∧ ((List.range 32).all (fun b => bits (scanGroup v b) 5 4 == 2) = true) ∧ s.obj 0x7000 0x10 = 0 ∧ s.sup.chainGood < 2 ∧ (u = forN 32 (forN 32 { s with sup := { s.sup with chainBad := 0, chainGood := s.sup.chainGood + 1 } } (fun b t => t.modBay b (fun y => { y with inputs := scanGroup v b % 16 }))) (fun b t => bayInput b (baysHeld t) t))) ∧
    (∃ (b : Fin 32) (s : State), (((s.bay b).st = .inService ∨ (s.bay b).st = .fault)) ∧ removalOk s b = true) ∧
    (∃ (b : Fin 32) (s : State), (((s.bay b).st = .inService ∨ (s.bay b).st = .fault)) ∧ removalOk s b = false) ∧
    (∃ (b : Fin 32) (s : State), (s.bay b).st = .safeToRemove ∧ chainFault s = false ∧ baysHeld s = false ∧ s.obj 0x2F00 (busSub b) = 0) :=
  ⟨⟨0, live, by decide +kernel⟩,
   ⟨(4483644096704771974168421016576904582930253888902881794925#192), live, _, by decide +kernel, by decide +kernel, by decide +kernel, by decide +kernel, rfl⟩,
   ⟨0, (bay0 .inService (chan0 .fenced live)), by decide +kernel⟩,
   ⟨0, (bay0 .fault (chan0 .training live)), by decide +kernel⟩,
   ⟨0, (bay0 .safeToRemove live), by decide +kernel⟩⟩

theorem test_meets_BaysServed_2 :
    (∃ (b : Fin 32) (s : State), (s.bay b).st = .empty ∧ bit (s.bay b).inputs 3 = false ∧ bit (s.bay b).inputs 2 = false ∧ ((s.blk.st = .running ∨ s.blk.st = .recovery ∨ s.blk.st = .config ∨ s.blk.st = .test)) ∧ chainFault s = false ∧ baysHeld s = false ∧ s.obj 0x2F00 (busSub b) = 0) ∧
    (∃ (b : Fin 32) (m : ModuleInfo) (s : State) (u : State), (s.bay b).st = .discovering ∧ spdUsable m = true ∧ fitsDesc s b m = true ∧ ((∀ o, mate s b = some o → o.kind = m.kind)) ∧ m.powerGood = true ∧ (u = computeTiming (bayChan b) ((newModule b m (releaseOwn (busSub b) 11 s)).modBay b (fun y => { y with st := .training })))) ∧
    (∃ (b : Fin 32) (s : State), (s.bay b).st = .discovering ∧ bit (s.bay b).inputs 0 = false) ∧
    (∃ (b : Fin 32) (s : State), (s.bay b).st = .preparing ∧ bit (s.bay b).inputs 0 = true) ∧
    (∃ (b : Fin 32) (m : ModuleInfo) (s : State), s.moduleAt b = some m ∧ (s.bay b).polls ≠ 2) :=
  ⟨⟨0, live, by decide +kernel⟩,
   ⟨0, module4, ((bay0 .discovering live).modChan 0 (fun c => { c with dist := none })), _, by decide +kernel, by decide +kernel, by decide +kernel, by intro o h; have e : mate ((bay0 .discovering live).modChan 0 (fun c => { c with dist := none })) 0 = none := (by decide +kernel); exact absurd (e.symm.trans h) (by simp), by decide +kernel, rfl⟩,
   ⟨0, bay0 .discovering live, by decide +kernel⟩,
   ⟨0, (live.modBay 0 (fun b => { b with st := .preparing, inputs := 1 })), by decide +kernel⟩,
   ⟨0, module4, mem, by decide +kernel⟩⟩

theorem test_meets_BaysServed_3 : ∃ (b : Fin 32) (m : ModuleInfo) (s : State) (u : State), s.moduleAt b = some m ∧ (s.bay b).polls = 2 ∧ (u = s.modBay b (fun y => { y with polls := 3 })) :=
  ⟨0, module4, (mem.modBay 0 (fun b => { b with polls := 2 })), _, by decide +kernel, by decide +kernel, rfl⟩

theorem test_meets_StartStages :
    (∃ (s : State), s.blk.st = .off) ∧
    (∃ (s : State) (u : State), s.blk.st = .resetPhase ∧ s.blk.stage = 2 ∧ (u = readCeilings (readTables (forN 4 (readFailureLog (readVault s)) (fun d t => readDistrict d t))))) ∧
    (∃ (mods : List (Option ModuleInfo)) (s : State) (u : State) (v : State), s.blk.st = .resetPhase ∧ s.blk.stage = 3 ∧ (u = forN 32 s (fun b t => reportBay b (discoverBay mods b t))) ∧ (v = forN 32 (forN 4 (forN 16 u (fun c t => if (timedModules t c).isEmpty then t else computeTiming c t)) (fun d t => compareDistrict d t)) (fun b t => trustBay ((List.range 32).filter (fun b => (s.bay b).st == .fault)) b t))) ∧
    (∃ (s : State) (u : State), s.blk.st = .recovery ∧ s.blk.stage = 6 ∧ (u = endStage 6 (forN 4 (forN 4 s (fun d t => checkDistrict d t)) (fun d t => autoForm d t)))) ∧
    (∃ (s : State) (u : State), s.blk.st = .recovery ∧ s.blk.stage = 7 ∧ ((∀ d < 4, (s.dist d).mst ≠ .connecting)) ∧ (u = forN 16 (endStage 7 s) (fun c t => fenceUntrained c t))) :=
  ⟨⟨State.reset, by decide +kernel⟩,
   ⟨inStg .resetPhase 2 live, _, by decide +kernel, by decide +kernel, rfl⟩,
   ⟨[], inStg .resetPhase 3 live, _, _, by decide +kernel, by decide +kernel, rfl, rfl⟩,
   ⟨inStg .recovery 6 live, _, by decide +kernel, by decide +kernel, rfl⟩,
   ⟨inStg .recovery 7 live, _, by decide +kernel, by decide +kernel, by decide +kernel, rfl⟩⟩

/-! ### Ill-formed terms are refused -/

/-- Too many data units, a queue or store with no such unit, a frame of no bytes, a scan of seven bits. -/
theorem test_illFormed_requests :
    (Instr.write 0 1 0 false false (List.replicate 8 0)).WellFormed = false ∧ (Instr.packetReceived 0 []).WellFormed = false ∧
    (Instr.queuePointerMismatch 2 16 0).WellFormed = false ∧ (Instr.sramUncorrectable 0 16 0 false).WellFormed = false ∧
    (Instr.sramUncorrectable 3 96 0 false).WellFormed = false ∧ (Instr.data 0 []).WellFormed = false ∧
    (Instr.ack 0 []).WellFormed = false ∧ (Instr.remoteRequest 0 []).WellFormed = false ∧ (Instr.remoteResponse 0 []).WellFormed = false ∧
    (Instr.hello 0 []).WellFormed = false ∧ (Instr.reservedKindFrame 0 []).WellFormed = false ∧ (Instr.keyRecord []).WellFormed = false := by
  decide

/-- A sweep, a scan, a helper result, counts, centres, modules, findings or a map of the wrong size; a slot count out of range. -/
theorem test_illFormed_results :
    (Instr.hardwareSweep 0 { sweep0 with writeEyes := [] }).WellFormed = false ∧
    (Instr.rank0Fallback 0 { sweep0 with readEyes := [] }).WellFormed = false ∧
    (Instr.crossScanComplete 0 0 ⟨List.replicate 7 (0, 0, 0, 0), [0, 0], List.replicate 8 0⟩).WellFormed = false ∧
    (Instr.helperOpComplete 0 { responded := true, mrData := List.replicate 21 0, errors := [], captures := [] }).WellFormed = false ∧
    (Instr.writeTrack 0 0 4096 (List.replicate 19 0)).WellFormed = false ∧ (Instr.writeRetrain 0 [0]).WellFormed = false ∧
    (Instr.moduleDiscoveryDone []).WellFormed = false ∧ (Instr.testComplete (List.replicate 257 0)).WellFormed = false ∧
    (Instr.slotCountCorrected ⟨0, 192, 0⟩ ⟨0, 0, 0⟩ ⟨0, 0, 0⟩).WellFormed = false := by
  decide +kernel

/-! ### Worked examples of the spec -/

/-- The FADD8 example of file 02 (R46): 41 + 16 = 57, then 57 + 5 = 62, each answering the old value. -/
theorem test_fadd8 :
    (let a := atomicEffect 0x22 8 0 0x10 (BitVec.ofNat 512 (0x29 * 2 ^ 64))
     let b := atomicEffect 0x22 8 0 0x05 a.line
     (a.old.toNat, b.old.toNat, fieldOf b.line 8 8)) = (0x29, 0x39, 0x3E) := by decide +kernel

/-- A district of the stand-alone map at 16 TiB raw (the example of file 04): four channels, order B, Sealed. -/
def standAlone : Desc :=
  { width := 4, first := 4, order := 1, mode := 0, format := true, density := 2, ranks := 4, modules := 2, base := 2 ^ 42,
    span := 0x03FFFF000000, limit := 0x03818C600000, retired := [] }

/-- Its window (R97): granules, pages, levels, and where each region starts. -/
theorem test_window : (let c := standAlone.carve
    (c.q, c.pages, c.top, c.counterBase, c.macBase, (List.range 4).map (fun j => c.levelBase (j + 1)), c.levelSize 2)) =
    (14705432, 941147648, 4, 0x03818C600000, 0x038F92940000, [0x03FFC4200000, 0x03FFFC3C0000, 0x03FFFEE80000, 0x03FFFEF40000],
      0x00E40000) := by decide +kernel

/-- Where line 0x48D15 keeps its metadata (the example of file 08): counter block, MAC line, L1 node. -/
theorem test_metadata : (let c := standAlone.carve
    (c.nodeAddr 0 0x1234 0, c.macBase + 64 * (0x48D15 / 8), c.nodeAddr 1 0x48 0)) = (0x03818C648D00, 0x038F92B86880, 0x03FFC4201200) := by
  decide +kernel

/-- The pad input of that example: district 1, major 7, minor 3, block 2, epoch 1. -/
theorem test_padInput : padInput 0 1 7 3 2 1 0x48D15 = 0x1000000000000000E1C0004000048D15 := by decide +kernel

/-- Address 0x0123_4567 of that district is on channel 4, line 0x1_2355 (the examples of files 04 and 15). -/
theorem test_place : standAlone.place 0x01234567 0 = (4, 0x12355) := by decide +kernel

/-- The scrub interval of two 512 GiB modules at 24 h is 83 frames (the example of file 09). -/
theorem test_scrubInterval : scrubInterval (mem.modDist 0 (fun d => { d with desc := { standAlone with first := 0 } })) 0 = 83 := by
  decide +kernel

/-- Port 12 sits on local position 0 of (2,1) (the example of file 03). -/
theorem test_portAt : portAt 12 = some (xy 2 1, 0) := by decide

/-- CalSwapSlot of channel 5 is 21 at reset (the example of file 11). -/
theorem test_calSwapSlot : State.reset.obj (calIdx 5) 0x12 = 21 := by decide +kernel

/-- A received count two frames behind is 15 360 cycles behind (the example of file 01). -/
theorem test_behind : cyclesBetween ⟨7, 3, 2⟩ ⟨5, 3, 2⟩ = -15360 := by decide +kernel

/-- The READ of CurrentFrame at frame 0x12_3456 over the target (the example of file 15): what the private read brings. -/
theorem test_read_currentFrame :
    (match exec (.objectRead 1 ⟨0x2C, 0x1300, 0x02, 0, 8, 0, 0⟩)
        { live with cad := { live.cad with c0 := ⟨0x123456, 0, 0⟩, c1 := ⟨0x123456, 0, 0⟩, c2 := ⟨0x123456, 0, 0⟩ } } with
     | .next t => ((t.link 1).held.map (fun f => f.bytes.take 24))
     | _ => none) =
    some [0x81, 0x2C, 0x00, 0x13, 0x02, 0x00, 0x08, 0x00, 0, 0, 0, 0, 0, 0, 0, 0, 0x56, 0x34, 0x12, 0, 0, 0, 0, 0] := by decide +kernel

/-- A value out of range is refused with 0x07 and changes nothing (R39): a BBound of 0 ns. -/
theorem test_write_outOfRange :
    (match exec (.objectWrite 0 ⟨1, 0x2200, 2, 0, 4, 0, 0⟩ [0, 0, 0, 0]) live with
     | .next t => ((t.link 0).held.map (·.result), t.mgmt.staged)
     | _ => (none, [])) = (some 7, []) := by decide +kernel

end Sys2Proof.Machine.Tests
end

/-! PROOF. The scope of a step: every command answers a next state, changes nothing outside its row's frame, and leaves the
rest of the queue. -/

namespace Sys2Proof.Machine

/-! ### From a mask of `Keeps` to the frame of a list of parts -/

/-- The mask M has the bit of every part that the list leaves out. -/
def coversRest (M : Nat) (changed : List Part) : Bool := Part.all.all fun p => M.testBit p.bit || changed.contains p

theorem Part.mem_all (p : Part) : p ∈ Part.all := by cases p <;> decide

theorem testBit_of_coversRest {M : Nat} {changed : List Part} (hc : coversRest M changed = true) {p : Part} (hp : p ∉ changed) :
    M.testBit p.bit = true := by
  have h := List.all_eq_true.mp hc p p.mem_all
  simpa [hp] using h

theorem Keeps.frame_of_coversRest {M : Nat} {s t : State} {changed : List Part} (h : Keeps M s t)
    (hc : coversRest M changed = true) : Frame changed s t :=
  h.frame changed fun _ => testBit_of_coversRest hc

/-! ### What every row does -/

/-- Each row's meaning is one next state, so no row ends in a fault or a refusal: the model's choice (SPEC.md, log 20). -/
theorem exec_safe (i : Instr) (s : State) : Safe (exec i s) := by
  cases i <;> exact ⟨_, rfl⟩

/-- What each row keeps is the law of its own meaning, and the mask of that law covers every part that `changes` does not
give the row. With the parts it keeps the queue and the canonical form of the byte stores. -/
theorem exec_keeps {s t : State} : ∀ i : Instr, exec i s = .next t → ∃ M, Keeps M s t ∧ coversRest M (changes i) = true
  | .cadenceFrameReceived word, h => ⟨_, execCadenceFrameReceived_keeps word s h, rfl⟩
  | .cadenceAcquireTimeout, h => ⟨_, execCadenceAcquireTimeout_keeps s h, rfl⟩
  | .cadenceClockLoss, h => ⟨_, execCadenceClockLoss_keeps s h, rfl⟩
  | .slotBoundary phase, h => ⟨_, execSlotBoundary_keeps phase s h, rfl⟩
  | .frameBoundary tj, h => ⟨_, execFrameBoundary_keeps tj s h, rfl⟩
  | .lastFrameCheckpoint, h => ⟨_, execLastFrameCheckpoint_keeps s h, rfl⟩
  | .classChangeEffect port, h => ⟨_, execClassChangeEffect_keeps port s h, rfl⟩
  | .packetReceived port units, h => ⟨_, execPacketReceived_keeps port units s h, rfl⟩
  | .requestAdmission port, h => ⟨_, execRequestAdmission_keeps port s h, rfl⟩
  | .read port tag addr len lock, h => ⟨_, execRead_keeps port tag addr len lock s h, rfl⟩
  | .readRaw port tag addr len lock, h => ⟨_, execReadRaw_keeps port tag addr len lock s h, rfl⟩
  | .write port tag addr twin lock data, h => ⟨_, execWrite_keeps port tag addr twin lock data s h, rfl⟩
  | .writeMasked port tag addr mask twin lock data, h => ⟨_, execWriteMasked_keeps port tag addr mask twin lock data s h, rfl⟩
  | .cas8 port tag addr compare swap twin, h => ⟨_, execCas8_keeps port tag addr compare swap twin s h, rfl⟩
  | .cas16 port tag addr compare swap twin, h => ⟨_, execCas16_keeps port tag addr compare swap twin s h, rfl⟩
  | .fadd8 port tag addr addend twin, h => ⟨_, execFadd8_keeps port tag addr addend twin s h, rfl⟩
  | .swap8 port tag addr value twin, h => ⟨_, execSwap8_keeps port tag addr value twin s h, rfl⟩
  | .fenceTwin port tag, h => ⟨_, execFenceTwin_keeps port tag s h, rfl⟩
  | .lockMemberTimeout port, h => ⟨_, execLockMemberTimeout_keeps port s h, rfl⟩
  | .tagDeadline port, h => ⟨_, execTagDeadline_keeps port s h, rfl⟩
  | .twinDurableDeadline port tag, h => ⟨_, execTwinDurableDeadline_keeps port tag s h, rfl⟩
  | .responseEgress port, h => ⟨_, execResponseEgress_keeps port s h, rfl⟩
  | .lateResponseDrop port tag, h => ⟨_, execLateResponseDrop_keeps port tag s h, rfl⟩
  | .egressCredit port, h => ⟨_, execEgressCredit_keeps port s h, rfl⟩
  | .queuePointerMismatch queue unit which, h => ⟨_, execQueuePointerMismatch_keeps queue unit which s h, rfl⟩
  | .outputArbitration x out, h => ⟨_, execOutputArbitration_keeps x out s h, rfl⟩
  | .linkCrcFail x input, h => ⟨_, execLinkCrcFail_keeps x input s h, rfl⟩
  | .linkRetry x input pass, h => ⟨_, execLinkRetry_keeps x input pass s h, rfl⟩
  | .slotTableSwap, h => ⟨_, execSlotTableSwap_keeps s h, rfl⟩
  | .calendarSwap, h => ⟨_, execCalendarSwap_keeps s h, rfl⟩
  | .creditQueueResize x queue, h => ⟨_, execCreditQueueResize_keeps x queue s h, rfl⟩
  | .creditChangeTimeout vnet, h => ⟨_, execCreditChangeTimeout_keeps vnet s h, rfl⟩
  | .formatComplete d, h => ⟨_, execFormatComplete_keeps d s h, rfl⟩
  | .positionGrant c, h => ⟨_, execPositionGrant_keeps c s h, rfl⟩
  | .entryGuarded c, h => ⟨_, execEntryGuarded_keeps c s h, rfl⟩
  | .gateWindowClose c, h => ⟨_, execGateWindowClose_keeps c s h, rfl⟩
  | .refreshPlacement c bank set mr4 twice, h => ⟨_, execRefreshPlacement_keeps c bank set mr4 twice s h, rfl⟩
  | .rfmForced c sub rankSlot bank, h => ⟨_, execRfmForced_keeps c sub rankSlot bank s h, rfl⟩
  | .refreshDoubleExit c, h => ⟨_, execRefreshDoubleExit_keeps c s h, rfl⟩
  | .sensorReadingTimeout c, h => ⟨_, execSensorReadingTimeout_keeps c s h, rfl⟩
  | .rowIdleTimeout c sub rankSlot bank, h => ⟨_, execRowIdleTimeout_keeps c sub rankSlot bank s h, rfl⟩
  | .alertEpisodeStart c sub, h => ⟨_, execAlertEpisodeStart_keeps c sub s h, rfl⟩
  | .alertReleased c sub, h => ⟨_, execAlertReleased_keeps c sub s h, rfl⟩
  | .alertStuckTimeout c sub, h => ⟨_, execAlertStuckTimeout_keeps c sub s h, rfl⟩
  | .alertEpisodeEnd c sub, h => ⟨_, execAlertEpisodeEnd_keeps c sub s h, rfl⟩
  | .powerStateExit c, h => ⟨_, execPowerStateExit_keeps c s h, rfl⟩
  | .powerExitComplete c, h => ⟨_, execPowerExitComplete_keeps c s h, rfl⟩
  | .sramUncorrectable store unit line both, h => ⟨_, execSramUncorrectable_keeps store unit line both s h, rfl⟩
  | .sliceArrival c port tag, h => ⟨_, execSliceArrival_keeps c port tag s h, rfl⟩
  | .horizonAdvance c, h => ⟨_, execHorizonAdvance_keeps c s h, rfl⟩
  | .fillComplete c line, h => ⟨_, execFillComplete_keeps c line s h, rfl⟩
  | .writebackComplete c line, h => ⟨_, execWritebackComplete_keeps c line s h, rfl⟩
  | .dirtyAgeExpiry c line, h => ⟨_, execDirtyAgeExpiry_keeps c line s h, rfl⟩
  | .ledgerDirtyAge c line, h => ⟨_, execLedgerDirtyAge_keeps c line s h, rfl⟩
  | .claimResource link tag sub, h => ⟨_, execClaimResource_keeps link tag sub s h, rfl⟩
  | .releaseClaim link tag sub, h => ⟨_, execReleaseClaim_keeps link tag sub s h, rfl⟩
  | .keyRecord words, h => ⟨_, execKeyRecord_keeps words s h, rfl⟩
  | .keyIntakeTimeout, h => ⟨_, execKeyIntakeTimeout_keeps s h, rfl⟩
  | .keyAdopt link tag, h => ⟨_, execKeyAdopt_keeps link tag s h, rfl⟩
  | .migrationBurst d page, h => ⟨_, execMigrationBurst_keeps d page s h, rfl⟩
  | .deviceErrorLeak c, h => ⟨_, execDeviceErrorLeak_keeps c s h, rfl⟩
  | .erasedDeviceWrite link tag c entry value, h => ⟨_, execErasedDeviceWrite_keeps link tag c entry value s h, rfl⟩
  | .scrubRun c, h => ⟨_, execScrubRun_keeps c s h, rfl⟩
  | .freezeRequest link tag c, h => ⟨_, execFreezeRequest_keeps link tag c s h, rfl⟩
  | .resume link tag c, h => ⟨_, execResume_keeps link tag c s h, rfl⟩
  | .retrainResume link tag c, h => ⟨_, execRetrainResume_keeps link tag c s h, rfl⟩
  | .retireRank link tag c, h => ⟨_, execRetireRank_keeps link tag c s h, rfl⟩
  | .remoteAnswerTimeout seq, h => ⟨_, execRemoteAnswerTimeout_keeps seq s h, rfl⟩
  | .repairBurst entry, h => ⟨_, execRepairBurst_keeps entry s h, rfl⟩
  | .frameCloseTimeout stream, h => ⟨_, execFrameCloseTimeout_keeps stream s h, rfl⟩
  | .heartbeat stream, h => ⟨_, execHeartbeat_keeps stream s h, rfl⟩
  | .data port bytes, h => ⟨_, execData_keeps port bytes s h, rfl⟩
  | .ack port bytes, h => ⟨_, execAck_keeps port bytes s h, rfl⟩
  | .remoteRequest port bytes, h => ⟨_, execRemoteRequest_keeps port bytes s h, rfl⟩
  | .remoteResponse port bytes, h => ⟨_, execRemoteResponse_keeps port bytes s h, rfl⟩
  | .hello port bytes, h => ⟨_, execHello_keeps port bytes s h, rfl⟩
  | .nakDelay stream, h => ⟨_, execNakDelay_keeps stream s h, rfl⟩
  | .ackInterval, h => ⟨_, execAckInterval_keeps s h, rfl⟩
  | .helloInterval, h => ⟨_, execHelloInterval_keeps s h, rfl⟩
  | .replayTimeout, h => ⟨_, execReplayTimeout_keeps s h, rfl⟩
  | .remoteRequestResend seq, h => ⟨_, execRemoteRequestResend_keeps seq s h, rfl⟩
  | .remoteServiceExpiry seq, h => ⟨_, execRemoteServiceExpiry_keeps seq s h, rfl⟩
  | .pathSilentTimeout port, h => ⟨_, execPathSilentTimeout_keeps port s h, rfl⟩
  | .breakTimeout d, h => ⟨_, execBreakTimeout_keeps d s h, rfl⟩
  | .pairingTimeout d, h => ⟨_, execPairingTimeout_keeps d s h, rfl⟩
  | .twinSilent d, h => ⟨_, execTwinSilent_keeps d s h, rfl⟩
  | .applyHorizonAdvance d, h => ⟨_, execApplyHorizonAdvance_keeps d s h, rfl⟩
  | .promote link tag d, h => ⟨_, execPromote_keeps link tag d s h, rfl⟩
  | .demote link tag d, h => ⟨_, execDemote_keeps link tag d s h, rfl⟩
  | .demoteComplete d, h => ⟨_, execDemoteComplete_keeps d s h, rfl⟩
  | .mirrorBreak link tag d, h => ⟨_, execMirrorBreak_keeps link tag d s h, rfl⟩
  | .fullPush link tag d, h => ⟨_, execFullPush_keeps link tag d s h, rfl⟩
  | .resyncPushBurst d, h => ⟨_, execResyncPushBurst_keeps d s h, rfl⟩
  | .resyncPullBurst d, h => ⟨_, execResyncPullBurst_keeps d s h, rfl⟩
  | .rebuildBurst c, h => ⟨_, execRebuildBurst_keeps c s h, rfl⟩
  | .hardwareSweep c r, h => ⟨_, execHardwareSweep_keeps c r s h, rfl⟩
  | .trainingComplete c verified, h => ⟨_, execTrainingComplete_keeps c verified s h, rfl⟩
  | .rank0Fallback c r, h => ⟨_, execRank0Fallback_keeps c r s h, rfl⟩
  | .trainingDone link tag c verified, h => ⟨_, execTrainingDone_keeps link tag c verified s h, rfl⟩
  | .firmwareTrainTimeout c, h => ⟨_, execFirmwareTrainTimeout_keeps c s h, rfl⟩
  | .trainRequest link tag c, h => ⟨_, execTrainRequest_keeps link tag c s h, rfl⟩
  | .mrr link tag c, h => ⟨_, execMrr_keeps link tag c s h, rfl⟩
  | .mrw link tag c owned, h => ⟨_, execMrw_keeps link tag c owned s h, rfl⟩
  | .mpc link tag c owned, h => ⟨_, execMpc_keeps link tag c owned s h, rfl⟩
  | .controlWordWrite link tag c owned, h => ⟨_, execControlWordWrite_keeps link tag c owned s h, rfl⟩
  | .readSweep link tag c, h => ⟨_, execReadSweep_keeps link tag c s h, rfl⟩
  | .writeReadSweep link tag c, h => ⟨_, execWriteReadSweep_keeps link tag c s h, rfl⟩
  | .writePattern link tag c, h => ⟨_, execWritePattern_keeps link tag c s h, rfl⟩
  | .levelingSweep link tag c, h => ⟨_, execLevelingSweep_keeps link tag c s h, rfl⟩
  | .enableSweep link tag c, h => ⟨_, execEnableSweep_keeps link tag c s h, rfl⟩
  | .helperOpComplete c r, h => ⟨_, execHelperOpComplete_keeps c r s h, rfl⟩
  | .crossScanComplete c lane scan, h => ⟨_, execCrossScanComplete_keeps c lane scan s h, rfl⟩
  | .calibrationSwap c, h => ⟨_, execCalibrationSwap_keeps c s h, rfl⟩
  | .tempBaselineAdjust c, h => ⟨_, execTempBaselineAdjust_keeps c s h, rfl⟩
  | .calRunRequest link tag c, h => ⟨_, execCalRunRequest_keeps link tag c s h, rfl⟩
  | .measurementRunEnd c, h => ⟨_, execMeasurementRunEnd_keeps c s h, rfl⟩
  | .writeTrack c rankSlot runtime counts, h => ⟨_, execWriteTrack_keeps c rankSlot runtime counts s h, rfl⟩
  | .writeRetrain c centres, h => ⟨_, execWriteRetrain_keeps c centres s h, rfl⟩
  | .refCalibration c targets, h => ⟨_, execRefCalibration_keeps c targets s h, rfl⟩
  | .eyeScanRequest link tag c value, h => ⟨_, execEyeScanRequest_keeps link tag c value s h, rfl⟩
  | .senseExcursion input mv, h => ⟨_, execSenseExcursion_keeps input mv s h, rfl⟩
  | .senseQualified input mv, h => ⟨_, execSenseQualified_keeps input mv s h, rfl⟩
  | .rampTimeout, h => ⟨_, execRampTimeout_keeps s h, rfl⟩
  | .railDischarged rail, h => ⟨_, execRailDischarged_keeps rail s h, rfl⟩
  | .dischargeTimeout rail, h => ⟨_, execDischargeTimeout_keeps rail s h, rfl⟩
  | .supplyRetry link tag, h => ⟨_, execSupplyRetry_keeps link tag s h, rfl⟩
  | .vddpLowCutoff, h => ⟨_, execVddpLowCutoff_keeps s h, rfl⟩
  | .collapse, h => ⟨_, execCollapse_keeps s h, rfl⟩
  | .holdHardStop mv, h => ⟨_, execHoldHardStop_keeps mv s h, rfl⟩
  | .drainComplete, h => ⟨_, execDrainComplete_keeps s h, rfl⟩
  | .rootCommitComplete, h => ⟨_, execRootCommitComplete_keeps s h, rfl⟩
  | .squallSelfRefreshDone vinIn, h => ⟨_, execSquallSelfRefreshDone_keeps vinIn s h, rfl⟩
  | .thawQualify, h => ⟨_, execThawQualify_keeps s h, rfl⟩
  | .thawComplete, h => ⟨_, execThawComplete_keeps s h, rfl⟩
  | .saveComplete bays, h => ⟨_, execSaveComplete_keeps bays s h, rfl⟩
  | .saveCompleteTimeout, h => ⟨_, execSaveCompleteTimeout_keeps s h, rfl⟩
  | .bayChainScan bits, h => ⟨_, execBayChainScan_keeps bits s h, rfl⟩
  | .buttonPress b, h => ⟨_, execButtonPress_keeps b s h, rfl⟩
  | .insertion b, h => ⟨_, execInsertion_keeps b s h, rfl⟩
  | .discoveryComplete b m, h => ⟨_, execDiscoveryComplete_keeps b m s h, rfl⟩
  | .pmicOnTimeout b, h => ⟨_, execPmicOnTimeout_keeps b s h, rfl⟩
  | .pmicOffTimeout b, h => ⟨_, execPmicOffTimeout_keeps b s h, rfl⟩
  | .startRemoval link tag b, h => ⟨_, execStartRemoval_keeps link tag b s h, rfl⟩
  | .allowRemoval link tag b, h => ⟨_, execAllowRemoval_keeps link tag b s h, rfl⟩
  | .ledTest link tag b, h => ⟨_, execLedTest_keeps link tag b s h, rfl⟩
  | .ledTestExpiry b, h => ⟨_, execLedTestExpiry_keeps b s h, rfl⟩
  | .sidebandTempPoll b reading, h => ⟨_, execSidebandTempPoll_keeps b reading s h, rfl⟩
  | .restoreComplete b status, h => ⟨_, execRestoreComplete_keeps b status s h, rfl⟩
  | .restoreTimeout b, h => ⟨_, execRestoreTimeout_keeps b s h, rfl⟩
  | .eventPendingClear link tag n, h => ⟨_, execEventPendingClear_keeps link tag n s h, rfl⟩
  | .ibiSent, h => ⟨_, execIbiSent_keeps s h, rfl⟩
  | .eventQueueRead link tag, h => ⟨_, execEventQueueRead_keeps link tag s h, rfl⟩
  | .eventQueueMark link tag, h => ⟨_, execEventQueueMark_keeps link tag s h, rfl⟩
  | .eventQueueRewind link tag, h => ⟨_, execEventQueueRewind_keeps link tag s h, rfl⟩
  | .eventQueueRelease link tag, h => ⟨_, execEventQueueRelease_keeps link tag s h, rfl⟩
  | .eventLogClear link tag, h => ⟨_, execEventLogClear_keeps link tag s h, rfl⟩
  | .snapshotArm link tag frame, h => ⟨_, execSnapshotArm_keeps link tag frame s h, rfl⟩
  | .sampleRelease link tag index, h => ⟨_, execSampleRelease_keeps link tag index s h, rfl⟩
  | .entdaa addr twinPid, h => ⟨_, execEntdaa_keeps addr twinPid s h, rfl⟩
  | .rstdaa, h => ⟨_, execRstdaa_keeps s h, rfl⟩
  | .setnewda addr, h => ⟨_, execSetnewda_keeps addr s h, rfl⟩
  | .enec bits, h => ⟨_, execEnec_keeps bits s h, rfl⟩
  | .disec bits, h => ⟨_, execDisec_keeps bits s h, rfl⟩
  | .getpid, h => ⟨_, execGetpid_keeps s h, rfl⟩
  | .getbcr, h => ⟨_, execGetbcr_keeps s h, rfl⟩
  | .getdcr, h => ⟨_, execGetdcr_keeps s h, rfl⟩
  | .getstatus, h => ⟨_, execGetstatus_keeps s h, rfl⟩
  | .setmwl len, h => ⟨_, execSetmwl_keeps len s h, rfl⟩
  | .setmrl len, h => ⟨_, execSetmrl_keeps len s h, rfl⟩
  | .getmwl, h => ⟨_, execGetmwl_keeps s h, rfl⟩
  | .getmrl, h => ⟨_, execGetmrl_keeps s h, rfl⟩
  | .getcaps, h => ⟨_, execGetcaps_keeps s h, rfl⟩
  | .enthdr0, h => ⟨_, execEnthdr0_keeps s h, rfl⟩
  | .i3cPrivateRead, h => ⟨_, execI3cPrivateRead_keeps s h, rfl⟩
  | .windowDoorbell value, h => ⟨_, execWindowDoorbell_keeps value s h, rfl⟩
  | .objectRead link hdr, h => ⟨_, execObjectRead_keeps link hdr s h, rfl⟩
  | .objectWrite link hdr bytes, h => ⟨_, execObjectWrite_keeps link hdr bytes s h, rfl⟩
  | .readBlock link hdr, h => ⟨_, execReadBlock_keeps link hdr s h, rfl⟩
  | .writeBlock link hdr bytes, h => ⟨_, execWriteBlock_keeps link hdr bytes s h, rfl⟩
  | .commit link hdr bytes, h => ⟨_, execCommit_keeps link hdr bytes s h, rfl⟩
  | .abort link hdr, h => ⟨_, execAbort_keeps link hdr s h, rfl⟩
  | .store link hdr, h => ⟨_, execStore_keeps link hdr s h, rfl⟩
  | .restore link hdr bytes, h => ⟨_, execRestore_keeps link hdr bytes s h, rfl⟩
  | .stagingIdleTimeout, h => ⟨_, execStagingIdleTimeout_keeps s h, rfl⟩
  | .linkRightsConfig link tag value, h => ⟨_, execLinkRightsConfig_keeps link tag value s h, rfl⟩
  | .profileLock link tag port, h => ⟨_, execProfileLock_keeps link tag port s h, rfl⟩
  | .enterConfig link tag, h => ⟨_, execEnterConfig_keeps link tag s h, rfl⟩
  | .leaveConfig link tag, h => ⟨_, execLeaveConfig_keeps link tag s h, rfl⟩
  | .blockReset link tag, h => ⟨_, execBlockReset_keeps link tag s h, rfl⟩
  | .testReset link tag, h => ⟨_, execTestReset_keeps link tag s h, rfl⟩
  | .enterTest link tag, h => ⟨_, execEnterTest_keeps link tag s h, rfl⟩
  | .memGo link tag, h => ⟨_, execMemGo_keeps link tag s h, rfl⟩
  | .translateAddress link tag addr, h => ⟨_, execTranslateAddress_keeps link tag addr s h, rfl⟩
  | .powerOnReset straps, h => ⟨_, execPowerOnReset_keeps straps s h, rfl⟩
  | .refclkPllLock, h => ⟨_, execRefclkPllLock_keeps s h, rfl⟩
  | .mramRead, h => ⟨_, execMramRead_keeps s h, rfl⟩
  | .moduleDiscoveryDone mods, h => ⟨_, execModuleDiscoveryDone_keeps mods s h, rfl⟩
  | .trainingStageEnd, h => ⟨_, execTrainingStageEnd_keeps s h, rfl⟩
  | .metadataCheck, h => ⟨_, execMetadataCheck_keeps s h, rfl⟩
  | .mirrorStartEnd, h => ⟨_, execMirrorStartEnd_keeps s h, rfl⟩
  | .bypass, h => ⟨_, execBypass_keeps s h, rfl⟩
  | .samplePreload, h => ⟨_, execSamplePreload_keeps s h, rfl⟩
  | .extest drivesDram, h => ⟨_, execExtest_keeps drivesDram s h, rfl⟩
  | .ddrConnectivity link tag, h => ⟨_, execDdrConnectivity_keeps link tag s h, rfl⟩
  | .sramBist link tag, h => ⟨_, execSramBist_keeps link tag s h, rfl⟩
  | .mramReadCheck link tag, h => ⟨_, execMramReadCheck_keeps link tag s h, rfl⟩
  | .mramBist link tag, h => ⟨_, execMramBist_keeps link tag s h, rfl⟩
  | .mirrorLoopInternal link tag, h => ⟨_, execMirrorLoopInternal_keeps link tag s h, rfl⟩
  | .mirrorLoopExternal link tag, h => ⟨_, execMirrorLoopExternal_keeps link tag s h, rfl⟩
  | .testComplete findings, h => ⟨_, execTestComplete_keeps findings s h, rfl⟩
  | .injectEcc link tag, h => ⟨_, execInjectEcc_keeps link tag s h, rfl⟩
  | .injectMac link tag, h => ⟨_, execInjectMac_keeps link tag s h, rfl⟩
  | .injectPointer link tag, h => ⟨_, execInjectPointer_keeps link tag s h, rfl⟩
  | .injectCrossingLink link tag, h => ⟨_, execInjectCrossingLink_keeps link tag s h, rfl⟩
  | .injectMirrorFrame link tag, h => ⟨_, execInjectMirrorFrame_keeps link tag s h, rfl⟩
  | .injectDisarm link tag, h => ⟨_, execInjectDisarm_keeps link tag s h, rfl⟩
  | .slotCountCorrected a b c, h => ⟨_, execSlotCountCorrected_keeps a b c s h, rfl⟩
  | .ingressOverrun port, h => ⟨_, execIngressOverrun_keeps port s h, rfl⟩
  | .sramCorrected store, h => ⟨_, execSramCorrected_keeps store s h, rfl⟩
  | .eyeScanComplete c lane map, h => ⟨_, execEyeScanComplete_keeps c lane map s h, rfl⟩
  | .refusedPressBlinkEnd b, h => ⟨_, execRefusedPressBlinkEnd_keeps b s h, rfl⟩
  | .hdrExit, h => ⟨_, execHdrExit_keeps s h, rfl⟩
  | .frameCrcError link fault hdr, h => ⟨_, execFrameCrcError_keeps link fault hdr s h, rfl⟩
  | .badOpcode link opcode hdr, h => ⟨_, execBadOpcode_keeps link opcode hdr s h, rfl⟩
  | .windowBufferWrite offset bytes, h => ⟨_, execWindowBufferWrite_keeps offset bytes s h, rfl⟩
  | .reservedKindFrame port bytes, h => ⟨_, execReservedKindFrame_keeps port bytes s h, rfl⟩

theorem exec_frame {i : Instr} {s t : State} (h : exec i s = .next t) : Frame (changes i) s t := by
  obtain ⟨M, hk, hc⟩ := exec_keeps i h
  exact hk.frame_of_coversRest hc

/-! ### What a step does -/

theorem step_cons {c : Instr} {q : List Instr} {s : State} (h : s.pending = c :: q) :
    step s = exec c { s with pending := q } := by
  simp only [step, h]

theorem step_nil {s : State} (h : s.pending = []) : step s = .next (tick s) := by
  simp only [step, h]

/-! ### The obligations -/

/-- Settles O1: the two cases of a step. -/
theorem stepRunsFront : Obligations.StepRunsFront :=
  ⟨fun _ _ _ => step_cons, fun _ => step_nil⟩

/-- Settles O5: the law of each row's meaning keeps every part that the map does not name. -/
theorem effectsConfined : Obligations.EffectsConfined :=
  fun _ _ _ => exec_frame

/-- Settles O4: the front command answers a next state and keeps the queue it runs on, which is the rest; the idle core
cycle keeps the empty queue. -/
theorem everyStepGoesOn : Obligations.EveryStepGoesOn := by
  intro s
  cases hq : s.pending with
  | nil => exact ⟨tick s, step_nil hq, (tick_keeps s).pending.trans hq⟩
  | cons c q =>
    obtain ⟨t, ht⟩ := exec_safe c { s with pending := q }
    obtain ⟨hqueue, -⟩ := exec_frame ht
    exact ⟨t, (step_cons hq).trans ht, hqueue⟩

/-- Settles O60: each row goes on (`exec_safe`), and within its frame (`exec_frame`). -/
theorem everyCommandCompletes : Obligations.EveryCommandCompletes := by
  intro i s
  obtain ⟨t, ht⟩ := exec_safe i s
  exact ⟨t, ht, exec_frame ht⟩

end Sys2Proof.Machine

/-! PROOF. The order of frame numbers and stamps (R8, R16), and the vote of the slot count (R9). -/

namespace Sys2Proof.Machine

/-! ### The order of frame numbers and of stamps (R8, R16) -/

/-- R8 on frame numbers below 2^48, with d the distance from a to b. -/
theorem frameAhead_eq {a b : Nat} (ha : a < 2 ^ 48) :
    frameAhead a b = if (b + 2 ^ 48 - a) % 2 ^ 48 = 2 ^ 47 then none
      else some (decide (0 < (b + 2 ^ 48 - a) % 2 ^ 48) && decide ((b + 2 ^ 48 - a) % 2 ^ 48 < 2 ^ 47)) := by
  simp only [frameAhead, frameMod, Nat.mod_eq_of_lt ha]

/-- Settles O7: the three answers of R8 are the three ranges of the distance, which is 0 only between equal numbers. -/
theorem frameNumberOrder : Obligations.FrameNumberOrder := by
  intro a b ha hb
  rw [frameAhead_eq ha]
  have hd : (b + 2 ^ 48 - a) % 2 ^ 48 = 0 ↔ a = b := by omega
  generalize (b + 2 ^ 48 - a) % 2 ^ 48 = d at hd ⊢
  split
  case isTrue h => simp only [reduceCtorEq, false_iff, true_iff]; omega
  case isFalse h =>
    simp only [Option.some.injEq, Bool.and_eq_true, decide_eq_true_eq, Bool.and_eq_false_iff, decide_eq_false_iff_not,
      reduceCtorEq, false_iff]
    omega

/-- The serial comparison in the frame modulus is R8's. -/
theorem serialLt_frameMod {a b : Nat} (ha : a < 2 ^ 48) :
    serialLt frameMod a b = true ↔ frameAhead a b = some true := by
  rw [frameAhead_eq ha]
  simp only [serialLt, frameMod, Nat.mod_eq_of_lt ha, Bool.and_eq_true, decide_eq_true_eq]
  generalize (b + 2 ^ 48 - a) % 2 ^ 48 = d
  split
  case isTrue h => simp only [reduceCtorEq, iff_false]; omega
  case isFalse h => simp only [Option.some.injEq, Bool.and_eq_true, decide_eq_true_eq]; omega

/-- No frame number is ahead of itself. -/
theorem frameAhead_self {a : Nat} (ha : a < 2 ^ 48) : frameAhead a a ≠ some true := by
  simp [frameAhead_eq ha]

/-- Stamps order by frame under R8, then slot, cycle and port (R16). -/
theorem stampLt_iff {a b : Stamp} (ha : a.frame < 2 ^ 48) :
    stampLt a b = true ↔ frameAhead a.frame b.frame = some true ∨ (a.frame = b.frame ∧ (a.slot < b.slot ∨ (a.slot = b.slot ∧
      (a.cycle < b.cycle ∨ (a.cycle = b.cycle ∧ a.port < b.port))))) := by
  unfold stampLt
  split
  case isTrue hf =>
    have hself : frameAhead b.frame b.frame ≠ some true := frameAhead_self (hf ▸ ha)
    simp only [hself, hf, false_or, true_and]
    split <;> [split; skip] <;> simp only [decide_eq_true_eq] <;> omega
  case isFalse hf => simp only [hf, false_and, or_false, serialLt_frameMod ha]

/-- A whole packet at a port that is closed for this cycle waits, counted (R16). -/
theorem admitFront_closed {p : Nat} {k : Packet} {rest : List Packet} {s : State} (hb : (s.port p).bridge = k :: rest)
    (hn : k.need = 0) (hc : portClosed s p = true) : admitFront p s = countPort p 7 1 s := by
  simp [admitFront, hb, hn, hc]

/-- A hold cycle, or a registration in this cycle, closes the port (R10, R16). -/
theorem portClosed_of_hold_or_registered {p : Nat} {s : State} (h : s.cad.hold = true ∨ (s.port p).lastReg = some s.cycleNow) :
    portClosed s p = true := by
  rcases h with h | h <;> simp [portClosed, h]

/-- Settles O8: the order is `stampLt_iff`; a port registers by `admitFront_registered` and waits where it is closed. -/
theorem stampsOrdered : Obligations.StampsOrdered := by
  refine ⟨fun a b ha _ => stampLt_iff ha, fun port k rest s hb hn hc => ?_, fun port c k rest g s hp => ?_⟩
  · exact congrArg Host.Outcome.next (admitFront_closed hb hn (portClosed_of_hold_or_registered hc))
  · exact ⟨_, rfl, admitFront_registered port c k rest g s hp⟩

/-! ### The vote of the slot count (R9) -/

/-- No copy is overwritten only where all three are equal. -/
theorem voteFixes_eq_zero {a b c : Count} : voteFixes a b c = 0 ↔ a = b ∧ b = c := by
  constructor
  · intro h
    have ha : a = voteCount a b c := by by_contra e; simp [voteFixes, if_neg e] at h
    have hb : b = voteCount a b c := by by_contra e; simp [voteFixes, if_neg e] at h
    have hc : c = voteCount a b c := by by_contra e; simp [voteFixes, if_neg e] at h
    exact ⟨ha.trans hb.symm, hb.trans hc.symm⟩
  · rintro ⟨rfl, rfl⟩
    simp [voteFixes]

/-- With all copies different the vote takes the one furthest ahead. -/
theorem voteCount_of_ne {a b c : Count} (hab : a ≠ b) (hac : a ≠ c) (hbc : b ≠ c) :
    voteCount a b c = if countLt a b then (if countLt b c then c else b) else (if countLt a c then c else a) := by
  simp only [voteCount, hab, hac, hbc, decide_false, Bool.or_false, Bool.false_eq_true, if_false]
  cases countLt a b <;> rfl

/-- Copies that are not all equal are voted: the count takes the vote unless it lies behind, and event 0x004 is raised. -/
theorem voteNow_of_ne {a b c : Count} (h : ¬ (a = b ∧ b = c)) (s : State) :
    voteNow a b c s = raiseFull 0x004 (if a ≠ b ∧ a ≠ c ∧ b ≠ c then 3 else 0) 0 0
      ((s.setNow (if countLt (voteCount a b c) s.now then s.now else voteCount a b c)).addObj 0x1300 8 (voteFixes a b c)) := by
  simp only [voteNow, if_neg (mt voteFixes_eq_zero.mp h), Bool.and_eq_true, bne_iff_ne, ne_eq, and_assoc]

/-- Settles O10: the vote by the equality of its copies, and the correction by `voteNow_of_ne`. -/
theorem slotCountVoted : Obligations.SlotCountVoted := by
  intro a b c s u
  refine ⟨fun h => by simp [voteCount, h], fun h => ?_, voteCount_of_ne, fun h hu => ⟨?_, ?_⟩⟩
  · subst h
    by_cases hab : a = b <;> simp [voteCount, hab]
  · rw [hu]
    exact congrArg Host.Outcome.next (voteNow_of_ne h s)
  · rw [hu]
    simp

end Sys2Proof.Machine

/-! PROOF. The cadence: received frames, its loss and its acquisition (R11, R442), the ends of slots and frames (R10, R17) and
the checkpoint of the last frame (R197). -/

namespace Sys2Proof.Machine

/-! ### Objects under a raise -/

/-- A raise leaves every object outside those of events and counters. -/
theorem raise_obj {i k : Nat} (s : State) (n : Nat) (hk : k < 256) (h : evKey i k = false) : (s.raise n).obj i k = s.obj i k := by
  obtain ⟨-, hobj, -⟩ := raise_only s n
  exact hobj i k hk h

/-! ### The loss of the cadence (R11) -/

@[simp] theorem loseCadence_st (s : State) : (loseCadence s).cad.st = .holdover := by simp [loseCadence]

/-- The loss is counted. -/
theorem loseCadence_losses (s : State) : (loseCadence s).obj 0x1300 7 = min (s.obj 0x1300 7 + 1) (objMax 0x1300 7) := by
  rw [loseCadence, raise_obj _ _ (by decide) (by decide), State.addObj_same]
  rfl

/-- It leaves the count of bad frames. -/
theorem loseCadence_badFrames (s : State) : (loseCadence s).obj 0x1300 0x0A = s.obj 0x1300 0x0A := by
  rw [loseCadence, raise_obj _ _ (by decide) (by decide), State.addObj_ne _ _ _ _ _ _ (by decide)]
  rfl

/-! ### A frame received (R11) -/

/-- s with a valid frame of number n noted: its run, its number, and no bad frame behind it. -/
def noteFrame (n : Nat) (s : State) : State :=
  { s with cad := { s.cad with
    run := if s.cad.lastRx == some ((n + frameMod - 1) % frameMod) then s.cad.run + 1 else 1, lastRx := some n, bad := 0 } }

/-- s with a bad frame noted and counted. -/
def noteBadFrame (s : State) : State :=
  { s.addObj 0x1300 0x0A 1 with cad := { s.cad with run := 0, lastRx := none, bad := s.cad.bad + 1 } }

theorem noteFrame_now (n : Nat) (s : State) : (noteFrame n s).now = s.now := rfl

theorem noteBadFrame_badFrames (s : State) :
    (noteBadFrame s).obj 0x1300 0x0A = min (s.obj 0x1300 0x0A + 1) (objMax 0x1300 0x0A) :=
  State.addObj_same ..

/-- A bad frame while Locked or Slewing is noted; the second in a row is the loss of the cadence. -/
theorem frameReceived_bad {word : BitVec 192} {s : State} (hl : s.cad.pllLocked = true) (hw : frameNumber word = none)
    (hs : s.cad.st = .locked ∨ s.cad.st = .slewing) :
    frameReceived word s = if 1 ≤ s.cad.bad then loseCadence (noteBadFrame s) else noteBadFrame s := by
  rcases hs with hs | hs <;> simp [frameReceived, hl, hw, hs, noteBadFrame]

/-- A valid frame while Locked is noted and its phase measured. -/
theorem frameReceived_locked {word : BitVec 192} {s : State} {n : Nat} (hl : s.cad.pllLocked = true)
    (hw : frameNumber word = some n) (hs : s.cad.st = .locked) :
    frameReceived word s = trackFrame ⟨(n + 1) % frameMod, 0, 0⟩ (noteFrame n s) := by
  simp [frameReceived, hl, hw, hs, noteFrame]

/-- The third consecutive frame while Acquiring is acquired. -/
theorem frameReceived_third {word : BitVec 192} {s : State} {n : Nat} (hl : s.cad.pllLocked = true)
    (hw : frameNumber word = some n) (hs : s.cad.st = .acquiring) (hn : s.cad.lastRx = some ((n + frameMod - 1) % frameMod))
    (hr : 2 ≤ s.cad.run) : frameReceived word s = acquire ⟨(n + 1) % frameMod, 0, 0⟩ (noteFrame n s) := by
  have h3 : 3 ≤ s.cad.run + 1 := by omega
  simp [frameReceived, hl, hw, hs, hn, h3, noteFrame]

/-- A frame at its expected boundary ends a run of differing numbers. -/
theorem trackFrame_expected {r : Count} {s : State} (h : cyclesBetween s.now r = 0) :
    trackFrame r s = { s with cad := { s.cad with differ := 0 } } := by
  simp [trackFrame, h]

/-! ### The acquisition at S1 (R11, R442) -/

theorem endStage_cad (k : Nat) (s : State) : (endStage k s).cad = s.cad := (endStage_keeps k s).cad (by decide)

theorem endStage_stage (k : Nat) (s : State) : (endStage k s).blk.stage = k + 1 := rfl

/-- The frame's work, with which S1 ends, keeps the state of the cadence and the count. -/
theorem endStage_frameWork (s : State) :
    (endStage 1 (frameWork none s)).cad.st = s.cad.st ∧ (endStage 1 (frameWork none s)).now = s.now ∧
      (endStage 1 (frameWork none s)).blk.stage = 2 := by
  refine ⟨?_, ?_, endStage_stage ..⟩
  · rw [endStage_cad, frameWork_cad]
  · rw [← frameWork_now none s, State.now, State.now, endStage_cad]

/-- Acquired at S1: Locked, at slot 0 of the frame that begins, and S1 has ended. -/
theorem acquire_acquiring {r : Count} {s : State} (hs : s.cad.st = .acquiring) (h1 : inStage s 1 = true) :
    (acquire r s).cad.st = .locked ∧ (acquire r s).now = r ∧ (acquire r s).blk.stage = 2 := by
  have e : ∃ u : State, acquire r s = endStage 1 (frameWork none u) ∧ u.cad.st = .locked ∧ u.now = r := by
    simp only [acquire, hs, h1, if_true]
    exact ⟨_, rfl, rfl, voteCount_same r⟩
  obtain ⟨u, hu, hst, hnow⟩ := e
  obtain ⟨hst', hnow', hstage⟩ := endStage_frameWork u
  rw [hu]
  exact ⟨hst'.trans hst, hnow'.trans hnow, hstage⟩

/-- The frame number the count goes on from when no cadence came: after the last one recorded, or 0. -/
def frameAfterTimeout (s : State) : Nat :=
  match vaultNewest s.mram with
  | some k => (vaultRead s.mram k).lastFrame + (if (vaultRead s.mram k).marker then 65537 else 1)
  | none => 0

/-- The timeout at S1: Holdover from the recorded frame number, and S1 has ended. -/
theorem acquireTimeout_acquiring {s : State} (hs : s.cad.st = .acquiring) (hl : s.cad.pllLocked = true) (h1 : inStage s 1 = true) :
    (acquireTimeout s).cad.st = .holdover ∧ (acquireTimeout s).now = ⟨frameAfterTimeout s % frameMod, 0, 0⟩ ∧
      (acquireTimeout s).blk.stage = 2 := by
  have e : ∃ u : State, acquireTimeout s = endStage 1 (frameWork none (u.raise 0x001)) ∧ u.cad.st = .holdover ∧
      u.now = ⟨frameAfterTimeout s % frameMod, 0, 0⟩ := by
    simp only [acquireTimeout, hs, hl, h1, Bool.not_true, Bool.false_or, bne_self_eq_false, Bool.false_eq_true, if_false]
    exact ⟨_, rfl, rfl, voteCount_same _⟩
  obtain ⟨u, hu, hst, hnow⟩ := e
  obtain ⟨hst', hnow', hstage⟩ := endStage_frameWork (u.raise 0x001)
  rw [hu]
  exact ⟨by rw [hst', State.raise_cad, hst], by rw [hnow', State.raise_at_now, hnow], hstage⟩

/-- Without the clock a Locked or Slewing cadence is lost. -/
theorem clockLoss_following {s : State} (h : s.cad.st = .locked ∨ s.cad.st = .slewing) : clockLoss s = loseCadence s := by
  rcases h with h | h <;> simp only [clockLoss, h]

/-- Settles O11: each clause by the equation of its row, then what the loss, the acquisition and the timeout do. -/
theorem cadenceFollowed : Obligations.CadenceFollowed := by
  refine ⟨fun word s n hl hw hs hd => ?_, fun word s hl hw hs => ?_, fun word s n hl hw hs h1 hn hr => ?_, fun s h1 hl hs => ?_,
    fun s hs => ?_, fun s hs h1 => ?_⟩
  · refine ⟨_, rfl, ?_⟩
    rw [frameReceived_locked hl hw hs, trackFrame_expected (noteFrame_now n s ▸ hd)]
    exact ⟨hs, rfl, rfl, rfl, rfl⟩
  · refine ⟨_, rfl, ?_⟩
    rw [frameReceived_bad hl hw hs]
    split
    case isTrue hb =>
      exact ⟨(loseCadence_badFrames _).trans (noteBadFrame_badFrames s), fun h0 => by omega, fun _ => loseCadence_st _,
        loseCadence_now _⟩
    case isFalse hb =>
      exact ⟨noteBadFrame_badFrames s, fun h0 => ⟨rfl, congrArg (· + 1) h0⟩, fun h => absurd h hb, rfl⟩
  · refine ⟨_, rfl, ?_⟩
    rw [frameReceived_third hl hw hs hn hr]
    exact acquire_acquiring hs h1
  · obtain ⟨hst, hnow, hstage⟩ := acquireTimeout_acquiring hs hl h1
    exact ⟨_, rfl, hst, hstage, hnow⟩
  · refine ⟨_, rfl, ?_⟩
    rw [clockLoss_following hs]
    exact ⟨loseCadence_st s, loseCadence_now s, loseCadence_losses s⟩
  · simp [exec, execRefclkPllLock, inStage, hs, h1]

/-! ### The ends of slots and frames (R10, R17), the checkpoint (R197) -/

/-- With the core clock running, the rest of the slot passes and the slot ends. -/
theorem passSlot_clocked {s : State} (h : clocked s = true) (tj : Option Int) (phase : Int) :
    passSlot tj phase s = slotEnd tj phase (forN (cyclesLeft s) s (fun _ t => cycleWork t)) := by
  simp only [passSlot, h, if_true]

/-- The arbiter mode follows the block state with the frame's work (R124). -/
theorem frameWork_mode (tj : Option Int) (s : State) : (frameWork tj s).blk.mode = (frameWork tj s).blk.st.mode := by
  have e : ∃ w : State, frameWork tj s = { w with blk := { w.blk with mode := w.blk.st.mode } } := ⟨_, rfl⟩
  obtain ⟨w, hw⟩ := e
  rw [hw]

/-- After the last slot of a frame comes slot 0. -/
theorem nextSlot_last {c : Count} (h : c.slot = 191) : (nextSlot c).slot = 0 := by
  simp [nextSlot, h]

/-- Settles O12: a slot's end by `slotEnd_cad`, a frame's work by `frameWork_cad`, the checkpoint by its writing. -/
theorem boundariesWork : Obligations.BoundariesWork := by
  refine ⟨fun phase s hc => ?_, fun tj s hc hd => ⟨?_, ?_, frameWork_now _ s, frameWork_mode _ s⟩,
    fun tj s v hc hd hv => ⟨?_, fun hcv h191 => ?_⟩, fun s h3 => ?_⟩
  · refine ⟨_, _, rfl, rfl, ?_⟩
    rw [slotBoundary, passSlot_clocked hc]
    exact slotEnd_cad none phase _
  · simp [exec, execFrameBoundary, frameBoundary, hc, hd]
  · rw [frameWork_cad]
  · simp [exec, execFrameBoundary, frameBoundary, hc, hd, hv]
  · obtain ⟨hnow, -⟩ := slotEnd_cad (some tj) 0 (forN (cyclesLeft v) v (fun _ t => cycleWork t))
    rw [passSlot_clocked hcv, hnow]
    exact nextSlot_last h191
  · refine ⟨_, rfl, ?_⟩
    simp only [checkpoint, h3, decide_true, if_true]
    exact ⟨rfl, rfl, rfl, rfl⟩

end Sys2Proof.Machine

/-! PROOF. Changes that wait for a boundary or an empty queue: the class of a port (R36), slot tables and calendars (R80,
R111), queue sizes and the credit split (R81). -/

namespace Sys2Proof.Machine

/-! ### Classes, slot tables and calendars -/

/-- A pending class takes effect at a port with nothing outstanding. -/
theorem classEffect_idle {p : Nat} {s : State} (hb : portBusy (s.port p) = false)
    (hc : Cls.ofCode (s.obj (0x2200 + p) 1) ≠ (s.port p).cls) :
    classEffect p s = (s.setPort p { s.port p with cls := Cls.ofCode (s.obj (0x2200 + p) 1) }).setObj (0x2200 + p) 0x0F 0 := by
  simp [classEffect, hb, hc.symm]

/-- With a slot table pending and its ports free, the tables and all pending calendars swap together. -/
theorem swapPending_tables {s : State} (hp : s.obj 0x2000 7 = 1) (hr : swapReady s = true) :
    swapPending s = (pendingCalendars s).foldl (fun t c => swapCalendar c t) (swapTables s) := by
  simp only [swapPending, hp, hr, if_true]

/-- With no slot table pending, the one calendar pending swaps by itself when ready. -/
theorem swapPending_calendar {c : Nat} {s : State} (hp : s.obj 0x2000 7 = 0) (hc : pendingCalendars s = [c])
    (hr : calendarReady s c = true) : swapPending s = swapCalendar c s := by
  simp [swapPending, hp, hc, hr]

theorem swapTables_pending (s : State) : (swapTables s).obj 0x2000 7 = 0 := State.setObj_same ..

theorem swapCalendar_pending (c : Nat) (s : State) : (swapCalendar c s).obj (arbIdx c) 1 = 0 := State.setObj_same ..

/-! ### Queue sizes and the credit split (R81) -/

/-- The queues of kind q at Crossing x that are empty and have a new size to adopt. -/
def adopting (x q : Nat) (s : State) : List (Nat × Nat) :=
  (s.xbar x).resize.filter (fun e => e.1 % 8 == q && (tget (s.xbar x).queues e.1 []).isEmpty)

/-- s with those queues at their new sizes, and waiting for them no longer. -/
def resized (x q : Nat) (s : State) : State :=
  s.setXbar x { s.xbar x with
    sizes := (adopting x q s).foldl (fun t e => tput t e.1 e.2 8) (s.xbar x).sizes
    resize := (s.xbar x).resize.filter (fun e => !(adopting x q s).contains e) }

/-- Where a queue adopts its size, the held network goes on once it was the last of the change. -/
theorem adoptSize_eq {x q : Nat} {s : State} (h : adopting x q s ≠ []) :
    adoptSize x q s = if splitDone (resized x q s) (q / 2) then
      { resized x q s with net := { s.net with hold := s.net.hold.filter (fun v => v != q / 2) } } else resized x q s :=
  if_neg (mt List.isEmpty_iff.mp h)

/-- The Crossing then holds the new sizes, and the frame of the change stands. -/
theorem adoptSize_xbar {x q : Nat} {s : State} (h : adopting x q s ≠ []) :
    (adoptSize x q s).xbar x = (resized x q s).xbar x ∧ (adoptSize x q s).net.split = s.net.split := by
  rw [adoptSize_eq h]
  split <;> exact ⟨rfl, rfl⟩

/-- Marking the Crossings whose queues are late leaves the network and the Crossings. -/
theorem foldl_crossingCause_form (hit : Nat × Xbar → Bool) (l : Tbl Xbar) (s : State) :
    EvForm s (l.foldl (fun t e => if hit e then crossingCause e.1 2 0 t else t) s) := by
  refine foldl_keeps (fun t => EvForm s t) _ l s (EvForm.refl s) (fun t e _ ht => ?_)
  split
  · exact ht.trans (crossingCause_form ..)
  · exact ht

/-- 256 cycles after the change a held network goes on. -/
theorem splitTimeout_held {v f : Nat} {vs : List Nat} {s : State} (hs : s.net.split = some (f, vs))
    (hv : s.net.hold.contains v = true) (ht : 256 ≤ s.since (7680 * f)) :
    (splitTimeout v s).net.hold = s.net.hold.filter (fun w => w != v) ∧ (splitTimeout v s).xbars = s.xbars := by
  have form := foldl_crossingCause_form (fun e => e.2.resize.any (fun r => queueVnet r.1 == v)) s.xbars s
  simp only [splitTimeout, hs, hv, ht, decide_true, Bool.and_self, if_true]
  exact ⟨by rw [form.net], form.xbars⟩

/-- Settles O29: each clause is the lemma about its row's change. -/
theorem boundaryChanges : Obligations.BoundaryChanges := by
  refine ⟨fun port s hp hb hi hc => ?_, fun s hp hb hr => ?_, fun c s hp hb hc hr => ?_, fun x queue s l hl hne => ?_,
    fun vnet f vs s hs hv ht => ⟨_, rfl, splitTimeout_held hs hv ht⟩⟩
  · simp only [exec, execClassChangeEffect, hp, hb, decide_true, Bool.and_self, if_true, classEffect_idle hi hc]
  · refine ⟨_, ?_, rfl, swapTables_pending s⟩
    simp only [exec, execSlotTableSwap, hp, hb, decide_true, Bool.and_self, if_true, swapPending_tables hp hr]
  · refine ⟨swapCalendar c s, ?_, rfl, swapCalendar_pending c s⟩
    simp [exec, execCalendarSwap, hc, hb, swapPending_calendar hp hc hr]
  · subst hl
    obtain ⟨hx, hsplit⟩ := adoptSize_xbar hne
    have hr : (resized x queue s).xbar x = _ := State.setXbar_same ..
    exact ⟨_, rfl, by rw [hx, hr]; rfl, by rw [hx, hr]; rfl, hsplit⟩

end Sys2Proof.Machine

/-! PROOF. How requests end at their port: fences (R29), locked sequences (R55), deadlines and late responses (R23), the egress
register and its credits (R57, R58, R61). -/

namespace Sys2Proof.Machine

/-- A port depends on the table of ports alone. -/
theorem port_congr {s t : State} (h : t.ports = s.ports) (p : Nat) : t.port p = s.port p := by
  simp only [State.port, h]

/-! ### A fence with no mirror in service (R29) -/

/-- A fence owes no data units. -/
theorem unitsOwed_fence {h : BitVec 512} (hf : hdrCmd h = 0x30) : unitsOwed h 0 = 0 := by
  simp [unitsOwed, hf, cmdRow, cmdTable]

/-- The port of a fence just received. -/
theorem bridged_port_fence {p : Nat} {h : BitVec 512} {s : State} (ho : FenceOpen p h s) :
    (bridged p (packetOf h [] s) s).port p =
      { s.port p with bridge := [packetOf h [] s], credits := (s.port p).credits - 1 } := by
  simp [bridged, ho.front, packetOf]

/-- A fence that is open to admission comes in and meets Forecast alone. -/
theorem issue_fence {p : Nat} {h : BitVec 512} {s : State} (ho : FenceOpen p h s) :
    issue p h [] s = admitFence p (packetOf h [] s) (bridged p (packetOf h [] s) s) := by
  have hfeed : feed p [(h, true)] s = bridged p (packetOf h [] s) s := by
    rw [feed_packet p h [] s (by simp [Port.partPacket, ho.front]) (by simpa using ho.credit) (by simp)]
    simp [packetOf, unitsOwed_fence ho.fence]
  have hport := bridged_port_fence ho
  simp only [issue, List.map_nil, hfeed, ho.fence, if_true]
  exact admitFront_fence p (packetOf h [] s) [] _ (by rw [hport]) rfl ho.opened (by rw [hport]; exact ho.fresh) ho.legal
    (by rw [tokensOk, hport]; exact ho.tokens) (by rw [hport]; exact ho.single) ho.fence

/-- With no mirror in service it is answered at once with OK_LOCAL_ONLY. -/
theorem issue_fence_answered {p : Nat} {h : BitVec 512} {s : State} (ho : FenceOpen p h s) (hp : p < 96)
    (hm : ∀ d, (s.dist d).mst = .off) (hu : (s.port p).respUnits < 32) :
    ∃ r : Resp, r.tag = hdrTag h ∧ r.port = p ∧ r.stamp = s.stampNow p ∧ r.status = 2 ∧ r.data = [] ∧
      ((issue p h [] s).port p).resp = (s.port p).resp ++ [r] := by
  have hport := bridged_port_fence ho
  have hresp := admitFence_off p (packetOf h [] s) (bridged p (packetOf h [] s) s) hp hm (by rw [hport]) (by rw [hport]; exact hu)
    (by rw [hport]; exact ho.unanswered)
  rw [← issue_fence ho, hport] at hresp
  refine ⟨_, ?_, ?_, ?_, ?_, ?_, hresp⟩ <;> rfl

/-! ### Locked sequences (R55) -/

/-- A sequence silent for too long breaks: it is counted with cause 7 and its members are answered DECODE. -/
theorem lockTimeout_open {p : Nat} {l : LockSeq} {s : State} (hl : (s.port p).lock = some l) (ht : 64 < s.since l.last)
    (hb : l.broken = false) : lockTimeout p s = advanceHorizon l.chan (l.members.foldl (fun v r => respond (plainResp r 0x21) v)
      (portCause p 7 ((s.modPort p (fun q => { q with lock := none })).addObj (0x2200 + p) 0x17 1))) := by
  simp [lockTimeout, hl, ht, breakLock, hb, countBreak]

/-- One broken already only ends. -/
theorem lockTimeout_broken {p : Nat} {l : LockSeq} {s : State} (hl : (s.port p).lock = some l) (ht : 64 < s.since l.last)
    (hb : l.broken = true) : lockTimeout p s = s.modPort p (fun q => { q with lock := none }) := by
  simp [lockTimeout, hl, ht, breakLock, hb]

/-! ### Deadlines (R23, R29) -/

theorem sampleEnd_port (t : Stamp) (status : Nat) (timeout : Bool) (s : State) (p : Nat) :
    (sampleEnd t status timeout s).port p = s.port p :=
  port_congr ((sampleEnd_keeps ..).ports (by decide)) p

/-- No response of a use that is not answered is in the buffer. -/
theorem filter_resp_of_unanswered {q : Port} {tag : Nat} {t : Stamp} (h : q.answered tag t = false) :
    q.resp.filter (fun r => !(r.tag == tag && r.stamp == t)) = q.resp := by
  rw [List.filter_eq_self]
  intro r hr
  rw [Bool.not_eq_true', Bool.eq_false_iff]
  exact List.any_eq_false.mp h r hr

/-- The TIMEOUT of a use that is not answered frees its tag, and its response will be late. -/
theorem timeoutTag_port {p : Nat} {u : TagUse} {s : State} (hl : u.lost = false)
    (ha : (s.port p).answered u.tag u.req.stamp = false) :
    (timeoutTag p u s).port p = { s.port p with
      tags := (s.port p).tags.filter (fun v => !(v.tag == u.tag && v.req.stamp == u.req.stamp))
      resp := (s.port p).resp ++ [{ plainResp u.req 0x30 with status := 0x30 }]
      late := (s.port p).late ++ [(u.tag, u.req.stamp)] } := by
  simp only [timeoutTag, ha, hl, Bool.or_self, Bool.false_eq_true, if_false, sampleEnd_port, State.addObj_at_port,
    State.setPort_same, filter_resp_of_unanswered ha]

/-- The one use of a port that is due, not answered and with no twin-durable wait is TIMEOUT. -/
theorem checkDeadlines_single {p : Nat} {u : TagUse} {s : State} (ht : (s.port p).tags = [u])
    (hd : s.duePassed u.req.deadline = true) (hw : twinWaitOf s p u = none)
    (ha : (s.port p).answered u.tag u.req.stamp = false) : checkDeadlines p s = timeoutTag p u s := by
  have hno : (s.port p).resp.any (fun r => r.tag == u.tag && r.stamp == u.req.stamp && r.status == 2) = false := by
    rw [List.any_eq_false]
    intro r hr
    have := List.any_eq_false.mp ha r hr
    simp_all
  simp only [checkDeadlines, ht, List.foldl_cons, List.foldl_nil, hd, hno, hw, Option.isSome_none, Bool.false_eq_true, if_true,
    if_false]

/-- A wait answered at its deadline ends, its response delivered to a port that nothing else has changed. -/
theorem answerWait_due (w : TwinWait) (s : State) : ∃ v, answerWait w 2 true s = respond { w.resp with status := 2 } v ∧
    v.ports = s.ports ∧ v.mirror.waits = s.mirror.waits.filter (fun x => x != w) := by
  simp only [answerWait, Bool.or_true, if_true]
  exact ⟨_, rfl, rfl, rfl⟩

/-- A twin-durable use in the slot before its deadline has its wait answered. -/
theorem twinDeadline_due {p tag : Nat} {u : TagUse} {w : TwinWait} {s : State}
    (hu : (s.port p).tags.find? (fun x => x.tag == tag) = some u)
    (hd : s.duePassed ((u.req.deadline + slotMod - 1) % slotMod) = true)
    (hw : s.mirror.waits.find? (fun x => x.resp.port == p && x.resp.tag == u.tag && x.resp.stamp == u.req.stamp) = some w) :
    twinDeadline p tag s = answerWait w 2 true s := by
  simp [twinDeadline, hu, hd, localOnly, twinWaitOf, hw]

/-! ### Late responses (R23) -/

/-- A late response leaves the list of those expected and is counted. -/
theorem dropLate_listed {p tag : Nat} {t : Stamp} {s : State} (h : (tag, t) ∈ (s.port p).late) :
    dropLate p tag t s = (s.setPort p { s.port p with late := (s.port p).late.filter (fun e => e != (tag, t)) }).addObj
      (0x2200 + p) 0x0E 1 := by
  simp [dropLate, h]

theorem dropUnits_port (vnet port tag : Nat) (s : State) (p : Nat) : (dropUnits vnet port tag s).port p = s.port p := rfl

theorem takeBack_port (p tag : Nat) (t : Stamp) (s : State) : (takeBack p tag t s).port p =
    { s.port p with coming := (s.port p).coming.filter (fun b => !(b.resp.tag == tag && b.resp.stamp == t)) } :=
  State.modPort_same ..

/-- The late response of a tag is dropped and counted. -/
theorem lateDrop_listed {p tag : Nat} {e : Nat × Stamp} {s : State}
    (h : (s.port p).late.find? (fun x => x.1 == tag) = some e) :
    ((lateDrop p tag s).port p).late = (s.port p).late.filter (fun x => x != e) ∧
      (lateDrop p tag s).obj (0x2200 + p) 0x0E = min (s.obj (0x2200 + p) 0x0E + 1) (objMax (0x2200 + p) 0x0E) := by
  obtain ⟨u, hu⟩ : ∃ u, u = dropUnits 1 p e.1 (takeBack p e.1 e.2 s) := ⟨_, rfl⟩
  have hlate : (u.port p).late = (s.port p).late := by rw [hu, dropUnits_port, takeBack_port]
  have hobj : u.obj (0x2200 + p) 0x0E = s.obj (0x2200 + p) 0x0E := by rw [hu]; rfl
  have hmem : (e.1, e.2) ∈ (u.port p).late := hlate ▸ List.mem_of_find?_eq_some h
  simp only [lateDrop, h, ← hu]
  rw [dropLate_listed hmem]
  exact ⟨by rw [State.addObj_at_port, State.setPort_same, hlate], by rw [State.addObj_same, State.setPort_at_obj, hobj]⟩

/-! ### The egress register (R57, R61) -/

/-- Without a credit nothing is registered. -/
theorem registerEgress_noCredit {p : Nat} {s : State} (hp : p ≠ 100) (he : (s.port p).egress = none)
    (hc : (s.port p).egressCredits = 0) : registerEgress p s = s := by
  unfold registerEgress
  cases hr : (s.port p).resp <;> simp [he, hr, hc, hp]

/-- With a credit the first response is registered and its tag is free. -/
theorem registerEgress_front {p : Nat} {r : Resp} {rest : List Resp} {s : State} (he : (s.port p).egress = none)
    (hr : (s.port p).resp = r :: rest) (hc : 0 < (s.port p).egressCredits) :
    (registerEgress p s).port p = { s.port p with
      egress := some r, egressLeft := r.units, out := [], resp := rest
      tags := (s.port p).tags.filter (fun u => !(u.tag == r.tag && u.req.stamp == r.stamp)) } := by
  have hcount : ∀ (c : Prop) [Decidable c] (k : Nat) (u : State), (if c then countPort p k 1 u else u).port p = u.port p := by
    intro c _ k u
    split <;> simp only [countPort_port]
  have hend : ∀ (c : Prop) [Decidable c] (u : State), (if c then u else sampleEnd r.stamp r.status false u).port p = u.port p := by
    intro c _ u
    split <;> simp only [sampleEnd_port]
  unfold registerEgress
  simp only [he, hr, hc.ne', decide_false, Bool.false_and, Bool.false_eq_true, if_false, hend, hcount, countPort_port,
    State.setPort_same]

/-- With credits for every unit left the response leaves the register. -/
theorem drainEgress_all {p : Nat} {r : Resp} {s : State} (he : (s.port p).egress = some r)
    (hc : (s.port p).egressLeft ≤ (s.port p).egressCredits) :
    (drainEgress p s).port p = { s.port p with
      out := (s.port p).out ++ (r.outUnits.drop (r.units - (s.port p).egressLeft)).take (s.port p).egressLeft
      egressCredits := (s.port p).egressCredits - (s.port p).egressLeft
      egressLeft := 0
      egress := none } := by
  simp only [drainEgress, he, State.setPort_same, Nat.min_eq_left hc, Nat.sub_self, le_refl, if_true]

/-- With fewer it stays, its units handed over one for each credit. -/
theorem drainEgress_part {p : Nat} {r : Resp} {s : State} (he : (s.port p).egress = some r)
    (hc : (s.port p).egressCredits < (s.port p).egressLeft) :
    (drainEgress p s).port p = { s.port p with
      out := (s.port p).out ++ (r.outUnits.drop (r.units - (s.port p).egressLeft)).take (s.port p).egressCredits
      egressCredits := 0
      egressLeft := (s.port p).egressLeft - (s.port p).egressCredits
      egress := some r } := by
  simp only [drainEgress, he, State.setPort_same, Nat.min_eq_right hc.le, Nat.sub_self, hc.not_ge, if_false]

theorem drainEgress_none {p : Nat} {s : State} (he : (s.port p).egress = none) : drainEgress p s = s := by
  simp only [drainEgress, he]

/-- Port q once its first response r has been registered and handed over as far as its credits reach. -/
def Port.handOver (q : Port) (r : Resp) (rest : List Resp) : Port :=
  { q with
    egress := if r.units ≤ q.egressCredits then none else some r
    egressLeft := r.units - q.egressCredits
    out := r.outUnits.take (min r.units q.egressCredits)
    egressCredits := q.egressCredits - r.units
    resp := rest
    tags := q.tags.filter (fun u => !(u.tag == r.tag && u.req.stamp == r.stamp)) }

/-- With a credit the first response is handed over. -/
theorem drainEgress_registerEgress {p : Nat} {r : Resp} {rest : List Resp} {s : State} (he : (s.port p).egress = none)
    (hr : (s.port p).resp = r :: rest) (hc : 0 < (s.port p).egressCredits) :
    (drainEgress p (registerEgress p s)).port p = (s.port p).handOver r rest := by
  have hq := registerEgress_front he hr hc
  by_cases hu : r.units ≤ (s.port p).egressCredits
  · rw [drainEgress_all (r := r) (by rw [hq]) (by rw [hq]; exact hu), hq]
    simp [Port.handOver, hu]
  · have hlt := Nat.lt_of_not_le hu
    rw [drainEgress_part (r := r) (by rw [hq]) (by rw [hq]; exact hlt), hq]
    simp [Port.handOver, hu, hlt.le]

/-- Without one it stays. -/
theorem drainEgress_registerEgress_noCredit {p : Nat} {s : State} (hp : p ≠ 100) (he : (s.port p).egress = none)
    (hc : (s.port p).egressCredits = 0) : drainEgress p (registerEgress p s) = s := by
  rw [registerEgress_noCredit hp he hc, drainEgress_none he]

/-- At a port other than 100, what is buffered, or reaches an empty buffer now, is registered and handed over. -/
theorem egressStep_eq {p : Nat} (hp : p ≠ 100) (s : State) :
    egressStep p s = drainEgress p (registerEgress p (if (s.port p).resp.isEmpty then arriveBack p s else s)) := by
  simp only [egressStep, hp, if_false]

theorem egressStep_buffered {p : Nat} {r : Resp} {rest : List Resp} {s : State} (hp : p ≠ 100)
    (hr : (s.port p).resp = r :: rest) : egressStep p s = drainEgress p (registerEgress p s) := by
  rw [egressStep_eq hp, hr, List.isEmpty_cons, if_neg Bool.false_ne_true]

theorem egressStep_empty {p : Nat} {s : State} (hp : p ≠ 100) (hr : (s.port p).resp = []) :
    egressStep p s = drainEgress p (registerEgress p (arriveBack p s)) := by
  rw [egressStep_eq hp, hr, List.isEmpty_nil, if_pos rfl]

/-! ### A response that waits in the network (R73) -/

/-- A response that fits, for a tag in use, joins the buffer; nothing else of the port changes. -/
theorem respond_port {r : Resp} {s : State} (hp : r.port < 96)
    (ht : (s.port r.port).tags.any (fun u => u.tag == r.tag && u.req.stamp == r.stamp && !u.lost) = true)
    (hn : (s.port r.port).answered r.tag r.stamp = false) (hr : (s.port r.port).respUnits + r.units ≤ 32) :
    (respond r s).port r.port = { s.port r.port with resp := (s.port r.port).resp ++ [r] } := by
  have h96 : ¬ 96 ≤ r.port := by omega
  simp only [respond, h96, ht, hn, hr, decide_false, Bool.false_and, Bool.false_eq_true, Bool.not_false, Bool.and_self,
    if_true, if_false, State.setPort_same]

/-- The oldest response whose way is open reaches the empty buffer of its port. -/
theorem arriveBack_port {p : Nat} {b : Back} {s : State} (hp : p < 96) (hr : (s.port p).resp = [])
    (hb : (s.port p).coming.find? (fun b => !backFailed s p b.chan && (b.sent || b.chain || !s.net.hold.contains 1)) = some b)
    (hbp : b.resp.port = p)
    (ht : (s.port p).tags.any (fun u => u.tag == b.resp.tag && u.req.stamp == b.resp.stamp && !u.lost) = true)
    (hu : b.resp.units ≤ 32) : (arriveBack p s).port p = { s.port p with
      coming := (s.port p).coming.filter (fun x => !(x.resp.tag == b.resp.tag && x.resp.stamp == b.resp.stamp))
      resp := [b.resp] } := by
  subst hbp
  have hq : (dropUnits 1 b.resp.port b.resp.tag (takeBack b.resp.port b.resp.tag b.resp.stamp s)).port b.resp.port = _ :=
    (dropUnits_port ..).trans (takeBack_port ..)
  simp only [arriveBack, hb]
  rw [respond_port hp (by rw [hq]; exact ht) (by rw [hq]; simp [Port.answered, hr]) (by rw [hq]; simpa [Port.respUnits, hr] using hu),
    hq, hr]
  rfl

/-! ### The obligation -/

/-- Settles O33: each clause by the lemma of its row; a fence by `admitFence_off`, the egress by `Port.handOver`. -/
theorem requestsEnd : Obligations.RequestsEnd := by
  refine ⟨fun port tag h s hh ho hm hu => ?_, fun port l s hl ht => ⟨fun hb => ?_, fun hb => ?_⟩,
    fun port u s ht hd hl hw ha => ?_, fun port tag u w s hu hd hw => ?_, fun port tag e s he => ⟨_, rfl, lateDrop_listed he⟩,
    fun port r rest s hp he hr => ⟨fun hc => ?_, fun hc => ?_⟩, fun port b s hp he hr hb hbp ht hu => ?_, fun port s => ?_⟩
  · subst hh
    obtain ⟨r, htag, hport, hstamp, hstatus, hdata, hresp⟩ := issue_fence_answered ho port.isLt hm hu
    exact ⟨_, r, rfl, htag, hport, hstamp, hstatus, hdata, hresp⟩
  · exact ⟨_, _, congrArg Host.Outcome.next (lockTimeout_open hl ht hb), rfl, rfl⟩
  · exact congrArg Host.Outcome.next (lockTimeout_broken hl ht hb)
  · refine ⟨_, congrArg Host.Outcome.next (checkDeadlines_single ht hd hw ha), ?_⟩
    rw [timeoutTag_port hl ha]
    exact ⟨by simp [ht], rfl, rfl⟩
  · obtain ⟨v, hv, hports, hwaits⟩ := answerWait_due w s
    refine ⟨_, congrArg Host.Outcome.next ((twinDeadline_due hu hd hw).trans hv), ?_, v, rfl, hports⟩
    rw [(respond_keeps ..).mirror (by decide), hwaits]
  · refine ⟨s, ?_, he, hr, rfl⟩
    exact congrArg Host.Outcome.next ((egressStep_buffered hp hr).trans (drainEgress_registerEgress_noCredit hp he hc))
  · refine ⟨_, congrArg Host.Outcome.next (egressStep_buffered hp hr), ?_⟩
    rw [drainEgress_registerEgress he hr hc]
    exact ⟨rfl, rfl, rfl, rfl, rfl, rfl⟩
  · have hp100 : port.val ≠ 100 := by omega
    have hq := arriveBack_port hp hr hb hbp ht hu
    refine ⟨_, congrArg Host.Outcome.next (egressStep_empty hp100 hr), ?_⟩
    by_cases hc : (s.port port).egressCredits = 0
    · rw [drainEgress_registerEgress_noCredit hp100 (by rw [hq]; exact he) (by rw [hq]; exact hc), hq]
      exact ⟨rfl, fun _ => ⟨rfl, he, rfl⟩, fun h => absurd hc h.ne'⟩
    · rw [drainEgress_registerEgress (by rw [hq]; exact he) (by rw [hq]) (by rw [hq]; exact Nat.pos_of_ne_zero hc), hq]
      exact ⟨rfl, fun h => absurd h hc, fun _ => ⟨rfl, rfl, rfl, rfl, rfl⟩⟩
  · have hq := State.modPort_same s port (fun q => { q with egressCredits := q.egressCredits + 1 })
    refine ⟨_, rfl, fun he => ?_, fun r he hle => ?_, fun r he hlt => ?_⟩
    · rw [drainEgress_none (by rw [hq]; exact he), hq]
      exact ⟨rfl, he⟩
    · rw [drainEgress_all (r := r) (by rw [hq]; exact he) (by rw [hq]; exact hle), hq]
      exact ⟨rfl, rfl, rfl⟩
    · rw [drainEgress_part (r := r) (by rw [hq]; exact he) (by rw [hq]; exact hlt), hq]
      exact ⟨rfl, rfl, rfl⟩

end Sys2Proof.Machine

/-! PROOF. What a request carries: its header fields (R43), and the arithmetic of the atomics (R46). -/

namespace Sys2Proof.Machine

/-! ### Header fields (R43) -/

/-- A header is the sum of its fields, each at its own place: with every field within its width nothing carries. -/
theorem mkHeader_toNat {cmd tag len addr operand mask : Nat} (twin lock : Bool) (hc : cmd < 256) (ht : tag < 256) (hl : len < 8)
    (ha : addr < 2 ^ 46) (ho : operand < 2 ^ 64) (hm : mask < 2 ^ 64) :
    (mkHeader cmd tag len addr twin lock operand mask).toNat = operand * 2 ^ 192 + mask * 2 ^ 128 + addr * 2 ^ 64 +
      twin.toNat * 2 ^ 47 + lock.toNat * 2 ^ 46 + len * 2 ^ 43 + cmd * 2 ^ 33 + tag * 2 ^ 25 := by
  have htwin : (if twin then 2 ^ 47 else 0) = twin.toNat * 2 ^ 47 := by cases twin <;> rfl
  have hlock : (if lock then 2 ^ 46 else 0) = lock.toNat * 2 ^ 46 := by cases lock <;> rfl
  have htwin_lt := twin.toNat_lt
  have hlock_lt := lock.toNat_lt
  rw [mkHeader, BitVec.toNat_ofNat, htwin, hlock]
  omega

/-- A flag is its bit's value. -/
theorem bit_eq_of_div_mod {n i : Nat} {b : Bool} (h : n / 2 ^ i % 2 = b.toNat) : bit n i = b := by
  rw [bit, Nat.testBit_eq_decide_div_mod_eq, h]
  cases b <;> rfl

/-- Settles O35: in the sum of `mkHeader_toNat` what lies above a field is a multiple of its end and what lies below it is
less than its start. -/
theorem headersReadBack : Obligations.HeadersReadBack := by
  intro cmd tag len addr twin lock operand mask hc ht hl
  have hsum := mkHeader_toNat twin lock hc ht hl addr.isLt operand.isLt mask.isLt
  have htwin := twin.toNat_lt
  have hlock := lock.toNat_lt
  have haddr := addr.isLt
  have hoperand := operand.isLt
  have hmask := mask.isLt
  refine ⟨?cmd, ?tag, ?len, ?addr, ?twin, ?lock, ?operand, ?mask⟩
  case cmd => rw [hdrCmd, bits, hsum]; omega
  case tag => rw [hdrTag, bits, hsum]; omega
  case len => rw [hdrLen, bits, hsum]; omega
  case addr => rw [hdrAddr, bits, hsum]; omega
  case twin => exact bit_eq_of_div_mod (by rw [hsum]; omega)
  case lock => exact bit_eq_of_div_mod (by rw [hsum]; omega)
  case operand => exact BitVec.eq_of_toNat_eq (by rw [hdrOperand, BitVec.toNat_ofNat, bits, hsum]; omega)
  case mask => exact BitVec.eq_of_toNat_eq (by rw [hdrMask, BitVec.toNat_ofNat, bits, hsum]; omega)

/-! ### The atomics (R46) -/

/-- A field of w bytes, in the bits that `nodeSet` writes. -/
theorem fieldOf_eq (v : BitVec 512) (off w : Nat) : fieldOf v off w = bits v.toNat (8 * off + 8 * w - 1) (8 * off) := by
  rw [fieldOf, Nat.mul_add]

/-- Bytes written read back. -/
theorem fieldOf_putBytes {v : BitVec 512} {off w x : Nat} (hw : 0 < w) (ho : off + w ≤ 64) :
    fieldOf (putBytes v off w x) off w = x % 2 ^ (8 * w) := by
  rw [fieldOf_eq, putBytes, nodeSet_bits _ _ _ _ (by omega) (by omega)]

/-- Writing back a field's own value leaves the line. -/
theorem putBytes_fieldOf {v : BitVec 512} {off w : Nat} (hw : 0 < w) (ho : off + w ≤ 64) :
    putBytes v off w (fieldOf v off w) = v := by
  rw [fieldOf_eq, putBytes, nodeSet_self _ _ _ (by omega) (by omega)]

/-- No bit outside the bytes written changes. -/
theorem putBytes_other {v : BitVec 512} {off w x j : Nat} (hw : 0 < w) (ho : off + w ≤ 64) (hj : j < 8 * off ∨ 8 * (off + w) ≤ j) :
    (putBytes v off w x).getLsbD j = v.getLsbD j :=
  nodeSet_other _ _ _ _ _ (by omega) (by omega) (by omega)

theorem atomicBytes_pos (cmd : Nat) : 0 < atomicBytes cmd := by
  unfold atomicBytes; split <;> decide

/-- What an atomic stores in its field. -/
def atomicNew (cmd x y old : Nat) : Nat :=
  if cmd = 0x20 || cmd = 0x21 then (if old = x then y else old) else if cmd = 0x22 then (old + y) % 2 ^ 64 else y

theorem atomicEffect_line (cmd off x y : Nat) (v : BitVec 512) : (atomicEffect cmd off x y v).line =
    putBytes v off (atomicBytes cmd) (atomicNew cmd x y (fieldOf v off (atomicBytes cmd))) := rfl

/-- The field an atomic leaves. -/
theorem fieldOf_atomicEffect {cmd off x y : Nat} {v : BitVec 512} (ho : off + atomicBytes cmd ≤ 64) :
    fieldOf (atomicEffect cmd off x y v).line off (atomicBytes cmd) =
      atomicNew cmd x y (fieldOf v off (atomicBytes cmd)) % 2 ^ (8 * atomicBytes cmd) := by
  rw [atomicEffect_line, fieldOf_putBytes (atomicBytes_pos cmd) ho]

/-- CAS stores the swap value where the old one equals the compare value, else the old one. -/
theorem atomicNew_cas {cmd x y old : Nat} (h : cmd = 0x20 ∨ cmd = 0x21) :
    atomicNew cmd x y old = if old = x then y else old := by
  simp [atomicNew, h]

/-- Settles O34: the line by `putBytes`, the field by what the atomic stores in it. -/
theorem atomicArithmetic : Obligations.AtomicArithmetic := by
  intro cmd off x y v _ ho
  refine ⟨rfl, fun hcas => ⟨fun heq => ?_, fun hne => ?_⟩, ?_, ?_, fun j hj => putBytes_other (atomicBytes_pos cmd) ho hj⟩
  · rw [fieldOf_atomicEffect ho, atomicNew_cas hcas, if_pos heq]
  · rw [atomicEffect_line, atomicNew_cas hcas, if_neg hne, putBytes_fieldOf (atomicBytes_pos cmd) ho]
  · rintro rfl
    exact (fieldOf_atomicEffect ho).trans (Nat.mod_mod _ _)
  · rintro rfl
    exact fieldOf_atomicEffect ho

end Sys2Proof.Machine

/-! PROOF. How requests begin at their port: packets received (R47, R60), requests issued (R44-R50) and refused (R48, R58). -/

namespace Sys2Proof.Machine

/-! ### The ingress bridge (R47, R60) -/

/-- Writing back a port's own value leaves every port. -/
theorem setPort_self_port (s : State) (p k : Nat) : (s.setPort p (s.port p)).port k = s.port k := by
  by_cases h : k = p
  · rw [h, State.setPort_same]
  · exact State.setPort_ne s p k _ h

/-- Writing a port changes no part but the ports. -/
theorem setPort_frame (s : State) (p : Nat) (q : Port) : Frame [.ports] s (s.setPort p q) :=
  (State.setPort_keeps s p q).frame_of_coversRest rfl

/-- With nothing half received, a header whose check fails is discarded with cause 0, counted (R47). -/
theorem feed_badHeader {p : Nat} {u : BitVec 512} {l : List (BitVec 512 × Bool)} {s : State} (hp : (s.port p).partPacket = none) :
    feed p ((u, false) :: l) s = portCause p 0 ((s.setPort p (s.port p)).addObj (0x2200 + p) 0x12 1) := by
  simp [feed, feedUnits, hp]

/-- With nothing half received, a good header without a credit is discarded with cause 3 (R60). -/
theorem feed_noCredit {p : Nat} {u : BitVec 512} {l : List (BitVec 512 × Bool)} {s : State} (hp : (s.port p).partPacket = none)
    (hc : (s.port p).credits = 0) : feed p ((u, true) :: l) s = portCause p 3 (s.setPort p (s.port p)) := by
  simp [feed, feedUnits, hp, hc]

/-- A port with nothing half received drops nothing. -/
theorem Port.dropPart_none {q : Port} (h : q.partPacket = none) : q.dropPart = q := by
  simp only [Port.dropPart, h]

/-- A cause leaves the ports. -/
theorem portCause_port (p b : Nat) (s : State) (y : Nat) : (portCause p b s).port y = s.port y :=
  port_congr ((portCause_keeps ..).ports (by decide)) y

/-- Settles O30: a packet by `feed_packet`, a bad header and a missing credit by the discards of the bridge. -/
theorem packetsReceived : Obligations.PacketsReceived := by
  refine ⟨fun port u rest s hp => ⟨fun hu hc ho => ?_, fun hu => ?_, fun hu hc => ?_⟩, fun port s => ⟨_, rfl, rfl, fun hp => ?_⟩⟩
  · refine ⟨_, rfl, ?_⟩
    have hbad : (rest.map (fun u => (unitPayload u, unitOk u))).any (fun e => !e.2) = !(rest.all unitOk) := by
      rw [List.any_map, List.not_all_eq_any_not]; rfl
    have hfeed := feed_packet port (unitPayload u) (rest.map (fun u => (unitPayload u, unitOk u))) s hp (by simpa using hc)
      (by simpa using ho)
    simpa only [receivePacket, List.map_cons, hu, hbad, List.map_map, List.length_map, Function.comp_def] using hfeed
  · refine ⟨_, _, rfl, ?_, setPort_frame s port (s.port port), setPort_self_port s port⟩
    simp only [receivePacket, List.map_cons, hu, feed_badHeader hp]
  · refine ⟨_, _, rfl, ?_, setPort_frame s port (s.port port), setPort_self_port s port⟩
    simp only [receivePacket, List.map_cons, hu, feed_noCredit hp hc]
  · rw [portCause_port, State.modPort_same, Port.dropPart_none hp]

/-! ### Requests issued (R44-R50) -/

/-- A request that its port can issue is registered and handed to its slice. -/
theorem issue_issued {p c : Nat} {h : BitVec 512} {data : List (BitVec 512)} {g : Grant} {s : State}
    (hi : Issuable p c h data g s) : Issued p c h data g s (issue p h data s) := by
  obtain ⟨hcredits, hunits, hpasses⟩ := hi
  obtain ⟨u, hissue, hregistered⟩ := issue_registered p c h data g s hcredits hunits hpasses
  exact ⟨u, hregistered, hissue⟩

/-- Settles O31: each row issues its header and data, by `issue_issued`. -/
theorem requestsIssued : Obligations.RequestsIssued :=
  ⟨fun _ _ _ _ _ _ _ _ h => ⟨_, rfl, issue_issued h⟩,
   fun _ _ _ _ _ _ _ _ h => ⟨_, rfl, issue_issued h⟩,
   fun _ _ _ _ _ _ _ _ _ h => ⟨_, rfl, issue_issued h⟩,
   fun _ _ _ _ _ _ _ _ _ _ h => ⟨_, rfl, issue_issued h⟩,
   fun _ _ _ _ _ _ _ _ _ h => ⟨_, rfl, issue_issued h⟩,
   fun _ _ _ _ _ _ _ _ _ h => ⟨_, rfl, issue_issued h⟩,
   fun _ _ _ _ _ _ _ _ h => ⟨_, rfl, issue_issued h⟩,
   fun _ _ _ _ _ _ _ _ h => ⟨_, rfl, issue_issued h⟩⟩

/-! ### Requests refused (R48, R58) -/

/-- A packet that fails checks 1 to 3 and is in no locked sequence completes with the status of the first that fails. -/
theorem admitFront_refused {p : Nat} {k : Packet} {rest : List Packet} {code : Nat} {s : State}
    (hb : (s.port p).bridge = k :: rest) (hn : k.need = 0) (ho : portClosed s p = false)
    (ht : ((s.port p).tags.any (fun u => u.tag == hdrTag k.hdr)) = false) (hc : checkRequest s p k.hdr k.data k.bad = some code)
    (hk : tokensOk s p 256 = true) (hl : (s.port p).lock = none) (hh : hdrLock k.hdr = false) :
    admitFront p s = registerFailed p k code s := by
  have hseq : inSequence s p k.hdr = false := by simp [inSequence, hl, hh]
  have hall : checkAll s p k = some code := by simp only [checkAll, hc]
  have hlock : lockTimeout p s = s := by simp only [lockTimeout, hl]
  simp [admitFront, hb, hn, ho, ht, hlock, admitChecked, hall, hk, hseq]

/-- The request that a packet failing a check of R48 is registered as, due 200 ns after its stamp. -/
def refusedReq (s : State) (p : Nat) (k : Packet) : Req :=
  { mkReq s p k (lastSlotBy (s.stampNow p) 200) false [] none with alone := false }

/-- A packet whose data are good is registered, then answered by its port. -/
theorem registerFailed_good {p : Nat} {k : Packet} {status : Nat} {s : State} (hk : k.bad = false) :
    registerFailed p k status s = respond (plainResp (refusedReq s p k) status) (register p k (refusedReq s p k) 256 s) := by
  simp only [registerFailed, hk, Bool.false_eq_true, if_false]
  rfl

/-- Such a packet, registered, has its response last in the buffer. -/
theorem registerFailed_port {p : Nat} {k : Packet} {rest : List Packet} {status : Nat} {s : State} (hp : p < 96)
    (hb : (s.port p).bridge = k :: rest) (hk : k.bad = false) (hu : (s.port p).respUnits < 32)
    (ha : (s.port p).answered (hdrTag k.hdr) (s.stampNow p) = false) :
    (registerFailed p k status s).port p = { (register p k (refusedReq s p k) 256 s).port p with
      resp := (s.port p).resp ++ [plainResp (refusedReq s p k) status] } := by
  obtain ⟨htags, -, -⟩ := register_port p k (refusedReq s p k) 256 s rest hb
  have hresp := register_resp p k (refusedReq s p k) 256 s
  rw [registerFailed_good hk, ← hresp]
  refine respond_port (r := plainResp (refusedReq s p k) status) hp ?_ ?_ ?_
  · change ((register p k (refusedReq s p k) 256 s).port p).tags.any _ = true
    simp [htags, plainResp]
  · change ((register p k (refusedReq s p k) 256 s).port p).answered _ _ = false
    rw [Port.answered, hresp]
    exact ha
  · change ((register p k (refusedReq s p k) 256 s).port p).respUnits + 1 ≤ 32
    rw [Port.respUnits, hresp]
    exact hu

/-- Settles O32: the packet completes by `registerFailed`, which keeps the network and the order buffers. -/
theorem requestRefused : Obligations.RequestRefused := by
  intro port k rest code s hb hn ho ht hc hk hl hh hbad hu ha
  have hport := registerFailed_port (status := code) port.isLt hb hbad hu ha
  have hkeeps := registerFailed_keeps port k code s
  exact ⟨registerFailed port k code s, plainResp (refusedReq s port k) code, congrArg Host.Outcome.next (admitFront_refused hb hn ho ht hc hk hl hh),
    rfl, rfl, rfl, rfl, rfl, congrArg Port.resp hport,
    (congrArg Port.lastReg hport).trans (register_last port k (refusedReq s port k) 256 s), hkeeps.transit (by decide), hkeeps.order (by decide)⟩

end Sys2Proof.Machine

/-! PROOF. The Crossing network: a cycle of an output (R75), failed transfers and the retry of a Failed link (R83, R84), the
arrival of a request at its slice (R172). -/

namespace Sys2Proof.Machine

/-! ### A cycle of an output (R75) -/

/-- The head its reserved entry belongs to goes, counted in codes 1 and 2. -/
theorem arbitrate_reserved {x out : Nat} {h : Head} {s : State} (hl : linkOk (beforeCycle x out s) x out = true)
    (hr : reservedHead (beforeCycle x out s) x out = some h) :
    arbitrate x out s = countCrossing x 2 out 1 (countCrossing x 1 out 1 (sendHead x out h (beforeCycle x out s))) := by
  simp [arbitrate, hl, hr]

/-- s with the win of head h counted (R392): a unit sent, the losses of the others, its class, a released entry it used. -/
def winCounted (x out losers : Nat) (h : Head) (s : State) : State :=
  let t := countCrossing x (if h.unit.cls == .u then 3 else 4) out 1 (countCrossing x 7 out losers (countCrossing x 1 out 1 s))
  if bit (nextEntry t x out) 31 then countCrossing x 5 out 1 t else t

/-- Counting a win leaves the Crossings. -/
theorem winCounted_at_xbar (x out losers : Nat) (h : Head) (s : State) (y : Nat) : (winCounted x out losers h s).xbar y = s.xbar y := by
  unfold winCounted
  extract_lets t
  have ht : t.xbar y = s.xbar y := by simp only [t, countCrossing_at_xbar]
  split
  · rw [countCrossing_at_xbar, ht]
  · exact ht

/-- The heads of queues that may move: a credit downstream, and the queue theirs (R70). -/
def movable (s : State) (x out : Nat) : List Head :=
  (headsFor s x out).filter (fun h => hasCredit s x out h && ownerAllows s x out h)

/-- s with requester p the last to have won output `out` of x, whose ring was `ring`. -/
def ringWon (x out p : Nat) (ring : List Nat) (s : State) : State :=
  s.setXbar x { s.xbar x with rank := tput (s.xbar x).rank out (ringWin ring p) [] }

/-- With no reserved head the winner goes, once its win is counted and it ranks last. -/
theorem arbitrate_winner {x out : Nat} {h : Head} {s v : State} (hv : v = beforeCycle x out s) (hl : linkOk v x out = true)
    (hr : reservedHead v x out = none) (hw : arbWinner v (tget (v.xbar x).rank out []) (movable v x out) = some h) :
    arbitrate x out s = sendHead x out h
      (ringWon x out h.req (tget (v.xbar x).rank out []) (winCounted x out ((movable v x out).length - 1) h v)) := by
  subst hv
  unfold movable at hw
  simp only [arbitrate, hl, hr, hw, Bool.not_true, Bool.false_eq_true, if_false]
  rfl

/-! ### Failed transfers (R83, R84) -/

/-- Counting a failed transfer changes counters only. -/
theorem countReplay_form (x i : Nat) (s : State) : EvForm s (countReplay x i s) :=
  (EvForm.addObj ..).trans (countCrossing_form ..)

/-- Up to the sixteenth failed replay in a row, the Crossing holds the failure counted and its queues without the unit. -/
theorem linkCrcFail_xbar {x i : Nat} {s : State} (hf : linkFailed s x i = false) (hn : tget (s.xbar x).fails i 0 < 16) :
    (linkCrcFail x i s).xbar x = discardUnit i ((s.cycleNow + 6) % cycleMod)
      { s.xbar x with fails := tput (s.xbar x).fails i (tget (s.xbar x).fails i 0 + 1) 0 } := by
  have hn17 : ¬ 17 ≤ tget (s.xbar x).fails i 0 + 1 := by omega
  simp only [linkCrcFail, hf, hn17, Bool.false_eq_true, if_false, crossingCause_at_xbar, (countReplay_form ..).at_xbar,
    State.setXbar_same]

/-- The unit as its replay brings it: off its chain, and ahead of the others if it was on one or is of class G. -/
def NetUnit.again (u : NetUnit) : NetUnit :=
  { u with chain := none, replayed := u.replayed || (u.chain.isSome || u.cls == .g) }

/-- With no replay on its way, the last unit of the queue that the last arrival entered is discarded. -/
theorem discardUnit_queued {i due q : Nat} {b : Xbar} {l : List NetUnit} {u : NetUnit} (hr : tfind b.redo i = none) (hq : q < 8)
    (ha : tget b.arrived i 0 = q + 1) (hl : b.queue i q = l ++ [u]) :
    discardUnit i due b = { b.setQueue i q l with redo := tins b.redo i (u.again, due), arrived := tdel b.arrived i } := by
  have hne : q ≠ 8 := by omega
  simp only [discardUnit, hr, ha, Nat.add_sub_cancel, Nat.reduceEqDiff, hne, if_false, hl, List.getLast?_concat, List.dropLast_concat]
  rfl

theorem Xbar.setQueue_same (b : Xbar) (i q : Nat) (l : List NetUnit) : (b.setQueue i q l).queue i q = l :=
  tget_tput_same ..

/-! ### The retry of a Failed link (R84) -/

/-- Counting on a Crossing leaves every object but its two counters. -/
theorem countCrossing_obj {x code o k idx sub : Nat} {s : State} (hs : sub < 256) (h : sub ≠ 0x38 ∧ sub ≠ 0x39) :
    (countCrossing x code o k s).obj idx sub = s.obj idx sub := by
  unfold countCrossing
  split
  · rfl
  · refine foldl_keeps (fun t => t.obj idx sub = s.obj idx sub) _ _ s rfl (fun t j hj ht => ?_)
    have hj2 := List.mem_range.mp hj
    simp only
    split
    · rw [State.addObj_ne _ _ _ _ _ _ (fun e => by have := (objKey_inj _ _ _ _ hs (by omega) e).2; omega), ht]
    · exact ht

/-- Counting a failed transfer leaves the unit that an armed injection names (R466). -/
theorem countReplay_injectUnit {x i : Nat} {s : State} (hx : x < 64) (hi : i < 4) :
    (countReplay x i s).obj 0xB001 4 = s.obj 0xB001 4 := by
  unfold countReplay
  simp only
  rw [countCrossing_obj (by decide) (by decide), State.addObj_ne]
  unfold objKey; omega

/-- s with the passed retry of input i of x counted, its failures forgotten and its link in service. -/
def retried (x i : Nat) (s : State) : State :=
  let t := (countReplay x i s).setObjBit (0x4000 + x) 1 0 true
  (t.setXbar x { t.xbar x with fails := tdel (t.xbar x).fails i }).setObjBit (0x4000 + x) 6 i false

theorem linkRetry_passed {x i : Nat} {s : State} (hf : linkFailed s x i = true) (hi : injectLink s x i = false) :
    linkRetry x i true s = replayArrives x i (retried x i s) := by
  simp [linkRetry, hf, hi, retried]

theorem retried_linkFailed (x i : Nat) (s : State) : linkFailed (retried x i s) x i = false := by
  simp only [linkFailed, retried, State.setObjBit_same, bit_setBit]

theorem retried_xbar (x i : Nat) (s : State) : (retried x i s).xbar x = { s.xbar x with fails := tdel (s.xbar x).fails i } := by
  simp only [retried, State.setObjBit_at_xbar, State.setXbar_same, (countReplay_form x i s).at_xbar]

/-- A retry leaves an injection as it is armed. -/
theorem retried_injectLink {x i : Nat} {s : State} (hx : x < 64) (hi : i < 4) : injectLink (retried x i s) x i = injectLink s x i := by
  have hobj : (retried x i s).obj 0xB001 4 = s.obj 0xB001 4 := by
    simp only [retried]
    rw [State.setObjBit_ne _ _ _ _ _ _ _ (by unfold objKey; omega), State.setXbar_at_obj,
      State.setObjBit_ne _ _ _ _ _ _ _ (by unfold objKey; omega), countReplay_injectUnit hx hi]
  have hblk : (retried x i s).blk = s.blk := (countReplay_form x i s).blk
  simp only [injectLink, injectArmed, hobj, hblk]

/-- A unit that no injection hits takes its place at input i of x: neither failures nor a replay there change. -/
theorem unitArrives_good {x i : Nat} {s : State} (u : NetUnit) (hi : injectLink s x i = false) :
    ∃ b, unitArrives x i u s = s.setXbar x b ∧ b.fails = (s.xbar x).fails ∧ b.redo = (s.xbar x).redo := by
  have hset : ∀ b, injectLink (s.setXbar x b) x i = false := fun _ => hi
  simp only [unitArrives, hset, Bool.false_eq_true, if_false]
  refine ⟨_, rfl, ?_⟩
  split <;> exact ⟨rfl, rfl⟩

/-- With no injection armed, a replay that arrives is on its way no longer; the link's state and failures stay. -/
theorem replayArrives_good {x i : Nat} {s : State} (hi : injectLink s x i = false) :
    linkFailed (replayArrives x i s) x i = linkFailed s x i ∧ ((replayArrives x i s).xbar x).fails = (s.xbar x).fails ∧
      tfind ((replayArrives x i s).xbar x).redo i = none := by
  cases hr : tfind (s.xbar x).redo i with
  | none => simp only [replayArrives, hr, and_self]
  | some r =>
    obtain ⟨b, hb, hfails, hredo⟩ := unitArrives_good r.1 (s := s.setXbar x { s.xbar x with redo := tdel (s.xbar x).redo i }) hi
    simp only [replayArrives, hr, hb, State.setXbar_same, hfails, hredo, tfind_tdel_same, and_true]
    rfl

/-! ### Arrival at a slice (R172) -/

/-- A request in the network with no Failed link on its way arrives; its units leave the network. -/
theorem arriveAt_transit {c p tag : Nat} {r : Req} {s : State}
    (hr : (tget s.transit c []).find? (fun r => r.port == p && r.tag == tag) = some r) (hb : transitBehind s c r = false) :
    arriveAt c p tag s = advanceHorizon c (arrive r (dropUnits 0 p tag
      { s with transit := tput s.transit c ((tget s.transit c []).filter (fun x => x.stamp != r.stamp)) [] })) := by
  simp [arriveAt, hr, hb]

/-- A request outside locked sequences leaves its queue alone. -/
theorem headGroup_alone {r : Req} {rest : List Req} (h : r.group = none) : headGroup (r :: rest) = [r] := by
  simp only [headGroup, h]

/-- The request at the front of its port's queue arrives where its way is open. -/
theorem arriveAt_front {c p tag : Nat} {r : Req} {rest : List Req} {s : State}
    (hn : (tget s.transit c []).find? (fun r => r.port == p && r.tag == tag) = none) (hf : routeFailed s p c = false)
    (hq : (s.port p).ingress = r :: rest) (hg : r.group = none) (ht : r.tag = tag) (hc : reqChan s r = some c)
    (hh : s.net.hold.contains 0 = false) :
    arriveAt c p tag s = advanceHorizon c (arrive r (s.modPort p (fun q => { q with ingress := rest }))) := by
  have hhead := headGroup_alone (rest := rest) hg
  have hhold : 0 ∉ s.net.hold := by simpa using hh
  simp [arriveAt, hn, hf, hq, hhead, ht, hc, hhold, State.modPort]

/-! ### The obligation -/

/-- Settles O41: the cycle by the two equations of `arbitrate`, the failure by `discardUnit_queued`, the retry by the replay
that follows it, the arrivals by the two equations of `arriveAt`. -/
theorem networkMoves : Obligations.NetworkMoves := by
  refine ⟨fun x out h s v hv hl => ⟨fun hr => ?_, fun hr hw => ?_⟩, fun x input s b hf hn hb => ?_, fun x input s hf hi => ?_,
    fun c port tag r rest s v => ⟨fun hr hb hv => ?_, fun hn hf hq hg ht hc hh => ?_⟩⟩
  · subst hv
    exact congrArg Host.Outcome.next (arbitrate_reserved hl hr)
  · refine ⟨_, _, rfl, arbitrate_winner hv hl hr hw, ?_⟩
    rw [ringWon, State.setXbar_same, winCounted_at_xbar]
  · have hx := linkCrcFail_xbar hf hn
    rw [← hb] at hx
    refine ⟨_, rfl, hx, fun l u q hr ha hl => ?_⟩
    have hd := discardUnit_queued (b := b) (due := (s.cycleNow + 6) % cycleMod) (by rw [hb]; exact hr) q.isLt (by rw [hb]; exact ha)
      (by rw [hb]; exact hl)
    rw [hx, hd]
    exact ⟨Xbar.setQueue_same .., tfind_tins_same ..⟩
  · have hi' : injectLink (retried x input s) x input = false := (retried_injectLink x.isLt input.isLt).trans hi
    obtain ⟨hlink, hfails, hredo⟩ := replayArrives_good hi'
    refine ⟨_, congrArg Host.Outcome.next (linkRetry_passed hf hi), hlink.trans (retried_linkFailed ..), ?_, fun _ _ => hredo⟩
    rw [hfails, retried_xbar]
    exact tfind_tdel_same ..
  · subst hv
    exact congrArg Host.Outcome.next (arriveAt_transit hr hb)
  · exact congrArg Host.Outcome.next (arriveAt_front hn hf hq hg ht hc hh)

end Sys2Proof.Machine

/-! PROOF. The address map of a district: channel and line of a district-local address, and the way back (R94, R95). -/

namespace Sys2Proof.Machine

/-! ### The parameters n and s of the map (R94) -/

theorem widthBits_two_pow : ∀ n ∈ [0, 2, 3, 4], widthBits (2 ^ n) = n := by decide

/-- A contiguous run on one channel is a whole number of lines: the channel select stands above the byte in the line. -/
theorem line_dvd_run (order : Nat) : 64 ∣ 2 ^ orderShift order := by
  have hs : 6 ≤ orderShift order := by unfold orderShift; split_ifs <;> decide
  exact Nat.pow_dvd_pow 2 hs

/-! ### The map and its inverse (R95) -/

theorem Desc.place_zero {x : Desc} {n : Nat} (hw : x.width = 2 ^ n) (hn : n ∈ [0, 2, 3, 4]) (a : Nat) :
    x.place a 0 = (x.first + a / 2 ^ orderShift x.order % 2 ^ n,
      (a / 2 ^ (orderShift x.order + n) * 2 ^ orderShift x.order + a % 2 ^ orderShift x.order) / 64) := by
  simp only [Desc.place, hw, widthBits_two_pow n hn, Nat.add_zero, Nat.mod_mod]

theorem Desc.localOf_add {x : Desc} {n : Nat} (hw : x.width = 2 ^ n) (hn : n ∈ [0, 2, 3, 4]) (i l : Nat) :
    x.localOf (x.first + i) l = 64 * l / 2 ^ orderShift x.order * 2 ^ (orderShift x.order + n) + i * 2 ^ orderShift x.order +
      64 * l % 2 ^ orderShift x.order := by
  simp only [Desc.localOf, hw, widthBits_two_pow n hn, Nat.add_sub_cancel_left]

/-- The line-aligned part of a sum whose first part is line-aligned. -/
theorem lineAligned_add {u : Nat} (hu : 64 ∣ u) (r : Nat) : (u + r) / 64 * 64 = u + r / 64 * 64 := by
  rw [Nat.add_div_of_dvd_right hu, Nat.add_mul, Nat.div_mul_cancel hu]

/-- An address is its three fields: above the channel select, the select, below it. -/
theorem selectFields_sum (a s n : Nat) : a / 2 ^ (s + n) * 2 ^ (s + n) + a / 2 ^ s % 2 ^ n * 2 ^ s + a % 2 ^ s = a := by
  have hselect : a / 2 ^ (s + n) * 2 ^ n + a / 2 ^ s % 2 ^ n = a / 2 ^ s := by
    rw [Nat.pow_add, ← Nat.div_div_eq_div_mul, Nat.div_add_mod']
  calc a / 2 ^ (s + n) * 2 ^ (s + n) + a / 2 ^ s % 2 ^ n * 2 ^ s + a % 2 ^ s
      = (a / 2 ^ (s + n) * 2 ^ n + a / 2 ^ s % 2 ^ n) * 2 ^ s + a % 2 ^ s := by ring
    _ = a := by rw [hselect, Nat.div_add_mod']

/-- The line that R95 places lies in run q of its channel, at the line-aligned part of its place in the run; with the
channel's select put back between the two, the sum is the line-aligned address. -/
theorem Desc.localOf_place {x : Desc} {n : Nat} (hw : x.width = 2 ^ n) (hn : n ∈ [0, 2, 3, 4]) (a : Nat) :
    x.localOf (x.place a 0).1 (x.place a 0).2 = a / 64 * 64 := by
  have hrun := line_dvd_run x.order
  have hsum := selectFields_sum a (orderShift x.order) n
  rw [Desc.place_zero hw hn, Desc.localOf_add hw hn]
  generalize orderShift x.order = s at hrun hsum ⊢
  have hoffset : 64 * ((a / 2 ^ (s + n) * 2 ^ s + a % 2 ^ s) / 64) = a % 2 ^ s / 64 * 64 + 2 ^ s * (a / 2 ^ (s + n)) := by
    rw [Nat.mul_comm 64, lineAligned_add (hrun.mul_left _), Nat.add_comm, Nat.mul_comm (2 ^ s)]
  have hlow : a % 2 ^ s / 64 * 64 < 2 ^ s := (Nat.div_mul_le_self _ _).trans_lt (Nat.mod_lt _ (Nat.two_pow_pos s))
  obtain ⟨hdiv, hmod⟩ := (Nat.div_mod_unique (Nat.two_pow_pos s)).2 ⟨hoffset.symm, hlow⟩
  have hhigh : 64 ∣ a / 2 ^ (s + n) * 2 ^ (s + n) + a / 2 ^ s % 2 ^ n * 2 ^ s :=
    Nat.dvd_add ((hrun.trans (Nat.pow_dvd_pow 2 (Nat.le_add_right s n))).mul_left _) (hrun.mul_left _)
  rw [hdiv, hmod, ← lineAligned_add hhigh, hsum]

/-! ### The obligation -/

/-- Settles O36: the map by its equation, its inverse by `Desc.localOf_place`. -/
theorem addressMapInverts : Obligations.AddressMapInverts :=
  fun _ a _ hw hn _ => ⟨Desc.place_zero hw hn a, Desc.localOf_place hw hn a⟩

end Sys2Proof.Machine

/-! PROOF. Upkeep of one channel leaves every other channel as it was (R115, R142, R148, R150, R152, R158, R230, R234, R310, R318,
R321). -/

namespace Sys2Proof.Machine

namespace OtherChans

variable {c : Nat} {s t u : State}

/-! ### Updates of the channel and of the objects beside it -/

theorem setObj (h : OtherChans c s t) (i k v : Nat) : OtherChans c s (t.setObj i k v) := h.same (State.setObj_chans ..)

theorem addObj (h : OtherChans c s t) (i k v : Nat) : OtherChans c s (t.addObj i k v) := h.same (State.addObj_chans ..)

theorem raiseChan (h : OtherChans c s t) (d k sub rankSlot : Nat) : OtherChans c s (t.raiseChan d k sub rankSlot) :=
  h.same ((State.raiseChan_keeps ..).chans (by decide))

theorem calCause (h : OtherChans c s t) (d b : Nat) : OtherChans c s (Machine.calCause d b t) :=
  h.same ((calCause_keeps ..).chans (by decide))

theorem loadLane (h : OtherChans c s t) (l : Nat) (bs : List (Nat × Byte)) : OtherChans c s (Machine.loadLane c l bs t) :=
  h.modChan _

theorem scrubClaim (h : OtherChans c s t) : OtherChans c s (Machine.scrubClaim t).1 :=
  h.same ((scrubClaim_keeps ..).chans (by decide))

theorem ite {p : Prop} [Decidable p] (h : OtherChans c s t) (k : OtherChans c s u) : OtherChans c s (if p then t else u) := by
  split
  · exact h
  · exact k

/-! ### What the rows do on their channel -/

theorem guardEntries (h : OtherChans c s t) : OtherChans c s (Machine.guardEntries c t) := h.modChan _

theorem deviceErrorLeak (h : OtherChans c s t) : OtherChans c s (Machine.deviceErrorLeak c t) := h.modChan _

theorem rowIdle (h : OtherChans c s t) (key : Nat) : OtherChans c s (Machine.rowIdle c key t) :=
  (h.closeBank _ _).ite h

theorem rfmForced (h : OtherChans c s t) (key : Nat) : OtherChans c s (Machine.rfmForced c key t) :=
  ((((h.addObj _ _ _).raiseChan _ _ _ _).closeBank _ _).issueRfm _ _).ite h

theorem alertEnd (h : OtherChans c s t) (sub : Nat) : OtherChans c s (Machine.alertEnd c sub t) := by
  unfold Machine.alertEnd
  split
  · exact h.ite ((h.modChan _).heldRefresh _)
  · exact h

/-- A release notes commands, closes rows and issues commands again, all on its channel. -/
theorem alertReleased (h : OtherChans c s t) (sub : Nat) : OtherChans c s (Machine.alertReleased c sub t) := by
  unfold Machine.alertReleased
  split
  · refine OtherChans.ite ?_ h
    refine foldl_keeps (fun a : State × LockPlan => OtherChans c s a.1) _ _ _ ?_ (fun a e _ ha => replayOp a ha _ e)
    refine OtherChans.foldl ?_ (fun _ e k => k.replayRefresh _ e)
    refine OtherChans.foldl ?_ (fun _ _ k => k.modChan _)
    refine OtherChans.foldl ?_ (fun _ _ k => k.noteCmd _)
    exact (h.modChan _).foldl (fun _ _ k => k.noteCmd _)
  · exact h

theorem powerExit (h : OtherChans c s t) : OtherChans c s (Machine.powerExit c t) := by
  unfold Machine.powerExit
  refine h.ite ?_
  split
  · exact (h.setChan _).ite h
  · exact h

theorem scrubRun (h : OtherChans c s t) : OtherChans c s (Machine.scrubRun c t) :=
  have presented := fun x => h.scrubClaim.setChan x
  h.ite (h.scrubClaim.ite ((((presented _).setCtx _ _ _).ite (presented _)).runCtx _ _ _))

theorem applyBaseline (h : OtherChans c s t) (temp : Int) : OtherChans c s (Machine.applyBaseline c temp t) := by
  unfold Machine.applyBaseline
  exact ((h.forN fun _ _ hx => ((hx.loadLane _ _).modChan _).ite hx).loadLane _ _).modChan _

theorem tempAdjust (h : OtherChans c s t) : OtherChans c s (Machine.tempAdjust c t) :=
  (h.applyBaseline _).ite h

theorem firmwareTimeout (h : OtherChans c s t) : OtherChans c s (Machine.firmwareTimeout c t) :=
  h.ite ((h.setChan _).ite (h.setObj _ _ _).stopHelper)

theorem swapAll (h : OtherChans c s t) : OtherChans c s (Machine.swapAll c t) :=
  h.forN fun _ _ hx => (hx.swapLane _).ite hx

theorem calSwap (h : OtherChans c s t) : OtherChans c s (Machine.calSwap c t) :=
  have counted := fun x k => (h.setChan x).addObj (calIdx c) k 1
  h.ite ((((counted _ _).calCause _ _).ite (counted _ _)).ite (counted _ _).swapAll)

/-- A command that answers a state with the other channels as they were leaves channel k ≠ c. -/
theorem of_next {k : Nat} (h : OtherChans c s t) (hk : k ≠ c) (hu : (.next t : Out) = .next u) :
    u.chan k = s.chan k := by
  cases hu
  exact h k hk

end OtherChans

/-! ### The obligation -/

/-- Settles O6: every row answers what one function of channel c makes of the state, and each leaves the other channels. -/
theorem otherChannelsKept : Obligations.OtherChannelsKept := by
  intro c sub rankSlot bank k s t hk
  have same := OtherChans.refl (c := c) s
  exact ⟨same.guardEntries.of_next hk, (same.modChan _).of_next hk, same.deviceErrorLeak.of_next hk, (same.rowIdle _).of_next hk,
    (same.rfmForced _).of_next hk, (same.alertEnd _).of_next hk, (same.alertReleased _).of_next hk, same.powerExit.of_next hk,
    same.scrubRun.of_next hk, same.tempAdjust.of_next hk, same.firmwareTimeout.of_next hk, same.calSwap.of_next hk⟩

end Sys2Proof.Machine

/-! PROOF. The channel arbiter: the grant of a position (R112), guarded entries (R115), the close of a gate window (R120, R121) and
the start of a scrub run (R234). -/

namespace Sys2Proof.Machine

/-! ### Granting a position (R112) -/

/-- A channel that grants is not one that grants training alone. -/
theorem ChanSt.not_training_of_grants {x : ChanSt} (h : x.grants = true) : (x == .untrained || x == .training) = false := by
  cases x <;> simp [ChanSt.grants] at h ⊢

/-- Nothing holds a position in slot t of channel c back from arbitration: the channel is supplied, grants and is awake, its yard
keeps up, no lock runs, and the slot is neither a refresh nor a swap slot. -/
structure PositionFree (c t : Nat) (u : State) : Prop where
  supplied : u.sup.vddpCut = false
  grants : (u.chan c).st.grants = true
  awake : (u.chan c).pstate = .active
  yardReady : u.yardBehind c = false
  unlocked : (u.chan c).lock = none
  noRefresh : u.inRefresh c (u.refreshDoubled c) t = false
  noSwap : u.swapSlot c t = false

/-- A free position in Rotating mode: its choice is carried out, then the locks it skipped are passed, overdue reads are marked and
refused write-backs are tried again. -/
theorem grantPosition_rotating {c pos : Nat} {s u v : State} (hp : s.pSlot c ≠ 0) (hpos : pos = nextPosition s c)
    (hu : u = releaseLock c pos (s.modChan c (fun ch => { ch with pos := pos })))
    (hv : v = writeMode c pos 1 (writeMode c pos 0 u)) (hfree : PositionFree c (pos / s.pSlot c % 192) u) (hmode : v.arbMode c = 0) :
    grantPosition c s = retryWriteBacks c (markOverdue c (pos / s.pSlot c) (pos % s.pSlot c)
      (passLocks c
        (passedLocks v c pos (chooseRotating v c pos (pos / s.pSlot c) (pos / s.pSlot c % 192) (pos % s.pSlot c)))
        (carryOut c pos (pos / s.pSlot c % 192) (pos % s.pSlot c)
          (chooseRotating v c pos (pos / s.pSlot c) (pos / s.pSlot c % 192) (pos % s.pSlot c)) v))) := by
  have htraining := ChanSt.not_training_of_grants hfree.grants
  simp [grantPosition, hp, ← hpos, ← hu, hfree.supplied, hfree.grants, hfree.awake, hfree.yardReady, hfree.unlocked, hfree.noRefresh,
    hfree.noSwap, htraining, ← hv, hmode]

/-! ### The close of a gate window (R120, R121) -/

/-- Rounds of which all but the k-th do nothing come to the k-th. -/
theorem forN_only {α : Type} {n k : Nat} {a : α} {f : Nat → α → α}
    (hother : ∀ j < n, j ≠ k → f j a = a ∧ f j (f k a) = f k a) : forN n a f = if k < n then f k a else a := by
  induction n with
  | zero => rfl
  | succ n ih =>
    have hround : forN (n + 1) a f = f n (forN n a f) := by simp [forN, List.range_succ]
    rw [hround, ih fun j hj => hother j (hj.trans n.lt_succ_self)]
    rcases Nat.lt_trichotomy k n with h | rfl | h
    · rw [if_pos h, if_pos (h.trans n.lt_succ_self), (hother n n.lt_succ_self h.ne').2]
    · rw [if_neg (lt_irrefl k), if_pos k.lt_succ_self]
    · rw [if_neg h.not_gt, if_neg (by omega), (hother n n.lt_succ_self h.ne).1]

/-- The close of a gate window as context k meets it. -/
def closeCtx (c k : Nat) (t : State) : State :=
  let running := match (t.chan c).burst with | some (j, _) => j == k | none => false
  if (tget (t.chan c).bursts k []).isEmpty then t
  else
    let t := t.addObj (chIdx 0x3025 c) 4 1
    if ctxState t c k = 1 && !running then (setCtx c k 2 t).addObj (chIdx 0x3021 c) (0x40 + k) 1 else t

theorem closeGate_eq (c : Nat) (s : State) : closeGate c s = forN 4 s (closeCtx c) := rfl

/-- A context with no burst left. -/
theorem closeCtx_empty {c k : Nat} {t : State} (h : tget (t.chan c).bursts k [] = []) : closeCtx c k t = t := by
  simp [closeCtx, h]

/-- The close counts objects and leaves the channel's queues and bursts. -/
theorem closeCtx_chan (c k : Nat) (t : State) : (closeCtx c k t).chan c = t.chan c := by
  simp only [closeCtx]
  split_ifs <;> simp only [setCtx, State.addObj_at_chan, State.setObj_at_chan]

/-- A running context whose burst waits is deferred and counted, and its burst counts as one that did not fit. -/
theorem closeCtx_waiting {c k n : Nat} {l : List Nat} {s : State} (hk : k < 4) (hburst : tget (s.chan c).bursts k [] = n :: l)
    (hrun : ctxState s c k = 1) (hnone : (s.chan c).burst = none) :
    closeCtx c k s = (setCtx c k 2 (s.addObj (chIdx 0x3025 c) 4 1)).addObj (chIdx 0x3021 c) (0x40 + k) 1 := by
  have hkept : ctxState (s.addObj (chIdx 0x3025 c) 4 1) c k = 1 :=
    (State.addObj_ne _ _ _ _ _ _ (by unfold objKey chIdx; omega)).trans hrun
  simp [closeCtx, hburst, hnone, hkept]

/-- The close of a window in which one context alone has bursts left. -/
theorem closeGate_single {c k : Nat} {s : State} (hk : k < 4) (hothers : ∀ j < 4, j ≠ k → tget (s.chan c).bursts j [] = []) :
    closeGate c s = closeCtx c k s := by
  rw [closeGate_eq, forN_only, if_pos hk]
  intro j hj hne
  exact ⟨closeCtx_empty (hothers j hj hne), closeCtx_empty (by rw [closeCtx_chan]; exact hothers j hj hne)⟩

/-- A deferred context reads Preempted. -/
theorem ctxState_deferred (c k : Nat) (s : State) :
    ctxState ((setCtx c k 2 s).addObj (chIdx 0x3021 c) (0x40 + k) 1) c k = 2 :=
  (State.addObj_ne _ _ _ _ _ _ (by unfold objKey; omega)).trans (State.setObj_same ..)

/-- Deferring a context leaves the count of bursts that did not fit. -/
theorem obj_deferred (c k : Nat) (s : State) (hk : k < 4) :
    ((setCtx c k 2 s).addObj (chIdx 0x3021 c) (0x40 + k) 1).obj (chIdx 0x3025 c) 4 = s.obj (chIdx 0x3025 c) 4 :=
  (State.addObj_ne _ _ _ _ _ _ (by unfold objKey chIdx; omega)).trans (State.setObj_ne _ _ _ _ _ _ (by unfold objKey chIdx; omega))

/-! ### The start of a scrub run (R234) -/

/-- A claim of the pattern store for scrub changes no channel. -/
theorem scrubClaim_chan (s : State) (c : Nat) : (scrubClaim s).1.chan c = s.chan c := by
  simp only [State.chan, (scrubClaim_keeps s).chans (by decide)]

theorem runCtx_chan (d k n : Nat) (s : State) (c : Nat) : (runCtx d k n s).chan c = s.chan c := rfl

theorem chan_ite_setCtx {p : Prop} [Decidable p] (d k v : Nat) (s : State) (c : Nat) :
    (if p then setCtx d k v s else s).chan c = s.chan c := by
  split <;> rfl

/-- A context that begins an operation reads Running. -/
theorem ctxState_runCtx (c k n : Nat) (s : State) : ctxState (runCtx c k n s) c k = 1 :=
  (State.setObj_ne _ _ _ _ _ _ (by unfold objKey; omega)).trans (State.setObj_same ..)

/-- The 64 reads of the next scrub run. -/
def scrubReads (c : Nat) (v : State) : List Entry :=
  (List.range 64).map (fun k =>
    { mkEntry v (64 * v.obj (chIdx 0x3002 c) 3 + k) false .scrub 99 (v.borrowedDeadline 99) (v.stampNow 99) with ctx := some 0 })

/-- A due run that has the pattern store puts its reads at the end of the gate queue as one burst of context 0, which runs. -/
theorem scrubRun_due {c : Nat} {s v : State} (hdue : scrubDue s c = true) (hclaim : scrubClaim s = (v, true)) :
    tget ((scrubRun c s).chan c).bursts 0 [] = [64] ∧ ctxState (scrubRun c s) c 0 = 1 ∧
      ((scrubRun c s).chan c).gate = (s.chan c).gate ++ scrubReads c v := by
  have hchan : v.chan c = s.chan c := by simpa [hclaim] using scrubClaim_chan s c
  simp only [scrubRun, hdue, hclaim, Bool.not_true, Bool.false_eq_true, if_false]
  refine ⟨?_, ctxState_runCtx .., ?_⟩
  · rw [runCtx_chan, chan_ite_setCtx, State.setChan_same, tget_tput_same]
  · rw [runCtx_chan, chan_ite_setCtx, State.setChan_same, hchan]
    rfl

/-! ### The obligation -/

/-- Settles O43: the position by `grantPosition_rotating`, the close of the window by its one context with bursts left, the
scrub run by `scrubRun_due`. -/
theorem channelGrants : Obligations.ChannelGrants := by
  refine ⟨?_, ?_, ?_, ?_⟩
  · intro c pos s u v hp hpos hu hv hcut hgrants hactive hyard hlock hrefresh hswap hmode
    refine ⟨_, _, _, ?_, rfl, rfl, rfl⟩
    rw [← grantPosition_rotating hp hpos hu hv ⟨hcut, hgrants, hactive, hyard, hlock, hrefresh, hswap⟩ hmode]
    rfl
  · intro c s
    refine ⟨guardEntries c s, rfl, ?_⟩
    simp [guardEntries]
  · intro c k n l s hburst hothers hrun hnone
    refine ⟨closeGate c s, rfl, ?_⟩
    rw [closeGate_single k.isLt (fun j hj hne => hothers ⟨j, hj⟩ (Fin.ne_of_val_ne hne)), closeCtx_waiting k.isLt hburst hrun hnone]
    exact ⟨ctxState_deferred .., (obj_deferred _ _ _ k.isLt).trans (State.addObj_same ..)⟩
  · intro c s v hdue hclaim
    exact ⟨scrubRun c s, rfl, scrubRun_due hdue hclaim.symm⟩

end Sys2Proof.Machine

/-! PROOF. The DRAM command engine: refresh placements, forced RFM, doubled refresh and idle rows (R142, R147, R148, R150). -/

namespace Sys2Proof.Machine

/-! ### Parts of a channel -/

@[simp] theorem Chan.setSub_sub_same (ch : Chan) (k : Nat) (x : Sub) : (ch.setSub k x).sub k = x := by
  simp [Chan.setSub, Chan.sub]

theorem Chan.setSub_sub_ne (ch : Chan) (x : Sub) {k j : Nat} (h : j ≠ k) : (ch.setSub k x).sub j = ch.sub j := by
  simp only [Chan.setSub, Chan.sub]
  exact tget_tput_ne _ _ _ _ _ _ h

@[simp] theorem Chan.setBank_bank_same (ch : Chan) (k : Nat) (x : Bank) : (ch.setBank k x).bank k = x := by
  simp [Chan.setBank, Chan.bank]

@[simp] theorem Chan.setSub_bank (ch : Chan) (i k : Nat) (x : Sub) : (ch.setSub i x).bank k = ch.bank k := rfl

/-! ### Refresh placements (R147) -/

/-- What placement b of set j does to the refresh of channel c: every rank's on both subchannels, then the write-side
adjustments that wait. -/
def placedRefresh (c b j : Nat) (s : State) : State :=
  applyPending c ((rankSlots s c).foldl (fun t rs => forN 2 t (fun sub u =>
    placeRefresh c b sub rs (4 * u.pSlot c * u.slotNow) (j == 0 || s.refreshDoubled c) u)) s)

/-- Placement b of set j of channel c begins in this slot, and the channel is supplied, trained and issues refresh. -/
structure PlacementDue (c b j : Nat) (s : State) : Prop where
  supplied : s.sup.vddpCut = false
  begins : s.now.slot = (s.obj (chIdx 0x3011 c) 1 + 24 * b + 96 * j) % 192
  refreshing : refreshes (s.chan c) = true
  trained : s.pSlot c ≠ 0

theorem refreshPlacement_noReading {c b j : Nat} {twice : Bool} {s : State} (h : PlacementDue c b j s) :
    refreshPlacement c b j none twice s = placementWork c false (placedRefresh c b j s) := by
  simp [refreshPlacement, placedRefresh, h.supplied, ← h.begins, h.refreshing, h.trained]

theorem refreshPlacement_reading {c b j : Nat} {tj : Int} {twice : Bool} {s : State} (h : PlacementDue c b j s) :
    refreshPlacement c b j (some tj) twice s =
      noteTemp c 2 tj ((placementWork c true (placedRefresh c b j s)).modChan c (fun ch => { ch with twice := twice })) := by
  simp [refreshPlacement, placedRefresh, h.supplied, ← h.begins, h.refreshing, h.trained]

/-- The run of calm frames after new readings: a reading above HighTempExit ends it. -/
def calmAfter (c : Nat) (l : Tbl Int) (s : State) : Nat :=
  if l.any (fun e => decide ((4 * s.obj (chIdx 0x3011 c) 6 : Nat) < e.2)) then 0 else (s.chan c).calm

/-- New readings change, of the channel, themselves and the run of calm frames. -/
theorem setTemps_chan (c : Nat) (l : Tbl Int) (s : State) :
    (setTemps c l s).chan c = { s.chan c with temps := l, calm := calmAfter c l s } := by
  unfold setTemps
  dsimp only
  split <;> simp only [State.setObj_at_chan, State.modChan_same, calmAfter]

/-- An MR4 reading changes, of the channel, the readings and the run of calm frames: a sensor reading still missing stays so. -/
theorem noteTemp_mr4_chan (c : Nat) (tj : Int) (s : State) :
    (noteTemp c 2 tj s).chan c =
      { s.chan c with temps := tins (s.chan c).temps 2 tj, calm := calmAfter c (tins (s.chan c).temps 2 tj) s } :=
  setTemps_chan c _ s

/-! ### Forced RFM (R150) -/

/-- A raise of a channel source leaves the data rate, and so P_slot. -/
theorem raiseChan_pSlot (c : Fin 16) (d k sub rankSlot : Nat) (s : State) : (s.raiseChan d k sub rankSlot).pSlot c = s.pSlot c := by
  have hkey : evKey (timIdx c) 2 = false := by
    apply decide_eq_false
    simp only [timIdx, chIdx]
    omega
  simp only [State.pSlot, State.rate, State.raiseChan_obj _ _ _ _ _ _ _ (by decide : 2 < 256) hkey]

/-- A count on another page leaves the data rate, and so P_slot. -/
theorem addObj_pSlot {i k n : Nat} (c : Nat) (s : State) (h : objKey (timIdx c) 2 ≠ objKey i k) :
    (s.addObj i k n).pSlot c = s.pSlot c := by
  simp only [State.pSlot, State.rate, State.addObj_ne _ _ _ _ _ _ h]

/-- The state in which a forced RFM is counted and raised. -/
def rfmCounted (c key : Nat) (s : State) : State :=
  (s.addObj (chIdx 0x3011 c) 0x0A 1).raiseChan c 4 (bankCoord key 0).sub (bankCoord key 0).rankSlot

@[simp] theorem rfmCounted_chan (c key : Nat) (s : State) (d : Nat) : (rfmCounted c key s).chan d = s.chan d := by
  simp only [rfmCounted, State.raiseChan_at_chan, State.addObj_at_chan]

theorem rfmCounted_dckNow (c : Fin 16) (key : Nat) (s : State) : (rfmCounted c key s).dckNow c = s.dckNow c := by
  have hrate : objKey (timIdx c) 2 ≠ objKey (chIdx 0x3011 c) 0x0A := by
    simp only [objKey, timIdx, chIdx]
    omega
  simp only [State.dckNow, rfmCounted, raiseChan_pSlot, addObj_pSlot _ _ hrate, State.raiseChan_at_cycleNow, State.addObj_at_cycleNow]

theorem rfmForced_atLimit {c : Fin 16} {key : Nat} {s : State} (hlimited : 0 < (raaLimits s c (bankCoord key 0).pos).2)
    (hreached : (raaLimits s c (bankCoord key 0).pos).2 ≤ ((s.chan c).bank key).raa) :
    rfmForced c key s = issueRfm c key (s.dckNow c) (closeBank c key (s.dckNow c) (rfmCounted c key s)) := by
  rw [← rfmCounted_dckNow c key s]
  simp [rfmForced, hlimited, hreached, rfmCounted]

/-! ### Rows (R142) -/

@[simp] theorem noteCmd_bank (c : Nat) (e : HistCmd) (s : State) (key : Nat) : ((noteCmd c e s).chan c).bank key = (s.chan c).bank key := by
  simp only [noteCmd, State.modChan_same]
  rfl

/-- A bank that is closed has no open row. -/
theorem closeBank_row (c key at_ : Nat) (s : State) : (((closeBank c key at_ s).chan c).bank key).row = none := by
  unfold closeBank
  dsimp only
  split
  case h_1 hclosed => exact hclosed
  case h_2 r hopen => simp [Bank.closedAt, hopen]

theorem rowIdle_due {c key r : Nat} {s : State} (hrow : ((s.chan c).bank key).row = some r) (hpolicy : s.obj (chIdx 0x3012 c) 1 = 0)
    (hidle : ((s.chan c).bank key).last + s.obj (chIdx 0x3012 c) 2 ≤ s.cycleNow * s.pSlot c / 40) :
    rowIdle c key s = closeBank c key (s.dckNow c) s := by
  simp [rowIdle, hrow, hpolicy, hidle]

/-! ### The obligation -/

/-- Settles O44: a placement by its two equations and the reading by `noteTemp_mr4_chan`; the forced RFM by `rfmForced_atLimit`;
the idle row by `closeBank_row`. -/
theorem refreshAndSensors : Obligations.RefreshAndSensors := by
  refine ⟨?_, ?_, ?_, ?_, ?_⟩
  · rintro c bank set tj twice s u hcut hslot hrefresh hp rfl
    have hdue : PlacementDue c bank set s := ⟨hcut, hslot, hrefresh, hp⟩
    refine ⟨congrArg Host.Outcome.next (refreshPlacement_noReading hdue), _, rfl, ?_⟩
    rw [refreshPlacement_reading hdue, noteTemp_mr4_chan]
    simp only [State.modChan_same, tfind_tins_same, placedRefresh, true_and]
  · rintro c sub rankSlot bank key s rfl hlimited hreached
    exact ⟨_, _, congrArg Host.Outcome.next (rfmForced_atLimit hlimited hreached), rfl, rfl, rfmCounted_chan ..⟩
  · intro c s hslot hcycle hcalm
    exact ⟨refreshExit c s, rfl, by simp [refreshExit, hslot, hcycle, hcalm]⟩
  · intro c s
    exact ⟨_, rfl, by simp, by simp [doubleAsked]⟩
  · intro c sub rankSlot bank r s hrow hpolicy hidle
    refine ⟨_, congrArg Host.Outcome.next (rowIdle_due hrow hpolicy hidle), closeBank_row .., ?_⟩
    exact (closeBank_keeps ..).objs (by decide)

end Sys2Proof.Machine

/-! PROOF. ALERT_N episodes: the start, the retry, the release, the timeout and the end (R152, R153). -/

namespace Sys2Proof.Machine

/-! ### The start and the retry of an episode (R152) -/

/-- ALERT_N low marks the lock in progress on the channel. -/
def alertLock (c : Nat) (s : State) : State :=
  s.modChan c (fun ch => { ch with lock := ch.lock.map (fun k => { k with alerted := true }) })

/-- Channel c with episode a on a subchannel and the history of its window marked. -/
def alertChan (c sub : Nat) (a : Alert) (s : State) : Chan :=
  { ((s.chan c).setSub sub { ((s.chan c).sub sub) with alert := some a }) with history := markHistory s c sub }

theorem alertChan_alert (c sub : Nat) (a : Alert) (s : State) : ((alertChan c sub a s).sub sub).alert = some a :=
  congrArg Sub.alert (Chan.setSub_sub_same (s.chan c) sub _)

theorem alertChan_history (c sub : Nat) (a : Alert) (s : State) : (alertChan c sub a s).history = markHistory s c sub := rfl

theorem alertChan_lock (c sub : Nat) (a : Alert) (s : State) : (alertChan c sub a s).lock = (s.chan c).lock := rfl

/-- The episode that ALERT_N low opens. -/
def firstAlert (c sub : Nat) (s : State) : Alert :=
  { step := 2, retries := 0, low := true, uncertain := uncertainOps (alertLock c s) c sub, at_ := s.cycleNow }

/-- Episode a after ALERT_N low again: one more retry, and the operations in doubt now join those in doubt before. -/
def retriedAlert (c sub : Nat) (a : Alert) (s : State) : Alert :=
  { step := 2, retries := a.retries + 1, low := true,
    uncertain := a.uncertain ++ (uncertainOps (alertLock c s) c sub).filter (fun e => !a.uncertain.contains e), at_ := s.cycleNow }

/-- Marking the lock leaves the subchannels. -/
theorem alertLock_sub (c : Nat) (s : State) (sub : Nat) : ((alertLock c s).chan c).sub sub = (s.chan c).sub sub := by
  simp only [alertLock, State.modChan_same]
  rfl

theorem alertLock_cycleNow (c : Nat) (s : State) : (alertLock c s).cycleNow = s.cycleNow := State.modChan_at_cycleNow ..

theorem alertStart_first {c sub : Nat} {s : State} (h : ((s.chan c).sub sub).alert = none) :
    (alertStart c sub s).chan c = alertChan c sub (firstAlert c sub s) (alertLock c s) := by
  rw [← alertLock_sub] at h
  simp only [alertStart]
  rw [← alertLock, h]
  rw [State.raiseChan_at_chan, State.setObj_at_chan, State.addObj_at_chan, State.setChan_same, alertLock_cycleNow, alertChan, firstAlert]

theorem alertStart_retry {c sub : Nat} {a : Alert} {s : State} (h : ((s.chan c).sub sub).alert = some a) (hlow : a.low = false)
    (hretries : a.retries < 2) :
    (alertStart c sub s).chan c = alertChan c sub (retriedAlert c sub a s) (alertLock c s) := by
  rw [← alertLock_sub] at h
  simp only [alertStart]
  rw [← alertLock, h]
  simp only [hlow, hretries.not_ge, Bool.false_eq_true, if_false]
  rw [State.raiseChan_at_chan, countChan_at_chan, State.addObj_at_chan, State.setChan_same, alertLock_cycleNow, alertChan, retriedAlert]

/-- The fourth assertion of an episode freezes the channel. -/
theorem alertStart_last {c sub : Nat} {a : Alert} {s : State} (h : ((s.chan c).sub sub).alert = some a) (hlow : a.low = false)
    (hretries : 2 ≤ a.retries) : alertStart c sub s = alertFreeze c sub a (alertLock c s) := by
  rw [← alertLock_sub] at h
  simp only [alertStart]
  rw [← alertLock, h]
  simp only [hlow, hretries, Bool.false_eq_true, if_false, if_true]

/-! ### The release of ALERT_N (R152) -/

/-- The episode of a subchannel of channel c becomes a: opened or changed, or removed by `none`. -/
def setAlert (c sub : Nat) (a : Option Alert) (s : State) : State :=
  s.modChan c (fun ch => ch.setSub sub { (ch.sub sub) with alert := a })

theorem setAlert_same (c sub : Nat) (a : Option Alert) (s : State) : (((setAlert c sub a s).chan c).sub sub).alert = a := by
  simp only [setAlert, State.modChan_same, Chan.setSub_sub_same]

theorem setAlert_ne (c : Nat) (a : Option Alert) (s : State) {sub j : Nat} (h : j ≠ sub) :
    ((setAlert c sub a s).chan c).sub j = (s.chan c).sub j := by
  simp only [setAlert, State.modChan_same, Chan.setSub_sub_ne _ _ h]

/-- A release moves its episode to step 5, and the commands and operations it issues again leave every episode. -/
theorem alertReleased_sameAlerts {c sub : Nat} {a : Alert} {s : State} (h : ((s.chan c).sub sub).alert = some a) (hlow : a.low = true) :
    SameAlerts c (setAlert c sub (some { a with low := false, step := 5 }) s) (alertReleased c sub s) := by
  simp only [alertReleased, h, hlow, if_true]
  refine foldl_keeps (fun x : State × LockPlan => SameAlerts c _ x.1) _ _ _ ?_ (fun x e _ hx => SameAlerts.replayOp x hx _ e)
  refine SameAlerts.foldl ?_ (fun _ e k => k.replayRefresh _ e)
  refine SameAlerts.foldl ?_ (fun _ _ k => k.modChan _ (fun _ _ => rfl))
  refine SameAlerts.foldl ?_ (fun _ _ k => k.noteCmd _)
  exact (SameAlerts.refl _).foldl (fun _ _ k => k.noteCmd _)

/-! ### The timeout and the end of an episode (R153, R149) -/

/-- ALERT_N low past AlertStuckTimeout freezes the channel. -/
theorem alertStuck_due {c sub : Nat} {a : Alert} {s : State} (h : ((s.chan c).sub sub).alert = some a) (hlow : a.low = true)
    (hdue : 2 * s.obj (chIdx 0x3014 c) 4 ≤ s.since a.at_) : alertStuck c sub s = alertFreeze c sub a s := by
  simp only [alertStuck, h, hlow, hdue, decide_true, Bool.and_true, if_true]

theorem alertEnd_released {c sub : Nat} {a : Alert} {s : State} (h : ((s.chan c).sub sub).alert = some a) (hlow : a.low = false) :
    alertEnd c sub s = heldRefresh c sub (setAlert c sub none s) := by
  simp only [alertEnd, h, hlow, Bool.false_eq_true, if_false]
  rfl

/-- With no refresh held back there is none to issue. -/
theorem heldRefresh_none {c sub : Nat} {s : State} (h : ((s.chan c).sub sub).late = []) : heldRefresh c sub s = s := by
  simp only [heldRefresh, h, List.foldl_nil]

/-- The end of an episode leaves the refreshes it held back where they wait. -/
theorem setAlert_late (c sub : Nat) (a : Option Alert) (s : State) :
    (((setAlert c sub a s).chan c).sub sub).late = ((s.chan c).sub sub).late := by
  simp only [setAlert, State.modChan_same, Chan.setSub_sub_same]

/-! ### The obligation -/

/-- Settles O45: the start by what it makes of its channel, the release by `alertReleased_sameAlerts`, the timeout by
`alertStuck_due`, the end by the refreshes that follow it, none of which opens an episode. -/
theorem alertEpisodes : Obligations.AlertEpisodes := by
  refine ⟨?_, ?_, ?_, ?_⟩
  · rintro c sub a s v rfl
    refine ⟨fun hnone => ⟨alertStart c sub s, rfl, ?_⟩, fun hopen hlow hretries => ⟨alertStart c sub s, rfl, ?_⟩,
      fun hopen hlow hretries => congrArg Host.Outcome.next (alertStart_last hopen hlow hretries)⟩
    · rw [alertStart_first hnone]
      exact ⟨alertChan_alert .., alertChan_history .., alertChan_lock ..⟩
    · rw [alertStart_retry hopen hlow hretries]
      exact alertChan_alert ..
  · intro c sub a s hopen hlow
    have hsame := alertReleased_sameAlerts hopen hlow
    refine ⟨alertReleased c sub s, rfl, (hsame sub).trans (setAlert_same ..), fun j hj => ?_⟩
    rw [hsame j, setAlert_ne _ _ _ hj]
  · intro c sub a s hopen hlow hdue
    exact ⟨_, _, congrArg Host.Outcome.next (alertStuck_due hopen hlow hdue), rfl, rfl⟩
  · rintro c sub a s v hopen hlow rfl
    refine ⟨_, congrArg Host.Outcome.next (alertEnd_released hopen hlow), ?_, rfl, fun hlate => ?_⟩
    · exact ((SameAlerts.refl _).heldRefresh _ sub).trans (setAlert_same ..)
    · exact heldRefresh_none ((setAlert_late ..).trans hlate)

end Sys2Proof.Machine

/-! PROOF. Power states and device error counts: the start and the end of an exit (R158), the leak (R230). -/

namespace Sys2Proof.Machine

/-! ### Exits from a power state (R158) -/

/-- An exit begins once the known event is no farther than the latency of the exit. -/
theorem powerExit_near {c n : Nat} {s : State} (hlow : (s.chan c).pstate ≠ .active) (hidle : (s.chan c).exiting = none)
    (hevent : knownEvent s c ((s.chan c).pstate == .powerDown) = some n) (hnear : 500 * n ≤ latencyOf s c (s.chan c).pstate) :
    powerExit c s = s.setChan c { s.chan c with exiting := some (some (s.cycleNow + n)) } := by
  have hpstate : ((s.chan c).pstate == .active) = false := beq_false_of_ne hlow
  simp only [powerExit, hpstate, hidle, hevent, hnear, Option.isSome_none, Bool.or_false, Bool.false_eq_true, if_false, if_true]

/-- A channel whose exit is over is Active with no exit in progress, and from there the next entry is decided. -/
theorem powerExitDone_exiting {c : Nat} {due : Option Nat} {s : State} (h : (s.chan c).exiting = some due) :
    ∃ u, powerExitDone c s = powerEntry c u ∧ u.chan c = { s.chan c with pstate := .active, exiting := none } := by
  unfold powerExitDone
  simp only [h]
  refine ⟨_, rfl, ?_⟩
  split_ifs <;> simp only [State.raiseChan_at_chan, State.addObj_at_chan, State.setObj_at_chan, State.setChan_same]

/-- The end of an exit: the bridge opens, and out of a self-refresh state the trims are adjusted where the channel stays Active. -/
theorem execPowerExitComplete_eq (c : Fin 16) (s : State) :
    execPowerExitComplete c s = .next (
      let v := openBridge (channelCrossing c) (powerExitDone c s)
      if ((s.chan c).pstate = .selfRefresh ∨ (s.chan c).pstate = .deepSelfRefresh) ∧ (v.chan c).pstate = .active then adjustNow c v
      else v) := by
  simp only [execPowerExitComplete, Bool.and_eq_true, Bool.or_eq_true, beq_iff_eq]

/-! ### The obligation -/

/-- Settles O46: the start of an exit by `powerExit_near`, its end by `powerExitDone_exiting`; the leak is its definition. -/
theorem channelPower : Obligations.ChannelPower := by
  refine ⟨?_, ?_, fun c s => ⟨deviceErrorLeak c s, rfl, rfl⟩⟩
  · intro c n s hlow hidle hevent hnear
    exact ⟨_, congrArg Host.Outcome.next (powerExit_near hlow hidle hevent hnear), rfl⟩
  · intro c due s hexit
    obtain ⟨u, hdone, hchan⟩ := powerExitDone_exiting hexit
    refine ⟨_, u, _, execPowerExitComplete_eq c s, rfl, ?_, congrArg Chan.pstate hchan, congrArg Chan.exiting hchan⟩
    rw [hdone]

end Sys2Proof.Machine

/-! PROOF. The byte stores: every row and the idle cycle keep MRAM, the records, the staged records and the window buffer in
canonical form (log 3). -/

namespace Sys2Proof.Machine

/-- What a function keeps includes the canonical form of the four byte stores. -/
theorem Keeps.bytesOk {M : Nat} {s t : State} (h : Keeps M s t) (hs : s.bytesOk) : t.bytesOk := by
  obtain ⟨hmram, hrecs, hstaged, hwin⟩ := hs
  exact ⟨h.mramOk hmram, h.recsOk hrecs, h.stagedOk hstaged, h.winOk hwin⟩

/-- No row writes a byte store out of its canonical form. -/
theorem exec_bytesOk {i : Instr} {s t : State} (h : exec i s = .next t) (hs : s.bytesOk) : t.bytesOk := by
  obtain ⟨M, hkeeps, -⟩ := exec_keeps i h
  exact hkeeps.bytesOk hs

/-- The idle core cycle keeps the byte stores canonical. -/
theorem tick_bytesOk {s : State} (hs : s.bytesOk) : (tick s).bytesOk := (tick_keeps s).bytesOk hs

/-- Settles O3: a step is the front row (`exec_bytesOk`) on a state whose queue alone differs, or the idle cycle. -/
theorem byteStoresStayCanonical : Obligations.ByteStoresStayCanonical := by
  intro s t h hs
  cases hq : s.pending with
  | nil =>
    rw [step_nil hq] at h
    cases h
    exact tick_bytesOk hs
  | cons c q =>
    rw [step_cons hq] at h
    exact exec_bytesOk h hs

end Sys2Proof.Machine

/-! PROOF. The Plaza slices and the Ledger: the horizon (R172), fills and write-backs (R171), the ages of dirty lines (R175,
R178). -/

namespace Sys2Proof.Machine

/-! ### Lines and order buffers as tables -/

@[simp] theorem State.setPline_same (s : State) (c l : Nat) (x : PLine) : (s.setPline c l x).pline c l = some x :=
  tfind_tins_same ..

@[simp] theorem State.delPline_same (s : State) (c l : Nat) : (s.delPline c l).pline c l = none := tfind_tdel_same ..

/-- A line depends on the table of lines alone. -/
theorem pline_congr {s t : State} (h : t.plaza = s.plaza) (c l : Nat) : t.pline c l = s.pline c l := by
  simp only [State.pline, h]

/-- An order buffer depends on the table of order buffers alone. -/
theorem orderOf_congr {s t : State} (h : t.order = s.order) (c : Nat) : t.orderOf c = s.orderOf c := by
  simp only [State.orderOf, h]

/-! ### The horizon (R172) -/

/-- A channel that does not hold its lines has no reads to serve elsewhere. -/
theorem serveHeld_free {c : Nat} {s : State} (h : (s.chan c).st.held = false) : serveHeld c s = s := by
  simp only [serveHeld, h, Bool.not_false, if_true]

/-- With nothing waiting the horizon moves over nothing. -/
theorem advanceHorizon_idle {c : Nat} {s : State} (h : s.orderOf c = []) : advanceHorizon c s = s := by
  simp only [advanceHorizon, h, List.isEmpty_nil, if_true]

/-- One access waits, below the horizon and in no group, and can be applied: it is, and nothing waits any more. -/
theorem advanceHorizon_single {c : Nat} {a : Access} {s : State} (hwait : s.orderOf c = [a])
    (hbelow : stampLt a.ord (horizon s c) = true) (hgroup : a.group = false)
    (happlied : (applyAccess a { s with order := tput s.order c [] [] }).2 = true) :
    advanceHorizon c s = settleAll c (horizon s c) [] [] (applyAccess a { s with order := tput s.order c [] [] }).1 := by
  simp only [advanceHorizon, hwait, settleAll, hbelow, hgroup, List.append_nil, List.any_nil, List.isEmpty_cons, Bool.not_false,
    Bool.false_and, Bool.and_self, Bool.false_eq_true, if_false, if_true, happlied]

/-- The end of a pass over an order buffer leaves there what was passed over. -/
theorem settleAll_nil_orderOf (c : Nat) (h : Stamp) (kept : List Access) (s : State) :
    (settleAll c h [] kept s).orderOf c = kept := by
  rw [settleAll, orderOf_congr ((settleWaits_keeps _).order (by decide))]
  exact tget_tput_same ..

/-! ### Fills and write-backs (R171) -/

/-- The first granted line read of a line, of which no command is in doubt. -/
def returningRead (s : State) (c l : Nat) : Option Entry :=
  (s.chan c).granted.find? (fun e => e.line == l && !e.wr && !(s.chan c).uncertain e)

/-- s with a granted operation of channel c gone from it. -/
def ungranted (c : Nat) (e : Entry) (s : State) : State :=
  s.setChan c { s.chan c with granted := (s.chan c).granted.erase e }

/-- The fill that returns leaves its channel and completes. -/
theorem readReturns_fill {c l : Nat} {e : Entry} {s : State} (h : returningRead s c l = some e) (hkind : e.kind = .fill) :
    readReturns c l s = completeFill c l (ungranted c e s) := by
  rw [returningRead] at h
  simp only [readReturns, h, hkind, ungranted]

/-- The READ_RAW that returns leaves its channel, and its data goes out. -/
theorem readReturns_raw {c l f k status : Nat} {units : List (BitVec 512)} {e : Entry} {s : State}
    (h : returningRead s c l = some e) (hkind : e.kind = .raw f k status units) :
    readReturns c l s =
      deliver e.stamp ((s.chan c).dist.getD 0) k status units (noteLine e.stamp true (ungranted c e s)) := by
  rw [returningRead] at h
  simp only [readReturns, h, hkind, ungranted]

/-- s with the granted write-back of line l of channel c ended: its entry is gone, its line Clean, and it is committed no more. -/
def writtenBack (c l : Nat) (x : PLine) (s : State) : State :=
  let u := (s.setChan c { s.chan c with granted := (s.chan c).granted.filter (fun e => !(e.line == l && e.wr)) }).setPline c l
    { x with st := .clean, wbGranted := false, wrote := false, gCharge := false }
  { u with sup := { u.sup with committed := u.sup.committed.filter (fun e => e != (c, l)) } }

/-- A granted write-back of a Dirty line, none of its commands in doubt, ends so, and the horizon moves. -/
theorem writeBackDone_dirty {c l : Nat} {x : PLine} {s : State} (hline : s.pline c l = some x) (hgranted : x.wbGranted = true)
    (hdirty : x.st = .dirty)
    (hsure : ((s.chan c).granted.filter (fun e => e.line == l && e.wr)).any (s.chan c).uncertain = false) :
    writeBackDone c l s = advanceHorizon c (writtenBack c l x s) := by
  simp only [writeBackDone, hline, hsure, hgranted, hdirty, beq_self_eq_true, Bool.and_self, Bool.false_eq_true, if_false,
    if_true]
  rfl

theorem writtenBack_pline (c l : Nat) (x : PLine) (s : State) : (writtenBack c l x s).pline c l =
    some { x with st := .clean, wbGranted := false, wrote := false, gCharge := false } :=
  State.setPline_same ..

theorem writtenBack_granted (c l : Nat) (x : PLine) (s : State) :
    ((writtenBack c l x s).chan c).granted = (s.chan c).granted.filter (fun e => !(e.line == l && e.wr)) :=
  congrArg Chan.granted (State.setChan_same ..)

/-! ### The ages of dirty lines (R175, R178) -/

/-- Entering a write-back in its queue leaves the lines. -/
theorem enterWriteBack_plaza (c l : Nat) (x : PLine) (s : State) : (enterWriteBack c l x s).plaza = s.plaza :=
  (enterWriteBack_keeps c l x s).plaza (by decide)

/-- A Dirty line whose write-back is neither queued nor granted has it queued. -/
theorem queueWriteBack_pline {c l : Nat} {x : PLine} {s : State} (hline : s.pline c l = some x) (hdirty : x.st = .dirty)
    (hqueued : x.wbQueued = false) (hgranted : x.wbGranted = false) :
    (queueWriteBack c l s).pline c l = some { x with wbQueued := true } := by
  simp only [queueWriteBack, hline, hdirty, hqueued, hgranted, beq_self_eq_true, Bool.not_false, Bool.and_self, if_true]
  split
  · rw [pline_congr (enterWriteBack_plaza ..), State.setPline_same]
  · exact State.setPline_same ..

/-- A Dirty line past DirtyAge goes to write-back. -/
theorem dirtyAge_due {c l : Nat} {x : PLine} {s : State} (hline : s.pline c l = some x) (hdirty : x.st = .dirty)
    (hage : s.obj 0x5100 2 ≤ s.framesSince x.since) : dirtyAge c l s = queueWriteBack c l s := by
  simp only [dirtyAge, hline, hdirty, hage, beq_self_eq_true, decide_true, Bool.and_self, if_true]

/-- A Dirty Ledger line past its age is flushed. -/
theorem ledgerAge_due {c l : Nat} {x : LLine} {s : State} (hline : tfind s.ledger (lineKey c l) = some x)
    (hdirty : x.dirty = true) (hage : s.obj 0x5100 3 ≤ s.framesSince x.since) :
    ledgerAge c l s = flushLedger false c l (s.chan c).dist s := by
  simp only [ledgerAge, hline, hdirty, hage, decide_true, Bool.and_self, if_true]

/-! ### The obligation -/

/-- Settles O42: the horizon by `advanceHorizon_single`, a returning read by `readReturns_fill` and
`readReturns_raw`, a write-back by `writeBackDone_dirty`, the ages by `dirtyAge_due` and `ledgerAge_due`. -/
theorem sliceWork : Obligations.SliceWork := by
  refine ⟨?_, fun c line e s hentry => ⟨fun hkind => ?_, fun f k status units hkind => ?_⟩, ?_, ?_, ?_⟩
  · intro c a s v hheld hwait hbelow hgroup hv happlied
    have hstep : exec (.horizonAdvance c) s = .next (settleAll c (horizon s c) [] [] v) := by
      rw [hv, ← advanceHorizon_single hwait hbelow hgroup happlied]
      exact congrArg (fun u => Host.Outcome.next (advanceHorizon c u)) (serveHeld_free hheld)
    exact ⟨_, hstep, rfl, settleAll_nil_orderOf ..⟩
  · exact ⟨_, rfl, congrArg (serveHeld c) (readReturns_fill hentry hkind)⟩
  · exact ⟨_, _, rfl, congrArg (serveHeld c) (readReturns_raw hentry hkind), rfl⟩
  · intro c line x s hline hgranted hdirty hsure hwait
    have hstep : exec (.writebackComplete c line) s = .next (writtenBack c line x s) := by
      have hidle : (writtenBack c line x s).orderOf c = [] := hwait
      rw [← advanceHorizon_idle hidle, ← writeBackDone_dirty hline hgranted hdirty hsure]
      rfl
    exact ⟨_, hstep, writtenBack_pline .., writtenBack_granted .., rfl⟩
  · intro c line x s hline hdirty hage hqueued hgranted _
    refine ⟨_, rfl, ?_⟩
    rw [dirtyAge_due hline hdirty hage]
    exact queueWriteBack_pline hline hdirty hqueued hgranted
  · intro c line x s hline hdirty hage
    exact ⟨_, _, congrArg Host.Outcome.next (ledgerAge_due hline hdirty hage), rfl, rfl⟩

end Sys2Proof.Machine

/-! PROOF. Resets of the on-chip queues and stores: pointer mismatches (R62, R63, R182), and words of the SRAM that fail or are
corrected (R166, R167, R246). -/

namespace Sys2Proof.Machine

/-! ### The response buffer (R63) -/

/-- Every response in the buffer of port p records a TIMEOUT. -/
def OnlyTimeouts (p : Nat) (s : State) : Prop := ∀ r ∈ (s.port p).resp, r.status = 0x30

/-- A TIMEOUT takes at most its own tag's response out of the buffer, and records itself there. -/
theorem timeoutTag_resp (p : Nat) (u : TagUse) (s : State) : ((timeoutTag p u s).port p).resp =
    (s.port p).resp.filter (fun r => !(r.tag == u.tag && r.stamp == u.req.stamp)) ++
      [{ plainResp u.req 0x30 with status := 0x30 }] := by
  simp only [timeoutTag, sampleEnd_port, State.addObj_at_port]
  split <;> simp only [portCause_at_port, State.addObj_at_port, State.setPort_same]

theorem OnlyTimeouts.timeoutTag {p : Nat} {s : State} (h : OnlyTimeouts p s) (u : TagUse) :
    OnlyTimeouts p (timeoutTag p u s) := by
  intro r hr
  rw [timeoutTag_resp, List.mem_append, List.mem_singleton] at hr
  rcases hr with hr | rfl
  · exact h r (List.mem_of_mem_filter hr)
  · rfl

/-- The reset drops every other response, and each use that had one receives its TIMEOUT. -/
theorem resetResponses_onlyTimeouts (p : Nat) (s : State) : OnlyTimeouts p (resetResponses p s) := by
  simp only [OnlyTimeouts, resetResponses, portCause_at_port, State.addObj_at_port]
  refine foldl_keeps (fun t => OnlyTimeouts p t) _ _ _ ?_ (fun t u _ h => h.timeoutTag _)
  intro r hr
  rw [State.modPort_same] at hr
  have hkept := List.of_mem_filter hr
  exact beq_iff_eq.mp hkept

/-! ### The event queue (R182) -/

theorem resetEventQueue_queue (s : State) : (resetEventQueue s).ev.queue = [] := rfl

/-- EventsLost counts the entries that the queue held. -/
theorem resetEventQueue_lost (s : State) :
    (resetEventQueue s).obj 0x5102 0x30 = min (s.obj 0x5102 0x30 + s.ev.queue.length) (objMax 0x5102 0x30) :=
  State.addObj_same ..

/-! ### Failed words (R166, R246) -/

/-- A Clean Plaza line that fails is dropped. -/
theorem losePlaza_clean {c l : Nat} {x : PLine} {s : State} (hline : s.pline c l = some x) (hclean : x.st = .clean) :
    losePlaza c l s = s.delPline c l := by
  simp only [losePlaza, hline, hclean, beq_self_eq_true, if_true]

/-- The count and the event of a failed word leave the lines. -/
theorem failedWord_pline (k c l : Nat) (s : State) :
    ((s.addObj 0x5102 (0x11 + k) 1).raise 0x011).pline c l = s.pline c l :=
  pline_congr (by simp only [State.raise_plaza, State.addObj_plaza]) c l

/-! ### The obligation -/

/-- Settles O40: each mismatch is its queue's reset, where `resetResponses_onlyTimeouts` speaks of the responses; a failed word
is its store's own rule, the Clean line's by `losePlaza_clean`. -/
theorem storeResets : Obligations.StoreResets := by
  refine ⟨fun unit which s => ⟨⟨_, rfl, rfl⟩, ⟨storeReset 1 (resetResponses unit s), rfl, rfl, ?_⟩, ⟨_, rfl, rfl⟩, ⟨_, rfl, rfl⟩,
      ⟨_, rfl, rfl, resetEventQueue_queue s, resetEventQueue_lost s⟩⟩,
    fun unit line both s v => ⟨?_, ?_, ?_⟩, fun store s => ⟨_, rfl, State.addObj_same ..⟩⟩
  · rw [storeReset_at_port]
    exact resetResponses_onlyTimeouts unit s
  · rintro x rfl hline hclean
    have hline' := (failedWord_pline 0 (unit % 16) line s).trans hline
    exact ⟨_, congrArg Host.Outcome.next (losePlaza_clean hline' hclean), rfl, State.delPline_same ..⟩
  · rintro rfl
    exact ⟨_, rfl, rfl, resetEventQueue_queue _⟩
  · rintro rfl
    exact ⟨_, rfl, rfl⟩

end Sys2Proof.Machine

/-! PROOF. Operations that are the write of one object: claims of shared resources (R184-R187), snapshots and samples (R395,
R398), translation (R439), KeyAdopt (R195), link rights and profile locks (R420, R53). -/

namespace Sys2Proof.Machine

/-! ### A write whose object's own rule accepts it -/

section
variable (link : Fin 2)

/-- A write that its object's own rule accepts, and that keeps the state of the block, is answered with result 0. -/
theorem writeOf_op {tag : BitVec 8} {idx sub v lvl M : Nat} {s : State} {r : ObjRow} {op : State × Nat}
    (hr : objRow idx sub = some r) (hp : plainRow idx sub v r = true) (hlv : levelOf idx sub v r = lvl)
    (hC : CanWrite link r.size lvl s) (hw : writeNow false link idx sub v (beginFrame link s) = op) (hdone : op.2 = 0)
    (hk : Keeps M (beginFrame link s) op.1) (hb : M.testBit 28 = true) :
    Written link tag idx sub r.size op.1 (writeOf link tag idx sub v false s) :=
  writeOf_now link tag idx sub v lvl false s op.1 r hr hp hlv hC (hw.trans (Prod.ext rfl hdone))
    (noReset ((hk.blk hb).trans (beginFrame_blk link s)))

/-- The profiles locked and the lock of the rights stand while a frame is taken. -/
theorem beginFrame_locks (s : State) :
    (beginFrame link s).mgmt.profiles = s.mgmt.profiles ∧ (beginFrame link s).mgmt.locked = s.mgmt.locked := by
  unfold beginFrame
  dsimp only
  split <;> exact ⟨rfl, rfl⟩

theorem framesAhead_begin (s : State) (f : Nat) : framesAhead (beginFrame link s) f = framesAhead s f := by
  simp only [framesAhead, beginFrame_at_now]

theorem samplesHeld_begin (s : State) : samplesHeld (beginFrame link s) = samplesHeld s := by
  simp (disch := decide) only [samplesHeld, beginFrame_at_obj]

theorem pendingWindow_begin (s : State) (d : Nat) : (beginFrame link s).pendingWindow d = s.pendingWindow d := by
  simp (disch := omega) only [State.pendingWindow, beginFrame_at_dist, beginFrame_at_obj]

theorem decode_begin (s : State) (a : Nat) : (beginFrame link s).decode a = s.decode a := by
  simp only [State.decode, beginFrame_at_dist, pendingWindow_begin]

theorem coordOf_begin (s : State) (c l : Nat) : (beginFrame link s).coordOf c l = s.coordOf c l := by
  simp only [State.coordOf, State.descOf, State.channelGeometry, beginFrame_at_chan, beginFrame_at_dist, beginFrame_at_moduleAt]

theorem translated_begin (s : State) (a : Nat) : translated (beginFrame link s) a = translated s a := by
  simp only [translated, decode_begin, coordOf_begin, beginFrame_at_dist]

theorem keyMismatched_begin (s : State) (d : Nat) : keyMismatched (beginFrame link s) d = keyMismatched s d := by
  simp (disch := omega) only [keyMismatched, beginFrame_at_dist, beginFrame_at_obj]

end

/-- A row whose write at its object's own rule turns on no value, with a value of its type and its range. -/
theorem plainRow_of {idx sub v : Nat} {r : ObjRow} (hrow : plainRow idx sub 0 { r with rng := .any } = true)
    (hsel : isSelect (pageOf idx).1 sub = false) (htype : r.typeOk v = true) (hrng : r.rng.has v = true) (hv : v < 256 ^ r.size) :
    plainRow idx sub v r = true := by
  simp only [plainRow, Bool.and_eq_true, decide_eq_true_eq] at hrow ⊢
  obtain ⟨⟨hrow, -⟩, -⟩ := hrow
  refine ⟨⟨hrow, ?_⟩, hv⟩
  simp only [valueOk, htype, hrng, hsel, Bool.false_and, Bool.not_false, Bool.and_self]

/-- A number below 2^n lies in the mask of its low n bits. -/
theorem has_lowBits {v n : Nat} (h : v < 2 ^ n) : (Rng.mask (2 ^ n - 1)).has v = true := by
  rw [Rng.has, Nat.and_two_pow_sub_one_eq_mod, Nat.mod_eq_of_lt h, beq_self_eq_true]

/-! ### Claims (R184-R187) -/

/-- The holder objects of the capture store, the pattern store, the gates and the sampler paths. -/
def Claimable (sub : Nat) : Prop := sub = 1 ∨ sub = 2 ∨ (0x10 ≤ sub ∧ sub < 0xC0)

theorem objRow_claims (sub : Nat) :
    objRow 0x2F00 sub = page2F00.find? (fun r => decide (r.lo ≤ sub) && decide (sub ≤ r.hi)) := rfl

/-- The holders' rows of the claims page are one-byte objects that level 1 writes at once. -/
theorem holderRows : ∀ r ∈ page2F00, r.lo < 0xC0 →
    r.ty = 8 ∧ r.acc = 1 ∧ r.fl = 0 ∧ r.lvl = 1 ∧ r.size = 1 ∧ r.rng = .any := by decide

/-- A holder object's row takes a write of any byte, from level 1 on. -/
theorem objRow_claimable {sub v : Nat} (h : Claimable sub) (hv : v < 256) :
    ∃ r, objRow 0x2F00 sub = some r ∧ r.size = 1 ∧ levelOf 0x2F00 sub v r = 1 ∧ plainRow 0x2F00 sub v r = true := by
  have hrow : ∃ r ∈ page2F00, (decide (r.lo ≤ sub) && decide (sub ≤ r.hi)) = true := by
    simp only [page2F00, List.mem_cons, exists_eq_or_imp, Bool.and_eq_true, decide_eq_true_eq]
    unfold Claimable at h
    omega
  obtain ⟨r, hr⟩ := Option.isSome_iff_exists.mp (List.find?_isSome.mpr hrow)
  have hspan := List.find?_some hr
  simp only [Bool.and_eq_true, decide_eq_true_eq] at hspan
  obtain ⟨hlo, hhi⟩ := hspan
  have hsub : sub < 0xC0 := by unfold Claimable at h; omega
  have hbyte : sub < 256 := by omega
  obtain ⟨hty, hacc, hfl, hlvl, hsize, hrng⟩ := holderRows r (List.mem_of_find?_eq_some hr) (by omega)
  have hpage : pageOf 0x2F00 = (0x2F00, 0) := rfl
  refine ⟨r, (objRow_claims sub).trans hr, hsize, by simpa [levelOf] using hlvl, ?_⟩
  simp [plainRow, ObjRow.record, ObjRow.staged, accessOf, fixedObject, valueOk, ObjRow.typeOk, Rng.has, isSelect, hpage, hty,
    hacc, hfl, hsize, hrng, hv, hbyte]

theorem writeNow_claims (l sub v : Nat) (s : State) : writeNow false l 0x2F00 sub v s = writeClaim sub v s := rfl

/-- A write to a claims object that its rule accepts. -/
theorem writeOf_claims {link : Fin 2} {tag : BitVec 8} {sub v : Nat} {s u : State} (h : Claimable sub) (hv : v < 256)
    (hC : CanWrite link 1 1 s) (hw : writeClaim sub v (beginFrame link s) = (u, 0)) :
    Written link tag 0x2F00 sub 1 u (writeOf link tag 0x2F00 sub v false s) := by
  obtain ⟨r, hr, hsize, hlvl, hplain⟩ := objRow_claimable h hv
  have hk := writeClaim_keeps sub v (beginFrame link s)
  rw [hw] at hk
  have hC' : CanWrite link r.size 1 s := by rw [hsize]; exact hC
  have hwritten := writeOf_op link (tag := tag) hr hplain hlvl hC' ((writeNow_claims ..).trans hw) rfl hk (by decide)
  rwa [hsize] at hwritten

theorem writeClaim_free {sub : Nat} {s : State} (h : s.obj 0x2F00 sub = 0) :
    writeClaim sub 1 s = (s.setObj 0x2F00 sub 1, 0) := by
  simp [writeClaim, h]

theorem writeClaim_own {sub : Nat} {s : State} (h : s.obj 0x2F00 sub = 1) : writeClaim sub 0 s =
    (if 0x10 ≤ sub ∧ sub < 0x20 then stopHelper (sub - 0x10) (resourceFree sub (s.setObj 0x2F00 sub 0))
      else resourceFree sub (s.setObj 0x2F00 sub 0), 0) := by
  simp [writeClaim, h]

/-- The claim of sampling or of live calibration is released, and the resource stays free (log 60). -/
theorem writeClaim_feature {sub : Nat} {s : State} (h : s.obj 0x2F00 sub = 2 ∨ s.obj 0x2F00 sub = 8) :
    writeClaim sub 0 s = (s.setObj 0x2F00 sub 0, 0) := by
  rcases h with h | h <;> simp [writeClaim, h]

/-! ### Snapshots and samples (R395, R398) -/

/-- SnapshotAtFrame's row. -/
def snapshotRow : ObjRow := ⟨"SnapshotAtFrame", 0x01, 0x01, 13, 1, 0, 1, 0, 8, .mask 0xFFFFFFFFFFFF⟩

/-- A write of SnapshotAtFrame that its rule accepts. -/
theorem writeOf_snapshot {link : Fin 2} {tag : BitVec 8} {f : Nat} {s : State} (hC : CanWrite link 8 1 s) (hf : f < 2 ^ 48)
    (hdone : (armSnapshot f (beginFrame link s)).2 = 0) :
    Written link tag 0x9010 1 8 (armSnapshot f (beginFrame link s)).1 (writeOf link tag 0x9010 1 f false s) := by
  have hsize : (256 : Nat) ^ snapshotRow.size = 2 ^ 64 := rfl
  have hplain : plainRow 0x9010 1 f snapshotRow = true :=
    plainRow_of rfl rfl (decide_eq_true hf) (has_lowBits (n := 48) hf) (by omega)
  have hrule := writeNow_hooks link false 0x9010 1 f 0x9010 0 (beginFrame link s) rfl (by decide) (by decide) (by decide) (by decide)
  exact writeOf_op link (r := snapshotRow) rfl hplain rfl hC hrule hdone (armSnapshot_keeps ..) (by decide)

/-- SampleReleaseIndex's row. -/
def releaseIndexRow : ObjRow := ⟨"SampleReleaseIndex", 0x04, 0x04, 2, 1, 0, 1, 0, 2, .any⟩

/-- A write of SampleReleaseIndex that its rule accepts. -/
theorem writeOf_releaseIndex {link : Fin 2} {tag : BitVec 8} {v : Nat} {s : State} (hC : CanWrite link 2 1 s) (hv : v < 2 ^ 16)
    (hdone : (releaseSamples v (beginFrame link s)).2 = 0) :
    Written link tag 0x9020 4 2 (releaseSamples v (beginFrame link s)).1 (writeOf link tag 0x9020 4 v false s) := by
  have hplain : plainRow 0x9020 4 v releaseIndexRow = true := plainRow_of rfl rfl (decide_eq_true hv) rfl hv
  have hrule := writeNow_hooks link false 0x9020 4 v 0x9020 0 (beginFrame link s) rfl (by decide) (by decide) (by decide) (by decide)
  exact writeOf_op link (r := releaseIndexRow) rfl hplain rfl hC hrule hdone (releaseSamples_keeps ..) (by decide)

/-- A frame ahead by at most 2^20 arms the snapshot. -/
theorem armSnapshot_ahead {f : Nat} {s : State} (hahead : 0 < framesAhead s f) (hnear : framesAhead s f ≤ 2 ^ 20) :
    armSnapshot f s =
      (({ s with mgmt := { s.mgmt with snapArmed := some f } }.setObj 0x9010 1 f).setObj 0x9010 2 1, 0) := by
  simp only [armSnapshot, hahead, hnear, decide_true, Bool.and_self, if_true]

/-- How far SampleReleaseIndex moves to reach v. -/
def releaseStep (v : Nat) (s : State) : Nat := (v + 4096 - s.obj 0x9020 4 % 4096) % 4096

/-- An index in the span of the records held is taken; from Full, a move makes sampling active again (log 68). -/
theorem releaseSamples_held {v : Nat} {s : State} (hv : v < 4096) (hheld : releaseStep v s ≤ samplesHeld s) :
    (releaseSamples v s).2 = 0 ∧ (releaseSamples v s).1.obj 0x9020 4 = v ∧ (releaseSamples v s).1.obj 0x9020 2 =
      if s.obj 0x9020 2 = 4 ∧ 0 < releaseStep v s then 1 else s.obj 0x9020 2 := by
  have hrule : releaseSamples v s = (if s.obj 0x9020 2 = 4 && 0 < releaseStep v s then (s.setObj 0x9020 4 v).setObj 0x9020 2 1
      else s.setObj 0x9020 4 v, 0) :=
    if_pos (by rw [releaseStep] at hheld; simp [hv, hheld])
  rw [hrule]
  by_cases hmove : s.obj 0x9020 2 = 4 ∧ 0 < releaseStep v s <;> simp [hmove, setObj_ne2]

/-! ### Translation (R439) -/

/-- TranslateAddress's row. -/
def translateRow : ObjRow := ⟨"TranslateAddress", 0x01, 0x01, 4, 2, 0, 0, 0, 8, .mask 0x3FFFFFFFFFFF⟩

/-- A write of TranslateAddress that its rule accepts. -/
theorem writeOf_translate {link : Fin 2} {tag : BitVec 8} {a : Nat} {s : State} (hC : CanWrite link 8 0 s) (ha : a < 2 ^ 46)
    (hdone : (translate a (beginFrame link s)).2 = 0) :
    Written link tag 0x1230 1 8 (translate a (beginFrame link s)).1 (writeOf link tag 0x1230 1 a false s) := by
  have hsize : (256 : Nat) ^ translateRow.size = 2 ^ 64 := rfl
  have hplain : plainRow 0x1230 1 a translateRow = true :=
    plainRow_of rfl rfl (decide_eq_true (show a < 2 ^ 64 by omega)) (has_lowBits (n := 46) ha) (by omega)
  have hrule : writeNow false link 0x1230 1 a (beginFrame link s) = translate a (beginFrame link s) := rfl
  exact writeOf_op link (r := translateRow) rfl hplain rfl hC hrule hdone (translate_keeps ..) (by decide)

theorem translate_some {a r dom c l b : Nat} {s : State} (h : translated s a = some (r, dom, c, l, b)) : translate a s =
    (((((s.setObj 0x1230 2 r).setObj 0x1230 3 dom).setObj 0x1230 4 c).setObj 0x1230 5 l).setObj 0x1230 6 b, 0) := by
  simp only [translate, h]

/-! ### Rights and locks (R53, R420) -/

/-- LinkRightsConfig's row. -/
def rightsRow : ObjRow := ⟨"LinkRightsConfig", 0x07, 0x07, 10, 2, 0, 1, 0, 2, .mask 0x303⟩

/-- A write of LinkRightsConfig with no reserved bit set goes to its rule, whatever the level of its link. -/
theorem writeObject_rights {l v : Nat} {s : State} (hmask : v &&& 0x303 = v) (hv : v < 2 ^ 16) :
    writeObject false l 0x1100 7 v rightsRow s = linkRights l v s := by
  have htype : rightsRow.typeOk v = true := decide_eq_true hv
  have hrng : rightsRow.rng.has v = true := beq_iff_eq.mpr hmask
  have hok : valueOk 0x1100 7 v rightsRow = true := by
    rw [valueOk, htype, hrng]
    rfl
  have haccess : accessOf 0x1100 7 rightsRow = 2 := rfl
  have hrefusal : writeRefusal l 0x1100 7 v rightsRow s = 0 := by
    simp only [writeRefusal, haccess, hok, Bool.true_or, OfNat.ofNat_ne_zero, if_false, if_true]
  rw [writeObject, hrefusal]
  rfl

/-- A write of LinkRightsConfig that its rule accepts. -/
theorem writeOf_rights {link : Fin 2} {tag : BitVec 8} {v : Nat} {s : State} (hT : Takes link 2 s) (hst : s.blk.st = .resetPhase)
    (hmask : v &&& 0x303 = v) (hv : v < 2 ^ 16) (hdone : (linkRights link v (beginFrame link s)).2 = 0) :
    Written link tag 0x1100 7 2 (linkRights link v (beginFrame link s)).1 (writeOf link tag 0x1100 7 v false s) :=
  writeOf_written link tag 0x1100 7 v false s _ rightsRow rfl rfl (by decide) (by decide) (by decide) hv hT
    ((writeObject_rights hmask hv).trans (Prod.ext rfl hdone)) (fun h => absurd (hst.symm.trans h.1) (by decide))

/-- In Reset the window sets both levels once, and locks them. -/
theorem linkRights_open {v : Nat} {s : State} (hst : s.blk.st = .resetPhase) (hopen : s.mgmt.locked = false)
    (hfuse : ¬ (Config.productionFuse = true ∧ (bits v 1 0 = 3 ∨ bits v 9 8 = 3))) :
    (linkRights 0 v s).2 = 0 ∧ (linkRights 0 v s).1.mgmt.locked = true ∧ (linkRights 0 v s).1.obj 0x1100 5 = bits v 1 0 ∧
      (linkRights 0 v s).1.obj 0x1100 6 = bits v 9 8 ∧ (linkRights 0 v s).1.obj 0x1100 8 = 1 := by
  have hok : ((decide (bits v 1 0 = 3) || decide (bits v 9 8 = 3)) && Config.productionFuse) = false := by
    simp only [Bool.and_eq_false_imp, Bool.or_eq_true, decide_eq_true_eq]
    exact fun h3 => Bool.eq_false_iff.mpr (fun hp => hfuse ⟨hp, h3⟩)
  simp [linkRights, hst, hopen, hok, setObj_ne2]

/-- ProfileLock's row. -/
def profileLockRow : ObjRow := ⟨"ProfileLock", 0x01, 0x01, 7, 1, 0, 2, 0, 1, .span 0 1⟩

theorem pageOf_profile {p : Nat} (h : p < 112) : pageOf (0x2300 + p) = (0x2300, p) := by
  simp (disch := omega) only [pageOf, if_neg, if_pos, Nat.add_sub_cancel_left]

theorem objRow_profileLock {p : Nat} (h : p < 112) : objRow (0x2300 + p) 1 = some profileLockRow := by
  simp only [objRow, pageOf_profile h]
  rfl

/-- ProfileLock is writable at the ports that have a profile of their own. -/
theorem accessOf_profileLock {p : Nat} (h : hasProfile p = true) : accessOf (0x2300 + p) 1 profileLockRow = 1 := by
  have hfixed : fixedObject (0x2300 + p) 1 = false := by
    simp only [hasProfile, Bool.or_eq_true, decide_eq_true_eq, beq_iff_eq] at h
    simp only [fixedObject, Bool.or_eq_false_iff, Bool.and_eq_false_iff, decide_eq_false_iff_not, bne_eq_false_iff_eq]
    omega
  simp only [accessOf, hfixed, profileLockRow, Bool.false_eq_true, if_false]

theorem writeNow_profileLock {l p v : Nat} {s : State} (h : p < 112) :
    writeNow false l (0x2300 + p) 1 v s = lockProfile p v s := by
  have hhook : blockHook l (0x2300 + p) 1 v s = some (lockProfile p v s) := by
    have hrights : 0x2300 + p ≠ 0x1100 := by omega
    have hmem : 0x2300 + p ≠ 0x1220 := by omega
    have htranslate : 0x2300 + p ≠ 0x1230 := by omega
    have hpage : 0x2300 + p < 0x2370 := by omega
    simp [blockHook, hrights, hmem, htranslate, hpage]
  have hpair : pairBroken s 0x2300 (0x2300 + p) 1 v = false := by simp [pairBroken]
  simp [writeNow, pageOf_profile h, hpair, hhook]

/-- A write of 1 to ProfileLock of a profile that is not locked. -/
theorem writeOf_profileLock {link : Fin 2} {tag : BitVec 8} {p : Nat} {s : State} (hp : p < 112) (hprofile : hasProfile p = true)
    (hC : CanWrite link 1 2 s) (hopen : s.obj (0x2300 + p) 1 = 0) :
    Written link tag (0x2300 + p) 1 1 (lockProfile p 1 (beginFrame link s)).1 (writeOf link tag (0x2300 + p) 1 1 false s) := by
  obtain ⟨hT, hlevel, hdrains⟩ := hC
  have haccess := accessOf_profileLock hprofile
  have hlocked : (beginFrame link s).obj (0x2300 + p) 1 ≠ 1 := by
    rw [beginFrame_at_obj link s _ _ (by decide) (by omega), hopen]
    decide
  have hlvl : levelOf (0x2300 + p) 1 1 profileLockRow = 2 := by
    simp [levelOf, profileLockRow]
  have hok : valueOk (0x2300 + p) 1 1 profileLockRow = true := by
    simp only [valueOk, pageOf_profile hp]
    rfl
  have hdrains' : drains (beginFrame link s) = false := by simpa [drains] using hdrains
  have hrule : writeObject false link (0x2300 + p) 1 1 profileLockRow (beginFrame link s) =
      lockProfile p 1 (beginFrame link s) := by
    rw [writeObject_now link false _ 1 1 profileLockRow _ rfl (by omega) (by omega) (by omega)
      (by rw [beginFrame_level, hlvl]; exact hlevel) (fun _ => hlocked) (.inl hdrains') hok, writeNow_profileLock hp]
  exact writeOf_written link tag _ 1 1 false s _ profileLockRow (objRow_profileLock hp) rfl (by decide) (by omega) (by decide)
    (by decide) hT hrule (noReset (((lockProfile_keeps ..).blk (by decide)).trans (beginFrame_blk link s)))

/-- A profile that is not locked yet is. -/
theorem lockProfile_one (p : Nat) (s : State) : lockProfile p 1 s =
    ({ s with mgmt := { s.mgmt with profiles := sortedInsert (fun a b => decide (a ≤ b)) p s.mgmt.profiles } }.setObj
      (0x2300 + p) 1 1, 0) := rfl

/-! ### KeyAdopt (R195) -/

/-- KeyAdopt's row. -/
def keyAdoptRow : ObjRow := ⟨"KeyAdopt", 0x09, 0x09, 7, 2, 0, 2, 0, 1, .span 0 1⟩

/-- A write of 1 to KeyAdopt that its rule accepts. -/
theorem writeOf_keyAdopt {link : Fin 2} {tag : BitVec 8} {s : State} (hC : CanWrite link 1 2 s)
    (hdone : (keyAdopt 1 (beginFrame link s)).2 = 0) :
    Written link tag 0x5000 9 1 (keyAdopt 1 (beginFrame link s)).1 (writeOf link tag 0x5000 9 1 false s) := by
  have hrule := writeNow_hooks link false 0x5000 9 1 0x5000 0 (beginFrame link s) rfl (by decide) (by decide) (by decide) (by decide)
  exact writeOf_op link (r := keyAdoptRow) rfl rfl rfl hC hrule hdone (keyAdopt_keeps ..) (by decide)

/-- The districts of a KeyMismatch form anew under the keys the intake found. -/
def reformed (s t : State) : State :=
  ((List.range 4).filter (keyMismatched s)).foldl (fun t d => formDistrict d (wantedDesc t (wantValue t t d)) t) t

theorem reformed_keys (s t : State) : (reformed s t).keys = t.keys :=
  foldl_keeps (fun u => u.keys = t.keys) _ _ _ rfl (fun u _ _ h => ((formDistrict_keeps _ _ u).keys (by decide)).trans h)

theorem noteLinks_keys (links : Option LinkKeys) (s : State) : (noteLinks links s).keys = s.keys :=
  (noteLinks_keeps links s).keys (by decide)

theorem adoptKeys_keys (pair : KeyPair) (source : Nat) (s : State) : (adoptKeys pair source s).keys = s.keys :=
  (adoptKeys_keeps pair source s).keys (by decide)

theorem startMirror_keys (s : State) : (startMirror s).keys = s.keys := (startMirror_keeps s).keys (by decide)

/-- In Config, after a KeyMismatch whose districts may all form anew, the keys that the intake found become current. -/
theorem keyAdopt_allowed {i : Intake} {s : State} (hst : s.blk.st = .config) (hi : s.keys.intake = some i)
    (hmis : s.keys.mismatched = true) (hmay : ∀ d : Fin 4, keyMismatched s d = true → bit (s.obj 0x21F0 1) d = true) :
    (keyAdopt 1 s).2 = 0 ∧ (keyAdopt 1 s).1.keys =
      { s.keys with cur := some i.pair, succ := none, links := i.links, intake := none, mismatched := false } := by
  have hall : ((List.range 4).filter (keyMismatched s)).all (fun d => bit (s.obj 0x21F0 1) d) = true := by
    simp only [List.all_eq_true, List.mem_filter, List.mem_range]
    rintro d ⟨hd, hmism⟩
    exact hmay ⟨d, hd⟩ hmism
  have hrule : ∃ t, keyAdopt 1 s = (if i.links.isSome then startMirror (reformed s t) else reformed s t, 0) ∧
      t.keys = { s.keys with cur := some i.pair, succ := none, links := i.links, intake := none, mismatched := false } := by
    simp only [keyAdopt, hi, hst, hmis, hall, Bool.not_true, bne_self_eq_false, Bool.or_self, Bool.false_eq_true, if_false,
      one_ne_zero]
    refine ⟨_, rfl, ?_⟩
    rw [State.setObj_keys, adoptKeys_keys]
    simp only [loadKeys, noteLinks_keys]
  obtain ⟨t, hrule, hkeys⟩ := hrule
  rw [hrule]
  refine ⟨rfl, ?_⟩
  split
  · rw [startMirror_keys, reformed_keys, hkeys]
  · rw [reformed_keys, hkeys]

/-! ### The obligation -/

/-- Settles O20: each row is the write of one object, which `writeOf_op` answers; what the object's rule does is said by the
equation of that rule. -/
theorem claimsAndSampling : Obligations.ClaimsAndSampling := by
  refine ⟨?_, ?_, ?_, ?_, ?_, ?_, ?_, ?_, ?_⟩
  · intro link tag sub s hsub hC hfree
    rw [← beginFrame_at_obj link s 0x2F00 _ sub.isLt (by decide)] at hfree
    exact ⟨_, rfl, writeOf_claims hsub (by decide) hC (writeClaim_free hfree)⟩
  · intro link tag sub s hsub hC hown
    rw [← beginFrame_at_obj link s 0x2F00 _ sub.isLt (by decide)] at hown
    exact ⟨_, _, rfl, rfl, writeOf_claims hsub (by decide) hC (writeClaim_own hown)⟩
  · intro link tag sub s hsub hC hheld
    rw [← beginFrame_at_obj link s 0x2F00 _ sub.isLt (by decide)] at hheld
    exact ⟨_, rfl, writeOf_claims hsub (by decide) hC (writeClaim_feature hheld)⟩
  · intro link tag frame s hC hframe hahead hnear
    rw [← framesAhead_begin link] at hahead hnear
    have hrule := armSnapshot_ahead hahead hnear
    refine ⟨_, _, rfl, writeOf_snapshot hC hframe (by rw [hrule]), (armSnapshot_keeps ..).frame_of_coversRest rfl, ?_⟩
    rw [hrule]
    exact ⟨rfl, by simp [setObj_ne2], by simp⟩
  · intro link tag index s hC hindex hheld
    rw [← samplesHeld_begin link, ← beginFrame_at_obj link s 0x9020 4 (by decide) (by decide)] at hheld
    obtain ⟨hdone, hmoved, hstate⟩ := releaseSamples_held hindex hheld
    refine ⟨_, _, rfl, writeOf_releaseIndex hC index.isLt hdone, (releaseSamples_keeps ..).frame_of_coversRest rfl, hmoved, ?_⟩
    rw [hstate, releaseStep, beginFrame_at_obj link s 0x9020 4 (by decide) (by decide),
      beginFrame_at_obj link s 0x9020 2 (by decide) (by decide)]
  · intro link tag addr s r dom c l b hC haddr htranslated
    rw [← translated_begin link] at htranslated
    have hrule := translate_some htranslated
    refine ⟨_, _, rfl, writeOf_translate hC haddr (by rw [hrule]), (translate_keeps ..).frame_of_coversRest rfl, ?_⟩
    rw [hrule]
    simp [setObj_ne2]
  · intro link tag s i hC hst hintake hmis hmay
    have hmay' : ∀ d : Fin 4, keyMismatched (beginFrame link s) d = true → bit ((beginFrame link s).obj 0x21F0 1) d = true := by
      intro d hd
      rw [keyMismatched_begin] at hd
      rw [beginFrame_at_obj link s 0x21F0 1 (by decide) (by decide)]
      exact hmay d hd
    obtain ⟨hdone, hkeys⟩ := keyAdopt_allowed (s := beginFrame link s) (by rw [beginFrame_blk, hst])
      (by rw [beginFrame_keys, hintake]) (by rw [beginFrame_keys, hmis]) hmay'
    refine ⟨_, _, rfl, writeOf_keyAdopt hC hdone, (keyAdopt_keeps ..).frame_of_coversRest rfl, ?_⟩
    rw [hkeys]
    exact ⟨rfl, rfl, rfl, rfl, rfl⟩
  · rintro link tag value s rfl hT hst hopen hmask hfuse
    obtain ⟨-, hlocked⟩ := beginFrame_locks 0 s
    obtain ⟨hdone, heffect⟩ := linkRights_open (s := beginFrame (0 : Fin 2) s) (by rw [beginFrame_blk, hst]) (hlocked.trans hopen)
      hfuse
    exact ⟨_, _, rfl, writeOf_rights hT hst hmask value.isLt hdone, (linkRights_keeps ..).frame_of_coversRest rfl, heffect⟩
  · intro link tag port s hprofile hC hopen
    obtain ⟨hprofiles, -⟩ := beginFrame_locks link s
    refine ⟨_, _, rfl, writeOf_profileLock port.isLt hprofile hC hopen, (lockProfile_keeps ..).frame_of_coversRest rfl, ?_⟩
    rw [lockProfile_one]
    exact ⟨State.setObj_same .., congrArg _ hprofiles⟩

end Sys2Proof.Machine

/-! PROOF. The key port: records taken and discarded, the end of the intake (R191, R441), and the stage that opens the port
(R446). -/

namespace Sys2Proof.Machine

/-! ### The end of a stage (R442) -/

/-- The end of a stage leaves the keys as they were. -/
theorem endStage_keys (k : Nat) (s : State) : (endStage k s).keys = s.keys := (endStage_keeps k s).keys (by decide)

/-- It moves the stage on within the block's state. -/
theorem endStage_st (k : Nat) (s : State) : (endStage k s).blk.st = s.blk.st := rfl

/-- S5 ends with the key port closed and the block in Recovery. -/
theorem intakeEnds_closed (s : State) : (intakeEnds s).keys.portOpen = false ∧ (intakeEnds s).blk.st = .recovery := by
  refine ⟨?_, rfl⟩
  simp only [intakeEnds, endStage_keys]

/-! ### Key records and the timeout (R191) -/

section
variable {words : List (BitVec 32)} {s : State} (hopen : s.keys.portOpen = true) (hclosed : s.keys.closed = false)
include hopen hclosed

/-- A record that passes its checks decides the intake. -/
theorem keyRecord_taken {r : KeyRec} (hread : readKeyRec words = some r) :
    keyRecord words s = intakeEnds (intakeRecord r s) := by
  simp only [keyRecord, hopen, hclosed, hread, Bool.not_true, Bool.or_self, Bool.false_eq_true, if_false]

/-- A record that fails its checks is discarded and counted; the third one fails the intake. -/
theorem keyRecord_discarded (hread : readKeyRec words = none) :
    keyRecord words s =
      if 2 ≤ s.keys.discards then intakeEnds (intakeFails { s with keys := { s.keys with discards := s.keys.discards + 1 } })
      else { s with keys := { s.keys with discards := s.keys.discards + 1 } } := by
  have hthird : 3 ≤ s.keys.discards + 1 ↔ 2 ≤ s.keys.discards := by omega
  simp only [keyRecord, hopen, hclosed, hread, hthird, Bool.not_true, Bool.or_self, Bool.false_eq_true, if_false]

/-- The timeout decides the intake with no record. -/
theorem keyTimeout_open : keyTimeout s = intakeEnds (intakeNone s) := by
  simp only [keyTimeout, hopen, hclosed, Bool.not_true, Bool.or_self, Bool.false_eq_true, if_false]

end

/-! ### The end of the training stage (R446) -/

/-- With no channel in Training, S4 ends and the key port opens with no discard counted. -/
theorem trainingStageEnd_trained {s : State} (hst : s.blk.st = .resetPhase) (hstage : s.blk.stage = 4)
    (htrained : s.chans.all (fun e => e.2.st != .training) = true) :
    trainingStageEnd s =
      { endStage 4 s with keys := { s.keys with portOpen := true, discards := 0 } } := by
  have hnone : s.chans.any (fun e => e.2.st == .training) = false := by
    rw [← Bool.not_eq_true', List.not_any_eq_all_not]
    exact htrained
  simp only [trainingStageEnd, inStage, hst, hstage, hnone, beq_self_eq_true, Bool.and_self, Bool.not_true, Bool.or_self,
    Bool.false_eq_true, if_false, endStage_keys]

/-! ### The obligation -/

/-- Settles O52: a record by whether it is well-formed (`keyRecord_taken`, `keyRecord_discarded`), the timeout by
`keyTimeout_open`, the training stage by `trainingStageEnd_trained`. -/
theorem keysTaken : Obligations.KeysTaken := by
  refine ⟨fun words s hopen hclosed => ⟨fun r hread => ?_, fun hread hfew => ⟨_, rfl, ?_⟩, fun hread hmany => ⟨_, rfl, ?_⟩⟩,
    fun s hopen hclosed => ?_, fun s hst hstage htrained => ?_⟩
  · exact congrArg Host.Outcome.next (keyRecord_taken hopen hclosed hread)
  · rw [keyRecord_discarded hopen hclosed hread, if_neg (by omega)]
  · rw [keyRecord_discarded hopen hclosed hread, if_pos hmany]
  · exact ⟨_, congrArg Host.Outcome.next (keyTimeout_open hopen hclosed), rfl, intakeEnds_closed _⟩
  · exact ⟨_, congrArg Host.Outcome.next (trainingStageEnd_trained hst hstage htrained), endStage_stage 4 s, rfl,
      (endStage_st 4 s).trans hst⟩

end Sys2Proof.Machine

/-! PROOF. The bursts of the engines: migration (R214), repair (R250), rebuild (R292), push and pull of a resync (R285), and the
end of formatting (R101). -/

namespace Sys2Proof.Machine

/-! ### Migration (R214) -/

section
variable {d page : Nat} {s : State} (hserving : (s.dist d).st.serving = true) (hmode : (s.dist d).desc.mode ≠ 2)
  (hpage : page < (s.dist d).desc.carve.pages)
include hserving hmode hpage

/-- Where the channel has no room for the burst it waits. -/
theorem migrationBurst_deferred (hroom : sweepReady s ((s.dist d).desc.place (4096 * page) 0).1 1 32 = false) :
    migrationBurst d page s = deferBurst ((s.dist d).desc.place (4096 * page) 0).1 1 32 s := by
  simp [migrationBurst, hserving, hmode, hpage, hroom]

/-- A page whose cursor is busy moves on by one burst; with no roll active nothing follows. -/
theorem migrationBurst_busy {block : BitVec 512} (hroom : sweepReady s ((s.dist d).desc.place (4096 * page) 0).1 1 32 = true)
    (hblock : (needReplaced (.node true d 0 page) d s).2 = some block) (hbusy : cursorBusy (nodeCursor block) = true)
    (hroll : s.vault.rollActive = false) :
    migrationBurst d page s = migrate16 d page block (needReplaced (.node true d 0 page) d s).1 := by
  simp [migrationBurst, hserving, hmode, hpage, hroom, hblock, hbusy, hroll]

end

/-! ### Repair (R250) -/

/-- Storing an entry in MRAM leaves the entries. -/
theorem storeRepair_at_repairAt (e e' : Nat) (s : State) : (storeRepair e s).repairAt e' = s.repairAt e' := rfl

/-- A burst of a range of more than one line: the entry is freed at the end of its range, and its progress moves to the first
line that waits before it. -/
theorem repairBurst_range {e : Nat} {w : State × Nat} {s v : State} (hstate : (s.repairAt e).state ≠ 0)
    (hkind : (s.repairAt e).kind ≠ 0)
    (hv : v = if (s.repairAt e).state = 1 then s.setRepair e { s.repairAt e with state := repairState s (s.repairAt e).dist }
      else s)
    (hw : w = repairLines64 e ((s.repairAt e).firstLine + (s.repairAt e).progress)
      (min 64 (repairLines (s.repairAt e).kind - (s.repairAt e).progress)) 0 true v) :
    repairBurst e s =
      if repairLines (s.repairAt e).kind ≤ (s.repairAt e).progress + w.2 then
        (storeRepair e (w.1.setRepair e Repair.free)).raise (if (w.1.repairAt e).marked then 0x033 else 0x032)
      else if (w.1.repairAt e).kind = 0 then w.1
      else
        let u := w.1.setRepair e { w.1.repairAt e with progress := (s.repairAt e).progress + w.2 }
        if ((s.repairAt e).progress + w.2) / 4096 ≠ (s.repairAt e).progress / 4096 then storeRepair e u else u := by
  subst hw hv
  simp only [repairBurst, hstate, hkind, if_false, bne_iff_ne]

/-! ### Rebuild (R292) -/

section
variable {c : Nat} {s : State} (hown : s.obj 0x2F00 (0x10 + c) = 10) (hst : (s.chan c).st = .rebuilding)
include hown hst

/-- Where the gate window has no room for the burst it waits. -/
theorem rebuildBurst_deferred (hroom : (gateFits s c 64 && engineOpen s c 2) = false) :
    rebuildBurst c s = deferBurst c 2 64 s := by
  simp [rebuildBurst, hown, hst, hroom]

/-- A burst that neither ends the channel nor passes a multiple of 2^20 lines moves progress and cursor on. -/
theorem rebuildBurst_within {w : State × Nat} (hroom : (gateFits s c 64 && engineOpen s c 2) = true)
    (hw : w = rebuildLines c (s.obj (0x6060 + c) 1) (min 64 (rebuildLast s c - s.obj (0x6060 + c) 1)) 0 true
      (noteBurst c 2 0 (rebuildLast s c) s))
    (hmore : s.obj (0x6060 + c) 1 + w.2 < rebuildLast s c)
    (hblock : (s.obj (0x6060 + c) 1 + w.2) / 2 ^ 20 = s.obj (0x6060 + c) 1 / 2 ^ 20) :
    rebuildBurst c s = (addProgress c 2 w.2 w.1).setObj (0x6060 + c) 1 (s.obj (0x6060 + c) 1 + w.2) := by
  subst hw
  simp only [rebuildBurst, hown, hst, hroom, hblock, Nat.not_le.mpr hmore, bne_self_eq_false, Bool.not_true, Bool.false_eq_true,
    if_true, if_false]

end

/-! ### Resync (R285) -/

/-- A Lead's page is pushed where its copies fit. -/
theorem pushBurst_page {d : Nat} {s : State} {page : Nat} {chans : List Nat} (hrole : s.role d = 1)
    (hmst : (s.dist d).mst = .resyncing) (hpush : (s.dist d).push = true) (hpull : (s.dist d).pull = [])
    (hreplay : 2 ^ 19 ≤ 2 ^ 21 - (replayUsed s + rxUsed s)) (hroom : recoveryRoom s 64 = true) (hpages : s.dataPages d ≠ 0)
    (hpage : page = (s.dist d).pushPage % max 1 (s.dataPages d))
    (hchans : chans = ((List.range 64).map (fun k => ((s.dist d).desc.place (4096 * page + 64 * k) 0).1)).eraseDups)
    (hready : chans.all (fun c => sweepReady s c 2 (64 / max 1 chans.length)) = true) :
    let v := resyncCount d
      ((List.range 64).foldl (fun t k => enterOrder (copyAccess t d (64 * page + k)) t) (recoverySpend 64 s))
    pushBurst d s = checkResync d (chans.foldl (fun t c => advanceHorizon c (addProgress c 2 (64 / max 1 chans.length) t))
      (v.modDist d (fun y => { y with
        pushPage := (s.dist d).pushPage + 1, push := decide (v.obj (0x6010 + d) 8 < v.obj (0x6010 + d) 9) }))) := by
  subst hchans hpage
  have hfree : ¬ 2 ^ 21 - (replayUsed s + rxUsed s) < 2 ^ 19 := Nat.not_lt.mpr hreplay
  simp only [pushBurst, hrole, hmst, hpush, hpull, hfree, hroom, hready, hpages, bne_self_eq_false, List.isEmpty_nil,
    Bool.not_true, decide_false, Bool.or_self, Bool.false_eq_true, if_false]

/-- The next page to pull: its wanted lines are asked of the twin, and a page with none is done. -/
theorem pullBurst_page {d : Nat} {r : PageRange} {rest : List PageRange} {s : State} (hpull : (s.dist d).pull = r :: rest)
    (hmst : (s.dist d).mst = .resyncing)
    (hreqs : s.mirror.reqs.any (fun q => q.dist == d && q.purpose == 3) = false) (hroom : recoveryRoom s 64 = true) :
    let want := (List.range 64).filter (fun k => !plazaKeeps s d (64 * r.first + k))
    pullBurst d s = if want = [] then pullPageDone d s
      else want.foldl (fun t k => engineAsk 3 d (64 * r.first + k) t) (recoverySpend want.length s) := by
  simp only [pullBurst, hpull, hmst, hreqs, hroom, bne_self_eq_false, Bool.not_true, Bool.or_self, Bool.false_eq_true, if_false,
    List.isEmpty_iff]

/-! ### The end of formatting (R101) -/

theorem dist_congr {s t : State} (h : t.dists = s.dists) (d : Nat) : t.dist d = s.dist d := by
  rw [State.dist, State.dist, h]

theorem chan_congr {s t : State} (h : t.chans = s.chans) (c : Nat) : t.chan c = s.chan c := by
  rw [State.chan, State.chan, h]

/-- A district that serves is Degraded where a channel of it degrades it, else Formed. -/
theorem refreshDistrict_serving {d : Nat} {s : State} (h : (s.dist d).st.serving = true) :
    refreshDistrict d s = s.setDist d { s.dist d with
      st := if (s.dist d).desc.channels.any (fun c => (s.chan c).st.degrades) then .degraded else .formed } := by
  simp only [refreshDistrict, h, if_true]

theorem commitFormation_at_dist (d d' : Nat) (s : State) : (commitFormation d s).dist d' = s.dist d' :=
  dist_congr ((commitFormation_keeps d s).dists (by decide)) d'

theorem commitFormation_at_chan (d c : Nat) (s : State) : (commitFormation d s).chan c = s.chan c :=
  chan_congr ((commitFormation_keeps d s).chans (by decide)) c

theorem writeDescState_at_dist (d st d' : Nat) (s : State) : (writeDescState d st s).dist d' = s.dist d' := rfl

theorem writeDescState_at_chan (d st c : Nat) (s : State) : (writeDescState d st s).chan c = s.chan c := rfl

/-- Whether or not the bays are cleared, the districts stay. -/
theorem ite_clearBlank_at_dist (p : Prop) [Decidable p] (cs : List Nat) (d : Nat) (s : State) :
    (if p then clearBlank cs s else s).dist d = s.dist d := by
  split
  · exact dist_congr ((clearBlank_keeps cs s).dists (by decide)) d
  · rfl

/-- So do the channels. -/
theorem ite_clearBlank_at_chan (p : Prop) [Decidable p] (cs : List Nat) (c : Nat) (s : State) :
    (if p then clearBlank cs s else s).chan c = s.chan c := by
  split
  · exact chan_congr ((clearBlank_keeps cs s).chans (by decide)) c
  · rfl

/-- A district as the end of formatting leaves it, in a state that is still to be refreshed from its channels. -/
def formattedDist (x : District) (gen : Nat) : District :=
  { x with st := .formed, flags := if x.desc.mode = 0 then 3 else 1, rootOk := x.desc.mode == 0, formatGen := gen }

/-- The end of formatting is a refresh of the formatted district; the channels are as they were. -/
theorem formatDone_formatting {d : Nat} {s : State} (h : (s.dist d).st = .formatting) :
    ∃ u, formatDone d s = refreshDistrict d u ∧ u.dist d = formattedDist (s.dist d) s.vault.gen ∧ ∀ c, u.chan c = s.chan c := by
  have hguard : ¬ ((s.dist d).st != .formatting) = true := by simp [h]
  rw [formatDone, if_neg hguard]
  refine ⟨_, rfl, ?_, ?_⟩
  · rw [State.modDist_same, ite_clearBlank_at_dist, State.setObj_at_dist, writeDescState_at_dist, commitFormation_at_dist,
      State.modDist_same]
    rfl
  · intro c
    rw [State.modDist_at_chan, ite_clearBlank_at_chan, State.setObj_at_chan, writeDescState_at_chan, commitFormation_at_chan,
      State.modDist_at_chan]

/-- The district is Formed, or Degraded where a channel of it is, with its flags and the generation of its formatting. -/
theorem formatDone_dist {d : Nat} {s : State} (h : (s.dist d).st = .formatting) :
    (formatDone d s).dist d = { formattedDist (s.dist d) s.vault.gen with
      st := if (s.dist d).desc.channels.any (fun c => (s.chan c).st.degrades) then .degraded else .formed } := by
  obtain ⟨u, hdone, hdist, hchans⟩ := formatDone_formatting h
  have hserving : (u.dist d).st.serving = true := by rw [hdist]; rfl
  rw [hdone, refreshDistrict_serving hserving, State.setDist_same, hdist]
  simp only [hchans]
  rfl

/-! ### The obligation -/

/-- Settles O51: each row by the equation of its burst where its guards hold. -/
theorem engineBursts : Obligations.EngineBursts := by
  refine ⟨?_, ?_, ?_, ?_, ?_, ?_⟩
  · intro d page b block s hserving hmode hpage
    refine ⟨fun hroom => congrArg Host.Outcome.next (migrationBurst_deferred hserving hmode hpage hroom), ?_⟩
    rintro hroom rfl hblock hbusy hroll
    exact congrArg Host.Outcome.next (migrationBurst_busy hserving hmode hpage hroom hblock hbusy hroll)
  · rintro entry r w s v rfl hstate hkind - hv hw
    have hburst := repairBurst_range hstate hkind hv hw
    refine ⟨fun hmore hblock hsame => ⟨_, rfl, ?_⟩, fun hend => ⟨_, rfl, ?_⟩⟩
    · rw [hburst, if_neg (Nat.not_le.mpr hmore), if_neg (hsame ▸ hkind), if_neg (not_not_intro hblock)]
    · rw [hburst, if_pos hend, State.raise_at_repairAt, storeRepair_at_repairAt]
      exact ⟨rfl, State.setRepair_same ..⟩
  · intro c w s hown hst
    refine ⟨fun hroom => congrArg Host.Outcome.next (rebuildBurst_deferred hown hst hroom), fun hroom hw hmore hblock => ?_⟩
    exact ⟨_, congrArg Host.Outcome.next (rebuildBurst_within hown hst hroom hw hmore hblock), rfl, State.setObj_same ..⟩
  · rintro d s v chans hrole hmst hpush hpull hreplay hroom hpages hchans hready rfl
    exact ⟨_, _, congrArg Host.Outcome.next (pushBurst_page hrole hmst hpush hpull hreplay hroom hpages rfl hchans hready), rfl, rfl⟩
  · rintro d r rest s want hpull hmst hreqs hroom rfl
    have hburst := pullBurst_page hpull hmst hreqs hroom
    exact ⟨fun hnone => congrArg Host.Outcome.next (hburst.trans (if_pos hnone)),
      fun hsome => congrArg Host.Outcome.next (hburst.trans (if_neg hsome))⟩
  · intro d s h
    have hdist := formatDone_dist h
    exact ⟨_, rfl, congrArg District.st hdist, congrArg District.formatGen hdist, congrArg District.flags hdist⟩

end Sys2Proof.Machine

/-! PROOF. The field GF(2^8) of the check code (R228): its elements as powers of α, and the device that a
wrong symbol names (R229). -/

namespace Sys2Proof.Machine

/-! ### The field (R228) -/

/-- Multiplication by α = 0x02. -/
def timesAlpha (a : Nat) : Nat := if (2 * a).testBit 8 then 2 * a ^^^ 0x11D else 2 * a

/-- One step of the product of a and b: the product so far moves up by α and takes a in where b has a bit. -/
def mulStep (a b acc i : Nat) : Nat := if b.testBit (7 - i) then timesAlpha acc ^^^ a else timesAlpha acc

theorem gf8Mul_eq_foldl (a b : Nat) : gf8Mul a b = (List.range 8).foldl (mulStep a b) 0 := rfl

theorem timesAlpha_lt {a : Nat} (ha : a < 256) : timesAlpha a < 256 := by
  rw [timesAlpha]
  split
  · next h8 =>
    refine Nat.lt_pow_two_of_testBit (n := 8) _ (fun i hi => ?_)
    rw [Nat.testBit_xor]
    rcases Nat.eq_or_lt_of_le hi with rfl | hi
    · rw [h8]
      decide
    · have hpow : 2 ^ 9 ≤ 2 ^ i := Nat.pow_le_pow_right (by decide) hi
      rw [Nat.testBit_lt_two_pow (by omega), Nat.testBit_lt_two_pow (by omega), Bool.xor_false]
  · next h8 =>
    by_contra hlarge
    refine h8 ?_
    rw [Nat.testBit_eq_decide_div_mod_eq, decide_eq_true_eq]
    omega

theorem timesAlpha_xor (a b : Nat) : timesAlpha (a ^^^ b) = timesAlpha a ^^^ timesAlpha b := by
  have hdouble : 2 * (a ^^^ b) = 2 * a ^^^ 2 * b := by
    simpa [Nat.shiftLeft_eq, Nat.mul_comm] using Nat.shiftLeft_xor_distrib (a := a) (b := b) (i := 1)
  rw [timesAlpha, timesAlpha, timesAlpha, hdouble, Nat.testBit_xor]
  cases (2 * a).testBit 8 <;> cases (2 * b).testBit 8 <;> simp [Nat.xor_assoc, Nat.xor_left_comm, Nat.xor_comm]

theorem iterate_timesAlpha_lt {a : Nat} (ha : a < 256) (n : Nat) : timesAlpha^[n] a < 256 := by
  induction n with
  | zero => exact ha
  | succ n ih => rw [Function.iterate_succ_apply']; exact timesAlpha_lt ih

theorem iterate_timesAlpha_xor (n a b : Nat) : timesAlpha^[n] (a ^^^ b) = timesAlpha^[n] a ^^^ timesAlpha^[n] b := by
  induction n generalizing a b with
  | zero => rfl
  | succ n ih => simp only [Function.iterate_succ_apply, timesAlpha_xor, ih]

theorem iterate_timesAlpha_zero (n : Nat) : timesAlpha^[n] 0 = 0 := Function.iterate_fixed rfl n

theorem timesAlpha_gf8Mul (a b : Nat) : gf8Mul (timesAlpha a) b = timesAlpha (gf8Mul a b) := by
  rw [gf8Mul_eq_foldl, gf8Mul_eq_foldl, ← List.foldl_hom timesAlpha (g₂ := mulStep (timesAlpha a) b)]
  · rfl
  · intro acc i
    simp only [mulStep, apply_ite timesAlpha, timesAlpha_xor]

theorem zero_gf8Mul (b : Nat) : gf8Mul 0 b = 0 :=
  (gf8Mul_eq_foldl 0 b).trans (List.foldl_fixed' (fun _ => ite_self 0) _)

/-- Nothing is reduced where 1 is multiplied: after n steps the product is the n high bits of b. -/
theorem one_gf8Mul {b : Nat} (hb : b < 256) : gf8Mul 1 b = b := by
  have hhigh : ∀ n ≤ 8, (List.range n).foldl (mulStep 1 b) 0 = b / 2 ^ (8 - n) := by
    intro n hn
    induction n with
    | zero => exact (Nat.div_eq_of_lt hb).symm
    | succ n ih =>
      have hhalf : b / 2 ^ (8 - n) = b / 2 ^ (7 - n) / 2 := by
        rw [Nat.div_div_eq_div_mul, ← Nat.pow_succ, show (7 - n).succ = 8 - n by omega]
      have hlt : b / 2 ^ (7 - n) < 256 := Nat.lt_of_le_of_lt (Nat.div_le_self ..) hb
      have hdouble : timesAlpha (b / 2 ^ (7 - n) / 2) = 2 * (b / 2 ^ (7 - n) / 2) := by
        rw [timesAlpha, Nat.testBit_lt_two_pow (by omega), if_neg Bool.false_ne_true]
      rw [List.range_succ, List.foldl_append, ih (by omega), List.foldl_cons, List.foldl_nil, mulStep, hhalf, hdouble,
        Nat.testBit_eq_decide_div_mod_eq, show 8 - (n + 1) = 7 - n by omega]
      generalize b / 2 ^ (7 - n) = q
      split
      · next hodd =>
        have hodd := of_decide_eq_true hodd
        rw [Nat.xor_one_of_even (even_two_mul _)]
        omega
      · next heven =>
        rw [decide_eq_true_eq] at heven
        omega
  exact (hhigh 8 (by decide)).trans (Nat.div_one b)

/-- The product of a power of α. -/
theorem iterate_gf8Mul (n : Nat) {b : Nat} (hb : b < 256) : gf8Mul (timesAlpha^[n] 1) b = timesAlpha^[n] b := by
  induction n with
  | zero => exact one_gf8Mul hb
  | succ n ih => rw [Function.iterate_succ_apply', timesAlpha_gf8Mul, ih, Function.iterate_succ_apply']

/-- α²⁵⁵ = 1, and no power of α to a proper divisor of 255 is 1: 255 = 3 · 5 · 17. -/
theorem alpha_powers : timesAlpha^[255] 1 = 1 ∧ timesAlpha^[85] 1 ≠ 1 ∧ timesAlpha^[51] 1 ≠ 1 ∧ timesAlpha^[15] 1 ≠ 1 := by
  have hadd : ∀ n m a b, timesAlpha^[n] 1 = a → timesAlpha^[m] 1 = b → timesAlpha^[n + m] 1 = gf8Mul a b := by
    rintro n m _ _ rfl rfl
    rw [iterate_gf8Mul n (iterate_timesAlpha_lt (by decide) m), Function.iterate_add_apply]
  have h15 : timesAlpha^[15] 1 = 0x26 := by decide
  have h17 : timesAlpha^[17] 1 = 0x98 := (hadd 15 2 _ _ h15 rfl).trans (by decide)
  have h34 : timesAlpha^[34] 1 = 0x4E := (hadd 17 17 _ _ h17 h17).trans (by decide)
  have h51 : timesAlpha^[51] 1 = 0x0A := (hadd 34 17 _ _ h34 h17).trans (by decide)
  have h85 : timesAlpha^[85] 1 = 0xD6 := (hadd 51 34 _ _ h51 h34).trans (by decide)
  have h170 : timesAlpha^[170] 1 = 0xD7 := (hadd 85 85 _ _ h85 h85).trans (by decide)
  refine ⟨(hadd 170 85 _ _ h170 h85).trans (by decide), ?_, ?_, ?_⟩
  · rw [h85]
    decide
  · rw [h51]
    decide
  · rw [h15]
    decide

/-- The order of α is 255. -/
theorem alpha_order : Function.minimalPeriod timesAlpha 1 = 255 := by
  obtain ⟨h255, h85, h51, h15⟩ := alpha_powers
  have hdvd : Function.minimalPeriod timesAlpha 1 ∣ 255 := Function.IsPeriodicPt.minimalPeriod_dvd h255
  have hperiodic : ∀ n, Function.minimalPeriod timesAlpha 1 ∣ n → timesAlpha^[n] 1 = 1 := fun n hn =>
    (Function.isPeriodicPt_minimalPeriod timesAlpha 1).trans_dvd hn
  have hdivisors : Nat.divisors 255 = {1, 3, 5, 15, 17, 51, 85, 255} := by simp only [Nat.divisors_ofNat]
  have hmem := Nat.mem_divisors.mpr ⟨hdvd, by decide⟩
  generalize Function.minimalPeriod timesAlpha 1 = p at hperiodic hmem ⊢
  simp only [hdivisors, Finset.mem_insert, Finset.mem_singleton] at hmem
  rcases hmem with rfl | rfl | rfl | rfl | rfl | rfl | rfl | rfl
  · exact absurd (hperiodic 15 (by decide)) h15
  · exact absurd (hperiodic 15 (by decide)) h15
  · exact absurd (hperiodic 15 (by decide)) h15
  · exact absurd (hperiodic 15 (by decide)) h15
  · exact absurd (hperiodic 51 (by decide)) h51
  · exact absurd (hperiodic 51 (by decide)) h51
  · exact absurd (hperiodic 85 (by decide)) h85
  · rfl

/-- α generates the field: every element but 0 is a power of it. -/
theorem exists_eq_iterate_timesAlpha {a : Nat} (ha : a < 256) (h0 : a ≠ 0) : ∃ n, a = timesAlpha^[n] 1 := by
  have hne : ∀ n, timesAlpha^[n] 1 ≠ 0 := by
    intro n hzero
    have hback : timesAlpha^[255 * n] 1 = 1 := by
      rw [Function.iterate_mul]
      exact Function.iterate_fixed alpha_powers.1 n
    rw [show 255 * n = 254 * n + n by ring, Function.iterate_add_apply, hzero, iterate_timesAlpha_zero] at hback
    exact absurd hback (by decide)
  have hinj : Set.InjOn (fun n => timesAlpha^[n] 1) (Finset.range 255) := by
    rw [Finset.coe_range, ← alpha_order]
    exact Function.iterate_injOn_Iio_minimalPeriod
  have hall : (Finset.range 255).image (fun n => timesAlpha^[n] 1) = Finset.Ico 1 256 := by
    refine Finset.eq_of_subset_of_card_le (fun b hb => ?_) ?_
    · obtain ⟨n, -, rfl⟩ := Finset.mem_image.mp hb
      exact Finset.mem_Ico.mpr ⟨Nat.pos_of_ne_zero (hne n), iterate_timesAlpha_lt (by decide) n⟩
    · rw [Finset.card_image_of_injOn hinj, Finset.card_range, Nat.card_Ico]
  have hmem : a ∈ (Finset.range 255).image (fun n => timesAlpha^[n] 1) := by
    rw [hall]
    exact Finset.mem_Ico.mpr ⟨Nat.pos_of_ne_zero h0, ha⟩
  obtain ⟨n, -, hn⟩ := Finset.mem_image.mp hmem
  exact ⟨n, hn.symm⟩

/-- Multiplying 255 n times by α changes nothing. -/
theorem iterate_timesAlpha_order {a : Nat} (ha : a < 256) (n : Nat) : timesAlpha^[255 * n] a = a := by
  have horder : timesAlpha^[255] a = a := by
    by_cases h0 : a = 0
    · rw [h0, iterate_timesAlpha_zero]
    · obtain ⟨m, rfl⟩ := exists_eq_iterate_timesAlpha ha h0
      rw [← Function.iterate_add_apply, Nat.add_comm, Function.iterate_add_apply, alpha_powers.1]
  rw [Function.iterate_mul]
  exact Function.iterate_fixed horder n

theorem gf8Mul_iterate {a : Nat} (ha : a < 256) (m : Nat) : gf8Mul a (timesAlpha^[m] 1) = timesAlpha^[m] a := by
  by_cases h0 : a = 0
  · rw [h0, zero_gf8Mul, iterate_timesAlpha_zero]
  · obtain ⟨n, rfl⟩ := exists_eq_iterate_timesAlpha ha h0
    rw [iterate_gf8Mul n (iterate_timesAlpha_lt (by decide) m), ← Function.iterate_add_apply, ← Function.iterate_add_apply,
      Nat.add_comm]

theorem gf8Pow_eq_iterate (n : Nat) : gf8Pow n = timesAlpha^[n] 1 := by
  induction n with
  | zero => rfl
  | succ n ih =>
    have hsucc : gf8Pow (n + 1) = gf8Mul (gf8Pow n) (timesAlpha^[1] 1) := by
      rw [gf8Pow, List.range_succ, List.foldl_append]
      rfl
    rw [hsucc, ih, gf8Mul_iterate (iterate_timesAlpha_lt (by decide) n), Function.iterate_one, Function.iterate_succ_apply']

theorem gf8Pow_lt (k : Nat) : gf8Pow k < 256 := by
  rw [gf8Pow_eq_iterate]
  exact iterate_timesAlpha_lt (by decide) k

theorem gf8Mul_gf8Pow {a : Nat} (ha : a < 256) (k : Nat) : gf8Mul a (gf8Pow k) = timesAlpha^[k] a := by
  rw [gf8Pow_eq_iterate, gf8Mul_iterate ha]

/-- The inverse of a power of α is its 254th power. -/
theorem gf8Inv_iterate (n : Nat) : gf8Inv (timesAlpha^[n] 1) = timesAlpha^[254 * n] 1 := by
  have hpower : ∀ m, (List.range m).foldl (fun x _ => gf8Mul x (timesAlpha^[n] 1)) (timesAlpha^[n] 1) =
      timesAlpha^[(m + 1) * n] 1 := by
    intro m
    induction m with
    | zero => simp
    | succ m ih =>
      rw [List.range_succ, List.foldl_append, ih, List.foldl_cons, List.foldl_nil,
        gf8Mul_iterate (iterate_timesAlpha_lt (by decide) _), ← Function.iterate_add_apply]
      congr 2
      ring
  exact hpower 253

theorem gf8Mul_gf8Inv_lt {a d : Nat} (ha : a < 256) (hd : d < 256) (h0 : d ≠ 0) : gf8Mul a (gf8Inv d) < 256 := by
  obtain ⟨n, rfl⟩ := exists_eq_iterate_timesAlpha hd h0
  rw [gf8Inv_iterate, gf8Mul_iterate ha]
  exact iterate_timesAlpha_lt ha _

/-- The quotient of a α^k by a ≠ 0. -/
theorem iterate_div {a : Nat} (ha : a < 256) (h0 : a ≠ 0) (k : Nat) : gf8Mul (timesAlpha^[k] a) (gf8Inv a) = gf8Pow k := by
  obtain ⟨n, rfl⟩ := exists_eq_iterate_timesAlpha ha h0
  rw [gf8Inv_iterate, ← Function.iterate_add_apply, iterate_gf8Mul _ (iterate_timesAlpha_lt (by decide) _),
    ← Function.iterate_add_apply, gf8Pow_eq_iterate, show k + n + 254 * n = k + 255 * n by ring, Function.iterate_add_apply,
    iterate_timesAlpha_order (by decide)]

theorem iterate_timesAlpha_ne_zero {a : Nat} (ha : a < 256) (h0 : a ≠ 0) (k : Nat) : timesAlpha^[k] a ≠ 0 := by
  intro hzero
  have hback := iterate_timesAlpha_order ha k
  rw [show 255 * k = 254 * k + k by ring, Function.iterate_add_apply, hzero, iterate_timesAlpha_zero] at hback
  exact h0 hback.symm

/-- α⁸ + α⁹, the divisor of the check symbol s₉ (R228). -/
theorem checkDivisor_lt : gf8Pow 8 ^^^ gf8Pow 9 < 256 := Nat.xor_lt_two_pow (n := 8) (gf8Pow_lt 8) (gf8Pow_lt 9)

theorem checkDivisor_ne_zero : gf8Pow 8 ^^^ gf8Pow 9 ≠ 0 := by
  rw [gf8Pow_eq_iterate, gf8Pow_eq_iterate]
  decide

/-- The powers of the ten devices are told apart by their logarithms. -/
theorem gf8Log10_gf8Pow : ∀ k : Fin 10, gf8Log10 (gf8Pow k) = some k.val := by decide

theorem gf8Mul_xor {a b c : Nat} (ha : a < 256) (hb : b < 256) (hc : c < 256) :
    gf8Mul a (b ^^^ c) = gf8Mul a b ^^^ gf8Mul a c := by
  by_cases h0 : a = 0
  · rw [h0, zero_gf8Mul, zero_gf8Mul, zero_gf8Mul, Nat.xor_self]
  · obtain ⟨n, rfl⟩ := exists_eq_iterate_timesAlpha ha h0
    rw [iterate_gf8Mul n hb, iterate_gf8Mul n hc, iterate_gf8Mul n (Nat.xor_lt_two_pow (n := 8) hb hc), iterate_timesAlpha_xor]

/-- A quotient times its divisor d ≠ 0. -/
theorem gf8Mul_gf8Inv_cancel {a d : Nat} (ha : a < 256) (hd : d < 256) (h0 : d ≠ 0) : gf8Mul (gf8Mul a (gf8Inv d)) d = a := by
  obtain ⟨n, rfl⟩ := exists_eq_iterate_timesAlpha hd h0
  rw [gf8Inv_iterate, gf8Mul_iterate ha, gf8Mul_iterate (iterate_timesAlpha_lt ha _), ← Function.iterate_add_apply,
    show n + 254 * n = 255 * n by ring, iterate_timesAlpha_order ha]

/-! ### One wrong symbol in a codeword (R229) -/

/-- The syndromes of a codeword whose symbol k differs by e. -/
def errorSyndrome (k e : Nat) : Nat × Nat := (e, timesAlpha^[k] e)

theorem errorSyndrome_zero (k : Nat) : errorSyndrome k 0 = (0, 0) := by rw [errorSyndrome, iterate_timesAlpha_zero]

/-- The syndromes of a wrong symbol name its device. -/
theorem syndromeDevice_errorSyndrome (k : Fin 10) {e : Nat} (he : e < 256) (h0 : e ≠ 0) :
    syndromeDevice (errorSyndrome k e) = some k.val := by
  have hne := iterate_timesAlpha_ne_zero he h0 k
  simp only [syndromeDevice, errorSyndrome, h0, hne, decide_false, Bool.or_self, Bool.false_eq_true, if_false,
    iterate_div he h0, gf8Log10_gf8Pow]

/-- No other device gives the same syndromes. -/
theorem errorSyndrome_device {j k : Fin 10} {e : Nat} (he : e < 256) (h0 : e ≠ 0) (h : errorSyndrome j e = errorSyndrome k e) :
    j = k := by
  have hj := syndromeDevice_errorSyndrome j he h0
  rw [h, syndromeDevice_errorSyndrome k he h0] at hj
  exact Fin.ext (Option.some.inj hj).symm

end Sys2Proof.Machine

/-! PROOF. The symbols of a stored line (R227), and the syndromes of a line as it is written (R228). -/

namespace Sys2Proof.Machine

/-! ### Syndromes of a list of symbols (R228) -/

/-- The sums of R228 over the symbols of devices 0 to n - 1. -/
def symbolSums (f : Nat → Nat) (n : Nat) : Nat × Nat :=
  (List.range n).foldl (fun a k => (a.1 ^^^ f k, a.2 ^^^ gf8Mul (f k) (gf8Pow k))) (0, 0)

theorem syndrome_eq_symbolSums (v : BitVec 640) (i : Nat) : syndrome v i = symbolSums (symbolOf v i) 10 := rfl

section
variable {f g : Nat → Nat}

theorem symbolSums_zero (f : Nat → Nat) : symbolSums f 0 = (0, 0) := rfl

theorem symbolSums_succ (hf : ∀ k, f k < 256) (n : Nat) :
    symbolSums f (n + 1) = ((symbolSums f n).1 ^^^ f n, (symbolSums f n).2 ^^^ timesAlpha^[n] (f n)) := by
  rw [← gf8Mul_gf8Pow (hf n), symbolSums, List.range_succ, List.foldl_append]
  rfl

theorem symbolSums_congr {n : Nat} (h : ∀ k < n, f k = g k) : symbolSums f n = symbolSums g n := by
  refine List.foldl_ext _ _ _ (fun a k hk => ?_)
  rw [h k (List.mem_range.mp hk)]

theorem symbolSums_lt (hf : ∀ k, f k < 256) (n : Nat) : (symbolSums f n).1 < 256 ∧ (symbolSums f n).2 < 256 := by
  induction n with
  | zero => rw [symbolSums_zero]; decide
  | succ n ih =>
    rw [symbolSums_succ hf]
    exact ⟨Nat.xor_lt_two_pow (n := 8) ih.1 (hf n), Nat.xor_lt_two_pow (n := 8) ih.2 (iterate_timesAlpha_lt (hf n) n)⟩

theorem symbolSums_xor (hf : ∀ k, f k < 256) (hg : ∀ k, g k < 256) (n : Nat) :
    symbolSums (fun k => f k ^^^ g k) n =
      ((symbolSums f n).1 ^^^ (symbolSums g n).1, (symbolSums f n).2 ^^^ (symbolSums g n).2) := by
  have hfg : ∀ k, f k ^^^ g k < 256 := fun k => Nat.xor_lt_two_pow (n := 8) (hf k) (hg k)
  induction n with
  | zero => simp only [symbolSums_zero, Nat.xor_self]
  | succ n ih =>
    simp only [symbolSums_succ hf, symbolSums_succ hg, symbolSums_succ hfg, ih, iterate_timesAlpha_xor, Nat.xor_assoc,
      Nat.xor_left_comm]

/-- One wrong symbol alone. -/
theorem symbolSums_single {k e : Nat} (he : e < 256) (n : Nat) :
    symbolSums (fun j => if j = k then e else 0) n = if k < n then errorSyndrome k e else (0, 0) := by
  have hlt : ∀ j, (if j = k then e else 0) < 256 := fun j => by split <;> omega
  induction n with
  | zero => rfl
  | succ n ih =>
    rw [symbolSums_succ hlt, ih]
    rcases Nat.lt_trichotomy k n with h | rfl | h
    · simp [h, Nat.lt_succ_of_lt h, Nat.ne_of_gt h, iterate_timesAlpha_zero]
    · simp [errorSyndrome]
    · simp [Nat.not_lt.mpr h.le, Nat.not_lt.mpr h, Nat.ne_of_lt h, iterate_timesAlpha_zero]

/-- The check symbols make both sums 0 (R228): s₉ = (S₁ + S₀ α⁸) / (α⁸ + α⁹) and s₈ = S₀ + s₉. -/
theorem symbolSums_checked (hf : ∀ k, f k < 256)
    (h9 : f 9 = gf8Mul ((symbolSums f 8).2 ^^^ gf8Mul (symbolSums f 8).1 (gf8Pow 8)) (gf8Inv (gf8Pow 8 ^^^ gf8Pow 9)))
    (h8 : f 8 = (symbolSums f 8).1 ^^^ f 9) : symbolSums f 10 = (0, 0) := by
  obtain ⟨hlt0, hlt1⟩ := symbolSums_lt hf 8
  have hsum : gf8Mul (symbolSums f 8).1 (gf8Pow 8) < 256 := by
    rw [gf8Mul_gf8Pow hlt0]
    exact iterate_timesAlpha_lt hlt0 8
  have hcancel := gf8Mul_gf8Inv_cancel (Nat.xor_lt_two_pow (n := 8) hlt1 hsum) checkDivisor_lt checkDivisor_ne_zero
  rw [← h9, gf8Mul_xor (hf 9) (gf8Pow_lt 8) (gf8Pow_lt 9), gf8Mul_gf8Pow (hf 9), gf8Mul_gf8Pow (hf 9),
    gf8Mul_gf8Pow hlt0] at hcancel
  rw [symbolSums_succ hf 9, symbolSums_succ hf 8, h8, iterate_timesAlpha_xor]
  refine Prod.ext ?_ ?_
  · simp only [Nat.xor_assoc, Nat.xor_self, Nat.xor_zero]
  · calc _ = ((symbolSums f 8).2 ^^^ timesAlpha^[8] (symbolSums f 8).1) ^^^ (timesAlpha^[8] (f 9) ^^^ timesAlpha^[9] (f 9)) := by
          simp only [Nat.xor_assoc]
      _ = 0 := by rw [hcancel, Nat.xor_self]
end

/-! ### Where a symbol lies in a stored line (R227) -/

/-- The lowest bit of a stored line that device k drives in beat t: on DQ[4k], devices 8 and 9 on CB[0] and CB[4]. -/
def pin (t k : Nat) : Nat := if k < 8 then 128 + (32 * t + 4 * k) else 8 * t + 4 * (k - 8)

/-- Device k's nibble of beat t. -/
def nibble (v : BitVec 640) (t k : Nat) : Nat := v.toNat / 2 ^ pin t k % 16

theorem symbolOf_eq_nibbles (v : BitVec 640) (i k : Nat) :
    symbolOf v i k = nibble v (2 * i) k + 16 * nibble v (2 * i + 1) k := by
  have hwidth : ∀ x lo, bits x (lo + 3) lo = x / 2 ^ lo % 16 := by
    intro x lo
    rw [bits, show lo + 3 + 1 - lo = 4 by omega]
    rfl
  have hnibble : ∀ t, (if k < 8 then bits (v.toNat / 2 ^ 128) (32 * t + 4 * k + 3) (32 * t + 4 * k)
      else bits v.toNat (8 * t + 4 * (k - 8) + 3) (8 * t + 4 * (k - 8))) = nibble v t k := by
    intro t
    rw [nibble, pin, hwidth, hwidth, Nat.div_div_eq_div_mul, ← Nat.pow_add]
    split <;> rfl
  simp only [symbolOf, hnibble]

theorem symbolOf_lt (v : BitVec 640) (i k : Nat) : symbolOf v i k < 256 := by
  rw [symbolOf_eq_nibbles]
  have hlow : nibble v (2 * i) k < 16 := Nat.mod_lt _ (by decide)
  have hhigh : nibble v (2 * i + 1) k < 16 := Nat.mod_lt _ (by decide)
  omega

theorem testBit_nibble (v : BitVec 640) (t k j : Nat) :
    (nibble v t k).testBit j = (decide (j < 4) && v.getLsbD (pin t k + j)) := by
  rw [nibble, show 16 = 2 ^ 4 from rfl, Nat.testBit_mod_two_pow, Nat.testBit_div_two_pow, BitVec.getLsbD, Nat.add_comm]

theorem nibble_xor (v w : BitVec 640) (t k : Nat) : nibble (v ^^^ w) t k = nibble v t k ^^^ nibble w t k := by
  refine Nat.eq_of_testBit_eq (fun j => ?_)
  simp only [Nat.testBit_xor, testBit_nibble, BitVec.getLsbD_xor, Bool.and_xor_distrib_left]

theorem symbolOf_xor (v w : BitVec 640) (i k : Nat) : symbolOf (v ^^^ w) i k = symbolOf v i k ^^^ symbolOf w i k := by
  have hbit : ∀ u j, (symbolOf u i k).testBit j =
      if j < 4 then (nibble u (2 * i) k).testBit j else (nibble u (2 * i + 1) k).testBit (j - 4) := by
    intro u j
    have hlow : nibble u (2 * i) k < 2 ^ 4 := Nat.mod_lt _ (by decide)
    rw [symbolOf_eq_nibbles, Nat.add_comm, show 16 = 2 ^ 4 from rfl, Nat.testBit_two_pow_mul_add _ hlow]
  refine Nat.eq_of_testBit_eq (fun j => ?_)
  rw [Nat.testBit_xor, hbit, hbit, hbit, nibble_xor, nibble_xor]
  split <;> exact Nat.testBit_xor ..

/-- Numbers of disjoint bits: 16 times one above a nibble. -/
theorem nibble_add_eq_xor {x y : Nat} {p p' : Nat} (hx : x < 16) (hp : p + 4 ≤ p') :
    x * 2 ^ p + y * 2 ^ p' = x * 2 ^ p ^^^ y * 2 ^ p' := by
  have hbelow : x * 2 ^ p < 2 ^ p' := by
    calc _ < 2 ^ 4 * 2 ^ p := Nat.mul_lt_mul_of_pos_right hx (Nat.two_pow_pos _)
      _ = 2 ^ (p + 4) := by rw [Nat.pow_add, Nat.mul_comm]
      _ ≤ _ := Nat.pow_le_pow_right (by decide) hp
  refine Nat.eq_of_testBit_eq (fun j => ?_)
  rw [Nat.add_comm, Nat.mul_comm y, Nat.testBit_two_pow_mul_add _ hbelow, Nat.testBit_xor, Nat.testBit_two_pow_mul]
  split
  · next h => rw [decide_eq_false (Nat.not_le.mpr h), Bool.false_and, Bool.xor_false]
  · next h =>
    rw [Nat.testBit_lt_two_pow (Nat.lt_of_lt_of_le hbelow (Nat.pow_le_pow_right (by decide) (Nat.not_lt.mp h))), Bool.false_xor,
      decide_eq_true (Nat.not_lt.mp h), Bool.true_and]

/-! ### A wrong symbol in a stored line -/

/-- The bits that a difference x of device k's nibble of beat t turns. -/
def nibbleMask (t k x : Nat) : BitVec 640 := BitVec.ofNat 640 (x * 2 ^ pin t k)

/-- The bits that a difference e of symbol k of codeword i turns. -/
def symbolMask (i k e : Nat) : BitVec 640 := nibbleMask (2 * i) k (e % 16) ^^^ nibbleMask (2 * i + 1) k (e / 16)

theorem fixSymbol_eq_xor (v : BitVec 640) (i k e : Nat) : fixSymbol v i k e = v ^^^ symbolMask i k e := by
  have heven : (if k < 8 then 128 + 64 * i + 4 * k else 16 * i + 4 * (k - 8)) = pin (2 * i) k := by
    rw [pin]; split <;> omega
  have hodd : pin (2 * i) k + (if k < 8 then 32 else 8) = pin (2 * i + 1) k := by
    rw [pin, pin]; split <;> omega
  have hapart : pin (2 * i) k + 4 ≤ pin (2 * i + 1) k := by
    rw [← hodd]; split <;> omega
  rw [fixSymbol, symbolMask, heven, hodd, nibble_add_eq_xor (Nat.mod_lt _ (by decide)) hapart, BitVec.ofNat_xor]
  rfl

/-- A nibble's mask is that nibble alone. -/
theorem nibble_nibbleMask {t k x t' k' : Nat} (ht : t < 16) (hk : k < 10) (ht' : t' < 16) (hk' : k' < 10) (hx : x < 16) :
    nibble (nibbleMask t k x) t' k' = if t' = t ∧ k' = k then x else 0 := by
  have hfar : ∀ j, 4 ≤ j → x.testBit j = false := fun j hj =>
    Nat.testBit_lt_two_pow (Nat.lt_of_lt_of_le hx (Nat.pow_le_pow_right (n := 2) (by decide) hj))
  refine Nat.eq_of_testBit_eq (fun j => ?_)
  rw [testBit_nibble, nibbleMask, BitVec.getLsbD_ofNat, Nat.testBit_mul_two_pow]
  by_cases hj : j < 4
  · have hin : pin t' k' + j < 640 := by rw [pin]; split <;> omega
    rw [decide_eq_true hj, decide_eq_true hin, Bool.true_and, Bool.true_and]
    split
    · next h =>
      obtain ⟨rfl, rfl⟩ := h
      simp
    · next h =>
      rw [Nat.zero_testBit, Bool.and_eq_false_imp]
      intro hle
      refine hfar _ ?_
      have := of_decide_eq_true hle
      revert this
      rw [pin, pin]
      split <;> split <;> omega
  · rw [decide_eq_false hj, Bool.false_and]
    split
    · exact (hfar j (Nat.not_lt.mp hj)).symm
    · exact (Nat.zero_testBit j).symm

/-- A symbol's mask is that symbol alone. -/
theorem symbolOf_symbolMask {i k e i' k' : Nat} (hi : i < 8) (hk : k < 10) (hi' : i' < 8) (hk' : k' < 10) (he : e < 256) :
    symbolOf (symbolMask i k e) i' k' = if i' = i ∧ k' = k then e else 0 := by
  have hlow : e % 16 < 16 := Nat.mod_lt _ (by decide)
  have hhigh : e / 16 < 16 := by omega
  simp (disch := omega) only [symbolOf_eq_nibbles, symbolMask, nibble_xor, nibble_nibbleMask]
  by_cases h : i' = i ∧ k' = k
  · obtain ⟨rfl, rfl⟩ := h
    have heven : ¬ 2 * i' = 2 * i' + 1 := by omega
    have hodd : ¬ 2 * i' + 1 = 2 * i' := by omega
    simp only [heven, hodd, and_true, if_true, if_false, Nat.xor_zero, Nat.zero_xor]
    omega
  · rw [if_neg (by omega), if_neg (by omega), if_neg (by omega), if_neg (by omega), if_neg h]
    rfl

/-! ### The line as it is written (R227, R228) -/

/-- n words of 16 bits, the first lowest. -/
def sumWords (w : Nat → Nat) (n : Nat) : Nat := (List.range n).foldl (fun a i => a + w i * 2 ^ (16 * i)) 0

theorem sumWords_succ (w : Nat → Nat) (n : Nat) : sumWords w (n + 1) = sumWords w n + w n * 2 ^ (16 * n) := by
  rw [sumWords, List.range_succ, List.foldl_append]
  rfl

section
variable {w : Nat → Nat} (hw : ∀ i, w i < 2 ^ 16)
include hw

theorem sumWords_lt (n : Nat) : sumWords w n < 2 ^ (16 * n) := by
  induction n with
  | zero => exact Nat.one_pos
  | succ n ih =>
    calc sumWords w (n + 1) < 2 ^ (16 * n) + w n * 2 ^ (16 * n) := by rw [sumWords_succ]; exact Nat.add_lt_add_right ih _
      _ = (w n + 1) * 2 ^ (16 * n) := by ring
      _ ≤ 2 ^ 16 * 2 ^ (16 * n) := Nat.mul_le_mul_right _ (hw n)
      _ = 2 ^ (16 * (n + 1)) := by rw [← Nat.pow_add]; congr 1; omega

/-- A word reads back, whatever stands above the words. -/
theorem word_of_sumWords {i n : Nat} (hi : i < n) (top : Nat) :
    (top * 2 ^ (16 * n) + sumWords w n) / 2 ^ (16 * i) % 2 ^ 16 = w i := by
  induction n generalizing top with
  | zero => omega
  | succ n ih =>
    have hmove : top * 2 ^ (16 * (n + 1)) + sumWords w (n + 1) = (top * 2 ^ 16 + w n) * 2 ^ (16 * n) + sumWords w n := by
      rw [sumWords_succ, Nat.mul_succ, Nat.pow_add]
      ring
    rw [hmove]
    by_cases h : i < n
    · exact ih h _
    · obtain rfl : i = n := by omega
      rw [Nat.add_comm, Nat.add_mul_div_right _ _ (Nat.two_pow_pos _), Nat.div_eq_of_lt (sumWords_lt hw i), Nat.zero_add,
        Nat.add_comm, Nat.add_mul_mod_self_right, Nat.mod_eq_of_lt (hw i)]

end

theorem storedLine_toNat (d : BitVec 512) {c : Nat} (hc : c < 2 ^ 128) : (storedLine d c).toNat = d.toNat * 2 ^ 128 + c := by
  have hd := d.isLt
  rw [storedLine, BitVec.toNat_ofNat]
  omega

theorem storedData_storedLine (d : BitVec 512) {c : Nat} (hc : c < 2 ^ 128) : storedData (storedLine d c) = d := by
  have hdata : (d.toNat * 2 ^ 128 + c) / 2 ^ 128 = d.toNat := by omega
  rw [storedData, storedLine_toNat d hc, hdata, BitVec.ofNat_toNat, BitVec.setWidth_eq]

/-- The data symbols do not turn on the check bytes. -/
theorem symbolOf_storedLine_data (d : BitVec 512) {c i k : Nat} (hc : c < 2 ^ 128) (hk : k < 8) :
    symbolOf (storedLine d c) i k = symbolOf (storedLine d 0) i k := by
  have hdata : ∀ b, b < 2 ^ 128 → (d.toNat * 2 ^ 128 + b) / 2 ^ 128 = d.toNat := fun b hb => by omega
  have hnibble : ∀ b t, b < 2 ^ 128 → nibble (storedLine d b) t k = d.toNat / 2 ^ (32 * t + 4 * k) % 16 := by
    intro b t hb
    rw [nibble, pin, if_pos hk, storedLine_toNat d hb, Nat.pow_add, ← Nat.div_div_eq_div_mul, hdata b hb]
  rw [symbolOf_eq_nibbles, symbolOf_eq_nibbles, hnibble c _ hc, hnibble c _ hc, hnibble 0 _ (by decide), hnibble 0 _ (by decide)]

/-- The check symbols, from the word of their codeword: s₈ in its nibbles 0 and 2, s₉ in 1 and 3. -/
theorem symbolOf_storedLine_check (d : BitVec 512) {w : Nat → Nat} (hw : ∀ i, w i < 2 ^ 16) {i : Nat} (hi : i < 8) :
    symbolOf (storedLine d (sumWords w 8)) i 8 = w i % 16 + 16 * (w i / 256 % 16) ∧
      symbolOf (storedLine d (sumWords w 8)) i 9 = w i / 16 % 16 + 16 * (w i / 4096 % 16) := by
  have hword := word_of_sumWords hw hi d.toNat
  have hvalue := storedLine_toNat d (sumWords_lt hw 8)
  rw [← hvalue] at hword
  have hnibble : ∀ p r, p = 16 * i + r → (storedLine d (sumWords w 8)).toNat / 2 ^ p = 
    (storedLine d (sumWords w 8)).toNat / 2 ^ (16 * i) / 2 ^ r := by
    rintro p r rfl
    rw [Nat.pow_add, Nat.div_div_eq_div_mul]
  rw [symbolOf_eq_nibbles, symbolOf_eq_nibbles, nibble, nibble, nibble, nibble, hnibble (pin (2 * i) 8) 0 (by simp [pin]; omega),
    hnibble (pin (2 * i + 1) 8) 8 (by simp [pin]; omega), hnibble (pin (2 * i) 9) 4 (by simp [pin]; omega),
    hnibble (pin (2 * i + 1) 9) 12 (by simp [pin]; omega), ← hword]
  generalize (storedLine d (sumWords w 8)).toNat / 2 ^ (16 * i) = n
  omega

/-! ### The check symbols -/

/-- s₉ of codeword i (R228). -/
def check9 (d : BitVec 512) (i : Nat) : Nat :=
  gf8Mul ((syndrome (storedLine d 0) i).2 ^^^ gf8Mul (syndrome (storedLine d 0) i).1 (gf8Pow 8)) (gf8Inv (gf8Pow 8 ^^^ gf8Pow 9))

/-- s₈ of codeword i. -/
def check8 (d : BitVec 512) (i : Nat) : Nat := (syndrome (storedLine d 0) i).1 ^^^ check9 d i

/-- The two check bytes of codeword i. -/
def checkWord (d : BitVec 512) (i : Nat) : Nat :=
  check8 d i % 16 + 16 * (check9 d i % 16) + 256 * (check8 d i / 16 + 16 * (check9 d i / 16))

theorem checkBytes_eq_sumWords (d : BitVec 512) : checkBytes d = sumWords (checkWord d) 8 := by
  rw [checkBytes, sumWords]
  refine congrArg (fun f => List.foldl f 0 (List.range 8)) (funext fun a => funext fun i => ?_)
  show a + (check8 d i % 16 + 16 * (check9 d i % 16)) * 2 ^ (16 * i) +
    (check8 d i / 16 + 16 * (check9 d i / 16)) * 2 ^ (16 * i + 8) = _
  rw [checkWord, Nat.pow_add]
  ring

theorem checkSymbols_lt (d : BitVec 512) (i : Nat) : check8 d i < 256 ∧ check9 d i < 256 := by
  obtain ⟨h0, h1⟩ := symbolSums_lt (symbolOf_lt (storedLine d 0) i) 10
  rw [← syndrome_eq_symbolSums] at h0 h1
  have h9 : check9 d i < 256 := gf8Mul_gf8Inv_lt
    (Nat.xor_lt_two_pow (n := 8) h1 (by rw [gf8Mul_gf8Pow h0]; exact iterate_timesAlpha_lt h0 8))
    checkDivisor_lt checkDivisor_ne_zero
  exact ⟨Nat.xor_lt_two_pow (n := 8) h0 h9, h9⟩

theorem checkWord_lt (d : BitVec 512) (i : Nat) : checkWord d i < 2 ^ 16 := by
  obtain ⟨h8, h9⟩ := checkSymbols_lt d i
  rw [checkWord]
  omega

theorem symbolOf_encodeLine (d : BitVec 512) {i : Nat} (hi : i < 8) :
    (∀ k < 8, symbolOf (encodeLine d) i k = symbolOf (storedLine d 0) i k) ∧ symbolOf (encodeLine d) i 8 = check8 d i ∧
      symbolOf (encodeLine d) i 9 = check9 d i := by
  obtain ⟨h8, h9⟩ := checkSymbols_lt d i
  obtain ⟨hs8, hs9⟩ := symbolOf_storedLine_check d (checkWord_lt d) hi
  rw [encodeLine, checkBytes_eq_sumWords]
  refine ⟨fun k hk => symbolOf_storedLine_data d (sumWords_lt (checkWord_lt d) 8) hk, hs8.trans ?_, hs9.trans ?_⟩
  · rw [checkWord]
    omega
  · have hlow : check8 d i % 16 < 16 := Nat.mod_lt _ (by decide)
    have hhigh : check8 d i / 16 < 16 := by omega
    rw [checkWord]
    generalize check8 d i % 16 = a at hlow ⊢
    generalize check8 d i / 16 = b at hhigh ⊢
    omega

theorem storedData_encodeLine (d : BitVec 512) : storedData (encodeLine d) = d := by
  rw [encodeLine, checkBytes_eq_sumWords]
  exact storedData_storedLine d (sumWords_lt (checkWord_lt d) 8)

theorem syndrome_storedLine_zero (d : BitVec 512) {i : Nat} (hi : i < 8) :
    syndrome (storedLine d 0) i = symbolSums (symbolOf (storedLine d 0) i) 8 := by
  have hzero : (sumWords (fun _ => 0) 8) = 0 := rfl
  obtain ⟨h8, h9⟩ := symbolOf_storedLine_check d (w := fun _ => 0) (fun _ => by decide) hi
  rw [hzero] at h8 h9
  have hlt := symbolOf_lt (storedLine d 0) i
  rw [syndrome_eq_symbolSums, symbolSums_succ hlt 9, symbolSums_succ hlt 8, h8, h9]
  simp [iterate_timesAlpha_zero]

/-- The line as it is written has the syndromes 0 in every codeword. -/
theorem syndrome_encodeLine (d : BitVec 512) {i : Nat} (hi : i < 8) : syndrome (encodeLine d) i = (0, 0) := by
  obtain ⟨hdata, h8, h9⟩ := symbolOf_encodeLine d hi
  have hsums : symbolSums (symbolOf (encodeLine d) i) 8 = syndrome (storedLine d 0) i := by
    rw [symbolSums_congr hdata, syndrome_storedLine_zero d hi]
  refine symbolSums_checked (symbolOf_lt _ i) ?_ ?_
  · rw [h9, hsums, check9]
  · rw [h8, h9, hsums, check8]

end Sys2Proof.Machine

/-! PROOF. The decoder of a stored line (R229): what one device drove wrong, an erased device, the poison marker (R236). -/

namespace Sys2Proof.Machine

/-! ### Damage by one device (R227) -/

theorem damaged_eq_xor (k : Fin 10) (e : Fin 8 → BitVec 8) (v : BitVec 640) : damaged k e v = v ^^^ damaged k e 0 := by
  have hmasks : ∀ u, damaged k e u =
      ((List.finRange 8).map (fun i : Fin 8 => symbolMask i k (e i).toNat)).foldl (· ^^^ ·) u := by
    intro u
    rw [damaged, List.foldl_map]
    exact List.foldl_ext _ _ _ (fun a i _ => fixSymbol_eq_xor ..)
  rw [hmasks, hmasks, ← List.foldl_assoc (op := (· ^^^ · : BitVec 640 → _ → _))]
  congr 1
  exact BitVec.xor_zero.symm

/-- The same damage again undoes it. -/
theorem damaged_damaged (k : Fin 10) (e : Fin 8 → BitVec 8) (v : BitVec 640) : damaged k e (damaged k e v) = v := by
  rw [damaged_eq_xor k e (damaged k e v), damaged_eq_xor k e v, BitVec.xor_assoc, BitVec.xor_self, BitVec.xor_zero]

theorem damaged_zero (k : Fin 10) (v : BitVec 640) : damaged k (fun _ => 0) v = v := by
  refine List.foldl_fixed' (fun i => ?_) _
  rw [fixSymbol_eq_xor]
  simp [symbolMask, nibbleMask]

/-- Symbol k of each codeword differs by e, and no other symbol. -/
theorem symbolOf_damaged (k : Fin 10) (e : Fin 8 → BitVec 8) (v : BitVec 640) (i : Fin 8) {j : Nat} (hj : j < 10) :
    symbolOf (damaged k e v) i j = symbolOf v i j ^^^ if j = k then (e i).toNat else 0 := by
  have hlist : ∀ l : List (Fin 8), l.Nodup → ∀ u,
      symbolOf (l.foldl (fun a (i : Fin 8) => fixSymbol a i k (e i).toNat) u) i j =
        symbolOf u i j ^^^ if i ∈ l ∧ j = k then (e i).toNat else 0 := by
    intro l hl
    induction l with
    | nil => intro u; simp
    | cons i' l ih =>
      intro u
      obtain ⟨hi', hl⟩ := List.nodup_cons.mp hl
      rw [List.foldl_cons, ih hl, fixSymbol_eq_xor, symbolOf_xor, symbolOf_symbolMask i'.isLt k.isLt i.isLt hj (e i').isLt]
      by_cases h : i = i'
      · subst h; simp [hi']
      · simp [h, Fin.val_ne_of_ne h]
  rw [damaged, hlist _ (List.nodup_finRange 8)]
  simp

/-- What the syndromes of a line show when one device k differs by e from a line as it is written. -/
def DeviceError (k : Fin 10) (e : Fin 8 → BitVec 8) (v : BitVec 640) : Prop :=
  ∀ i : Fin 8, syndrome v i = errorSyndrome k (e i).toNat

theorem deviceError_damaged (k : Fin 10) (e : Fin 8 → BitVec 8) (d : BitVec 512) :
    DeviceError k e (damaged k e (encodeLine d)) := by
  intro i
  have hlt : ∀ j, (if j = k.val then (e i).toNat else 0) < 256 := fun j => by split <;> [exact (e i).isLt; decide]
  rw [syndrome_eq_symbolSums, symbolSums_congr (fun j hj => symbolOf_damaged k e (encodeLine d) i hj),
    symbolSums_xor (symbolOf_lt _ i) hlt, ← syndrome_eq_symbolSums, syndrome_encodeLine d i.isLt,
    symbolSums_single (e i).isLt, if_pos k.isLt, Nat.zero_xor, Nat.zero_xor]

/-! ### The decoder (R229) -/

theorem mem_syndromes {v : BitVec 640} {x : Nat × Nat} : x ∈ syndromes v ↔ ∃ i : Fin 8, syndrome v i = x := by
  simp only [syndromes, List.mem_map, List.mem_range, Fin.exists_iff, exists_prop]

/-- Row 1: no syndrome. -/
theorem decodeLine_clean {v : BitVec 640} (h : ∀ i : Fin 8, syndrome v i = (0, 0)) (erased : Option Nat) :
    decodeLine erased v = .clean (storedData v) := by
  have hclean : (syndromes v).all (fun x => x.1 == 0 && x.2 == 0) = true := by
    rw [List.all_eq_true]
    intro x hx
    obtain ⟨i, rfl⟩ := mem_syndromes.mp hx
    rw [h i]
    rfl
  rw [decodeLine]
  exact if_pos hclean

theorem decodeLine_encodeLine (d : BitVec 512) (erased : Option Nat) : decodeLine erased (encodeLine d) = .clean d := by
  rw [decodeLine_clean (fun i => syndrome_encodeLine d i.isLt), storedData_encodeLine]

section
variable {k : Fin 10} {e : Fin 8 → BitVec 8} {v : BitVec 640} (h : DeviceError k e v)
include h

theorem fixSymbols_eq_damaged (j : Fin 10) :
    (List.range 8).foldl (fun a i => fixSymbol a i j ((syndromes v).getD i (0, 0)).1) v = damaged j e v := by
  rw [← List.map_coe_finRange_eq_range, List.foldl_map, damaged]
  refine List.foldl_ext _ _ _ (fun a i _ => ?_)
  have hget : (syndromes v).getD i (0, 0) = syndrome v i := by
    simp [syndromes]
  rw [hget, h i]
  rfl

variable (hne : ∃ i, e i ≠ 0)
include hne

/-- An error of one device is neither Clean nor the poison marker. -/
theorem deviceError_seen : (syndromes v).all (fun x => x.1 == 0 && x.2 == 0) = false ∧
    (syndromes v).all (fun x => x.1 == 0 && x.2 == 0x27) = false := by
  obtain ⟨i, hi⟩ := hne
  have hmem : errorSyndrome k (e i).toNat ∈ syndromes v := mem_syndromes.mpr ⟨i, h i⟩
  have hs0 : ((errorSyndrome k (e i).toNat).1 == 0) = false := beq_false_of_ne (fun h0 => hi (BitVec.eq_of_toNat_eq h0))
  constructor <;>
  · rw [List.all_eq_false]
    exact ⟨_, hmem, by rw [hs0, Bool.false_and]; exact Bool.false_ne_true⟩

/-- Row 3: the device is erased. -/
theorem decodeLine_erasure : decodeLine (some k.val) v = .erasure (damaged k e v) := by
  obtain ⟨hclean, hpoison⟩ := deviceError_seen h hne
  have herased : (syndromes v).all (fun x => x.2 == gf8Mul x.1 (gf8Pow k.val)) = true := by
    rw [List.all_eq_true]
    intro x hx
    obtain ⟨i, rfl⟩ := mem_syndromes.mp hx
    rw [h i, errorSyndrome, gf8Mul_gf8Pow (e i).isLt, beq_self_eq_true]
  simp only [decodeLine, hclean, hpoison, herased, fixSymbols_eq_damaged h, if_true, Bool.false_eq_true, if_false]

/-- Row 5: another device is erased. -/
theorem decodeLine_otherErased {j : Fin 10} (hj : j ≠ k) : decodeLine (some j.val) v = .uncorrectable := by
  obtain ⟨hclean, hpoison⟩ := deviceError_seen h hne
  have herased : (syndromes v).all (fun x => x.2 == gf8Mul x.1 (gf8Pow j.val)) = false := by
    obtain ⟨i, hi⟩ := hne
    rw [List.all_eq_false]
    refine ⟨_, mem_syndromes.mpr ⟨i, h i⟩, ?_⟩
    rw [errorSyndrome, gf8Mul_gf8Pow (e i).isLt, beq_iff_eq]
    intro hsame
    exact hj (errorSyndrome_device (e i).isLt (fun h0 => hi (BitVec.eq_of_toNat_eq h0)) (Prod.ext rfl hsame.symm))
  simp only [decodeLine, hclean, hpoison, herased, Bool.false_eq_true, if_false]

/-- Row 4: no device is erased, and every syndrome that is not 0 names device k. -/
theorem decodeLine_corrected : decodeLine none v = .corrected k (damaged k e v) := by
  obtain ⟨hclean, hpoison⟩ := deviceError_seen h hne
  have hdevice : ∀ x ∈ (syndromes v).filter (fun x => !(x.1 == 0 && x.2 == 0)), syndromeDevice x = some k.val := by
    intro x hx
    obtain ⟨hmem, hnonzero⟩ := List.mem_filter.mp hx
    obtain ⟨i, rfl⟩ := mem_syndromes.mp hmem
    rw [h i] at hnonzero ⊢
    refine syndromeDevice_errorSyndrome k (e i).isLt (fun h0 => ?_)
    rw [h0, errorSyndrome_zero] at hnonzero
    exact absurd hnonzero (by decide)
  have hhead : ((syndromes v).filter (fun x => !(x.1 == 0 && x.2 == 0))).head?.bind syndromeDevice = some k.val := by
    cases hbad : (syndromes v).filter (fun x => !(x.1 == 0 && x.2 == 0)) with
    | nil =>
      rw [List.filter_eq_nil_iff] at hbad
      rw [List.all_eq_false] at hclean
      obtain ⟨x, hx, hxne⟩ := hclean
      exact absurd (hbad x hx) (by simpa using hxne)
    | cons x l =>
      rw [hbad] at hdevice
      exact hdevice x List.mem_cons_self
  have hall : ((syndromes v).filter (fun x => !(x.1 == 0 && x.2 == 0))).all (fun x => syndromeDevice x == some k.val) = true := by
    rw [List.all_eq_true]
    exact fun x hx => beq_iff_eq.mpr (hdevice x hx)
  simp only [decodeLine, hclean, hpoison, hhead, hall, fixSymbols_eq_damaged h, if_true, Bool.false_eq_true, if_false]

end

/-- Whatever device k does to its symbols, the data are delivered, with that device erased or with none. -/
theorem decodeLine_damaged_data (k : Fin 10) (e : Fin 8 → BitVec 8) (d : BitVec 512) :
    (decodeLine none (damaged k e (encodeLine d))).data = some d ∧
      (decodeLine (some k.val) (damaged k e (encodeLine d))).data = some d := by
  by_cases hne : ∃ i, e i ≠ 0
  · have h := deviceError_damaged k e d
    rw [decodeLine_corrected h hne, decodeLine_erasure h hne, damaged_damaged]
    exact ⟨congrArg some (storedData_encodeLine d), congrArg some (storedData_encodeLine d)⟩
  · obtain rfl : e = fun _ => 0 := funext (fun i => not_not.mp (not_exists.mp hne i))
    rw [damaged_zero, decodeLine_encodeLine, decodeLine_encodeLine]
    exact ⟨rfl, rfl⟩

/-- s₈ = s₉ = 0x01 over zero data (R236). -/
theorem syndrome_poisonMarker {i : Nat} (hi : i < 8) : syndrome poisonMarker i = (0, 0x27) := by
  have hmarker : poisonMarker = storedLine 0 (sumWords (fun _ => 0x11) 8) := by
    rw [poisonMarker, storedLine, BitVec.ofNat_eq_ofNat, BitVec.toNat_zero, Nat.zero_mul]
    rfl
  have hw : ∀ _ : Nat, 0x11 < 2 ^ 16 := fun _ => by decide
  obtain ⟨h8, h9⟩ := symbolOf_storedLine_check 0 hw hi
  have hzero : (storedLine 0 0).toNat = 0 := by
    rw [storedLine_toNat 0 (by decide), BitVec.ofNat_eq_ofNat, BitVec.toNat_zero, Nat.zero_mul]
  have hdata : ∀ k < 8, symbolOf poisonMarker i k = 0 := by
    intro k hk
    rw [hmarker, symbolOf_storedLine_data 0 (sumWords_lt hw 8) hk, symbolOf_eq_nibbles, nibble, nibble, hzero, Nat.zero_div,
      Nat.zero_div]
  have hsums : symbolSums (symbolOf poisonMarker i) 8 = (0, 0) := by
    rw [symbolSums_congr hdata]
    decide
  rw [← hmarker] at h8 h9
  have hlt := symbolOf_lt poisonMarker i
  rw [syndrome_eq_symbolSums, symbolSums_succ hlt 9, symbolSums_succ hlt 8, hsums, h8, h9]
  decide

/-- The poison marker, with no device erased (R236). -/
theorem decodeLine_poisonMarker : decodeLine none poisonMarker = .poison := by
  have hsyndromes : syndromes poisonMarker = (List.range 8).map (fun _ => (0, 0x27)) :=
    List.map_congr_left (fun i hi => syndrome_poisonMarker (List.mem_range.mp hi))
  rw [decodeLine, hsyndromes]
  rfl

/-! ### The obligation -/

/-- Settles O37: the written line has no syndromes (`decodeLine_encodeLine`); the damage of a device gives every codeword the
syndromes of one wrong symbol (`deviceError_damaged`), from which each row of R229 is read. -/
theorem checkCodeCorrects : Obligations.CheckCodeCorrects := by
  intro d k j e
  obtain ⟨hnone, hself⟩ := decodeLine_damaged_data k e d
  exact ⟨decodeLine_encodeLine d _, decodeLine_encodeLine d _, hnone, hself,
    fun hkj hne => decodeLine_otherErased (deviceError_damaged j e d) hne hkj, decodeLine_poisonMarker⟩

end Sys2Proof.Machine

/-! PROOF. The writes of a channel's freeze and thaw objects (R238, R244). -/

namespace Sys2Proof.Machine

/-! ### The rows of the two objects -/

/-- ThawAction's row. -/
def thawActionRow : ObjRow := ⟨"ThawAction", 0x10, 0x10, 8, 2, 0, 1, 0, 1, .span 1 3⟩

/-- FreezeRequest's row. -/
def freezeRequestRow : ObjRow := ⟨"FreezeRequest", 0x15, 0x15, 7, 2, 0, 1, 0, 1, .span 0 1⟩

theorem pageOf_freezePage : ∀ c : Fin 16, pageOf (chIdx 0x3080 c) = (0x3080, c.val) := by decide

theorem thawActionRow_plain : ∀ c : Fin 16, ∀ v ∈ [1, 2, 3], objRow (chIdx 0x3080 c) 0x10 = some thawActionRow ∧
    plainRow (chIdx 0x3080 c) 0x10 v thawActionRow = true ∧ levelOf (chIdx 0x3080 c) 0x10 v thawActionRow = 1 := by
  decide

theorem freezeRequestRow_plain : ∀ c : Fin 16, objRow (chIdx 0x3080 c) 0x15 = some freezeRequestRow ∧
    plainRow (chIdx 0x3080 c) 0x15 1 freezeRequestRow = true ∧ levelOf (chIdx 0x3080 c) 0x15 1 freezeRequestRow = 1 := by
  decide

section
variable (link : Fin 2) (c : Fin 16) {s : State}

theorem writeNow_thawAction (v : Nat) (s : State) : writeNow false link (chIdx 0x3080 c) 0x10 v s = thawAction c v s :=
  writeNow_hooks link false (chIdx 0x3080 c) 0x10 v 0x3080 c s (pageOf_freezePage c) (by decide) (by decide) (by decide)
    (Nat.lt_of_lt_of_le (by decide) (Nat.le_add_right 0x3080 _))

theorem writeNow_freezeRequest (v : Nat) (s : State) : writeNow false link (chIdx 0x3080 c) 0x15 v s = freezeRequest c v s :=
  writeNow_hooks link false (chIdx 0x3080 c) 0x15 v 0x3080 c s (pageOf_freezePage c) (by decide) (by decide) (by decide)
    (Nat.lt_of_lt_of_le (by decide) (Nat.le_add_right 0x3080 _))

variable {link c} {tag : BitVec 8} (hC : CanWrite link 1 1 s)
include hC

/-- A write of ThawAction that its rule accepts, and that does not restart the block. -/
theorem writeOf_thawAction {v : Nat} {u : State} (hv : v ∈ [1, 2, 3]) (hrule : thawAction c v (beginFrame link s) = (u, 0))
    (hst : ¬ (s.blk.st = .test ∧ u.blk.st = .resetPhase)) :
    Written link tag (chIdx 0x3080 c) 0x10 1 u (writeOf link tag (chIdx 0x3080 c) 0x10 v false s) := by
  obtain ⟨hrow, hplain, hlevel⟩ := thawActionRow_plain c v hv
  exact writeOf_now link tag _ _ v 1 false s u thawActionRow hrow hplain hlevel hC
    ((writeNow_thawAction link c v _).trans hrule) hst

/-- A write of FreezeRequest that its rule accepts, and that does not restart the block. -/
theorem writeOf_freezeRequest {u : State} (hrule : freezeRequest c 1 (beginFrame link s) = (u, 0))
    (hst : ¬ (s.blk.st = .test ∧ u.blk.st = .resetPhase)) :
    Written link tag (chIdx 0x3080 c) 0x15 1 u (writeOf link tag (chIdx 0x3080 c) 0x15 1 false s) := by
  obtain ⟨hrow, hplain, hlevel⟩ := freezeRequestRow_plain c
  exact writeOf_now link tag _ _ 1 1 false s u freezeRequestRow hrow hplain hlevel hC
    ((writeNow_freezeRequest link c 1 _).trans hrule) hst

end

/-! ### What the two objects' rules do -/

section
variable {c : Nat} {s : State}

theorem freezeRequest_grants (h : (s.chan c).st.grants = true) :
    freezeRequest c 1 s = (serveHeld c (freezeChannel c 4 none none 0 s), 0) := by
  simp only [freezeRequest, h, one_ne_zero, if_true, if_false]

variable (h : (s.chan c).st = .frozen)
include h

theorem thawAction_resume : thawAction c 1 s = (s.setObj (chIdx 0x3080 c) 0x10 1, 0) := by
  simp [thawAction, h]

theorem thawAction_retrain : thawAction c 2 s = (startTraining c true false s, 0) := by
  simp [thawAction, h]

theorem thawAction_retire (hrank : s.obj (chIdx 0x3080 c) 0x11 ∈ rankSlots s c) :
    thawAction c 3 s = (retireRank c (s.obj (chIdx 0x3080 c) 0x11) s, 0) := by
  simp [thawAction, h, hrank]

end

/-! ### The obligation -/

/-- Settles O15: each command is the write of one of the two objects (`writeOf_freezeRequest`,
`writeOf_thawAction`), whose rule is said by the equation of its case. -/
theorem channelCommands : Obligations.ChannelCommands := by
  refine ⟨?_, ?_, ?_, ?_⟩
  · intro link tag c s hC htest hgrants
    rw [← beginFrame_at_chan link] at hgrants
    exact ⟨_, rfl, writeOf_freezeRequest hC (freezeRequest_grants hgrants) (fun ⟨hst, _⟩ => htest hst)⟩
  · intro link tag c s hC hfrozen
    rw [← beginFrame_at_chan link] at hfrozen
    exact ⟨_, rfl, writeOf_thawAction hC (by decide) (thawAction_resume hfrozen) (noReset (beginFrame_blk link s))⟩
  · intro link tag c s hC hfrozen
    rw [← beginFrame_at_chan link] at hfrozen
    exact ⟨_, rfl, writeOf_thawAction hC (by decide) (thawAction_retrain hfrozen)
      (noReset (((startTraining_keeps ..).blk (by decide)).trans (beginFrame_blk link s)))⟩
  · intro link tag c s hC htest hfrozen hrank
    rw [← beginFrame_at_chan link] at hfrozen
    rw [← beginFrame_at_obj link s (chIdx 0x3080 c) 0x11 (by decide) (by rw [chIdx]; omega)] at hrank ⊢
    rw [← rankSlots_begin link] at hrank
    exact ⟨_, rfl, writeOf_thawAction hC (by decide) (thawAction_retire hfrozen hrank) (fun ⟨hst, _⟩ => htest hst)⟩

end Sys2Proof.Machine

/-! PROOF. A sealed mirror frame opens to its payload (R268): the round keys of AES-256, the key stream of GCM, the parts of a
frame. -/

namespace Sys2Proof.Machine

/-- A string of n bytes, as the numbers the cipher works on. -/
def IsBytes (n : Nat) (l : List Nat) : Prop := l.length = n ∧ ∀ x ∈ l, x < 256

/-! ### Strings of bytes -/

theorem isBytes_toNats (bs : List Byte) : IsBytes bs.length (toNats bs) := by
  refine ⟨List.length_map .., fun x hx => ?_⟩
  obtain ⟨b, -, rfl⟩ := List.mem_map.mp hx
  exact b.isLt

theorem ofNats_toNats (bs : List Byte) : ofNats (toNats bs) = bs := by
  simp [ofNats, toNats, List.map_map, Function.comp_def]

theorem toNats_ofNats {n : Nat} {l : List Nat} (h : IsBytes n l) : toNats (ofNats l) = l := by
  rw [toNats, ofNats, List.map_map]
  exact (List.map_congr_left fun x hx => by simp [Nat.mod_eq_of_lt (h.2 x hx)]).trans l.map_id

theorem isBytes_beBytes (n v : Nat) : IsBytes n (beBytes n v) := by
  have h := isBytes_toNats (natLe n v).reverse
  rwa [List.length_reverse, natLe_length] at h

theorem isBytes_xorB {m n : Nat} {a b : List Nat} (ha : IsBytes m a) (hb : IsBytes n b) : IsBytes (min m n) (xorB a b) := by
  refine ⟨by rw [xorB, List.length_zipWith, ha.1, hb.1], fun x hx => ?_⟩
  obtain ⟨i, hi, rfl⟩ := List.getElem_of_mem hx
  simp only [xorB, List.getElem_zipWith]
  exact Nat.xor_lt_two_pow (n := 8) (ha.2 _ (List.getElem_mem _)) (hb.2 _ (List.getElem_mem _))

theorem xorB_append (l a b : List Nat) : xorB l (a ++ b) = xorB (l.take a.length) a ++ xorB (l.drop a.length) b := by
  induction a generalizing l with
  | nil => simp [xorB]
  | cons x a ih =>
    cases l with
    | nil => simp [xorB]
    | cons y l => simpa [xorB] using ih l

theorem xorB_xorB {a b : List Nat} (h : a.length ≤ b.length) : xorB (xorB a b) b = a := by
  induction a generalizing b with
  | nil => simp [xorB]
  | cons x a ih =>
    cases b with
    | nil => simp at h
    | cons y b => simpa [xorB, Nat.xor_assoc] using ih (Nat.le_of_succ_le_succ h)

theorem pieces_succ (n k : Nat) {l : List Nat} (h : l ≠ []) : pieces n (k + 1) l = l.take n :: pieces n k (l.drop n) := by
  simp [pieces, h]

/-- A string of k pieces of n bytes is cut into these. -/
theorem isBytes_pieces {n : Nat} (hn : 0 < n) : ∀ {k : Nat} {l : List Nat}, IsBytes (n * k) l →
    (pieces n k l).length = k ∧ ∀ p ∈ pieces n k l, IsBytes n p
  | 0, l, _ => ⟨rfl, by simp [pieces]⟩
  | k + 1, l, ⟨hlen, hlt⟩ => by
    rw [Nat.mul_succ] at hlen
    have hne : l ≠ [] := fun h => by simp [h] at hlen; omega
    obtain ⟨hcount, hall⟩ := isBytes_pieces hn (k := k) (l := l.drop n)
      ⟨by rw [List.length_drop]; omega, fun x hx => hlt x (List.mem_of_mem_drop hx)⟩
    rw [pieces_succ n k hne]
    refine ⟨by rw [List.length_cons, hcount], List.forall_mem_cons.mpr ⟨⟨?_, fun x hx => hlt x (List.mem_of_mem_take hx)⟩, hall⟩⟩
    rw [List.length_take]; omega

/-- Strings of n bytes one after another. -/
theorem isBytes_flatten {n : Nat} {ls : List (List Nat)} (h : ∀ l ∈ ls, IsBytes n l) : IsBytes (n * ls.length) ls.flatten := by
  refine ⟨?_, fun x hx => ?_⟩
  · rw [List.length_flatten, List.eq_replicate_of_mem (a := n) (l := ls.map List.length) (by simpa using fun l hl => (h l hl).1)]
    simp [Nat.mul_comm]
  · obtain ⟨l, hl, hx⟩ := List.mem_flatten.mp hx
    exact (h l hl).2 x hx

/-! ### The AES-256 of a block is a block -/

theorem aesSub_lt (b : Nat) : aesSub b < 256 := Nat.mod_lt _ (by decide)

theorem aesX_lt {b : Nat} (h : b < 256) : aesX b < 256 := by
  unfold aesX
  split <;> omega

theorem isBytes_map_aesSub {n : Nat} {w : List Nat} (h : IsBytes n w) : IsBytes n (w.map aesSub) := by
  refine ⟨by rw [List.length_map, h.1], fun x hx => ?_⟩
  obtain ⟨b, -, rfl⟩ := List.mem_map.mp hx
  exact aesSub_lt b

theorem isBytes_aesShift {l : List Nat} (h : ∀ x ∈ l, x < 256) : IsBytes 16 (aesShift l) := by
  refine ⟨by simp [aesShift], fun x hx => ?_⟩
  obtain ⟨i, -, rfl⟩ := List.mem_map.mp hx
  rw [nth0, List.getD_eq_getElem?_getD]
  cases hi : l[(i + 4 * (i % 4)) % 16]? with
  | none => decide
  | some y => exact h y (List.mem_of_getElem? hi)

/-- What the key schedule adds to the word eight before (R198): the last word, rotated and substituted at every eighth,
substituted at every other fourth. -/
def keyWordTerm (i rc : Nat) (prev : List Nat) : List Nat :=
  if i % 8 = 0 then
    match prev with
    | [a, b, c, d] => [aesSub b ^^^ rc, aesSub c, aesSub d, aesSub a]
    | l => l
  else if i % 8 = 4 then prev.map aesSub else prev

theorem aesKeyWords_succ (n i rc : Nat) (ws : List (List Nat)) : aesKeyWords (n + 1) i rc ws =
    aesKeyWords n (i + 1) (if i % 8 = 0 then aesX rc else rc) (xorB (ws.getD 7 []) (keyWordTerm i rc (ws.headD [])) :: ws) := rfl

theorem isBytes_keyWordTerm {i rc : Nat} {w : List Nat} (hrc : rc < 256) (hw : IsBytes 4 w) : IsBytes 4 (keyWordTerm i rc w) := by
  unfold keyWordTerm
  split
  · obtain ⟨a, b, c, d, rfl⟩ := List.length_eq_four.mp hw.1
    have hb : aesSub b ^^^ rc < 256 := Nat.xor_lt_two_pow (n := 8) (aesSub_lt b) hrc
    exact ⟨rfl, by simp [hb, aesSub_lt]⟩
  · split
    · exact isBytes_map_aesSub hw
    · exact hw

/-- From eight words on, the key schedule makes n words more. -/
theorem aesKeyWords_words {n : Nat} : ∀ {i rc : Nat} {ws : List (List Nat)}, rc < 256 → 8 ≤ ws.length → (∀ w ∈ ws, IsBytes 4 w) →
    (aesKeyWords n i rc ws).length = n + ws.length ∧ ∀ w ∈ aesKeyWords n i rc ws, IsBytes 4 w := by
  induction n with
  | zero => intro i rc ws _ _ hws; exact ⟨by simp [aesKeyWords], hws⟩
  | succ n ih =>
    intro i rc ws hrc hlen hws
    have hback : IsBytes 4 (ws.getD 7 []) := by
      rw [List.getD_eq_getElem _ _ (by omega)]
      exact hws _ (List.getElem_mem _)
    have hprev : IsBytes 4 (ws.headD []) := by
      cases ws with
      | nil => simp at hlen
      | cons w ws => exact hws w List.mem_cons_self
    have hnew : IsBytes 4 (xorB (ws.getD 7 []) (keyWordTerm i rc (ws.headD []))) := isBytes_xorB hback (isBytes_keyWordTerm (i := i) hrc hprev)
    have hrc' : (if i % 8 = 0 then aesX rc else rc) < 256 := by split; exacts [aesX_lt hrc, hrc]
    rw [aesKeyWords_succ]
    obtain ⟨hcount, hall⟩ := ih (i := i + 1) (ws := _ :: ws) hrc' (Nat.le_succ_of_le hlen) (List.forall_mem_cons.mpr ⟨hnew, hws⟩)
    exact ⟨by rw [hcount, List.length_cons]; omega, hall⟩

/-- A 32-byte key has fifteen round keys of a block each (R198). -/
theorem aesKeys_blocks {key : List Nat} (h : IsBytes 32 key) : (aesKeys key).length = 15 ∧ ∀ k ∈ aesKeys key, IsBytes 16 k := by
  obtain ⟨hcount, hwords⟩ := isBytes_pieces (n := 4) (by decide) (k := 8) h
  obtain ⟨htotal, hall⟩ := aesKeyWords_words (n := 52) (i := 8) (rc := 1) (ws := (pieces 4 8 key).reverse) (by decide)
    (by rw [List.length_reverse, hcount]) (fun w hw => hwords w (List.mem_reverse.mp hw))
  have hflat := isBytes_flatten (fun w hw => hall w (List.mem_reverse.mp hw))
  rw [List.length_reverse, htotal, List.length_reverse, hcount] at hflat
  exact isBytes_pieces (n := 16) (by decide) (k := 15) hflat

theorem isBytes_aes256 {key : List Nat} (h : IsBytes 32 key) (block : List Nat) : IsBytes 16 (aes256 key block) := by
  obtain ⟨hcount, hall⟩ := aesKeys_blocks h
  unfold aes256
  cases hkeys : aesKeys key with
  | nil => rw [hkeys] at hcount; contradiction
  | cons k0 ks =>
    rw [hkeys, List.length_cons] at hcount
    have hne : ks ≠ [] := fun hnil => by simp [hnil] at hcount
    have hlast : IsBytes 16 (ks.getLastD []) := by
      rw [List.getLastD_eq_getLast?, List.getLast?_eq_getLast_of_ne_nil hne]
      exact hall _ (hkeys ▸ List.mem_cons_of_mem _ (List.getLast_mem hne))
    refine isBytes_xorB (isBytes_aesShift fun x hx => ?_) hlast
    obtain ⟨b, -, rfl⟩ := List.mem_map.mp hx
    exact aesSub_lt b

/-! ### GCM -/

/-- The first n blocks of the key stream. -/
def keyStream (key iv : List Nat) (n : Nat) : List Nat := ((List.range n).map (gcmStream key iv)).flatten

/-- Text of at most n blocks is met block by block, or by the whole stream. -/
theorem flatten_xorB_pieces {f : Nat → List Nat} (hf : ∀ i, (f i).length = 16) (n : Nat) (text : List Nat) :
    ((List.range (pieces 16 n text).length).map fun i => xorB ((pieces 16 n text).getD i []) (f i)).flatten =
      xorB text ((List.range n).map f).flatten := by
  induction n generalizing f text with
  | zero => simp [pieces, xorB]
  | succ n ih =>
    by_cases htext : text = []
    · simp [htext, pieces, xorB]
    · have hrest := ih (f := fun i => f (i + 1)) (fun i => hf (i + 1)) (text.drop 16)
      rw [pieces_succ 16 n htext, List.length_cons, List.range_succ_eq_map, List.range_succ_eq_map, List.map_cons, List.map_cons,
        List.map_map, List.map_map, List.flatten_cons, List.flatten_cons, xorB_append, hf]
      exact congrArg (xorB (text.take 16) (f 0) ++ ·) hrest

section
variable {key : List Nat} (hkey : IsBytes 32 key) (iv : List Nat)
include hkey

theorem isBytes_keyStream (n : Nat) : IsBytes (16 * n) (keyStream key iv n) := by
  have h := isBytes_flatten (n := 16) (ls := (List.range n).map (gcmStream key iv)) (by simpa [gcmStream] using fun i _ => isBytes_aes256 hkey _)
  rwa [List.length_map, List.length_range] at h

/-- Encryption adds the key stream to the text (R268). -/
theorem gcmCrypt_eq_xorB (text : List Nat) : gcmCrypt key iv text = xorB text (keyStream key iv (text.length / 16 + 1)) :=
  flatten_xorB_pieces (fun _ => (isBytes_aes256 hkey _).1) _ text

theorem isBytes_gcmCrypt {n : Nat} {text : List Nat} (h : IsBytes n text) : IsBytes n (gcmCrypt key iv text) := by
  have hxor := isBytes_xorB h (isBytes_keyStream hkey iv (text.length / 16 + 1))
  rw [gcmCrypt_eq_xorB hkey]
  rwa [Nat.min_eq_left (by have := h.1; omega)] at hxor

/-- The cipher is its own inverse: the text is met twice by one key stream. -/
theorem gcmCrypt_gcmCrypt {n : Nat} {text : List Nat} (h : IsBytes n text) : gcmCrypt key iv (gcmCrypt key iv text) = text := by
  rw [gcmCrypt_eq_xorB hkey iv (gcmCrypt key iv text), (isBytes_gcmCrypt hkey iv h).1, gcmCrypt_eq_xorB hkey iv text, h.1]
  refine xorB_xorB ?_
  rw [(isBytes_keyStream hkey iv _).1, h.1]
  omega

theorem isBytes_gcmTag (aad ct : List Nat) : IsBytes 16 (gcmTag key iv aad ct) :=
  isBytes_xorB (isBytes_beBytes 16 _) (isBytes_aes256 hkey _)

end

/-! ### The obligation -/

/-- A header, a text and a tag in a row are read back by their lengths. -/
theorem frame_parts {hdr ct tag : List Byte} (hhdr : hdr.length = 32) (htag : tag.length = 16) :
    (hdr ++ ct ++ tag).take 32 = hdr ∧ ((hdr ++ ct ++ tag).drop 32).take ((hdr ++ ct ++ tag).length - 48) = ct ∧
      (hdr ++ ct ++ tag).drop ((hdr ++ ct ++ tag).length - 16) = tag := by
  have hlen : (hdr ++ ct ++ tag).length = 32 + ct.length + 16 := by simp only [List.length_append, hhdr, htag]
  refine ⟨?_, ?_, ?_⟩
  · rw [List.append_assoc, List.take_left' hhdr]
  · rw [List.append_assoc, List.drop_left' hhdr, ← List.append_assoc, hlen, List.take_left' (by omega)]
  · rw [List.drop_left' (by rw [List.length_append]; omega)]

/-- A frame is opened by the tag of its header and ciphertext (R268, R270 step 2). -/
theorem openFrame_parts {key : BitVec 256} {hdr : List Byte} {n : Nat} {ct tag : List Nat} (hhdr : hdr.length = 32)
    (hct : IsBytes n ct) (htag : IsBytes 16 tag) : openFrame key (hdr ++ ofNats ct ++ ofNats tag) =
      if gcmTag (beBytes 32 key.toNat) (frameIv hdr) (toNats hdr) ct = tag then
        some (ofNats (gcmCrypt (beBytes 32 key.toNat) (frameIv hdr) ct)) else none := by
  obtain ⟨hh, hc, ht⟩ := frame_parts (ct := ofNats ct) (tag := ofNats tag) hhdr (by rw [ofNats, List.length_map, htag.1])
  simp only [openFrame, hh, hc, ht, toNats_ofNats hct, toNats_ofNats htag]

/-- Settles O38: the tag is the one that was made, and the cipher undoes itself (`gcmCrypt_gcmCrypt`). -/
theorem sealedFramesOpen : Obligations.SealedFramesOpen := by
  intro key hdr payload hhdr
  have hkey := isBytes_beBytes 32 key.toNat
  have hpayload := isBytes_toNats payload
  rw [sealFrame, openFrame_parts hhdr (isBytes_gcmCrypt hkey _ hpayload) (isBytes_gcmTag hkey ..), if_pos rfl,
    gcmCrypt_gcmCrypt hkey _ hpayload, ofNats_toNats]

end Sys2Proof.Machine

/-! PROOF. The writes of a district's MirrorCommand (R283, R286, R288, R289). -/

namespace Sys2Proof.Machine

/-- MirrorCommand's row. -/
def mirrorCommandRow : ObjRow := ⟨"MirrorCommand", 0x06, 0x06, 8, 2, 0, 1, 0, 1, .span 1 4⟩

theorem pageOf_mirrorPage : ∀ d : Fin 4, pageOf (0x6010 + d) = (0x6010, d.val) := by decide

theorem mirrorCommandRow_plain : ∀ d : Fin 4, ∀ v ∈ [1, 2, 3, 4], objRow (0x6010 + d) 6 = some mirrorCommandRow ∧
    plainRow (0x6010 + d) 6 v mirrorCommandRow = true ∧ levelOf (0x6010 + d) 6 v mirrorCommandRow = 1 := by
  decide

theorem writeNow_mirrorCommand (link : Fin 2) (d : Fin 4) (v : Nat) (s : State) :
    writeNow false link (0x6010 + d) 6 v s = mirrorCommand d v s := by
  have hidx : 0x6010 ≤ 0x6010 + d.val := Nat.le_add_right ..
  rw [writeNow_hooks link false (0x6010 + d) 6 v 0x6010 d s (pageOf_mirrorPage d) (by decide) (by decide) (by decide) (by omega)]
  have hchannel : channelHook false 0x6010 d 6 v s = none := rfl
  have hunit : unitHook link 0x6010 d (0x6010 + d) 6 v s = some (mirrorCommand d v s) := by
    have hkeys : 0x6010 + d.val ≠ 0x5000 := by omega
    simp [unitHook, hkeys]
  rw [hchannel, hunit]

/-- A write of MirrorCommand that its rule accepts, and that does not restart the block. -/
theorem writeOf_mirrorCommand {link : Fin 2} {tag : BitVec 8} {d : Fin 4} {v : Nat} {s u : State} (hC : CanWrite link 1 1 s)
    (hv : v ∈ [1, 2, 3, 4]) (hrule : mirrorCommand d v (beginFrame link s) = (u, 0))
    (hst : ¬ (s.blk.st = .test ∧ u.blk.st = .resetPhase)) :
    Written link tag (0x6010 + d) 6 1 u (writeOf link tag (0x6010 + d) 6 v false s) := by
  obtain ⟨hrow, hplain, hlevel⟩ := mirrorCommandRow_plain d v hv
  exact writeOf_now link tag _ _ v 1 false s u mirrorCommandRow hrow hplain hlevel hC
    ((writeNow_mirrorCommand link d v _).trans hrule) hst

/-! ### What the rule does (R283, R286, R288, R289) -/

section
variable {d : Nat} {s : State}

theorem mirrorCommand_promote (hrole : s.role d = 2) : mirrorCommand d 1 s = (promoteDistrict d s, 0) := by
  simp only [mirrorCommand, hrole, if_true]

theorem mirrorCommand_break (hst : (s.dist d).mst = .inSync ∨ (s.dist d).mst = .resyncing) :
    mirrorCommand d 3 s = (breakMirror d 3 s, 0) := by
  rcases hst with hst | hst <;> simp [mirrorCommand, hst]

variable (hrole : s.role d = 1)
include hrole

theorem mirrorCommand_demote (hst : (s.dist d).mst = .inSync) : mirrorCommand d 2 s =
    (finishDemote d (s.modDist d (fun x => { x with demoting := true, stopWrites := true })), 0) := by
  simp [mirrorCommand, hrole, hst]

theorem mirrorCommand_push_inSync (hst : (s.dist d).mst = .inSync) : mirrorCommand d 4 s =
    (enterResync d ((s.modDist d (fun x => { x with push := true, pushPage := 0, pull := [] })).setObj (0x6010 + d) 8 0), 0) := by
  simp [mirrorCommand, hrole, hst]

theorem mirrorCommand_push_broken (hst : (s.dist d).mst = .broken) : mirrorCommand d 4 s = (s, 0) := by
  simp [mirrorCommand, hrole, hst]

end

/-- Settles O18: each command is the write of one object (`writeOf_mirrorCommand`), whose rule is said by the equation of its
case. -/
theorem mirrorCommands : Obligations.MirrorCommands := by
  refine ⟨?_, ?_, ?_, ?_, ?_⟩
  · intro link tag d s hC htest hrole
    rw [← role_begin link] at hrole
    exact ⟨_, rfl, writeOf_mirrorCommand hC (by decide) (mirrorCommand_promote hrole) (fun ⟨hst, _⟩ => htest hst)⟩
  · intro link tag d s hC hrole hst
    rw [← role_begin link] at hrole
    rw [← beginFrame_at_dist link] at hst
    exact ⟨_, rfl, writeOf_mirrorCommand hC (by decide) (mirrorCommand_demote hrole hst)
      (noReset (((finishDemote_keeps ..).blk (by decide)).trans (beginFrame_blk link s)))⟩
  · intro link tag d s hC htest hst
    rw [← beginFrame_at_dist link] at hst
    exact ⟨_, rfl, writeOf_mirrorCommand hC (by decide) (mirrorCommand_break hst) (fun ⟨hst, _⟩ => htest hst)⟩
  · intro link tag d s hC hrole hst
    rw [← role_begin link] at hrole
    rw [← beginFrame_at_dist link] at hst
    exact ⟨_, rfl, writeOf_mirrorCommand hC (by decide) (mirrorCommand_push_inSync hrole hst)
      (noReset (((enterResync_keeps ..).blk (by decide)).trans (beginFrame_blk link s)))⟩
  · intro link tag d s hC hrole hst
    rw [← role_begin link] at hrole
    rw [← beginFrame_at_dist link] at hst
    exact ⟨_, rfl, writeOf_mirrorCommand hC (by decide) (mirrorCommand_push_broken hrole hst) (noReset (beginFrame_blk link s))⟩

end Sys2Proof.Machine

/-! PROOF. Frames of the mirror link as they arrive (R270, R271, R274, R275). -/

namespace Sys2Proof.Machine

/-! ### A frame that opens (R270, R275) -/

theorem portHeard_havePeer (k : Nat) (s : State) : (portHeard k s).mirror.havePeer = s.mirror.havePeer := by
  unfold portHeard
  dsimp only
  split
  · rfl
  · rw [State.raise_mirror]; rfl

/-- Hearing a port leaves the peer's session. -/
theorem portHeard_session (k : Nat) (s : State) : (portHeard k s).obj 0x6000 3 = s.obj 0x6000 3 := by
  have hshow (m : Mirror) : (showPorts { s with mirror := m }).obj 0x6000 3 = s.obj 0x6000 3 :=
    setObj_ne2 _ _ _ _ _ _ (by decide) (by decide) (by decide)
  unfold portHeard
  dsimp only
  split
  · exact hshow _
  · rw [raise_obj _ _ (by decide) (by decide), hshow]

/-- What a counted frame of each kind is handled by (R271, R274, R281-R283). -/
def takeKind (kind : Nat) (bs p : List Byte) (s : State) : State :=
  match kind with
  | 0 => takeData (byteAt bs 1 % 16) (fieldAt bs 8 8) p s
  | 1 => takeAck (fieldAt bs 8 8) p s
  | 2 => takeRequest (fieldAt bs 8 8) p s
  | 3 => takeResponse p s
  | _ => takeHello (fieldAt bs 8 8) (fieldAt bs 2 2) p s

/-- A frame that opens, and (but a Hello) is of the session, is counted, its port heard, and handled by its kind. -/
theorem receiveFrame_opens {kind port : Nat} {bs p : List Byte} {s : State} (hopens : Opens kind port bs p s)
    (hsession : kind = 4 ∨ OfSession bs s) : receiveFrame kind port bs s = takeKind kind bs p (heard port s) := by
  obtain ⟨hloop, hform, hinject, keys, hkeys, hopen⟩ := hopens
  have hof : (kind != 4 && (!(portHeard port s).mirror.havePeer || fieldAt bs 2 2 != (portHeard port s).obj 0x6000 3)) = false := by
    rcases hsession with hkind | ⟨hpeer, hsession⟩
    · simp [hkind]
    · simp [portHeard_havePeer, portHeard_session, hpeer, hsession]
  simp only [receiveFrame, hloop, hform, hinject, hkeys, hopen, hof, Bool.not_true, Bool.false_and, Bool.false_eq_true, if_false]
  rfl

/-! ### A kind that the spec does not name (R263, R270) -/

theorem frameForm_reserved {kind : Nat} (h : 4 < kind) (bs : List Byte) : frameForm kind bs = false := by
  simp [frameForm, Nat.not_le_of_lt h]

theorem receiveFrame_reserved {kind port : Nat} (h : 4 < kind) (bs : List Byte) (s : State) : receiveFrame kind port bs s =
    if looping s port then countLoop port 0 0 1 (s.addObj 0x6000 0x26 1) else s.addObj 0x6000 0x26 1 := by
  simp only [receiveFrame, loopArrive, frameForm_reserved h, Bool.not_false, if_true]

/-! ### Data and acknowledgements (R271, R274) -/

/-- With nothing held, no frame is accepted. -/
theorem acceptRx_none_held {k n : Nat} {s : State} (h : (s.rx k).held = []) : acceptRx k n s = s := by
  cases n with
  | zero => rfl
  | succ n => simp only [acceptRx, h, List.find?_nil]

/-- The frame expected next, alone in hand, is accepted. -/
theorem acceptRx_next_expected {k n : Nat} {f : RxFrame} {s : State} (hheld : (s.rx k).held = [f])
    (hnext : f.seq = s.obj (0x6040 + k) 3) : (acceptRx k (n + 1) s).obj (0x6040 + k) 3 = f.seq + 1 := by
  have hfind : [f].find? (fun g => g.seq == s.obj (0x6040 + k) 3) = some f := by simp [hnext]
  simp only [acceptRx, hheld, hfind]
  rw [acceptRx_none_held (by simp [hnext]), State.setObj_same, hnext]

/-- The next Data frame of a stream, with room for it, is taken. -/
theorem takeData_next {k seq : Nat} {p : List Byte} {s : State} (hfollower : (followerFor s (parseData seq p).dist).isSome = true)
    (hnext : seq = s.obj (0x6040 + k) 3) (hroom : rxUsed s + replayUsed s + frameBytesOf (parseData seq p).recs ≤ 2 ^ 21)
    (hheld : (s.rx k).held = []) : takeData k seq p s =
      (advanceCum k (acceptRx k 33 (s.setRx k { s.rx k with held := [parseData seq p], dist := (parseData seq p).dist }))).1 := by
  have hnone : (followerFor s (parseData seq p).dist).isNone = false := by simpa using hfollower
  have hfits : ¬ (2 ^ 21 < rxUsed s + replayUsed s + frameBytesOf (parseData seq p).recs) := Nat.not_lt_of_le hroom
  have hclose : ¬ (seq + 31 < seq) := by omega
  simp only [takeData, hnone, ← hnext, hfits, hclose, hheld, List.any_nil, sortedInsert, Nat.lt_irrefl, decide_false, Bool.or_self,
    Bool.false_eq_true, if_false]

theorem takeAck_old {n seq : Nat} {p : List Byte} {s : State} (hlast : s.mirror.lastAck = some n) (hold : seq ≤ n) :
    takeAck seq p s = discardRepeat s := by
  simp only [takeAck, hlast, hold, decide_true, if_true]

theorem settleWaits_none {s : State} (h : s.mirror.waits = []) : settleWaits s = s := by
  simp only [settleWaits, h, List.foldl_nil]

/-- The lines of channel c whose writes lie below CumAck n no longer wait for the twin (R171). -/
def clearTwinPending (c n : Nat) (s : State) : State :=
  { s with plaza := s.plaza.map (fun e =>
      if e.1 / 2 ^ 40 = c && e.2.twinPending && serialLt (2 ^ 24) e.2.seq (n % 2 ^ 24) then (e.1, { e.2 with twinPending := false })
      else e) }

theorem acknowledge_eq {c n : Nat} {s : State} (hlt : s.obj (0x6040 + c) 2 < n) : acknowledge c n s =
    settleWaits (clearTwinPending c n (releaseReplay (s.setObj (0x6040 + c) 2 n))) := if_neg (Nat.not_le_of_lt hlt)

/-- A CumAck that advances, with no response waiting, moves the mark and drops the frames before it. -/
theorem acknowledge_advance {c n : Nat} {s : State} (hlt : s.obj (0x6040 + c) 2 < n) (hwaits : s.mirror.waits = []) :
    (acknowledge c n s).obj (0x6040 + c) 2 = n ∧
      (acknowledge c n s).mirror.replay = (releaseReplay (s.setObj (0x6040 + c) 2 n)).mirror.replay := by
  have hnone : (clearTwinPending c n (releaseReplay (s.setObj (0x6040 + c) 2 n))).mirror.waits = [] := hwaits
  rw [acknowledge_eq hlt, settleWaits_none hnone]
  exact ⟨State.setObj_same .., rfl⟩

/-- Settles O47: each kind by `receiveFrame_opens` and a reserved one by `receiveFrame_reserved`; the Data frame, the Ack and
the CumAck by their equations. -/
theorem mirrorReceives : Obligations.MirrorReceives := by
  refine ⟨?_, ?_, ?_, ?_, ?_, ?_, ?_, ?_, ?_⟩
  · exact fun port bytes p s hopens hsession => congrArg Host.Outcome.next (receiveFrame_opens hopens (.inr hsession))
  · exact fun port bytes p s hopens hsession => congrArg Host.Outcome.next (receiveFrame_opens hopens (.inr hsession))
  · exact fun port bytes p s hopens hsession => congrArg Host.Outcome.next (receiveFrame_opens hopens (.inr hsession))
  · exact fun port bytes p s hopens hsession => congrArg Host.Outcome.next (receiveFrame_opens hopens (.inr hsession))
  · exact fun port bytes p s hopens => congrArg Host.Outcome.next (receiveFrame_opens hopens (.inl rfl))
  · intro port bytes s
    have hrow : exec (.reservedKindFrame port bytes) s = .next (receiveFrame 5 port bytes s) := rfl
    rw [hrow, receiveFrame_reserved (by decide)]
    exact ⟨fun hloop => by simp only [hloop, Bool.false_eq_true, if_false], fun hloop => by simp only [hloop, if_true]⟩
  · intro k seq p s hfollower hnext hroom hheld
    rw [takeData_next hfollower hnext hroom hheld]
    exact acceptRx_next_expected (n := 32) (f := parseData seq p) (by rw [State.setRx_same]) hnext
  · exact fun n seq p s hlast hold => takeAck_old hlast hold
  · intro c n s u hlt hwaits hu
    rw [hu]
    exact acknowledge_advance hlt hwaits

end Sys2Proof.Machine

/-! PROOF. The timers of the mirror's sending side and of its acknowledgements (R260, R266, R272-R274). -/

namespace Sys2Proof.Machine

section
variable {s : State}

/-! ### Acks and Hellos (R266, R272, R273) -/

theorem sendAck_ackSeq (naks : List (Nat × Nat × Nat)) (h : s.mirror.started = true) :
    (sendAck naks s).mirror.ackSeq = s.mirror.ackSeq + 1 := by
  obtain ⟨sent, hmirror⟩ := sendAck_mirror naks s h
  rw [hmirror]

theorem nakStream_gap {k : Nat} {g : Nat × Nat} (hgap : gapOf s k = some g) : nakStream k s = sendAck [(k, g.1, g.2)] s := by
  simp only [nakStream, hgap]

/-- An Ack is due once the CumAck of one stream has moved since the last. -/
theorem ackDue_moved {k : Fin 16} (hmoved : cumAck s k ≠ s.obj (0x6040 + k) 4) : ackDue s = sendAck [] s := by
  have hany : (List.range 16).any (fun j => cumAck s j != s.obj (0x6040 + j) 4) = true :=
    List.any_eq_true.mpr ⟨k, List.mem_range.mpr k.isLt, bne_iff_ne.mpr hmoved⟩
  rw [ackDue, if_pos hany]

/-- The Hello and the Ack of an interval each take their number. -/
theorem helloInterval_seqs (h : s.mirror.started = true) :
    (sendAck [] (sendHello s)).mirror.helloSeq = s.mirror.helloSeq + 1 ∧
      (sendAck [] (sendHello s)).mirror.ackSeq = s.mirror.ackSeq + 1 := by
  obtain ⟨sent, hhello⟩ := sendHello_mirror s h
  obtain ⟨sent', hack⟩ := sendAck_mirror [] (sendHello s) (by rw [hhello]; exact h)
  rw [hack, hhello]
  exact ⟨rfl, rfl⟩

/-! ### Frames closed and sent again (R260, R274) -/

theorem closeFrame_open {c d : Nat} (hd : (s.chan c).dist = some d) :
    ((closeFrame c s).tx c).open_ = (s.tx c).open_.filter (keptBack s) := by
  rw [closeFrame, closeBut_tx _ c d s hd]

theorem closeFrame_lastClose {c d : Nat} (hd : (s.chan c).dist = some d) : ((closeFrame c s).tx c).lastClose = s.slotNow := by
  rw [closeFrame, closeBut_tx _ c d s hd]

theorem frameTimeout_due {k : Nat} (hready : readyFrame s k = true) (hdue : s.obj 0x6000 9 ≤ s.since (s.tx k).since) :
    frameTimeout k s = closeFrame k s := by
  simp [frameTimeout, hready, Nat.not_lt_of_le hdue]

theorem heartbeatFrame_idle {k d : Nat} (hd : (s.chan k).dist = some d) (hfeeds : feeds s d = true) (hopen : (s.tx k).open_ = [])
    (hdue : s.obj 0x6000 8 ≤ (s.slotNow + slotMod - (s.tx k).lastClose % slotMod) % slotMod) :
    heartbeatFrame k s = closeFrame k s := by
  simp only [heartbeatFrame, hd, hfeeds, hopen, hdue, List.isEmpty_nil, decide_true, Bool.and_self, if_true]

theorem replayAll_due {f : TxFrame} {rest : List TxFrame} (hreplay : s.mirror.replay = f :: rest)
    (hdue : 2 * s.obj 0x6000 5 ≤ s.since f.sent) : replayAll s =
      ((noteResent (fun g => !g.acked (s.unacked.foldl (fun t g => sendData g t) s)) (s.unacked.foldl (fun t g => sendData g t) s)).addObj
        0x6000 0x21 s.unacked.length).raise 0x03F := by
  simp only [replayAll, hreplay, List.head?_cons, Nat.not_lt_of_le hdue, if_false]

end

/-- Settles O48: each row by the equation of its timer where it is due, the sequences by `sendAck_mirror` and
`sendHello_mirror`, the stream of a closed frame by `closeBut_tx`. -/
theorem mirrorTimers : Obligations.MirrorTimers := by
  refine ⟨?_, ?_, ?_, ?_, ?_, ?_⟩
  · exact fun stream g s hgap hstarted => ⟨_, congrArg Host.Outcome.next (nakStream_gap hgap), rfl, sendAck_ackSeq _ hstarted⟩
  · exact fun k s hmoved hstarted => ⟨_, congrArg Host.Outcome.next (ackDue_moved hmoved), rfl, sendAck_ackSeq _ hstarted⟩
  · exact fun s hstarted => ⟨_, rfl, rfl, helloInterval_seqs hstarted⟩
  · exact fun stream d s hready hdue hd => ⟨_, congrArg Host.Outcome.next (frameTimeout_due hready hdue), rfl, closeFrame_open hd,
      closeFrame_lastClose hd⟩
  · exact fun stream d s hd hfeeds hopen hdue => ⟨_, congrArg Host.Outcome.next (heartbeatFrame_idle hd hfeeds hopen hdue), rfl,
      closeFrame_lastClose hd⟩
  · intro f rest s v hreplay hdue hv
    rw [hv]
    exact ⟨_, _, congrArg Host.Outcome.next (replayAll_due hreplay hdue), rfl, rfl⟩

end Sys2Proof.Machine

/-! PROOF. Requests between the twins: resent, expired and unanswered (R240, R281, R282). -/

namespace Sys2Proof.Machine

section
variable {seq : Nat} {s : State}

/-! ### Requests of the engines and of reads (R240, R281) -/

theorem sendPaths_reqs (k : Nat) (hdr payload : List Byte) (s : State) : (sendPaths k hdr payload s).mirror.reqs = s.mirror.reqs := by
  obtain ⟨sent, hmirror⟩ := sendPaths_mirror k hdr payload s
  rw [hmirror]

/-- The payload of a request of an engine, which has no deadline (R267, R281). -/
def engineRequestPayload (r : RemReq) (s : State) : List Byte :=
  natLe 9 r.asOf.word ++ natLe 1 (s.twinOf r.dist) ++ natLe 1 r.lines ++ natLe 1 r.purpose ++ natLe 4 (2 ^ 32 - 1) ++
    natLe 5 (r.dline % 2 ^ 38) ++ List.replicate 43 0

section
variable {r : RemReq} (hr : s.mirror.reqs.find? (fun r => r.seq == seq) = some r)
include hr

theorem resend_engine (hpurpose : r.purpose ≠ 0) :
    resend seq s = sendPaths seq (frameHeader 2 0 s.vault.session 1 seq) (engineRequestPayload r s) s := by
  simp only [resend, hr, hpurpose, if_false]
  rfl

/-- A read that the twin has not answered in time is answered by the state of its channel. -/
theorem answerTimeout_due (hpurpose : r.purpose = 0)
    (hdue : serialLe cycleMod ((40 * r.deadline + cycleMod - 80) % cycleMod) s.cycleNow = true) :
    answerTimeout seq s = fillError r.chan r.line (heldStatus (s.chan r.chan).st)
      { s with mirror := { s.mirror with reqs := s.mirror.reqs.filter (fun x => x.seq != seq) } } := by
  simp only [answerTimeout, hr, hpurpose, hdue, decide_true, Bool.and_self, if_true]
  rfl

end

/-! ### Requests of the twin (R282) -/

theorem serveExpiry_late {v : Serve} (hv : s.mirror.serving.find? (fun v => v.seq == seq) = some v) (hlate : serveLate s v = true) :
    serveExpiry seq s = endServe v s := by
  simp only [serveExpiry, hv, hlate, if_true]

/-- A request that ends is served no longer; its queued reads are the channels'. -/
theorem endServe_serving (v : Serve) (s : State) :
    (endServe v s).mirror.serving = s.mirror.serving.filter (fun w => w.seq != v.seq) := by
  unfold endServe
  dsimp only
  split
  · exact foldl_same (fun t : State => t.mirror.serving) _ _ _ (fun t k => rfl)
  · rfl

end

/-- Settles O49: each row by the equation of its timer where it is due; what a request leaves by `sendPaths_reqs` and
`endServe_serving`. -/
theorem remoteRequests : Obligations.RemoteRequests := by
  refine ⟨?_, ?_, ?_⟩
  · exact fun seq r s hr hpurpose => ⟨_, congrArg Host.Outcome.next (resend_engine hr hpurpose), rfl, sendPaths_reqs ..⟩
  · intro seq v s hv hlate
    have hseq : v.seq = seq := by simpa using List.find?_some hv
    exact ⟨_, congrArg Host.Outcome.next (serveExpiry_late hv hlate), rfl, by rw [endServe_serving, hseq]⟩
  · exact fun seq r s hr hpurpose hdue => ⟨_, congrArg Host.Outcome.next (answerTimeout_due hr hpurpose hdue), rfl⟩

end Sys2Proof.Machine

/-! PROOF. Silent paths, and the states of a district's mirror (R275-R277, R283, R288, R291). -/

namespace Sys2Proof.Machine

/-- Events and their counters leave the objects of a district's mirror. -/
theorem evKey_mirrorPage (d : Fin 4) (k : Nat) : evKey (0x6010 + d) k = false := by
  simp only [evKey, decide_eq_false_iff_not]
  omega

/-! ### Paths and breaks (R275, R276) -/

theorem portSilent_up (k : Nat) (s : State) : (portSilent k s).mirror.up = s.mirror.up.set k false := by
  unfold portSilent
  dsimp only
  split
  · rw [State.raise_mirror]; rfl
  · rfl

theorem breakMirror_mst (d reason : Nat) (s : State) : ((breakMirror d reason s).dist d).mst = .broken := by
  unfold breakMirror
  dsimp only
  rw [dist_congr ((settleWaits_keeps _).dists (by decide)), State.raise_at_dist, State.addObj_at_dist, State.setObj_at_dist,
    dist_congr ((leaveSync_keeps ..).dists (by decide)), dist_congr ((removeFrames_keeps ..).dists (by decide)), State.modDist_same]

theorem breakTimeout_due {d : Nat} {s : State} (hidle : s.sup.squall = .idle) (htimeout : s.obj 0x6000 6 ≠ 0) (hfeeds : feeds s d = true)
    (hwaiting : allAcked s d = false) : breakTimeout d s = breakMirror d 1 s := by
  simp [breakTimeout, hidle, htimeout, hfeeds, hwaiting]

/-! ### Pairing and promotion (R283, R291) -/

theorem pairingTimeout_mismatch {d : Nat} {s : State} (hst : (s.dist d).mst = .connecting) (hmismatch : (s.dist d).mismatch = true) :
    pairingTimeout d s = enterConflict d 9 s := by
  simp [pairingTimeout, hst, hmismatch]

theorem enterConflict_conflict (d : Fin 4) (reason : Nat) (s : State) :
    ((enterConflict d reason s).dist d).mst = .conflict ∧ (enterConflict d reason s).obj (0x6010 + d) 4 = reason := by
  constructor
  · rw [enterConflict, State.raise_at_dist, State.setObj_at_dist, State.modDist_same]
  · rw [enterConflict, raise_obj _ _ (by decide) (evKey_mirrorPage d 4), State.setObj_same]

theorem twinSilent_follower {d : Nat} {s : State} (hset : s.obj 0x6000 7 ≠ 0) (hrole : s.role d = 2) :
    twinSilent d s = promoteDistrict d (s.raise 0x03C) := by
  simp [twinSilent, hset, hrole]

/-! ### The end of a demotion (R288) -/

/-- The district is Follower, and neither demotes nor stops its writes. -/
def demoted (d : Nat) (s : State) : State :=
  sendHello (setRole d 2 (s.modDist d (fun x => { x with demoting := false, stopWrites := false })))

theorem finishDemote_done {d : Nat} {s : State} (hdemoting : (s.dist d).demoting = true) (hacked : allAcked s d = true)
    (hwrites : s.order.any (fun e => e.2.any (fun a => a.dist == d && !a.kind.isRead && !a.engine)) = false) :
    finishDemote d s = demoted d s := by
  simp only [finishDemote, hdemoting, hacked, hwrites, Bool.not_false, Bool.and_self, if_true]
  rfl

theorem demoted_role (d : Fin 4) (s : State) : (demoted d s).obj (0x6010 + d) 1 = 2 := by
  rw [demoted, sendHello_obj _ _ _ (by decide) (by omega), setRole, raise_obj _ _ (by decide) (evKey_mirrorPage d 1), State.setObj_same]

theorem demoted_dist (d : Nat) (s : State) : (demoted d s).dist d = { s.dist d with demoting := false, stopWrites := false } := by
  rw [demoted, dist_congr ((sendHello_keeps _).dists (by decide)), dist_congr ((setRole_keeps ..).dists (by decide)), State.modDist_same]

/-- Settles O50: each row by the equation of its case, the states it ends in by what breaks, conflicts and demotions leave. -/
theorem mirrorStates : Obligations.MirrorStates := by
  refine ⟨?_, ?_, ?_, ?_, ?_, ?_⟩
  · exact fun port s => ⟨_, rfl, portSilent_up ..⟩
  · exact fun d s hidle htimeout hfeeds hwaiting =>
      ⟨_, congrArg Host.Outcome.next (breakTimeout_due hidle htimeout hfeeds hwaiting), rfl, breakMirror_mst ..⟩
  · exact fun d s hst hmismatch => ⟨_, congrArg Host.Outcome.next (pairingTimeout_mismatch hst hmismatch), enterConflict_conflict ..⟩
  · exact fun d s hset hrole => ⟨_, congrArg Host.Outcome.next (twinSilent_follower hset hrole), rfl⟩
  · intro d s v hv
    rw [hv]
    exact ⟨_, rfl, rfl⟩
  · intro d s hdemoting hacked hwrites
    exact ⟨_, congrArg Host.Outcome.next (finishDemote_done hdemoting hacked hwrites), demoted_role d s, by rw [demoted_dist],
      by rw [demoted_dist]⟩

end Sys2Proof.Machine

/-! PROOF. What answering a management write leaves (R412, R413, R415, R416). -/

namespace Sys2Proof.Machine

/-- The result a response on the link carries: 0x08 where the target's read length is too short for it (R410). -/
def heldResult (link : Nat) (o : MgmtOut) : Nat := if link = 1 ∧ o.st.obj 0x1100 4 < 18 + o.data.length then 8 else o.result

/-- The response to a request that `endFrame` holds on the link (R413). -/
def heldResponse (link op : Nat) (h : ReqHdr) (o : MgmtOut) : RspFrame :=
  { opcode := (op + 0x80) % 256, tag := h.tag.toNat, index := h.index.toNat, sub := h.sub.toNat, result := heldResult link o,
    offset := h.offset.toNat, detail := o.detail, data := if heldResult link o = 0 then o.data else [] }

theorem endFrame_link (link op : Nat) (h : ReqHdr) (o : MgmtOut) : ((endFrame link op h o).link link).held = some (heldResponse link op h o) ∧
    ((endFrame link op h o).link link).unread = (link == 1) := by
  have hlong : (if (link == 1 && decide (o.st.obj 0x1100 4 < 18 + o.data.length)) = true then 8 else o.result) = heldResult link o := by
    simp only [heldResult, Bool.and_eq_true, beq_iff_eq, decide_eq_true_eq]
  simp only [endFrame, hlong]
  generalize (if heldResult link o = 0 then o.st else o.st.addObj 0x1100 (0x14 + link) 1) = u
  have hset := State.setLink_same u link { u.link link with held := some (heldResponse link op h o), unread := link == 1 }
  split <;> exact ⟨congrArg Link.held hset, congrArg Link.unread hset⟩

theorem endFrame_frame (link op : Nat) (h : ReqHdr) (o : MgmtOut) : Frame [.objs, .mgmt] o.st (endFrame link op h o) :=
  (endFrame_keeps link op h o).frame_of_coversRest rfl

/-- Settles O13: the response is the one `endFrame` holds, and of the state it changes the frame's objects and the management
unit. -/
theorem writesAnswered : Obligations.WritesAnswered := by
  rintro link tag idx sub n u t hidx hsub rfl
  obtain ⟨hheld, hunread⟩ := endFrame_link link 2 (writeHdr tag idx sub n) ⟨u, 0, 0, []⟩
  refine ⟨endFrame_frame .., fun i k hk hi => endFrame_at_obj link 2 _ _ i k hk hi, ⟨_, hheld, rfl, rfl, ?_, ?_, ite_self _, ?_⟩, ?_, ?_⟩
  · exact Nat.mod_eq_of_lt hidx
  · exact Nat.mod_eq_of_lt hsub
  · simp only [heldResponse, heldResult, Fin.ext_iff, Fin.val_one, List.length_nil, Nat.add_zero]
  · rintro rfl
    exact endFrame_winStatus 0 2 _ _ rfl
  · rintro rfl
    exact hunread

end Sys2Proof.Machine

/-! PROOF. Well-formed requests reach their operation (R413-R415): what a refused write leaves (R415, R418-R420, R427), and
ABORT (R423). -/

namespace Sys2Proof.Machine

/-! ### A frame is taken -/

section
variable (link : Fin 2) (s : State)

/-- Of the management unit, taking a frame changes the links alone. -/
theorem beginFrame_mgmt : ∃ ls, (beginFrame link s).mgmt = { s.mgmt with links := ls } := by
  unfold beginFrame
  dsimp only
  split <;> exact ⟨_, rfl⟩

@[simp] theorem beginFrame_pendingFrame : (beginFrame link s).mgmt.pendingFrame = s.mgmt.pendingFrame := by
  obtain ⟨ls, h⟩ := beginFrame_mgmt link s
  rw [h]

@[simp] theorem drains_begin : drains (beginFrame link s) = drains s := by
  simp only [drains, beginFrame_blk]

@[simp] theorem stagedByOther_begin (l : Nat) : stagedByOther (beginFrame link s) l = stagedByOther s l := by
  obtain ⟨ls, h⟩ := beginFrame_mgmt link s
  simp only [stagedByOther, h]

@[simp] theorem stagedCount_begin : stagedCount (beginFrame link s) = stagedCount s := by
  obtain ⟨ls, h⟩ := beginFrame_mgmt link s
  simp only [stagedCount, h]

@[simp] theorem stagesRwc_begin : stagesRwc (beginFrame link s) = stagesRwc s := by
  obtain ⟨ls, h⟩ := beginFrame_mgmt link s
  simp only [stagesRwc, h]

end

/-- A request whose operation keeps the state of the block, or comes outside Test, is answered with what it gives. -/
theorem transact_answers {link : Fin 2} {q : MgmtReq} {s : State} {o : MgmtOut} (hT : Takes link q.bytes.length s)
    (hrun : runRequest link q (beginFrame link s) = o) (hst : s.blk.st ≠ .test ∨ o.st.blk = s.blk) :
    transact link q s = endFrame link q.op q.hdr o := by
  have h := transact_takes link q s hT
  rw [hrun] at h
  exact h (hst.elim (fun hne hboth => hne hboth.1) noReset)

/-! ### Well-formed requests (R413, R414) -/

section
variable {link : Fin 2} {hdr : ReqHdr} {bytes : List (BitVec 8)} {hint : Bool} {s : State}

theorem runRequest_read (hlen : hdr.length.toNat ≤ linkData link) (hres : hdr.reserved = 0) (hoff : hdr.offset = 0)
    (hflags : hdr.flags = 0 ∨ hdr.flags = 1) :
    runRequest link ⟨1, hdr, [], hint⟩ s = doRead link hdr.index.toNat hdr.sub.toNat hdr.length.toNat (hdr.flags == 1) s := by
  rcases hflags with hflags | hflags <;> simp [runRequest, hlen, hres, hoff, hflags]

theorem runRequest_readBlock (hlen : hdr.length.toNat ≤ linkData link) (hres : hdr.reserved = 0)
    (hflags : hdr.flags = 0 ∨ hdr.flags = 1) : runRequest link ⟨3, hdr, [], hint⟩ s =
      doReadBlock hdr.index.toNat hdr.sub.toNat hdr.offset.toNat hdr.length.toNat (hdr.flags == 1) s := by
  rcases hflags with hflags | hflags <;> simp [runRequest, hlen, hres, hflags]

variable (hlen : hdr.length.toNat = bytes.length) (hfits : bytes.length ≤ linkData link) (hres : hdr.reserved = 0)
  (hflags : hdr.flags = 0)
include hlen hfits hres hflags

theorem runRequest_objectWrite (hoff : hdr.offset = 0) :
    runRequest link ⟨2, hdr, bytes, hint⟩ s = doWrite hint link hdr.index.toNat hdr.sub.toNat bytes s := by
  simp [runRequest, hlen, hfits, hres, hoff, hflags]

theorem runRequest_writeBlock : runRequest link ⟨4, hdr, bytes, hint⟩ s =
    doWriteBlock link hdr.index.toNat hdr.sub.toNat hdr.offset.toNat bytes s := by
  simp [runRequest, hlen, hfits, hres, hflags]

/-- COMMIT, ABORT, STORE and RESTORE name no object. -/
theorem runRequest_blockOp {op : Nat} (hop : 5 ≤ op) (hidx : hdr.index = 0) (hsub : hdr.sub = 0) (hoff : hdr.offset = 0) :
    runRequest link ⟨op, hdr, bytes, hint⟩ s = doBlockOp link op bytes s := by
  have h1 : op ≠ 1 := by omega
  have h2 : op ≠ 2 := by omega
  have h3 : op ≠ 3 := by omega
  have h4 : op ≠ 4 := by omega
  simp [runRequest, hlen, hfits, hres, hflags, hidx, hsub, hoff, h1, h2, h3, h4]

end

/-- A WRITE of all the bytes of an object goes to the object. -/
theorem doWrite_object {hint : Bool} {link idx sub : Nat} {bytes : List (BitVec 8)} {s : State} {r : ObjRow}
    (hrow : objRow idx sub = some r) (hrec : r.record = false) (hlen : bytes.length = r.size) : doWrite hint link idx sub bytes s =
      ⟨(writeObject hint link idx sub (leNat bytes) r s).1, (writeObject hint link idx sub (leNat bytes) r s).2, 0, []⟩ := by
  simp [doWrite, hrow, hrec, hlen]

/-! ### Refused writes (R415, R418-R420, R427) -/

theorem writeObject_refused {hint : Bool} {link idx sub v : Nat} {r : ObjRow} {s : State} (h : writeRefusal link idx sub v r s ≠ 0) :
    writeObject hint link idx sub v r s = (s, writeRefusal link idx sub v r s) :=
  if_pos (by simpa using h)

section
variable {link idx sub v : Nat} {r : ObjRow} {s : State}

theorem writeRefusal_readOnly (hacc : accessOf idx sub r = 0) : writeRefusal link idx sub v r s = 4 := if_pos hacc

theorem writeRefusal_rights (hacc : accessOf idx sub r ≠ 0) (hidx : idx ≠ 0x1100) (hlevel : s.level link < levelOf idx sub v r) :
    writeRefusal link idx sub v r s = 5 := by
  simp only [writeRefusal, hacc, hidx, hlevel, if_true, if_false]

/-- A write that meets no refusal has the level, the value and the state of the block that its object asks for. -/
theorem writeRefusal_zero (h : writeRefusal link idx sub v r s = 0) (hidx : idx ≠ 0x1100) :
    levelOf idx sub v r ≤ s.level link ∧ valueOk idx sub v r = true ∧ (accessOf idx sub r = 3 → s.blk.st = .config) ∧
      (drains s = true → drainAllows (pageOf idx).1 sub v s = true) := by
  simp only [writeRefusal, hidx, if_false] at h
  split at h
  · omega
  split at h
  · omega
  split at h
  · omega
  split at h
  · omega
  split at h
  · omega
  split at h
  · omega
  rename_i hlevel _ hdrains hconfig hvalue
  refine ⟨Nat.le_of_not_lt hlevel, by simpa using hvalue, ?_, ?_⟩
  · simpa using hconfig
  · simpa using hdrains

end

/-- Settles O14: a well-formed WRITE reaches `writeObject`, which gives back the state and the refusal; the refusals are the
branches of `writeRefusal`. -/
theorem writesRefused : Obligations.WritesRefused := by
  refine ⟨?_, ?_, fun link idx sub v r s => ⟨writeRefusal_readOnly, writeRefusal_rights, writeRefusal_zero⟩⟩
  · rintro link hdr bytes s r code hT hrow hrec hsize hlen hfits hres hoff hflags rfl hcode
    have hrun := (runRequest_objectWrite (link := link) (hint := Config.freeBit s.freeCtr) (s := beginFrame link s.tickFree)
      (hlen.trans hsize.symm) (hsize ▸ hfits) hres hflags hoff).trans (doWrite_object hrow hrec hsize)
    rw [writeObject_refused hcode] at hrun
    refine ⟨_, congrArg Host.Outcome.next (transact_answers hT hrun (.inr (beginFrame_blk ..))), rfl, fun i k hk hi => ?_⟩
    rw [endFrame_at_obj link _ _ _ i k hk hi, beginFrame_at_obj link _ i k hk hi, State.tickFree_at_obj]
  · intro link hdr bytes s hT hrow hlen hfits hres hoff hflags
    have hrun : runRequest link ⟨2, hdr, bytes, Config.freeBit s.freeCtr⟩ (beginFrame link s.tickFree) =
        ⟨beginFrame link s.tickFree, 3, 0, []⟩ := by
      simp only [runRequest_objectWrite hlen hfits hres hflags hoff, doWrite, hrow, MgmtOut.refuse]
    exact congrArg Host.Outcome.next (transact_answers hT hrun (.inr (beginFrame_blk ..)))

/-! ### ABORT (R423) -/

/-- What ABORT leaves of the state: nothing staged, and LastCommitOutcome where a COMMIT was pending. -/
def aborted (s : State) : State := if s.mgmt.pendingFrame.isSome then (discardStaged s).setObj 0x1200 8 3 else discardStaged s

theorem abortCmd_allowed {link level : Nat} {s : State} (h : stagedByOther s link = false ∨ 2 ≤ level) :
    abortCmd link level s = (aborted s, 0, stagedCount s) := by
  have hopen : ¬ (stagedByOther s link && decide (level < 2)) = true := by
    simp only [Bool.and_eq_true, decide_eq_true_eq, not_and, Nat.not_lt]
    exact fun hother => h.resolve_left (by simp [hother])
  rw [abortCmd, if_neg hopen]
  rfl

theorem aborted_mgmt (s : State) : (aborted s).mgmt = (discardStaged s).mgmt := by
  unfold aborted
  split <;> rfl

/-- Settles O9: ABORT reaches `abortCmd`, whose state is `aborted`. -/
theorem abortDiscards : Obligations.AbortDiscards := by
  rintro link hdr s u hT htest hidx hsub hoff hres hflags hlen hlevel howner rfl
  have hrun : runRequest link ⟨6, hdr, [], false⟩ (beginFrame link s) = ⟨aborted (beginFrame link s), 0, stagedCount s, []⟩ := by
    rw [runRequest_blockOp (by rw [hlen]; rfl) (Nat.zero_le _) hres hflags (by decide) hidx hsub hoff]
    have habort : abortCmd link (s.level link) (beginFrame link s) = _ := abortCmd_allowed (by rwa [stagedByOther_begin])
    simp [doBlockOp, Nat.not_lt.mpr hlevel, habort]
  have hu : (if s.mgmt.pendingFrame.isSome then (discardStaged (beginFrame link s)).setObj 0x1200 8 3 else
      discardStaged (beginFrame link s)) = aborted (beginFrame link s) := by
    rw [aborted, beginFrame_pendingFrame]
  rw [hu, aborted_mgmt]
  exact ⟨congrArg Host.Outcome.next (transact_answers hT hrun (.inl htest)), rfl, rfl, rfl, rfl, rfl⟩

end Sys2Proof.Machine

/-! PROOF. The frames of objects and records (R414, R415), frames with a bad opcode or CRC (R410, R412). -/

namespace Sys2Proof.Machine

/-! ### Requests of an object or a record -/

section
variable {link idx sub : Nat} {s : State} {r : ObjRow} (hrow : objRow idx sub = some r)
include hrow

theorem doRead_object {shadow : Bool} (hrec : r.record = false) (hacc : r.acc ≠ 2)
    (hshadow : shadow = true → r.staged = true) : doRead link idx sub r.size shadow s =
      ⟨(readObject link idx sub r shadow s).1, 0, 0, natLe r.size (readObject link idx sub r shadow s).2⟩ := by
  cases shadow with
  | false => simp [doRead, hrow, hrec, hacc]
  | true => simp [doRead, hrow, hrec, hacc, hshadow]

theorem doReadBlock_record {off len : Nat} {shadow : Bool} (hrec : r.record = true) (hin : off + len ≤ recordSize idx sub r)
    (hshadow : shadow = true → r.staged = true) : doReadBlock idx sub off len shadow s =
      ⟨(readRecord idx sub off len shadow s).1, 0, recordSize idx sub r, (readRecord idx sub off len shadow s).2⟩ := by
  cases shadow with
  | false => simp [doReadBlock, hrow, hrec, Nat.not_lt.mpr hin]
  | true => simp [doReadBlock, hrow, hrec, Nat.not_lt.mpr hin, hshadow]

theorem doWriteBlock_record {off : Nat} {bytes : List (BitVec 8)} (hrec : r.record = true)
    (hin : off + bytes.length ≤ recordSize idx sub r) : doWriteBlock link idx sub off bytes s =
      ⟨(writeRecord link idx sub off bytes r s).1, (writeRecord link idx sub off bytes r s).2, recordSize idx sub r, []⟩ := by
  simp [doWriteBlock, hrow, hrec, Nat.not_lt.mpr hin]

end

/-- The flags of a read that names the shadow of staged objects only. -/
theorem readFlags {flags : BitVec 8} {staged : Prop} (h : flags = 0 ∨ (flags = 1 ∧ staged)) :
    (flags = 0 ∨ flags = 1) ∧ ((flags == 1) = true → staged) := by
  rcases h with rfl | ⟨rfl, hstaged⟩
  · exact ⟨.inl rfl, fun hone => absurd hone (by decide)⟩
  · exact ⟨.inr rfl, fun _ => hstaged⟩

/-! ### Writes that meet no refusal -/

section
variable {hint : Bool} {link idx sub v : Nat} {r : ObjRow} {s : State} (h : writeRefusal link idx sub v r s = 0)
include h

theorem writeObject_staged (hstaged : r.staged = true) : writeObject hint link idx sub v r s = stageValue link idx sub v s := by
  simp [writeObject, h, hstaged]

theorem writeObject_immediate (hstaged : r.staged = false) : writeObject hint link idx sub v r s = writeNow hint link idx sub v s := by
  simp [writeObject, h, hstaged]

end

/-- Staging that no COMMIT holds and the other link does not own takes the value. -/
theorem stageValue_open {link idx sub v : Nat} {s : State} (hpending : s.mgmt.pendingFrame = none) (hother : stagedByOther s link = false) :
    stageValue link idx sub v s =
      (ownStaging link { s with mgmt := { s.mgmt with staged := tins s.mgmt.staged (objKey idx sub) v } }, 0) := by
  simp [stageValue, stagingClosed, hpending, hother]

/-! ### Frames with a bad opcode or CRC -/

/-- A request that reaches its link is not stopped by the window. -/
theorem takes_open {link : Fin 2} {n : Nat} {s : State} (hT : Takes link n s) :
    linkOpen link s = true ∧ ¬ (link.val = 0 ∧ s.mgmt.winStatus = 1) :=
  ⟨hT.1, fun h => hT.2.1 h.1 h.2⟩

/-- Taking a frame leaves the counters of bad frames. -/
theorem beginFrame_badFrames (link : Fin 2) (s : State) :
    (beginFrame link s).obj 0x1100 (0x12 + link) = s.obj 0x1100 (0x12 + link) := by
  have hother : ∀ (u : State) (k : Nat), k < 256 → 0x12 + link.val ≠ k →
      (u.addObj 0x1100 k 1).obj 0x1100 (0x12 + link) = u.obj 0x1100 (0x12 + link) :=
    fun u k hk hne => setObj_ne2 u _ _ _ _ _ hk (by omega) (.inr hne)
  unfold beginFrame
  dsimp only
  rw [hother _ _ (by omega) (by omega), State.setLink_at_obj]
  split
  · exact hother _ _ (by omega) (by omega)
  · rfl

section
variable {link : Fin 2} {op : Nat} {hdr : ReqHdr} {s : State} (hT : Takes link 0 s)
include hT

theorem badOpcode_undefined (hop : op = 0 ∨ 8 < op) : badOpcode link op hdr s = endFrame link op hdr ⟨beginFrame link s, 2, 0, []⟩ := by
  obtain ⟨hopen, hbusy⟩ := takes_open hT
  have hundefined : ¬ (1 ≤ op ∧ op ≤ 8) := by omega
  simp only [badOpcode, hopen, Bool.not_true, Bool.false_or, Bool.and_eq_true, decide_eq_true_eq, hundefined, hbusy, if_false]
  rfl

/-- A frame whose CRC fails is counted, and GETSTATUS will tell it on the I3C link. -/
theorem frameError_crc : ∃ u, frameError link 0 op hdr s = endFrame link op hdr ⟨u, 1, 0, []⟩ ∧
    u.obj 0x1100 (0x12 + link) = min (s.obj 0x1100 (0x12 + link) + 1) (objMax 0x1100 (0x12 + link)) := by
  obtain ⟨hopen, hbusy⟩ := takes_open hT
  simp only [frameError, hopen, Bool.not_true, Bool.false_eq_true, Bool.and_eq_true, decide_eq_true_eq, hbusy, zero_ne_one, if_false]
  refine ⟨_, rfl, ?_⟩
  have hcount : ((beginFrame link s).addObj 0x1100 (0x12 + link) 1).obj 0x1100 (0x12 + link) =
      min (s.obj 0x1100 (0x12 + link) + 1) (objMax 0x1100 (0x12 + link)) := by
    rw [State.addObj_same, beginFrame_badFrames]
  simp only [if_true, true_and]
  split <;> exact hcount

theorem frameError_tooLong : frameError link 2 op hdr s = endFrame link op hdr ⟨beginFrame link s, 8, 0, []⟩ := by
  obtain ⟨hopen, hbusy⟩ := takes_open hT
  simp only [frameError, hopen, Bool.not_true, Bool.false_eq_true, Bool.and_eq_true, decide_eq_true_eq, hbusy, if_false]
  rfl

end

/-- The target counts a frame that was ended early. -/
theorem frameError_endedEarly {op : Nat} {hdr : ReqHdr} {s : State} (hT : Takes 1 0 s) : frameError 1 1 op hdr s = s.addObj 0x1100 0x13 1 := by
  have hopen : linkOpen 1 s = true := hT.1
  simp [frameError, hopen]

/-! ### The obligation -/

/-- Settles O24: each frame reaches the operation of its opcode, whose own equation says what it answers. -/
theorem objectFrames : Obligations.ObjectFrames := by
  refine ⟨?_, ?_, ?_, ?_, ?_, ?_, ?_⟩
  · intro link hdr s r hT htest hrow hrec hacc hlen hfits hres hoff hflags
    obtain ⟨hone, hshadow⟩ := readFlags hflags
    have hrun := runRequest_read (link := link) (hint := false) (s := beginFrame link s) (hlen ▸ hfits) hres hoff hone
    rw [hlen, doRead_object hrow hrec hacc hshadow] at hrun
    exact congrArg Host.Outcome.next (transact_answers hT hrun (.inl htest))
  · intro link hdr bytes s r hT htest hrow hrec hstaged hsize hlen hfits hres hoff hflags hallowed hpending hother
    have hrun := (runRequest_objectWrite (link := link) (hint := Config.freeBit s.freeCtr) (s := beginFrame link s.tickFree)
      (hlen.trans hsize.symm) (hsize ▸ hfits) hres hflags hoff).trans (doWrite_object hrow hrec hsize)
    rw [writeObject_staged hallowed hstaged, stageValue_open (by rw [beginFrame_pendingFrame]; exact hpending)
      (by rw [stagedByOther_begin]; exact hother)] at hrun
    refine ⟨_, _, congrArg Host.Outcome.next (transact_answers hT hrun (.inl htest)), rfl, tfind_tins_same .., rfl, fun i k hk hi => ?_⟩
    exact beginFrame_at_obj link s.tickFree i k hk hi
  · intro link hdr bytes s r hT htest hrow hrec hstaged hsize hlen hfits hres hoff hflags hallowed hdone
    have hrun := (runRequest_objectWrite (link := link) (hint := Config.freeBit s.freeCtr) (s := beginFrame link s.tickFree)
      (hlen.trans hsize.symm) (hsize ▸ hfits) hres hflags hoff).trans (doWrite_object hrow hrec hsize)
    rw [writeObject_immediate hallowed hstaged, hdone] at hrun
    exact congrArg Host.Outcome.next (transact_answers hT hrun (.inl htest))
  · intro link hdr s r hT htest hrow hrec hin hfits hres hflags
    obtain ⟨hone, hshadow⟩ := readFlags hflags
    have hrun := (runRequest_readBlock (link := link) (hint := false) (s := beginFrame link s) hfits hres hone).trans
      (doReadBlock_record hrow hrec hin hshadow)
    exact congrArg Host.Outcome.next (transact_answers hT hrun (.inl htest))
  · intro link hdr bytes s r hT htest hrow hrec hlen hin hfits hres hflags hdone
    have hrun := (runRequest_writeBlock (link := link) (hint := false) (s := beginFrame link s) hlen hfits hres hflags).trans
      (doWriteBlock_record hrow hrec hin)
    rw [hdone] at hrun
    exact congrArg Host.Outcome.next (transact_answers hT hrun (.inl htest))
  · exact fun link opcode hdr s hT hop => congrArg Host.Outcome.next (badOpcode_undefined hT hop)
  · intro link op hdr s hT
    obtain ⟨u, hcrc, hcount⟩ := frameError_crc (op := op.toNat) (hdr := hdr) hT
    refine ⟨⟨_, u, congrArg Host.Outcome.next hcrc, rfl, hcount⟩, ?_, congrArg Host.Outcome.next (frameError_tooLong hT)⟩
    rintro rfl
    exact congrArg Host.Outcome.next (frameError_endedEarly hT)

end Sys2Proof.Machine

/-! PROOF. COMMIT, STORE, RESTORE and the idle timeout of staging (R422, R424, R425, R430, R431). -/

namespace Sys2Proof.Machine

/-! ### COMMIT (R424, R425) -/

/-- A COMMIT whose values validate is pending for its target. -/
theorem commitNow_valid {link target : Nat} {s : State} (h : commitReasons s (withStaged s) = 0) :
    ∃ u, commitNow link target s = (u, 0, target % 2 ^ 32) ∧ u.mgmt.pendingFrame = some target ∧ u.obj 0x1200 6 = target := by
  simp only [commitNow, h, if_true]
  exact ⟨_, rfl, rfl, State.setObj_same ..⟩

/-- One whose values fail leaves staging and says why. -/
theorem commitNow_invalid {link target : Nat} {s : State} (h : commitReasons s (withStaged s) ≠ 0) :
    (commitNow link target s).2 = (0x0C, commitReasons s (withStaged s)) ∧ (commitNow link target s).1.obj 0x1200 8 = 2 ∧
      (commitNow link target s).1.mgmt = s.mgmt := by
  simp only [commitNow, if_neg h]
  exact ⟨trivial, State.setObj_same .., by simp only [State.setObj_mgmt]⟩

section
variable {link : Nat} {s : State} (hpending : s.mgmt.pendingFrame = none) (hother : stagedByOther s link = false)
  (hrwc : stagesRwc s = false ∨ s.blk.st = .config)
include hpending hother hrwc

/-- COMMIT with no target is for the next frame. -/
theorem commitCmd_next : commitCmd link none s = commitNow link ((s.now.frame + 1) % frameMod) s := by
  have hstate : (stagesRwc s && s.blk.st != .config) = false := by
    rcases hrwc with h | h <;> simp [h]
  simp [commitCmd, hpending, hother, hstate]

/-- A target 16 to 2^20 frames ahead is taken. -/
theorem commitCmd_target {f : Nat} (hf : f < frameMod) (hfar : 16 ≤ framesAhead s f) (hnear : framesAhead s f ≤ 2 ^ 20) :
    commitCmd link (some f) s = commitNow link f s := by
  have hstate : (stagesRwc s && s.blk.st != .config) = false := by
    rcases hrwc with h | h <;> simp [h]
  simp only [commitCmd, hpending, hother, hstate, hf, hfar, hnear, Option.isSome_none, Bool.or_self, decide_true, Bool.and_self,
    Bool.false_eq_true, if_false, if_true]

end

section
variable {link : Fin 2} {bytes : List (BitVec 8)} {s : State} (hlevel : 1 ≤ s.level link) (hdrains : drains s = false)
include hlevel hdrains

theorem doBlockOp_commit (hlen : bytes.length = 0) : doBlockOp link 5 bytes s =
    ⟨(commitCmd link none s).1, (commitCmd link none s).2.1, (commitCmd link none s).2.2, []⟩ := by
  simp [doBlockOp, Nat.not_lt.mpr hlevel, hdrains, hlen]

theorem doBlockOp_commitAt (hlen : bytes.length = 8) : doBlockOp link 5 bytes s =
    ⟨(commitCmd link (some (leNat bytes)) s).1, (commitCmd link (some (leNat bytes)) s).2.1,
      (commitCmd link (some (leNat bytes)) s).2.2, []⟩ := by
  simp [doBlockOp, Nat.not_lt.mpr hlevel, hdrains, hlen]

end

/-! ### STORE and RESTORE (R430, R431) -/

theorem doBlockOp_store {link : Fin 2} {s : State} (hlevel : 2 ≤ s.level link) (hdrains : drains s = false) :
    doBlockOp link 7 [] s = ⟨(storeConfig s).1, (storeConfig s).2.1, (storeConfig s).2.2, []⟩ := by
  simp [doBlockOp, Nat.not_lt.mpr hlevel, hdrains]

theorem doBlockOp_restore {link : Fin 2} {bytes : List (BitVec 8)} {s : State} (hlevel : 2 ≤ s.level link) (hdrains : drains s = false)
    (hlen : bytes.length = 1) (hsource : leNat bytes ≤ 1) : doBlockOp link 8 bytes s =
      ⟨(restoreConfig link (leNat bytes) s).1, (restoreConfig link (leNat bytes) s).2.1,
        (restoreConfig link (leNat bytes) s).2.2, []⟩ := by
  simp [doBlockOp, Nat.not_lt.mpr hlevel, Nat.not_lt.mpr hsource, hdrains, hlen]

/-- A configuration that fits is stored: the copy is written to MRAM alone, and its entries are reported. -/
theorem storeConfig_fits {s : State} {items : List (Nat × Nat × ObjRow)}
    (hitems : items = persistentObjects.filter (fun o => s.obj o.1 o.2.1 != objDefault o.1 o.2.1))
    (hfits : (items.flatMap (fun o => entryBytes o.1 o.2.1 o.2.2.size (s.obj o.1 o.2.1))).length ≤ 6880) :
    ∃ u, storeConfig s = (u, 0, items.length) ∧ u.obj 0x1200 0x10 = 1 ∧ u.obj 0x1200 0x12 = items.length ∧ u.dram = s.dram ∧
      u.recs = s.recs ∧ u.blk = s.blk := by
  simp only [storeConfig, ← hitems, if_neg (Nat.not_lt.mpr hfits)]
  refine ⟨_, rfl, ?_, State.setObj_same .., rfl, rfl, rfl⟩
  rw [setObj_ne2 _ _ _ _ _ _ (by decide) (by decide) (.inr (by decide)),
    setObj_ne2 _ _ _ _ _ _ (by decide) (by decide) (.inr (by decide)), State.setObj_same]

/-! ### The idle timeout (R422) -/

theorem stagingIdle_owned {s : State} (howner : s.mgmt.owner ≠ 0) (hpending : s.mgmt.pendingFrame = none) :
    stagingIdle s = (discardStaged s).addObj 0x1200 0x0B 1 := by
  simp [stagingIdle, howner, hpending]

/-! ### The obligation -/

/-- Settles O25: each command reaches its operation, whose equation or effect is said by the lemma of its case. -/
theorem configurationCommands : Obligations.ConfigurationCommands := by
  refine ⟨?_, ?_, ?_, ?_, ?_, ?_⟩
  · intro link hdr s hT htest hidx hsub hoff hres hflags hlen hlevel hdrains hpending hother hrwc hvalid
    obtain ⟨u, hcommit, hframe, hobj⟩ := commitNow_valid (link := link) (target := (s.now.frame + 1) % frameMod) hvalid
    have hnext := commitCmd_next (link := link) (s := beginFrame link s) (by rwa [beginFrame_pendingFrame])
      (by rwa [stagedByOther_begin]) (by rwa [stagesRwc_begin, beginFrame_blk])
    rw [beginFrame_at_now, hcommit] at hnext
    have hrun := runRequest_blockOp (link := link) (hint := false) (s := beginFrame link s) (bytes := [])
      (by rw [hlen]; rfl) (Nat.zero_le _) hres hflags (op := 5) (by decide) hidx hsub hoff
    rw [doBlockOp_commit (by rwa [beginFrame_level]) (by rwa [drains_begin]) rfl, hnext] at hrun
    exact ⟨_, u, congrArg Host.Outcome.next (transact_answers hT hrun (.inl htest)), rfl, hframe, hobj⟩
  · intro link hdr bytes s hT htest hidx hsub hoff hres hflags hlen height hlevel hdrains hpending hother hrwc hf hfar hnear hvalid
    obtain ⟨u, hcommit, hframe, hobj⟩ := commitNow_valid (link := link) (target := leNat bytes) hvalid
    have htarget := commitCmd_target (link := link) (s := beginFrame link s) (by rwa [beginFrame_pendingFrame])
      (by rwa [stagedByOther_begin]) (by rwa [stagesRwc_begin, beginFrame_blk]) hf (by rwa [framesAhead_begin])
      (by rwa [framesAhead_begin])
    rw [hcommit] at htarget
    have hrun := runRequest_blockOp (link := link) (hint := false) (s := beginFrame link s) (bytes := bytes)
      (by rw [hlen, height]; rfl) (by rw [height]; unfold linkData; split <;> decide) hres hflags (op := 5) (by decide) hidx hsub hoff
    rw [doBlockOp_commitAt (by rwa [beginFrame_level]) (by rwa [drains_begin]) height, htarget] at hrun
    exact ⟨_, u, congrArg Host.Outcome.next (transact_answers hT hrun (.inl htest)), rfl, hframe, hobj⟩
  · intro link s hpending hother hrwc hinvalid
    rw [commitCmd_next hpending hother hrwc]
    exact commitNow_invalid hinvalid
  · intro link hdr s items hT htest hidx hsub hoff hres hflags hlen hlevel hdrains hitems hfits
    obtain ⟨u, hstore, hstatus, hcount, hdram, hrecs, -⟩ := storeConfig_fits hitems hfits
    have hrun := runRequest_blockOp (link := link) (hint := false) (s := beginFrame link s) (bytes := [])
      (by rw [hlen]; rfl) (Nat.zero_le _) hres hflags (op := 7) (by decide) hidx hsub hoff
    rw [doBlockOp_store (by rwa [beginFrame_level]) (by rwa [drains_begin]), hstore] at hrun
    exact ⟨_, u, congrArg Host.Outcome.next (transact_answers hT hrun (.inl htest)), rfl, hstatus, hcount,
      hdram.trans (beginFrame_dram ..), hrecs.trans (beginFrame_recs ..)⟩
  · intro link hdr bytes s hT htest hidx hsub hoff hres hflags hlen hone hsource hlevel hdrains hdone
    have hrun := runRequest_blockOp (link := link) (hint := false) (s := beginFrame link s) (bytes := bytes)
      (by rw [hlen, hone]; rfl) (by rw [hone]; unfold linkData; split <;> decide) hres hflags (op := 8) (by decide) hidx hsub hoff
    rw [doBlockOp_restore (by rwa [beginFrame_level]) (by rwa [drains_begin]) hone hsource, hdone] at hrun
    exact congrArg Host.Outcome.next (transact_answers hT hrun (.inl htest))
  · intro s howner hpending
    exact ⟨_, congrArg Host.Outcome.next (stagingIdle_owned howner hpending), rfl, rfl, rfl, State.addObj_same ..⟩

end Sys2Proof.Machine

/-! PROOF. The I3C target: addresses, lengths, interrupts, GET commands and reads (R384, R406-R410). -/

namespace Sys2Proof.Machine

section
variable {s : State}

/-! ### Addresses, the event enable and the lengths (R407, R408) -/

theorem entdaa_unaddressed (addr : Nat) (twin : Bool) (hlive : mgmtLive s = true) (hfree : dynAddress s = 0) : entdaa addr twin s =
    if twin then (s.setObj 0x1100 1 (Config.freeNat s.freeCtr % 128)).tickFree else s.setObj 0x1100 1 addr := by
  simp [entdaa, hlive, hfree]

theorem setEnec_honoured (on : Bool) {bits : BitVec 8} (hlive : mgmtLive s = true) (hbit : bit bits.toNat 0 = true) :
    setEnec on bits s = s.setObj 0x1100 2 (boolNat on) := by
  simp [setEnec, hlive, hbit]

theorem setLength_taken (sub : Nat) {v : Nat} (haddr : addressed s = true) (hleast : 18 ≤ v) (hmost : v ≤ 1042) :
    setLength sub v s = s.setObj 0x1100 sub v := by
  simp [setLength, haddr, hleast, hmost]

/-- A command that the target takes at its address. -/
theorem next_addressed (haddr : addressed s = true) (t : State) :
    (Host.Outcome.next (if addressed s then t else s) : Out) = .next t := by
  rw [if_pos haddr]

/-- A command that a live target takes. -/
theorem next_live (hlive : mgmtLive s = true) (t : State) : (Host.Outcome.next (if mgmtLive s then t else s) : Out) = .next t := by
  rw [if_pos hlive]

/-! ### Interrupts (R384, R409) -/

/-- The waiting request of the least source number goes out with its severity. -/
theorem ibiSent_first {n : Nat} {rest : List Nat} (haddr : addressed s = true) (henabled : s.obj 0x1100 2 = 1)
    (hlive : s.ev.ibi.filter (fun n => s.obj (evIdx n) 5 == 1) = n :: rest) : ibiSent s =
      { s with ev := { s.ev with ibi := rest, lastIbi :=
        [BitVec.ofNat 8 (0xD0 + max (s.obj (evIdx n) 2) (if s.ev.fatal.contains n then 3 else 0)), BitVec.ofNat 8 (n / 256),
          BitVec.ofNat 8 n] } } := by
  simp [ibiSent, haddr, henabled, hlive]

/-! ### GETSTATUS and the reads of responses (R408, R410) -/

theorem getStatus_addressed (haddr : addressed s = true) : getStatus s = { s with mgmt := { s.mgmt with
    cccOut := (natLe 2 (min 15 s.ev.ibi.length + (if s.mgmt.crcSeen then 32 else 0))).reverse, crcSeen := false } } := by
  simp [getStatus, haddr, ccc]

/-- A read sends the held response, which stays held and is read. -/
theorem privateRead_held {f : RspFrame} (haddr : addressed s = true) (hheld : (s.link 1).held = some f) :
    (privateRead s).mgmt.i3cOut = (if s.mgmt.hdrMode && f.bytes.length % 2 = 1 then f.bytes ++ [0] else f.bytes) ∧
      (privateRead s).link 1 = { s.link 1 with unread := false } := by
  have hread : privateRead s = { s.setLink 1 { s.link 1 with unread := false } with
      mgmt := { (s.setLink 1 { s.link 1 with unread := false }).mgmt with
        i3cOut := if s.mgmt.hdrMode && f.bytes.length % 2 = 1 then f.bytes ++ [0] else f.bytes } } := by
    simp only [privateRead, haddr, hheld, Bool.not_true, Bool.false_eq_true, if_false]
  rw [hread]
  exact ⟨rfl, State.setLink_same ..⟩

end

/-! ### The obligations -/

/-- Settles O26: each command by the equation of the case in which the target takes it. -/
theorem busAddressing : Obligations.BusAddressing := by
  refine ⟨?_, ?_, ?_, ?_, ?_, ?_, ?_, ?_, ?_⟩
  · exact fun addr s hlive hfree => congrArg Host.Outcome.next (entdaa_unaddressed _ false hlive hfree)
  · exact fun addr s hlive hfree => congrArg Host.Outcome.next (entdaa_unaddressed _ true hlive hfree)
  · exact fun s hlive => next_live hlive _
  · exact fun addr s haddr => next_addressed haddr _
  · exact fun bits s hlive hbit => congrArg Host.Outcome.next (setEnec_honoured true hlive hbit)
  · exact fun bits s hlive hbit => congrArg Host.Outcome.next (setEnec_honoured false hlive hbit)
  · exact fun len s haddr hleast hmost => congrArg Host.Outcome.next (setLength_taken 3 haddr hleast hmost)
  · exact fun len s haddr hleast hmost => congrArg Host.Outcome.next (setLength_taken 4 haddr hleast hmost)
  · exact fun s n rest haddr henabled hlive => congrArg Host.Outcome.next (ibiSent_first haddr henabled hlive)

/-- Settles O27: a GET command that the target takes answers its bytes; a read by `privateRead_held`. -/
theorem busReads : Obligations.BusReads := by
  refine ⟨?_, ?_, ?_, ?_, ?_, ?_, ?_, ?_, ?_, ?_⟩
  · exact fun s haddr => next_addressed haddr _
  · exact fun s haddr => next_addressed haddr _
  · exact fun s haddr => next_addressed haddr _
  · exact fun s haddr => next_addressed haddr _
  · exact fun s haddr => next_addressed haddr _
  · exact fun s haddr => next_addressed haddr _
  · exact fun s haddr => congrArg Host.Outcome.next (getStatus_addressed haddr)
  · exact fun s hlive => next_live hlive _
  · exact fun s => rfl
  · intro s f haddr hheld
    obtain ⟨hout, hlink⟩ := privateRead_held haddr hheld
    exact ⟨_, rfl, hout, by rw [hlink], by rw [hlink]; exact hheld⟩

end Sys2Proof.Machine

/-! PROOF. The in-band window (R411, R412) and the boundary scan (R461, R462). -/

namespace Sys2Proof.Machine

section
variable {s : State} (hlive : mgmtLive s = true)
include hlive

theorem doorbell_busy (v : Nat) (hbusy : s.mgmt.winStatus = 1) : doorbell v s = s.addObj 0x1100 0x18 1 := by
  simp [doorbell, hlive, hbusy]

theorem doorbell_submits (hidle : s.mgmt.winStatus ≠ 1) : doorbell 1 s = { s with mgmt := { s.mgmt with winStatus := 1 } } := by
  simp [doorbell, hlive, hidle]

/-- An aligned write beyond the registers lands in the buffer. -/
theorem windowWrite_buffer {o : Nat} {bytes : List Byte} (hidle : s.mgmt.winStatus ≠ 1) (hsize : bytes.length = 4 ∨ bytes.length = 8)
    (halign : o % bytes.length = 0) (ho : 0x40 ≤ o) : windowWrite o bytes s =
      { s with mgmt := { s.mgmt with winBuf := sbN s.mgmt.winBuf (o - 0x40) bytes, winStatus := 0 } } := by
  have hsize' : (bytes.length == 4 || bytes.length == 8) = true := by simpa using hsize
  have hregs : ¬ o < 8 := by omega
  have hreserved : ¬ o < 0x40 := by omega
  have hlength : o ≠ 8 := by omega
  simp [windowWrite, hlive, hidle, hsize', halign, hregs, hreserved, hlength]

theorem windowWrite_length {bytes : List Byte} (hidle : s.mgmt.winStatus ≠ 1) (hsize : bytes.length = 4) :
    windowWrite 8 bytes s = { s with mgmt := { s.mgmt with winLength := leNat bytes } } := by
  have hall : bytes.take 4 = bytes := List.take_of_length_le (by omega)
  simp [windowWrite, hlive, hidle, hsize, hall]

end

/-- Without management in service, or at another value in a window that is not Busy, the doorbell is ignored. -/
theorem doorbell_ignored {v : Nat} {s : State} (h : mgmtLive s = false ∨ (s.mgmt.winStatus ≠ 1 ∧ v ≠ 1)) : doorbell v s = s := by
  rcases h with hdead | ⟨hidle, hv⟩
  · simp [doorbell, hdead]
  · simp [doorbell, hidle, hv]

theorem extest_inTest {drives : Bool} {s : State} (h : s.blk.st = .test) :
    extest drives s = { s with blk := { s.blk with scan := 2, dramTest := s.blk.dramTest || drives } } := by
  simp [extest, h]

theorem extest_blocked {drives : Bool} {s : State} (h : s.blk.st ≠ .test) :
    extest drives s = { s with blk := { s.blk with scan := 2 } }.setObj 0xB000 8 1 := by
  simp [extest, h]

/-- Settles O28: the doorbell and the window's writes by their cases; BYPASS and SAMPLE_PRELOAD are unconditional. -/
theorem windowAndScan : Obligations.WindowAndScan := by
  refine ⟨?_, ?_, ?_, ?_, ?_, fun _ => rfl, fun _ => rfl, ?_⟩
  · intro value s hlive hidle hv
    exact congrArg Host.Outcome.next (by rw [hv]; exact doorbell_submits hlive hidle)
  · exact fun value s hlive hbusy => congrArg Host.Outcome.next (doorbell_busy hlive _ hbusy)
  · exact fun value s h => congrArg Host.Outcome.next (doorbell_ignored h)
  · exact fun offset bytes s hlive hidle hsize halign ho =>
      congrArg Host.Outcome.next (windowWrite_buffer hlive hidle hsize halign ho)
  · exact fun bytes s hlive hidle hsize => congrArg Host.Outcome.next (windowWrite_length hlive hidle hsize)
  · exact fun d s => ⟨fun h => congrArg Host.Outcome.next (extest_inTest h), fun h => congrArg Host.Outcome.next (extest_blocked h)⟩

end Sys2Proof.Machine

/-! PROOF. The start state (R436, R441, R453). -/

namespace Sys2Proof.Machine

/-! ### The objects of the event sources (R380) -/

/-- EventPending's row. -/
def eventPendingRow : ObjRow := ⟨"EventPending", 0x05, 0x05, 7, 1, 0, 1, 0, 1, .oneOf [0]⟩

theorem pageOf_source {n : Nat} (h : n < 512) : pageOf (evIdx n) = (0x8000, n) := by
  simp (disch := omega) only [pageOf, evIdx, if_neg, if_pos, Nat.add_sub_cancel_left]

/-- Every source that is not reserved has an EventPending. -/
theorem objRow_eventPending {n : Nat} (h : n < 512) :
    objRow (evIdx n) 5 = if reservedSource n then none else some eventPendingRow := by
  simp only [objRow, pageOf_source h]
  cases hr : reservedSource n
  · simp only [unitHas, hr]
    rfl
  · simp only [unitHas, hr]
    rfl

theorem objDefault_eventPending {n : Nat} (h : n < 512) : objDefault (evIdx n) 5 = 0 := by
  simp only [objDefault, pageOf_source h, objRow_eventPending h]
  cases reservedSource n <;> rfl

/-! ### The obligation -/

/-- Settles O2: the start state is written out field by field; an object reads its default, and a byte store that lists nothing
is canonical. -/
theorem resetState : Obligations.ResetState := by
  refine ⟨⟨rfl, rfl, rfl, rfl, rfl, rfl, rfl, rfl, rfl, rfl, rfl, rfl, ?_, fun _ => rfl, fun _ => rfl, ?_⟩, rfl, rfl, rfl, rfl⟩
  · exact fun d => ⟨rfl, by revert d; decide⟩
  · exact fun x => objDefault_eventPending x.isLt

end Sys2Proof.Machine

/-! PROOF. The writes of a channel's training and calibration objects and of its erased devices (R231, R304, R310, R322, R325). -/

namespace Sys2Proof.Machine

/-! ### Writes whose object's own rule is a hook of its page -/

section
variable {link : Fin 2} {tag : BitVec 8} {idx sub v lvl page unit : Nat} {hint : Bool} {r : ObjRow} {s u : State}
  (hrow : objRow idx sub = some r) (hplain : plainRow idx sub v r = true) (hlevel : levelOf idx sub v r = lvl)
  (hC : CanWrite link r.size lvl s) (hpage : pageOf idx = (page, unit)) (hpair : page ∉ [0x3011, 0x7001, 0x1220]) (hidx : 0x2F00 < idx)
  (hst : ¬ (s.blk.st = .test ∧ u.blk.st = .resetPhase))
include hrow hplain hlevel hC hpage hpair hidx hst

/-- A write that a channel page's operation accepts. -/
theorem writeOf_channelHook (hhook : channelHook hint page unit sub v (beginFrame link s) = some (u, 0)) :
    Written link tag idx sub r.size u (writeOf link tag idx sub v hint s) := by
  simp only [List.mem_cons, List.not_mem_nil, or_false, not_or] at hpair
  obtain ⟨h3011, h7001, h1220⟩ := hpair
  refine writeOf_now link tag idx sub v lvl hint s u r hrow hplain hlevel hC ?_ hst
  rw [writeNow_hooks link hint idx sub v page unit _ hpage h3011 h7001 h1220 hidx, hhook]

/-- A write that the operation of another unit's page accepts. -/
theorem writeOf_unitHook (hnone : channelHook hint page unit sub v (beginFrame link s) = none)
    (hhook : unitHook link page unit idx sub v (beginFrame link s) = some (u, 0)) :
    Written link tag idx sub r.size u (writeOf link tag idx sub v hint s) := by
  simp only [List.mem_cons, List.not_mem_nil, or_false, not_or] at hpair
  obtain ⟨h3011, h7001, h1220⟩ := hpair
  refine writeOf_now link tag idx sub v lvl hint s u r hrow hplain hlevel hC ?_ hst
  rw [writeNow_hooks link hint idx sub v page unit _ hpage h3011 h7001 h1220 hidx, hnone, hhook]

end

/-! ### The rows of the objects -/

/-- The index of a channel page names the page and the channel (R433). -/
theorem pageOf_chIdx {page c : Nat} (hlo : 0x3000 ≤ page) (hhi : page < 0x3100) (hc : c < 16) : pageOf (chIdx page c) = (page, c) := by
  have hmod : (page + 256 * c) % 256 = page - 0x3000 := by omega
  have hdiv : (page + 256 * c - 0x3000) / 256 = c := by omega
  simp (disch := omega) only [pageOf, chIdx, if_neg, if_pos, hmod, hdiv, Nat.add_sub_cancel' hlo]

/-- The objects of the calibration page whose write is an operation. -/
def calOpRow (sub : Nat) : ObjRow :=
  if sub = 6 then ⟨"TrainRequest", 0x06, 0x06, 7, 2, 0, 1, 0, 1, .span 0 1⟩
  else if sub = 7 then ⟨"TrainingDone", 0x07, 0x07, 7, 2, 0, 1, 0, 1, .span 0 1⟩
  else if sub = 0x1A then ⟨"CalRunRequest", 0x1A, 0x1A, 7, 2, 0, 1, 0, 1, .span 0 1⟩
  else ⟨"EyeScanRequest", 0x1C, 0x1C, 1, 2, 0, 1, 0, 1, .span 1 10⟩

theorem calOpRow_plain : ∀ c : Fin 16, ∀ sub ∈ [6, 7, 0x1A, 0x1C], objRow (calIdx c) sub = some (calOpRow sub) ∧
    plainRow (calIdx c) sub 1 (calOpRow sub) = true ∧ levelOf (calIdx c) sub 1 (calOpRow sub) = 1 := by
  decide

theorem eyeScanRow_plain : ∀ c : Fin 16, ∀ v ∈ List.range' 1 10,
    plainRow (calIdx c) 0x1C v (calOpRow 0x1C) = true ∧ levelOf (calIdx c) 0x1C v (calOpRow 0x1C) = 1 := by
  decide

/-- ErasedDevice's row. -/
def erasedRow : ObjRow := ⟨"ErasedDevice", 0x10, 0x1F, 8, 1, 0, 1, 255, 1, .oneOf [0, 1, 2, 3, 4, 5, 6, 7, 8, 9, 255]⟩

theorem erasedRow_found : ∀ entry : Fin 16,
    page3001.find? (fun r => decide (r.lo ≤ 0x10 + entry.val) && decide (0x10 + entry.val ≤ r.hi)) = some erasedRow := by
  decide

/-- A device number or 255 is written to ErasedDevice. -/
theorem erasedRow_plain (c entry : Fin 16) {v : Nat} (hv : v ≤ 9 ∨ v = 255) :
    objRow (chIdx 0x3001 c) (0x10 + entry) = some erasedRow ∧ plainRow (chIdx 0x3001 c) (0x10 + entry) v erasedRow = true ∧
      levelOf (chIdx 0x3001 c) (0x10 + entry) v erasedRow = 1 := by
  have hpage : pageOf (chIdx 0x3001 c) = (0x3001, c.val) := pageOf_chIdx (by decide) (by decide) c.isLt
  have hc := c.isLt
  have hentry := entry.isLt
  have hidx : chIdx 0x3001 c = 0x3001 + 256 * c.val := rfl
  have hrng : v ∈ [0, 1, 2, 3, 4, 5, 6, 7, 8, 9, 255] := by
    simp only [List.mem_cons, List.not_mem_nil, or_false]
    omega
  refine ⟨?_, ?_, ?_⟩
  · simp only [objRow, hpage]
    exact erasedRow_found entry
  · have hfixed : fixedObject (chIdx 0x3001 c) (0x10 + entry) = false := by
      simp only [fixedObject, hidx, Bool.or_eq_false_iff, Bool.and_eq_false_iff, decide_eq_false_iff_not]
      omega
    have hacc : accessOf (chIdx 0x3001 c) (0x10 + entry) erasedRow = 1 := by
      simp [accessOf, hfixed, erasedRow]
    have hvalue : valueOk (chIdx 0x3001 c) (0x10 + entry) v erasedRow = true := by
      have hbyte : v < 256 := by omega
      simp only [valueOk, hpage]
      simp [erasedRow, ObjRow.typeOk, Rng.has, isSelect, hrng, hbyte]
    have hsmall : chIdx 0x3001 c < 0x10000 ∧ chIdx 0x3001 c ≠ 0x1100 := by omega
    simp only [plainRow, hacc, hvalue, hpage]
    simp [erasedRow, ObjRow.record, ObjRow.staged, hsmall]
    omega
  · have hne : chIdx 0x3001 c ≠ 0x1200 := by omega
    simp [levelOf, hne, erasedRow]

/-! ### The writes -/

section
variable {link : Fin 2} {tag : BitVec 8} {c : Fin 16} {s u : State} (hC : CanWrite link 1 1 s)
  (hst : ¬ (s.blk.st = .test ∧ u.blk.st = .resetPhase))
include hC hst

/-- A write of an operation of the calibration page that its rule accepts. -/
theorem writeOf_calOp {sub v : Nat} {hint : Bool} (hsub : sub ∈ [6, 7, 0x1A, 0x1C])
    (hplain : plainRow (calIdx c) sub v (calOpRow sub) = true ∧ levelOf (calIdx c) sub v (calOpRow sub) = 1)
    (hrule : channelHook hint 0x3040 c sub v (beginFrame link s) = some (u, 0)) :
    Written link tag (calIdx c) sub 1 u (writeOf link tag (calIdx c) sub v hint s) := by
  have hsize : (calOpRow sub).size = 1 := by
    unfold calOpRow
    split_ifs <;> rfl
  have hwritten := writeOf_channelHook (tag := tag) (calOpRow_plain c sub hsub).1 hplain.1 hplain.2 (by rwa [hsize])
    (pageOf_chIdx (by decide) (by decide) c.isLt) (by decide) (by rw [calIdx, chIdx]; omega) hst hrule
  rwa [hsize] at hwritten

/-- A write of 1 to one of them. -/
theorem writeOf_calOp_one {sub : Nat} {hint : Bool} (hsub : sub ∈ [6, 7, 0x1A, 0x1C])
    (hrule : channelHook hint 0x3040 c sub 1 (beginFrame link s) = some (u, 0)) :
    Written link tag (calIdx c) sub 1 u (writeOf link tag (calIdx c) sub 1 hint s) :=
  writeOf_calOp hC hst hsub (calOpRow_plain c sub hsub).2 hrule

end

theorem writeOf_erasedDevice {link : Fin 2} {tag : BitVec 8} {c entry : Fin 16} {v : Nat} {s : State} (hC : CanWrite link 1 1 s)
    (hv : v ≤ 9 ∨ v = 255) : Written link tag (chIdx 0x3001 c) (0x10 + entry) 1 (eraseWrite c entry v (beginFrame link s))
      (writeOf link tag (chIdx 0x3001 c) (0x10 + entry) v false s) := by
  obtain ⟨hrow, hplain, hlevel⟩ := erasedRow_plain c entry hv
  have hhook : channelHook false 0x3001 c (0x10 + entry) v (beginFrame link s) = some (eraseWrite c entry v (beginFrame link s), 0) := by
    simp [channelHook]
  exact writeOf_channelHook hrow hplain hlevel hC (pageOf_chIdx (by decide) (by decide) c.isLt) (by decide)
    (by rw [chIdx]; omega) (noReset (((eraseWrite_keeps ..).blk (by decide)).trans (beginFrame_blk link s))) hhook

/-! ### What the rules do -/

section
variable {c : Nat} {s : State}

theorem trainRequest_untrained (hst : (s.chan c).st = .untrained ∨ (s.chan c).st = .fenced) (hranks : rankSlots s c ≠ []) :
    trainRequest c 1 s = (startTraining c false false s, 0) := by
  have hempty : (rankSlots s c).isEmpty = false := by simpa using hranks
  rcases hst with hst | hst <;> simp [trainRequest, hst, hempty]

/-- What FirmwareTrainingDone takes from the firmware: its trims, with no drift measured yet. -/
def firmwareTrims (c : Nat) (s : State) : State := newBase c (s.setRec (calIdx c) 0x20 0 (s.recN (calIdx c) 0x21 0 1040))

section
variable (hst : (s.chan c).st = .training) (hfirmware : s.obj (calIdx c) 1 = 1)
include hst hfirmware

/-- Trims that fail the check end the training with result 2. -/
theorem trainingDone_failed : trainingDone c 1 false s = ((firmwareTrims c s).setObj (calIdx c) 4 2, 0) := by
  simp [trainingDone, hst, hfirmware, firmwareTrims]

/-- Trims that pass it are stored, with result 1. -/
theorem trainingDone_verified : ∃ u, trainingDone c 1 true s = (u, 0) ∧ (u.chan c).verified = some true ∧ u.obj (calIdx c) 4 = 1 ∧
    u.obj (calIdx c) 5 = 0 := by
  simp only [trainingDone, hst, hfirmware, one_ne_zero, bne_self_eq_false, Bool.or_self, Bool.not_true, Bool.false_eq_true, if_false]
  refine ⟨_, rfl, ?_, ?_, ?_⟩
  · rw [chan_congr ((storeTrained_keeps ..).chans (by decide)), State.modChan_same]
  · rw [obj_of_objs _ _ _ _ ((storeTrained_keeps ..).objs (by decide)), State.modChan_at_obj,
      setObj_ne2 _ _ _ _ _ _ (by decide) (by decide) (.inr (by decide)), State.setObj_same]
  · rw [obj_of_objs _ _ _ _ ((storeTrained_keeps ..).objs (by decide)), State.modChan_at_obj, State.setObj_same]

end

/-- A free resource is claimed. -/
theorem claim_free {sub holder : Nat} {s : State} (h : s.obj 0x2F00 sub = 0) : claim sub holder s = (s.setObj 0x2F00 sub holder, true) :=
  if_pos h

theorem eyeScanRequest_free {v : Nat} (h : s.obj 0x2F00 (laneSub c (v - 1)) = 0) :
    eyeScanRequest c v s = (s.setObj 0x2F00 (laneSub c (v - 1)) 9, 0) := by
  simp [eyeScanRequest, claim_free h]

/-- The erasure list reads back what was written: a device number, or none for 255. -/
theorem eraseWrite_erasedDevice {entry v : Nat} (hv : v ≤ 9 ∨ v = 255) :
    (eraseWrite c entry v s).erasedDevice c (entry / 8) (entry % 8) = if v = 255 then none else some v := by
  simp only [eraseWrite, State.erasedDevice, setErased, ld_sb, if_true]
  rcases hv with hv | rfl
  · have hne : v ≠ 255 := by omega
    have hbyte : (160 + v) % 256 = 160 + v := Nat.mod_eq_of_lt (by omega)
    simp [hne, hbyte]
    omega
  · rfl

end

/-! ### The obligation -/

/-- Settles O16: each command is the write of an operation of its page (`writeOf_calOp`, `writeOf_erasedDevice`), whose rule is
said by the equation of its case. -/
theorem trainingCommands : Obligations.TrainingCommands := by
  refine ⟨?_, ?_, ?_, ?_, ?_, ?_⟩
  · intro link tag c s hC hst hranks
    rw [← beginFrame_at_chan link] at hst
    rw [← rankSlots_begin link] at hranks
    exact ⟨_, rfl, writeOf_calOp_one hC (noReset (((startTraining_keeps ..).blk (by decide)).trans (beginFrame_blk link s)))
      (by decide) (congrArg some (trainRequest_untrained hst hranks))⟩
  · intro link tag c s hC
    exact ⟨_, rfl, writeOf_calOp_one hC (noReset (((startRun_keeps ..).blk (by decide)).trans (beginFrame_blk link s)))
      (by decide) rfl⟩
  · intro link tag c s hC hst hfirmware
    rw [← beginFrame_at_chan link] at hst
    rw [← beginFrame_at_obj link s (calIdx c) 1 (by decide) (by rw [calIdx, chIdx]; omega)] at hfirmware
    obtain ⟨u, hdone, hverified, hresult, hstep⟩ := trainingDone_verified hst hfirmware
    have hk := trainingDone_keeps c 1 true (beginFrame link s)
    rw [hdone] at hk
    exact ⟨_, u, rfl, writeOf_calOp_one hC (noReset ((hk.blk (by decide)).trans (beginFrame_blk link s))) (by decide)
      (congrArg some hdone), hk.frame_of_coversRest rfl, hverified, hresult, hstep⟩
  · intro link tag c s hC hst hfirmware
    rw [← beginFrame_at_chan link] at hst
    rw [← beginFrame_at_obj link s (calIdx c) 1 (by decide) (by rw [calIdx, chIdx]; omega)] at hfirmware
    have hdone := trainingDone_failed hst hfirmware
    rw [firmwareTrims, beginFrame_at_recN] at hdone
    have hk := trainingDone_keeps c 1 false (beginFrame link s)
    rw [hdone] at hk
    exact ⟨_, rfl, writeOf_calOp_one hC (noReset ((hk.blk (by decide)).trans (beginFrame_blk link s))) (by decide)
      (congrArg some hdone)⟩
  · intro link tag c value s hC hlo hhi hfree
    have hsub : laneSub c (value.toNat - 1) < 256 := by rw [laneSub]; omega
    rw [← beginFrame_at_obj link s 0x2F00 _ hsub (by decide)] at hfree
    have hdone := eyeScanRequest_free (s := beginFrame link s) hfree
    have hk := eyeScanRequest_keeps c value.toNat (beginFrame link s)
    rw [hdone] at hk
    exact ⟨_, rfl, writeOf_calOp hC (noReset ((hk.blk (by decide)).trans (beginFrame_blk link s))) (by decide)
      (eyeScanRow_plain c _ (by rw [List.mem_range'_1]; omega)) (congrArg some hdone)⟩
  · intro link tag c entry value s hC hvalue
    exact ⟨_, _, rfl, writeOf_erasedDevice hC hvalue, (eraseWrite_keeps ..).frame_of_coversRest rfl, eraseWrite_erasedDevice hvalue⟩

end Sys2Proof.Machine

/-! PROOF. The writes of HelperOp (R312, R313). -/

namespace Sys2Proof.Machine

/-- HelperOp's row. -/
def helperOpRow : ObjRow := ⟨"HelperOp", 0x01, 0x01, 8, 2, 0, 1, 0, 1, .span 1 9⟩

theorem helperOpRow_plain : ∀ c : Fin 16, ∀ op ∈ List.range' 1 9, objRow (0xA000 + c) 1 = some helperOpRow ∧
    plainRow (0xA000 + c) 1 op helperOpRow = true ∧ levelOf (0xA000 + c) 1 op helperOpRow = 1 ∧
    pageOf (0xA000 + c) = (0xA000, c.val) := by
  decide

/-- A write of HelperOp is answered Ok where its rule accepts it. -/
theorem writeOf_helperOp {link : Fin 2} {tag : BitVec 8} {c : Fin 16} {op : Nat} {owned : Bool} {s u : State} (hC : CanWrite link 1 1 s)
    (hop : op ∈ List.range' 1 9) (hrule : helperStart c op owned (beginFrame link s) = (u, 0)) :
    Written link tag (0xA000 + c) 1 1 u (writeOf link tag (0xA000 + c) 1 op owned s) := by
  obtain ⟨hrow, hplain, hlevel, hpage⟩ := helperOpRow_plain c op hop
  have hk := helperStart_keeps c op owned (beginFrame link s)
  rw [hrule] at hk
  exact writeOf_channelHook hrow hplain hlevel hC hpage (by decide) (by omega)
    (noReset ((hk.blk (by decide)).trans (beginFrame_blk link s))) (congrArg some hrule)

/-! ### What the rule does -/

/-- A frame goes on over an operation that keeps every other part. -/
theorem Frame.step {M : Nat} {l : List Part} {s t u : State} (h : Frame l s t) (hk : Keeps M t u) (hc : coversRest M l = true) :
    Frame l s u :=
  h.trans (hk.frame_of_coversRest hc)

/-- The resource is held for the holder where the operation needs it. -/
def claimIf (needed : Bool) (sub holder : Nat) (s : State) : State := if needed then s.setObj 0x2F00 sub holder else s

theorem claimIf_free {needed : Bool} {sub holder : Nat} {s : State} (h : needed = true → s.obj 0x2F00 sub = 0) :
    (if needed then claim sub holder s else (s, true)) = (claimIf needed sub holder s, true) := by
  cases needed with
  | false => rfl
  | true => exact claim_free (h rfl)

theorem claimIf_obj {needed : Bool} {sub holder i k : Nat} {s : State} (hsub : sub < 256) (hk : k < 256) (hne : i ≠ 0x2F00 ∨ k ≠ sub) :
    (claimIf needed sub holder s).obj i k = s.obj i k := by
  cases needed with
  | false => rfl
  | true => exact setObj_ne2 _ _ _ _ _ _ hsub hk hne

theorem claimIf_keeps (needed : Bool) (sub holder : Nat) (s : State) : Keeps 8053063679 s (claimIf needed sub holder s) :=
  Keeps.ite (State.setObj_keeps ..) (Keeps.refl s)

theorem claimIf_held {sub holder : Nat} {s : State} : (claimIf true sub holder s).obj 0x2F00 sub = holder := State.setObj_same ..

section
variable {c : Fin 16} {op : Nat} {owned : Bool} {s : State}

/-- Writes of fields the D16 owns are refused, and nothing starts. -/
theorem helperStart_owned (hnone : (s.chan c).helper = none) (hop : op = 2 ∨ op = 3 ∨ op = 4) :
    helperStart c op true s = (s.setObj (0xA000 + c) 2 3, 0) := by
  rcases hop with rfl | rfl | rfl <;> simp [helperStart, hnone]

/-- An operation that may start runs on the channel, with the stores it needs. -/
theorem helperStart_allowed (hnone : (s.chan c).helper = none) (hallowed : helperAllowed s c op = true)
    (hpattern : helperPattern op = true → s.obj 0x2F00 2 = 0) (hcapture : helperCapture s c op = true → s.obj 0x2F00 1 = 0) :
    ∃ u, helperStart c op false s = (u, 0) ∧ Frame [.chans, .objs] s u ∧ (u.chan c).helper = some op ∧ u.obj (0xA000 + c) 2 = 1 ∧
      (helperPattern op = true → u.obj 0x2F00 2 = 5) ∧ (helperCapture s c op = true → u.obj 0x2F00 1 = 4) := by
  have hother : (0xA000 + c.val ≠ 0x2F00) := by omega
  have hclaim := claimIf_free (holder := 5) hpattern
  have hclaim' := claimIf_free (holder := 4) (s := claimIf (helperPattern op) 2 5 s) (sub := 1)
    (fun h => (claimIf_obj (by decide) (by decide) (.inr (by decide))).trans (hcapture h))
  simp only [helperStart, hnone, hallowed, Option.isSome_none, Bool.not_true, Bool.false_and, Bool.or_self, Bool.false_eq_true, if_false,
    hclaim, hclaim']
  refine ⟨_, rfl, ?_, ?_, ?_, fun h => ?_, fun h => ?_⟩
  · have hclaims : Frame [.chans, .objs] s (claimIf (helperCapture s c op) 1 4 (claimIf (helperPattern op) 2 5 s)) :=
      ((claimIf_keeps ..).frame_of_coversRest rfl).step (claimIf_keeps ..) rfl
    exact ((hclaims.step (State.modChan_keeps ..) rfl).step (State.setObj_keeps ..) rfl).step (noteCmd_keeps ..) rfl
  · rw [noteCmd, State.modChan_same, State.setObj_at_chan, State.modChan_same]
  · rw [noteCmd, State.modChan_at_obj, State.setObj_same]
  · rw [noteCmd, State.modChan_at_obj, setObj_ne2 _ _ _ _ _ _ (by decide) (by decide) (.inl hother.symm), State.modChan_at_obj,
      claimIf_obj (by decide) (by decide) (.inr (by decide)), h, claimIf_held]
  · rw [noteCmd, State.modChan_at_obj, setObj_ne2 _ _ _ _ _ _ (by decide) (by decide) (.inl hother.symm), State.modChan_at_obj, h,
      claimIf_held]

end

/-! ### The obligation -/

theorem helperCapture_begin (link : Fin 2) (c : Fin 16) (op : Nat) (s : State) :
    helperCapture (beginFrame link s) c op = helperCapture s c op := by
  simp only [helperCapture, beginFrame_at_obj link s (0xA000 + c) 0x12 (by decide) (by omega)]

section
variable {link : Fin 2} {tag : BitVec 8} {c : Fin 16} {op : Nat} {s : State} (hC : CanWrite link 1 1 s) (hnone : (s.chan c).helper = none)
include hC hnone

/-- A write of HelperOp that starts its operation. -/
theorem writeOf_helperOp_starts (hop : op ∈ List.range' 1 9) (hallowed : helperAllowed s c op = true)
    (hpattern : helperPattern op = true → s.obj 0x2F00 2 = 0) (hcapture : helperCapture s c op = true → s.obj 0x2F00 1 = 0) :
    ∃ u, Written link tag (0xA000 + c) 1 1 u (writeOf link tag (0xA000 + c) 1 op false s) ∧ Frame [.chans, .objs] (beginFrame link s) u ∧
      (u.chan c).helper = some op ∧ u.obj (0xA000 + c) 2 = 1 ∧ (helperPattern op = true → u.obj 0x2F00 2 = 5) ∧
      (helperCapture s c op = true → u.obj 0x2F00 1 = 4) := by
  rw [← beginFrame_at_chan link] at hnone
  rw [← helperAllowed_begin link] at hallowed
  rw [← beginFrame_at_obj link s 0x2F00 _ (by decide) (by decide)] at hpattern hcapture
  rw [← helperCapture_begin link] at hcapture ⊢
  obtain ⟨u, hrule, hframe, heffect⟩ := helperStart_allowed hnone hallowed hpattern hcapture
  exact ⟨u, writeOf_helperOp hC hop hrule, hframe, heffect⟩

/-- The operations that need no store. -/
theorem writeOf_helperOp_noStore (hop : op ∈ [1, 2, 3, 4, 8]) (hallowed : helperAllowed s c op = true) :
    ∃ u, Written link tag (0xA000 + c) 1 1 u (writeOf link tag (0xA000 + c) 1 op false s) ∧ Frame [.chans, .objs] (beginFrame link s) u ∧
      (u.chan c).helper = some op ∧ u.obj (0xA000 + c) 2 = 1 := by
  have hstores : op ∈ List.range' 1 9 ∧ helperPattern op = false ∧ helperCapture s c op = false := by
    simp only [List.mem_cons, List.not_mem_nil, or_false] at hop
    rcases hop with rfl | rfl | rfl | rfl | rfl <;> exact ⟨by decide, rfl, rfl⟩
  obtain ⟨hop, hpattern, hcapture⟩ := hstores
  obtain ⟨u, hwritten, hframe, hruns, hstatus, -⟩ := writeOf_helperOp_starts (tag := tag) hC hnone hop hallowed (by simp [hpattern])
    (by simp [hcapture])
  exact ⟨u, hwritten, hframe, hruns, hstatus⟩

/-- One that names a field the D16 owns leaves HelperStatus 3. -/
theorem writeOf_helperOp_owned (hop : op = 2 ∨ op = 3 ∨ op = 4) : Written link tag (0xA000 + c) 1 1
    ((beginFrame link s).setObj (0xA000 + c) 2 3) (writeOf link tag (0xA000 + c) 1 op true s) := by
  rw [← beginFrame_at_chan link] at hnone
  exact writeOf_helperOp hC (by rw [List.mem_range'_1]; omega) (helperStart_owned hnone hop)

end

/-- An operation that captures what it reads needs the capture store only where CaptureLimit is not 0. -/
theorem helperCapture_sweep {c : Fin 16} {op : Nat} {s : State} (hop : op = 5 ∨ op = 6 ∨ op = 9) (hlimit : 0 < s.obj (0xA000 + c) 0x12) :
    helperCapture s c op = true := by
  rcases hop with rfl | rfl | rfl <;> simp [helperCapture, hlimit]

/-! ### The obligation -/

/-- Settles O17: each operation is a write of HelperOp (`writeOf_helperOp_starts`), by the stores it needs; a write of an owned
field is `writeOf_helperOp_owned`. -/
theorem helperOperationsStart : Obligations.HelperOperationsStart := by
  refine ⟨?_, ?_, ?_, ?_, ?_, ?_, ?_, ?_, ?_, ?_, ?_, ?_⟩
  · exact fun link tag c s hC hnone hallowed => ⟨_, (writeOf_helperOp_noStore hC hnone (by decide) hallowed).imp fun _ h => ⟨rfl, h⟩⟩
  · exact fun link tag c s hC hnone hallowed => ⟨_, (writeOf_helperOp_noStore hC hnone (by decide) hallowed).imp fun _ h => ⟨rfl, h⟩⟩
  · exact fun link tag c s hC hnone hallowed => ⟨_, (writeOf_helperOp_noStore hC hnone (by decide) hallowed).imp fun _ h => ⟨rfl, h⟩⟩
  · exact fun link tag c s hC hnone hallowed => ⟨_, (writeOf_helperOp_noStore hC hnone (by decide) hallowed).imp fun _ h => ⟨rfl, h⟩⟩
  · exact fun link tag c s hC hnone hallowed => ⟨_, (writeOf_helperOp_noStore hC hnone (by decide) hallowed).imp fun _ h => ⟨rfl, h⟩⟩
  · intro link tag c s hC hnone hallowed hlimit hfree
    obtain ⟨u, hwritten, hframe, hruns, hstatus, -, hcapture⟩ := writeOf_helperOp_starts (tag := tag) hC hnone (by decide) hallowed
      (fun h => absurd h (by decide)) (fun _ => hfree)
    exact ⟨_, u, rfl, hwritten, hframe, hruns, hstatus, hcapture (helperCapture_sweep (by decide) hlimit)⟩
  · intro link tag c s hC hnone hallowed hlimit hfree
    obtain ⟨u, hwritten, hframe, hruns, hstatus, -, hcapture⟩ := writeOf_helperOp_starts (tag := tag) hC hnone (by decide) hallowed
      (fun h => absurd h (by decide)) (fun _ => hfree)
    exact ⟨_, u, rfl, hwritten, hframe, hruns, hstatus, hcapture (helperCapture_sweep (by decide) hlimit)⟩
  · intro link tag c s hC hnone hallowed hfree
    obtain ⟨u, hwritten, hframe, hruns, hstatus, hpattern, -⟩ := writeOf_helperOp_starts (tag := tag) hC hnone (by decide) hallowed
      (fun _ => hfree) (fun h => absurd (show false = true from h) (by decide))
    exact ⟨_, u, rfl, hwritten, hframe, hruns, hstatus, hpattern rfl⟩
  · intro link tag c s hC hnone hallowed hlimit hfree hfree'
    obtain ⟨u, hwritten, hframe, hruns, hstatus, hpattern, hcapture⟩ := writeOf_helperOp_starts (tag := tag) hC hnone (by decide) hallowed
      (fun _ => hfree') (fun _ => hfree)
    exact ⟨_, u, rfl, hwritten, hframe, hruns, hstatus, hcapture (helperCapture_sweep (by decide) hlimit), hpattern rfl⟩
  · exact fun link tag c s hC hnone => ⟨_, rfl, writeOf_helperOp_owned hC hnone (by decide)⟩
  · exact fun link tag c s hC hnone => ⟨_, rfl, writeOf_helperOp_owned hC hnone (by decide)⟩
  · exact fun link tag c s hC hnone => ⟨_, rfl, writeOf_helperOp_owned hC hnone (by decide)⟩

end Sys2Proof.Machine

/-! PROOF. The commands of the bays and the supplies (R336, R362, R370), and of the event queue and log (R183, R383, R386,
R387). -/

namespace Sys2Proof.Machine

/-! ### The rows of the objects -/

/-- BayCommand's row. -/
def bayCommandRow : ObjRow := ⟨"BayCommand", 0x04, 0x04, 8, 2, 0, 1, 0, 1, .span 1 3⟩

theorem bayCommandRow_plain : ∀ b : Fin 32, ∀ v ∈ [1, 2, 3], objRow (0x7100 + b) 4 = some bayCommandRow ∧
    plainRow (0x7100 + b) 4 v bayCommandRow = true ∧ levelOf (0x7100 + b) 4 v bayCommandRow = 1 ∧
    pageOf (0x7100 + b) = (0x7100, b.val) := by
  decide

/-- SupplyCommand's row. -/
def supplyCommandRow : ObjRow := ⟨"SupplyCommand", 0x04, 0x04, 8, 2, 0, 1, 0, 1, .oneOf [1]⟩

/-- EventQueueControl's row. -/
def queueControlRow : ObjRow := ⟨"EventQueueControl", 0x04, 0x04, 8, 2, 0, 1, 0, 1, .span 1 3⟩

theorem queueControlRow_plain : ∀ v ∈ [1, 2, 3], plainRow 0x9000 4 v queueControlRow = true := by decide

/-- EventLogClear's row. -/
def logClearRow : ObjRow := ⟨"EventLogClear", 0x07, 0x07, 7, 2, 0, 2, 0, 1, .span 0 1⟩

/-- EventQueueRead's row. -/
def queueReadRow : ObjRow := ⟨"EventQueueRead", 0x03, 0x03, 15, 0, 0, 255, 0, 16, .any⟩

/-- A write of 0 to EventPending of a source passes at its own rule. -/
theorem eventPendingRow_plain {n : Nat} (h : n < 512) : plainRow (evIdx n) 5 0 eventPendingRow = true ∧
    levelOf (evIdx n) 5 0 eventPendingRow = 1 := by
  have hidx : evIdx n = 0x8000 + n := rfl
  have hfixed : fixedObject (evIdx n) 5 = false := by
    simp only [fixedObject, hidx, Bool.or_eq_false_iff, Bool.and_eq_false_iff, decide_eq_false_iff_not]
    omega
  have hacc : accessOf (evIdx n) 5 eventPendingRow = 1 := by
    simp [accessOf, hfixed, eventPendingRow]
  have hvalue : valueOk (evIdx n) 5 0 eventPendingRow = true := by
    simp only [valueOk, pageOf_source h]
    rfl
  have hsmall : evIdx n < 0x10000 ∧ evIdx n ≠ 0x1100 ∧ evIdx n ≠ 0x1200 := by omega
  refine ⟨?_, by simp [levelOf, hsmall, eventPendingRow]⟩
  simp only [plainRow, hacc, hvalue, pageOf_source h]
  simp [eventPendingRow, ObjRow.record, ObjRow.staged, hsmall]

/-! ### The writes -/

section
variable {link : Fin 2} {tag : BitVec 8} {s u : State}

theorem writeOf_bayCommand {b : Fin 32} {v : Nat} (hC : CanWrite link 1 1 s) (hv : v ∈ [1, 2, 3])
    (hrule : bayCommand b v (beginFrame link s) = (u, 0)) :
    Written link tag (0x7100 + b) 4 1 u (writeOf link tag (0x7100 + b) 4 v false s) := by
  obtain ⟨hrow, hplain, hlevel, hpage⟩ := bayCommandRow_plain b v hv
  have hk := bayCommand_keeps b v (beginFrame link s)
  rw [hrule] at hk
  have hhook : unitHook link 0x7100 b (0x7100 + b) 4 v (beginFrame link s) = some (u, 0) := by
    have hkeys : 0x7100 + b.val ≠ 0x5000 := by omega
    have hsupply : 0x7100 + b.val ≠ 0x7000 := by omega
    simp [unitHook, hkeys, hsupply, hrule]
  exact writeOf_unitHook hrow hplain hlevel hC hpage (by decide) (by omega)
    (noReset ((hk.blk (by decide)).trans (beginFrame_blk link s))) rfl hhook

theorem writeOf_supplyCommand (hC : CanWrite link 1 1 s) (hrule : supplyCommand 1 (beginFrame link s) = (u, 0)) :
    Written link tag 0x7000 4 1 u (writeOf link tag 0x7000 4 1 false s) := by
  have hk := supplyCommand_keeps 1 (beginFrame link s)
  rw [hrule] at hk
  exact writeOf_unitHook (r := supplyCommandRow) (lvl := 1) rfl rfl rfl hC rfl (by decide) (by decide)
    (noReset ((hk.blk (by decide)).trans (beginFrame_blk link s))) rfl (congrArg some hrule)

theorem writeOf_queueControl {v : Nat} (hC : CanWrite link 1 1 s) (hv : v ∈ [1, 2, 3])
    (hrule : eventControl v (beginFrame link s) = (u, 0)) :
    Written link tag 0x9000 4 1 u (writeOf link tag 0x9000 4 v false s) := by
  have hk := eventControl_keeps v (beginFrame link s)
  rw [hrule] at hk
  exact writeOf_unitHook (r := queueControlRow) (lvl := 1) rfl (queueControlRow_plain v hv) rfl hC rfl (by decide) (by decide)
    (noReset ((hk.blk (by decide)).trans (beginFrame_blk link s))) rfl (congrArg some hrule)

theorem writeOf_logClear (hC : CanWrite link 1 2 s) (hrule : clearEventLog 1 (beginFrame link s) = (u, 0)) :
    Written link tag 0x9000 7 1 u (writeOf link tag 0x9000 7 1 false s) := by
  have hk := clearEventLog_keeps 1 (beginFrame link s)
  rw [hrule] at hk
  exact writeOf_unitHook (r := logClearRow) (lvl := 2) rfl rfl rfl hC rfl (by decide) (by decide)
    (noReset ((hk.blk (by decide)).trans (beginFrame_blk link s))) rfl (congrArg some hrule)

theorem writeOf_eventPending {n : Fin 512} (hC : CanWrite link 1 1 s) (hrow : objRow (evIdx n) 5 = some eventPendingRow) :
    Written link tag (evIdx n) 5 1 (clearPending n (beginFrame link s)) (writeOf link tag (evIdx n) 5 0 false s) := by
  have hidx : evIdx n = 0x8000 + n := rfl
  obtain ⟨hplain, hlevel⟩ := eventPendingRow_plain n.isLt
  have hhook : unitHook link 0x8000 n (evIdx n) 5 0 (beginFrame link s) = some (clearPending n (beginFrame link s), 0) := by
    have hkeys : evIdx n ≠ 0x5000 := by omega
    have hsupply : evIdx n ≠ 0x7000 := by omega
    simp [unitHook, hkeys, hsupply]
  exact writeOf_unitHook hrow hplain hlevel hC (pageOf_source n.isLt) (by decide) (by omega)
    (noReset (((clearPending_keeps ..).blk (by decide)).trans (beginFrame_blk link s))) rfl hhook

end

/-! ### What the rules do -/

theorem bayCommand_remove {b : Nat} {s : State} (hst : (s.bay b).st = .inService ∨ (s.bay b).st = .fault) :
    bayCommand b 1 s = (askRemoval b s, 0) := by
  rcases hst with hst | hst <;> simp [bayCommand, hst]

theorem forN_succ {α : Type} (n : Nat) (a : α) (f : Nat → α → α) : forN (n + 1) a f = f n (forN n a f) := by
  simp only [forN, List.range_succ, List.foldl_append, List.foldl_cons, List.foldl_nil]

/-- Objects at one subindex of consecutive pages, set in turn. -/
theorem forN_setObj_obj {n base k v i : Nat} (hk : k < 256) (hi : i < n) (s : State) :
    (forN n s (fun j t => t.setObj (base + j) k v)).obj (base + i) k = v := by
  induction n with
  | zero => omega
  | succ n ih =>
    rw [forN_succ]
    by_cases h : i = n
    · rw [h, State.setObj_same]
    · rw [setObj_ne2 _ _ _ _ _ _ hk hk (.inl (by omega)), ih (by omega)]

/-- The causes of every input's failure cleared. -/
def causesCleared (s : State) : State := forN 6 s (fun i t => t.setObj (0x7001 + i) 8 0)

theorem causesCleared_keeps (s : State) : Keeps 8053063679 s (causesCleared s) :=
  Keeps.forN (Keeps.refl s) (fun _ _ h => h.trans (State.setObj_keeps ..))

theorem causesCleared_obj (s : State) (i : Fin 6) : (causesCleared s).obj (0x7001 + i) 8 = 0 :=
  forN_setObj_obj (k := 8) (by decide) i.isLt s

/-- The supplies stand at Off. -/
def suppliesOff (s : State) : State := { s with sup := { s.sup with st := .off } }

theorem suppliesOff_keeps (s : State) : Keeps 8573157375 s (suppliesOff s) := Keeps.upd_sup (Keeps.refl _) (by decide)

/-- From Off the ramp of VAA starts where VDDC is good. -/
theorem startRails_off {s : State} (hst : s.sup.st = .off) : (startRails s).sup.st = if (s.sense 0).good then .rampVaa else .off := by
  cases hgood : (s.sense 0).good <;> simp [startRails, hst, hgood]

/-- In Aborted, SupplyCommand clears the causes of the failure and ramps up again. -/
theorem supplyCommand_aborted {s : State} (hst : s.sup.st = .aborted) :
    supplyCommand 1 s = (startRails (suppliesOff (causesCleared s)), 0) := by
  rw [supplyCommand, if_neg (by decide), if_neg (by simp [hst])]
  rfl

section
variable (s : State)

theorem startRails_suppliesOff_frame : Frame [.sup, .objs] s (startRails (suppliesOff (causesCleared s))) :=
  (((causesCleared_keeps s).frame_of_coversRest rfl).step (suppliesOff_keeps _) rfl).step (startRails_keeps _) rfl

theorem startRails_suppliesOff_obj (i : Fin 6) : (startRails (suppliesOff (causesCleared s))).obj (0x7001 + i) 8 = 0 := by
  rw [obj_of_objs _ _ _ _ ((startRails_keeps _).objs (by decide)), obj_of_objs _ _ _ _ ((suppliesOff_keeps _).objs (by decide)),
    causesCleared_obj]

theorem startRails_suppliesOff_st :
    (startRails (suppliesOff (causesCleared s))).sup.st = if (s.sense 0).good then .rampVaa else .off := by
  have hsense : (suppliesOff (causesCleared s)).sense 0 = s.sense 0 := by
    simp only [State.sense, suppliesOff, (causesCleared_keeps s).sup (by decide)]
  rw [startRails_off rfl, hsense]

end

/-! ### The event queue -/

theorem evBytes_length (e : EvEntry) : (evBytes e).length = 16 := by simp [evBytes]

/-- The entry at the read pointer is read, and the pointer advances. -/
theorem readRecord_queue {s : State} {e : EvEntry} (h : s.ev.queue[s.ev.rd]? = some e) :
    readRecord 0x9000 3 0 16 false s = ({ s with ev := { s.ev with rd := s.ev.rd + 1, last := some e } }, evBytes e) := by
  have hall : (evBytes e).take 16 = evBytes e := List.take_of_length_le (evBytes_length e).le
  simp [readRecord, readEventQueue, h, hall]

/-! ### The obligation -/

/-- Settles O19: each command is the write of an object of its page, whose rule is said by the equation of its case; the queue is
read by `readRecord_queue`. -/
theorem bayAndEventCommands : Obligations.BayAndEventCommands := by
  refine ⟨?_, ?_, ?_, ?_, ?_, ?_, ?_, ?_, ?_, ?_⟩
  · intro link tag b s hC hst
    rw [← beginFrame_at_bay link] at hst
    exact ⟨_, rfl, writeOf_bayCommand hC (by decide) (bayCommand_remove hst)⟩
  · exact fun link tag b s hC => ⟨_, rfl, writeOf_bayCommand hC (by decide) rfl⟩
  · exact fun link tag b s hC => ⟨_, rfl, writeOf_bayCommand hC (by decide) rfl⟩
  · intro link tag s hC hst
    rw [← beginFrame_sup link] at hst
    exact ⟨_, _, rfl, writeOf_supplyCommand hC (supplyCommand_aborted hst), startRails_suppliesOff_frame _,
      startRails_suppliesOff_obj _, by rw [startRails_suppliesOff_st, beginFrame_at_sense]⟩
  · intro link tag s hC
    rw [← beginFrame_ev link]
    exact ⟨_, rfl, writeOf_queueControl hC (by decide) rfl⟩
  · intro link tag s hC
    rw [← beginFrame_ev link]
    exact ⟨_, rfl, writeOf_queueControl hC (by decide) rfl⟩
  · intro link tag s hC
    rw [← beginFrame_ev link]
    exact ⟨_, rfl, writeOf_queueControl hC (by decide) rfl⟩
  · intro link tag s hC
    rw [← beginFrame_mram link]
    exact ⟨_, rfl, writeOf_logClear hC rfl⟩
  · intro link tag s e hT htest hentry
    rw [← beginFrame_ev link] at hentry ⊢
    have hlen : (16 : BitVec 16).toNat ≤ linkData link := by unfold linkData; split <;> decide
    have hrun := runRequest_readBlock (link := link) (hdr := ⟨tag, 0x9000, 3, 0, 16, 0, 0⟩) (hint := false) (s := beginFrame link s)
      hlen rfl (.inl rfl)
    have hblock : doReadBlock 0x9000 3 0 16 false (beginFrame link s) = _ :=
      doReadBlock_record (r := queueReadRow) rfl rfl (by decide) (fun h => Bool.noConfusion h)
    rw [readRecord_queue hentry] at hblock
    exact congrArg Host.Outcome.next (transact_answers hT (hrun.trans hblock) (.inl htest))
  · intro link tag n s hC hsome
    have hrow := objRow_eventPending n.isLt
    cases hreserved : reservedSource n with
    | true => simp [hrow, hreserved] at hsome
    | false => exact ⟨_, rfl, writeOf_eventPending hC (by rw [hrow, hreserved]; rfl)⟩

end Sys2Proof.Machine

/-! PROOF. The writes of BlockCommand and the test reset (R437, R441, R454, R456). -/

namespace Sys2Proof.Machine

/-- BlockCommand's row. -/
def blockCommandRow : ObjRow := ⟨"BlockCommand", 0x02, 0x02, 8, 2, 0, 2, 0, 1, .span 1 5⟩

/-- The level a BlockCommand needs: Factory for the test commands (R419). -/
def blockCommandLevel (v : Nat) : Nat := if v = 4 ∨ v = 5 then 3 else 2

theorem blockCommandRow_plain : ∀ v ∈ List.range' 1 5, plainRow 0x1200 2 v blockCommandRow = true ∧
    levelOf 0x1200 2 v blockCommandRow = blockCommandLevel v := by
  decide

theorem writeNow_blockCommand (l v : Nat) (s : State) : writeNow false l 0x1200 2 v s = blockCommand v s := rfl

section
variable {link : Fin 2} {tag : BitVec 8} {v : Nat} {s u : State} (hv : v ∈ List.range' 1 5)
  (hC : CanWrite link 1 (blockCommandLevel v) s) (hrule : blockCommand v (beginFrame link s) = (u, 0))
include hv hC hrule

/-- A write of BlockCommand that its rule accepts, and that does not restart the block. -/
theorem writeOf_blockCommand (hst : ¬ (s.blk.st = .test ∧ u.blk.st = .resetPhase)) :
    Written link tag 0x1200 2 1 u (writeOf link tag 0x1200 2 v false s) := by
  obtain ⟨hplain, hlevel⟩ := blockCommandRow_plain v hv
  exact writeOf_now link tag _ _ v _ false s u blockCommandRow rfl hplain hlevel hC ((writeNow_blockCommand ..).trans hrule) hst

/-- One that restarts the block out of Test gives its state, with no response. -/
theorem writeOf_blockCommand_restarts (hst : s.blk.st = .test) (hu : u.blk.st = .resetPhase) :
    writeOf link tag 0x1200 2 v false s = u := by
  obtain ⟨hplain, hlevel⟩ := blockCommandRow_plain v hv
  obtain ⟨hT, hlvl, hdrains⟩ := hC
  have hv5 : v < 256 := by rw [List.mem_range'_1] at hv; omega
  have hok : valueOk 0x1200 2 v blockCommandRow = true := by
    simp only [plainRow, Bool.and_eq_true] at hplain
    exact hplain.1.2
  have hnow : writeObject false link 0x1200 2 v blockCommandRow (beginFrame link s) = (u, 0) := by
    rw [writeObject_now link false _ _ v blockCommandRow _ rfl (by decide) (by decide) (by decide)
      (by rw [beginFrame_level, hlevel]; exact hlvl) (fun h => absurd h (by decide)) (.inl (by rwa [drains_begin])) hok]
    exact hrule
  exact writeOf_restarts link tag _ _ v false s u blockCommandRow rfl rfl (by decide) (by decide) (by decide) hv5 hT hnow hst hu

end

/-! ### What the rule does -/

section
variable {s : State}

/-- In service or in Config (R441). -/
theorem inService_or_config (h : s.blk.st = .running ∨ s.blk.st = .recovery ∨ s.blk.st = .config) :
    (inService s || s.blk.st == .config) = true ∧ s.blk.st ≠ .test := by
  rcases h with h | h | h <;> simp [inService, h]

theorem blockCommand_enterConfig (h : s.blk.st = .running ∨ s.blk.st = .recovery) :
    blockCommand 1 s = ({ s with blk := { s.blk with pend := 1 } }, 0) := by
  rcases h with h | h <;> simp [blockCommand, inService, h]

theorem blockCommand_leaveConfig (h : s.blk.st = .config) (hpending : s.mgmt.pendingFrame = none) :
    blockCommand 2 s = ({ s with blk := { s.blk with pend := 2 } }, 0) := by
  simp [blockCommand, h, hpending]

theorem blockCommand_reset (h : s.blk.st = .running ∨ s.blk.st = .recovery ∨ s.blk.st = .config) :
    blockCommand 3 s = (startSquall 4 255 0 s, 0) :=
  if_pos (inService_or_config h).1

theorem testResetNow_inService (h : s.blk.st = .running ∨ s.blk.st = .recovery ∨ s.blk.st = .config) :
    testResetNow s = startSquall 4 255 1 s := by
  obtain ⟨hservice, htest⟩ := inService_or_config h
  rw [testResetNow, if_neg htest, if_pos hservice]

theorem blockCommand_testReset (h : s.blk.st = .running ∨ s.blk.st = .recovery ∨ s.blk.st = .config) :
    blockCommand 4 s = (startSquall 4 255 1 s, 0) := by
  rw [← testResetNow_inService h]
  exact if_pos (Bool.or_eq_true_iff.mpr (.inl (inService_or_config h).1))

theorem blockCommand_testReset_inTest (h : s.blk.st = .test) : blockCommand 4 s = (startAtS1 3 s, 0) := by
  simp [blockCommand, testResetNow, h]

theorem blockCommand_enterTest (h : s.blk.st = .config) : blockCommand 5 s = (startSquall 4 255 2 s, 0) := by
  simp [blockCommand, h]

end

/-! ### The obligation -/

/-- Settles O21: each command is a write of BlockCommand, whose rule is said by the equation of its case; a reset in Test restarts
the block and leaves no response. -/
theorem blockCommands : Obligations.BlockCommands := by
  refine ⟨?_, ?_, ?_, ?_, ?_, ?_, ?_⟩
  · intro link tag s hC hst
    have htest := (inService_or_config (hst.imp_right .inl)).2
    rw [← beginFrame_blk link] at hst ⊢
    exact ⟨_, rfl, writeOf_blockCommand (by decide) hC (blockCommand_enterConfig hst) (fun h => htest h.1)⟩
  · rintro link tag s hC ⟨hst, hpending⟩
    have htest := (inService_or_config (.inr (.inr hst))).2
    rw [← beginFrame_blk link] at hst ⊢
    rw [← beginFrame_pendingFrame link] at hpending
    exact ⟨_, rfl, writeOf_blockCommand (by decide) hC (blockCommand_leaveConfig hst hpending) (fun h => htest h.1)⟩
  · intro link tag s hC hst
    have htest := (inService_or_config hst).2
    rw [← beginFrame_blk link] at hst
    exact ⟨_, rfl, writeOf_blockCommand (by decide) hC (blockCommand_reset hst) (fun h => htest h.1)⟩
  · intro link tag s hC hst
    have htest := (inService_or_config hst).2
    rw [← beginFrame_blk link] at hst
    exact ⟨_, rfl, writeOf_blockCommand (by decide) hC (blockCommand_testReset hst) (fun h => htest h.1)⟩
  · intro link tag s hC hst
    have htest := (inService_or_config (.inr (.inr hst))).2
    rw [← beginFrame_blk link] at hst
    exact ⟨_, rfl, writeOf_blockCommand (by decide) hC (blockCommand_enterTest hst) (fun h => htest h.1)⟩
  · intro link tag s hC hst
    have hst' : (beginFrame link s).blk.st = .test := by rw [beginFrame_blk, hst]
    exact ⟨congrArg Host.Outcome.next (writeOf_blockCommand_restarts (by decide) hC (blockCommand_testReset_inTest hst') hst rfl), rfl⟩
  · exact fun tag s => ⟨fun hst => congrArg Host.Outcome.next (if_pos hst), fun hst => congrArg Host.Outcome.next (testResetNow_inService hst)⟩

end Sys2Proof.Machine

/-! PROOF. Two writes in a row from one link; the built-in tests (R463-R465) and the memory access of port 100 (R438). -/

namespace Sys2Proof.Machine

/-! ### A second write -/

/-- An object that is not of 0x1100 reads after the write of another as before it. -/
theorem written_obj {link : Fin 2} {tag : BitVec 8} {idx sub n i k : Nat} {u v : State} (hW : Written link tag idx sub n u v)
    (hk : k < 256) (hi : i ≠ 0x1100) : (beginFrame link v).obj i k = u.obj i k := by
  rw [beginFrame_at_obj link v i k hk hi, hW, endFrame_at_obj link _ _ _ i k hk hi]

section
variable {link : Fin 2} {tag : BitVec 8} {idx sub x n : Nat} {s v : State}
  (hW : Written link tag idx sub n ((beginFrame link s).setObj idx sub x) v)
include hW

theorem written_blk : v.blk = s.blk := by
  rw [hW, endFrame_blk, State.setObj_blk, beginFrame_blk]

/-- A value that is stored leaves the link as able to write as it was. -/
theorem written_canWrite {m lvl : Nat} (hidx : 0x7001 < idx) (hsub : sub < 256) (hC : CanWrite link m lvl s) : CanWrite link m lvl v := by
  rw [hW]
  refine canWrite_again link m lvl 2 _ s _ 0 0 [] hC ?_ (fun k hk => ?_) ?_
  · rw [State.setObj_blk, beginFrame_blk]
  · rw [setObj_ne2 _ _ _ _ _ _ hsub (by omega) (.inl (by omega)), beginFrame_at_1100 link s k hk]
  · rw [setObj_ne2 _ _ _ _ _ _ hsub (by decide) (.inl (by omega)), beginFrame_at_obj link s _ _ (by decide) (by decide)]

/-- The value reads back. -/
theorem written_obj_same (hsub : sub < 256) (hidx : idx ≠ 0x1100) : (beginFrame link v).obj idx sub = x := by
  rw [written_obj hW hsub hidx, State.setObj_same]

theorem written_obj_ne {i k : Nat} (hsub : sub < 256) (hk : k < 256) (hi : i ≠ 0x1100) (hne : i ≠ idx ∨ k ≠ sub) :
    (beginFrame link v).obj i k = s.obj i k := by
  rw [written_obj hW hk hi, setObj_ne2 _ _ _ _ _ _ hsub hk hne, beginFrame_at_obj link s i k hk hi]

end

/-! ### What a test's effect leaves of the block -/

/-- The state of the block and the test that runs are the same. -/
def SameTest (s t : State) : Prop := t.blk.st = s.blk.st ∧ t.blk.test = s.blk.test

namespace SameTest

variable {s t u : State}

theorem refl (s : State) : SameTest s s := ⟨rfl, rfl⟩

theorem trans (h : SameTest s t) (h' : SameTest t u) : SameTest s u := ⟨h'.1.trans h.1, h'.2.trans h.2⟩

/-- So it is where the whole of the block's own part is kept. -/
theorem of_blk (h : t.blk = s.blk) : SameTest s t := ⟨congrArg Blk.st h, congrArg Blk.test h⟩

theorem injectFired (s : State) : SameTest s (injectFired s) := by
  unfold Machine.injectFired
  dsimp only
  split
  · split
    · split
      · refine trans ?_ (of_blk ((releaseOwn_keeps ..).blk (by decide)))
        exact ⟨rfl, rfl⟩
      · exact ⟨rfl, rfl⟩
    · exact ⟨rfl, rfl⟩
  · exact ⟨rfl, rfl⟩

theorem countLoop (port a b d : Nat) (s : State) : SameTest s (countLoop port a b d s) := ⟨rfl, rfl⟩

theorem loopArrive (kind port : Nat) (bs : List Byte) (s : State) : SameTest s (loopArrive kind port bs s) := by
  unfold Machine.loopArrive
  split
  · exact countLoop ..
  split
  · exact (injectFired s).trans ((of_blk (State.addObj_blk ..)).trans (countLoop ..))
  split
  · exact countLoop ..
  · exact countLoop ..

theorem loopSend (inside : Bool) (port n : Nat) (s : State) : SameTest s (loopSend inside port n s) := by
  unfold Machine.loopSend
  dsimp only
  split
  · exact (countLoop ..).trans (loopArrive ..)
  · exact ⟨rfl, rfl⟩

theorem runLoops (inside : Bool) (s : State) : SameTest s (runLoops inside s) := by
  unfold Machine.runLoops
  refine forN_keeps (SameTest s) _ _ _ ⟨rfl, rfl⟩ (fun k t h => ?_)
  split
  · exact forN_keeps (SameTest s) _ _ _ h (fun i u hu => hu.trans (loopSend ..))
  · exact h

end SameTest

/-- No test's effect moves the block. -/
theorem testEffect_sameTest (n : Nat) (s : State) : SameTest s (testEffect n s) := by
  unfold testEffect
  split
  · refine .trans ?_ (.of_blk ((loseChannels_keeps ..).blk (by decide)))
    exact ⟨rfl, rfl⟩
  · exact .of_blk ((emptyStores_keeps s).blk (by decide))
  · exact .refl s
  · exact .runLoops true s
  · exact .runLoops false s
  · exact .refl s

/-! ### The rows of the tests -/

/-- TestSelect's row. -/
def testSelectRow : ObjRow := ⟨"TestSelect", 0x01, 0x01, 8, 1, 0, 3, 0, 1, .span 1 6⟩

theorem testSelectRow_plain : ∀ n ∈ List.range' 1 6, plainRow 0xB000 1 n testSelectRow = true := by decide

/-- TestGo's row. -/
def testGoRow : ObjRow := ⟨"TestGo", 0x02, 0x02, 7, 2, 0, 3, 0, 1, .span 0 1⟩

/-- MemGo's row. -/
def memGoRow : ObjRow := ⟨"MemGo", 0x04, 0x04, 7, 2, 0, 1, 0, 1, .span 0 1⟩

theorem writeNow_testSelect (link : Fin 2) (n : Nat) (s : State) :
    writeNow false link.val 0xB000 1 n s = (s.setObj 0xB000 1 n, 0) := by
  rw [writeNow_hooks link false 0xB000 1 n 0xB000 0 s rfl (by decide) (by decide) (by decide) (by decide),
    show channelHook false 0xB000 0 1 n s = none from rfl, show unitHook link.val 0xB000 0 0xB000 1 n s = none from rfl]
  rfl

theorem writeNow_testGo (link : Fin 2) (v : Nat) (s : State) : writeNow false link.val 0xB000 2 v s = testGo v s := by
  rw [writeNow_hooks link false 0xB000 2 v 0xB000 0 s rfl (by decide) (by decide) (by decide) (by decide),
    show channelHook false 0xB000 0 2 v s = none from rfl, show unitHook link.val 0xB000 0 0xB000 2 v s = some (testGo v s) from rfl]

theorem writeNow_memGo (l v : Nat) (s : State) : writeNow false l 0x1220 4 v s = memGo v s := by
  have hpair : pairBroken s (pageOf 0x1220).1 0x1220 4 v = false := by simp [pairBroken, pageOf]
  have hhook : blockHook l 0x1220 4 v s = some (memGo v s) := by simp [blockHook]
  simp only [writeNow, hpair, hhook, Bool.false_eq_true, ↓reduceIte]

/-- TestSelect takes the number of a test. -/
theorem writeOf_testSelect {link : Fin 2} {tag : BitVec 8} {n : Nat} {s : State} (hC : CanWrite link 1 3 s) (hn : n ∈ List.range' 1 6) :
    Written link tag 0xB000 1 1 ((beginFrame link s).setObj 0xB000 1 n) (writeOf link tag 0xB000 1 n false s) := by
  refine writeOf_now link tag 0xB000 1 n 3 false s _ testSelectRow rfl (testSelectRow_plain n hn) rfl hC (writeNow_testSelect link n _)
    (noReset ?_)
  rw [State.setObj_blk, beginFrame_blk]

/-! ### TestGo (R463) -/

/-- Test n starts. -/
def testStarted (n : Nat) (s : State) : State := testEffect n { s.setObj 0xB000 3 1 with blk := { s.blk with test := n } }

theorem testStarted_test (n : Nat) (s : State) : (testStarted n s).blk.test = n ∧ (testStarted n s).blk.st = s.blk.st := by
  obtain ⟨hst, htest⟩ := testEffect_sameTest n { s.setObj 0xB000 3 1 with blk := { s.blk with test := n } }
  exact ⟨htest, hst⟩

section
variable {n : Nat} {s : State} (hidle : s.blk.test = 0) (hselect : s.obj 0xB000 1 = n)
include hidle hselect

theorem testGo_allowed (hallowed : testAllowed s n = true) : testGo 1 s = (testStarted n s, 0) := by
  simp [testGo, hidle, hselect, hallowed, testStarted]

theorem testGo_notAllowed (hallowed : testAllowed s n = false) : testGo 1 s = (s.setObj 0xB000 3 4, 6) := by
  simp [testGo, hidle, hselect, hallowed]

end

/-- Which tests may start follows from the state of the block. -/
theorem testAllowed_of_blk {s t : State} (h : t.blk = s.blk) (n : Nat) : testAllowed t n = testAllowed s n := by
  simp only [testAllowed, h]

section
variable {link : Fin 2} {tag : BitVec 8} {n : Nat} {s : State} (hC : CanWrite link 1 3 s) (hidle : s.blk.test = 0)
  (hn : n ∈ List.range' 1 6)
include hC hidle hn

/-- The two writes of a test that may start. -/
theorem testOf_starts (hallowed : testAllowed s n = true) : ∃ v u,
    Written link tag 0xB000 1 1 ((beginFrame link s).setObj 0xB000 1 n) v ∧
      u = testEffect n { (beginFrame link v).setObj 0xB000 3 1 with blk := { s.blk with test := n } } ∧
      Written link tag 0xB000 2 1 u (testOf link tag n s) ∧ u.blk.test = n := by
  have hW := writeOf_testSelect (tag := tag) hC hn
  have hblk : (beginFrame link (writeOf link tag 0xB000 1 n false s)).blk = s.blk := by
    rw [beginFrame_blk, written_blk hW]
  have hrule := testGo_allowed (s := beginFrame link (writeOf link tag 0xB000 1 n false s)) (by rw [hblk, hidle])
    (written_obj_same hW (by decide) (by decide)) (by rw [testAllowed_of_blk hblk, hallowed])
  obtain ⟨htest, hst⟩ := testStarted_test n (beginFrame link (writeOf link tag 0xB000 1 n false s))
  refine ⟨_, _, hW, by rw [← hblk, ← testStarted], ?_, htest⟩
  refine writeOf_now link tag _ _ 1 3 false _ _ testGoRow rfl rfl rfl (written_canWrite hW (by decide) (by decide) hC)
    ((writeNow_testGo ..).trans hrule) (fun h => ?_)
  rw [hst, hblk, ← written_blk hW, h.1] at h
  exact absurd h.2 (by decide)

/-- So the row of the test answers the state after its second write. -/
theorem testOf_runs (hallowed : testAllowed s n = true) : ∃ t v u, (.next (testOf link tag n s) : Out) = .next t ∧
    Written link tag 0xB000 1 1 ((beginFrame link s).setObj 0xB000 1 n) v ∧
      u = testEffect n { (beginFrame link v).setObj 0xB000 3 1 with blk := { s.blk with test := n } } ∧
      Written link tag 0xB000 2 1 u t ∧ u.blk.test = n :=
  ⟨_, (testOf_starts hC hidle hn hallowed).imp fun _ h => h.imp fun _ h => ⟨rfl, h⟩⟩

/-- The two writes of a test that may not: the second is refused. -/
theorem testOf_refused (hallowed : testAllowed s n = false) : ∃ v,
    Written link tag 0xB000 1 1 ((beginFrame link s).setObj 0xB000 1 n) v ∧
      testOf link tag n s = endFrame link 2 (writeHdr tag 0xB000 2 1) ⟨(beginFrame link v).setObj 0xB000 3 4, 6, 0, []⟩ := by
  have hW := writeOf_testSelect (tag := tag) hC hn
  have hblk : (beginFrame link (writeOf link tag 0xB000 1 n false s)).blk = s.blk := by
    rw [beginFrame_blk, written_blk hW]
  have hrule := testGo_notAllowed (s := beginFrame link (writeOf link tag 0xB000 1 n false s)) (by rw [hblk, hidle])
    (written_obj_same hW (by decide) (by decide)) (by rw [testAllowed_of_blk hblk, hallowed])
  refine ⟨_, hW, ?_⟩
  exact writeOf_refusedNow link tag _ _ 1 3 false _ _ 6 testGoRow rfl rfl rfl (written_canWrite hW (by decide) (by decide) hC)
    ((writeNow_testGo ..).trans hrule) (noReset (by rw [State.setObj_blk, beginFrame_blk]))

end

/-! ### MemGo (R438) -/

theorem memGo_idle {s : State} (hidle : s.obj 0x1220 5 = 0) : memGo 1 s =
    (issue 100 (mkHeader (s.obj 0x1220 1) 0 (s.obj 0x1220 3) (s.obj 0x1220 2) false false 0 0)
      (if s.obj 0x1220 1 = 0x10 then (List.range (s.obj 0x1220 3)).map (fun k => bytesBv 512 (s.recN 0x1220 8 (64 * k) 64)) else [])
      (s.setObj 0x1220 5 1), 0) := by
  simp [memGo, memBusy, hidle]

/-! ### TEST_COMPLETE (R464) -/

theorem testComplete_running {findings : List (BitVec 8)} {s : State} (h : s.blk.test ≠ 0) :
    (testComplete findings s).blk.test = 0 ∧ (testComplete findings s).obj 0xB000 3 =
      (if findingsFail s.blk.test (s.obj 0xB000 5) (findingsOf s findings) then 3 else 2) := by
  rw [testComplete, if_neg h]
  exact ⟨rfl, State.setObj_same ..⟩

/-! ### The obligation -/

/-- Settles O22: a test is the two writes of `testOf_starts`; MemGo and TEST_COMPLETE by their own equations. -/
theorem builtInTests : Obligations.BuiltInTests := by
  refine ⟨?_, ?_, ?_, ?_, ?_, ?_, ?_, ?_⟩
  · exact fun link tag s hC hidle hallowed => testOf_runs hC hidle (by decide) hallowed
  · exact fun link tag s hC hidle hallowed => testOf_runs hC hidle (by decide) hallowed
  · exact fun link tag s hC hidle hallowed => testOf_runs hC hidle (by decide) hallowed
  · intro link tag s hC hidle hst
    cases hfuse : Config.productionFuse with
    | false =>
      obtain ⟨v, u, hW, hu, hwritten, htest⟩ := testOf_starts (tag := tag) (n := 4) hC hidle (by decide) (by simp [testAllowed, hst, hfuse])
      exact ⟨_, v, rfl, hW, fun _ => ⟨u, hu, hwritten, htest⟩, fun h => Bool.noConfusion h⟩
    | true =>
      obtain ⟨v, hW, hrefused⟩ := testOf_refused (tag := tag) (n := 4) hC hidle (by decide) (by simp [testAllowed, hfuse])
      exact ⟨_, v, rfl, hW, fun h => Bool.noConfusion h, fun _ => hrefused⟩
  · exact fun link tag s hC hidle hallowed => testOf_runs hC hidle (by decide) hallowed
  · exact fun link tag s hC hidle hallowed => testOf_runs hC hidle (by decide) hallowed
  · intro link tag s hC htest hidle
    have hobj : ∀ k, k < 256 → (beginFrame link s).obj 0x1220 k = s.obj 0x1220 k := fun k hk =>
      beginFrame_at_obj link s 0x1220 k hk (by decide)
    have hrule := memGo_idle (s := beginFrame link s) (by rw [hobj _ (by decide), hidle])
    simp only [hobj 1 (by decide), hobj 2 (by decide), hobj 3 (by decide), beginFrame_at_recN] at hrule
    exact ⟨_, rfl, writeOf_now link tag _ _ 1 1 false s _ memGoRow rfl rfl rfl hC ((writeNow_memGo ..).trans hrule) (fun h => htest h.1)⟩
  · intro findings s htest
    obtain ⟨hended, hstatus⟩ := testComplete_running (findings := findings) htest
    have hk := testComplete_keeps findings s
    exact ⟨_, rfl, hended, hstatus, hk.dram (by decide), hk.plaza (by decide)⟩

end Sys2Proof.Machine

/-! PROOF. Error injection (R466). -/

namespace Sys2Proof.Machine

/-! ### What disarming changes -/

theorem releaseOwn_obj_ne {sub holder i k : Nat} (s : State) (hsub : sub < 256) (hk : k < 256) (hne : i ≠ 0x2F00 ∨ k ≠ sub) :
    (releaseOwn sub holder s).obj i k = s.obj i k := by
  unfold releaseOwn
  split
  · exact setObj_ne2 _ _ _ _ _ _ hsub hk hne
  · rfl

section
variable (s : State)

theorem injectOff_inj : (injectOff s).blk.inj = none := by
  unfold injectOff
  split
  · dsimp only
    split
    · rw [State.setObj_blk, (releaseOwn_keeps ..).blk (by decide)]
    · rw [State.setObj_blk]
  · assumption

theorem injectOff_st : (injectOff s).blk.st = s.blk.st := by
  unfold injectOff
  split
  · dsimp only
    split
    · rw [State.setObj_blk, (releaseOwn_keeps ..).blk (by decide)]
    · rw [State.setObj_blk]
  · rfl

/-- Of the objects only InjectStatus and the claim of the pattern store may change. -/
theorem injectOff_obj {i k : Nat} (hk : k < 256) (hstatus : i ≠ 0xB001 ∨ k ≠ 8) (hclaim : i ≠ 0x2F00 ∨ k ≠ 2) :
    (injectOff s).obj i k = s.obj i k := by
  unfold injectOff
  split
  · rw [setObj_ne2 _ _ _ _ _ _ (by decide) hk hstatus]
    dsimp only
    split
    · rw [releaseOwn_obj_ne _ (by decide) hk hclaim]
      rfl
    · rfl
  · rfl

theorem injectOff_none {s : State} (h : s.blk.inj = none) : injectOff s = s := by
  simp only [injectOff, h]

end

/-! ### Arming -/

/-- The injection of kind k is armed, with the count of InjectCount, and InjectStatus reads 1. -/
def armInjection (k : Nat) (s : State) : State :=
  { s with blk := { s.blk with inj := some (k, s.obj 0xB001 6) } }.setObj 0xB001 8 1

theorem armInjection_keeps (k : Nat) (s : State) : Keeps 7784628223 s (armInjection k s) := by
  unfold armInjection
  exact Keeps.step (State.setObj_keeps ..) (by decide) (Keeps.upd_blk (Keeps.refl _) (by decide))

theorem armInjection_blk (k : Nat) (s : State) : (armInjection k s).blk = { s.blk with inj := some (k, s.obj 0xB001 6) } := by
  rw [armInjection, State.setObj_blk]

theorem armInjection_status (k : Nat) (s : State) : (armInjection k s).obj 0xB001 8 = 1 := State.setObj_same ..

theorem armInjection_obj_ne {k i j : Nat} (s : State) (hj : j < 256) (hne : i ≠ 0xB001 ∨ j ≠ 8) : (armInjection k s).obj i j = s.obj i j := by
  rw [armInjection, setObj_ne2 _ _ _ _ _ _ (by decide) hj hne]
  rfl

/-- Kinds 1 and 2 have claimed the pattern store for holder 6 before they are armed. -/
def injectClaims (k : Nat) (s : State) : State := if k = 1 ∨ k = 2 then s.setObj 0x2F00 2 6 else s

theorem injectClaims_keeps (k : Nat) (s : State) : Keeps 8053063679 s (injectClaims k s) :=
  Keeps.ite (State.setObj_keeps ..) (Keeps.refl s)

theorem injectClaims_count (k : Nat) (s : State) : (injectClaims k s).obj 0xB001 6 = s.obj 0xB001 6 := by
  unfold injectClaims
  split
  · exact setObj_ne2 _ _ _ _ _ _ (by decide) (by decide) (.inl (by decide))
  · rfl

theorem injectAllowed_of_st {s : State} (h : s.blk.st = .running ∨ s.blk.st = .recovery ∨ s.blk.st = .config ∨ s.blk.st = .test) :
    injectAllowed s = true := by
  rcases h with h | h | h | h <;> simp only [injectAllowed, h]

/-- InjectGo of kind k with the pattern store free where the kind needs it. -/
theorem injectGo_arms {k : Nat} {s : State} (hallowed : injectAllowed s = true) (hkind : s.obj 0xB001 1 = k) (hk : k ≠ 0)
    (hfree : k = 1 ∨ k = 2 → (injectOff s).obj 0x2F00 2 = 0) :
    injectGo 1 s = (armInjection k (injectClaims k (injectOff s)), 0) := by
  by_cases hclaims : k = 1 ∨ k = 2
  · simp [injectGo, hallowed, hkind, hk, hclaims, claim_free (hfree hclaims), armInjection, injectClaims]
  · simp [injectGo, hallowed, hkind, hk, hclaims, armInjection, injectClaims]

/-! ### The rows -/

/-- InjectKind's row. -/
def injectKindRow : ObjRow := ⟨"InjectKind", 0x01, 0x01, 8, 1, 0, 3, 0, 1, .span 0 5⟩

/-- InjectGo's row. -/
def injectGoRow : ObjRow := ⟨"InjectGo", 0x07, 0x07, 7, 2, 0, 3, 0, 1, .span 0 1⟩

theorem injectKindRow_plain : ∀ k ∈ List.range 6, plainRow 0xB001 1 k injectKindRow = true := by decide

theorem injectKind_kind {k : Nat} (s : State) (hk : k ∈ List.range' 1 5) : injectKind k s = (s.setObj 0xB001 1 k, 0) := by
  obtain ⟨hlow, hhigh⟩ := List.mem_range'_1.mp hk
  simp only [injectKind, if_neg (show ¬ 5 < k by omega), if_neg (show ¬ k = 0 by omega)]

/-- A write of InjectKind that its rule accepts. -/
theorem writeOf_injectKind {link : Fin 2} {tag : BitVec 8} {k : Nat} {s u : State} (hC : CanWrite link 1 3 s) (hk : k ∈ List.range 6)
    (hrule : injectKind k (beginFrame link s) = (u, 0)) (hst : ¬ (s.blk.st = .test ∧ u.blk.st = .resetPhase)) :
    Written link tag 0xB001 1 1 u (writeOf link tag 0xB001 1 k false s) :=
  writeOf_unitHook (r := injectKindRow) (lvl := 3) rfl (injectKindRow_plain k hk) rfl hC rfl (by decide) (by decide) hst rfl
    (congrArg some hrule)

/-- A write of InjectGo that its rule accepts. -/
theorem writeOf_injectGo {link : Fin 2} {tag : BitVec 8} {s u : State} (hC : CanWrite link 1 3 s)
    (hrule : injectGo 1 (beginFrame link s) = (u, 0)) (hst : ¬ (s.blk.st = .test ∧ u.blk.st = .resetPhase)) :
    Written link tag 0xB001 7 1 u (writeOf link tag 0xB001 7 1 false s) :=
  writeOf_unitHook (r := injectGoRow) (lvl := 3) rfl rfl rfl hC rfl (by decide) (by decide) hst rfl (congrArg some hrule)

/-- The two writes of an injection. Kinds 1 and 2 need the pattern store free and no injection armed. -/
theorem injectOf_arms {link : Fin 2} {tag : BitVec 8} {k : Nat} {s : State} (hC : CanWrite link 1 3 s)
    (hst : s.blk.st = .running ∨ s.blk.st = .recovery ∨ s.blk.st = .config ∨ s.blk.st = .test) (hk : k ∈ List.range' 1 5)
    (hfree : k = 1 ∨ k = 2 → s.blk.inj = none ∧ s.obj 0x2F00 2 = 0) : ∃ v u,
    Written link tag 0xB001 1 1 ((beginFrame link s).setObj 0xB001 1 k) v ∧ Written link tag 0xB001 7 1 u (injectOf link tag k s) ∧
      Frame [.blk, .objs] (beginFrame link v) u ∧ u.blk.inj = some (k, s.obj 0xB001 6) ∧ u.obj 0xB001 8 = 1 ∧
      (k = 1 ∨ k = 2 → u.obj 0x2F00 2 = 6) := by
  unfold injectOf
  obtain ⟨hlow, hhigh⟩ := List.mem_range'_1.mp hk
  have hW := writeOf_injectKind (tag := tag) hC (List.mem_range.mpr (by omega)) (injectKind_kind _ hk)
    (noReset ((State.setObj_blk ..).trans (beginFrame_blk ..)))
  refine ⟨_, armInjection k (injectClaims k (injectOff (beginFrame link (writeOf link tag 0xB001 1 k false s)))), hW, ?_, ?_, ?_,
    armInjection_status .., ?_⟩
  all_goals
    generalize writeOf link tag 0xB001 1 k false s = v at hW ⊢
    have hblk : (beginFrame link v).blk = s.blk := by rw [beginFrame_blk, written_blk hW]
  · refine writeOf_injectGo (written_canWrite hW (by decide) (by decide) hC) (injectGo_arms (injectAllowed_of_st (by rwa [hblk]))
      (written_obj_same hW (by decide) (by decide)) (by omega) (fun h => ?_)) (fun h => ?_)
    · rw [injectOff_none (by rw [hblk]; exact (hfree h).1), written_obj_ne hW (by decide) (by decide) (by decide) (.inl (by decide))]
      exact (hfree h).2
    · obtain ⟨htest, hreset⟩ := h
      rw [armInjection_blk] at hreset
      rw [show (injectClaims k (injectOff (beginFrame link v))).blk.st = v.blk.st by
        rw [(injectClaims_keeps ..).blk (by decide), injectOff_st, beginFrame_blk], htest] at hreset
      exact absurd hreset (by decide)
  · exact (Frame.step (Frame.step ((injectOff_keeps _).frame_of_coversRest rfl) (injectClaims_keeps ..) rfl) (armInjection_keeps ..) rfl)
  · rw [armInjection_blk, injectClaims_count, injectOff_obj _ (by decide) (.inr (by decide)) (.inl (by decide)),
      written_obj_ne hW (by decide) (by decide) (by decide) (.inr (by decide))]
  · intro h
    rw [armInjection_obj_ne _ (by decide) (.inl (by decide)), injectClaims, if_pos h, State.setObj_same]

/-- Kinds past 2 need no store, whatever is armed. -/
theorem injectOf_armsFree {link : Fin 2} {tag : BitVec 8} {k : Nat} {s : State} (hC : CanWrite link 1 3 s)
    (hst : s.blk.st = .running ∨ s.blk.st = .recovery ∨ s.blk.st = .config ∨ s.blk.st = .test) (hk : k ∈ List.range' 3 3) :
    ∃ t v u, (.next (injectOf link tag k s) : Out) = .next t ∧
      Written link tag 0xB001 1 1 ((beginFrame link s).setObj 0xB001 1 k) v ∧ Written link tag 0xB001 7 1 u t ∧
      Frame [.blk, .objs] (beginFrame link v) u ∧ u.blk.inj = some (k, s.obj 0xB001 6) ∧ u.obj 0xB001 8 = 1 := by
  obtain ⟨hlow, hhigh⟩ := List.mem_range'_1.mp hk
  obtain ⟨v, u, hv, hu, hframe, harmed, hstatus, -⟩ :=
    injectOf_arms (tag := tag) (k := k) hC hst (List.mem_range'_1.mpr (by omega)) (fun h => absurd h (by omega))
  exact ⟨_, v, u, rfl, hv, hu, hframe, harmed, hstatus⟩

/-- InjectKind 0 disarms. -/
theorem injectKind_off (s : State) : injectKind 0 s = (injectOff (s.setObj 0xB001 1 0), 0) := rfl

/-! ### The obligation -/

/-- Settles O23: each row is the two writes of `injectOf_arms`; InjectKind 0 disarms. -/
theorem injections : Obligations.Injections := by
  refine ⟨?_, ?_, ?_, ?_, ?_, ?_⟩
  · intro link tag s hC hst hinj hfree
    obtain ⟨v, u, hv, hu, hframe, harmed, hstatus, hclaimed⟩ :=
      injectOf_arms (tag := tag) (k := 1) hC hst (by decide) (fun _ => ⟨hinj, hfree⟩)
    exact ⟨_, v, u, rfl, hv, hu, hframe, harmed, hstatus, hclaimed (.inl rfl)⟩
  · intro link tag s hC hst hinj hfree
    obtain ⟨v, u, hv, hu, hframe, harmed, hstatus, hclaimed⟩ :=
      injectOf_arms (tag := tag) (k := 2) hC hst (by decide) (fun _ => ⟨hinj, hfree⟩)
    exact ⟨_, v, u, rfl, hv, hu, hframe, harmed, hstatus, hclaimed (.inr rfl)⟩
  · exact fun link tag s hC hst => injectOf_armsFree hC hst (by decide)
  · exact fun link tag s hC hst => injectOf_armsFree hC hst (by decide)
  · exact fun link tag s hC hst => injectOf_armsFree hC hst (by decide)
  · intro link tag s hC
    have hblk : ((beginFrame link s).setObj 0xB001 1 0).blk = s.blk := (State.setObj_blk ..).trans (beginFrame_blk ..)
    refine ⟨_, injectOff ((beginFrame link s).setObj 0xB001 1 0), rfl, writeOf_injectKind hC (by decide) (injectKind_off _) (fun h => ?_),
      Frame.step ((State.setObj_keeps ..).frame_of_coversRest rfl) (injectOff_keeps _) rfl, injectOff_inj _, ?_⟩
    · obtain ⟨htest, hreset⟩ := h
      rw [injectOff_st, hblk, htest] at hreset
      exact absurd hreset (by decide)
    · rw [injectOff_obj _ (by decide) (.inr (by decide)) (.inl (by decide)), State.setObj_same]

end Sys2Proof.Machine

/-! PROOF. Raising an event (R380-R387): its count, its stamp, EventPending, and what a disabled source leaves alone. -/

namespace Sys2Proof.Machine

/-- The severity in force of a raise. -/
def raiseSeverity (n fixed : Nat) (s : State) : Nat := max (s.obj (evIdx n) 2) fixed

/-- A raise leaves MRAM outside the event log as it was. -/
def KeepsOutsideLog (s t : State) : Prop := ∀ a, (a < 0x6800 ∨ 0x7000 ≤ a) → ld t.mram a = ld s.mram a

theorem KeepsOutsideLog.trans {s t u : State} (h : KeepsOutsideLog s t) (h' : KeepsOutsideLog t u) : KeepsOutsideLog s u :=
  fun a ha => (h' a ha).trans (h a ha)

section
variable (n fixed detail port : Nat) (s : State)

/-- A raise marks its source; a delivery follows only where the source is enabled or the raise is Fatal. -/
theorem raiseOne_undelivered (henabled : s.obj (evIdx n) 1 ≠ 1) (hsev : raiseSeverity n fixed s < 3) :
    raiseOne n fixed detail port s = (evtSync (markRaise n (raiseSeverity n fixed s) port false s), false) := by
  have hen : (s.obj (evIdx n) 1 == 1) = false := beq_eq_false_iff_ne.mpr henabled
  have hfatal : ¬ 3 ≤ max (s.obj (evIdx n) 2) fixed := Nat.not_le.mpr hsev
  simp only [raiseOne, raiseSeverity, hen, hfatal, decide_false, Bool.or_self, Bool.not_false, Bool.or_true, if_true]

/-- What a raise leaves on the sources' pages is what its mark leaves, and MRAM is written in the log only. -/
theorem raiseOne_marks (hn : n < 512) :
    (∀ i k, 0x8000 ≤ i → i < 0x8200 → k < 256 → (raiseOne n fixed detail port s).1.obj i k =
        (markRaise n (raiseSeverity n fixed s) port (s.obj (evIdx n) 1 == 1) s).obj i k) ∧
      KeepsOutsideLog s (raiseOne n fixed detail port s).1 := by
  have hmram := (markRaise_source n (raiseSeverity n fixed s) port (s.obj (evIdx n) 1 == 1) s hn).2.2.2.2.1
  unfold raiseOne
  dsimp only
  split
  · obtain ⟨hobjs, hsync, -, -⟩ := evtSync_same (markRaise n (raiseSeverity n fixed s) port (s.obj (evIdx n) 1 == 1) s)
    exact ⟨fun i k _ _ _ => obj_of_objs _ _ _ _ hobjs, fun a _ => by rw [← raiseSeverity, hsync, hmram]⟩
  · obtain ⟨hobj, hlog⟩ := routeRaise_source n (raiseSeverity n fixed s) detail port (s.obj (evIdx n) 1 == 1)
      (markRaise n (raiseSeverity n fixed s) port (s.obj (evIdx n) 1 == 1) s)
    obtain ⟨hobjs, hsync, -, -⟩ := evtSync_same (routeRaise n (raiseSeverity n fixed s) detail port (s.obj (evIdx n) 1 == 1)
      (markRaise n (raiseSeverity n fixed s) port (s.obj (evIdx n) 1 == 1) s)).1
    exact ⟨fun i k hlow hhigh hk => (obj_of_objs _ _ _ _ hobjs).trans (hobj i k hlow hhigh hk),
      fun a ha => by rw [← raiseSeverity, hsync, hlog a ha, hmram]⟩

/-- The raise of another source leaves a source's objects alone. -/
theorem raiseOne_obj_ne (hn : n < 512) {m k : Nat} (hm : m < 512) (hne : m ≠ n) (hk : k < 256) :
    (raiseOne n fixed detail port s).1.obj (evIdx m) k = s.obj (evIdx m) k := by
  have hlow : 0x8000 ≤ evIdx m := by unfold evIdx; omega
  have hhigh : evIdx m < 0x8200 := by unfold evIdx; omega
  have hidx : evIdx m ≠ evIdx n := by unfold evIdx; omega
  obtain ⟨-, -, -, hothers, -, -, -⟩ := markRaise_source n (raiseSeverity n fixed s) port (s.obj (evIdx n) 1 == 1) s hn
  rw [(raiseOne_marks n fixed detail port s hn).1 _ _ hlow hhigh hk, hothers _ _ hlow hhigh hk hidx]

/-- Beyond its own raise, a raise may only report the loss of its queue entry, as source 0x014. -/
theorem raiseFull_cases (hn : n < 512) (hdefined : reservedSource n = false) :
    raiseFull n fixed detail port s = (raiseOne n fixed detail port s).1 ∨
      (raiseOne n fixed detail port s).2 = true ∧ raiseFull n fixed detail port s =
        (raiseOne 0x014 0 0 0
          { (raiseOne n fixed detail port s).1 with ev := { (raiseOne n fixed detail port s).1.ev with lossRun := true } }).1 := by
  have hlt : ¬ 512 ≤ n := Nat.not_le.mpr hn
  unfold raiseFull
  rw [if_neg (by simp [hdefined, hlt])]
  dsimp only
  split
  next hlost => exact .inr ⟨(Bool.and_eq_true_iff.mp hlost).1, rfl⟩
  next => exact .inl rfl

/-- So its objects read as its own mark leaves them. -/
theorem raiseFull_marks (hn : n < 512) (hdefined : reservedSource n = false) (hother : n ≠ 0x014) :
    (∀ k, k < 256 → (raiseFull n fixed detail port s).obj (evIdx n) k =
        (markRaise n (raiseSeverity n fixed s) port (s.obj (evIdx n) 1 == 1) s).obj (evIdx n) k) ∧
      KeepsOutsideLog s (raiseFull n fixed detail port s) := by
  have hlow : 0x8000 ≤ evIdx n := by unfold evIdx; omega
  have hhigh : evIdx n < 0x8200 := by unfold evIdx; omega
  obtain ⟨hobj, hlog⟩ := raiseOne_marks n fixed detail port s hn
  rcases raiseFull_cases n fixed detail port s hn hdefined with h | ⟨-, h⟩
  · rw [h]
    exact ⟨fun k hk => hobj _ k hlow hhigh hk, hlog⟩
  · rw [h]
    refine ⟨fun k hk => ?_, hlog.trans (raiseOne_marks 0x014 0 0 0 _ (by decide)).2⟩
    rw [raiseOne_obj_ne 0x014 0 0 0 _ (by decide) hn hother hk]
    exact hobj _ k hlow hhigh hk

/-- A disabled source's raise that is not Fatal only marks it. -/
theorem raiseFull_undelivered (hn : n < 512) (hdefined : reservedSource n = false) (henabled : s.obj (evIdx n) 1 ≠ 1)
    (hsev : raiseSeverity n fixed s < 3) :
    raiseFull n fixed detail port s = evtSync (markRaise n (raiseSeverity n fixed s) port false s) := by
  have hone := raiseOne_undelivered n fixed detail port s henabled hsev
  rcases raiseFull_cases n fixed detail port s hn hdefined with h | ⟨hlost, -⟩
  · rw [h, hone]
  · rw [hone] at hlost
    exact Bool.noConfusion hlost

end

/-- Settles O39: by what a raise's own mark leaves. -/
theorem raisesCounted : Obligations.RaisesCounted := by
  rintro n fixed detail port s t hn hdefined hother rfl
  obtain ⟨hobj, hlog⟩ := raiseFull_marks n fixed detail port s hn hdefined hother
  obtain ⟨hcount, hstamp, hpending, -, -, -, -⟩ := markRaise_source n (raiseSeverity n fixed s) port (s.obj (evIdx n) 1 == 1) s hn
  refine ⟨(hobj 4 (by decide)).trans hcount, (hobj 6 (by decide)).trans hstamp, ?_, hlog, fun henabled hsev => ?_⟩
  · rw [hobj 5 (by decide), hpending]
    simp only [beq_iff_eq, raiseSeverity]
  · obtain ⟨-, -, -, -, hmram, hqueue, hibi⟩ := markRaise_source n (raiseSeverity n fixed s) port false s hn
    obtain ⟨-, hmram', hqueue', hibi'⟩ := evtSync_same (markRaise n (raiseSeverity n fixed s) port false s)
    rw [raiseFull_undelivered n fixed detail port s hn hdefined henabled hsev]
    exact ⟨hqueue'.trans hqueue, hibi'.trans hibi, hmram'.trans hmram⟩

end Sys2Proof.Machine

/-! PROOF. The service bay (R359-R368): the chain scan, presses, insertion and discovery, the PMIC's timeouts, lamps and polls. -/

namespace Sys2Proof.Machine

section
variable {b : Nat} {s : State}

/-! ### The chain scan (R359, R360) -/

/-- Every group of a scan carries its marker. -/
def scanGood (v : BitVec 192) : Bool := (List.range 32).all (fun b => bits (scanGroup v b) 5 4 == 2)

theorem chainScan_bad {v : BitVec 192} (hup : s.blk.st ≠ .off) (hbad : scanGood v = false) (hcount : s.sup.chainBad ≠ 2) :
    chainScan v s = { s with sup := { s.sup with chainBad := s.sup.chainBad + 1, chainGood := 0 } }.addObj 0x7000 0x11 1 := by
  unfold scanGood at hbad
  have hthird : ¬ s.sup.chainBad + 1 = 3 := by omega
  simp only [chainScan, hup, hbad, hthird, if_false, Bool.not_false, if_true, decide_false, Bool.false_and, Bool.false_eq_true]

theorem chainScan_good {v : BitVec 192} {u : State} (hup : s.blk.st ≠ .off) (hgood : scanGood v = true)
    (hfault : s.obj 0x7000 0x10 = 0) (hcount : s.sup.chainGood < 2)
    (hu : u = forN 32 (forN 32 { s with sup := { s.sup with chainBad := 0, chainGood := s.sup.chainGood + 1 } }
      (fun b t => t.modBay b (fun y => { y with inputs := scanGroup v b % 16 }))) (fun b t => bayInput b (baysHeld t) t)) :
    chainScan v s = forN 32 u.tickFree (fun b t => t.modBay b (fun y =>
      { y with led := if ledState y = 0 then false else if ledState y = 3 then true else Config.freeBit u.freeCtr })) := by
  unfold scanGood at hgood
  have hthird : ¬ 3 ≤ s.sup.chainGood + 1 := by omega
  have hchain : chainFault { s with sup := { s.sup with chainBad := 0, chainGood := s.sup.chainGood + 1 } } = false := by
    rw [show chainFault { s with sup := { s.sup with chainBad := 0, chainGood := s.sup.chainGood + 1 } } = chainFault s from rfl,
      chainFault, hfault]
    rfl
  rw [hu, chainScan, if_neg hup]
  dsimp only
  rw [hgood, if_neg (by decide), if_neg hthird, hchain, if_neg (by decide)]

/-! ### Presses (R361, R368, R370) -/

theorem buttonPress_asks (hst : (s.bay b).st = .inService ∨ (s.bay b).st = .fault) : buttonPress b s = askRemoval b s := by
  rcases hst with hst | hst <;> simp only [buttonPress, hst]

theorem askRemoval_granted (hok : removalOk s b = true) :
    askRemoval b s = ((s.modBay b (fun y => { y with st := .preparing, pmic := true })).setObj (0x7100 + b) 5 0).raise 0x1F0 := if_pos hok

theorem askRemoval_refused (hok : removalOk s b = false) :
    askRemoval b s = (s.modBay b (fun y => { y with refusedBlink := true })).raise 0x1F1 := if_neg (by simp [hok])

theorem buttonPress_restarts (hst : (s.bay b).st = .safeToRemove) (hchain : chainFault s = false) (hheld : baysHeld s = false)
    (hbus : s.obj 0x2F00 (busSub b) = 0) :
    buttonPress b s = (s.setObj 0x2F00 (busSub b) 11).modBay b (fun y => { y with st := .discovering, pmic := true, module := none }) := by
  simp [buttonPress, hst, hchain, hheld, startDiscovery, claim_free hbus]

/-! ### Insertion and discovery (R361, R368) -/

theorem insertion_begins (hempty : (s.bay b).st = .empty) (hpresent : bit (s.bay b).inputs 3 = false)
    (hclosed : bit (s.bay b).inputs 2 = false)
    (hup : s.blk.st = .running ∨ s.blk.st = .recovery ∨ s.blk.st = .config ∨ s.blk.st = .test) (hchain : chainFault s = false)
    (hheld : baysHeld s = false) (hbus : s.obj 0x2F00 (busSub b) = 0) :
    insertion b s = ((s.setObj 0x2F00 (busSub b) 11).modBay b (fun z => { z with st := .discovering, pmic := true })).raise 0x1F5 := by
  rcases hup with hup | hup | hup | hup <;>
    simp [insertion, hempty, hpresent, hclosed, hup, hchain, hheld, claim_free hbus]

theorem discovered_trains {m : ModuleInfo} (hst : (s.bay b).st = .discovering) (husable : spdUsable m = true)
    (hfits : fitsDesc s b m = true) (hmate : ∀ o, mate s b = some o → o.kind = m.kind) (hpower : m.powerGood = true) :
    discovered b m s = retrainFenced (bayChan b)
      (computeTiming (bayChan b) ((newModule b m (releaseOwn (busSub b) 11 s)).modBay b (fun y => { y with st := .training }))) := by
  cases ho : mate s b with
  | none => simp [discovered, hst, husable, ho, hfits, hpower]
  | some o => simp [discovered, hst, husable, ho, hmate o ho, hfits, hpower]

theorem trained_training (c : Nat) (u : State) :
    ((retrainFenced c (computeTiming c (u.modBay b (fun y => { y with st := .training })))).bay b).st = .training := by
  rw [State.bay, (retrainFenced_keeps ..).bays (by decide), (computeTiming_keeps ..).bays (by decide), ← State.bay, State.modBay_same]

/-! ### Faults of a bay (R368) -/

theorem bayFault_st (cause : Nat) : ((bayFault b cause s).bay b).st = .fault := by
  rw [bayFault, State.setObj_at_bay, State.modBay_same]

theorem bayFault_cause (cause : Nat) : (bayFault b cause s).obj (0x7100 + b) 5 = cause := State.setObj_same ..

theorem pmicOnTimeout_faults (hst : (s.bay b).st = .discovering) (hpower : bit (s.bay b).inputs 0 = false) :
    pmicOnTimeout b s = (bayFault b 3 (releaseOwn (busSub b) 11 s)).raise 0x1F7 := by
  simp [pmicOnTimeout, hst, hpower, discoveryFault]

theorem pmicOffTimeout_faults (hst : (s.bay b).st = .preparing) (hpower : bit (s.bay b).inputs 0 = true) :
    pmicOffTimeout b s = bayFault b 4 s := by
  simp [pmicOffTimeout, hst, hpower]

/-! ### Polls (R364) -/

section
variable {m : ModuleInfo} (hmodule : s.moduleAt b = some m)
include hmodule

theorem tempPoll_answered (x : Int) :
    tempPoll b (some x) s = noteTemp (bayChan b) (b % 2) x (s.modBay b (fun y => { y with polls := 0 })) := by
  simp [tempPoll, hmodule]

theorem tempPoll_missed (hpolls : (s.bay b).polls ≠ 2) :
    tempPoll b none s = s.modBay b (fun y => { y with polls := (s.bay b).polls + 1 }) := by
  have hthird : ¬ (s.bay b).polls + 1 = 3 := by omega
  simp [tempPoll, hmodule, hthird]

theorem tempPoll_third (hpolls : (s.bay b).polls = 2) :
    tempPoll b none s = (setTemps (bayChan b) (tdel (s.chan (bayChan b)).temps (b % 2)) (s.modBay b (fun y => { y with polls := 3 }))).raise 0x1FB := by
  simp [tempPoll, hmodule, hpolls]

end

end

/-- Settles O58: case by case of the rows, as above. -/
theorem baysServed : Obligations.BaysServed := by
  refine ⟨?_, ?_, ?_, ?_, ?_, ?_, ?_, ?_, ?_⟩
  · exact fun v s u hup => ⟨fun hbad hcount => congrArg Host.Outcome.next (chainScan_bad hup hbad hcount),
      fun hgood hfault hcount hu => congrArg Host.Outcome.next (chainScan_good hup hgood hfault hcount hu)⟩
  · intro b s
    refine ⟨fun hst hok => ⟨_, rfl, (buttonPress_asks hst).trans (askRemoval_granted hok), ?_⟩,
      fun hst hok => congrArg Host.Outcome.next ((buttonPress_asks hst).trans (askRemoval_refused hok)),
      fun hst hchain hheld hbus => congrArg Host.Outcome.next (buttonPress_restarts hst hchain hheld hbus)⟩
    rw [buttonPress_asks hst, askRemoval_granted hok]
    simp
  · intro b s hempty hpresent hclosed hup hchain hheld hbus
    have hbegins := insertion_begins hempty hpresent hclosed hup hchain hheld hbus
    refine ⟨_, rfl, hbegins, ?_, ?_⟩
    all_goals
      rw [hbegins]
      simp
  · rintro b m s u hst husable hfits hmate hpower rfl
    have htrains := discovered_trains hst husable hfits hmate hpower
    exact ⟨_, rfl, htrains, htrains ▸ trained_training ..⟩
  · intro b s hst hpower
    have hfaults := pmicOnTimeout_faults hst hpower
    refine ⟨_, rfl, hfaults, ?_, ?_⟩
    · rw [hfaults, State.raise_at_bay, bayFault_st]
    · rw [hfaults, raise_obj _ _ (by decide) (by unfold evKey; exact decide_eq_false (by omega)), bayFault_cause]
  · intro b s hst hpower
    have hfaults := pmicOffTimeout_faults hst hpower
    exact ⟨_, rfl, hfaults, hfaults ▸ bayFault_st 4⟩
  · exact fun b s => ⟨_, rfl, State.modBay_same .., fun k hk => State.modBay_ne _ _ _ _ hk, rfl, rfl, rfl⟩
  · exact fun b s => ⟨_, rfl, State.modBay_same .., fun k hk => State.modBay_ne _ _ _ _ hk, rfl, rfl, rfl⟩
  · rintro b m s u hmodule
    refine ⟨fun x => congrArg Host.Outcome.next (tempPoll_answered hmodule x),
      fun hpolls => congrArg Host.Outcome.next (tempPoll_missed hmodule hpolls), ?_⟩
    rintro hpolls rfl
    exact congrArg Host.Outcome.next (tempPoll_third hmodule hpolls)

end Sys2Proof.Machine

/-! PROOF. Power-on reset and the stages of a start (R441-R449). -/

namespace Sys2Proof.Machine

theorem inStage_of {s : State} {k : Nat} (hst : s.blk.st = .resetPhase) (hstage : s.blk.stage = k) : inStage s k = true := by
  simp only [inStage, hst, hstage, beq_self_eq_true, Bool.and_self]

/-! ### Power-on reset (R441) -/

/-- A reset of the logic empties the volatile stores. -/
theorem resetLogic_volatile (kind : Nat) (s : State) :
    (resetLogic kind s).ports = [] ∧ (resetLogic kind s).plaza = [] ∧ (resetLogic kind s).keys = Keys.reset := by
  unfold resetLogic
  simp only [State.setObj_ports, State.setObj_plaza, State.setObj_keys]
  exact ⟨rfl, rfl, rfl⟩

/-- The supervisor's rails start over with VAA's ramp. -/
theorem startAtS0_ramps (s : State) :
    (startAtS0 s).blk.st = .sequencing ∧ (startAtS0 s).blk.stage = 0 ∧ (startAtS0 s).sup.st = .rampVaa ∧ (startAtS0 s).sup.enVaa = true :=
  ⟨rfl, rfl, rfl, rfl⟩

theorem startAtS0_volatile (s : State) : (startAtS0 s).ports = [] ∧ (startAtS0 s).plaza = [] ∧ (startAtS0 s).keys = Keys.reset :=
  resetLogic_volatile 1 s

/-- What POWER_ON_RESET adds to the start: VDDC is good, and the straps are taken. -/
def coreGood (straps : Nat) (s : State) : State :=
  { (s.setSense 0 { inWindow := true, good := true }).setObj 0x7001 7 1 with blk := { s.blk with inst := straps } }

theorem powerOnReset_off (straps : Nat) {s : State} (hoff : s.blk.st = .off) : powerOnReset straps s = coreGood straps (startAtS0 s) := by
  have hdown : (s.blk.st != .off) = false := by simp [hoff]
  rw [powerOnReset, hdown]
  rfl

theorem coreGood_keeps (straps : Nat) (s : State) : Keeps 7767851007 s (coreGood straps s) := by
  unfold coreGood
  exact Keeps.upd_blk (Keeps.step (State.setObj_keeps ..) (by decide) (Keeps.step (State.setSense_keeps ..) (by decide) (Keeps.refl s))) (by decide)

theorem coreGood_sense (straps : Nat) (s : State) : ((coreGood straps s).sense 0).good = true := by
  rw [show (coreGood straps s).sense 0 = ((s.setSense 0 { inWindow := true, good := true }).setObj 0x7001 7 1).sense 0 from rfl,
    State.setObj_at_sense, State.setSense_same]

theorem coreGood_ramp (straps : Nat) (s : State) :
    (coreGood straps s).sup.st = s.sup.st ∧ (coreGood straps s).sup.enVaa = s.sup.enVaa := by
  unfold coreGood
  simp only [State.setObj_sup]
  exact ⟨rfl, rfl⟩

theorem coreGood_obj (straps : Nat) (s : State) : (coreGood straps s).obj 0x7001 7 = 1 :=
  (obj_of_objs _ ((s.setSense 0 { inWindow := true, good := true }).setObj 0x7001 7 1) _ _ rfl).trans (State.setObj_same ..)

/-! ### The stages S2, S3, S6 and S7 (R443-R449) -/

theorem mramRead_ends {s : State} (hst : s.blk.st = .resetPhase) (hstage : s.blk.stage = 2) :
    mramRead s = endStage 2 (readConfig (readCeilings (readTables (forN 4 (readFailureLog (readVault s)) (fun d t => readDistrict d t))))) :=
  if_neg (by simp [inStage_of hst hstage])

/-- Every bay reports what was found in it. -/
def baysReported (mods : List (Option ModuleInfo)) (s : State) : State := forN 32 s (fun b t => reportBay b (discoverBay mods b t))

/-- The channels are timed, the districts compared and the bays' content trusted or not. -/
def baysTrusted (late : List Nat) (s : State) : State :=
  forN 32 (forN 4 (forN 16 s (fun c t => if (timedModules t c).isEmpty then t else computeTiming c t)) (fun d t => compareDistrict d t))
    (fun b t => trustBay late b t)

/-- Every channel with a module starts its training. -/
def channelsTrain (quick : Bool) (s : State) : State :=
  forN 16 s (fun c t => if (t.moduleAt (2 * c)).isSome || (t.moduleAt (2 * c + 1)).isSome then startTraining c false quick t else t)

theorem discoveryDone_ends {mods : List (Option ModuleInfo)} {s v : State} (hst : s.blk.st = .resetPhase) (hstage : s.blk.stage = 3)
    (hv : v = baysTrusted ((List.range 32).filter (fun b => (s.bay b).st == .fault)) (baysReported mods s)) :
    discoveryDone mods s = endStage 3 (channelsTrain (v.obj 0x1200 0x21 == 2) v) := by
  rw [hv]
  exact if_neg (by simp [inStage_of hst hstage])

theorem metadataCheck_ends {s : State} (hst : s.blk.st = .recovery) (hstage : s.blk.stage = 6) :
    metadataCheck s = startMirror (forN 4 (endStage 6 (forN 4 (forN 4 s (fun d t => checkDistrict d t)) (fun d t => autoForm d t)))
      (fun d t => lostRanges d (planDistrict d t))) :=
  if_neg (by simp [hst, hstage])

/-- The mirror's start leaves the stage that METADATA_CHECK has entered. -/
theorem mirrorPlanned_blk (s : State) : (startMirror (forN 4 s (fun d t => lostRanges d (planDistrict d t)))).blk = s.blk := by
  rw [(startMirror_keeps _).blk (by decide)]
  exact forN_keeps (fun t => t.blk = s.blk) 4 _ s rfl
    (fun d t h => ((lostRanges_keeps ..).blk (by decide)).trans (((planDistrict_keeps ..).blk (by decide)).trans h))

theorem untrainedFenced_blk (s : State) : (forN 16 s (fun c t => fenceUntrained c t)).blk = s.blk :=
  forN_keeps (fun t => t.blk = s.blk) 16 _ s rfl (fun c t h => ((fenceUntrained_keeps ..).blk (by decide)).trans h)

/-- The start results that the end of stage S7 reports. -/
def mirrorResults (s : State) : State :=
  let s := if s.cad.st = .holdover then startResult 0 s else s
  let s := if (List.range 16).any (fun c => (s.chan c).st == .untrained || (s.chan c).st == .fenced) then startResult 1 s else s
  if (List.range 4).any (fun d => (s.dist d).st == .mismatch) then startResult 2 s else s

theorem mirrorResults_keeps (s : State) : Keeps 8053063679 s (mirrorResults s) := by
  unfold mirrorResults
  dsimp only
  have hcadence : Keeps 8053063679 s (if s.cad.st = .holdover then startResult 0 s else s) := Keeps.ite (startResult_keeps ..) (Keeps.refl s)
  generalize (if s.cad.st = .holdover then startResult 0 s else s) = t at hcadence ⊢
  have hchans : Keeps 8053063679 s
      (if (List.range 16).any (fun c => (t.chan c).st == .untrained || (t.chan c).st == .fenced) then startResult 1 t else t) :=
    Keeps.ite (Keeps.step (startResult_keeps ..) (by decide) hcadence) hcadence
  exact Keeps.ite (Keeps.step (startResult_keeps ..) (by decide) hchans) hchans

theorem mirrorResults_none {s : State} (hcadence : s.cad.st ≠ .holdover)
    (hchans : ∀ c < 16, (s.chan c).st ≠ .untrained ∧ (s.chan c).st ≠ .fenced) (hdists : ∀ d < 4, (s.dist d).st ≠ .mismatch) :
    mirrorResults s = s := by
  have huntrained : (List.range 16).any (fun c => (s.chan c).st == .untrained || (s.chan c).st == .fenced) = false :=
    List.any_eq_false.mpr fun c hc => by simp [hchans c (List.mem_range.mp hc)]
  have hmismatch : (List.range 4).any (fun d => (s.dist d).st == .mismatch) = false :=
    List.any_eq_false.mpr fun d hd => by simp [hdists d (List.mem_range.mp hd)]
  simp only [mirrorResults, hcadence, huntrained, hmismatch, if_false, Bool.false_eq_true]

theorem mirrorStartEnd_ends {s : State} (hst : s.blk.st = .recovery) (hstage : s.blk.stage = 7)
    (hconnected : ∀ d < 4, (s.dist d).mst ≠ .connecting) :
    mirrorStartEnd s = mirrorResults (forN 16 (endStage 7 s) (fun c t => fenceUntrained c t)) := by
  have hnone : (List.range 4).any (fun d => (s.dist d).mst == .connecting) = false :=
    List.any_eq_false.mpr fun d hd => by simp [hconnected d (List.mem_range.mp hd)]
  have hdef : mirrorStartEnd s = if s.blk.st != .recovery || s.blk.stage != 7 then s else
      mirrorResults (forN 16 (endStage 7 (if (List.range 4).any (fun d => (s.dist d).mst == .connecting) then startResult 8 s else s))
        (fun c t => fenceUntrained c t)) := rfl
  rw [hdef, if_neg (by simp [hst, hstage]), hnone]
  simp only [Bool.false_eq_true, if_false]

/-! ### The obligation -/

/-- Settles O59: power-on reset is `coreGood` of a start at S0; each stage's end by its own equation. -/
theorem startStages : Obligations.StartStages := by
  refine ⟨?_, ?_, ?_, ?_, ?_⟩
  · intro straps s hoff
    refine ⟨coreGood straps.toNat (startAtS0 s), congrArg Host.Outcome.next (powerOnReset_off straps.toNat hoff), ?_⟩
    have hk := coreGood_keeps straps.toNat (startAtS0 s)
    obtain ⟨hst, hstage, hramp, henable⟩ := startAtS0_ramps s
    obtain ⟨hports, hplaza, hkeys⟩ := startAtS0_volatile s
    obtain ⟨hsup, henVaa⟩ := coreGood_ramp straps.toNat (startAtS0 s)
    exact ⟨hst, hstage, rfl, hsup.trans hramp, henVaa.trans henable, coreGood_sense .., coreGood_obj ..,
      (hk.mram (by decide)).trans ((startAtS0_keeps s).mram (by decide)), (hk.dram (by decide)).trans ((startAtS0_keeps s).dram (by decide)),
      (hk.ports (by decide)).trans hports, (hk.plaza (by decide)).trans hplaza, (hk.keys (by decide)).trans hkeys⟩
  · rintro s u hst hstage rfl
    have hends := mramRead_ends hst hstage
    exact ⟨_, rfl, hends, by rw [hends, endStage_stage]⟩
  · rintro mods s u v hst hstage rfl hv
    have hends := discoveryDone_ends hst hstage hv
    exact ⟨_, rfl, by rw [hends, endStage_stage], hends⟩
  · rintro s u hst hstage rfl
    have hends := metadataCheck_ends hst hstage
    exact ⟨endStage_stage .., _, rfl, hends, by rw [hends, mirrorPlanned_blk, endStage_stage]⟩
  · intro s u hst hstage hconnected hu
    have hends := mirrorStartEnd_ends hst hstage hconnected
    rw [← hu] at hends
    refine ⟨_, rfl, ?_, fun hcadence hchans hdists => hends.trans (mirrorResults_none hcadence hchans hdists)⟩
    rw [hends, (mirrorResults_keeps _).blk (by decide), hu, untrainedFenced_blk, endStage_stage]

end Sys2Proof.Machine

/-! PROOF. Squall (R350-R353, R366): the drain's end, the root commit, self-refresh, thaw, and the reports of saves and restores. -/

namespace Sys2Proof.Machine

/-! ### The end of the drain (R350) -/

/-- Whichever way the words of the commit are made up, the commit is under way. -/
theorem beginCommit_squall (s : State) : (beginCommit s).sup.squall = .committing := by
  unfold beginCommit
  dsimp only
  split
  · rfl
  · rfl

theorem drainComplete_commits {s : State} (hst : s.sup.squall = .draining) (hcommitted : (drainStep s).sup.committed = [])
    (hwrites : writesUnderway (drainStep s) = false) (hlocks : (drainStep s).chans.all (fun e => e.2.lock.isNone) = true) :
    drainComplete s = beginCommit (drainStep s) := by
  have hdraining : (s.sup.squall != .draining) = false := by simp [hst]
  have hunlocked : (drainStep s).chans.any (fun e => e.2.lock.isSome) = false :=
    List.any_eq_false.mpr fun e he => by simpa using List.all_eq_true.mp hlocks e he
  rw [drainComplete, hdraining]
  dsimp only
  rw [hcommitted, hwrites, hunlocked]
  rfl

/-- The last word of the commit is written. -/
def wordsWritten (s : State) : State :=
  { s with mram := writeWords s.sup.words s.mram, sup := { s.sup with squall := .selfRefresh, words := [] } }

theorem commitComplete_parks {s : State} (hst : s.sup.squall = .committing) :
    commitComplete s = parkChannels .selfRefresh ((wordsWritten s).raise 0x1E6) :=
  if_neg (by simp [hst])

/-! ### After self-refresh (R350, R352) -/

/-- SNS_VIN is seen in its window. -/
def vinSeen (s : State) : State := (s.setSense 4 { (s.sense 4) with inWindow := true }).setObj 0x7005 7 1

theorem vinSeen_squall (s : State) : (vinSeen s).sup.squall = s.sup.squall := by
  rw [vinSeen, State.setObj_sup]
  rfl

section
variable {vinIn : Bool} {s : State} (hst : s.sup.squall = .selfRefresh)
include hst

theorem selfRefreshDone_restarts (hcause : s.obj 0x7010 2 = 4) :
    selfRefreshDone vinIn s = resetDue { s with sup := { s.sup with parked := true } } := by
  simp [selfRefreshDone, hst, hcause]

theorem selfRefreshDone_holds (hcause : s.obj 0x7010 2 = 1) (hvin : vinIn = true) :
    selfRefreshDone vinIn s = { vinSeen s with sup := { (vinSeen s).sup with squall := .holding } }.raise 0x1E7 := by
  simp [selfRefreshDone, hst, hcause, hvin, vinSeen]

theorem selfRefreshDone_saves (hreset : s.obj 0x7010 2 ≠ 4) (hhold : ¬ (s.obj 0x7010 2 = 1 ∧ vinIn = true)) :
    selfRefreshDone vinIn s = beginSaving s := by
  simp [selfRefreshDone, hst, hreset, hhold]

end

/-! ### Thaw (R352, R353) -/

/-- Thawing has begun. -/
def Thawing (s : State) : Prop := s.sup.squall = .thawing ∧ s.blk.st = .thawing

/-- A trained channel leaves its power state. -/
def channelWakes (c : Nat) (s : State) : State :=
  if trained s c && (s.chan c).st != .fenced then
    adjustNow c (s.modChan c (fun ch => if ch.pstate == .active then ch else { ch with exiting := some none }))
  else s

theorem channelWakes_thawing (c : Nat) (s : State) (h : Thawing s) : Thawing (channelWakes c s) := by
  obtain ⟨hsquall, hst⟩ := h
  unfold channelWakes
  split
  · exact ⟨by rw [(adjustNow_keeps ..).sup (by decide), (State.modChan_keeps ..).sup (by decide), hsquall],
      by rw [(adjustNow_keeps ..).blk (by decide), (State.modChan_keeps ..).blk (by decide), hst]⟩
  · exact ⟨hsquall, hst⟩

theorem beginThaw_thawing (s : State) : Thawing (beginThaw s) :=
  have hbegin : beginThaw s = forN 16
    { clearStale s with sup := { (clearStale s).sup with squall := .thawing }, blk := { (clearStale s).blk with st := .thawing } }
    channelWakes := rfl
  hbegin ▸ forN_keeps Thawing 16 channelWakes _ ⟨rfl, rfl⟩ channelWakes_thawing

theorem thawQualify_thaws {s : State} (hst : s.sup.squall = .holding) :
    thawQualify s = beginThaw { vinSeen s with sup := { (vinSeen s).sup with returned := true } } :=
  if_pos ((vinSeen_squall s).trans hst)

/-- Thaw is complete: nothing of the drain remains, and admission reopens. -/
def thawed (s : State) : State :=
  { s with sup := { s.sup with squall := .idle, unlimited := false, committed := [], planned := [], left := [], leftMeta := [],
                               touched := [], drained := [] },
           blk := { s.blk with st := .running, admission := true }, vault := { s.vault with marker := true } }

theorem thawComplete_ready {s : State} (hst : s.sup.squall = .thawing)
    (hready : ∀ c < 16, trained s c = true → (s.chan c).st = .fenced ∨ (s.chan c).pstate = .active) :
    thawComplete s = writeVault (thawed s) := by
  have hall : (List.range 16).all (fun c => !trained s c || (s.chan c).st == .fenced || (s.chan c).pstate == .active) = true := by
    refine List.all_eq_true.mpr fun c hc => ?_
    cases htrained : trained s c with
    | false => rfl
    | true => simpa using hready c (List.mem_range.mp hc) htrained
  exact if_pos (by rw [hst, hall]; rfl)

theorem writeVault_marker (s : State) : (writeVault s).vault.marker = s.vault.marker := rfl

/-! ### Reports of saves (R352, R366) -/

theorem saveComplete_sequencing {bays : Nat} {s : State} (hst : s.sup.squall = .sequencing) :
    saveComplete bays s = ((List.range 32).filter (fun b => bit (s.obj 0x7020 2) b && bit bays b)).foldl
      (fun t b => (setSaveFlag b 2 true t).setObjBit (0x7100 + b) 8 0 true) s := by
  have hkeeps : (((List.range 32).filter (fun b => bit (s.obj 0x7020 2) b && bit bays b)).foldl
      (fun t b => (setSaveFlag b 2 true t).setObjBit (0x7100 + b) 8 0 true) s).sup = s.sup :=
    foldl_keeps (fun t => t.sup = s.sup) _ _ s rfl (fun t b _ h =>
      ((State.setObjBit_keeps ..).sup (by decide)).trans (((setSaveFlag_keeps ..).sup (by decide)).trans h))
  unfold saveComplete
  simp only [hst, hkeeps]
  rfl

theorem saveTimeout_ends {s : State} (hst : s.sup.squall = .awaitSave) :
    saveTimeout s = saveEnds (((List.range 32).filter (fun b => bit (s.obj 0x7020 2) b && !saveFlag s b 2)).foldl
      (fun t b => (setSaveFlag b 4 true t).raise 0x1F9) s) :=
  if_neg (by simp [hst])

theorem saveEnds_restarts (s : State) : (saveEnds s).blk.st = .sequencing ∧ (saveEnds s).blk.stage = 0 ∧ (saveEnds s).sup.st = .rampVaa ∧
    (saveEnds s).sup.enVaa = true ∧ (saveEnds s).sup.squall = .idle :=
  ⟨rfl, rfl, rfl, rfl, rfl⟩

/-! ### Reports of restores (R365, R366) -/

section
variable {b status : Nat} {m : ModuleInfo} {s : State} (hmodule : s.moduleAt b = some m) (hbacked : m.energyBacked = true)

/-- The bay's save flag says that it is armed, and its module's SaveStatus loses the bits that arming clears. -/
def bayRearmed (b : Nat) (s : State) : State :=
  setSaveFlag b 3 true (s.modBay b (fun y => { y with module := y.module.map (fun m => { m with saveStatus := m.saveStatus &&& 0xFA }) }))

/-- The bay has reported its restore. -/
def bayReported (b : Nat) (s : State) : State :=
  { s with sup := { s.sup with restored := b :: s.sup.restored.filter (fun x => x != b) } }

theorem bayRearmed_module (b : Nat) (s : State) : ((bayRearmed b s).bay b).module =
    (s.bay b).module.map (fun m => { m with saveStatus := m.saveStatus &&& 0xFA }) := by
  rw [show (bayRearmed b s).bay b = (s.modBay b (fun y => { y with
    module := y.module.map (fun m => { m with saveStatus := m.saveStatus &&& 0xFA }) })).bay b from rfl, State.modBay_same]

theorem bayReported_obj (b : Nat) (s : State) (i k : Nat) : (bayReported b (bayRearmed b s)).obj i k = s.obj i k := obj_of_objs _ _ _ _ rfl

include hmodule hbacked

theorem restoreComplete_failed (hfailed : bit status 4 = true) :
    restoreComplete b status s = setNeeds b true (bayFault b 7 (s.setObj (0x7100 + b) 8 status)) := by
  simp [restoreComplete, hmodule, hbacked, hfailed, restoreFailed]

theorem restoreComplete_reported (hfailed : bit status 4 = false) (hcomplete : bit status 1 = true) (hready : bit status 3 = true) :
    restoreComplete b status s = bayReported b (bayRearmed b (s.setObj (0x7100 + b) 8 status)) := by
  simp only [restoreComplete, hmodule, hbacked, hfailed, hcomplete, hready, bayReported, bayRearmed, Bool.not_true, Bool.false_eq_true, if_false,
    Bool.and_self, if_true]

theorem restoreComplete_pending (hfailed : bit status 4 = false) (hpending : ¬ (bit status 1 = true ∧ bit status 3 = true)) :
    restoreComplete b status s = s.setObj (0x7100 + b) 8 status := by
  have hnot : (bit status 1 && bit status 3) = false := by simpa using hpending
  simp only [restoreComplete, hmodule, hbacked, hfailed, hnot, Bool.not_true, Bool.false_eq_true, if_false]

end

theorem restoreTimeout_faults {b : Nat} {s : State} (hst : s.blk.st = .resetPhase) (hstage : s.blk.stage = 3)
    (hreported : s.sup.restored.contains b = false) : restoreTimeout b s = (setNeeds b true (bayFault b 7 s)).raise 0x1FA :=
  if_pos (by rw [hst, hstage, hreported]; rfl)

/-! ### The obligation -/

/-- Settles O57: row by row. -/
theorem squallRuns : Obligations.SquallRuns := by
  refine ⟨?_, ?_, ?_, ?_, ?_, ?_, ?_, ?_, ?_⟩
  · intro s hst hcommitted hwrites hlocks
    have hcommits := drainComplete_commits hst hcommitted hwrites hlocks
    exact ⟨_, rfl, hcommits, by rw [hcommits, beginCommit_squall]⟩
  · rintro s u hst rfl
    have hparks := commitComplete_parks hst
    exact ⟨_, rfl, hparks, by rw [hparks, (parkChannels_keeps ..).sup (by decide), State.raise_sup]; rfl⟩
  · rintro vinIn s u hst rfl
    exact ⟨fun hcause => congrArg Host.Outcome.next (selfRefreshDone_restarts hst hcause),
      fun hcause hvin => congrArg Host.Outcome.next (selfRefreshDone_holds hst hcause hvin),
      fun hreset hhold => congrArg Host.Outcome.next (selfRefreshDone_saves hst hreset hhold), rfl⟩
  · rintro s u rfl hst
    have hthaws := thawQualify_thaws hst
    exact ⟨_, rfl, hthaws, hthaws ▸ beginThaw_thawing _⟩
  · intro s hst hready
    refine ⟨writeVault (thawed s), congrArg Host.Outcome.next (thawComplete_ready hst hready), ?_⟩
    rw [writeVault_marker, (writeVault_keeps _).sup (by decide), (writeVault_keeps _).blk (by decide)]
    exact ⟨rfl, rfl, rfl, rfl⟩
  · exact fun bays s hst => congrArg Host.Outcome.next (saveComplete_sequencing hst)
  · intro s hst
    have hends := saveTimeout_ends hst
    refine ⟨_, congrArg Host.Outcome.next hends, ?_⟩
    obtain ⟨hblk, hstage, hsup, henable, hsquall⟩ := saveEnds_restarts (((List.range 32).filter (fun b => bit (s.obj 0x7020 2) b && !saveFlag s b 2)).foldl
      (fun t b => (setSaveFlag b 4 true t).raise 0x1F9) s)
    exact ⟨hblk, hstage, hsup, henable, hsquall, rfl⟩
  · rintro b status m s u hmodule hbacked rfl
    refine ⟨fun hfailed => congrArg Host.Outcome.next (restoreComplete_failed hmodule hbacked hfailed), fun hfailed hcomplete hready => ?_,
      fun hfailed hpending => congrArg Host.Outcome.next (restoreComplete_pending hmodule hbacked hfailed hpending)⟩
    refine ⟨_, congrArg Host.Outcome.next (restoreComplete_reported hmodule hbacked hfailed hcomplete hready), List.mem_cons_self, ?_, ?_⟩
    · rw [bayReported_obj, State.setObj_same]
    · rw [show ((bayReported b (bayRearmed b (s.setObj (0x7100 + b) 8 status.toNat))).bay b).module =
        ((bayRearmed b (s.setObj (0x7100 + b) 8 status.toNat)).bay b).module from rfl, bayRearmed_module, State.setObj_at_bay, ← State.moduleAt, hmodule]
      rfl
  · intro b s hst hstage hreported
    have hfaults := restoreTimeout_faults hst hstage hreported
    refine ⟨_, rfl, hfaults, ?_⟩
    rw [hfaults, State.raise_at_bay, State.bay, (setNeeds_keeps ..).bays (by decide), ← State.bay, bayFault_st]

end Sys2Proof.Machine

/-! PROOF. The sequencing of the supplies (R334-R337, R343, R348). -/

namespace Sys2Proof.Machine

/-! ### What leaves the state of the supplies alone -/

/-- The sequencing of the rails stands where it stood, and its first excursion is logged or not as before. -/
def SameSequencing (s t : State) : Prop := t.sup.st = s.sup.st ∧ t.sup.firstLogged = s.sup.firstLogged

theorem SameSequencing.trans {s t u : State} (h : SameSequencing s t) (h' : SameSequencing t u) : SameSequencing s u :=
  ⟨h'.1.trans h.1, h'.2.trans h.2⟩

theorem logFailure_st (kind input cause : Nat) (s : State) : (logFailure kind input cause s).sup.st = s.sup.st := by
  unfold logFailure
  split
  · rfl
  · rfl

theorem leaveCommitted_sequencing (s : State) : SameSequencing s (leaveCommitted s) :=
  foldl_keeps (SameSequencing s) _ _ _ ⟨rfl, rfl⟩ (fun _ _ _ h => h.trans ⟨rfl, rfl⟩)

theorem vddpCutoff_sequencing (s : State) : SameSequencing s (vddpCutoff s) := by
  unfold vddpCutoff
  dsimp only
  split
  · exact SameSequencing.trans ⟨rfl, rfl⟩ (leaveCommitted_sequencing _)
  · exact ⟨rfl, rfl⟩

/-! ### Recorded readings (R334, R335) -/

section
variable (i mv : Nat) (isIn good : Bool) (s : State)

theorem recordSense_sense : (recordSense i mv isIn good s).sense i = ⟨isIn, good⟩ := by
  rw [recordSense, State.setObj_at_sense, State.setObj_at_sense, State.setSense_same]

theorem recordSense_sequencing : SameSequencing s (recordSense i mv isIn good s) := by
  unfold SameSequencing recordSense
  simp only [State.setObj_sup]
  exact ⟨rfl, rfl⟩

theorem recordSense_window : (recordSense i mv isIn good s).obj (0x7001 + i) 7 = if isIn then 1 else 0 := State.setObj_same ..

theorem recordSense_reading : (recordSense i mv isIn good s).obj (0x7001 + i) 6 = min mv 65535 := by
  rw [recordSense, setObj_ne2 _ _ _ _ _ _ (by decide) (by decide) (.inr (by decide)), State.setObj_same]

/-- No other object changes. -/
theorem recordSense_obj_ne {k : Nat} (j : Nat) (hk : k < 256) (hreading : k ≠ 6) (hwindow : k ≠ 7) :
    (recordSense i mv isIn good s).obj j k = s.obj j k := by
  rw [recordSense, setObj_ne2 _ _ _ _ _ _ (by decide) hk (.inr hwindow), setObj_ne2 _ _ _ _ _ _ (by decide) hk (.inr hreading)]
  exact obj_of_objs _ _ _ _ rfl

end

/-! ### Excursions (R334, R337) -/

/-- An excursion of input i is recorded and counted. -/
def excursionCounted (i mv : Nat) (s : State) : State := (recordSense i mv false false s).addObj (0x7001 + i) 9 1

/-- SNS_VIN's return is forgotten, and the excursion raised. -/
def excursionRaised (i : Nat) (u : State) : State :=
  (if i = 4 then { u with sup := { u.sup with returned := false } } else u).raise (if i = 5 then 0x1EB else 0x1E0)

/-- VDDP below 400 mV cuts VDDQ off. -/
def excursionCut (i mv : Nat) (w : State) : State := if i = 2 ∧ mv < 400 then vddpCutoff w else w

section
variable (i mv : Nat) (s : State)

theorem excursionCounted_sense : (excursionCounted i mv s).sense i = ⟨false, false⟩ := by
  rw [excursionCounted, State.addObj_at_sense, recordSense_sense]

theorem excursionCounted_reading : (excursionCounted i mv s).obj (0x7001 + i) 6 = min mv 65535 := by
  rw [excursionCounted, State.addObj, setObj_ne2 _ _ _ _ _ _ (by decide) (by decide) (.inr (by decide)), recordSense_reading]

theorem excursionCounted_window : (excursionCounted i mv s).obj (0x7001 + i) 7 = 0 := by
  rw [excursionCounted, State.addObj, setObj_ne2 _ _ _ _ _ _ (by decide) (by decide) (.inr (by decide)), recordSense_window]
  rfl

theorem excursionCounted_count :
    (excursionCounted i mv s).obj (0x7001 + i) 9 = min (s.obj (0x7001 + i) 9 + 1) (objMax (0x7001 + i) 9) := by
  rw [excursionCounted, State.addObj_same, recordSense_obj_ne _ _ _ _ _ _ (by decide) (by decide) (by decide)]

/-- Neither the count nor the raise touches the thresholds. -/
theorem excursionRaised_threshold : (excursionRaised i (excursionCounted i mv s)).obj 0x7001 1 = s.obj 0x7001 1 := by
  have hcounted : (excursionCounted i mv s).obj 0x7001 1 = s.obj 0x7001 1 := by
    rw [excursionCounted, State.addObj, setObj_ne2 _ _ _ _ _ _ (by decide) (by decide) (.inr (by decide)),
      recordSense_obj_ne _ _ _ _ _ _ (by decide) (by decide) (by decide)]
  rw [excursionRaised, raise_obj _ _ (by decide) (by decide), ← hcounted]
  split
  · exact obj_of_objs _ _ _ _ rfl
  · rfl

theorem excursionRaised_sequencing : SameSequencing s (excursionRaised i (excursionCounted i mv s)) := by
  have hcounted : SameSequencing s (excursionCounted i mv s) := by
    refine (recordSense_sequencing i mv false false s).trans ?_
    unfold SameSequencing
    rw [excursionCounted, State.addObj_sup]
    exact ⟨rfl, rfl⟩
  refine hcounted.trans ?_
  unfold SameSequencing
  rw [excursionRaised, State.raise_sup]
  split
  · exact ⟨rfl, rfl⟩
  · exact ⟨rfl, rfl⟩

theorem excursionCut_sequencing (w : State) : SameSequencing w (excursionCut i mv w) := by
  unfold excursionCut
  split
  · exact vddpCutoff_sequencing w
  · exact ⟨rfl, rfl⟩

/-- An excursion with the supplies good, above VDDC's collapse, and not the first. -/
theorem senseExcursion_good (hst : s.sup.st = .good) (hlogged : s.sup.firstLogged = true) (hcore : i = 0 → 5 * s.obj 0x7001 1 ≤ mv) :
    senseExcursion i mv s = goodExcursion i (excursionCut i mv (excursionRaised i (excursionCounted i mv s))) := by
  obtain ⟨hstCut, hloggedCut⟩ := (excursionRaised_sequencing i mv s).trans (excursionCut_sequencing i mv _)
  have hcollapse : ¬ (i = 0 && decide (mv < 5 * (excursionRaised i (excursionCounted i mv s)).obj 0x7001 1)) = true := by
    rw [excursionRaised_threshold]
    simpa using hcore
  have hdef : senseExcursion i mv s =
      if i = 0 && decide (mv < 5 * (excursionRaised i (excursionCounted i mv s)).obj 0x7001 1) then
        collapse (excursionRaised i (excursionCounted i mv s))
      else
        let v := if i = 2 && decide (mv < 400) then vddpCutoff (excursionRaised i (excursionCounted i mv s))
          else excursionRaised i (excursionCounted i mv s)
        let v := if v.sup.firstLogged then v else logFailure 1 i 0 { v with sup := { v.sup with firstLogged := true } }
        if v.sup.st = .good then goodExcursion i v else chatter i v := rfl
  have hcut : (if i = 2 && decide (mv < 400) then vddpCutoff (excursionRaised i (excursionCounted i mv s))
      else excursionRaised i (excursionCounted i mv s)) = excursionCut i mv (excursionRaised i (excursionCounted i mv s)) := by
    simp only [excursionCut, Bool.and_eq_true, decide_eq_true_eq]
  rw [hdef, if_neg hcollapse, hcut]
  simp only [hstCut, hloggedCut, hst, hlogged, if_true]

end

/-! ### Qualified rails (R335, R336) -/

/-- The last rail is good: power-up ends. -/
def suppliesGood (s : State) : State := { s with sup := { s.sup with st := .good } }

/-- The block's reset phase begins at S1. -/
def resetPhaseBegins (s : State) : State := { endStage 0 s with blk := { (endStage 0 s).blk with st := .resetPhase } }

theorem resetPhaseBegins_sup (s : State) : (resetPhaseBegins s).sup = s.sup := (endStage_keeps 0 s).sup (by decide)

section
variable {s : State}

theorem railGood_vaa (hst : s.sup.st = .rampVaa) : railGood 1 s = { s with sup := { s.sup with st := .rampVddp, enVddp := true } } := by
  simp [railGood, hst]

theorem railGood_vddp (hst : s.sup.st = .rampVddp) : railGood 2 s = { s with sup := { s.sup with st := .rampVddq, enVddq := true } } := by
  simp [railGood, hst]

theorem railGood_vddq (hst : s.sup.st = .rampVddq) :
    railGood 3 s = if s.blk.st = .sequencing then resetPhaseBegins (suppliesGood s) else suppliesGood s := by
  simp [railGood, hst, suppliesGood, resetPhaseBegins]

/-- The qualified input reads as good and in its window. -/
theorem recordSense_qualified (i mv : Nat) (s : State) :
    ((recordSense i mv true true s).sense i).good = true ∧ (recordSense i mv true true s).obj (0x7001 + i) 7 = 1 :=
  ⟨by rw [recordSense_sense], by rw [recordSense_window]; rfl⟩

theorem senseQualified_in {i mv : Nat} (hin : inWindow s i mv = true) : senseQualified i mv s = railGood i (recordSense i mv true true s) :=
  if_pos hin

/-! ### Timeouts and discharges (R336) -/

theorem rampTimeout_aborts {i : Nat}
    (hramp : (s.sup.st = .rampVaa ∧ i = 1) ∨ (s.sup.st = .rampVddp ∧ i = 2) ∨ (s.sup.st = .rampVddq ∧ i = 3)) :
    rampTimeout s = abortRails i s := by
  rcases hramp with ⟨hst, rfl⟩ | ⟨hst, rfl⟩ | ⟨hst, rfl⟩ <;> simp only [rampTimeout, hst]

theorem dropNext_st (u : Sup) : (dropNext u).st = u.st := by
  unfold dropNext
  split
  · rfl
  · split <;> rfl

theorem sequencingEnds_waits (h : s.sup.st ≠ .down ∧ s.sup.st ≠ .incomplete) : sequencingEnds s = s :=
  if_neg (by simp [h])

theorem railDischarged_vddq (hst : s.sup.st = .downVddq) :
    railDischarged 2 s = { s with sup := { s.sup with st := .downVddp, enVddp := false } } := by
  have hawaits : awaitsDischarge s.sup 2 = true := by simp [awaitsDischarge, hst]
  have hnext : nextRail s.sup 2 = { s.sup with st := .downVddp, enVddp := false } := by simp [nextRail, hst]
  rw [railDischarged, if_pos hawaits, hnext]
  exact sequencingEnds_waits ⟨by simp, by simp⟩

theorem railDischarged_vddp (hst : s.sup.st = .downVddp) :
    railDischarged 1 s = { s with sup := { s.sup with st := .downVaa, enVaa := false } } := by
  have hawaits : awaitsDischarge s.sup 1 = true := by simp [awaitsDischarge, hst]
  have hnext : nextRail s.sup 1 = { s.sup with st := .downVaa, enVaa := false } := by simp [nextRail, hst]
  rw [railDischarged, if_pos hawaits, hnext]
  exact sequencingEnds_waits ⟨by simp, by simp⟩

section
variable (hst : s.sup.st = .downVaa)
include hst

theorem railDischarged_vaa : railDischarged 0 s = sequencingEnds { s with sup := { s.sup with st := .down } } := by
  have hawaits : awaitsDischarge s.sup 0 = true := by simp [awaitsDischarge, hst]
  have hnext : nextRail s.sup 0 = { s.sup with st := .down } := by simp [nextRail, hst]
  rw [railDischarged, if_pos hawaits, hnext]

theorem railDischarged_down (hsquall : s.sup.squall ≠ .sequencing) : railDischarged 0 s = { s with sup := { s.sup with st := .down } } := by
  rw [railDischarged_vaa hst]
  exact if_neg (by simp [hsquall])

theorem railDischarged_off (hsquall : s.sup.squall = .sequencing) (hreturned : s.sup.returned = false) : railDischarged 0 s =
    { s with sup := { s.sup with st := .down, squall := .idle }, blk := { s.blk with st := .off, admission := false } } := by
  rw [railDischarged_vaa hst]
  simp [sequencingEnds, hsquall, hreturned]

end

/-- A rail that is late is logged and raised. -/
def railStuck (rail : Nat) (s : State) : State := ((logFailure 3 (rail + 1) 0 s).setObjBit 0x7000 5 (rail + 1) true).raise 0x1E2

theorem railStuck_st (rail : Nat) (s : State) : (railStuck rail s).sup.st = s.sup.st := by
  rw [railStuck, State.raise_sup, State.setObjBit_sup, logFailure_st]

theorem railStuck_bit (rail : Nat) (s : State) : bit ((railStuck rail s).obj 0x7000 5) (rail + 1) = true := by
  rw [railStuck, raise_obj _ _ (by decide) (by decide), State.setObjBit_same, bit_setBit]

/-- The shutdown goes on after a late VAA or VDDP. -/
theorem dischargeTimeout_goesOn {rail : Nat} (hst : (s.sup.st = .downVddp ∧ rail = 1) ∨ (s.sup.st = .downVaa ∧ rail = 0)) :
    dischargeTimeout rail s = sequencingEnds { railStuck rail s with sup := nextRail (railStuck rail s).sup rail } := by
  rcases hst with ⟨hst, rfl⟩ | ⟨hst, rfl⟩ <;> simp [dischargeTimeout, awaitsDischarge, hst, railStuck]

/-- A late VDDQ holds it. -/
theorem dischargeTimeout_holds (hst : s.sup.st = .downVddq) :
    dischargeTimeout 2 s = sequencingEnds { railStuck 2 s with sup := { (railStuck 2 s).sup with st := .incomplete } } := by
  have hawaits : (awaitsDischarge s.sup 2 && s.sup.st != .incomplete) = true := by simp [awaitsDischarge, hst]
  rw [dischargeTimeout, if_pos hawaits]
  dsimp only
  rw [if_pos rfl]
  exact congrArg sequencingEnds (if_pos ((railStuck_st 2 s).trans hst))

/-! ### Collapse and the hold's hard stop (R343, R348) -/

theorem assertSave_false_words (s : State) : (assertSave false s).mram = s.mram ∧ (assertSave false s).sup.words = s.sup.words := by
  unfold assertSave
  simp only [Bool.false_eq_true, if_false, State.setObj_mram, State.setObj_sup, and_self]

theorem collapse_words (s : State) :
    (collapse s).mram = writeWords (s.sup.words.take (Config.freeNat s.freeCtr % (s.sup.words.length + 1))) s.mram := by
  obtain ⟨hmram, hwords⟩ := assertSave_false_words s
  rw [show (collapse s).mram = writeWords ((assertSave false s).sup.words.take (Config.freeNat s.freeCtr % (s.sup.words.length + 1)))
    (assertSave false s).mram from rfl, hmram, hwords]

section
variable {mv : Nat} (hlow : mv ≤ s.obj 0x7010 0x0A) (hreserve : s.obj 0x7010 4 ≠ 0)
include hlow hreserve

/-- SNS_HOLD is recorded, and the limits of the reserve are as before. -/
theorem holdStop_low : holdStop mv s =
    if s.sup.squall = .draining && !s.sup.unlimited then
      planDrain { s.setObj 0x7006 6 mv with sup := { (s.setObj 0x7006 6 mv).sup with hardStop := true } }
    else if s.sup.squall = .holding then beginSaving (s.setObj 0x7006 6 mv) else s.setObj 0x7006 6 mv := by
  have hobj : ∀ k, k < 256 → (s.setObj 0x7006 6 mv).obj 0x7010 k = s.obj 0x7010 k := fun k hk =>
    setObj_ne2 _ _ _ _ _ _ (by decide) hk (.inl (by decide))
  have hstop : (decide (mv ≤ s.obj 0x7010 0x0A) && s.obj 0x7010 4 != 0) = true := by simp [hlow, hreserve]
  have hdef : holdStop mv s = if decide (mv ≤ (s.setObj 0x7006 6 mv).obj 0x7010 0x0A) && (s.setObj 0x7006 6 mv).obj 0x7010 4 != 0 then
      (if (s.setObj 0x7006 6 mv).sup.squall = .draining && !(s.setObj 0x7006 6 mv).sup.unlimited then
        planDrain { s.setObj 0x7006 6 mv with sup := { (s.setObj 0x7006 6 mv).sup with hardStop := true } }
      else if (s.setObj 0x7006 6 mv).sup.squall = .holding then beginSaving (s.setObj 0x7006 6 mv) else s.setObj 0x7006 6 mv)
    else s.setObj 0x7006 6 mv := rfl
  rw [hdef, hobj _ (by decide), hobj _ (by decide), if_pos hstop, State.setObj_sup]

theorem holdStop_replans (hsquall : s.sup.squall = .draining) (hlimited : s.sup.unlimited = false) :
    holdStop mv s = planDrain { s.setObj 0x7006 6 mv with sup := { (s.setObj 0x7006 6 mv).sup with hardStop := true } } := by
  rw [holdStop_low hlow hreserve, if_pos (by simp [hsquall, hlimited])]

theorem holdStop_saves (hsquall : s.sup.squall = .holding) : holdStop mv s = beginSaving (s.setObj 0x7006 6 mv) := by
  rw [holdStop_low hlow hreserve, if_neg (by simp [hsquall]), if_pos hsquall]

end

end

/-! ### The obligation -/

/-- Settles O56: row by row. -/
theorem suppliesSequence : Obligations.SuppliesSequence := by
  refine ⟨?_, ?_, ?_, ?_, ?_, ?_, ?_, ?_⟩
  · rintro i mv s u hst hlogged hcore hu
    have hcounted : u = excursionCounted i mv s := hu
    refine ⟨⟨_, excursionRaised i u, rfl, rfl, ?_⟩, ?_⟩
    · rw [senseExcursion_good i mv s hst hlogged (fun h => hcore (Fin.ext h)), ← hcounted]
      rfl
    · rw [hcounted, excursionCounted_sense]
      exact ⟨rfl, rfl, excursionCounted_reading .., excursionCounted_window .., excursionCounted_count ..⟩
  · intro mv s
    have hramp : ∀ i, (recordSense i mv true true s).sup.st = s.sup.st := fun i => (recordSense_sequencing i mv true true s).1
    have hblk : ∀ i, (recordSense i mv true true s).blk = s.blk := fun i => (recordSense_keeps ..).blk (by decide)
    refine ⟨fun hin hst => ?_, fun hin hst => ?_, fun hin hst hblkSt => ?_, fun hin hst hblkSt => ?_⟩
    · obtain ⟨hgood, hwindow⟩ := recordSense_qualified 1 mv s
      exact ⟨_, congrArg Host.Outcome.next ((senseQualified_in hin).trans (railGood_vaa ((hramp 1).trans hst))), hgood, hwindow, rfl, rfl⟩
    · obtain ⟨hgood, hwindow⟩ := recordSense_qualified 2 mv s
      exact ⟨_, congrArg Host.Outcome.next ((senseQualified_in hin).trans (railGood_vddp ((hramp 2).trans hst))), hgood, hwindow, rfl, rfl⟩
    · obtain ⟨hgood, hwindow⟩ := recordSense_qualified 3 mv s
      have hends := (railGood_vddq ((hramp 3).trans hst)).trans (if_neg (by rwa [hblk]))
      exact ⟨_, congrArg Host.Outcome.next ((senseQualified_in hin).trans hends), hgood, hwindow, rfl⟩
    · have hends := (railGood_vddq ((hramp 3).trans hst)).trans (if_pos (by rwa [hblk]))
      exact ⟨_, congrArg Host.Outcome.next ((senseQualified_in hin).trans hends), by rw [resetPhaseBegins_sup]; rfl, rfl, rfl⟩
  · intro s i hramp
    exact ⟨_, _, rfl, rfl, rampTimeout_aborts hramp, by rw [rampTimeout_aborts hramp]; exact dropNext_st _⟩
  · exact fun s => ⟨fun hst => congrArg Host.Outcome.next (railDischarged_vddq hst), fun hst => congrArg Host.Outcome.next (railDischarged_vddp hst),
      fun hst hsquall => congrArg Host.Outcome.next (railDischarged_down hst hsquall),
      fun hst hsquall hreturned => congrArg Host.Outcome.next (railDischarged_off hst hsquall hreturned)⟩
  · intro s u rail hu
    have hstuck : u = railStuck rail s := hu
    refine ⟨?_, ?_, ?_, hstuck ▸ railStuck_bit rail s⟩
    · rintro hst rfl
      exact congrArg Host.Outcome.next (hstuck ▸ dischargeTimeout_goesOn (.inl ⟨hst, rfl⟩))
    · rintro hst rfl
      exact congrArg Host.Outcome.next (hstuck ▸ dischargeTimeout_goesOn (.inr ⟨hst, rfl⟩))
    · rintro hst rfl
      exact congrArg Host.Outcome.next (hstuck ▸ dischargeTimeout_holds hst)
  · rintro s u rfl
    exact ⟨fun hsquall => congrArg Host.Outcome.next (if_neg hsquall), fun hsquall => congrArg Host.Outcome.next (if_pos hsquall)⟩
  · exact fun s => ⟨_, rfl, rfl, rfl, rfl, rfl, rfl, rfl, rfl, collapse_words s⟩
  · rintro mv s u rfl hlow hreserve
    exact ⟨fun hsquall hlimited => congrArg Host.Outcome.next (holdStop_replans hlow hreserve hsquall hlimited),
      fun hsquall => congrArg Host.Outcome.next (holdStop_saves hlow hreserve hsquall)⟩

end Sys2Proof.Machine

/-! PROOF. Training (R303-R312): hardware sweeps, the fallback to rank 0, completion, the firmware's timeout, and the end of a
helper operation. -/

namespace Sys2Proof.Machine

/-! ### Hardware sweeps (R306, R308) -/

/-- Channel c is in training by the hardware sweep, from its start, with no verdict yet. -/
def SweepsFresh (c : Nat) (s : State) : Prop :=
  (s.chan c).st = .training ∧ (s.chan c).quick = false ∧ s.obj (calIdx c) 1 = 2 ∧ (s.chan c).verified = none ∧ (s.chan c).fromFrozen = false

section
variable {c : Nat} {r : SweepResult} {s : State} (hfresh : SweepsFresh c s)

section
include hfresh

theorem hardwareSweep_single (hrank : multiRank s c = false) : hardwareSweep c r s =
    sweepResult c (s.obj (timIdx c) 1) 0 r ((s.setObj (timIdx c) 0x20 (min 5000 r.gaps.1)).setObj (timIdx c) 0x21 (min 5000 r.gaps.2)) := by
  obtain ⟨hst, hquick, hstate, hverified, hfrozen⟩ := hfresh
  simp only [hardwareSweep, hst, hquick, hstate, hverified, hfrozen, hrank, bne_self_eq_false, Option.isSome_none, Bool.or_self,
    Bool.not_false, Bool.not_true, Bool.false_eq_true, if_false]

/-- The state that the fallback sweeps from: its gaps written, and its cause raised. -/
def fallbackBegun (c : Nat) (s : State) : State := calCause c 1 ((s.setObj (timIdx c) 0x20 5000).setObj (timIdx c) 0x21 5000)

theorem rank0Fallback_multi (hrank : multiRank s c = true) : rank0Fallback c r s =
    if ((sweepResult c (fallbackRate (fallbackBegun c s) c) 2 r (fallbackBegun c s)).chan c).verified = some true then
      storeTrained c (copyTrained c (sweepResult c (fallbackRate (fallbackBegun c s) c) 2 r (fallbackBegun c s)))
    else sweepResult c (fallbackRate (fallbackBegun c s) c) 2 r (fallbackBegun c s) := by
  obtain ⟨hst, hquick, hstate, hverified, hfrozen⟩ := hfresh
  simp only [rank0Fallback, hst, hquick, hstate, hverified, hfrozen, hrank, bne_self_eq_false, Option.isSome_none, Bool.or_self,
    Bool.not_true, Bool.false_eq_true, if_false]
  rfl

end

theorem sweepFails_verified (step : Nat) : ((sweepFails c step s).chan c).verified = some false := by
  rw [sweepFails, State.modChan_same]

/-- A step that failed is named, with TrainingResult 3. -/
theorem sweepFails_result {step : Nat} (hstep : step ≠ 0) :
    (sweepFails c step s).obj (calIdx c) 4 = 3 ∧ (sweepFails c step s).obj (calIdx c) 5 = step := by
  have hobj : ∀ k, (sweepFails c step s).obj (calIdx c) k = ((s.setObj (calIdx c) 4 3).setObj (calIdx c) 5 step).obj (calIdx c) k := by
    intro k
    rw [sweepFails, if_neg hstep]
    exact obj_of_objs _ _ _ _ rfl
  refine ⟨(hobj 4).trans ?_, (hobj 5).trans (State.setObj_same ..)⟩
  rw [setObj_ne2 _ _ _ _ _ _ (by decide) (by decide) (.inr (by decide)), State.setObj_same]

/-- A failed step past the first decides the sweep. -/
theorem sweepResult_failed {rate kind : Nat} (hstep : 2 ≤ r.failStep) :
    sweepResult c rate kind r s = sweepFails c r.failStep { s with freeCtr := s.freeCtr + 64 } := by
  have hfirst : ¬ r.failStep = 1 := by omega
  have hfailed : (r.failStep != 0) = true := by simp; omega
  simp only [sweepResult, hfirst, hfailed, if_true, if_false]

/-! ### The end of training (R303, R310) -/

section
variable {verified : Bool} (hst : (s.chan c).st = .training)
include hst

theorem trainingComplete_quick (hquick : (s.chan c).quick = true) : trainingComplete c verified s = quickStart c verified s := by
  simp only [trainingComplete, hst, hquick, bne_self_eq_false, Bool.false_eq_true, if_true, if_false]

section
variable (hquick : (s.chan c).quick = false)
include hquick

theorem trainingComplete_failed (hverified : (s.chan c).verified = some false) : trainingComplete c verified s = trainingFailed c s := by
  simp only [trainingComplete, hst, hquick, hverified, bne_self_eq_false, Bool.false_eq_true, if_false]

theorem trainingComplete_starts (hverified : (s.chan c).verified = some true) (hfrozen : (s.chan c).fromFrozen = false) :
    trainingComplete c verified s = trainedChannel c false s := by
  simp only [trainingComplete, hst, hquick, hverified, hfrozen, bne_self_eq_false, Bool.false_eq_true, if_false]

theorem trainingComplete_thaws (hverified : (s.chan c).verified = some true) (hfrozen : (s.chan c).fromFrozen = true) :
    trainingComplete c verified s = thawChannel c ((claimPaths c (applyNow c s)).setObj (calIdx c) 1 3) := by
  simp only [trainingComplete, hst, hquick, hverified, hfrozen, bne_self_eq_false, Bool.false_eq_true, if_true, if_false]

end

section
variable (hfirmware : s.obj (calIdx c) 1 = 1) (hverified : (s.chan c).verified = none)
include hfirmware hverified

theorem firmwareTimeout_hardware (hfrozen : (s.chan c).fromFrozen = false) : firmwareTimeout c s = stopHelper c (s.setObj (calIdx c) 1 2) := by
  simp [firmwareTimeout, hst, hfirmware, hverified, hfrozen]

theorem firmwareTimeout_fails (hfrozen : (s.chan c).fromFrozen = true) :
    firmwareTimeout c s = s.setChan c { s.chan c with verified := some false } := by
  simp [firmwareTimeout, hst, hfirmware, hverified, hfrozen]

end

end

end

/-! ### The end of a helper operation (R312) -/

theorem closeBank_helper (c key t : Nat) (s : State) : ((closeBank c key t s).chan c).helper = (s.chan c).helper := by
  unfold closeBank
  dsimp only
  split
  · rfl
  · rw [noteCmd, State.modChan_same, State.setChan_same]
    rfl

theorem closeAll_helper (c : Nat) (s : State) : ((closeAll c s).chan c).helper = (s.chan c).helper := by
  refine foldl_keeps (fun t : State => (t.chan c).helper = (s.chan c).helper) _ _ s rfl (fun t b _ h => ?_)
  split
  · exact (closeBank_helper ..).trans h
  · exact h

/-- What the operation leaves before its result is written: its results, its swept trim restored, its rows closed, its claims released. -/
def helperEnded (c op : Nat) (r : HelperResult) (s : State) : State :=
  let s := if helperAllowed s c op && r.responded then helperResults c op r s else s
  let s := match sweptTrim s c op with
    | some t => restoreSwept c t s
    | none => s
  helperRelease op (closeAll c (s.modChan c (fun ch => { ch with helper := none })))

theorem helperEnded_helper (c op : Nat) (r : HelperResult) (s : State) : ((helperEnded c op r s).chan c).helper = none := by
  unfold helperEnded
  dsimp only
  rw [State.chan, (helperRelease_keeps ..).chans (by decide), ← State.chan, closeAll_helper, State.modChan_same]

theorem helperDone_ends {c op : Nat} {r : HelperResult} {s : State} (hop : (s.chan c).helper = some op) : helperDone c r s =
    (helperEnded c op r s).setObj (0xA000 + c) 2 (if !helperAllowed s c op then 3 else if r.responded then 2 else 5) := by
  unfold helperDone
  rw [hop]
  rfl

/-! ### The obligation -/

/-- Settles O53: row by row. -/
theorem trainingRuns : Obligations.TrainingRuns := by
  refine ⟨?_, ?_, ?_, ?_, ?_⟩
  · intro c r s u hst hquick hstate hverified hfrozen hrank hu
    have hsweep := hardwareSweep_single (r := r) ⟨hst, hquick, hstate, hverified, hfrozen⟩ hrank
    rw [← hu] at hsweep
    refine ⟨⟨_, rfl, hsweep⟩, fun hstep => ⟨_, congrArg Host.Outcome.next (hsweep.trans (sweepResult_failed hstep)), ?_⟩⟩
    exact ⟨sweepFails_verified _, sweepFails_result (by omega)⟩
  · exact fun c verified s hst => ⟨fun hquick => congrArg Host.Outcome.next (trainingComplete_quick hst hquick),
      fun hquick hverified => congrArg Host.Outcome.next (trainingComplete_failed hst hquick hverified),
      fun hquick hverified hfrozen => congrArg Host.Outcome.next (trainingComplete_starts hst hquick hverified hfrozen),
      fun hquick hverified hfrozen => congrArg Host.Outcome.next (trainingComplete_thaws hst hquick hverified hfrozen)⟩
  · intro c r s u hst hquick hstate hverified hfrozen hrank hu
    have hfallback := rank0Fallback_multi (r := r) ⟨hst, hquick, hstate, hverified, hfrozen⟩ hrank
    rw [fallbackBegun, ← hu] at hfallback
    exact ⟨fun hpassed => ⟨_, rfl, hfallback.trans (if_pos hpassed)⟩,
      fun hfailed => congrArg Host.Outcome.next (hfallback.trans (if_neg hfailed))⟩
  · exact fun c s hst hfirmware hverified => ⟨fun hfrozen => ⟨_, rfl, firmwareTimeout_hardware hst hfirmware hverified hfrozen⟩,
      fun hfrozen => ⟨_, rfl, firmwareTimeout_fails hst hfirmware hverified hfrozen⟩⟩
  · intro c r op s hop
    refine ⟨_, congrArg Host.Outcome.next (helperDone_ends hop), ?_, State.setObj_same ..⟩
    rw [State.setObj_at_chan, helperEnded_helper]

end Sys2Proof.Machine

/-! PROOF. Live calibration (R316-R322): cross scans, swaps, baselines and the end of a measurement run. -/

namespace Sys2Proof.Machine

theorem lane_setLane_same (ch : Chan) (l : Nat) (v : Lane) : (ch.setLane l v).lane l = v := tget_tput_same ..

/-! ### Cross scans (R316) -/

/-- Loading a spare path does not unmark a lane. -/
theorem loadLane_scanned (c l : Nat) (bs : List (Nat × Byte)) (s : State) :
    (((loadLane c l bs s).chan c).lane l).scanned = ((s.chan c).lane l).scanned := by
  rw [loadLane, State.modChan_same]
  dsimp only
  rw [lane_setLane_same]

/-- A scan marks its lane. -/
def laneScanned (c l : Nat) (s : State) : State := s.modChan c (fun ch => ch.setLane l { (ch.lane l) with scanned := true })

theorem laneScanned_scanned (c l : Nat) (s : State) : (((laneScanned c l s).chan c).lane l).scanned = true := by
  rw [laneScanned, State.modChan_same, lane_setLane_same]

/-- What the scan then loads and raises leaves the mark. -/
theorem scanActs_scanned {c l : Nat} {s : State} (big clamped small : Bool) (new : List (Nat × Byte))
    (hscanned : ((s.chan c).lane l).scanned = true) :
    let t := if big then loadLane c l new s else s
    let u := if clamped then calCause c 4 t else t
    (((if small then calCause c 3 u else u).chan c).lane l).scanned = true := by
  have hcause : ∀ (b : Bool) (k : Nat) (t : State), (if b then calCause c k t else t).chan c = t.chan c := by
    intro b k t
    cases b with
    | false => rfl
    | true => exact chan_congr ((calCause_keeps c k t).chans (by decide)) c
  dsimp only
  rw [hcause, hcause]
  cases big with
  | false => exact hscanned
  | true => exact (loadLane_scanned ..).trans hscanned

theorem crossScan_marks {c l : Nat} {x : LaneScan} {s : State} (hlive : calLive s c = true) (hheld : laneHeld s c l = true)
    (hactive : (s.chan c).pstate = .active) (hedges : x.edges.length = 8) (hstrobe : x.strobe.length = 2) :
    (((crossScan c l x s).chan c).lane l).scanned = true := by
  rw [crossScan, hlive, hheld, hactive, hedges, hstrobe, if_neg (by decide)]
  exact scanActs_scanned _ _ _ _ (laneScanned_scanned ..)

/-! ### Swaps (R318, R319) -/

theorem calSwap_swaps {c : Nat} {s : State} (hlive : calLive s c = true) (hslot : isSwapSlot s c = true)
    (hready : (List.range 10).any (fun l => !((s.chan c).lane l).loaded.isEmpty && laneHeld s c l) = true)
    (hlock : (s.chan c).lock = none) (halert : (s.chan c).subs.any (fun e => e.2.alert.isSome) = false)
    (hrefresh : s.inRefresh c (s.refreshDoubled c) s.slotNow = false) :
    calSwap c s = swapAll c ((s.setChan c { s.chan c with deferrals := 0 }).addObj (calIdx c) 0x13 1) := by
  simp only [calSwap, hlive, hslot, hready, hlock, halert, hrefresh, Option.isSome_none, Bool.or_self, Bool.not_true, Bool.false_eq_true,
    if_false]

/-- The records that trims leave depend on the records alone. -/
theorem setTrims_recs (c : Nat) (bs : List (Nat × Byte)) {s t : State} (h : s.recs = t.recs) :
    (setTrims c bs s).recs = (setTrims c bs t).recs := by
  unfold setTrims
  induction bs generalizing s t with
  | nil => exact h
  | cons e bs ih => exact ih (by simp only [State.setRec, h])

/-- The lane changes its path, with nothing loaded in the spare one. -/
def lanePathSwapped (x : Lane) : Lane := { x with pathB := !x.pathB, loaded := [] }

theorem swapLane_loaded {c l : Nat} {s : State} (hloaded : ((s.chan c).lane l).loaded.isEmpty = false) :
    swapLane c l s = setTrims c ((s.chan c).lane l).loaded (s.modChan c (fun ch => ch.setLane l (lanePathSwapped ((s.chan c).lane l)))) :=
  if_neg (by simp [hloaded])

theorem swapLane_lane {c l : Nat} {s : State} (hloaded : ((s.chan c).lane l).loaded.isEmpty = false) :
    ((swapLane c l s).chan c).lane l = lanePathSwapped ((s.chan c).lane l) := by
  rw [swapLane_loaded hloaded, chan_congr ((setTrims_keeps ..).chans (by decide)) c, State.modChan_same, lane_setLane_same]

/-! ### Baselines (R321) -/

theorem tempAdjust_moves {c : Nat} {s : State} (hlive : calLive s c = true) (hmoved : 4 ≤ (calTemp s c - (s.chan c).applied).natAbs) :
    tempAdjust c s = applyBaseline c (calTemp s c) s := by
  simp only [tempAdjust, hlive, hmoved, decide_true, Bool.true_or, Bool.and_self, if_true]

theorem applyBaseline_applied (c : Nat) (t : Int) (s : State) : ((applyBaseline c t s).chan c).applied = t := by
  unfold applyBaseline
  dsimp only
  rw [State.modChan_same]

/-! ### The end of a measurement run (R322) -/

/-- A run's points are stored under its mask, and its temperature is the last run's. -/
def runStored (c mask : Nat) (temp : Int) (points : List Byte) (s : State) : State :=
  writeTrims c mask points ((s.tickFree.setObj (calIdx c) 0x0A (ofSigned 16 temp)).modChan c (fun h => { h with run := none }))

theorem runStored_run (c mask : Nat) (temp : Int) (points : List Byte) (s : State) : ((runStored c mask temp points s).chan c).run = none := by
  rw [runStored, chan_congr ((writeTrims_keeps ..).chans (by decide)) c, State.modChan_same]

theorem runStored_temp (c mask : Nat) (temp : Int) (points : List Byte) (s : State) :
    (runStored c mask temp points s).obj (calIdx c) 0x0A = ofSigned 16 temp := by
  rw [runStored, obj_of_objs _ _ _ _ ((writeTrims_keeps ..).objs (by decide)), obj_of_objs _ _ _ _ ((State.modChan_keeps ..).objs (by decide)),
    State.setObj_same]

theorem runStored_freeCtr (c mask : Nat) (temp : Int) (points : List Byte) (s : State) :
    (runStored c mask temp points s).freeCtr = s.freeCtr + 1 := by
  rw [runStored, (writeTrims_keeps ..).freeCtr (by decide), (State.modChan_keeps ..).freeCtr (by decide), State.setObj_freeCtr]
  rfl

theorem runEnd_stores {c : Nat} {r : CalRun} {s : State} (hrun : (s.chan c).run = some r) (hlive : calLive s c = true) (honce : r.again = false)
    (hscanned : ((List.range 10).filter (laneHeld s c)).all
      (fun l => ((s.chan c).lane l).scanned && ((s.chan c).lane l).loaded.isEmpty) = true) :
    ∃ mask points, runEnd c s = runStored c mask r.temp points s := by
  unfold runEnd
  simp only [hrun, hlive, hscanned, honce, Bool.not_true, Bool.or_self, Bool.false_eq_true, if_false]
  exact ⟨_, _, rfl⟩

/-! ### The obligation -/

/-- Settles O54: row by row. -/
theorem calibrationRuns : Obligations.CalibrationRuns := by
  refine ⟨?_, ?_, ?_, ?_, ?_⟩
  · exact fun c lane x s hlive hheld hactive hedges hstrobe => ⟨_, rfl, crossScan_marks hlive hheld hactive hedges hstrobe⟩
  · exact fun c s hlive hslot hready hlock halert hrefresh =>
      ⟨_, _, rfl, rfl, calSwap_swaps hlive hslot hready hlock halert hrefresh⟩
  · intro c l s hloaded
    rw [swapLane_lane hloaded, swapLane_loaded hloaded]
    exact ⟨rfl, rfl, setTrims_recs _ _ rfl⟩
  · intro c s hlive hmoved
    have hmoves := tempAdjust_moves hlive hmoved
    exact ⟨_, rfl, hmoves, by rw [hmoves, applyBaseline_applied]⟩
  · intro c r s hrun hlive honce hscanned
    obtain ⟨mask, points, hstores⟩ := runEnd_stores hrun hlive honce hscanned
    exact ⟨_, congrArg Host.Outcome.next hstores, runStored_run .., runStored_temp .., runStored_freeCtr ..⟩

end Sys2Proof.Machine

/-! PROOF. The write side of live calibration (R323, R324), the reference calibration (R300) and the eye scans (R325). -/

namespace Sys2Proof.Machine

/-! ### Write tracking (R323) -/

section
variable (c rs runtime : Nat)

/-- What a channel holds of device k of rank slot rs: the base of its oscillator and its drift. -/
def tracked (k : Nat) (s : State) : Option Nat × Int := (tfind (s.chan c).osc (20 * rs + k), tget (s.chan c).drift (20 * rs + k) 0)

/-- A step of write tracking for device j leaves the rate, and what is held of the others. -/
def TracksOnly (j : Nat) (s t : State) : Prop := t.rate c = s.rate c ∧ ∀ k, k ≠ j → tracked c rs k t = tracked c rs k s

theorem trackOne_first {e : Nat × Nat} {s : State} (hdevice : e.2 < 20) (hfirst : tfind (s.chan c).osc (20 * rs + e.2) = none) :
    trackOne c rs runtime s e = s.setChan c { s.chan c with osc := tins (s.chan c).osc (20 * rs + e.2) e.1 } := by
  simp only [trackOne, if_neg (Nat.not_le.mpr hdevice), hfirst]

/-- The drift that count n gives a device of base b. -/
def driftOf (n b : Nat) (s : State) : Int :=
  if n = 0 || b = 0 then toSigned 8 (Config.freeNat s.freeCtr)
  else roundAway ((runtime : Int) * ((b : Int) - n) * (128 * s.rate c)) (2 * n * b * 10 ^ 6)

/-- The drift is taken up: its change waits under lane 10. -/
def driftTaken (key : Nat) (total : Int) (bs : List (Nat × Byte)) (s : State) : State :=
  (loadLane c 10 bs s).modChan c (fun h => { h with drift := tput h.drift key total 0 })

theorem trackOne_later {e : Nat × Nat} {s : State} {b : Nat} (hdevice : e.2 < 20) (hbase : tfind (s.chan c).osc (20 * rs + e.2) = some b) :
    ∃ bs t, (t = s ∨ t = s.tickFree) ∧ trackOne c rs runtime s e = driftTaken c (20 * rs + e.2) (driftOf c runtime e.1 b s) bs t := by
  simp only [trackOne, if_neg (Nat.not_le.mpr hdevice), hbase]
  by_cases hzero : (e.1 = 0 || b = 0) = true
  · rw [if_pos hzero]
    exact ⟨_, s.tickFree, .inr rfl, rfl⟩
  · rw [if_neg hzero]
    exact ⟨_, s, .inl rfl, rfl⟩

theorem driftTaken_rate (key : Nat) (total : Int) (bs : List (Nat × Byte)) (s : State) : (driftTaken c key total bs s).rate c = s.rate c :=
  obj_of_objs _ _ _ _ rfl

theorem driftTaken_chan (key : Nat) (total : Int) (bs : List (Nat × Byte)) (s : State) :
    ((driftTaken c key total bs s).chan c).osc = (s.chan c).osc ∧
      ((driftTaken c key total bs s).chan c).drift = tput (s.chan c).drift key total 0 := by
  rw [driftTaken, State.modChan_same, loadLane, State.modChan_same]
  exact ⟨rfl, rfl⟩

theorem trackOne_only (e : Nat × Nat) (s : State) : TracksOnly c rs e.2 s (trackOne c rs runtime s e) := by
  by_cases hdevice : e.2 < 20
  · cases hbase : tfind (s.chan c).osc (20 * rs + e.2) with
    | none =>
      rw [trackOne_first c rs runtime hdevice hbase]
      refine ⟨rfl, fun k hk => ?_⟩
      simp only [tracked, State.setChan_same]
      rw [tfind_tins_ne _ _ _ _ (by omega)]
    | some b =>
      obtain ⟨bs, t, ht, hlater⟩ := trackOne_later c rs runtime hdevice hbase
      have hsame : t.rate c = s.rate c ∧ t.chan c = s.chan c := by rcases ht with rfl | rfl <;> exact ⟨rfl, rfl⟩
      obtain ⟨hrate, hchan⟩ := hsame
      rw [hlater]
      refine ⟨(driftTaken_rate ..).trans hrate, fun k hk => ?_⟩
      obtain ⟨hosc, hdrift⟩ := driftTaken_chan c (20 * rs + e.2) (driftOf c runtime e.1 b s) bs t
      rw [tracked, hosc, hdrift, tget_tput_ne _ _ _ _ _ _ (by omega), hchan]
      rfl
  · rw [trackOne, if_pos (Nat.not_lt.mp hdevice)]
    exact ⟨rfl, fun _ _ => rfl⟩

/-- What device k's own count does. -/
theorem trackOne_own {k n : Nat} {s : State} (hk : k < 20) :
    (∀ _ : tfind (s.chan c).osc (20 * rs + k) = none, tracked c rs k (trackOne c rs runtime s (n, k)) = (some n, (tracked c rs k s).2)) ∧
      ∀ b, tfind (s.chan c).osc (20 * rs + k) = some b → tracked c rs k (trackOne c rs runtime s (n, k)) = (some b, driftOf c runtime n b s) := by
  refine ⟨fun hfirst => ?_, fun b hbase => ?_⟩
  · rw [trackOne_first c rs runtime (e := (n, k)) hk hfirst]
    simp only [tracked, State.setChan_same, tfind_tins_same]
  · obtain ⟨bs, t, ht, hlater⟩ := trackOne_later c rs runtime (e := (n, k)) hk hbase
    have hchan : t.chan c = s.chan c := by rcases ht with rfl | rfl <;> rfl
    obtain ⟨hosc, hdrift⟩ := driftTaken_chan c (20 * rs + k) (driftOf c runtime n b s) bs t
    rw [hlater, tracked, hosc, hdrift, hchan, hbase, tget_tput_same]

/-- Counts of devices other than k leave what is held of it. -/
theorem trackAll_other {k : Nat} (es : List (Nat × Nat)) (s : State) (hes : ∀ e ∈ es, e.2 ≠ k) :
    (es.foldl (trackOne c rs runtime) s).rate c = s.rate c ∧ tracked c rs k (es.foldl (trackOne c rs runtime) s) = tracked c rs k s :=
  foldl_keeps (fun t : State => t.rate c = s.rate c ∧ tracked c rs k t = tracked c rs k s) _ es s ⟨rfl, rfl⟩ (fun t e he h => by
    obtain ⟨hrate, hothers⟩ := trackOne_only c rs runtime e t
    exact ⟨hrate.trans h.1, (hothers k (hes e he).symm).trans h.2⟩)

/-- So among all counts, device k's own decides. -/
theorem trackAll_tracked {counts : List Nat} {k n : Nat} (s : State) (hcount : counts[k]? = some n) :
    ∃ t, t.rate c = s.rate c ∧ tracked c rs k t = tracked c rs k s ∧
      tracked c rs k (counts.zipIdx.foldl (trackOne c rs runtime) s) = tracked c rs k (trackOne c rs runtime t (n, k)) := by
  obtain ⟨hk, hn⟩ := List.getElem?_eq_some_iff.mp hcount
  have hsplit : counts.zipIdx = (counts.take k).zipIdx ++ (n, k) :: (counts.drop (k + 1)).zipIdx (k + 1) := by
    conv_lhs => rw [← List.take_append_drop k counts, List.drop_eq_getElem_cons hk, hn]
    rw [List.zipIdx_append, List.zipIdx_cons, List.length_take, Nat.min_eq_left hk.le, Nat.zero_add]
  have hbefore : ∀ e ∈ (counts.take k).zipIdx, e.2 ≠ k := fun e he => by
    have := List.snd_lt_of_mem_zipIdx he
    simp only [List.length_take] at this
    omega
  have hafter : ∀ e ∈ (counts.drop (k + 1)).zipIdx (k + 1), e.2 ≠ k := fun e he => by
    have := List.le_snd_of_mem_zipIdx he
    omega
  obtain ⟨hrate, hsame⟩ := trackAll_other c rs runtime (counts.take k).zipIdx s hbefore
  refine ⟨_, hrate, hsame, ?_⟩
  rw [hsplit, List.foldl_append, List.foldl_cons]
  exact (trackAll_other c rs runtime _ _ hafter).2

end

theorem writeTrack_chan {c rs runtime : Nat} {counts : List Nat} {s : State} (hlive : calLive s c = true)
    (hslot : (rankSlots s c).contains rs = true) : (writeTrack c rs runtime counts s).chan c = (counts.zipIdx.foldl (trackOne c rs runtime) s).chan c := by
  rw [writeTrack, hlive, hslot, if_neg (by decide)]
  dsimp only
  split
  · exact chan_congr ((calCause_keeps ..).chans (by decide)) c
  · rfl

/-- A count that has a quotient gives the drift of R323. -/
theorem driftOf_quotient {c runtime n b : Nat} {s : State} (hn : n ≠ 0) (hb : b ≠ 0) : driftOf c runtime n b s =
    roundAway ((runtime : Int) * ((b : Int) - n) * (128 * s.rate c)) (2 * n * b * 10 ^ 6) :=
  if_neg (by simp [hn, hb])

/-! ### Retrains (R324) -/

/-- The write delays move to the centres found, 20 for each rank slot in turn. -/
def delaysCentred (c : Nat) (centres : List Int) (s : State) : State :=
  ((rankSlots s c).zipIdx).foldl (fun t r => forN 20 t (fun k u =>
    setTrims c (trimLoad (commonOff (k / 10) + 0xF8 + 10 * r.1 + k % 10) .s8
      (trimAtOff u c (commonOff (k / 10) + 0xF8 + 10 * r.1 + k % 10) .s8 + centres.getD (20 * r.2 + k) 0)) u)) s

/-- Bases and drift are forgotten, and the retrain counted. -/
def retrainCounted (c : Nat) (s : State) : State := (newBase c s).addObj (calIdx c) 0x18 1

theorem retrainCounted_base (c : Nat) (s : State) : ((retrainCounted c s).chan c).osc = [] ∧ ((retrainCounted c s).chan c).drift = [] := by
  rw [retrainCounted, State.addObj_at_chan, newBase, State.modChan_same]
  exact ⟨rfl, rfl⟩

section
variable {c : Nat} {centres : List Int} {s : State} (hlive : calLive s c = true) (hfree : s.obj 0x2F00 (0x10 + c) = 0)
include hlive hfree

theorem writeRetrain_deferred (hfits : sweepReady (s.setObj 0x2F00 (0x10 + c) 4) c 3 16 = false) :
    writeRetrain c centres s = releaseOwn (0x10 + c) 4 (deferBurst c 3 16 (s.setObj 0x2F00 (0x10 + c) 4)) := by
  simp only [writeRetrain, hlive, claim_free hfree, hfits, Bool.not_true, Bool.not_false, Bool.false_eq_true, if_true, if_false]

theorem writeRetrain_retrains {n : Nat} {w u v : State} (hw : w = s.setObj 0x2F00 (0x10 + c) 4) (hn : n = retrainLines * (rankSlots w c).length)
    (hfits : sweepReady w c 3 16 = true) (hu : u = applyPending c (noteBurst c 3 n n w)) (hv : v = retrainCounted c (delaysCentred c centres u)) :
    writeRetrain c centres s =
      releaseOwn (0x10 + c) 4 (endCtx c 3 (writeTrims c (ldNat v.mram (trimAt c + 0x10) 1) (storedPoints v c) v)) := by
  simp only [writeRetrain, hlive, claim_free hfree, ← hw, hfits, ← hn, ← hu, Bool.not_true, Bool.false_eq_true, if_false]
  rw [hv]
  rfl

end

/-! ### Reference calibration (R300) -/

/-- One impedance code moves toward its target; the flag says that one would have left its range. -/
def refStep (c : Nat) (targets : List Int) (k : Nat) (x : State × Bool) : State × Bool :=
  let o := commonOff (k / 4) + k % 4
  let v := trimAtOff x.1 c o .u8
  let w := targets.getD k v
  let n := if v < w then v + 1 else if w < v then v - 1 else v
  if n < 0 || 63 < n then (x.1, true) else (setTrims c (trimLoad o .u8 n) x.1, x.2)

theorem refCalibrate_live {c : Nat} {targets : List Int} {s : State} (hlive : calLive s c = true) : refCalibrate c targets s =
    if (forN 8 (s, false) (refStep c targets)).2 then calCause c 6 (forN 8 (s, false) (refStep c targets)).1
    else (forN 8 (s, false) (refStep c targets)).1 := by
  rw [refCalibrate, hlive]
  rfl

/-! ### Eye scans (R325) -/

theorem eyeScanDone_held {c l : Nat} {map : List Byte} {s : State} (hheld : s.obj 0x2F00 (laneSub c l) = 9) (hlive : s.obj (calIdx c) 1 = 3) :
    eyeScanDone c l map s = (s.setRec (calIdx c) 0x24 0 (fit 3977 map)).setObj 0x2F00 (laneSub c l) 8 := by
  have hstate : (s.setRec (calIdx c) 0x24 0 (fit 3977 map)).obj (calIdx c) 1 = 3 := hlive
  simp only [eyeScanDone, hheld, hstate, bne_self_eq_false, Bool.false_eq_true, if_true, if_false]

/-! ### The obligation -/

/-- Settles O55: row by row; the tracked counts by `trackAll_tracked`. -/
theorem writeSideCalibration : Obligations.WriteSideCalibration := by
  refine ⟨?_, ?_, ?_, ?_⟩
  · intro c rs runtime counts s hlive hslot
    refine ⟨_, rfl, fun k n hk hcount => ?_⟩
    obtain ⟨t, hrate, hsame, hown⟩ := trackAll_tracked c rs runtime s hcount
    obtain ⟨hosc, hdrift⟩ := Prod.mk.inj hsame
    obtain ⟨hfirst, hlater⟩ := trackOne_own c rs runtime (n := n) (s := t) hk
    rw [writeTrack_chan hlive hslot]
    refine ⟨fun hnone => ?_, fun b hbase => ?_⟩
    · exact Prod.mk.inj (hown.trans ((hfirst (hosc.trans hnone)).trans (congrArg (Prod.mk (some n)) hdrift)))
    · obtain ⟨hkept, htaken⟩ := Prod.mk.inj (hown.trans (hlater b (hosc.trans hbase)))
      exact ⟨hkept, fun hn hb => by rw [htaken, driftOf_quotient hn hb, hrate]⟩
  · intro c centres s w u v n hlive hfree hw hn
    refine ⟨fun hfits => ?_, fun hfits hu hv => ?_⟩
    · rw [hw] at hfits ⊢
      exact congrArg Host.Outcome.next (writeRetrain_deferred hlive hfree hfits)
    · have hcounted : v = retrainCounted c (delaysCentred c centres u) := hv
      obtain ⟨hosc, hdrift⟩ := retrainCounted_base c (delaysCentred c centres u)
      exact ⟨_, rfl, writeRetrain_retrains hlive hfree hw hn hfits hu hcounted, hcounted ▸ hosc, hcounted ▸ hdrift⟩
  · intro c targets s r hlive hr
    have hcalibrates := refCalibrate_live (targets := targets) hlive
    rw [show forN 8 (s, false) (refStep c targets) = r from hr.symm] at hcalibrates
    exact ⟨fun hin => congrArg Host.Outcome.next (hcalibrates.trans (if_neg (by simp [hin]))),
      fun hout => congrArg Host.Outcome.next (hcalibrates.trans (if_pos hout))⟩
  · intro c lane map s hheld hlive
    refine ⟨_, congrArg Host.Outcome.next (eyeScanDone_held hheld hlive), State.setObj_same .., ?_⟩
    rw [State.setObj_recs]

end Sys2Proof.Machine
